-- ==== Sys2Proof/Word.lean ====
section
/-! DEFINITION. The machine's words: the widths the manual numbers as bits (R7), and the plainest
arithmetic on them (rounding half to even and saturation of R12 are in Machine/Arith.lean, which a
repair may mend). -/
namespace Sys2Proof

/-- A byte of a command slot, a payload or a flash device (R8: little-endian). -/
abbrev Byte := BitVec 8

/-- A 32-bit register word (R667). -/
abbrev Word := BitVec 32

/-- Bits [hi:lo] of a word, as a number (R7). -/
def Word.bits (w : Word) (hi lo : Nat) : Nat := (w.toNat / 2 ^ lo) % 2 ^ (hi + 1 - lo)

/-- Bit k of a word. -/
def Word.bit (w : Word) (k : Nat) : Bool := w.toNat.testBit k

/-- The word with bits [hi:lo] replaced by `v` (taken modulo the field's width). -/
def Word.withBits (w : Word) (hi lo v : Nat) : Word :=
  let m := 2 ^ (hi + 1 - lo)
  BitVec.ofNat 32 ((w.toNat / 2 ^ (hi + 1)) * 2 ^ (hi + 1) + (v % m) * 2 ^ lo + w.toNat % 2 ^ lo)

end Sys2Proof
end

