-- ==== Sys2Proof/Syntax.lean ====
section
/-! DEFINITION. The commands of the ML8192 block: one constructor per row of spec/opcode_table.json,
with the operands the row's rule gives it. Identifiers are `Fin`, fields of cells and registers are
bit vectors, times are chassis-time ticks (R13) and analogue values are integers. -/
namespace Sys2Proof

/-- The register windows of R666: BAR2 (the global map), the window of a VI, the AF's window. -/
inductive Win where
  | bar2
  | vi (v : Fin 256)
  | af
  deriving DecidableEq, Repr

/-- A mailbox: VI 0 to 255, or the AF as 256 (the numbering of BUDGET_SET). -/
abbrev Mb := Fin 257

/-- A Fliral link: slot port n, service lane n, or the partner link. -/
inductive LinkId where
  | port (n : Fin 64)
  | svc (n : Fin 64)
  | partner
  deriving DecidableEq, Repr

/-- What the header of an upstream cell carries beside its type, epoch, stitch and tag (R156): the pair position that the
sender recognises as owner, whether the sender's receive buffer is above 3/4 full, and the sequence field. -/
structure UpHdr where
  owner : Bool
  xoff : Bool
  seq : BitVec 7
  deriving DecidableEq, Repr

/-- A SAMPLE cell of a slot port that is no trailer (R190 to R194). -/
structure SampleCell where
  stitch : Fin 128
  tag : BitVec 12
  res : BitVec 2
  hub : BitVec 2
  samples : List (BitVec 12)
  deriving DecidableEq, Repr

/-- A worker SAMPLE cell of a service lane (R407). -/
structure WorkerCell where
  interval : BitVec 12
  cur : List (BitVec 12)
  vol : List (BitVec 12)
  gateOn : Bool
  gateHigh : Bool
  present : Bool
  tripped : Bool
  deriving DecidableEq, Repr

/-- One active kick term of a job (R259): `value` joins cycles `first` to `last`. -/
structure Kick where
  value : Int
  first : Nat
  last : Nat
  deriving DecidableEq, Repr

/-- One pending intent of a skein (R219 to R222). -/
structure Intent where
  cycle : Nat
  deltaMa : Int
  deriving DecidableEq, Repr

/-- The job state of R501: what a digest covers, a checkpoint holds and a state image carries. -/
structure Job where
  u : Int := 0
  e1 : Int := 0
  e2 : Int := 0
  region : Nat := 0
  refQ16 : Int := 0
  shares : List (Nat × Int) := []
  kicks : List Kick := []
  intents : List Intent := []
  skeinState : Nat := 0
  count : Nat := 0
  ovRun : Nat := 0
  uvRun : Nat := 0
  ilimRun : Nat := 0
  deriving DecidableEq, Repr

/-- An effect message of the partner link (R500, R518): a change both units apply. -/
inductive Effect where
  /-- A load, limit, target, shed or power command of a skein, applied at the cycle named. -/
  | skeinCommand (issuer : Mb) (opcode : Nat) (payload : List Byte) (cycle : Nat)
  /-- A budget, breaker, pattern or other state-changing command (R647). -/
  | command (issuer : Mb) (opcode : Nat) (payload : List Byte)
  | intent (skein : Fin 2048) (cycle : Nat) (deltaMa : Int)
  /-- An ephemeris post, with the entry number both units hold. -/
  | ephPost (issuer : Mb) (number : Nat) (payload : List Byte)
  | ephCancel (number : Nat)
  | epoch (link : LinkId) (next : BitVec 8) (at_ : Nat)
  /-- A slot submitted by MGMT cells, mirrored to the partner (R518). -/
  | mgmtSlot (mb : Mb) (slot port : Fin 64) (bytes : List Byte)
  | mgmtStatus (mb : Mb) (slot : Fin 64) (status info result : Nat)
  | mgmtDone (mb : Mb) (slot : Fin 64)
  /-- The bytes of the pattern bank the active unit runs from, its pinned level, and the settings commands have changed,
  each with its kind and object, for an admitted unit (R497, R615, R629). -/
  | pattern (bank : List Byte) (pin : Fin 4) (settings : List (Nat × List Int))
  /-- The owner's containment of an instance, by its kind's code (R535). -/
  | contain (kind : Byte) (inst : BitVec 16)
  deriving DecidableEq, Repr

/-- A record of BULK stream 2 (R509, R519, R521): a claim with its term, or a yield of a slot. -/
inductive ClaimRec where
  | claim (port : Fin 64) (term : BitVec 16) (effectAt : Nat)
  | yield (slot : Fin 64)
  deriving DecidableEq, Repr

/-- The shelf digest of R517: what the active unit's shelf path tells the standby. -/
structure ShelfDigest where
  holdup : Nat := 0
  cause : Nat := 0
  enteredAt : Nat := 0
  pfw : Bool := false
  charges : List (Nat × Int) := []
  energy : List (Nat × Nat) := []
  deriving DecidableEq, Repr

/-- How a two-wire transaction ended (R345, R575). -/
inductive TwEnd where
  | ok (data : BitVec 16)
  | nack
  | pec
  deriving DecidableEq, Repr

/-- The commands of the block. -/
inductive Instr where
  -- clock, registers (R91, R93, R667 to R678)
  | fabricCycle
  | ctLoRead
  | loHiReadLatch (w : Win) (off : Nat)
  | loWriteHeld (w : Win) (off : Nat) (v : Word)
  | unmappedAccess (w : Win) (off : Nat) (write : Bool)
  | unsupportedAccess (w : Win) (off : Nat) (bytes : Nat) (write : Bool)
  | debugLock
  | registerWrite (w : Win) (off : Nat) (v : Word) (be : BitVec 4)
  -- mailbox transport
  | doorbell (mb : Mb) (hi : Bool) (ring : Word)
  | mgmtSegment (port : Fin 64) (h : UpHdr) (fn : Fin 4) (slot : Fin 64) (seg : Fin 16) (data : List Byte)
  | mgmtSegmentTimeout (mb : Mb) (slot : Fin 64)
  | mgmtWindowAccess (port : Fin 64) (h : UpHdr) (fn : Fin 4) (off : BitVec 16) (write : Bool) (v : Word)
  | cqConsWrite (mb : Mb) (v : Word)
  | irqCtrlWrite (mb : Mb) (v : Word)
  | coalTimerExpire (mb : Mb)
  | tokenRefill (mb : Mb)
  -- timebase
  | merSourceTick (m : Fin 64)
  | merCfgWrite (m : Fin 64) (v : Word)
  | merValWrite (m : Fin 64) (hi : Bool) (v : Word)
  | carrierRefRx (port : Fin 64) (h : UpHdr) (stitch : Fin 128) (reload : Nat) (cycle : BitVec 16)
  | carrierHoldover (m : Fin 64)
  | merPinHoldover (m : Fin 64)
  | mainsPllHoldover
  | debugHalt
  | debugHaltEnd
  | compareMatch (k : Fin 512)
  | cmpArm (k : Fin 512) (v : Word)
  | fanPwmReload (n : Fin 16)
  | ephCommit (idx : Fin 4096)
  | ephTrigger (idx : Fin 4096)
  | ephPost (mb : Mb) (slot : Fin 64)
  | ephCancel (mb : Mb) (slot : Fin 64)
  | ephQuery (mb : Mb) (slot : Fin 64)
  -- the slot link
  | portTrainComplete (p : Fin 64) (lanes : BitVec 8)
  | portTrainFail (p : Fin 64) (step : Fin 7)
  | portTrainRetry (p : Fin 64)
  | portRetrain (p : Fin 64) (v : Word)
  | laneFail (p : Fin 64) (lane : Fin 8)
  | widthChangeRx (p : Fin 64) (lanes : BitVec 8) (frame : Nat)
  | widthChangeTimeout (p : Fin 64)
  | widthChangeApply (p : Fin 64)
  | laneRejoin (p : Fin 64) (lane : Fin 8)
  | widerWidthTimer (p : Fin 64)
  | fecUncorrectable (p : Fin 64) (lane : Fin 8) (symbols : Nat)
  | cellCrcFail (l : LinkId) (cell : BitVec 256)
  | badTypeCellRx (l : LinkId) (type sub : BitVec 4)
  | staleEpochCellRx (l : LinkId) (epoch : BitVec 8)
  | ackRx (l : LinkId) (h : UpHdr) (next : BitVec 7) (sack : BitVec 31)
  | reliableRetxTimeout (l : LinkId) (seq : BitVec 7)
  | syncTimeTx (l : LinkId)
  | echoRx (l : LinkId) (h : UpHdr) (t1 t2 t3 t4 : Nat) (epoch : BitVec 8)
  | epochChange (l : LinkId)
  | bulkCellRx (l : LinkId) (h : UpHdr) (last : Bool) (stream : BitVec 8) (segment : BitVec 16) (data : List Byte)
  | svcLaneDown (n : Fin 64)
  | svcLaneRetry (n : Fin 64)
  | svcRetrain (n : Fin 64) (v : Word)
  | rendezvous (p : Fin 64)
  | beaconRx (p : Fin 64) (h : UpHdr) (epoch : BitVec 8) (wakeReq : Bool)
  | rendezvousMiss (p : Fin 64)
  -- samples, stitches and hub events
  | sampleCellRx (p : Fin 64) (h : UpHdr) (c : SampleCell)
  | trailerRx (p : Fin 64) (h : UpHdr) (stitch : Fin 128) (hub : BitVec 2) (duty cycle : BitVec 16) (held : BitVec 7)
  | windowDeadline (gid : Fin 8192)
  | stitchSampleLoss (gid : Fin 8192)
  | intentCellRx (p : Fin 64) (h : UpHdr) (stitch : Fin 128) (tag : BitVec 12) (fn : Fin 4) (deltaMa : BitVec 32) (id : BitVec 8)
  | stitchLate (p : Fin 64) (h : UpHdr) (mask : BitVec 128) (count : Word)
  | cmdReject (p : Fin 64) (h : UpHdr) (count : Word)
  | senseOpen (p : Fin 64) (h : UpHdr) (stitch : Fin 128)
  | ocHiccup (p : Fin 64) (h : UpHdr) (stitch : Fin 128) (cycles : BitVec 16)
  | ocResume (p : Fin 64) (h : UpHdr) (stitch : Fin 128)
  | stageOt (p : Fin 64) (h : UpHdr) (stitch : Fin 128) (temp : BitVec 16)
  | driverFault (p : Fin 64) (h : UpHdr) (stitch : Fin 128)
  | bindReq (p : Fin 64) (h : UpHdr)
  | hubFwVersion (p : Fin 64) (h : UpHdr) (version : Word)
  | unknownEventRx (l : LinkId) (h : UpHdr) (code : BitVec 16)
  -- the loop and its engines
  | skeinStep (s : Fin 2048) (batch : List (Fin 128))
  | adoptTimeout (s : Fin 2048)
  | trailerLoss (gid : Fin 8192)
  | senseOpenClear (gid : Fin 8192)
  | noFeedbackRelease (s : Fin 2048)
  | feedbackReturn (s : Fin 2048)
  | jobCopyDone (s : Fin 2048)
  | engineFault (e : Fin 128)
  | jobPlaceRetry (s : Fin 2048)
  | engDisable (e : Fin 128) (v : Word)
  | engSelfTestDone (e : Fin 128) (pass : Bool)
  -- the arbiter
  | arbPostRetry (e : Fin 128)
  | arbGrant (p : Fin 64)
  | arbExpire (p : Fin 64)
  | lockDrop (p : Fin 64)
  -- skein protection
  | skeinPgTimeout (s : Fin 2048)
  | skeinOvTrip (s : Fin 2048)
  | skeinUv (s : Fin 2048)
  | ilimTimeout (s : Fin 2048)
  | shareLimitCount (gid : Fin 8192)
  | restoreHoldEnd (s : Fin 2048)
  -- engine, skein and stitch commands
  | skeinLoadGaintab (mb : Mb) (slot : Fin 64)
  | skeinLoadSchedule (mb : Mb) (slot : Fin 64)
  | skeinLoadLaw (mb : Mb) (slot : Fin 64)
  | engTraceArm (mb : Mb) (slot : Fin 64)
  | engTraceRead (mb : Mb) (slot : Fin 64)
  | engJobQuery (mb : Mb) (slot : Fin 64)
  | engJobMove (mb : Mb) (slot : Fin 64)
  | engReset (mb : Mb) (slot : Fin 64)
  | skeinPower (mb : Mb) (slot : Fin 64)
  | skeinSetLimits (mb : Mb) (slot : Fin 64)
  | skeinSetTarget (mb : Mb) (slot : Fin 64)
  | skeinSetShed (mb : Mb) (slot : Fin 64)
  | skeinQuery (mb : Mb) (slot : Fin 64)
  | skeinClear (mb : Mb) (slot : Fin 64)
  | stitchQuery (mb : Mb) (slot : Fin 64)
  | stitchClear (mb : Mb) (slot : Fin 64)
  | loadIntentPost (mb : Mb) (slot : Fin 64)
  -- reducer snapshots
  | redSnap (p : Fin 64) (v : Word)
  | redSnapDone (p : Fin 64)
  | redClearAcc (p : Fin 64) (v : Word)
  | lossRead (mb : Mb) (slot : Fin 64)
  -- rectifiers, bus bar, optimiser
  | telemetryRound
  | twTransactionDone (t : Fin 8) (r : TwEnd)
  | smbalert (gpio : Fin 64)
  | acOkFilterExpire (r : Fin 48)
  | acOkRestore (r : Fin 48)
  | rectStartTimeout (r : Fin 48)
  | rectDrainTimeout (r : Fin 48)
  | busVUpdate
  | busLimitTimer (ov : Bool)
  | optTick
  | optProbe (s : Fin 2048)
  | emergencyAdd
  | rectQuery (mb : Mb) (slot : Fin 64)
  | rectCtrl (mb : Mb) (slot : Fin 64)
  | optCtrl (mb : Mb) (slot : Fin 64)
  | optSkeinPolicy (mb : Mb) (slot : Fin 64)
  | energyRead (mb : Mb) (slot : Fin 64)
  -- hold-up and battery
  | battStatusPoll (s : Fin 16)
  | busSagTimer
  | holdupBudget
  | holdupExhausted
  | holdupReturn
  | holdupNormal
  | battSample (s : Fin 16)
  | battModeTimer (s : Fin 16)
  | fullChargeCorrect (s : Fin 16)
  | restCorrect (s : Fin 16)
  | learnInterrupt (s : Fin 16)
  | chargeControl
  | holdupQuery (mb : Mb) (slot : Fin 64)
  | holdupCtrl (mb : Mb) (slot : Fin 64)
  | battQuery (mb : Mb) (slot : Fin 64)
  | battCtrl (mb : Mb) (slot : Fin 64)
  -- slots and budgets
  | slotInterval (n : Fin 64)
  | slotMeasLoss (n : Fin 64)
  | workerSampleRx (n : Fin 64) (h : UpHdr) (c : WorkerCell)
  | svcCommandTx (n : Fin 64)
  | workerTrip (n : Fin 64) (h : UpHdr) (ma : Word)
  | gateRiseTimeout (n : Fin 64)
  | slotPresent (n : Fin 64)
  | slotSurprise (n : Fin 64)
  | castOnResume (n : Fin 64)
  | castOnStepTimeout (n : Fin 64)
  | unbindTimeout (s : Fin 2048)
  | capCompute
  | capJudge (h : Mb)
  | capGraceExpire (h : Mb)
  | capEnfExpire (h : Mb)
  | cutLeadExpire (n : Fin 64)
  | slotCtrl (mb : Mb) (slot : Fin 64)
  | slotQuery (mb : Mb) (slot : Fin 64)
  | slotSetBreaker (mb : Mb) (slot : Fin 64)
  | budgetCapAck (mb : Mb) (slot : Fin 64)
  | budgetSet (mb : Mb) (slot : Fin 64)
  | budgetQuery (mb : Mb) (slot : Fin 64)
  | budgetPolicy (mb : Mb) (slot : Fin 64)
  -- sequencing
  | seqSlotTimer (s : Fin 2048)
  | railSdTimer (s : Fin 2048)
  | railCntCheckpoint
  | buttonPress (heldTicks : Nat)
  | buttonForceOff
  | manualReset (lowTicks : Nat)
  | resetOutputRelease (n : Fin 64)
  | seqSetRail (mb : Mb) (slot : Fin 64)
  | seqSetSlot (mb : Mb) (slot : Fin 64)
  | seqCtrl (mb : Mb) (slot : Fin 64)
  | seqQuery (mb : Mb) (slot : Fin 64)
  | seqLogRead (mb : Mb) (slot : Fin 64)
  -- shelf ADC
  | adcSlot (c : Fin 4) (code : BitVec 12)
  | adcStart (c : Fin 4) (v : Word)
  | adcStop (c : Fin 4) (v : Word)
  | owCheck (input : Fin 128) (code : BitVec 12)
  | owSettleExpire (input : Fin 128) (code : BitVec 12)
  | calCaptureDone (input : Fin 128)
  | adcCal (mb : Mb) (slot : Fin 64)
  -- thermal
  | thmSample (readings : List (Option Int))
  | thmSensorStale (k : Fin 13)
  | shedStageTimer
  | shedRestoreTimer
  | fanUpdate
  | dormantThmCheck (temp : Int)
  | thmQuery (mb : Mb) (slot : Fin 64)
  -- the pair
  | heartbeatTx
  | heartbeatRx (tTx : Nat) (state : Fin 8) (home : Bool) (owned : BitVec 64) (pos : Bool)
  | heartbeatCheck
  | aliveToggle
  | aliveStop
  | failureNoticeRx (cause : Fin 5)
  | ownFailure (cause : Fin 5)
  | digestRound
  | digestRx (s : Fin 2048) (cycle : BitVec 16) (crc : Word)
  | digestStepTimeout (s : Fin 2048)
  | stateImageRx (s : Fin 2048) (cycle : BitVec 16) (image : Job)
  | effectMessageRx (m : Effect)
  | claimRecordRx (r : ClaimRec)
  | shelfDigestRx (d : ShelfDigest)
  | portFlightsRx (p : Fin 64) (upNs downNs width : Nat)
  | portMoveYield (n : Fin 64)
  | transitRx (tx : Nat)
  | transitTime
  | periodicTransit
  | proveTimer
  | reclaimRequest
  | pcieDownTransit
  | pairQuery (mb : Mb) (slot : Fin 64)
  | pairTransit (mb : Mb) (slot : Fin 64)
  | pairCtrl (mb : Mb) (slot : Fin 64)
  -- faults
  | graceExpire (kind : Byte) (inst : BitVec 16)
  | safeStopRestart
  | faultQuery (mb : Mb) (slot : Fin 64)
  | faultClear (mb : Mb) (slot : Fin 64)
  | faultConfig (mb : Mb) (slot : Fin 64)
  | faultInject (mb : Mb) (slot : Fin 64)
  | faultLogRead (mb : Mb) (slot : Fin 64)
  -- recorder
  | nvRecordDone (equal : Bool)
  | holdupDieMeasure (pass : Bool)
  | nvBootScanDone
  | nwRead (mb : Mb) (slot : Fin 64)
  | nwLastFault (mb : Mb) (slot : Fin 64)
  | nwTrigger (mb : Mb) (slot : Fin 64)
  | nwCtrlSet (mb : Mb) (slot : Fin 64)
  -- two-wire ports
  | twArbLost (t : Fin 8)
  | twStretchTimeout (t : Fin 8) (sdaLow : Bool)
  | twSclStuck (t : Fin 8)
  | twSdaStuck (t : Fin 8) (freedAt : Option (Fin 9))
  | twStuckRetry (t : Fin 8) (sclHigh : Bool) (freedAt : Option (Fin 9))
  | twAttention (t : Fin 8) (addr : Option (BitVec 7))
  | twAttnAssert (t : Fin 8)
  | twTargetRead (t : Fin 8) (addr : BitVec 7) (code : Byte)
  | twTargetWrite (t : Fin 8) (addr : BitVec 7) (code data : Byte)
  | twTargetTimeout (t : Fin 8)
  | twWake (t : Fin 8) (addr : BitVec 7)
  -- trust and update
  | secureBoot
  | bootRetry
  | entropyTestFail (src : Fin 2) (apt : Bool)
  | entropyRetestDone (pass : Bool)
  | drbgInstantiateDone
  | drbgReseed
  | keyParityError (h : Mb)
  | fwQuery (mb : Mb) (slot : Fin 64)
  | fwWrite (mb : Mb) (slot : Fin 64)
  | fwVerify (mb : Mb) (slot : Fin 64)
  | fwActivate (mb : Mb) (slot : Fin 64)
  | fwPlanStart
  | fwConfirm
  | fwTrialTimeout
  | fwRevert (mb : Mb) (slot : Fin 64)
  | fwPinLevel (mb : Mb) (slot : Fin 64)
  | secRandom (mb : Mb) (slot : Fin 64)
  | secQuery (mb : Mb) (slot : Fin 64)
  | hubFwWrite (mb : Mb) (slot : Fin 64)
  | hubFwActivate (mb : Mb) (slot : Fin 64)
  | hubFwDelivered (n : Fin 64)
  | hubFwReportTimeout (n : Fin 64)
  -- start-up, restart, reset
  | powerOn
  | sysReset (lowTicks : Nat)
  | resetExit (slowTicks : BitVec 48)
  | mainSupplyLoss (ticks : Nat)
  | supplyGood
  | vaonLoss
  | coldStart
  | pairDecision
  | admitComplete
  | startupBind (p : Fin 64)
  | mailboxOpen
  | unitRestart (mb : Mb) (slot : Fin 64)
  -- mailbox administration
  | mbxNop (mb : Mb) (slot : Fin 64)
  | mbxQuery (mb : Mb) (slot : Fin 64)
  | mbxAbort (mb : Mb) (slot : Fin 64)
  | viAssign (mb : Mb) (slot : Fin 64)
  | viRelease (mb : Mb) (slot : Fin 64)
  | viMap (mb : Mb) (slot : Fin 64)
  | objAssign (mb : Mb) (slot : Fin 64)
  | patternWrite (mb : Mb) (slot : Fin 64)
  | patternCommit (mb : Mb) (slot : Fin 64)
  -- clock and link events
  | srefLoss (b : Bool)
  | svcTrainComplete (n : Fin 64)
  | partnerLinkUp (lanes : Fin 4)
  | partnerLinkDown
  | partnerTimeRx (tTx : Nat) (downFlight16 : Nat)
  | thermalDormantEntry
  | transitRequestRx
  deriving DecidableEq, Repr

end Sys2Proof
end

