-- ==== Sys2Proof/Decode.lean ====
section
/-! DEFINITION. The table's words: no row of spec/opcode_table.json gives bits, so no word spells a command.
A command's operands are arguments from outside the block (a register write's value, a cell's fields). -/
namespace Sys2Proof

/-- The command a word spells by the table's bits: none, since the rows give no bits. -/
def decodeTableWord (_nbits _w : Nat) : Option Instr := none

end Sys2Proof
end

