-- ==== Sys2Proof/Config.lean ====
section
/-! DEFINITION. What one implementation fixes and what the manual leaves open: constants without a body,
so that no proof can see their value (each is named in the assumption log). -/
namespace Sys2Proof.Config

/-- The unit serial number and the stepping byte (R677): fused, not given by the manual. -/
opaque serial : BitVec 64
opaque stepping : BitVec 8

/-- The level of the PAIR_POS ball (R495). -/
opaque pairPos : BitVec 1

/-- A byte of DRBG output (R596): the n-th byte generated since the start. -/
opaque drbgByte : Nat → BitVec 8

/-- Whether an image passes the signature check of R592 against the ROM's P-384 key. -/
opaque signatureOk : List (BitVec 8) → Bool

/-- The CRC-32C of a byte list where the manual fixes no byte layout (R501 job state; log 12). -/
opaque jobDigest : List Int → BitVec 32

/-- The fraction of R488 where t_hi equals t_lo, which it divides by, from duty_min, duty_max, t and t_lo. -/
opaque fanFlat : List Int → Int

/-- The predicted saving in milliwatts of a skein's rate decision, alone or with a count, from the bins of its fit: the model
of R357 has no term for the loop rate (log 21). -/
opaque rateSaving : List Int → Int → Int → Int

/-- The engine cycles a job spends in a cycle (R272), which the manual bounds but does not give. -/
opaque spentCycles : Nat → Nat

/-- Whether a batch posts more than 120 ns after its delivery while the conditions of R269 do not hold. -/
opaque latePost : Nat → Bool

/-- t_ride while P_load is 0 (R382 divides by it), from the energy to shutdown. -/
opaque rideIdle : Int → Nat

/-- Whether the partner holds a verified inactive slot of the version FW_VER_OTHER gives (R605): no item of the partner
link carries it (log 40). -/
opaque partnerHolds : BitVec 32 → Bool

/-- The code of the event a stopped mix of skeins sends (R635): the manual names no code (log 42). -/
opaque mixedEvent : BitVec 16

/-- What an MRAM write in progress at a supply loss has done (R556, R569): tags and granules written, taken modulo their
number. -/
opaque lossStage : Nat → Nat

/-- Whether, with HOLDUP_DIE raised, the granule in progress at a supply loss is lost, and whether its SECDED code then
reports it (R557). -/
opaque lossBroken : Nat → Bool
opaque lossReported : Nat → Bool

/-- Whether the supply supervisor leaves the 5 µs for the unit record at a supply loss (R568). -/
opaque recordFits : Nat → Bool

end Sys2Proof.Config
end

