-- ==== Sys2Proof/Machine/Arith.lean ====
section
/-! DEFINITION. The arithmetic of R12 and R245: narrowing with ties to even, saturation at the range
limit, exact integer square roots, and signed readings of fields. -/
namespace Sys2Proof.Machine

/-- `a / b` rounded to the nearest integer, ties to even (R12); a divisor of 0 gives 0. -/
def divRound (a b : Int) : Int :=
  if b = 0 then 0 else
  let a' := if b < 0 then -a else a
  let b' := if b < 0 then -b else b
  let q := a' / b'
  let r := a' % b'
  if 2 * r < b' then q else if b' < 2 * r then q + 1 else if q % 2 = 0 then q else q + 1

/-- Narrowing to a smaller range saturates (R12). -/
def clampI (lo hi x : Int) : Int := if x < lo then lo else if hi < x then hi else x

/-- Saturation to Q15 (R244). -/
def satQ15 (x : Int) : Int := clampI (-32768) 32767 x

/-- Saturation to a signed 32-bit field (R11). -/
def sat32 (x : Int) : Int := clampI (-2147483648) 2147483647 x

/-- Saturation to a signed 64-bit accumulator (R240). -/
def sat64 (x : Int) : Int := clampI (-9223372036854775808) 9223372036854775807 x

/-- Saturation to a signed 16-bit field (R11). -/
def sat16 (x : Int) : Int := clampI (-32768) 32767 x

/-- Saturation of the S9.30 accumulator (R244). -/
def satAcc (x : Int) : Int := clampI (-(2 ^ 39)) (2 ^ 39 - 1) x

/-- A signed value in two's complement of `n` bits. -/
def toField (n : Nat) (x : Int) : Nat := (x % (2 ^ n : Nat)).toNat

/-- The signed reading of an `n`-bit field. -/
def fromField (n v : Nat) : Int :=
  let w := v % 2 ^ n
  if w < 2 ^ (n - 1) then (w : Int) else (w : Int) - (2 ^ n : Nat)

/-- One step of the integer square root, from the highest candidate bit down. -/
def isqrtGo : Nat → Nat → Nat → Nat
  | 0, _, r => r
  | k + 1, x, r => let c := r + 2 ^ k; isqrtGo k x (if c * c ≤ x then c else r)

/-- The integer square root of `x`, for x below 2^192. -/
def isqrt (x : Nat) : Nat := isqrtGo 96 x 0

/-- round(sqrt(num/den)), exact. With f = floor(sqrt(num/den)) the answer is f + 1 when
num/den > (f + 1/2)^2, and ties go to even (R12). -/
def sqrtRound (num den : Nat) : Int :=
  if den = 0 then 0 else
  let f := isqrt (num / den)
  let t := den * (2 * f + 1) * (2 * f + 1)
  if 4 * num < t then f else if t < 4 * num then f + 1 else if f % 2 = 0 then f else f + 1

/-- Saturating count in a field of `n` bits. -/
def satCount (n v inc : Nat) : Nat := Nat.min (v + inc) (2 ^ n - 1)

/-- Whether cycle `a` is cycle `b` or earlier on the 16-bit circle. -/
def cycLe (a b : Nat) : Bool := decide ((b + 65536 - a % 65536) % 65536 < 32768)

/-- Ceiling division; 0 for a divisor of 0. -/
def ceilDiv (a b : Nat) : Nat := if b = 0 then 0 else (a + b - 1) / b

/-- Ticks of 0.625 ns (R13) in `n` microseconds, milliseconds and seconds. -/
def us (n : Nat) : Nat := 1600 * n
def ms (n : Nat) : Nat := 1600000 * n
def sec (n : Nat) : Nat := 1600000000 * n

/-- Insertion in a rising list. -/
def insertI (x : Int) : List Int → List Int
  | [] => [x]
  | y :: t => if x ≤ y then x :: y :: t else y :: insertI x t

/-- A rising copy of a list. -/
def sortI : List Int → List Int
  | [] => []
  | x :: t => insertI x (sortI t)

/-- The median of a list of values, the lower one of an even count (log 30). -/
def median (l : List Int) : Int := (sortI l).getD ((l.length - 1) / 2) 0

end Sys2Proof.Machine
end

