-- ==== Sys2Proof/Machine/RegMap.lean ====
section
/-! DEFINITION. The register map (R666, R673 to R677): every register of the chapters' field tables, its
place, and its fields with their access codes (R16) and reset values. Unified addresses: BAR2 offset a is
address a; offset a of the window of VI v (the AF's is 256) is 0x1000000 + 0x10000 v + a. -/
namespace Sys2Proof.Machine

/-- The access codes of R16. -/
inductive Access where
  | rw | ro | wo | w1c | w1s | sh | hsW1c | hsRo
  deriving DecidableEq, Repr

/-- A field of a register: bits [hi:lo], access code, reset value. -/
structure FieldSpec where
  hi : Nat
  lo : Nat
  acc : Access
  reset : Nat
  deriving DecidableEq, Repr

/-- A register and its repetitions: instance (o, i) is at base + o * stride + i * step. -/
structure RegSpec where
  base : Nat
  stride : Nat
  count : Nat
  step : Nat
  reps : Nat
  fields : List FieldSpec
  deriving DecidableEq, Repr

/-- A field at an address. -/
structure Fld where
  a : Nat
  hi : Nat
  lo : Nat
  deriving DecidableEq, Repr

/-- The base of a mailbox window. -/
def winBase (mb : Nat) : Nat := 0x1000000 + 0x10000 * mb

def aVI_ID (n : Nat) : Nat := 0x1000000 + 0x10000 * n
def VI_ID_vi (n : Nat) : Fld := ⟨aVI_ID n, 7, 0⟩
def VI_ID_if_level (n : Nat) : Fld := ⟨aVI_ID n, 15, 8⟩
def VI_ID_vi_gen (n : Nat) : Fld := ⟨aVI_ID n, 31, 16⟩
def aVI_STATUS (n : Nat) : Nat := 0x1000004 + 0x10000 * n
def VI_STATUS_assigned (n : Nat) : Fld := ⟨aVI_STATUS n, 0, 0⟩
def VI_STATUS_owner (n : Nat) : Fld := ⟨aVI_STATUS n, 1, 1⟩
def VI_STATUS_ctrl_throttled (n : Nat) : Fld := ⟨aVI_STATUS n, 2, 2⟩
def VI_STATUS_cq_full (n : Nat) : Fld := ⟨aVI_STATUS n, 3, 3⟩
def VI_STATUS_dup_doorbell (n : Nat) : Fld := ⟨aVI_STATUS n, 4, 4⟩
def aVI_DOORBELL_DROP_CNT (n : Nat) : Nat := 0x1000008 + 0x10000 * n
def VI_DOORBELL_DROP_CNT_count (n : Nat) : Fld := ⟨aVI_DOORBELL_DROP_CNT n, 15, 0⟩
def aVI_SLOT_BUSY (n : Nat) (i : Nat) : Nat := 0x1000010 + 0x10000 * n + 0x4 * i
def VI_SLOT_BUSY_busy (n : Nat) (i : Nat) : Fld := ⟨aVI_SLOT_BUSY n i, 31, 0⟩
def aVI_DOORBELL (n : Nat) (i : Nat) : Nat := 0x1000100 + 0x10000 * n + 0x4 * i
def VI_DOORBELL_ring (n : Nat) (i : Nat) : Fld := ⟨aVI_DOORBELL n i, 31, 0⟩
def aVI_CQ_PROD (n : Nat) : Nat := 0x1000400 + 0x10000 * n
def VI_CQ_PROD_prod (n : Nat) : Fld := ⟨aVI_CQ_PROD n, 8, 0⟩
def aVI_CQ_CONS (n : Nat) : Nat := 0x1000404 + 0x10000 * n
def VI_CQ_CONS_cons (n : Nat) : Fld := ⟨aVI_CQ_CONS n, 8, 0⟩
def aVI_IRQ_CTRL (n : Nat) : Nat := 0x1000408 + 0x10000 * n
def VI_IRQ_CTRL_cq_en (n : Nat) : Fld := ⟨aVI_IRQ_CTRL n, 0, 0⟩
def VI_IRQ_CTRL_coal_count (n : Nat) : Fld := ⟨aVI_IRQ_CTRL n, 15, 8⟩
def VI_IRQ_CTRL_coal_us (n : Nat) : Fld := ⟨aVI_IRQ_CTRL n, 31, 16⟩
def aVI_EV_PROD (n : Nat) : Nat := 0x1000410 + 0x10000 * n
def VI_EV_PROD_index (n : Nat) : Fld := ⟨aVI_EV_PROD n, 7, 0⟩
def VI_EV_PROD_ev_ovf (n : Nat) : Fld := ⟨aVI_EV_PROD n, 8, 8⟩
def aVI_EV_CONS (n : Nat) : Nat := 0x1000414 + 0x10000 * n
def VI_EV_CONS_index (n : Nat) : Fld := ⟨aVI_EV_CONS n, 7, 0⟩
def aVI_HOLDUP (n : Nat) : Nat := 0x1000020 + 0x10000 * n
def VI_HOLDUP_state (n : Nat) : Fld := ⟨aVI_HOLDUP n, 1, 0⟩
def VI_HOLDUP_mains (n : Nat) : Fld := ⟨aVI_HOLDUP n, 3, 2⟩
def VI_HOLDUP_pfw (n : Nat) : Fld := ⟨aVI_HOLDUP n, 4, 4⟩
def VI_HOLDUP_level (n : Nat) : Fld := ⟨aVI_HOLDUP n, 6, 5⟩
def VI_HOLDUP_ride_s (n : Nat) : Fld := ⟨aVI_HOLDUP n, 31, 16⟩
def aVI_CAP_MW (n : Nat) : Nat := 0x1000800 + 0x10000 * n
def VI_CAP_MW_v (n : Nat) : Fld := ⟨aVI_CAP_MW n, 31, 0⟩
def aVI_CAP_POWER (n : Nat) : Nat := 0x1000804 + 0x10000 * n
def VI_CAP_POWER_v (n : Nat) : Fld := ⟨aVI_CAP_POWER n, 31, 0⟩
def aVI_CAP_REQ (n : Nat) : Nat := 0x1000808 + 0x10000 * n
def VI_CAP_REQ_v (n : Nat) : Fld := ⟨aVI_CAP_REQ n, 31, 0⟩
def aVI_CAP_STATE (n : Nat) : Nat := 0x100080C + 0x10000 * n
def VI_CAP_STATE_cap_state (n : Nat) : Fld := ⟨aVI_CAP_STATE n, 1, 0⟩
def VI_CAP_STATE_stage (n : Nat) : Fld := ⟨aVI_CAP_STATE n, 3, 2⟩
def aVI_CAP_DEADLINE_LO (n : Nat) : Nat := 0x1000810 + 0x10000 * n
def VI_CAP_DEADLINE_LO_v (n : Nat) : Fld := ⟨aVI_CAP_DEADLINE_LO n, 31, 0⟩
def aVI_CAP_DEADLINE_HI (n : Nat) : Nat := 0x1000814 + 0x10000 * n
def VI_CAP_DEADLINE_HI_v (n : Nat) : Fld := ⟨aVI_CAP_DEADLINE_HI n, 31, 0⟩
def aCT_LO : Nat := 0x4000
def CT_LO_ct : Fld := ⟨aCT_LO, 31, 0⟩
def aCT_HI : Nat := 0x4004
def CT_HI_ct : Fld := ⟨aCT_HI, 31, 0⟩
def aCT_STATUS : Nat := 0x4008
def CT_STATUS_ct_src : Fld := ⟨aCT_STATUS, 1, 0⟩
def CT_STATUS_slewing : Fld := ⟨aCT_STATUS, 2, 2⟩
def CT_STATUS_aligned : Fld := ⟨aCT_STATUS, 3, 3⟩
def aMKUP_SLOW_LO : Nat := 0x400C
def MKUP_SLOW_LO_slow : Fld := ⟨aMKUP_SLOW_LO, 31, 0⟩
def aMKUP_SLOW_HI : Nat := 0x4010
def MKUP_SLOW_HI_slow : Fld := ⟨aMKUP_SLOW_HI, 15, 0⟩
def aMER_CFG (n : Nat) : Nat := 0x4100 + 0x20 * n
def MER_CFG_src (n : Nat) : Fld := ⟨aMER_CFG n, 2, 0⟩
def MER_CFG_en (n : Nat) : Fld := ⟨aMER_CFG n, 3, 3⟩
def MER_CFG_freeze_on_halt (n : Nat) : Fld := ⟨aMER_CFG n, 4, 4⟩
def MER_CFG_port (n : Nat) : Fld := ⟨aMER_CFG n, 10, 5⟩
def MER_CFG_stitch (n : Nat) : Fld := ⟨aMER_CFG n, 17, 11⟩
def MER_CFG_pin (n : Nat) : Fld := ⟨aMER_CFG n, 19, 18⟩
def aMER_PRESCALE (n : Nat) : Nat := 0x4104 + 0x20 * n
def MER_PRESCALE_ratio (n : Nat) : Fld := ⟨aMER_PRESCALE n, 31, 0⟩
def aMER_STEP (n : Nat) : Nat := 0x4108 + 0x20 * n
def MER_STEP_step (n : Nat) : Fld := ⟨aMER_STEP n, 31, 0⟩
def aMER_STEP_FRAC (n : Nat) : Nat := 0x410C + 0x20 * n
def MER_STEP_FRAC_frac (n : Nat) : Fld := ⟨aMER_STEP_FRAC n, 15, 0⟩
def aMER_VAL_LO (n : Nat) : Nat := 0x4110 + 0x20 * n
def MER_VAL_LO_val (n : Nat) : Fld := ⟨aMER_VAL_LO n, 31, 0⟩
def aMER_VAL_HI (n : Nat) : Nat := 0x4114 + 0x20 * n
def MER_VAL_HI_val (n : Nat) : Fld := ⟨aMER_VAL_HI n, 15, 0⟩
def aMER_OFFSET (n : Nat) : Nat := 0x4118 + 0x20 * n
def MER_OFFSET_offset (n : Nat) : Fld := ⟨aMER_OFFSET n, 31, 0⟩
def aMER_STATUS (n : Nat) : Nat := 0x411C + 0x20 * n
def MER_STATUS_locked (n : Nat) : Fld := ⟨aMER_STATUS n, 0, 0⟩
def MER_STATUS_holdover (n : Nat) : Fld := ⟨aMER_STATUS n, 1, 1⟩
def MER_STATUS_unlock_seen (n : Nat) : Fld := ⟨aMER_STATUS n, 2, 2⟩
def MER_STATUS_held (n : Nat) : Fld := ⟨aMER_STATUS n, 3, 3⟩
def aCMP_VAL_LO (n : Nat) : Nat := 0x5000 + 0x10 * n
def CMP_VAL_LO_val (n : Nat) : Fld := ⟨aCMP_VAL_LO n, 31, 0⟩
def aCMP_VAL_HI (n : Nat) : Nat := 0x5004 + 0x10 * n
def CMP_VAL_HI_val (n : Nat) : Fld := ⟨aCMP_VAL_HI n, 15, 0⟩
def CMP_VAL_HI_mer (n : Nat) : Fld := ⟨aCMP_VAL_HI n, 21, 16⟩
def aCMP_CTRL (n : Nat) : Nat := 0x5008 + 0x10 * n
def CMP_CTRL_arm (n : Nat) : Fld := ⟨aCMP_CTRL n, 0, 0⟩
def CMP_CTRL_periodic (n : Nat) : Fld := ⟨aCMP_CTRL n, 1, 1⟩
def CMP_CTRL_matched (n : Nat) : Fld := ⟨aCMP_CTRL n, 2, 2⟩
def CMP_CTRL_late (n : Nat) : Fld := ⟨aCMP_CTRL n, 3, 3⟩
def CMP_CTRL_action (n : Nat) : Fld := ⟨aCMP_CTRL n, 7, 4⟩
def CMP_CTRL_arg (n : Nat) : Fld := ⟨aCMP_CTRL n, 13, 8⟩
def aCMP_PERIOD (n : Nat) : Nat := 0x500C + 0x10 * n
def CMP_PERIOD_period (n : Nat) : Fld := ⟨aCMP_PERIOD n, 31, 0⟩
def aEPH_STATUS : Nat := 0x7800
def EPH_STATUS_pending : Fld := ⟨aEPH_STATUS, 12, 0⟩
def EPH_STATUS_aborted : Fld := ⟨aEPH_STATUS, 31, 16⟩
def aFAN_PWM (i : Nat) : Nat := 0x7000 + 0x4 * i
def FAN_PWM_period (i : Nat) : Fld := ⟨aFAN_PWM i, 15, 0⟩
def FAN_PWM_duty (i : Nat) : Fld := ⟨aFAN_PWM i, 31, 16⟩
def aFAN_CTRL : Nat := 0x7040
def FAN_CTRL_en : Fld := ⟨aFAN_CTRL, 15, 0⟩
def FAN_CTRL_invert : Fld := ⟨aFAN_CTRL, 31, 16⟩
def aMER_GPIO (i : Nat) : Nat := 0x7048 + 0x4 * i
def MER_GPIO_gpio (i : Nat) : Fld := ⟨aMER_GPIO i, 31, 0⟩
def aPORT_CTRL (n : Nat) : Nat := 0x10000 + 0x400 * n
def PORT_CTRL_en (n : Nat) : Fld := ⟨aPORT_CTRL n, 0, 0⟩
def PORT_CTRL_retrain (n : Nat) : Fld := ⟨aPORT_CTRL n, 1, 1⟩
def PORT_CTRL_max_width (n : Nat) : Fld := ⟨aPORT_CTRL n, 3, 2⟩
def PORT_CTRL_sleep_en (n : Nat) : Fld := ⟨aPORT_CTRL n, 4, 4⟩
def PORT_CTRL_rejoin_en (n : Nat) : Fld := ⟨aPORT_CTRL n, 5, 5⟩
def aPORT_STATUS (n : Nat) : Nat := 0x10004 + 0x400 * n
def PORT_STATUS_link_state (n : Nat) : Fld := ⟨aPORT_STATUS n, 2, 0⟩
def PORT_STATUS_width (n : Nat) : Fld := ⟨aPORT_STATUS n, 6, 3⟩
def PORT_STATUS_lanes_ok (n : Nat) : Fld := ⟨aPORT_STATUS n, 14, 7⟩
def PORT_STATUS_long_flight (n : Nat) : Fld := ⟨aPORT_STATUS n, 15, 15⟩
def PORT_STATUS_plan_active (n : Nat) : Fld := ⟨aPORT_STATUS n, 16, 16⟩
def PORT_STATUS_sleep_lost (n : Nat) : Fld := ⟨aPORT_STATUS n, 17, 17⟩
def PORT_STATUS_lane_dropped (n : Nat) : Fld := ⟨aPORT_STATUS n, 18, 18⟩
def aPORT_FLIGHT (n : Nat) : Nat := 0x10008 + 0x400 * n
def PORT_FLIGHT_up_ns (n : Nat) : Fld := ⟨aPORT_FLIGHT n, 7, 0⟩
def PORT_FLIGHT_down_ns (n : Nat) : Fld := ⟨aPORT_FLIGHT n, 15, 8⟩
def PORT_FLIGHT_pair_up_ns (n : Nat) : Fld := ⟨aPORT_FLIGHT n, 23, 16⟩
def PORT_FLIGHT_pair_down_ns (n : Nat) : Fld := ⟨aPORT_FLIGHT n, 31, 24⟩
def aPORT_ASYM (n : Nat) : Nat := 0x1000C + 0x400 * n
def PORT_ASYM_asym_ns (n : Nat) : Fld := ⟨aPORT_ASYM n, 7, 0⟩
def aPORT_EPOCH (n : Nat) : Nat := 0x10010 + 0x400 * n
def PORT_EPOCH_epoch (n : Nat) : Fld := ⟨aPORT_EPOCH n, 7, 0⟩
def PORT_EPOCH_owner (n : Nat) : Fld := ⟨aPORT_EPOCH n, 8, 8⟩
def PORT_EPOCH_hub_epoch (n : Nat) : Fld := ⟨aPORT_EPOCH n, 16, 9⟩
def aPORT_BUDGET (n : Nat) : Nat := 0x10014 + 0x400 * n
def PORT_BUDGET_up_use (n : Nat) : Fld := ⟨aPORT_BUDGET n, 15, 0⟩
def PORT_BUDGET_down_use (n : Nat) : Fld := ⟨aPORT_BUDGET n, 31, 16⟩
def aPORT_SLEEP (n : Nat) : Nat := 0x10018 + 0x400 * n
def PORT_SLEEP_guard_us (n : Nat) : Fld := ⟨aPORT_SLEEP n, 10, 0⟩
def PORT_SLEEP_widened (n : Nat) : Fld := ⟨aPORT_SLEEP n, 14, 11⟩
def aPORT_CNT_CRC (n : Nat) : Nat := 0x10040 + 0x400 * n
def PORT_CNT_CRC_v (n : Nat) : Fld := ⟨aPORT_CNT_CRC n, 31, 0⟩
def aPORT_CNT_FEC_CORR (n : Nat) : Nat := 0x10044 + 0x400 * n
def PORT_CNT_FEC_CORR_v (n : Nat) : Fld := ⟨aPORT_CNT_FEC_CORR n, 31, 0⟩
def aPORT_CNT_FEC_UNCORR (n : Nat) : Nat := 0x10048 + 0x400 * n
def PORT_CNT_FEC_UNCORR_v (n : Nat) : Fld := ⟨aPORT_CNT_FEC_UNCORR n, 31, 0⟩
def aPORT_CNT_STALE (n : Nat) : Nat := 0x1004C + 0x400 * n
def PORT_CNT_STALE_v (n : Nat) : Fld := ⟨aPORT_CNT_STALE n, 31, 0⟩
def aPORT_CNT_BAD_TYPE (n : Nat) : Nat := 0x10050 + 0x400 * n
def PORT_CNT_BAD_TYPE_v (n : Nat) : Fld := ⟨aPORT_CNT_BAD_TYPE n, 31, 0⟩
def aPORT_CNT_RETX (n : Nat) : Nat := 0x10054 + 0x400 * n
def PORT_CNT_RETX_v (n : Nat) : Fld := ⟨aPORT_CNT_RETX n, 31, 0⟩
def aPORT_CNT_LANE_DROP (n : Nat) : Nat := 0x10058 + 0x400 * n
def PORT_CNT_LANE_DROP_v (n : Nat) : Fld := ⟨aPORT_CNT_LANE_DROP n, 31, 0⟩
def aPORT_CNT_RETRAIN (n : Nat) : Nat := 0x1005C + 0x400 * n
def PORT_CNT_RETRAIN_v (n : Nat) : Fld := ⟨aPORT_CNT_RETRAIN n, 31, 0⟩
def aPORT_CNT_SLEEP_MISS (n : Nat) : Nat := 0x10060 + 0x400 * n
def PORT_CNT_SLEEP_MISS_v (n : Nat) : Fld := ⟨aPORT_CNT_SLEEP_MISS n, 31, 0⟩
def aPORT_CNT_OWNER (n : Nat) : Nat := 0x10064 + 0x400 * n
def PORT_CNT_OWNER_v (n : Nat) : Fld := ⟨aPORT_CNT_OWNER n, 31, 0⟩
def aSVC_CNT_CRC (n : Nat) : Nat := 0x1030C + 0x400 * n
def SVC_CNT_CRC_v (n : Nat) : Fld := ⟨aSVC_CNT_CRC n, 31, 0⟩
def aSVC_CNT_STALE (n : Nat) : Nat := 0x10310 + 0x400 * n
def SVC_CNT_STALE_v (n : Nat) : Fld := ⟨aSVC_CNT_STALE n, 31, 0⟩
def aSVC_CTRL (n : Nat) : Nat := 0x10300 + 0x400 * n
def SVC_CTRL_en (n : Nat) : Fld := ⟨aSVC_CTRL n, 0, 0⟩
def SVC_CTRL_retrain (n : Nat) : Fld := ⟨aSVC_CTRL n, 1, 1⟩
def aSVC_STATUS (n : Nat) : Nat := 0x10304 + 0x400 * n
def SVC_STATUS_link_state (n : Nat) : Fld := ⟨aSVC_STATUS n, 1, 0⟩
def SVC_STATUS_down_seen (n : Nat) : Fld := ⟨aSVC_STATUS n, 2, 2⟩
def aSVC_EPOCH (n : Nat) : Nat := 0x10308 + 0x400 * n
def SVC_EPOCH_epoch (n : Nat) : Fld := ⟨aSVC_EPOCH n, 7, 0⟩
def aPORT_CNT_LATE (n : Nat) : Nat := 0x10080 + 0x400 * n
def PORT_CNT_LATE_v (n : Nat) : Fld := ⟨aPORT_CNT_LATE n, 31, 0⟩
def aPORT_CNT_CMD_REJECT (n : Nat) : Nat := 0x10084 + 0x400 * n
def PORT_CNT_CMD_REJECT_v (n : Nat) : Fld := ⟨aPORT_CNT_CMD_REJECT n, 31, 0⟩
def aPORT_CNT_INTENT_DROP (n : Nat) : Nat := 0x10088 + 0x400 * n
def PORT_CNT_INTENT_DROP_v (n : Nat) : Fld := ⟨aPORT_CNT_INTENT_DROP n, 31, 0⟩
def aPORT_CNT_HICCUP (n : Nat) : Nat := 0x1008C + 0x400 * n
def PORT_CNT_HICCUP_v (n : Nat) : Fld := ⟨aPORT_CNT_HICCUP n, 31, 0⟩
def aSTITCH_STATE (n : Nat) (i : Nat) : Nat := 0x10100 + 0x400 * n + 0x4 * i
def aSTITCH_FLT (n : Nat) (i : Nat) : Nat := 0x10140 + 0x400 * n + 0x4 * i
def STITCH_FLT_latched (n : Nat) (i : Nat) : Fld := ⟨aSTITCH_FLT n i, 31, 0⟩
def aRED_CTRL (n : Nat) : Nat := 0x10180 + 0x400 * n
def RED_CTRL_acc_en (n : Nat) : Fld := ⟨aRED_CTRL n, 0, 0⟩
def RED_CTRL_ring_en (n : Nat) : Fld := ⟨aRED_CTRL n, 1, 1⟩
def RED_CTRL_snap (n : Nat) : Fld := ⟨aRED_CTRL n, 2, 2⟩
def RED_CTRL_clear_acc (n : Nat) : Fld := ⟨aRED_CTRL n, 3, 3⟩
def aRED_STATUS (n : Nat) : Nat := 0x10184 + 0x400 * n
def RED_STATUS_snap_pending (n : Nat) : Fld := ⟨aRED_STATUS n, 0, 0⟩
def RED_STATUS_snap_done (n : Nat) : Fld := ⟨aRED_STATUS n, 1, 1⟩
def RED_STATUS_loss_neg (n : Nat) : Fld := ⟨aRED_STATUS n, 2, 2⟩
def aRED_SNAP_SEQ (n : Nat) : Nat := 0x10188 + 0x400 * n
def RED_SNAP_SEQ_seq (n : Nat) : Fld := ⟨aRED_SNAP_SEQ n, 31, 0⟩
def aRED_CNT_WINDOWS (n : Nat) : Nat := 0x101A0 + 0x400 * n
def RED_CNT_WINDOWS_v (n : Nat) : Fld := ⟨aRED_CNT_WINDOWS n, 31, 0⟩
def aRED_CNT_INCOMPLETE (n : Nat) : Nat := 0x101A4 + 0x400 * n
def RED_CNT_INCOMPLETE_v (n : Nat) : Fld := ⟨aRED_CNT_INCOMPLETE n, 31, 0⟩
def aRED_CNT_MISSING (n : Nat) : Nat := 0x101A8 + 0x400 * n
def RED_CNT_MISSING_v (n : Nat) : Fld := ⟨aRED_CNT_MISSING n, 31, 0⟩
def aRED_CNT_DUP (n : Nat) : Nat := 0x101AC + 0x400 * n
def RED_CNT_DUP_v (n : Nat) : Fld := ⟨aRED_CNT_DUP n, 31, 0⟩
def aRED_CNT_LATE (n : Nat) : Nat := 0x101B0 + 0x400 * n
def RED_CNT_LATE_v (n : Nat) : Fld := ⟨aRED_CNT_LATE n, 31, 0⟩
def aRED_CNT_BAD_SEQ (n : Nat) : Nat := 0x101B4 + 0x400 * n
def RED_CNT_BAD_SEQ_v (n : Nat) : Fld := ⟨aRED_CNT_BAD_SEQ n, 31, 0⟩
def aENG_CTRL (n : Nat) : Nat := 0x20000 + 0x100 * n
def ENG_CTRL_en (n : Nat) : Fld := ⟨aENG_CTRL n, 0, 0⟩
def ENG_CTRL_spare (n : Nat) : Fld := ⟨aENG_CTRL n, 1, 1⟩
def ENG_CTRL_no_place (n : Nat) : Fld := ⟨aENG_CTRL n, 2, 2⟩
def aENG_STATUS (n : Nat) : Nat := 0x20004 + 0x100 * n
def ENG_STATUS_state (n : Nat) : Fld := ⟨aENG_STATUS n, 1, 0⟩
def ENG_STATUS_slow (n : Nat) : Fld := ⟨aENG_STATUS n, 2, 2⟩
def ENG_STATUS_sat (n : Nat) : Fld := ⟨aENG_STATUS n, 3, 3⟩
def ENG_STATUS_jobs (n : Nat) : Fld := ⟨aENG_STATUS n, 10, 4⟩
def ENG_STATUS_shadow (n : Nat) : Fld := ⟨aENG_STATUS n, 11, 11⟩
def aENG_LOAD (n : Nat) : Nat := 0x20008 + 0x100 * n
def ENG_LOAD_model (n : Nat) : Fld := ⟨aENG_LOAD n, 15, 0⟩
def ENG_LOAD_measured (n : Nat) : Fld := ⟨aENG_LOAD n, 31, 16⟩
def aENG_DEMAND (n : Nat) : Nat := 0x2000C + 0x100 * n
def ENG_DEMAND_c_cycles (n : Nat) : Fld := ⟨aENG_DEMAND n, 7, 0⟩
def aENG_CNT_OVERRUN (n : Nat) : Nat := 0x20010 + 0x100 * n
def ENG_CNT_OVERRUN_v (n : Nat) : Fld := ⟨aENG_CNT_OVERRUN n, 31, 0⟩
def aENG_CNT_LATE_POST (n : Nat) : Nat := 0x20014 + 0x100 * n
def ENG_CNT_LATE_POST_v (n : Nat) : Fld := ⟨aENG_CNT_LATE_POST n, 31, 0⟩
def aENG_CNT_MIGRATE_OUT (n : Nat) : Nat := 0x20018 + 0x100 * n
def ENG_CNT_MIGRATE_OUT_v (n : Nat) : Fld := ⟨aENG_CNT_MIGRATE_OUT n, 31, 0⟩
def aENG_CNT_MIGRATE_IN (n : Nat) : Nat := 0x2001C + 0x100 * n
def ENG_CNT_MIGRATE_IN_v (n : Nat) : Fld := ⟨aENG_CNT_MIGRATE_IN n, 31, 0⟩
def aENG_CNT_SAT (n : Nat) : Nat := 0x20020 + 0x100 * n
def ENG_CNT_SAT_v (n : Nat) : Fld := ⟨aENG_CNT_SAT n, 31, 0⟩
def aENG_CNT_NO_FB (n : Nat) : Nat := 0x20024 + 0x100 * n
def ENG_CNT_NO_FB_v (n : Nat) : Fld := ⟨aENG_CNT_NO_FB n, 31, 0⟩
def aTRC_STATUS (n : Nat) : Nat := 0x20040 + 0x100 * n
def TRC_STATUS_state (n : Nat) : Fld := ⟨aTRC_STATUS n, 1, 0⟩
def TRC_STATUS_wrapped (n : Nat) : Fld := ⟨aTRC_STATUS n, 2, 2⟩
def TRC_STATUS_records (n : Nat) : Fld := ⟨aTRC_STATUS n, 14, 3⟩
def TRC_STATUS_skein (n : Nat) : Fld := ⟨aTRC_STATUS n, 25, 15⟩
def aSKN_STATE (n : Nat) : Nat := 0x28000 + 0x10 * n
def SKN_STATE_state (n : Nat) : Fld := ⟨aSKN_STATE n, 2, 0⟩
def SKN_STATE_active (n : Nat) : Fld := ⟨aSKN_STATE n, 10, 3⟩
def SKN_STATE_region (n : Nat) : Fld := ⟨aSKN_STATE n, 13, 11⟩
def SKN_STATE_ov_seen (n : Nat) : Fld := ⟨aSKN_STATE n, 14, 14⟩
def SKN_STATE_uv_seen (n : Nat) : Fld := ⟨aSKN_STATE n, 15, 15⟩
def SKN_STATE_ilim_seen (n : Nat) : Fld := ⟨aSKN_STATE n, 16, 16⟩
def SKN_STATE_share_seen (n : Nat) : Fld := ⟨aSKN_STATE n, 17, 17⟩
def SKN_STATE_restore_hold (n : Nat) : Fld := ⟨aSKN_STATE n, 18, 18⟩
def SKN_STATE_degraded (n : Nat) : Fld := ⟨aSKN_STATE n, 19, 19⟩
def SKN_STATE_est_mode (n : Nat) : Fld := ⟨aSKN_STATE n, 20, 20⟩
def aSKN_REF (n : Nat) : Nat := 0x28004 + 0x10 * n
def SKN_REF_target_mv (n : Nat) : Fld := ⟨aSKN_REF n, 15, 0⟩
def SKN_REF_ref_mv (n : Nat) : Fld := ⟨aSKN_REF n, 31, 16⟩
def aSKN_LIMIT (n : Nat) : Nat := 0x28008 + 0x10 * n
def SKN_LIMIT_ilim_ma (n : Nat) : Fld := ⟨aSKN_LIMIT n, 31, 0⟩
def aSKN_CNT (n : Nat) : Nat := 0x2800C + 0x10 * n
def SKN_CNT_ilim_windows (n : Nat) : Fld := ⟨aSKN_CNT n, 15, 0⟩
def SKN_CNT_ov_trips (n : Nat) : Fld := ⟨aSKN_CNT n, 23, 16⟩
def SKN_CNT_restores (n : Nat) : Fld := ⟨aSKN_CNT n, 31, 24⟩
def aARB_CTRL (n : Nat) : Nat := 0x10200 + 0x400 * n
def ARB_CTRL_guard_ns (n : Nat) : Fld := ⟨aARB_CTRL n, 4, 0⟩
def ARB_CTRL_hint_en (n : Nat) : Fld := ⟨aARB_CTRL n, 5, 5⟩
def aARB_STATUS (n : Nat) : Nat := 0x10204 + 0x400 * n
def ARB_STATUS_depth (n : Nat) : Fld := ⟨aARB_STATUS n, 6, 0⟩
def ARB_STATUS_suppress (n : Nat) : Fld := ⟨aARB_STATUS n, 7, 7⟩
def ARB_STATUS_expired_seen (n : Nat) : Fld := ⟨aARB_STATUS n, 8, 8⟩
def ARB_STATUS_lock_drop_seen (n : Nat) : Fld := ⟨aARB_STATUS n, 9, 9⟩
def ARB_STATUS_full_seen (n : Nat) : Fld := ⟨aARB_STATUS n, 10, 10⟩
def ARB_STATUS_dup_seen (n : Nat) : Fld := ⟨aARB_STATUS n, 11, 11⟩
def ARB_STATUS_at_risk_seen (n : Nat) : Fld := ⟨aARB_STATUS n, 12, 12⟩
def ARB_STATUS_max_depth (n : Nat) : Fld := ⟨aARB_STATUS n, 19, 13⟩
def aARB_MASK (n : Nat) : Nat := 0x10208 + 0x400 * n
def ARB_MASK_masked (n : Nat) : Fld := ⟨aARB_MASK n, 31, 0⟩
def aARB_SLACK (n : Nat) : Nat := 0x1020C + 0x400 * n
def ARB_SLACK_min_slack (n : Nat) : Fld := ⟨aARB_SLACK n, 15, 0⟩
def ARB_SLACK_max_wait (n : Nat) : Fld := ⟨aARB_SLACK n, 31, 16⟩
def aARB_CNT_GRANT (n : Nat) : Nat := 0x10210 + 0x400 * n
def ARB_CNT_GRANT_v (n : Nat) : Fld := ⟨aARB_CNT_GRANT n, 31, 0⟩
def aARB_CNT_CONTEND (n : Nat) : Nat := 0x10214 + 0x400 * n
def ARB_CNT_CONTEND_v (n : Nat) : Fld := ⟨aARB_CNT_CONTEND n, 31, 0⟩
def aARB_CNT_EXPIRED (n : Nat) : Nat := 0x10218 + 0x400 * n
def ARB_CNT_EXPIRED_v (n : Nat) : Fld := ⟨aARB_CNT_EXPIRED n, 31, 0⟩
def aARB_CNT_LOCK (n : Nat) : Nat := 0x1021C + 0x400 * n
def ARB_CNT_LOCK_v (n : Nat) : Fld := ⟨aARB_CNT_LOCK n, 31, 0⟩
def aARB_CNT_LOCK_DROP (n : Nat) : Nat := 0x10220 + 0x400 * n
def ARB_CNT_LOCK_DROP_v (n : Nat) : Fld := ⟨aARB_CNT_LOCK_DROP n, 31, 0⟩
def aARB_CNT_MASKED (n : Nat) : Nat := 0x10224 + 0x400 * n
def ARB_CNT_MASKED_v (n : Nat) : Fld := ⟨aARB_CNT_MASKED n, 31, 0⟩
def aARB_CNT_FULL (n : Nat) : Nat := 0x10228 + 0x400 * n
def ARB_CNT_FULL_v (n : Nat) : Fld := ⟨aARB_CNT_FULL n, 31, 0⟩
def aARB_CNT_DUP (n : Nat) : Nat := 0x1022C + 0x400 * n
def ARB_CNT_DUP_v (n : Nat) : Fld := ⟨aARB_CNT_DUP n, 31, 0⟩
def aARB_CNT_SUPPRESSED (n : Nat) : Nat := 0x10230 + 0x400 * n
def ARB_CNT_SUPPRESSED_v (n : Nat) : Fld := ⟨aARB_CNT_SUPPRESSED n, 31, 0⟩
def aARB_CNT_AT_RISK (n : Nat) : Nat := 0x10234 + 0x400 * n
def ARB_CNT_AT_RISK_v (n : Nat) : Fld := ⟨aARB_CNT_AT_RISK n, 31, 0⟩
def aBUS_V : Nat := 0x9000
def BUS_V_bus_mv : Fld := ⟨aBUS_V, 31, 0⟩
def aBUS_STATUS : Nat := 0x9004
def BUS_STATUS_ov_seen : Fld := ⟨aBUS_STATUS, 0, 0⟩
def BUS_STATUS_uv_seen : Fld := ⟨aBUS_STATUS, 1, 1⟩
def BUS_STATUS_sense_ok : Fld := ⟨aBUS_STATUS, 5, 2⟩
def aBUS_SETPOINT : Nat := 0x9008
def BUS_SETPOINT_setpoint_mv : Fld := ⟨aBUS_SETPOINT, 15, 0⟩
def aOPT_STATUS : Nat := 0x900C
def OPT_STATUS_state : Fld := ⟨aOPT_STATUS, 1, 0⟩
def OPT_STATUS_pending : Fld := ⟨aOPT_STATUS, 2, 2⟩
def OPT_STATUS_online : Fld := ⟨aOPT_STATUS, 8, 3⟩
def OPT_STATUS_emergency : Fld := ⟨aOPT_STATUS, 9, 9⟩
def aOPT_CNT : Nat := 0x9010
def OPT_CNT_applied : Fld := ⟨aOPT_CNT, 15, 0⟩
def OPT_CNT_declined : Fld := ⟨aOPT_CNT, 31, 16⟩
def aRECT_STATE (i : Nat) : Nat := 0x9020 + 0x4 * i
def aRECT_ALERT (i : Nat) : Nat := 0x9040 + 0x4 * i
def RECT_ALERT_alert (i : Nat) : Fld := ⟨aRECT_ALERT i, 31, 0⟩
def aRECT_CNT_STATUS : Nat := 0x9048
def RECT_CNT_STATUS_count : Fld := ⟨aRECT_CNT_STATUS, 31, 0⟩
def aSHELF_UNALLOC_LO : Nat := 0x9050
def SHELF_UNALLOC_LO_nj : Fld := ⟨aSHELF_UNALLOC_LO, 31, 0⟩
def aSHELF_UNALLOC_HI : Nat := 0x9054
def SHELF_UNALLOC_HI_nj : Fld := ⟨aSHELF_UNALLOC_HI, 31, 0⟩
def aHU_STATUS : Nat := 0x9400
def HU_STATUS_state : Fld := ⟨aHU_STATUS, 1, 0⟩
def HU_STATUS_mains : Fld := ⟨aHU_STATUS, 3, 2⟩
def HU_STATUS_phase_lost : Fld := ⟨aHU_STATUS, 6, 4⟩
def HU_STATUS_pfw : Fld := ⟨aHU_STATUS, 7, 7⟩
def HU_STATUS_cause : Fld := ⟨aHU_STATUS, 10, 8⟩
def HU_STATUS_entry_seen : Fld := ⟨aHU_STATUS, 11, 11⟩
def HU_STATUS_exhausted_seen : Fld := ⟨aHU_STATUS, 12, 12⟩
def HU_STATUS_steps_applied : Fld := ⟨aHU_STATUS, 20, 13⟩
def aHU_RIDE : Nat := 0x9404
def HU_RIDE_v : Fld := ⟨aHU_RIDE, 31, 0⟩
def aHU_ALLOW : Nat := 0x9408
def HU_ALLOW_v : Fld := ⟨aHU_ALLOW, 31, 0⟩
def aHU_LOAD : Nat := 0x940C
def HU_LOAD_v : Fld := ⟨aHU_LOAD, 31, 0⟩
def aHU_CNT : Nat := 0x9410
def HU_CNT_entries : Fld := ⟨aHU_CNT, 15, 0⟩
def HU_CNT_steps : Fld := ⟨aHU_CNT, 31, 16⟩
def aBATT_CHASSIS : Nat := 0x9414
def BATT_CHASSIS_soc : Fld := ⟨aBATT_CHASSIS, 15, 0⟩
def BATT_CHASSIS_level : Fld := ⟨aBATT_CHASSIS, 17, 16⟩
def aBAT_STATE (n : Nat) : Nat := 0x9500 + 0x20 * n
def BAT_STATE_mode (n : Nat) : Fld := ⟨aBAT_STATE n, 1, 0⟩
def BAT_STATE_chg_on (n : Nat) : Fld := ⟨aBAT_STATE n, 2, 2⟩
def BAT_STATE_chg_inhibit (n : Nat) : Fld := ⟨aBAT_STATE n, 3, 3⟩
def BAT_STATE_level (n : Nat) : Fld := ⟨aBAT_STATE n, 5, 4⟩
def BAT_STATE_learn (n : Nat) : Fld := ⟨aBAT_STATE n, 7, 6⟩
def BAT_STATE_comm_lost (n : Nat) : Fld := ⟨aBAT_STATE n, 8, 8⟩
def BAT_STATE_learn_done (n : Nat) : Fld := ⟨aBAT_STATE n, 9, 9⟩
def BAT_STATE_learn_disq (n : Nat) : Fld := ⟨aBAT_STATE n, 10, 10⟩
def BAT_STATE_test (n : Nat) : Fld := ⟨aBAT_STATE n, 11, 11⟩
def aBAT_V (n : Nat) : Nat := 0x9504 + 0x20 * n
def BAT_V_v (n : Nat) : Fld := ⟨aBAT_V n, 31, 0⟩
def aBAT_I (n : Nat) : Nat := 0x9508 + 0x20 * n
def BAT_I_v (n : Nat) : Fld := ⟨aBAT_I n, 31, 0⟩
def aBAT_Q (n : Nat) : Nat := 0x9510 + 0x20 * n
def BAT_Q_v (n : Nat) : Fld := ⟨aBAT_Q n, 31, 0⟩
def aBAT_QFULL (n : Nat) : Nat := 0x9518 + 0x20 * n
def BAT_QFULL_v (n : Nat) : Fld := ⟨aBAT_QFULL n, 31, 0⟩
def aBAT_T (n : Nat) : Nat := 0x950C + 0x20 * n
def BAT_T_v (n : Nat) : Fld := ⟨aBAT_T n, 15, 0⟩
def aBAT_SOC (n : Nat) : Nat := 0x9514 + 0x20 * n
def BAT_SOC_rescaled (n : Nat) : Fld := ⟨aBAT_SOC n, 15, 0⟩
def BAT_SOC_raw (n : Nat) : Fld := ⟨aBAT_SOC n, 31, 16⟩
def aBAT_RINT (n : Nat) : Nat := 0x951C + 0x20 * n
def BAT_RINT_v (n : Nat) : Fld := ⟨aBAT_RINT n, 15, 0⟩
def aSLOT_STATE (n : Nat) : Nat := 0x60000 + 0x40 * n
def SLOT_STATE_state (n : Nat) : Fld := ⟨aSLOT_STATE n, 2, 0⟩
def SLOT_STATE_reason (n : Nat) : Fld := ⟨aSLOT_STATE n, 6, 3⟩
def SLOT_STATE_gate (n : Nat) : Fld := ⟨aSLOT_STATE n, 7, 7⟩
def SLOT_STATE_warn (n : Nat) : Fld := ⟨aSLOT_STATE n, 8, 8⟩
def SLOT_STATE_throttle (n : Nat) : Fld := ⟨aSLOT_STATE n, 9, 9⟩
def SLOT_STATE_fence_seen (n : Nat) : Fld := ⟨aSLOT_STATE n, 10, 10⟩
def aSLOT_I (n : Nat) : Nat := 0x60004 + 0x40 * n
def SLOT_I_v (n : Nat) : Fld := ⟨aSLOT_I n, 31, 0⟩
def aSLOT_V (n : Nat) : Nat := 0x60008 + 0x40 * n
def SLOT_V_v (n : Nat) : Fld := ⟨aSLOT_V n, 31, 0⟩
def aSLOT_P (n : Nat) : Nat := 0x6000C + 0x40 * n
def SLOT_P_v (n : Nat) : Fld := ⟨aSLOT_P n, 31, 0⟩
def aSLOT_E_LO (n : Nat) : Nat := 0x60010 + 0x40 * n
def SLOT_E_LO_v (n : Nat) : Fld := ⟨aSLOT_E_LO n, 31, 0⟩
def aSLOT_E_HI (n : Nat) : Nat := 0x60014 + 0x40 * n
def SLOT_E_HI_v (n : Nat) : Fld := ⟨aSLOT_E_HI n, 31, 0⟩
def aSLOT_CNT (n : Nat) : Nat := 0x60018 + 0x40 * n
def SLOT_CNT_missed (n : Nat) : Fld := ⟨aSLOT_CNT n, 15, 0⟩
def SLOT_CNT_timed (n : Nat) : Fld := ⟨aSLOT_CNT n, 23, 16⟩
def SLOT_CNT_fast (n : Nat) : Fld := ⟨aSLOT_CNT n, 31, 24⟩
def aBGT_CAP (n : Nat) : Nat := 0x61000 + 0x10 * n
def BGT_CAP_cap_mw (n : Nat) : Fld := ⟨aBGT_CAP n, 31, 0⟩
def aBGT_POWER (n : Nat) : Nat := 0x61004 + 0x10 * n
def BGT_POWER_power_mw (n : Nat) : Fld := ⟨aBGT_POWER n, 31, 0⟩
def aBGT_STATE (n : Nat) : Nat := 0x61008 + 0x10 * n
def BGT_STATE_cap_state (n : Nat) : Fld := ⟨aBGT_STATE n, 1, 0⟩
def BGT_STATE_class (n : Nat) : Fld := ⟨aBGT_STATE n, 4, 2⟩
def BGT_STATE_enforced_seen (n : Nat) : Fld := ⟨aBGT_STATE n, 5, 5⟩
def aCAP_STATUS : Nat := 0x63000
def CAP_STATUS_stage : Fld := ⟨aCAP_STATUS, 1, 0⟩
def CAP_STATUS_rank : Fld := ⟨aCAP_STATUS, 4, 2⟩
def CAP_STATUS_low_intact : Fld := ⟨aCAP_STATUS, 7, 5⟩
def aSEQ_STATE (n : Nat) : Nat := 0x64000 + 0x10 * n
def SEQ_STATE_state (n : Nat) : Fld := ⟨aSEQ_STATE n, 2, 0⟩
def SEQ_STATE_tslot (n : Nat) : Fld := ⟨aSEQ_STATE n, 10, 3⟩
def SEQ_STATE_latch_seen (n : Nat) : Fld := ⟨aSEQ_STATE n, 11, 11⟩
def SEQ_STATE_warn_seen (n : Nat) : Fld := ⟨aSEQ_STATE n, 12, 12⟩
def SEQ_STATE_rst (n : Nat) : Fld := ⟨aSEQ_STATE n, 13, 13⟩
def SEQ_STATE_fail_skein (n : Nat) : Fld := ⟨aSEQ_STATE n, 26, 16⟩
def aCHASSIS_PWR : Nat := 0x64800
def CHASSIS_PWR_state : Fld := ⟨aCHASSIS_PWR, 1, 0⟩
def CHASSIS_PWR_pressed : Fld := ⟨aCHASSIS_PWR, 2, 2⟩
def CHASSIS_PWR_press_seen : Fld := ⟨aCHASSIS_PWR, 3, 3⟩
def CHASSIS_PWR_force_seen : Fld := ⟨aCHASSIS_PWR, 4, 4⟩
def CHASSIS_PWR_mr_seen : Fld := ⟨aCHASSIS_PWR, 5, 5⟩
def CHASSIS_PWR_btn_action : Fld := ⟨aCHASSIS_PWR, 6, 6⟩
def aSEQ_LOG_SKIP : Nat := 0x64804
def SEQ_LOG_SKIP_count : Fld := ⟨aSEQ_LOG_SKIP, 31, 0⟩
def aRAIL_CNT0 (n : Nat) : Nat := 0x68000 + 0x8 * n
def RAIL_CNT0_starts (n : Nat) : Fld := ⟨aRAIL_CNT0 n, 15, 0⟩
def RAIL_CNT0_start_fail (n : Nat) : Fld := ⟨aRAIL_CNT0 n, 31, 16⟩
def aRAIL_CNT1 (n : Nat) : Nat := 0x68004 + 0x8 * n
def RAIL_CNT1_warnings (n : Nat) : Fld := ⟨aRAIL_CNT1 n, 15, 0⟩
def RAIL_CNT1_timed_off (n : Nat) : Fld := ⟨aRAIL_CNT1 n, 23, 16⟩
def RAIL_CNT1_lost (n : Nat) : Fld := ⟨aRAIL_CNT1 n, 31, 24⟩
def aADC_CTRL (n : Nat) : Nat := 0x8000 + 0x300 * n
def ADC_CTRL_en (n : Nat) : Fld := ⟨aADC_CTRL n, 0, 0⟩
def ADC_CTRL_continuous (n : Nat) : Fld := ⟨aADC_CTRL n, 1, 1⟩
def ADC_CTRL_start (n : Nat) : Fld := ⟨aADC_CTRL n, 2, 2⟩
def ADC_CTRL_stop (n : Nat) : Fld := ⟨aADC_CTRL n, 3, 3⟩
def ADC_CTRL_last (n : Nat) : Fld := ⟨aADC_CTRL n, 8, 4⟩
def aADC_STATUS (n : Nat) : Nat := 0x8004 + 0x300 * n
def ADC_STATUS_busy (n : Nat) : Fld := ⟨aADC_STATUS n, 0, 0⟩
def ADC_STATUS_overrun_seen (n : Nat) : Fld := ⟨aADC_STATUS n, 1, 1⟩
def ADC_STATUS_done (n : Nat) : Fld := ⟨aADC_STATUS n, 2, 2⟩
def ADC_STATUS_ow_seen (n : Nat) : Fld := ⟨aADC_STATUS n, 3, 3⟩
def ADC_STATUS_cal_busy (n : Nat) : Fld := ⟨aADC_STATUS n, 4, 4⟩
def aADC_OW_CFG (n : Nat) : Nat := 0x8008 + 0x300 * n
def ADC_OW_CFG_settle_us (n : Nat) : Fld := ⟨aADC_OW_CFG n, 9, 0⟩
def ADC_OW_CFG_thr (n : Nat) : Fld := ⟨aADC_OW_CFG n, 19, 10⟩
def ADC_OW_CFG_period_ms (n : Nat) : Fld := ⟨aADC_OW_CFG n, 29, 20⟩
def aADC_CNT_OVERRUN (n : Nat) : Nat := 0x8010 + 0x300 * n
def ADC_CNT_OVERRUN_v (n : Nat) : Fld := ⟨aADC_CNT_OVERRUN n, 31, 0⟩
def aADC_CNT_CONV (n : Nat) : Nat := 0x8014 + 0x300 * n
def ADC_CNT_CONV_v (n : Nat) : Fld := ⟨aADC_CNT_CONV n, 31, 0⟩
def aADC_SEQ (n : Nat) (i : Nat) : Nat := 0x8080 + 0x300 * n + 0x4 * i
def ADC_SEQ_input (n : Nat) (i : Nat) : Fld := ⟨aADC_SEQ n i, 4, 0⟩
def ADC_SEQ_a (n : Nat) (i : Nat) : Fld := ⟨aADC_SEQ n i, 11, 8⟩
def ADC_SEQ_shift (n : Nat) (i : Nat) : Fld := ⟨aADC_SEQ n i, 15, 12⟩
def aADC_RES (n : Nat) (i : Nat) : Nat := 0x8100 + 0x300 * n + 0x4 * i
def ADC_RES_value (n : Nat) (i : Nat) : Fld := ⟨aADC_RES n i, 15, 0⟩
def ADC_RES_valid (n : Nat) (i : Nat) : Fld := ⟨aADC_RES n i, 16, 16⟩
def ADC_RES_open (n : Nat) (i : Nat) : Fld := ⟨aADC_RES n i, 17, 17⟩
def ADC_RES_sat (n : Nat) (i : Nat) : Fld := ⟨aADC_RES n i, 18, 18⟩
def ADC_RES_seq (n : Nat) (i : Nat) : Fld := ⟨aADC_RES n i, 31, 20⟩
def aADC_CAL (n : Nat) (i : Nat) : Nat := 0x8180 + 0x300 * n + 0x4 * i
def ADC_CAL_z16 (n : Nat) (i : Nat) : Fld := ⟨aADC_CAL n i, 15, 0⟩
def ADC_CAL_gain (n : Nat) (i : Nat) : Fld := ⟨aADC_CAL n i, 31, 16⟩
def aADC_INCFG (n : Nat) (i : Nat) : Nat := 0x8200 + 0x300 * n + 0x4 * i
def ADC_INCFG_ow_en (n : Nat) (i : Nat) : Fld := ⟨aADC_INCFG n i, 0, 0⟩
def ADC_INCFG_ow_dir (n : Nat) (i : Nat) : Fld := ⟨aADC_INCFG n i, 1, 1⟩
def ADC_INCFG_ow_10ua (n : Nat) (i : Nat) : Fld := ⟨aADC_INCFG n i, 2, 2⟩
def ADC_INCFG_cal_state (n : Nat) (i : Nat) : Fld := ⟨aADC_INCFG n i, 4, 3⟩
def aMAINS_CFG : Nat := 0x8C00
def MAINS_CFG_l1 : Fld := ⟨aMAINS_CFG, 6, 0⟩
def MAINS_CFG_l2 : Fld := ⟨aMAINS_CFG, 13, 7⟩
def MAINS_CFG_l3 : Fld := ⟨aMAINS_CFG, 20, 14⟩
def MAINS_CFG_en : Fld := ⟨aMAINS_CFG, 21, 21⟩
def MAINS_CFG_hys : Fld := ⟨aMAINS_CFG, 31, 22⟩
def aMAINS_ZERO : Nat := 0x8C04
def MAINS_ZERO_zero : Fld := ⟨aMAINS_ZERO, 11, 0⟩
def aMAINS_PERIOD : Nat := 0x8C08
def MAINS_PERIOD_period : Fld := ⟨aMAINS_PERIOD, 31, 0⟩
def aMAINS_RMS (i : Nat) : Nat := 0x8C0C + 0x4 * i
def MAINS_RMS_rms (i : Nat) : Fld := ⟨aMAINS_RMS i, 15, 0⟩
def aTHM_TEMP (i : Nat) : Nat := 0xC000 + 0x4 * i
def THM_TEMP_temp (i : Nat) : Fld := ⟨aTHM_TEMP i, 15, 0⟩
def THM_TEMP_valid (i : Nat) : Fld := ⟨aTHM_TEMP i, 16, 16⟩
def aTHM_LVL0 : Nat := 0xC080
def THM_LVL0_thr : Fld := ⟨aTHM_LVL0, 15, 0⟩
def THM_LVL0_hys : Fld := ⟨aTHM_LVL0, 31, 16⟩
def aTHM_LVL1 : Nat := 0xC088
def THM_LVL1_thr : Fld := ⟨aTHM_LVL1, 15, 0⟩
def THM_LVL1_hys : Fld := ⟨aTHM_LVL1, 31, 16⟩
def aTHM_LVL2 : Nat := 0xC090
def THM_LVL2_thr : Fld := ⟨aTHM_LVL2, 15, 0⟩
def THM_LVL2_hys : Fld := ⟨aTHM_LVL2, 31, 16⟩
def aTHM_LVLR (i : Nat) : Nat := 0xC084 + 0x8 * i
def THM_LVLR_rate_mode (i : Nat) : Fld := ⟨aTHM_LVLR i, 0, 0⟩
def THM_LVLR_window (i : Nat) : Fld := ⟨aTHM_LVLR i, 3, 1⟩
def THM_LVLR_rate (i : Nat) : Fld := ⟨aTHM_LVLR i, 31, 16⟩
def aTHM_STATUS : Nat := 0xC0A0
def THM_STATUS_level : Fld := ⟨aTHM_STATUS, 1, 0⟩
def THM_STATUS_stage : Fld := ⟨aTHM_STATUS, 4, 2⟩
def THM_STATUS_warn_seen : Fld := ⟨aTHM_STATUS, 5, 5⟩
def THM_STATUS_throttle_seen : Fld := ⟨aTHM_STATUS, 6, 6⟩
def THM_STATUS_shutdown_seen : Fld := ⟨aTHM_STATUS, 7, 7⟩
def THM_STATUS_sensor_fault : Fld := ⟨aTHM_STATUS, 8, 8⟩
def THM_STATUS_last_cause : Fld := ⟨aTHM_STATUS, 10, 9⟩
def aTHM_CTRL : Nat := 0xC0A4
def THM_CTRL_restart_en : Fld := ⟨aTHM_CTRL, 0, 0⟩
def THM_CTRL_transit_en : Fld := ⟨aTHM_CTRL, 1, 1⟩
def aTHM_REMOTE0 (i : Nat) : Nat := 0xC0C0 + 0x8 * i
def THM_REMOTE0_warn (i : Nat) : Fld := ⟨aTHM_REMOTE0 i, 15, 0⟩
def THM_REMOTE0_throttle (i : Nat) : Fld := ⟨aTHM_REMOTE0 i, 31, 16⟩
def aTHM_REMOTE1 (i : Nat) : Nat := 0xC0C4 + 0x8 * i
def THM_REMOTE1_derate_warn (i : Nat) : Fld := ⟨aTHM_REMOTE1 i, 15, 0⟩
def THM_REMOTE1_derate_thr (i : Nat) : Fld := ⟨aTHM_REMOTE1 i, 31, 16⟩
def aTHM_ZONE (i : Nat) : Nat := 0xC100 + 0x4 * i
def THM_ZONE_slots (i : Nat) : Fld := ⟨aTHM_ZONE i, 31, 0⟩
def aTHM_FAN0 (i : Nat) : Nat := 0xC200 + 0x10 * i
def THM_FAN0_t_lo (i : Nat) : Fld := ⟨aTHM_FAN0 i, 15, 0⟩
def THM_FAN0_t_hi (i : Nat) : Fld := ⟨aTHM_FAN0 i, 31, 16⟩
def aTHM_FAN1 (i : Nat) : Nat := 0xC204 + 0x10 * i
def THM_FAN1_duty_min (i : Nat) : Fld := ⟨aTHM_FAN1 i, 15, 0⟩
def THM_FAN1_duty_max (i : Nat) : Fld := ⟨aTHM_FAN1 i, 31, 16⟩
def aTHM_FAN2 (i : Nat) : Nat := 0xC208 + 0x10 * i
def THM_FAN2_sensors (i : Nat) : Fld := ⟨aTHM_FAN2 i, 12, 0⟩
def THM_FAN2_auto (i : Nat) : Fld := ⟨aTHM_FAN2 i, 13, 13⟩
def aPAIR_CFG : Nat := 0x30000
def PAIR_CFG_pos : Fld := ⟨aPAIR_CFG, 0, 0⟩
def PAIR_CFG_home : Fld := ⟨aPAIR_CFG, 1, 1⟩
def PAIR_CFG_reclaim_en : Fld := ⟨aPAIR_CFG, 2, 2⟩
def PAIR_CFG_auto_transit : Fld := ⟨aPAIR_CFG, 3, 3⟩
def PAIR_CFG_transit_h : Fld := ⟨aPAIR_CFG, 31, 16⟩
def aPAIR_TIMING : Nat := 0x30004
def PAIR_TIMING_prove_s : Fld := ⟨aPAIR_TIMING, 15, 0⟩
def PAIR_TIMING_reclaim_s : Fld := ⟨aPAIR_TIMING, 31, 16⟩
def aPAIR_STATUS : Nat := 0x30008
def PAIR_STATUS_state : Fld := ⟨aPAIR_STATUS, 2, 0⟩
def PAIR_STATUS_partner_state : Fld := ⟨aPAIR_STATUS, 5, 3⟩
def PAIR_STATUS_link_up : Fld := ⟨aPAIR_STATUS, 6, 6⟩
def PAIR_STATUS_alive_in : Fld := ⟨aPAIR_STATUS, 7, 7⟩
def PAIR_STATUS_covered_all : Fld := ⟨aPAIR_STATUS, 8, 8⟩
def PAIR_STATUS_transit_pending : Fld := ⟨aPAIR_STATUS, 9, 9⟩
def PAIR_STATUS_pos_conflict : Fld := ⟨aPAIR_STATUS, 10, 10⟩
def PAIR_STATUS_lost_seen : Fld := ⟨aPAIR_STATUS, 11, 11⟩
def PAIR_STATUS_yield_seen : Fld := ⟨aPAIR_STATUS, 12, 12⟩
def aPAIR_OWN (i : Nat) : Nat := 0x30010 + 0x4 * i
def PAIR_OWN_ports (i : Nat) : Fld := ⟨aPAIR_OWN i, 31, 0⟩
def aPAIR_COVER (i : Nat) : Nat := 0x30018 + 0x4 * i
def PAIR_COVER_ports (i : Nat) : Fld := ⟨aPAIR_COVER i, 31, 0⟩
def aPAIR_CNT_HB_MISS : Nat := 0x30020
def PAIR_CNT_HB_MISS_v : Fld := ⟨aPAIR_CNT_HB_MISS, 31, 0⟩
def aPAIR_CNT_DIGEST : Nat := 0x30024
def PAIR_CNT_DIGEST_v : Fld := ⟨aPAIR_CNT_DIGEST, 31, 0⟩
def aPAIR_CNT_MISMATCH : Nat := 0x30028
def PAIR_CNT_MISMATCH_v : Fld := ⟨aPAIR_CNT_MISMATCH, 31, 0⟩
def aPAIR_CNT_IMAGE : Nat := 0x3002C
def PAIR_CNT_IMAGE_v : Fld := ⟨aPAIR_CNT_IMAGE, 31, 0⟩
def aPAIR_CNT_CLAIM : Nat := 0x30030
def PAIR_CNT_CLAIM_v : Fld := ⟨aPAIR_CNT_CLAIM, 31, 0⟩
def aPAIR_CNT_TRANSIT : Nat := 0x30034
def PAIR_CNT_TRANSIT_v : Fld := ⟨aPAIR_CNT_TRANSIT, 31, 0⟩
def aPAIR_CNT_OOS_CLAIM : Nat := 0x30038
def PAIR_CNT_OOS_CLAIM_v : Fld := ⟨aPAIR_CNT_OOS_CLAIM, 31, 0⟩
def aPAIR_LAST_LO : Nat := 0x30040
def PAIR_LAST_LO_time : Fld := ⟨aPAIR_LAST_LO, 31, 0⟩
def aPAIR_LAST_HI : Nat := 0x30044
def PAIR_LAST_HI_time : Fld := ⟨aPAIR_LAST_HI, 31, 0⟩
def aPAIR_TERM (i : Nat) : Nat := 0x30100 + 0x4 * i
def PAIR_TERM_term (i : Nat) : Fld := ⟨aPAIR_TERM i, 15, 0⟩
def PAIR_TERM_claim_pending (i : Nat) : Fld := ⟨aPAIR_TERM i, 16, 16⟩
def aFLT_STATUS : Nat := 0x1000
def FLT_STATUS_fault_n : Fld := ⟨aFLT_STATUS, 0, 0⟩
def FLT_STATUS_alarms : Fld := ⟨aFLT_STATUS, 12, 1⟩
def FLT_STATUS_table_full : Fld := ⟨aFLT_STATUS, 13, 13⟩
def FLT_STATUS_last_rung : Fld := ⟨aFLT_STATUS, 16, 14⟩
def FLT_STATUS_safe_stop_seen : Fld := ⟨aFLT_STATUS, 17, 17⟩
def FLT_STATUS_inject_armed : Fld := ⟨aFLT_STATUS, 18, 18⟩
def aFLT_CTRL : Nat := 0x1004
def FLT_CTRL_fault_n_en : Fld := ⟨aFLT_CTRL, 0, 0⟩
def FLT_CTRL_ladder_en : Fld := ⟨aFLT_CTRL, 1, 1⟩
def FLT_CTRL_max_rung : Fld := ⟨aFLT_CTRL, 4, 2⟩
def aFLT_LOG_SEQ : Nat := 0x1008
def FLT_LOG_SEQ_v : Fld := ⟨aFLT_LOG_SEQ, 31, 0⟩
def aFLT_PREMATURE : Nat := 0x100C
def FLT_PREMATURE_v : Fld := ⟨aFLT_PREMATURE, 31, 0⟩
def aFLT_SAFE_CNT : Nat := 0x1010
def FLT_SAFE_CNT_v : Fld := ⟨aFLT_SAFE_CNT, 3, 0⟩
def aFLT_KIND (i : Nat) : Nat := 0x1100 + 0x4 * i
def FLT_KIND_class (i : Nat) : Fld := ⟨aFLT_KIND i, 1, 0⟩
def FLT_KIND_rung_first (i : Nat) : Fld := ⟨aFLT_KIND i, 4, 2⟩
def FLT_KIND_rung_max (i : Nat) : Fld := ⟨aFLT_KIND i, 7, 5⟩
def FLT_KIND_fixed (i : Nat) : Fld := ⟨aFLT_KIND i, 8, 8⟩
def FLT_KIND_level (i : Nat) : Fld := ⟨aFLT_KIND i, 9, 9⟩
def FLT_KIND_grace_unit (i : Nat) : Fld := ⟨aFLT_KIND i, 10, 10⟩
def FLT_KIND_grace_val (i : Nat) : Fld := ⟨aFLT_KIND i, 24, 11⟩
def aFLT_KSTAT (i : Nat) : Nat := 0x1500 + 0x4 * i
def FLT_KSTAT_open (i : Nat) : Fld := ⟨aFLT_KSTAT i, 11, 0⟩
def FLT_KSTAT_seen (i : Nat) : Fld := ⟨aFLT_KSTAT i, 12, 12⟩
def aFLT_KCNT (i : Nat) : Nat := 0x1900 + 0x4 * i
def FLT_KCNT_raises (i : Nat) : Fld := ⟨aFLT_KCNT i, 31, 0⟩
def aNW_CTRL : Nat := 0x40000
def NW_CTRL_capture_en : Fld := ⟨aNW_CTRL, 0, 0⟩
def NW_CTRL_freeze : Fld := ⟨aNW_CTRL, 1, 1⟩
def NW_CTRL_post : Fld := ⟨aNW_CTRL, 7, 2⟩
def aNW_STATUS : Nat := 0x40004
def NW_STATUS_scan_done : Fld := ⟨aNW_STATUS, 0, 0⟩
def NW_STATUS_in_progress : Fld := ⟨aNW_STATUS, 2, 1⟩
def NW_STATUS_full : Fld := ⟨aNW_STATUS, 3, 3⟩
def NW_STATUS_skip_seen : Fld := ⟨aNW_STATUS, 4, 4⟩
def NW_STATUS_torn_seen : Fld := ⟨aNW_STATUS, 5, 5⟩
def aNW_CAP_ID : Nat := 0x40008
def NW_CAP_ID_id : Fld := ⟨aNW_CAP_ID, 31, 0⟩
def aNV_STATUS : Nat := 0x4000C
def NV_STATUS_nv0_lost : Fld := ⟨aNV_STATUS, 0, 0⟩
def NV_STATUS_nv1_lost : Fld := ⟨aNV_STATUS, 1, 1⟩
def NV_STATUS_holdup_ok : Fld := ⟨aNV_STATUS, 2, 2⟩
def NV_STATUS_writing : Fld := ⟨aNV_STATUS, 3, 3⟩
def aNW_CNT_TORN : Nat := 0x40010
def NW_CNT_TORN_v : Fld := ⟨aNW_CNT_TORN, 31, 0⟩
def aNW_CNT_UNREAD : Nat := 0x40014
def NW_CNT_UNREAD_v : Fld := ⟨aNW_CNT_UNREAD, 31, 0⟩
def aNW_CNT_CORR : Nat := 0x40018
def NW_CNT_CORR_v : Fld := ⟨aNW_CNT_CORR, 31, 0⟩
def aNW_CNT_SKIP : Nat := 0x4001C
def NW_CNT_SKIP_v : Fld := ⟨aNW_CNT_SKIP, 31, 0⟩
def aNW_CNT_REWRITE : Nat := 0x40020
def NW_CNT_REWRITE_v : Fld := ⟨aNW_CNT_REWRITE, 31, 0⟩
def aTW_CTRL (n : Nat) : Nat := 0xA000 + 0x100 * n
def TW_CTRL_mode (n : Nat) : Fld := ⟨aTW_CTRL n, 1, 0⟩
def TW_CTRL_speed (n : Nat) : Fld := ⟨aTW_CTRL n, 3, 2⟩
def TW_CTRL_wake_en (n : Nat) : Fld := ⟨aTW_CTRL n, 4, 4⟩
def TW_CTRL_attn_det (n : Nat) : Fld := ⟨aTW_CTRL n, 5, 5⟩
def TW_CTRL_attn_en (n : Nat) : Fld := ⟨aTW_CTRL n, 6, 6⟩
def TW_CTRL_mask_mode (n : Nat) : Fld := ⟨aTW_CTRL n, 7, 7⟩
def aTW_TADDR (n : Nat) : Nat := 0xA004 + 0x100 * n
def TW_TADDR_addr0 (n : Nat) : Fld := ⟨aTW_TADDR n, 6, 0⟩
def TW_TADDR_v0 (n : Nat) : Fld := ⟨aTW_TADDR n, 7, 7⟩
def TW_TADDR_addr1 (n : Nat) : Fld := ⟨aTW_TADDR n, 14, 8⟩
def TW_TADDR_v1 (n : Nat) : Fld := ⟨aTW_TADDR n, 15, 15⟩
def TW_TADDR_addr2 (n : Nat) : Fld := ⟨aTW_TADDR n, 22, 16⟩
def TW_TADDR_v2 (n : Nat) : Fld := ⟨aTW_TADDR n, 23, 23⟩
def TW_TADDR_addr3 (n : Nat) : Fld := ⟨aTW_TADDR n, 30, 24⟩
def TW_TADDR_v3 (n : Nat) : Fld := ⟨aTW_TADDR n, 31, 31⟩
def aTW_STATUS (n : Nat) : Nat := 0xA008 + 0x100 * n
def TW_STATUS_bus (n : Nat) : Fld := ⟨aTW_STATUS n, 1, 0⟩
def TW_STATUS_stretch_seen (n : Nat) : Fld := ⟨aTW_STATUS n, 2, 2⟩
def TW_STATUS_stuck_seen (n : Nat) : Fld := ⟨aTW_STATUS n, 3, 3⟩
def TW_STATUS_attn_seen (n : Nat) : Fld := ⟨aTW_STATUS n, 4, 4⟩
def TW_STATUS_wake_seen (n : Nat) : Fld := ⟨aTW_STATUS n, 5, 5⟩
def TW_STATUS_arb_lost_seen (n : Nat) : Fld := ⟨aTW_STATUS n, 6, 6⟩
def TW_STATUS_last_addr (n : Nat) : Fld := ⟨aTW_STATUS n, 13, 7⟩
def aTW_ATTN (n : Nat) : Nat := 0xA00C + 0x100 * n
def TW_ATTN_addr (n : Nat) : Fld := ⟨aTW_ATTN n, 6, 0⟩
def aTW_CNT_NACK (n : Nat) : Nat := 0xA010 + 0x100 * n
def TW_CNT_NACK_v (n : Nat) : Fld := ⟨aTW_CNT_NACK n, 31, 0⟩
def aTW_CNT_PEC (n : Nat) : Nat := 0xA014 + 0x100 * n
def TW_CNT_PEC_v (n : Nat) : Fld := ⟨aTW_CNT_PEC n, 31, 0⟩
def aTW_CNT_STRETCH (n : Nat) : Nat := 0xA018 + 0x100 * n
def TW_CNT_STRETCH_v (n : Nat) : Fld := ⟨aTW_CNT_STRETCH n, 31, 0⟩
def aTW_CNT_RECOVER (n : Nat) : Nat := 0xA01C + 0x100 * n
def TW_CNT_RECOVER_v (n : Nat) : Fld := ⟨aTW_CNT_RECOVER n, 31, 0⟩
def aTW_CNT_ARB (n : Nat) : Nat := 0xA020 + 0x100 * n
def TW_CNT_ARB_v (n : Nat) : Fld := ⟨aTW_CNT_ARB n, 31, 0⟩
def aTW_CNT_ATTN (n : Nat) : Nat := 0xA024 + 0x100 * n
def TW_CNT_ATTN_v (n : Nat) : Fld := ⟨aTW_CNT_ATTN n, 31, 0⟩
def aSEC_STATUS : Nat := 0x50000
def SEC_STATUS_drbg : Fld := ⟨aSEC_STATUS, 1, 0⟩
def SEC_STATUS_src_ok : Fld := ⟨aSEC_STATUS, 3, 2⟩
def SEC_STATUS_retest_fail : Fld := ⟨aSEC_STATUS, 5, 4⟩
def SEC_STATUS_queue : Fld := ⟨aSEC_STATUS, 15, 6⟩
def SEC_STATUS_entropy_seen : Fld := ⟨aSEC_STATUS, 16, 16⟩
def SEC_STATUS_key_seen : Fld := ⟨aSEC_STATUS, 17, 17⟩
def aSEC_CNT_RCT : Nat := 0x50004
def SEC_CNT_RCT_v : Fld := ⟨aSEC_CNT_RCT, 31, 0⟩
def aSEC_CNT_APT : Nat := 0x50008
def SEC_CNT_APT_v : Fld := ⟨aSEC_CNT_APT, 31, 0⟩
def aSEC_CNT_RETEST : Nat := 0x5000C
def SEC_CNT_RETEST_v : Fld := ⟨aSEC_CNT_RETEST, 31, 0⟩
def aSEC_CNT_ENTROPY : Nat := 0x50010
def SEC_CNT_ENTROPY_v : Fld := ⟨aSEC_CNT_ENTROPY, 31, 0⟩
def aFW_STATUS : Nat := 0x50100
def FW_STATUS_slot : Fld := ⟨aFW_STATUS, 0, 0⟩
def FW_STATUS_trial : Fld := ⟨aFW_STATUS, 1, 1⟩
def FW_STATUS_plan : Fld := ⟨aFW_STATUS, 2, 2⟩
def FW_STATUS_fallback_seen : Fld := ⟨aFW_STATUS, 3, 3⟩
def FW_STATUS_confirm_seen : Fld := ⟨aFW_STATUS, 4, 4⟩
def FW_STATUS_since_s : Fld := ⟨aFW_STATUS, 14, 5⟩
def FW_STATUS_held_s : Fld := ⟨aFW_STATUS, 21, 15⟩
def FW_STATUS_boot_fail_a : Fld := ⟨aFW_STATUS, 22, 22⟩
def FW_STATUS_boot_fail_b : Fld := ⟨aFW_STATUS, 23, 23⟩
def aFW_VER_RUN : Nat := 0x50104
def FW_VER_RUN_version : Fld := ⟨aFW_VER_RUN, 23, 0⟩
def FW_VER_RUN_sec_version : Fld := ⟨aFW_VER_RUN, 31, 24⟩
def aFW_VER_OTHER : Nat := 0x50108
def FW_VER_OTHER_version : Fld := ⟨aFW_VER_OTHER, 23, 0⟩
def FW_VER_OTHER_sec_version : Fld := ⟨aFW_VER_OTHER, 31, 24⟩
def aFW_SLOTS : Nat := 0x5010C
def FW_SLOTS_state_a : Fld := ⟨aFW_SLOTS, 1, 0⟩
def FW_SLOTS_state_b : Fld := ⟨aFW_SLOTS, 3, 2⟩
def FW_SLOTS_fused_sec : Fld := ⟨aFW_SLOTS, 9, 4⟩
def FW_SLOTS_pinned : Fld := ⟨aFW_SLOTS, 11, 10⟩
def FW_SLOTS_pin_next : Fld := ⟨aFW_SLOTS, 13, 12⟩
def aRST_STATUS : Nat := 0x100
def RST_STATUS_kind : Fld := ⟨aRST_STATUS, 1, 0⟩
def RST_STATUS_cause : Fld := ⟨aRST_STATUS, 5, 2⟩
def RST_STATUS_phase : Fld := ⟨aRST_STATUS, 8, 6⟩
def RST_STATUS_alone : Fld := ⟨aRST_STATUS, 9, 9⟩
def RST_STATUS_mixed_seen : Fld := ⟨aRST_STATUS, 10, 10⟩
def aRST_CNT : Nat := 0x104
def RST_CNT_restarts : Fld := ⟨aRST_CNT, 15, 0⟩
def RST_CNT_adopted : Fld := ⟨aRST_CNT, 22, 16⟩
def RST_CNT_cast_on : Fld := ⟨aRST_CNT, 29, 23⟩
def aRST_TIME_LO : Nat := 0x108
def RST_TIME_LO_time : Fld := ⟨aRST_TIME_LO, 31, 0⟩
def aRST_TIME_HI : Nat := 0x10C
def RST_TIME_HI_time : Fld := ⟨aRST_TIME_HI, 31, 0⟩
def aID_DEVICE : Nat := 0x0
def ID_DEVICE_device : Fld := ⟨aID_DEVICE, 15, 0⟩
def ID_DEVICE_family : Fld := ⟨aID_DEVICE, 23, 16⟩
def ID_DEVICE_package : Fld := ⟨aID_DEVICE, 31, 24⟩
def aID_STEP : Nat := 0x4
def ID_STEP_digit : Fld := ⟨aID_STEP, 3, 0⟩
def ID_STEP_letter : Fld := ⟨aID_STEP, 7, 4⟩
def aID_IF : Nat := 0x8
def ID_IF_if_level : Fld := ⟨aID_IF, 7, 0⟩
def ID_IF_if_max : Fld := ⟨aID_IF, 15, 8⟩
def ID_IF_if_min : Fld := ⟨aID_IF, 23, 16⟩
def aID_SERIAL_LO : Nat := 0xC
def ID_SERIAL_LO_serial : Fld := ⟨aID_SERIAL_LO, 31, 0⟩
def aID_SERIAL_HI : Nat := 0x10
def ID_SERIAL_HI_serial : Fld := ⟨aID_SERIAL_HI, 31, 0⟩
def aID_DIES : Nat := 0x14
def ID_DIES_present : Fld := ⟨aID_DIES, 7, 0⟩
def ID_DIES_lost : Fld := ⟨aID_DIES, 15, 8⟩
def aID_CAPS : Nat := 0x18
def ID_CAPS_ports : Fld := ⟨aID_CAPS, 7, 0⟩
def ID_CAPS_engines : Fld := ⟨aID_CAPS, 15, 8⟩
def ID_CAPS_vi_max : Fld := ⟨aID_CAPS, 23, 16⟩
def ID_CAPS_spares : Fld := ⟨aID_CAPS, 31, 24⟩
def aGLB_CTRL : Nat := 0x20
def GLB_CTRL_debug_lock : Fld := ⟨aGLB_CTRL, 0, 0⟩
def GLB_CTRL_ur_unmapped : Fld := ⟨aGLB_CTRL, 1, 1⟩
def GLB_CTRL_coll_cnt_en : Fld := ⟨aGLB_CTRL, 2, 2⟩
def aGLB_STATUS : Nat := 0x24
def GLB_STATUS_debug_locked : Fld := ⟨aGLB_STATUS, 0, 0⟩
def GLB_STATUS_halt : Fld := ⟨aGLB_STATUS, 1, 1⟩
def GLB_STATUS_unmapped_seen : Fld := ⟨aGLB_STATUS, 2, 2⟩
def aGLB_CNT_COLLIDE : Nat := 0x28
def GLB_CNT_COLLIDE_count : Fld := ⟨aGLB_CNT_COLLIDE, 31, 0⟩
def aGLB_SCRATCH : Nat := 0x2C
def GLB_SCRATCH_value : Fld := ⟨aGLB_SCRATCH, 31, 0⟩

/-- State and sense-open of local stitch j of port p, and state and comm_lost of rectifier r. -/
def STITCH_STATE_state (p j : Nat) : Fld := ⟨aSTITCH_STATE p (j / 8), 4 * (j % 8) + 2, 4 * (j % 8)⟩
def STITCH_STATE_open (p j : Nat) : Fld := ⟨aSTITCH_STATE p (j / 8), 4 * (j % 8) + 3, 4 * (j % 8) + 3⟩
def STITCH_FLT_bit (p j : Nat) : Fld := ⟨aSTITCH_FLT p (j / 32), j % 32, j % 32⟩
def RECT_STATE_state (r : Nat) : Fld := ⟨aRECT_STATE (r / 8), 4 * (r % 8) + 2, 4 * (r % 8)⟩
def RECT_STATE_lost (r : Nat) : Fld := ⟨aRECT_STATE (r / 8), 4 * (r % 8) + 3, 4 * (r % 8) + 3⟩
def RECT_ALERT_bit (r : Nat) : Fld := ⟨aRECT_ALERT (r / 32), r % 32, r % 32⟩
def PAIR_OWN_bit (p : Nat) : Fld := ⟨aPAIR_OWN (p / 32), p % 32, p % 32⟩
def PAIR_COVER_bit (p : Nat) : Fld := ⟨aPAIR_COVER (p / 32), p % 32, p % 32⟩
def ARB_MASK_bit (p e : Nat) : Fld := ⟨aARB_MASK p, e % 32, e % 32⟩
def VI_SLOT_BUSY_bit (mb k : Nat) : Fld := ⟨aVI_SLOT_BUSY mb (k / 32), k % 32, k % 32⟩
def THM_LVL_thr (j : Nat) : Fld := ⟨0xC080 + 8 * j, 15, 0⟩
def THM_LVL_hys (j : Nat) : Fld := ⟨0xC080 + 8 * j, 31, 16⟩

def regs_win0 : List RegSpec := [
  ⟨0x1000000, 0x10000, 257, 0x1, 1, [⟨7, 0, .ro, 0⟩, ⟨15, 8, .ro, 3⟩, ⟨31, 16, .ro, 0⟩]⟩,
  ⟨0x1000004, 0x10000, 257, 0x1, 1, [⟨0, 0, .ro, 0⟩, ⟨1, 1, .ro, 0⟩, ⟨2, 2, .hsW1c, 0⟩, ⟨3, 3, .hsW1c, 0⟩, ⟨4, 4, .hsW1c, 0⟩]⟩,
  ⟨0x1000008, 0x10000, 257, 0x1, 1, [⟨15, 0, .rw, 0⟩]⟩,
  ⟨0x1000010, 0x10000, 257, 0x4, 2, [⟨31, 0, .ro, 0⟩]⟩,
  ⟨0x1000100, 0x10000, 257, 0x4, 2, [⟨31, 0, .wo, 0⟩]⟩,
  ⟨0x1000400, 0x10000, 257, 0x1, 1, [⟨8, 0, .ro, 0⟩]⟩,
  ⟨0x1000404, 0x10000, 257, 0x1, 1, [⟨8, 0, .rw, 0⟩]⟩,
  ⟨0x1000408, 0x10000, 257, 0x1, 1, [⟨0, 0, .rw, 1⟩, ⟨15, 8, .rw, 1⟩, ⟨31, 16, .rw, 0⟩]⟩,
  ⟨0x1000410, 0x10000, 257, 0x1, 1, [⟨7, 0, .ro, 0⟩, ⟨8, 8, .hsW1c, 0⟩]⟩,
  ⟨0x1000414, 0x10000, 257, 0x1, 1, [⟨7, 0, .rw, 0⟩]⟩,
  ⟨0x1000020, 0x10000, 257, 0x1, 1, [⟨1, 0, .ro, 0⟩, ⟨3, 2, .ro, 0⟩, ⟨4, 4, .ro, 0⟩, ⟨6, 5, .ro, 0⟩, ⟨31, 16, .ro, 0⟩]⟩,
  ⟨0x1000800, 0x10000, 257, 0x1, 1, [⟨31, 0, .ro, 0⟩]⟩,
  ⟨0x1000804, 0x10000, 257, 0x1, 1, [⟨31, 0, .ro, 0⟩]⟩,
  ⟨0x1000808, 0x10000, 257, 0x1, 1, [⟨31, 0, .ro, 0⟩]⟩,
  ⟨0x100080C, 0x10000, 257, 0x1, 1, [⟨1, 0, .ro, 0⟩, ⟨3, 2, .ro, 0⟩]⟩,
  ⟨0x1000810, 0x10000, 257, 0x1, 1, [⟨31, 0, .ro, 0⟩]⟩,
  ⟨0x1000814, 0x10000, 257, 0x1, 1, [⟨31, 0, .ro, 0⟩]⟩]
/-- The registers of the region *win*. -/
def regs_win : List RegSpec := regs_win0

def regs_mer0 : List RegSpec := [
  ⟨0x4000, 0x1000000, 1, 0x1, 1, [⟨31, 0, .ro, 0⟩]⟩,
  ⟨0x4004, 0x1000000, 1, 0x1, 1, [⟨31, 0, .ro, 0⟩]⟩,
  ⟨0x4008, 0x1000000, 1, 0x1, 1, [⟨1, 0, .ro, 2⟩, ⟨2, 2, .ro, 0⟩, ⟨3, 3, .ro, 0⟩]⟩,
  ⟨0x400C, 0x1000000, 1, 0x1, 1, [⟨31, 0, .ro, 0⟩]⟩,
  ⟨0x4010, 0x1000000, 1, 0x1, 1, [⟨15, 0, .ro, 0⟩]⟩,
  ⟨0x4100, 0x20, 64, 0x1, 1, [⟨2, 0, .rw, 0⟩, ⟨3, 3, .rw, 0⟩, ⟨4, 4, .rw, 0⟩, ⟨10, 5, .rw, 0⟩, ⟨17, 11, .rw, 0⟩, ⟨19, 18, .rw, 0⟩]⟩,
  ⟨0x4104, 0x20, 64, 0x1, 1, [⟨31, 0, .sh, 65536⟩]⟩,
  ⟨0x4108, 0x20, 64, 0x1, 1, [⟨31, 0, .sh, 0⟩]⟩,
  ⟨0x410C, 0x20, 64, 0x1, 1, [⟨15, 0, .sh, 0⟩]⟩,
  ⟨0x4110, 0x20, 64, 0x1, 1, [⟨31, 0, .rw, 0⟩]⟩,
  ⟨0x4114, 0x20, 64, 0x1, 1, [⟨15, 0, .rw, 0⟩]⟩,
  ⟨0x4118, 0x20, 64, 0x1, 1, [⟨31, 0, .sh, 0⟩]⟩,
  ⟨0x411C, 0x20, 64, 0x1, 1, [⟨0, 0, .ro, 0⟩, ⟨1, 1, .ro, 0⟩, ⟨2, 2, .hsW1c, 0⟩, ⟨3, 3, .ro, 0⟩]⟩,
  ⟨0x5000, 0x10, 512, 0x1, 1, [⟨31, 0, .rw, 0⟩]⟩,
  ⟨0x5004, 0x10, 512, 0x1, 1, [⟨15, 0, .rw, 0⟩, ⟨21, 16, .rw, 0⟩]⟩,
  ⟨0x5008, 0x10, 512, 0x1, 1, [⟨0, 0, .rw, 0⟩, ⟨1, 1, .rw, 0⟩, ⟨2, 2, .hsW1c, 0⟩, ⟨3, 3, .hsW1c, 0⟩, ⟨7, 4, .rw, 0⟩, ⟨13, 8, .rw, 0⟩]⟩,
  ⟨0x500C, 0x10, 512, 0x1, 1, [⟨31, 0, .rw, 0⟩]⟩,
  ⟨0x7800, 0x1000000, 1, 0x1, 1, [⟨12, 0, .ro, 0⟩, ⟨31, 16, .rw, 0⟩]⟩,
  ⟨0x7000, 0x1000000, 1, 0x4, 16, [⟨15, 0, .sh, 1000⟩, ⟨31, 16, .sh, 1000⟩]⟩,
  ⟨0x7040, 0x1000000, 1, 0x1, 1, [⟨15, 0, .rw, 65535⟩, ⟨31, 16, .rw, 0⟩]⟩]
def regs_mer1 : List RegSpec := [
  ⟨0x7048, 0x1000000, 1, 0x4, 2, [⟨31, 0, .ro, 0⟩]⟩]
/-- The registers of the region *mer*. -/
def regs_mer : List RegSpec := regs_mer0 ++ regs_mer1

def regs_port0 : List RegSpec := [
  ⟨0x10000, 0x400, 64, 0x1, 1, [⟨0, 0, .rw, 1⟩, ⟨1, 1, .wo, 0⟩, ⟨3, 2, .rw, 0⟩, ⟨4, 4, .rw, 1⟩, ⟨5, 5, .rw, 1⟩]⟩,
  ⟨0x10004, 0x400, 64, 0x1, 1, [⟨2, 0, .ro, 0⟩, ⟨6, 3, .ro, 0⟩, ⟨14, 7, .ro, 0⟩, ⟨15, 15, .ro, 0⟩, ⟨16, 16, .ro, 0⟩, ⟨17, 17, .hsW1c, 0⟩, ⟨18, 18, .hsW1c, 0⟩]⟩,
  ⟨0x10008, 0x400, 64, 0x1, 1, [⟨7, 0, .ro, 0⟩, ⟨15, 8, .ro, 0⟩, ⟨23, 16, .ro, 0⟩, ⟨31, 24, .ro, 0⟩]⟩,
  ⟨0x1000C, 0x400, 64, 0x1, 1, [⟨7, 0, .rw, 0⟩]⟩,
  ⟨0x10010, 0x400, 64, 0x1, 1, [⟨7, 0, .ro, 0⟩, ⟨8, 8, .ro, 0⟩, ⟨16, 9, .ro, 0⟩]⟩,
  ⟨0x10014, 0x400, 64, 0x1, 1, [⟨15, 0, .ro, 0⟩, ⟨31, 16, .ro, 0⟩]⟩,
  ⟨0x10018, 0x400, 64, 0x1, 1, [⟨10, 0, .ro, 50⟩, ⟨14, 11, .ro, 0⟩]⟩,
  ⟨0x10040, 0x400, 64, 0x1, 1, [⟨31, 0, .rw, 0⟩]⟩,
  ⟨0x10044, 0x400, 64, 0x1, 1, [⟨31, 0, .rw, 0⟩]⟩,
  ⟨0x10048, 0x400, 64, 0x1, 1, [⟨31, 0, .rw, 0⟩]⟩,
  ⟨0x1004C, 0x400, 64, 0x1, 1, [⟨31, 0, .rw, 0⟩]⟩,
  ⟨0x10050, 0x400, 64, 0x1, 1, [⟨31, 0, .rw, 0⟩]⟩,
  ⟨0x10054, 0x400, 64, 0x1, 1, [⟨31, 0, .rw, 0⟩]⟩,
  ⟨0x10058, 0x400, 64, 0x1, 1, [⟨31, 0, .rw, 0⟩]⟩,
  ⟨0x1005C, 0x400, 64, 0x1, 1, [⟨31, 0, .rw, 0⟩]⟩,
  ⟨0x10060, 0x400, 64, 0x1, 1, [⟨31, 0, .rw, 0⟩]⟩,
  ⟨0x10064, 0x400, 64, 0x1, 1, [⟨31, 0, .rw, 0⟩]⟩,
  ⟨0x1030C, 0x400, 64, 0x1, 1, [⟨31, 0, .rw, 0⟩]⟩,
  ⟨0x10310, 0x400, 64, 0x1, 1, [⟨31, 0, .rw, 0⟩]⟩,
  ⟨0x10300, 0x400, 64, 0x1, 1, [⟨0, 0, .rw, 1⟩, ⟨1, 1, .wo, 0⟩]⟩]
def regs_port1 : List RegSpec := [
  ⟨0x10304, 0x400, 64, 0x1, 1, [⟨1, 0, .ro, 0⟩, ⟨2, 2, .hsW1c, 0⟩]⟩,
  ⟨0x10308, 0x400, 64, 0x1, 1, [⟨7, 0, .ro, 0⟩]⟩,
  ⟨0x10080, 0x400, 64, 0x1, 1, [⟨31, 0, .rw, 0⟩]⟩,
  ⟨0x10084, 0x400, 64, 0x1, 1, [⟨31, 0, .rw, 0⟩]⟩,
  ⟨0x10088, 0x400, 64, 0x1, 1, [⟨31, 0, .rw, 0⟩]⟩,
  ⟨0x1008C, 0x400, 64, 0x1, 1, [⟨31, 0, .rw, 0⟩]⟩,
  ⟨0x10100, 0x400, 64, 0x4, 16, [⟨2, 0, .ro, 0⟩, ⟨3, 3, .ro, 0⟩, ⟨6, 4, .ro, 0⟩, ⟨7, 7, .ro, 0⟩, ⟨10, 8, .ro, 0⟩, ⟨11, 11, .ro, 0⟩, ⟨14, 12, .ro, 0⟩, ⟨15, 15, .ro, 0⟩, ⟨18, 16, .ro, 0⟩, ⟨19, 19, .ro, 0⟩, ⟨22, 20, .ro, 0⟩, ⟨23, 23, .ro, 0⟩, ⟨26, 24, .ro, 0⟩, ⟨27, 27, .ro, 0⟩, ⟨30, 28, .ro, 0⟩, ⟨31, 31, .ro, 0⟩]⟩,
  ⟨0x10140, 0x400, 64, 0x4, 4, [⟨31, 0, .hsW1c, 0⟩]⟩,
  ⟨0x10180, 0x400, 64, 0x1, 1, [⟨0, 0, .rw, 1⟩, ⟨1, 1, .rw, 1⟩, ⟨2, 2, .wo, 0⟩, ⟨3, 3, .wo, 0⟩]⟩,
  ⟨0x10184, 0x400, 64, 0x1, 1, [⟨0, 0, .ro, 0⟩, ⟨1, 1, .hsW1c, 0⟩, ⟨2, 2, .hsW1c, 0⟩]⟩,
  ⟨0x10188, 0x400, 64, 0x1, 1, [⟨31, 0, .ro, 0⟩]⟩,
  ⟨0x101A0, 0x400, 64, 0x1, 1, [⟨31, 0, .rw, 0⟩]⟩,
  ⟨0x101A4, 0x400, 64, 0x1, 1, [⟨31, 0, .rw, 0⟩]⟩,
  ⟨0x101A8, 0x400, 64, 0x1, 1, [⟨31, 0, .rw, 0⟩]⟩,
  ⟨0x101AC, 0x400, 64, 0x1, 1, [⟨31, 0, .rw, 0⟩]⟩,
  ⟨0x101B0, 0x400, 64, 0x1, 1, [⟨31, 0, .rw, 0⟩]⟩,
  ⟨0x101B4, 0x400, 64, 0x1, 1, [⟨31, 0, .rw, 0⟩]⟩,
  ⟨0x10200, 0x400, 64, 0x1, 1, [⟨4, 0, .rw, 4⟩, ⟨5, 5, .rw, 1⟩]⟩,
  ⟨0x10204, 0x400, 64, 0x1, 1, [⟨6, 0, .ro, 0⟩, ⟨7, 7, .ro, 1⟩, ⟨8, 8, .hsW1c, 0⟩, ⟨9, 9, .hsW1c, 0⟩, ⟨10, 10, .hsW1c, 0⟩, ⟨11, 11, .hsW1c, 0⟩, ⟨12, 12, .hsW1c, 0⟩, ⟨19, 13, .rw, 0⟩]⟩,
  ⟨0x10208, 0x400, 64, 0x1, 1, [⟨31, 0, .ro, 0⟩]⟩]
def regs_port2 : List RegSpec := [
  ⟨0x1020C, 0x400, 64, 0x1, 1, [⟨15, 0, .rw, 65535⟩, ⟨31, 16, .rw, 0⟩]⟩,
  ⟨0x10210, 0x400, 64, 0x1, 1, [⟨31, 0, .rw, 0⟩]⟩,
  ⟨0x10214, 0x400, 64, 0x1, 1, [⟨31, 0, .rw, 0⟩]⟩,
  ⟨0x10218, 0x400, 64, 0x1, 1, [⟨31, 0, .rw, 0⟩]⟩,
  ⟨0x1021C, 0x400, 64, 0x1, 1, [⟨31, 0, .rw, 0⟩]⟩,
  ⟨0x10220, 0x400, 64, 0x1, 1, [⟨31, 0, .rw, 0⟩]⟩,
  ⟨0x10224, 0x400, 64, 0x1, 1, [⟨31, 0, .rw, 0⟩]⟩,
  ⟨0x10228, 0x400, 64, 0x1, 1, [⟨31, 0, .rw, 0⟩]⟩,
  ⟨0x1022C, 0x400, 64, 0x1, 1, [⟨31, 0, .rw, 0⟩]⟩,
  ⟨0x10230, 0x400, 64, 0x1, 1, [⟨31, 0, .rw, 0⟩]⟩,
  ⟨0x10234, 0x400, 64, 0x1, 1, [⟨31, 0, .rw, 0⟩]⟩]
/-- The registers of the region *port*. -/
def regs_port : List RegSpec := regs_port0 ++ regs_port1 ++ regs_port2

def regs_eng0 : List RegSpec := [
  ⟨0x20000, 0x100, 128, 0x1, 1, [⟨0, 0, .rw, 1⟩, ⟨1, 1, .ro, 0⟩, ⟨2, 2, .rw, 0⟩]⟩,
  ⟨0x20004, 0x100, 128, 0x1, 1, [⟨1, 0, .ro, 0⟩, ⟨2, 2, .hsRo, 0⟩, ⟨3, 3, .hsW1c, 0⟩, ⟨10, 4, .ro, 0⟩, ⟨11, 11, .ro, 0⟩]⟩,
  ⟨0x20008, 0x100, 128, 0x1, 1, [⟨15, 0, .ro, 0⟩, ⟨31, 16, .ro, 0⟩]⟩,
  ⟨0x2000C, 0x100, 128, 0x1, 1, [⟨7, 0, .ro, 0⟩]⟩,
  ⟨0x20010, 0x100, 128, 0x1, 1, [⟨31, 0, .rw, 0⟩]⟩,
  ⟨0x20014, 0x100, 128, 0x1, 1, [⟨31, 0, .rw, 0⟩]⟩,
  ⟨0x20018, 0x100, 128, 0x1, 1, [⟨31, 0, .rw, 0⟩]⟩,
  ⟨0x2001C, 0x100, 128, 0x1, 1, [⟨31, 0, .rw, 0⟩]⟩,
  ⟨0x20020, 0x100, 128, 0x1, 1, [⟨31, 0, .rw, 0⟩]⟩,
  ⟨0x20024, 0x100, 128, 0x1, 1, [⟨31, 0, .rw, 0⟩]⟩,
  ⟨0x20040, 0x100, 128, 0x1, 1, [⟨1, 0, .ro, 0⟩, ⟨2, 2, .ro, 0⟩, ⟨14, 3, .ro, 0⟩, ⟨25, 15, .ro, 0⟩]⟩,
  ⟨0x28000, 0x10, 2048, 0x1, 1, [⟨2, 0, .ro, 0⟩, ⟨10, 3, .ro, 0⟩, ⟨13, 11, .ro, 0⟩, ⟨14, 14, .hsW1c, 0⟩, ⟨15, 15, .hsW1c, 0⟩, ⟨16, 16, .hsW1c, 0⟩, ⟨17, 17, .hsW1c, 0⟩, ⟨18, 18, .ro, 0⟩, ⟨19, 19, .ro, 0⟩, ⟨20, 20, .ro, 0⟩]⟩,
  ⟨0x28004, 0x10, 2048, 0x1, 1, [⟨15, 0, .ro, 0⟩, ⟨31, 16, .ro, 0⟩]⟩,
  ⟨0x28008, 0x10, 2048, 0x1, 1, [⟨31, 0, .ro, 0⟩]⟩,
  ⟨0x2800C, 0x10, 2048, 0x1, 1, [⟨15, 0, .rw, 0⟩, ⟨23, 16, .rw, 0⟩, ⟨31, 24, .rw, 0⟩]⟩]
/-- The registers of the region *eng*. -/
def regs_eng : List RegSpec := regs_eng0

def regs_shelf0 : List RegSpec := [
  ⟨0x9000, 0x1000000, 1, 0x1, 1, [⟨31, 0, .ro, 0⟩]⟩,
  ⟨0x9004, 0x1000000, 1, 0x1, 1, [⟨0, 0, .hsW1c, 0⟩, ⟨1, 1, .hsW1c, 0⟩, ⟨5, 2, .ro, 0⟩]⟩,
  ⟨0x9008, 0x1000000, 1, 0x1, 1, [⟨15, 0, .ro, 0⟩]⟩,
  ⟨0x900C, 0x1000000, 1, 0x1, 1, [⟨1, 0, .ro, 0⟩, ⟨2, 2, .ro, 0⟩, ⟨8, 3, .ro, 0⟩, ⟨9, 9, .hsW1c, 0⟩]⟩,
  ⟨0x9010, 0x1000000, 1, 0x1, 1, [⟨15, 0, .rw, 0⟩, ⟨31, 16, .rw, 0⟩]⟩,
  ⟨0x9020, 0x1000000, 1, 0x4, 6, [⟨2, 0, .ro, 0⟩, ⟨3, 3, .ro, 0⟩, ⟨6, 4, .ro, 0⟩, ⟨7, 7, .ro, 0⟩, ⟨10, 8, .ro, 0⟩, ⟨11, 11, .ro, 0⟩, ⟨14, 12, .ro, 0⟩, ⟨15, 15, .ro, 0⟩, ⟨18, 16, .ro, 0⟩, ⟨19, 19, .ro, 0⟩, ⟨22, 20, .ro, 0⟩, ⟨23, 23, .ro, 0⟩, ⟨26, 24, .ro, 0⟩, ⟨27, 27, .ro, 0⟩, ⟨30, 28, .ro, 0⟩, ⟨31, 31, .ro, 0⟩]⟩,
  ⟨0x9040, 0x1000000, 1, 0x4, 2, [⟨31, 0, .hsW1c, 0⟩]⟩,
  ⟨0x9048, 0x1000000, 1, 0x1, 1, [⟨31, 0, .rw, 0⟩]⟩,
  ⟨0x9050, 0x1000000, 1, 0x1, 1, [⟨31, 0, .ro, 0⟩]⟩,
  ⟨0x9054, 0x1000000, 1, 0x1, 1, [⟨31, 0, .ro, 0⟩]⟩,
  ⟨0x9400, 0x1000000, 1, 0x1, 1, [⟨1, 0, .ro, 0⟩, ⟨3, 2, .ro, 0⟩, ⟨6, 4, .ro, 0⟩, ⟨7, 7, .ro, 0⟩, ⟨10, 8, .ro, 0⟩, ⟨11, 11, .hsW1c, 0⟩, ⟨12, 12, .hsW1c, 0⟩, ⟨20, 13, .ro, 0⟩]⟩,
  ⟨0x9404, 0x1000000, 1, 0x1, 1, [⟨31, 0, .ro, 0⟩]⟩,
  ⟨0x9408, 0x1000000, 1, 0x1, 1, [⟨31, 0, .ro, 0⟩]⟩,
  ⟨0x940C, 0x1000000, 1, 0x1, 1, [⟨31, 0, .ro, 0⟩]⟩,
  ⟨0x9410, 0x1000000, 1, 0x1, 1, [⟨15, 0, .rw, 0⟩, ⟨31, 16, .rw, 0⟩]⟩,
  ⟨0x9414, 0x1000000, 1, 0x1, 1, [⟨15, 0, .ro, 0⟩, ⟨17, 16, .ro, 0⟩]⟩,
  ⟨0x9500, 0x20, 16, 0x1, 1, [⟨1, 0, .ro, 3⟩, ⟨2, 2, .ro, 0⟩, ⟨3, 3, .ro, 0⟩, ⟨5, 4, .ro, 0⟩, ⟨7, 6, .ro, 0⟩, ⟨8, 8, .ro, 0⟩, ⟨9, 9, .hsW1c, 0⟩, ⟨10, 10, .hsW1c, 0⟩, ⟨11, 11, .ro, 0⟩]⟩,
  ⟨0x9504, 0x20, 16, 0x1, 1, [⟨31, 0, .ro, 0⟩]⟩,
  ⟨0x9508, 0x20, 16, 0x1, 1, [⟨31, 0, .ro, 0⟩]⟩,
  ⟨0x9510, 0x20, 16, 0x1, 1, [⟨31, 0, .ro, 0⟩]⟩]
def regs_shelf1 : List RegSpec := [
  ⟨0x9518, 0x20, 16, 0x1, 1, [⟨31, 0, .ro, 0⟩]⟩,
  ⟨0x950C, 0x20, 16, 0x1, 1, [⟨15, 0, .ro, 0⟩]⟩,
  ⟨0x9514, 0x20, 16, 0x1, 1, [⟨15, 0, .ro, 0⟩, ⟨31, 16, .ro, 0⟩]⟩,
  ⟨0x951C, 0x20, 16, 0x1, 1, [⟨15, 0, .ro, 0⟩]⟩,
  ⟨0x8000, 0x300, 4, 0x1, 1, [⟨0, 0, .rw, 0⟩, ⟨1, 1, .rw, 0⟩, ⟨2, 2, .wo, 0⟩, ⟨3, 3, .wo, 0⟩, ⟨8, 4, .sh, 0⟩]⟩,
  ⟨0x8004, 0x300, 4, 0x1, 1, [⟨0, 0, .ro, 0⟩, ⟨1, 1, .hsW1c, 0⟩, ⟨2, 2, .hsW1c, 0⟩, ⟨3, 3, .hsW1c, 0⟩, ⟨4, 4, .ro, 0⟩]⟩,
  ⟨0x8008, 0x300, 4, 0x1, 1, [⟨9, 0, .rw, 100⟩, ⟨19, 10, .rw, 64⟩, ⟨29, 20, .rw, 100⟩]⟩,
  ⟨0x8010, 0x300, 4, 0x1, 1, [⟨31, 0, .rw, 0⟩]⟩,
  ⟨0x8014, 0x300, 4, 0x1, 1, [⟨31, 0, .rw, 0⟩]⟩,
  ⟨0x8080, 0x300, 4, 0x4, 32, [⟨4, 0, .sh, 0⟩, ⟨11, 8, .sh, 0⟩, ⟨15, 12, .sh, 0⟩]⟩,
  ⟨0x8100, 0x300, 4, 0x4, 32, [⟨15, 0, .ro, 0⟩, ⟨16, 16, .ro, 0⟩, ⟨17, 17, .ro, 0⟩, ⟨18, 18, .ro, 0⟩, ⟨31, 20, .ro, 0⟩]⟩,
  ⟨0x8180, 0x300, 4, 0x4, 32, [⟨15, 0, .ro, 0⟩, ⟨31, 16, .ro, 32768⟩]⟩,
  ⟨0x8200, 0x300, 4, 0x4, 32, [⟨0, 0, .rw, 0⟩, ⟨1, 1, .rw, 0⟩, ⟨2, 2, .rw, 0⟩, ⟨4, 3, .ro, 0⟩]⟩,
  ⟨0x8C00, 0x1000000, 1, 0x1, 1, [⟨6, 0, .rw, 0⟩, ⟨13, 7, .rw, 0⟩, ⟨20, 14, .rw, 0⟩, ⟨21, 21, .rw, 0⟩, ⟨31, 22, .rw, 32⟩]⟩,
  ⟨0x8C04, 0x1000000, 1, 0x1, 1, [⟨11, 0, .rw, 2048⟩]⟩,
  ⟨0x8C08, 0x1000000, 1, 0x1, 1, [⟨31, 0, .ro, 0⟩]⟩,
  ⟨0x8C0C, 0x1000000, 1, 0x4, 3, [⟨15, 0, .ro, 0⟩]⟩,
  ⟨0xC000, 0x1000000, 1, 0x4, 13, [⟨15, 0, .ro, 0⟩, ⟨16, 16, .ro, 0⟩]⟩,
  ⟨0xC080, 0x1000000, 1, 0x1, 1, [⟨15, 0, .rw, 1520⟩, ⟨31, 16, .rw, 80⟩]⟩,
  ⟨0xC088, 0x1000000, 1, 0x1, 1, [⟨15, 0, .rw, 1600⟩, ⟨31, 16, .rw, 80⟩]⟩]
def regs_shelf2 : List RegSpec := [
  ⟨0xC090, 0x1000000, 1, 0x1, 1, [⟨15, 0, .rw, 1840⟩, ⟨31, 16, .rw, 80⟩]⟩,
  ⟨0xC084, 0x1000000, 1, 0x8, 3, [⟨0, 0, .rw, 0⟩, ⟨3, 1, .rw, 3⟩, ⟨31, 16, .rw, 160⟩]⟩,
  ⟨0xC0A0, 0x1000000, 1, 0x1, 1, [⟨1, 0, .ro, 0⟩, ⟨4, 2, .ro, 0⟩, ⟨5, 5, .hsW1c, 0⟩, ⟨6, 6, .hsW1c, 0⟩, ⟨7, 7, .hsW1c, 0⟩, ⟨8, 8, .ro, 0⟩, ⟨10, 9, .ro, 0⟩]⟩,
  ⟨0xC0A4, 0x1000000, 1, 0x1, 1, [⟨0, 0, .rw, 1⟩, ⟨1, 1, .rw, 1⟩]⟩,
  ⟨0xC0C0, 0x1000000, 1, 0x8, 8, [⟨15, 0, .rw, 1120⟩, ⟨31, 16, .rw, 1280⟩]⟩,
  ⟨0xC0C4, 0x1000000, 1, 0x8, 8, [⟨15, 0, .rw, 29491⟩, ⟨31, 16, .rw, 22938⟩]⟩,
  ⟨0xC100, 0x1000000, 1, 0x4, 16, [⟨31, 0, .rw, 0⟩]⟩,
  ⟨0xC200, 0x1000000, 1, 0x10, 16, [⟨15, 0, .rw, 960⟩, ⟨31, 16, .rw, 1440⟩]⟩,
  ⟨0xC204, 0x1000000, 1, 0x10, 16, [⟨15, 0, .rw, 9830⟩, ⟨31, 16, .rw, 32767⟩]⟩,
  ⟨0xC208, 0x1000000, 1, 0x10, 16, [⟨12, 0, .rw, 0⟩, ⟨13, 13, .rw, 0⟩]⟩,
  ⟨0xA000, 0x100, 8, 0x1, 1, [⟨1, 0, .rw, 0⟩, ⟨3, 2, .rw, 2⟩, ⟨4, 4, .rw, 0⟩, ⟨5, 5, .rw, 0⟩, ⟨6, 6, .rw, 0⟩, ⟨7, 7, .rw, 0⟩]⟩,
  ⟨0xA004, 0x100, 8, 0x1, 1, [⟨6, 0, .rw, 0⟩, ⟨7, 7, .rw, 0⟩, ⟨14, 8, .rw, 0⟩, ⟨15, 15, .rw, 0⟩, ⟨22, 16, .rw, 0⟩, ⟨23, 23, .rw, 0⟩, ⟨30, 24, .rw, 0⟩, ⟨31, 31, .rw, 0⟩]⟩,
  ⟨0xA008, 0x100, 8, 0x1, 1, [⟨1, 0, .ro, 0⟩, ⟨2, 2, .hsW1c, 0⟩, ⟨3, 3, .hsW1c, 0⟩, ⟨4, 4, .hsW1c, 0⟩, ⟨5, 5, .hsW1c, 0⟩, ⟨6, 6, .hsW1c, 0⟩, ⟨13, 7, .ro, 0⟩]⟩,
  ⟨0xA00C, 0x100, 8, 0x1, 1, [⟨6, 0, .ro, 0⟩]⟩,
  ⟨0xA010, 0x100, 8, 0x1, 1, [⟨31, 0, .rw, 0⟩]⟩,
  ⟨0xA014, 0x100, 8, 0x1, 1, [⟨31, 0, .rw, 0⟩]⟩,
  ⟨0xA018, 0x100, 8, 0x1, 1, [⟨31, 0, .rw, 0⟩]⟩,
  ⟨0xA01C, 0x100, 8, 0x1, 1, [⟨31, 0, .rw, 0⟩]⟩,
  ⟨0xA020, 0x100, 8, 0x1, 1, [⟨31, 0, .rw, 0⟩]⟩,
  ⟨0xA024, 0x100, 8, 0x1, 1, [⟨31, 0, .rw, 0⟩]⟩]
/-- The registers of the region *shelf*. -/
def regs_shelf : List RegSpec := regs_shelf0 ++ regs_shelf1 ++ regs_shelf2

def regs_high0 : List RegSpec := [
  ⟨0x60000, 0x40, 64, 0x1, 1, [⟨2, 0, .ro, 0⟩, ⟨6, 3, .ro, 0⟩, ⟨7, 7, .ro, 0⟩, ⟨8, 8, .ro, 0⟩, ⟨9, 9, .ro, 0⟩, ⟨10, 10, .hsW1c, 0⟩]⟩,
  ⟨0x60004, 0x40, 64, 0x1, 1, [⟨31, 0, .ro, 0⟩]⟩,
  ⟨0x60008, 0x40, 64, 0x1, 1, [⟨31, 0, .ro, 0⟩]⟩,
  ⟨0x6000C, 0x40, 64, 0x1, 1, [⟨31, 0, .ro, 0⟩]⟩,
  ⟨0x60010, 0x40, 64, 0x1, 1, [⟨31, 0, .rw, 0⟩]⟩,
  ⟨0x60014, 0x40, 64, 0x1, 1, [⟨31, 0, .rw, 0⟩]⟩,
  ⟨0x60018, 0x40, 64, 0x1, 1, [⟨15, 0, .rw, 0⟩, ⟨23, 16, .rw, 0⟩, ⟨31, 24, .rw, 0⟩]⟩,
  ⟨0x61000, 0x10, 257, 0x1, 1, [⟨31, 0, .ro, 0⟩]⟩,
  ⟨0x61004, 0x10, 257, 0x1, 1, [⟨31, 0, .ro, 0⟩]⟩,
  ⟨0x61008, 0x10, 257, 0x1, 1, [⟨1, 0, .ro, 0⟩, ⟨4, 2, .ro, 0⟩, ⟨5, 5, .hsW1c, 0⟩]⟩,
  ⟨0x63000, 0x1000000, 1, 0x1, 1, [⟨1, 0, .ro, 0⟩, ⟨4, 2, .ro, 4⟩, ⟨7, 5, .ro, 0⟩]⟩,
  ⟨0x64000, 0x10, 64, 0x1, 1, [⟨2, 0, .ro, 0⟩, ⟨10, 3, .ro, 0⟩, ⟨11, 11, .hsW1c, 0⟩, ⟨12, 12, .hsW1c, 0⟩, ⟨13, 13, .ro, 1⟩, ⟨26, 16, .ro, 0⟩]⟩,
  ⟨0x64800, 0x1000000, 1, 0x1, 1, [⟨1, 0, .ro, 0⟩, ⟨2, 2, .ro, 0⟩, ⟨3, 3, .hsW1c, 0⟩, ⟨4, 4, .hsW1c, 0⟩, ⟨5, 5, .hsW1c, 0⟩, ⟨6, 6, .rw, 0⟩]⟩,
  ⟨0x64804, 0x1000000, 1, 0x1, 1, [⟨31, 0, .rw, 0⟩]⟩,
  ⟨0x68000, 0x8, 2048, 0x1, 1, [⟨15, 0, .rw, 0⟩, ⟨31, 16, .rw, 0⟩]⟩,
  ⟨0x68004, 0x8, 2048, 0x1, 1, [⟨15, 0, .rw, 0⟩, ⟨23, 16, .rw, 0⟩, ⟨31, 24, .rw, 0⟩]⟩,
  ⟨0x30000, 0x1000000, 1, 0x1, 1, [⟨0, 0, .ro, 0⟩, ⟨1, 1, .ro, 0⟩, ⟨2, 2, .ro, 1⟩, ⟨3, 3, .ro, 1⟩, ⟨31, 16, .ro, 168⟩]⟩,
  ⟨0x30004, 0x1000000, 1, 0x1, 1, [⟨15, 0, .ro, 60⟩, ⟨31, 16, .ro, 600⟩]⟩,
  ⟨0x30008, 0x1000000, 1, 0x1, 1, [⟨2, 0, .ro, 1⟩, ⟨5, 3, .ro, 0⟩, ⟨6, 6, .ro, 0⟩, ⟨7, 7, .ro, 0⟩, ⟨8, 8, .ro, 0⟩, ⟨9, 9, .ro, 0⟩, ⟨10, 10, .ro, 0⟩, ⟨11, 11, .hsW1c, 0⟩, ⟨12, 12, .hsW1c, 0⟩]⟩,
  ⟨0x30010, 0x1000000, 1, 0x4, 2, [⟨31, 0, .ro, 0⟩]⟩]
def regs_high1 : List RegSpec := [
  ⟨0x30018, 0x1000000, 1, 0x4, 2, [⟨31, 0, .ro, 0⟩]⟩,
  ⟨0x30020, 0x1000000, 1, 0x1, 1, [⟨31, 0, .rw, 0⟩]⟩,
  ⟨0x30024, 0x1000000, 1, 0x1, 1, [⟨31, 0, .rw, 0⟩]⟩,
  ⟨0x30028, 0x1000000, 1, 0x1, 1, [⟨31, 0, .rw, 0⟩]⟩,
  ⟨0x3002C, 0x1000000, 1, 0x1, 1, [⟨31, 0, .rw, 0⟩]⟩,
  ⟨0x30030, 0x1000000, 1, 0x1, 1, [⟨31, 0, .rw, 0⟩]⟩,
  ⟨0x30034, 0x1000000, 1, 0x1, 1, [⟨31, 0, .rw, 0⟩]⟩,
  ⟨0x30038, 0x1000000, 1, 0x1, 1, [⟨31, 0, .rw, 0⟩]⟩,
  ⟨0x30040, 0x1000000, 1, 0x1, 1, [⟨31, 0, .ro, 0⟩]⟩,
  ⟨0x30044, 0x1000000, 1, 0x1, 1, [⟨31, 0, .ro, 0⟩]⟩,
  ⟨0x30100, 0x1000000, 1, 0x4, 64, [⟨15, 0, .ro, 0⟩, ⟨16, 16, .ro, 0⟩]⟩,
  ⟨0x40000, 0x1000000, 1, 0x1, 1, [⟨0, 0, .rw, 1⟩, ⟨1, 1, .rw, 0⟩, ⟨7, 2, .rw, 16⟩]⟩,
  ⟨0x40004, 0x1000000, 1, 0x1, 1, [⟨0, 0, .ro, 0⟩, ⟨2, 1, .ro, 0⟩, ⟨3, 3, .ro, 0⟩, ⟨4, 4, .hsW1c, 0⟩, ⟨5, 5, .hsW1c, 0⟩]⟩,
  ⟨0x40008, 0x1000000, 1, 0x1, 1, [⟨31, 0, .ro, 0⟩]⟩,
  ⟨0x4000C, 0x1000000, 1, 0x1, 1, [⟨0, 0, .ro, 0⟩, ⟨1, 1, .ro, 0⟩, ⟨2, 2, .ro, 0⟩, ⟨3, 3, .ro, 0⟩]⟩,
  ⟨0x40010, 0x1000000, 1, 0x1, 1, [⟨31, 0, .rw, 0⟩]⟩,
  ⟨0x40014, 0x1000000, 1, 0x1, 1, [⟨31, 0, .rw, 0⟩]⟩,
  ⟨0x40018, 0x1000000, 1, 0x1, 1, [⟨31, 0, .rw, 0⟩]⟩,
  ⟨0x4001C, 0x1000000, 1, 0x1, 1, [⟨31, 0, .rw, 0⟩]⟩,
  ⟨0x40020, 0x1000000, 1, 0x1, 1, [⟨31, 0, .rw, 0⟩]⟩]
def regs_high2 : List RegSpec := [
  ⟨0x50000, 0x1000000, 1, 0x1, 1, [⟨1, 0, .ro, 0⟩, ⟨3, 2, .ro, 0⟩, ⟨5, 4, .ro, 0⟩, ⟨15, 6, .ro, 0⟩, ⟨16, 16, .hsW1c, 0⟩, ⟨17, 17, .hsW1c, 0⟩]⟩,
  ⟨0x50004, 0x1000000, 1, 0x1, 1, [⟨31, 0, .rw, 0⟩]⟩,
  ⟨0x50008, 0x1000000, 1, 0x1, 1, [⟨31, 0, .rw, 0⟩]⟩,
  ⟨0x5000C, 0x1000000, 1, 0x1, 1, [⟨31, 0, .rw, 0⟩]⟩,
  ⟨0x50010, 0x1000000, 1, 0x1, 1, [⟨31, 0, .rw, 0⟩]⟩,
  ⟨0x50100, 0x1000000, 1, 0x1, 1, [⟨0, 0, .ro, 0⟩, ⟨1, 1, .ro, 0⟩, ⟨2, 2, .ro, 0⟩, ⟨3, 3, .hsW1c, 0⟩, ⟨4, 4, .hsW1c, 0⟩, ⟨14, 5, .ro, 0⟩, ⟨21, 15, .ro, 0⟩, ⟨22, 22, .ro, 0⟩, ⟨23, 23, .ro, 0⟩]⟩,
  ⟨0x50104, 0x1000000, 1, 0x1, 1, [⟨23, 0, .ro, 0⟩, ⟨31, 24, .ro, 0⟩]⟩,
  ⟨0x50108, 0x1000000, 1, 0x1, 1, [⟨23, 0, .ro, 0⟩, ⟨31, 24, .ro, 0⟩]⟩,
  ⟨0x5010C, 0x1000000, 1, 0x1, 1, [⟨1, 0, .ro, 0⟩, ⟨3, 2, .ro, 0⟩, ⟨9, 4, .ro, 0⟩, ⟨11, 10, .ro, 0⟩, ⟨13, 12, .ro, 0⟩]⟩]
/-- The registers of the region *high*. -/
def regs_high : List RegSpec := regs_high0 ++ regs_high1 ++ regs_high2

def regs_low0 : List RegSpec := [
  ⟨0x1000, 0x1000000, 1, 0x1, 1, [⟨0, 0, .ro, 0⟩, ⟨12, 1, .ro, 0⟩, ⟨13, 13, .hsW1c, 0⟩, ⟨16, 14, .ro, 0⟩, ⟨17, 17, .hsW1c, 0⟩, ⟨18, 18, .ro, 0⟩]⟩,
  ⟨0x1004, 0x1000000, 1, 0x1, 1, [⟨0, 0, .rw, 1⟩, ⟨1, 1, .rw, 1⟩, ⟨4, 2, .rw, 4⟩]⟩,
  ⟨0x1008, 0x1000000, 1, 0x1, 1, [⟨31, 0, .ro, 0⟩]⟩,
  ⟨0x100C, 0x1000000, 1, 0x1, 1, [⟨31, 0, .rw, 0⟩]⟩,
  ⟨0x1010, 0x1000000, 1, 0x1, 1, [⟨3, 0, .ro, 0⟩]⟩,
  ⟨0x1100, 0x1000000, 1, 0x4, 256, [⟨1, 0, .rw, 0⟩, ⟨4, 2, .rw, 0⟩, ⟨7, 5, .rw, 0⟩, ⟨8, 8, .ro, 0⟩, ⟨9, 9, .ro, 0⟩, ⟨10, 10, .rw, 0⟩, ⟨24, 11, .rw, 0⟩]⟩,
  ⟨0x1500, 0x1000000, 1, 0x4, 256, [⟨11, 0, .ro, 0⟩, ⟨12, 12, .hsW1c, 0⟩]⟩,
  ⟨0x1900, 0x1000000, 1, 0x4, 256, [⟨31, 0, .rw, 0⟩]⟩,
  ⟨0x100, 0x1000000, 1, 0x1, 1, [⟨1, 0, .ro, 0⟩, ⟨5, 2, .ro, 0⟩, ⟨8, 6, .ro, 0⟩, ⟨9, 9, .ro, 0⟩, ⟨10, 10, .hsW1c, 0⟩]⟩,
  ⟨0x104, 0x1000000, 1, 0x1, 1, [⟨15, 0, .ro, 0⟩, ⟨22, 16, .ro, 0⟩, ⟨29, 23, .ro, 0⟩]⟩,
  ⟨0x108, 0x1000000, 1, 0x1, 1, [⟨31, 0, .ro, 0⟩]⟩,
  ⟨0x10C, 0x1000000, 1, 0x1, 1, [⟨31, 0, .ro, 0⟩]⟩,
  ⟨0x0, 0x1000000, 1, 0x1, 1, [⟨15, 0, .ro, 33170⟩, ⟨23, 16, .ro, 77⟩, ⟨31, 24, .ro, 1⟩]⟩,
  ⟨0x4, 0x1000000, 1, 0x1, 1, [⟨3, 0, .ro, 0⟩, ⟨7, 4, .ro, 0⟩]⟩,
  ⟨0x8, 0x1000000, 1, 0x1, 1, [⟨7, 0, .ro, 0⟩, ⟨15, 8, .ro, 0⟩, ⟨23, 16, .ro, 0⟩]⟩,
  ⟨0xC, 0x1000000, 1, 0x1, 1, [⟨31, 0, .ro, 0⟩]⟩,
  ⟨0x10, 0x1000000, 1, 0x1, 1, [⟨31, 0, .ro, 0⟩]⟩,
  ⟨0x14, 0x1000000, 1, 0x1, 1, [⟨7, 0, .ro, 255⟩, ⟨15, 8, .hsRo, 0⟩]⟩,
  ⟨0x18, 0x1000000, 1, 0x1, 1, [⟨7, 0, .ro, 64⟩, ⟨15, 8, .ro, 128⟩, ⟨23, 16, .ro, 255⟩, ⟨31, 24, .ro, 8⟩]⟩,
  ⟨0x20, 0x1000000, 1, 0x1, 1, [⟨0, 0, .w1s, 0⟩, ⟨1, 1, .rw, 0⟩, ⟨2, 2, .rw, 1⟩]⟩]
def regs_low1 : List RegSpec := [
  ⟨0x24, 0x1000000, 1, 0x1, 1, [⟨0, 0, .ro, 0⟩, ⟨1, 1, .ro, 0⟩, ⟨2, 2, .hsW1c, 0⟩]⟩,
  ⟨0x28, 0x1000000, 1, 0x1, 1, [⟨31, 0, .rw, 0⟩]⟩,
  ⟨0x2C, 0x1000000, 1, 0x1, 1, [⟨31, 0, .rw, 0⟩]⟩]
/-- The registers of the region *low*. -/
def regs_low : List RegSpec := regs_low0 ++ regs_low1

/-- The registers of the region that holds address `a`. -/
def regsNear (a : Nat) : List RegSpec :=
  if 0x1000000 ≤ a then regs_win else if a < 0x4000 then regs_low else if a < 0x8000 then regs_mer
  else if a < 0x10000 then regs_shelf else if a < 0x20000 then regs_port else if a < 0x30000 then regs_eng
  else regs_high

/-- Whether `a` is an instance of the register. -/
def RegSpec.holds (r : RegSpec) (a : Nat) : Bool :=
  decide (r.base ≤ a) && decide ((a - r.base) / r.stride < r.count) &&
  decide (((a - r.base) % r.stride) % r.step = 0) && decide (((a - r.base) % r.stride) / r.step < r.reps)

/-- The register at an address, if its chapter lists one. -/
def regAt (a : Nat) : Option RegSpec := (regsNear a).find? (fun r => r.holds a)

/-- The reset word of a register from its fields. -/
def resetOf : List FieldSpec → Word
  | [] => 0
  | f :: fs => (resetOf fs).withBits f.hi f.lo f.reset

end Sys2Proof.Machine
end

