-- ==== Sys2Proof/Machine/Table.lean ====
section
/-! DEFINITION. Sparse tables: a list of key and value pairs with the keys rising, and the byte
memories in canonical form (addresses rising, no entry equal to what an unlisted address reads as). -/
namespace Sys2Proof.Machine

/-- A sparse table; an unlisted key reads as the default its reader names. -/
abbrev Tbl (α : Type) := List (Nat × α)

/-- The value listed under `k`. -/
def Tbl.find? {α : Type} : Tbl α → Nat → Option α
  | [], _ => none
  | (k, v) :: t, n => if n = k then some v else Tbl.find? t n

/-- The value under `k`, or `d` when `k` is unlisted. -/
def Tbl.get {α : Type} (t : Tbl α) (k : Nat) (d : α) : α := (Tbl.find? t k).getD d

/-- `t` with `v` under `k`. -/
def Tbl.put {α : Type} : Tbl α → Nat → α → Tbl α
  | [], n, v => [(n, v)]
  | (k, w) :: t, n, v =>
    if n = k then (n, v) :: t else if n < k then (n, v) :: (k, w) :: t else (k, w) :: Tbl.put t n v

/-- `t` without `k`. -/
def Tbl.del {α : Type} : Tbl α → Nat → Tbl α
  | [], _ => []
  | (k, w) :: t, n => if n = k then t else (k, w) :: Tbl.del t n

/-- What an unlisted address of a mailbox window or of the hub staging buffer reads as (log 5). -/
def Mem.blank : Byte := 0

/-- The byte at `a`; `d` is what an unlisted address reads as. -/
def Mem.read (d : Byte) (m : List Host.Cell) (a : Nat) : Byte := Tbl.get (α := Byte) m a d

/-- The memory with `b` at `a`, in canonical form. -/
def Mem.write (d : Byte) : List Host.Cell → Nat → Byte → List Host.Cell
  | [], n, v => if v = d then [] else [(n, v)]
  | (k, w) :: t, n, v =>
    if n = k then (if v = d then t else (n, v) :: t)
    else if n < k then (if v = d then (k, w) :: t else (n, v) :: (k, w) :: t)
    else (k, w) :: Mem.write d t n v

/-- All addresses of `m` are above `lo`. -/
def Mem.above (lo : Nat) (m : List Host.Cell) : Bool := m.all (fun c => decide (lo < c.1))

/-- The canonical form: addresses strictly rising and no entry equal to the blank byte `d`. -/
def Mem.wf (d : Byte) : List Host.Cell → Bool
  | [] => true
  | (k, v) :: t => decide (v ≠ d) && Mem.above k t && Mem.wf d t

/-- `bs` written from address `a` upward. -/
def Mem.writeBytes (d : Byte) (m : List Host.Cell) (a : Nat) : List Byte → List Host.Cell
  | [] => m
  | b :: bs => Mem.writeBytes d (Mem.write d m a b) (a + 1) bs

/-- The `n` bytes from address `a`. -/
def Mem.readBytes (d : Byte) (m : List Host.Cell) (a : Nat) : Nat → List Byte
  | 0 => []
  | n + 1 => Mem.read d m a :: Mem.readBytes d m (a + 1) n

/-- Little-endian value of a byte list (R8). -/
def leVal : List Byte → Nat
  | [] => 0
  | b :: bs => b.toNat + 256 * leVal bs

/-- The `n` little-endian bytes of a value (R8). -/
def leBytes : Nat → Nat → List Byte
  | 0, _ => []
  | n + 1, v => BitVec.ofNat 8 v :: leBytes n (v / 256)

/-- The list with the element at `i` replaced; unchanged past its end. -/
def setAt {α : Type} : List α → Nat → α → List α
  | [], _, _ => []
  | _ :: t, 0, v => v :: t
  | x :: t, n + 1, v => x :: setAt t n v

/-- The last `n` elements of a list. -/
def lastN {α : Type} (n : Nat) (l : List α) : List α := l.drop (l.length - n)

end Sys2Proof.Machine
end

