-- ==== Sys2Proof/Machine/State.lean ====
section
/-! DEFINITION. The machine's state: plain data holding every piece of state the manual names, and the
state right after reset. Times are chassis-time ticks of 0.625 ns (R13). Register fields that hold a
whole value live in `regs`, at the address of the register; what no register holds is typed below. -/
namespace Sys2Proof.Machine

/-- What stops the block for good. No meaning of the present model raises it: every command of the
table has an effect in the manual. -/
inductive Fault where
  /-- Reserved for behaviour outside the manual; no meaning raises it (safe). -/
  | outsideManual
  deriving DecidableEq, Repr

/-- Why a command has no meaning. -/
inductive Refusal where
  /-- Raised by an arm of exec whose command is not modelled (safe); the string is its mnemonic. -/
  | notModelled (mnemonic : String)
  deriving DecidableEq, Repr

/-- The fault source kinds of R529. -/
inductive Kind where
  | lockstep | supply | clockRef | bridgeCrc | sramCorr | sramUncorr | regParity
  | merUnlock | ephAbort
  | portTrain | portRetry | portFlight
  | stitchAuto | stitchSense | stitchFault | stitchSampleLoss
  | engOverrun | engNoSpare | engFault | arbDeadline | arbDup
  | skeinNoFb | skeinStartFail | skeinShare | skeinDegraded | skeinOv | skeinUv | skeinIlim
  | rectFail | rectComm | busSense | busOv | busUv | battComm | battFault | battLevel | battTemp
  | huEntry | huExhausted
  | slotMeasLoss | slotBreaker | slotFastTrip | slotGate | slotSurprise | capTargetBreak
  | capFloorBreak | capEnforce | capNoncomply
  | seqStartFail | seqTimedOff | railLost | chassisForceOff
  | adcOverrun | adcCalLost | adcOpenWire | thmSensor | thmWarn | thmThrottle | thmShutdown
  | pairConfig | pairLink | pairAlive | pairLost | pairYield | pairProveFail
  | nvWrite | nvRead | nvCopyLost | holdupDie
  | twStretch | twStuck
  | secEntropy | secBoot | secKey | fwFallback
  deriving DecidableEq, Repr

/-- What leaves the block in the current fabric cycle. -/
inductive Out where
  /-- A COMMAND cell entering the transmit PHY of a port (R196). -/
  | command (port : Nat) (stitch : Nat) (cycle duty mode res hold period nextOffset target : Nat)
  /-- A COMMAND cell of a service lane (R408). -/
  | svcCommand (lane : Nat) (gate warn throttle clearTrip : Bool) (tripMa : Nat)
  /-- An EVENT cell down a port or service lane: code and detail (R425, R430, R509, R610). -/
  | event (link : LinkId) (code : Nat) (detail : Nat)
  /-- A MGMT cell of kind 1 or 2 (R52, R55, R56): its segment is 0. -/
  | mgmt (port fn kind slot : Nat) (data : List Byte)
  /-- A TIME cell (R164). -/
  | time (link : LinkId) (tTx downFlight16 epochNext epochAt : Nat) (echoReq : Bool)
  /-- A BULK cell (R162); while it waits, `data` is what its stream has yet to send. -/
  | bulk (link : LinkId) (stream segment : Nat) (last : Bool) (data : List Byte)
  /-- An ACK (R159). -/
  | ack (link : LinkId) (next : Nat) (sack : BitVec 31)
  /-- A BEACON cell of a rendezvous (R180). -/
  | beacon (port tTx nextAt : Nat) (wake : Bool)
  /-- A width-change control set (R145). -/
  | widthSet (port : Nat) (lanes : BitVec 8) (frame : Nat)
  /-- A heartbeat (R499). -/
  | heartbeat (tTx state : Nat) (home : Bool) (owned : BitVec 64)
  /-- A failure notice (R508). -/
  | failureNotice (cause : Nat)
  /-- A digest entry (R501). -/
  | digest (skein cycle : Nat) (crc : Word)
  /-- An effect message (R500). -/
  | effect (m : Effect)
  /-- A claim, yield or transit record (R509, R519, R521). -/
  | claimRec (r : ClaimRec)
  | transitRec (tx : Nat)
  /-- A request for a transit (R524). -/
  | transitReq
  /-- A state image or a request for one (R503). -/
  | image (skein : Nat) (request : Bool)
  /-- Flights and width of a port for R31. -/
  | flights (port upNs downNs width : Nat)
  /-- The shelf digest (R499). -/
  | shelfDigest (d : ShelfDigest)
  /-- An MSI-X vector of a mailbox's function (R61). -/
  | msix (mb vector : Nat)
  /-- The value a register read returns, and an Unsupported Request (R667, R668). -/
  | readData (v : Word)
  | unsupported
  /-- A PMBus write and a poll on a two-wire port (R343, R374). -/
  | pmbus (port addr code value : Nat)
  /-- A target's answer, a NACK, and an attention pulse (R583, R585). -/
  | twData (port : Nat) (v : Word)
  | twNack (port : Nat)
  | twAttention (port : Nat)
  /-- SCL pulses and a STOP of a bus recovery (R579). -/
  | twRecover (port pulses : Nat)
  deriving DecidableEq, Repr

/-- The header of a cell that enters a transmit PHY (R156), with its link and the lane it travels on (R143). -/
structure CellHdr where
  link : LinkId
  type : Nat
  epoch : Nat
  stitch : Nat
  tag : Nat
  retx : Bool
  last : Bool
  ackReq : Bool
  xoff : Bool
  sub : Nat
  owner : Nat
  seq : Nat
  lane : Nat
  deriving DecidableEq, Repr

/-- The states of a command slot (R64): `done` is completed, with the completion waiting for room in the ring (R60). -/
inductive Phase where
  | free | waiting | started | done
  deriving DecidableEq, Repr

/-- A command slot of a mailbox (R62 to R68): `bytes` is what the doorbell submitted (R676), `sub` its number in the
mailbox's order of submission and `orderedAfter` that of the ordered command it follows (R69, R70), `left` the
generations left within the last second with their times, `freedAt` the cycle of the last completion (R665). -/
structure CmdSlot where
  gen : Nat := 0
  phase : Phase := .free
  bytes : List Byte := []
  acceptedAt : Nat := 0
  sub : Nat := 0
  orderedAfter : Option Nat := none
  left : List (Nat × Nat) := []
  freedAt : Option Nat := none
  segs : List Nat := []
  segsAt : Nat := 0
  viaPort : Option Nat := none
  mirrored : Bool := false
  deriving DecidableEq, Repr

/-- A completion that waits for ring space (R60, R665). -/
structure Compl where
  slot : Nat
  status : Nat
  info : Nat
  result : Nat
  deriving DecidableEq, Repr

/-- A mailbox (VI v, or the AF as 256): its submission order, oldest first, its gathering of
completions (R707) with the time of the first one gathered, its tokens (R76) and its deficit (R78), the number of its
last submission and of its last ordered one, and the first doorbell or segment that counted in a cycle: the cycle, with
dup_doorbell and VI_DOORBELL_DROP_CNT before it (R84, R706). -/
structure Mailbox where
  order : List Nat := []
  cqWait : List Compl := []
  gathered : Nat := 0
  firstAt : Option Nat := none
  tokens : Nat := 4
  tokenAt : Nat := 0
  deficit : Nat := 0
  subs : Nat := 0
  lastOrdered : Option Nat := none
  counted : Option (Nat × Bool × Nat) := none
  /-- The generation of the key held, and of the last key created (R601). -/
  keyGen : Option Nat := none
  keyCount : Nat := 0
  viGen : Nat := 0
  /-- The key in the key store, and the copies wrapped under the device key in NV0 and NV1 (R82, R83): each by the place in
  the DRBG's output where its 64 bytes were drawn. -/
  key : Option Nat := none
  wrap0 : Option Nat := none
  wrap1 : Option Nat := none
  deriving DecidableEq, Repr

/-- A meridian (R94 to R96, R99): running value, step fraction, prescaler accumulator, the step,
fraction, ratio and offset in force, the held value, the lock counters, the last carrier reference, and the last pin
edge with its distance from the one before, 0 before two edges (R133). -/
structure Meridian where
  value : Nat := 0
  frac : Nat := 0
  acc : Nat := 0
  step : Nat := 0
  stepFrac : Nat := 0
  ratio : Nat := 0x10000
  offset : Nat := 0
  held : Option Nat := none
  good : Nat := 0
  bad : Nat := 0
  lastRef : Nat := 0
  lastEdge : Option Nat := none
  edgeGap : Nat := 0
  /-- The last tick of a src 4 meridian, and what its value lies from whole ticks while it slews back (R133). -/
  tickAt : Nat := 0
  slewed : Int := 0
  /-- The cycle in which the meridian began or resumed to run (R105). -/
  liveAt : Option Nat := none
  deriving DecidableEq, Repr

/-- A fan output (R126): the period and duty in force and the tick within the period. -/
structure Fan where
  period : Nat := 1000
  duty : Nat := 1000
  startedAt : Nat := 0
  deriving DecidableEq, Repr

/-- One action of a constellation (R121, R365, R385). -/
inductive EphAct where
  | target (skein : Nat) (mv slew : Nat)
  | count (skein : Nat) (k : Nat)
  | rate (skein hz mer : Nat)
  | regWrite (off : Nat) (v mask : Word)
  /-- A timed command (R655). -/
  | command (op : Nat) (payload : List Byte)
  /-- A plan of a port: new samples per cycle and rate of each skein (R151, R485). -/
  | samples (plan : Bool) (skein n : Nat)
  /-- The plan of a port for a width comes into force (R155). -/
  | plan (port width : Nat)
  /-- A PMBus write (R365): 0 OPERATION, else VOUT_COMMAND. -/
  | rectVout (rect mv : Nat)
  | rectOper (rect val : Nat)
  | busSet (mv : Nat)
  deriving DecidableEq, Repr

/-- The states of an ephemeris entry (R116, R124, R125). -/
inductive EphSt where
  | free | pending | committed | applied | aborted | cancelled
  deriving DecidableEq, Repr

/-- The triggers of R121. Kind 2 is stored as the meridian it is compared with. -/
inductive EphTrig where
  | time (t : Nat)
  | mer (m : Nat) (v : Nat)
  deriving DecidableEq, Repr

/-- An ephemeris entry (R115 to R125). The issuer is 0 to 255 for a VI, 256 for the AF, 257 for the
firmware. `ord` is its place in the order of entry (R119), `cycles` holds the cycle of each skein action, `optimiser` marks R355's own
entries. -/
structure EphEntry where
  st : EphSt := .free
  gen : Nat := 0
  trig : EphTrig := .time 0
  acts : List EphAct := []
  issuer : Nat := 0
  enteredAt : Nat := 0
  ord : Nat := 0
  endedAt : Nat := 0
  cycles : List (Nat × Nat) := []
  optimiser : Bool := false
  holdupStep : Option Nat := none
  deriving DecidableEq, Repr

/-- A constellation that waits for the planned moves of its jobs (R122, R271): the command that posts it, if one does, with
its trigger and payload; and the skeins still moving. -/
structure MovePost where
  slot : Option (Nat × Nat) := none
  trig : EphTrig := .time 0
  acts : List EphAct := []
  body : List Byte := []
  moving : List Nat := []
  deriving DecidableEq, Repr

/-- A reliable cell in flight (R158, R160). `what` tags the cells the block tracks: a claim (1), the effect message of
ephemeris entry n (2 + n) or other (0). -/
structure RelCell where
  seq : Nat
  sentAt : Nat
  tries : Nat := 0
  what : Nat := 0
  cell : Out
  deriving DecidableEq, Repr

/-- The delivery of a link (R150, R158 to R161): the cells that wait to be sent, oldest first, those in flight, the
sequence numbers of those to be sent again, the next number expected, and the cells received out of order. -/
structure Reliable where
  txNext : Nat := 0
  unacked : List RelCell := []
  backlog : List (Nat × Out) := []
  again : List Nat := []
  rxNext : Nat := 0
  rxHeld : List (Nat × Instr) := []
  /-- The data bytes of the stream that arrives. -/
  rxData : List Byte := []
  xoff : Bool := false
  deriving DecidableEq, Repr

/-- A granted or queued COMMAND cell (R196, R321). `lock` is the number of the locked run it belongs to. -/
structure CmdCell where
  stitch : Nat
  engine : Nat
  cycle : Nat
  duty : Nat
  mode : Nat
  res : Nat
  hold : Nat
  period : Nat
  nextOffset : Nat
  off : Nat
  target : Nat
  deadline : Nat
  reload : Nat
  postAt : Nat
  lock : Option (Nat × Nat) := none
  hinted : Bool := false
  deriving DecidableEq, Repr

/-- A slot port (R134 to R184) with its arbiter (R320 to R340): what its registers do not hold. -/
structure Port where
  attempts : Nat := 0
  flightOnly : Bool := true
  retryAt : Option Nat := none
  uncorr : List (Nat × Nat) := []
  laneSet : BitVec 8 := 0
  wchg : Option (BitVec 8 × Nat × Nat × Bool) := none
  widerSince : Option Nat := none
  planWidth : Nat := 8
  rel : Reliable := {}
  /-- Cells sent since training (R143), and the time in 1/1,000 ticks at which the next cell slot falls free (R150). -/
  cells : Nat := 0
  slotAt : Nat := 0
  /-- The stored reduced-width plans: for each width the skeins with samples, rate and carrier (R151). -/
  plans : List (Nat × List (Nat × Nat × Nat × Nat)) := []
  epochNext : Option (Nat × Nat) := none
  lastEpoch : Nat := 0
  upN : Nat := 0
  downN : Nat := 0
  retired : Tbl Nat := []
  echoes : List (Int × Int) := []
  echoReqAt : Nat := 0
  timeAt : Option Nat := none
  rendezvousAt : Nat := 0
  /-- The last burst of the rendezvous (R180), and whether the port trains lane 0 after a lost schedule (R183). -/
  burstAt : Option Nat := none
  sleepTrain : Bool := false
  claim : Option (Nat × Nat) := none
  namedOther : Nat := 0
  claimBuf : List CmdCell := []
  yieldAt : Option Nat := none
  queue : List CmdCell := []
  held : List CmdCell := []
  /-- Sequences dropped under R330, with the fabric cycle of the drop. -/
  locksDropped : List ((Nat × Nat) × Nat) := []
  lastGrant : Tbl Nat := []
  granting : Option (Nat × Nat) := none
  downSince : Option Nat := none
  pairWidth : Nat := 0
  pairFlights : Option (Nat × Nat) := none
  firstTimeAt : Option Nat := none
  clearWindow : Bool := false
  snapAt : Option Nat := none
  snapSeen : Bool := false
  hubVersion : Nat := 0
  deriving DecidableEq, Repr

/-- A service lane (R175 to R178). -/
structure Svc where
  downSince : Option Nat := none
  retryAt : Option Nat := none
  rel : Reliable := {}
  epochNext : Option (Nat × Nat) := none
  retired : Tbl Nat := []
  echoes : List (Int × Int) := []
  echoReqAt : Nat := 0
  timeAt : Option Nat := none
  upNs : Nat := 0
  downNs : Nat := 0
  sentAt : Nat := 0
  admitted : Bool := false
  claim : Option (Nat × Nat) := none
  deriving DecidableEq, Repr

/-- A stitch descriptor (R186). -/
structure Desc where
  iinSensed : Bool := false
  storedLoop : Bool := false
  bias : Bool := false
  vinLsb : Nat := 0
  iphLsb : Nat := 0
  voutLsb : Nat := 0
  iinLsb : Nat := 0
  iphZero : Nat := 0
  iinZero : Nat := 0
  deriving DecidableEq, Repr

/-- The window result record (R234). -/
structure Rec where
  cycle : Nat := 0
  vinOk : Bool := false
  iphOk : Bool := false
  voutOk : Bool := false
  iinOk : Bool := false
  lossOk : Bool := false
  incomplete : Bool := false
  res : Nat := 0
  hub : Nat := 0
  vinMean : Int := 0
  iphMean : Int := 0
  voutMean : Int := 0
  iinMean : Int := 0
  iphRms : Int := 0
  iinRms : Int := 0
  iphMax : Int := 0
  iphMin : Int := 0
  voutMax : Int := 0
  voutMin : Int := 0
  eIn : Int := 0
  eOut : Int := 0
  loss : Int := 0
  voutCode : Nat := 0
  mask : Nat := 0
  w : Nat := 0
  deriving DecidableEq, Repr

/-- The five accumulators of R240. -/
structure Acc where
  eIn : Int := 0
  eOut : Int := 0
  loss : Int := 0
  ticks : Nat := 0
  windows : Nat := 0
  deriving DecidableEq, Repr

/-- An open window of a stitch (R224 to R226): its cycle and the cells it holds. -/
structure OpenWin where
  cycle : Nat
  cells : List (Nat × List Nat) := []
  hub : Nat := 0
  deriving DecidableEq, Repr

/-- A stitch (R189): its state is 0 unbound, 1 adopted, 2 controlled, 3 held, 4 autonomous, 5 faulted. -/
structure Stitch where
  state : Nat := 0
  hub : Nat := 0
  skein : Option Nat := none
  desc : Desc := {}
  senseOpen : Bool := false
  senseRun : Nat := 0
  senseClear : Nat := 0
  latched : Bool := false
  hiccup : Bool := false
  hiccups : List Nat := []
  late : Nat := 0
  duty : Nat := 0
  mode : Nat := 0
  due : Bool := false
  trailers : List (Nat × Nat) := []
  trailerGap : Nat := 0
  wins : List OpenWin := []
  reduced : Option Nat := none
  last : Rec := {}
  missing : Nat := 0
  noHub2 : Nat := 0
  sampled : Nat := 0
  acc : Acc := {}
  snap : Acc := {}
  prevSnap : Acc := {}
  lastContrib : Int × Int × Int := (0, 0, 0)
  /-- The last 16 records, each with the holder whose key encrypts it (R239). -/
  ring : List (Nat × Rec) := []
  /-- The windows that joined the live accumulators in one fabric cycle (R242). -/
  added : Nat × List Rec := (0, [])
  /-- The newest usable feedback: Vout mean, its code and its time of delivery (R251). -/
  lastOk : Option (Int × Nat × Nat) := none
  /-- The newest window judged for sense loss (R212). -/
  judgedAt : Option Nat := none
  /-- The reload times and duties of the newest commands (R223). -/
  applied : List (Nat × Nat) := []
  resOf : List (Nat × Nat) := []
  lens : List (Nat × Nat) := []
  offset : Nat := 0
  toOffset : Nat := 0
  offs : List (Nat × Nat) := []
  rj : Int := 16384
  shareRun : Nat := 0
  adopting : Bool := false
  firstFromTrailer : Bool := false
  adoptC : Nat := 0
  postedTo : Option Nat := none
  /-- The time of the newest trailer, and the tag and time of the newest sample cell of an unbound stitch (R632). -/
  trailAt : Nat := 0
  lastTag : Option (Nat × Nat) := none
  deriving DecidableEq, Repr

/-- The law of a skein (R280). -/
structure Law where
  ffEn : Bool := false
  nKick : Nat := 0
  vFf : Int := 1
  errFs : Int := 1
  iFs : Int := 1
  uMin : Int := 0
  uMax : Int := 32767
  ks : Int := 0
  shareLim : Int := 0
  kstep : Int := 0
  kstepExp : Nat := 0
  kkickExp : Nat := 0
  kkick : Int := 0
  deriving DecidableEq, Repr

/-- The gain schedule (R255). -/
structure Sched where
  selector : Nat := 2
  fixed : Nat := 0
  hys : Int := 0
  th : List Int := [0, 0, 0, 0, 0, 0, 0]
  gains : List (Int × Int × Int × Nat) := []
  deriving DecidableEq, Repr

/-- The limits of a skein (SKEIN_SET_LIMITS). -/
structure Limits where
  tgtMin : Nat := 1
  tgtMax : Nat := 1
  ovAbs : Nat := 2
  ovMargin : Nat := 1
  uvMargin : Nat := 1
  ovWin : Nat := 1
  uvWin : Nat := 1
  nMin : Nat := 1
  nMax : Nat := 1
  ilimMa : Int := 1
  ilimUs : Nat := 1
  restoreMa : Int := 0
  dmin : Nat := 0
  dmax : Nat := 65535
  ramp : Nat := 1
  slew : Nat := 1
  pgTimeout : Nat := 1001
  estMargin : Nat := 0
  deriving DecidableEq, Repr

/-- A whole load that takes effect at one skein step (R280, R314). -/
inductive Load where
  | gaintab (shift : Nat) (entries : List Nat)
  | schedule (s : Sched)
  | law (l : Law)
  | limits (l : Limits)
  | shed (order : List Nat)
  | power (op : Nat)
  deriving DecidableEq, Repr

/-- A skein action for a cycle (R117). -/
inductive SkAct where
  | target (mv slew : Nat)
  /-- A count, with the holder that hears of a restore hold (R306). -/
  | count (k issuer : Nat)
  | rate (hz mer : Nat)
  /-- Samples per cycle of a reduced-width plan, or of a shed stage; none ends them. -/
  | samples (plan : Bool) (n : Option Nat)
  | load (l : Load)
  | releaseAll
  deriving DecidableEq, Repr

/-- A skein (R248 to R319): its law, limits, job state and the engine that runs it. Job.skeinState is the
state of R286: 0 off, 1 starting, 2 regulating, 3 stopping, 4 released, 5 latched. -/
structure Skein where
  known : Bool := false
  slot : Nat := 0
  stitches : List Nat := []
  law : Law := {}
  gtab : List Nat := []
  idxShift : Nat := 0
  sched : Sched := {}
  lim : Limits := {}
  job : Job := {}
  check : Job := {}
  checkCycle : Nat := 0
  target : Nat := 0
  slew : Nat := 1
  order : List Nat := []
  offset : Nat := 0
  interleave : Bool := true
  samples : Nat := 16
  planSamples : Option Nat := none
  shedSamples : Option Nat := none
  carrier : Nat := 0
  base : Nat := 0
  /-- The cycle from which the carrier holds, and the carrier, base and rate of the cycles before it (R98). -/
  moved : Option (Nat × Nat × Nat × Nat) := none
  rates : List (Nat × Nat) := []
  hz : Nat := 0
  holdCfg : Option Nat := none
  delay : Nat := 1
  optCount : Bool := false
  optRate : Bool := false
  fn : Nat := 0
  engine : Option Nat := none
  unplaced : Bool := false
  shadow : Option (Nat × Bool × Nat) := none
  moveTo : Option Nat := none
  moveFor : Option (Nat × Nat) := none
  overruns : Nat := 0
  spent : Nat := 0
  batchLate : Bool := false
  loads : List (Load × Option (Nat × Nat)) := []
  acts : List (Nat × SkAct) := []
  powerCmd : Option (Nat × Nat × Nat) := none
  stepped : Nat := 0
  steps : Nat := 0
  lastE : Int := 0
  lastDu : Int := 0
  lastKick : Int := 0
  lastDelta : Int := 0
  lastFbCode : Nat := 0
  lastFb : Option Int := none
  lastIdx : Nat := 0
  /-- Whether an intent applied at the last step (R281). -/
  gotIntent : Bool := false
  /-- Former lead stitches, each with the cycle up to which it leads (R248). -/
  leads : List (Nat × Nat) := []
  isk : Int := 0
  iAvg : Int := 0
  fbHist : List (Option Int) := []
  refHist : List Int := []
  wantStart : Bool := false
  pgRun : Nat := 0
  pgAt : Option Nat := none
  noFb : Nat := 0
  fbBack : Nat := 0
  adoptWin : Nat := 0
  forceAdopt : Bool := false
  mayReturn : Bool := false
  offAt : Option Nat := none
  relAt : Option Nat := none
  kept : List (Nat × Rec) := []
  heldIntents : List Intent := []
  ilimFrom : Option Nat := none
  restoreUntil : Option Nat := none
  uvClear : Nat := 0
  running : List Nat := []
  nextRunning : List Nat := []
  countAt : Option (Nat × Nat) := none
  sat : Bool := false
  inStep : Bool := false
  matched : Nat := 0
  ownDigest : List (Nat × Word) := []
  waitDigest : Option (Nat × Nat × Word) := none
  wantImage : Bool := false
  stepsIn : Nat := 0
  probeAt : Nat := 0
  dwellUntil : Nat := 0
  rateDwell : Nat := 0
  settle : Nat := 0
  fitBins : List (Nat × Nat × Int × Int) := []
  pPrev : Int := 0
  /-- The loss of the last snapshot interval in mW, and whether no change has disturbed the interval (R356). -/
  lossMw : Int := 0
  clean : Bool := false
  unusableSince : Option Nat := none
  /-- Sum, number, least and greatest of the skein's energies over the ticks of that time (R358). -/
  wait4 : Int × Nat × Int × Int := (0, 0, 0, 0)
  deriving DecidableEq, Repr

/-- An engine's trace buffer (R265 to R267). -/
structure Trace where
  state : Nat := 0
  skein : Nat := 0
  ringMode : Bool := false
  nodes : List Nat := []
  stitch : Nat := 0
  decim : Nat := 1
  decimLeft : Nat := 0
  trigger : Nat := 0
  post : Nat := 0
  level : Int := 0
  at_ : Nat := 0
  postLeft : Nat := 0
  records : List (List Byte) := []
  wrapped : Bool := false
  owner : Nat := 256
  deriving DecidableEq, Repr

/-- An engine (R268 to R285): what its registers do not hold. -/
structure Engine where
  trace : Trace := {}
  testFor : Option (Nat × Nat) := none
  deriving DecidableEq, Repr

/-- A rectifier (R342 to R351). States are those of *Rectifier states*. -/
structure Rect where
  state : Nat := 0
  tw : Nat := 0
  addr : Nat := 0
  alertGpio : Nat := 64
  phase : Nat := 0
  ratedMw : Nat := 0
  voutExp : Int := 0
  vout : Nat := 0
  trim : Int := 0
  /-- The trim that a cancelled drain restores (R346), and the retries of a status read that reported CML (R349). -/
  trimWas : Int := 0
  cml : Nat := 0
  commFails : Nat := 0
  polled : Bool := false
  pinMw : Int := 0
  poutMw : Int := 0
  ioutMa : Int := 0
  voutMv : Int := 0
  temp : Int := 0
  status : Nat := 0
  acOk : Bool := true
  startAt : Nat := 0
  drainAt : Nat := 0
  exclude : Bool := false
  /-- The bins of R357: number, averages of loss and of output power. -/
  bins : List (Int × Int × Int) := []
  ctrlFor : Option (Nat × Nat) := none
  deriving DecidableEq, Repr

/-- A battery string (R373 to R400): what its registers do not hold. -/
structure Str where
  tw : Nat := 0
  addr : Nat := 0
  ainV : Nat := 0
  ainI : Nat := 0
  ainT : Nat := 0
  scV : Int × Int × Int := (1, 1, 0)
  scI : Int × Int × Int := (1, 1, 0)
  scT : Int × Int × Int := (1, 1, 0)
  qNom : Nat := 0
  ocv : List Int := []
  iDisMax : Int := 0
  chgMw : Nat := 0
  vFull : Int := 0
  iTaper : Int := 0
  learnEnd : Nat := 6554
  q : Int := 0
  qfull : Nat := 0
  rint : Int := 0
  sampledAt : Nat := 0
  prevI : Option (Int × Int) := none
  lowSince : Option Nat := none
  idleSince : Option Nat := none
  fullSince : Option Nat := none
  hibSince : Option Nat := none
  restDone : Bool := false
  fullSeen : Bool := false
  qd : Int := 0
  interruptAt : Option Nat := none
  inhibitCmd : Bool := false
  commFails : Nat := 0
  deriving DecidableEq, Repr

/-- A slot (R406 to R424): what its registers do not hold. -/
structure Slot where
  step : Nat := 0
  stepAt : Nat := 0
  presentSince : Option Nat := none
  absentSince : Option Nat := none
  present : Bool := false
  gateOn : Bool := false
  gateHigh : Bool := false
  tripped : Bool := false
  /-- When the gate was last commanded, and whether gate_high has appeared since (R414). -/
  gateSince : Nat := 0
  risen : Bool := false
  lowHigh : Nat := 0
  dropSince : Option Nat := none
  cell : Option (List Nat × List Nat) := none
  missed : Nat := 0
  iLsb : Nat := 0
  vLsb : Nat := 0
  iZero : Nat := 0
  tripMaxA : Nat := 0
  haveDesc : Bool := false
  descs : List Nat := []
  tripMa : Nat := 0
  ltMa : Int := 0
  ltMs : Nat := 1
  stMa : Int := 0
  stUs : Nat := 10
  inrushMa : Int := 0
  dropMax : Nat := 1
  gateRiseMs : Nat := 5
  ltRun : Nat := 0
  stRun : Nat := 0
  eRem : Int := 0
  /-- Energy since the last optimiser tick, in units of 1/524,288,000 nJ (R368). -/
  eTick : Int := 0
  toSleep : Bool := false
  unbindAt : Nat := 0
  ctrl : Option (Nat × Nat × Nat) := none
  castWaitSent : Bool := false
  /-- When the slot was last fenced, or left by a card while in use (R424). -/
  leftAt : Option Nat := none
  cutAt : Option Nat := none
  clearTrip : Bool := false
  changed : Bool := false
  adopted : Bool := false
  p1ms : List Int := []
  startupBound : Bool := false
  /-- The cycle bases of the slot are set, so its stitches may be bound (R418, R632). -/
  baseSet : Bool := false
  deriving DecidableEq, Repr

/-- A power budget and its cap state (R427 to R434). -/
structure Budget where
  cls : Nat := 0
  floor : Nat := 0
  ceil : Nat := 0
  graceUs : Nat := 2000
  enfMs : Nat := 20
  reqId : Nat := 0
  deadline : Nat := 0
  capAtThrottle : Nat := 0
  throttledAt : Nat := 0
  promise : Bool := false
  toldCap : Nat := 0
  deriving DecidableEq, Repr

/-- A rail's entry in its slot's sequence (R440, R449). -/
structure Rail where
  tslot : Nat := 0
  immediate : Bool := false
  action : Nat := 0
  onDelay : Nat := 0
  offDelay : Nat := 0
  sdMs : Nat := 1
  deriving DecidableEq, Repr

/-- What a skein's entry is doing in its sequence: issued, power good, stopped, its stop recorded as
complete; and its supervised conditions with the time each arose (R441 to R449). -/
structure RailRun where
  issued : Bool := false
  good : Bool := false
  stopped : Bool := false
  stopAt : Nat := 0
  offNoted : Bool := false
  conds : List (Nat × Nat) := []
  acted : Bool := false
  cntChanged : Bool := false
  deriving DecidableEq, Repr

/-- A slot's power sequence (R440 to R454). -/
structure Seq where
  widthUs : Nat := 100
  rstGpio : Option Nat := none
  rstDelayUs : Nat := 0
  t0 : Nat := 0
  tTop : Nat := 0
  failInfo : Nat := 0
  fail : Bool := false
  releaseAt : Option Nat := none
  mrUntil : Option Nat := none
  ctrl : Option (Nat × Nat × Nat) := none
  deriving DecidableEq, Repr

/-- A shelf ADC converter's run and checks (R463 to R474). -/
structure Adc where
  running : Bool := false
  entry : Nat := 0
  conv : Nat := 0
  sum : Nat := 0
  startAt : Nat := 0
  stopAt : Option Nat := none
  /-- The entries in force: input, a and shift. -/
  seq : List (Nat × Nat × Nat) := []
  /-- The slot last used, and the last one that went to a check or a capture. -/
  slotAt : Option Nat := none
  lastCheck : Option Nat := none
  /-- A trigger met the run in this cycle: an overrun, unless the run ends in this cycle (R465, R477). -/
  trigAt : Option Nat := none
  deriving DecidableEq, Repr

/-- An analogue input's checks and captures (R470 to R474). -/
structure Ain where
  /-- The last 64 results (R391). -/
  hist : List Nat := []
  owBase : Option Nat := none
  owAt : Nat := 0
  holdUntil : Nat := 0
  openRun : Nat := 0
  goodRun : Nat := 0
  cap : Option (Nat × Nat × Nat × Nat) := none
  capFor : Option (Nat × Nat) := none
  prevCal : Nat := 0
  deriving DecidableEq, Repr

/-- A mains phase (R476). -/
structure Phase3 where
  armed : Bool := false
  prev : Option (Int × Nat) := none
  lastCross : Option Nat := none
  sumSq : Nat := 0
  count : Nat := 0
  deriving DecidableEq, Repr

/-- A sensor (R479 to R483): consecutive samples at, above or below its thresholds. -/
structure Sensor where
  sampledAt : Nat := 0
  /-- Warning and throttle entered. -/
  on : List Bool := [false, false]
  enterRun : List Nat := [0, 0]
  leaveRun : List Nat := [0, 0]
  critRun : Nat := 0
  deriving DecidableEq, Repr

/-- A tracked fault instance (R542). `last` is the last rung taken, `clean` the consecutive evaluations
without the condition (R530). -/
structure Inst where
  kind : Kind
  inst : Nat
  cls : Nat
  held : Bool := false
  raisedAt : Nat := 0
  last : Nat := 0
  graceAt : Option Nat := none
  waits : Bool := false
  clean : Nat := 0
  injected : Bool := false
  die : Nat := 4
  done : Bool := false
  deriving DecidableEq, Repr

/-- A fault log record (R545). -/
structure LogRec where
  time : Nat
  kind : Nat
  cls : Nat
  injected : Bool
  passed : Bool
  recKind : Nat
  inst : Nat
  die : Nat
  rung : Nat
  seq : Nat
  deriving DecidableEq, Repr

/-- The payload of an MRAM record, before its CRC and encryption (R457, R552, R567, R568, R472). -/
inductive NvData where
  | seqRec (time skein slot kind info tslot d0 d1 : Nat)
  | fault (r : LogRec)
  | last (time objKind kind inst die flags object capture : Nat) (snap : List Word) (latched : Nat)
  | segment (capture stitch index kind pre : Nat) (recs : List Rec)
  | setting (key : Nat) (vals : List Int)
  deriving DecidableEq, Repr

/-- One copy of a record on a die: its sequence number, the holder and key generation of its tag (R559),
and whether a supply loss tore it (R556). -/
structure NvCopy where
  seq : Nat
  holder : Nat
  keyGen : Nat
  data : NvData
  torn : Bool := false
  uncorr : Bool := false
  deriving DecidableEq, Repr

/-- A queued MRAM write (R553, R555): region, page or slot, priority, and how far it has come. -/
structure NvWrite where
  region : Nat
  index : Nat
  prio : Nat
  copy : NvCopy
  die : Nat := 0
  tries : Nat := 0
  started : Bool := false
  deriving DecidableEq, Repr

/-- A capture in progress (R564 to R567): stitches left with the results still to stage. -/
structure Capture where
  id : Nat
  kind : Nat
  startedAt : Nat
  post : Nat
  left : List (Nat × Nat)
  staged : List (Nat × List Rec)
  pre : List (Nat × Nat)
  cut : Bool := false
  deriving DecidableEq, Repr

/-- A two-wire port (R571 to R588): its transactions, the head in progress, the arbitration losses and failed
attempts of that one, the retry of a stuck bus, the attention it asserts, and whether it waits for its role
after a wake (R588). -/
structure Tw where
  jobs : List (Nat × Nat × Nat) := []
  losses : Nat := 0
  tries : Nat := 0
  retryAt : Option Nat := none
  attnPending : Bool := false
  attnAt : Nat := 0
  roleWait : Bool := false
  lostAt : Option Nat := none
  recAt : Option Nat := none
  alertAt : Option Nat := none
  araAt : Option Nat := none
  deriving DecidableEq, Repr

/-- A consumer of the DRBG (R598): a VI key, the AF key, a replacement key, or random bytes. -/
inductive Consumer where
  | viKey (mb slot vi : Nat)
  | keyFix (holder : Nat)
  | random (mb slot count : Nat)
  deriving DecidableEq, Repr

/-- The pattern: what the installation names (R22, R111, R271, R342, R373, R385, R419, R440, R571). The
byte format of a bank is not in the manual; a bank decodes to this record (log 9). -/
structure PatSkein where
  id : Nat
  slot : Nat
  stitches : List Nat
  law : Law := {}
  gtab : List Nat := []
  idxShift : Nat := 0
  sched : Sched := {}
  lim : Limits := {}
  target : Nat := 0
  offset : Nat := 0
  interleave : Bool := true
  samples : Nat := 16
  carrier : Nat := 0
  hz : Nat := 0
  rates : List (Nat × Nat) := []
  hold : Option Nat := none
  rail : Option Rail := none
  deriving DecidableEq, Repr

structure Pattern where
  skeins : List PatSkein := []
  rects : Tbl Rect := []
  strings : Tbl Str := []
  rated : Tbl Nat := []
  autoCast : BitVec 64 := 0
  cutEn : BitVec 64 := 0
  iinSensed : Tbl Bool := []
  /-- The stored-loop block of each stitch, up to 240 bytes (R188). -/
  storedLoops : Tbl (List Byte) := []
  merGpio : BitVec 64 := 0
  home : Nat := 0
  spares : Option (List Nat) := none
  /-- The spare count of a quadrant that the pattern sets to 0 or 1 (R22), and the GPIOs named for other uses than the
  timebase, PFW_N, FAULT_N, alerts and reset outputs: FANn, the push button, MR_N and the AC_OK inputs (R111). -/
  spareCount : Tbl Nat := []
  otherGpio : List Nat := []
  meridians : Tbl (Nat × Nat × Nat × Nat) := []
  budgets : Tbl Budget := []
  breakers : Tbl Slot := []
  seqs : Tbl Seq := []
  steps : List (Nat × Nat × List EphAct × List EphAct) := []
  twMode : Tbl Nat := []
  busInputs : List (Nat × Nat × Nat) := []
  busSet : Nat := 0
  pfwGpio : Option Nat := none
  faultGpio : Option Nat := none
  pin : Nat := 0
  unbindMs : Nat := 500
  rstMs : Nat := 200
  tStartMs : Nat := 2000
  inrushMs : Nat := 20
  hubBootMs : Nat := 2000
  deriving DecidableEq, Repr, Inhabited

/-- Shelf state no register holds: the optimiser's settings and decisions, energy counters, hold-up. -/
structure Shelf where
  nRed : Nat := 3
  reserve : Nat := 3277
  busMin : Nat := 52000
  busMax : Nat := 54500
  busStep : Nat := 250
  trimLim : Int := 300
  busOv : Int := 60000
  busUv : Int := 45000
  acFilterUs : Nat := 50
  rectEn : Bool := false
  busEn : Bool := false
  optRun : Bool := false
  ticks : Nat := 0
  tickAt : Nat := 0
  /-- The length of the snapshot interval that ends at `tickAt` (R355, R369). -/
  tickLen : Nat := 16000000
  rectDwell : Nat := 0
  busDwell : Nat := 0
  busDir : Bool := true
  busBack : Nat := 0
  busLoss : Int := 0
  busHold : Nat := 0
  rectSettle : Nat := 0
  busSettle : Nat := 0
  removing : Bool := false
  pBus : List Int := []
  ovSince : Option Nat := none
  uvSince : Option Nat := none
  energy : Tbl Nat := []
  rem : Tbl Int := []
  emergencyWas : Bool := false
  vShut : Int := 44000
  targetS : Nat := 300
  sag : Int := 1500
  stableMs : Nat := 5000
  minMs : Nat := 1000
  warn : Nat := 9830
  low : Nat := 4915
  crit : Nat := 1638
  chgMin : Int := 80
  chgMax : Int := 720
  pLoad : Int := 0
  enteredAt : Nat := 0
  coverSince : Option Nat := none
  settledSince : Option Nat := none
  sagSince : Option Nat := none
  shutSince : Option Nat := none
  zeroSince : Option Nat := none
  budgetAt : Nat := 0
  lim : Int := 0
  drain : Int := 0
  posted : List Nat := []
  applied : List Nat := []
  pllHoldover : Bool := false
  /-- The frequency of the mains PLL, as the last period in its range; 0 before one (R102). -/
  pllPeriod : Nat := 0
  /-- A HOLDUP_CTRL payload that waits for the next computation of the hold-up budget (R402). -/
  huNext : Option (List Byte) := none
  warnLead : Nat := 100
  chgAt : Nat := 0
  deriving DecidableEq, Repr

/-- A command the owner of a port mirrored to this unit (R518): its slot, bytes and, once executed, its status. -/
structure Mirrored where
  mb : Nat
  slot : Nat
  port : Nat
  bytes : List Byte
  status : Option (Nat × Nat × Nat) := none
  deriving DecidableEq, Repr

/-- The pair (R495 to R528): what its registers do not hold. -/
structure Pair where
  /-- A heartbeat has been received, and no loss has been declared since. -/
  partner : Bool := false
  hbAt : Option Nat := none
  misses : Nat := 0
  /-- When the partner was last declared lost. -/
  lostAt : Option Nat := none
  alvOut : Bool := false
  /-- When the alive line was last driven, and the µs last sent a heartbeat and last checked for one. -/
  alvAt : Nat := 0
  hbTx : Option Nat := none
  hbChk : Option Nat := none
  /-- The width of the partner link is 2 to this power (R501). -/
  linkLanes : Nat := 3
  alvStopped : Bool := true
  failed : Bool := false
  outputsOff : Bool := false
  transitAt : Option Nat := none
  /-- T_x has passed and the roles have not yet changed (R521). -/
  transitMid : Bool := false
  transitFor : Option (Nat × Nat) := none
  transitIn : Bool := false
  lastSwap : Nat := 0
  proving : Option Nat := none
  periodicOff : Bool := false
  coveringSince : Option Nat := none
  digestAt : Nat := 0
  shelfDigest : Option ShelfDigest := none
  shelfDigestAt : Nat := 0
  mirror : List Mirrored := []
  /-- The partner's chassis time less this unit's (R92), and the fabric cycles left to the next count of slew. -/
  partnerDiff : Int := 0
  slewLeft : Nat := 1024
  deriving DecidableEq, Repr

/-- Faults (R529 to R548): the tracked instances, the log and the injection armed. -/
structure Faults where
  insts : List Inst := []
  atOnce : List Inst := []
  kindOld : Tbl (Nat × Nat × Nat × Nat) := []
  log : List LogRec := []
  inject : Option (Nat × Nat × Nat × Nat) := none
  safeStops : List Nat := []
  safeStopAt : Option Nat := none
  deriving DecidableEq, Repr

/-- The recorder (R550 to R568). -/
structure Nv where
  die0 : Tbl NvCopy := []
  die1 : Tbl NvCopy := []
  queue : List NvWrite := []
  seqs : Tbl Nat := []
  fails : List Nat := [0, 0]
  caps : List Capture := []
  capLog : List (Nat × Nat) := []
  settings : Tbl (List Int) := []
  deriving DecidableEq, Repr

/-- Trust and update (R590 to R618). Banks and image slots are the flash bytes; headers read from them. -/
structure Trust where
  ifMin : Nat := 1
  ifMax : Nat := 3
  pinned : Nat := 0
  pinNext : Nat := 0
  image : Nat := 0
  selector : Nat := 0
  trialSlot : Option Nat := none
  rejected : List Nat := []
  trialAt : Option Nat := none
  heldSince : Option Nat := none
  fusedSec : Nat := 0
  planAt : Option Nat := none
  planScope : Nat := 0
  planStep : Nat := 0
  /-- The partner link has been down since the plan waits for the other unit's restart (R605). -/
  planGone : Bool := false
  queue : List Consumer := []
  retestAt : Option (Nat × Nat) := none
  failing : List Nat := []
  instAt : Option Nat := none
  drbgN : Nat := 0
  reseedAt : Nat := 0
  requests : Nat := 0
  keyBad : List Nat := []
  bootRetryAt : Option Nat := none
  hubMask : BitVec 64 := 0
  hubAt : Nat := 0
  hubLeft : List Nat := []
  hubLen : Nat := 0
  /-- The pattern bank being written (R591, R662). -/
  wbank : Option Nat := none
  /-- The device and bank the pattern in force was loaded from (R497, R591). -/
  patBank : Option (Nat × Nat) := none
  /-- A fallback whose fault source is raised after the restart (R609). -/
  fellBack : Bool := false
  deriving DecidableEq, Repr

/-- Reset and the always-on domain (R619 to R640). -/
structure Reset where
  storedCt : Option Nat := none
  slow : Nat := 0
  dormantWhy : Nat := 0
  /-- Every main supply has been in its range for 1 ms (R690); VAON comes first (R692). -/
  supplyGood : Bool := false
  wakeHeld : Option Nat := none
  restartFor : Option Nat := none
  exitAt : Nat := 0
  mbxOpen : Bool := false
  sref : BitVec 2 := 3
  thermDormant : Bool := false
  /-- Consecutive cool readings of a unit dormant after a thermal shutdown, and the settings it took along. -/
  cool : Nat := 0
  coolThr : Int := 1440
  restartEn : Bool := true
  shutdownAt : Option Nat := none
  /-- When the image began to run (R626). -/
  imageAt : Nat := 0
  bootCause : Nat := 0
  held : Bool := false
  restartAt : Option (Nat × Nat) := none
  /-- The start after which every epoch but the current one counts as retired (R170). -/
  retiredAll : Option Nat := none
  deriving DecidableEq, Repr

/-- Thermal state (R481 to R492). -/
structure Thermal where
  /-- Junction temperatures of the last samples, newest first; none without a valid die sensor. -/
  hist : List (Option Int) := []
  /-- When the next sample is due (R479). -/
  sampleAt : Nat := 0
  levels : List Bool := [false, false, false]
  /-- Consecutive samples that meet each level's entry; the fourth is the shutdown level's absolute entry. -/
  enterRun : List Nat := [0, 0, 0, 0]
  leaveRun : List Nat := [0, 0, 0]
  stageAt : Option Nat := none
  stageTemp : Option Int := none
  restoreAt : Option Nat := none
  fanAt : Nat := 0
  deriving DecidableEq, Repr

/-- A software write or a hardware update of a register field in the current fabric cycle (R679): the
address, the field's bits and, for hardware, how to apply it again. -/
inductive Touch where
  | set (addr hi lo v : Nat)
  | add (addr hi lo n : Nat)
  | max (addr hi lo v : Nat)
  | min (addr hi lo v : Nat)
  deriving DecidableEq, Repr

/-- The machine. -/
structure State where
  /-- The commands that wait, first in, first out. -/
  pending : List Instr := []
  ct : Nat := 0
  /-- Register words that differ from their reset values, by unified address. -/
  regs : Tbl Word := []
  /-- The HI latches of R670 and the held LO writes of R671, by the address of the pair. -/
  latchHi : Tbl Word := []
  heldLo : Tbl Word := []
  hwTouched : List Touch := []
  swTouched : List (Nat × Nat × Nat) := []
  collided : List (Nat × Nat × Nat) := []
  /-- The value and control words of compare channels written in the current cycle, as they were before it (R110), and the
  channels that have matched in it (R109). -/
  cmpOld : Tbl (Word × Word × Word) := []
  cmpDone : List Nat := []
  out : List Out := []
  /-- The headers of the cells among them, in order. -/
  hdrs : List CellHdr := []
  /-- Bytes of the mailbox windows: rings and command slots. -/
  mem : List Host.Cell := []
  flash0 : List Host.Cell := []
  flash1 : List Host.Cell := []
  hubStage : List Host.Cell := []
  slots : Tbl CmdSlot := []
  mbxs : Tbl Mailbox := []
  /-- The participants that the control executor and the bulk dispatch served last: VI 0 to 255, the AF as 256 (R75, R78). -/
  ctrlTurn : Nat := 256
  bulkTurn : Nat := 256
  /-- Commands whose ephemeris entry waits for the partner to acknowledge it: mailbox, slot and entry (R73, R500). -/
  entering : List (Nat × Nat × Nat) := []
  /-- The virtual functions that the authority has disabled in the PCIe endpoint (R88). -/
  vfOff : List Nat := []
  /-- The VI of each slot function (slot * 4 + fn), and the mapping that takes effect at cast-on (R50). -/
  viMap : Tbl (Option Nat) := []
  viMapNext : Tbl (Option Nat) := []
  mers : Tbl Meridian := []
  fans : Tbl Fan := []
  gpio : BitVec 64 := 0
  gpioDriven : BitVec 64 := 0
  debugHalt : Bool := false
  debugLock : Bool := false
  eph : Tbl EphEntry := []
  ephLast : Nat := 4095
  /-- Entries entered so far (R119), and constellations that wait for planned moves. -/
  ephCount : Nat := 0
  posts : List MovePost := []
  ports : Tbl Port := []
  svcs : Tbl Svc := []
  partnerRel : Reliable := {}
  stitches : Tbl Stitch := []
  skeins : Tbl Skein := []
  engines : Tbl Engine := []
  rects : Tbl Rect := []
  strs : Tbl Str := []
  slotx : Tbl Slot := []
  budgets : Tbl Budget := []
  rails : Tbl (Option Rail) := []
  railRuns : Tbl RailRun := []
  seqs : Tbl Seq := []
  adcs : Tbl Adc := []
  ains : Tbl Ain := []
  phases : Tbl Phase3 := []
  sensors : Tbl Sensor := []
  tws : Tbl Tw := []
  shelf : Shelf := {}
  pair : Pair := {}
  faults : Faults := {}
  nv : Nv := {}
  trust : Trust := {}
  rst : Reset := {}
  thm : Thermal := {}
  pattern : Pattern := {}
  /-- The model's own counter for values the manual leaves free; nothing reads it but the free values. -/
  fresh : Nat := 0
  deriving DecidableEq, Repr

/-- The machine right after a power-on reset: every register at its reset value (an empty `regs`), chassis
time 0 (R130), every ring and slot empty (R637), the pattern unread. -/
def State.reset : State := {}

end Sys2Proof.Machine
end

