-- ==== Sys2Proof/Machine/Access.lean ====
section
/-! DEFINITION. Reading and updating one object of each table of the state: an unlisted object is at its
reset value. -/
namespace Sys2Proof.Machine

def State.slotC (s : State) (i : Nat) : CmdSlot := Tbl.get s.slots i {}
def State.updSlotC (s : State) (i : Nat) (f : CmdSlot → CmdSlot) : State := { s with slots := Tbl.put s.slots i (f (s.slotC i)) }
def State.mbx (s : State) (i : Nat) : Mailbox := Tbl.get s.mbxs i {}
def State.updMbx (s : State) (i : Nat) (f : Mailbox → Mailbox) : State := { s with mbxs := Tbl.put s.mbxs i (f (s.mbx i)) }
def State.mer (s : State) (i : Nat) : Meridian := Tbl.get s.mers i {}
def State.updMer (s : State) (i : Nat) (f : Meridian → Meridian) : State := { s with mers := Tbl.put s.mers i (f (s.mer i)) }
def State.fan (s : State) (i : Nat) : Fan := Tbl.get s.fans i {}
def State.updFan (s : State) (i : Nat) (f : Fan → Fan) : State := { s with fans := Tbl.put s.fans i (f (s.fan i)) }
def State.ephE (s : State) (i : Nat) : EphEntry := Tbl.get s.eph i {}
def State.updEphE (s : State) (i : Nat) (f : EphEntry → EphEntry) : State := { s with eph := Tbl.put s.eph i (f (s.ephE i)) }
def State.port (s : State) (i : Nat) : Port := Tbl.get s.ports i {}
def State.updPort (s : State) (i : Nat) (f : Port → Port) : State := { s with ports := Tbl.put s.ports i (f (s.port i)) }
def State.svc (s : State) (i : Nat) : Svc := Tbl.get s.svcs i {}
def State.updSvc (s : State) (i : Nat) (f : Svc → Svc) : State := { s with svcs := Tbl.put s.svcs i (f (s.svc i)) }
def State.st (s : State) (i : Nat) : Stitch := Tbl.get s.stitches i {}
def State.updSt (s : State) (i : Nat) (f : Stitch → Stitch) : State := { s with stitches := Tbl.put s.stitches i (f (s.st i)) }
def State.sk (s : State) (i : Nat) : Skein := Tbl.get s.skeins i {}
def State.updSk (s : State) (i : Nat) (f : Skein → Skein) : State := { s with skeins := Tbl.put s.skeins i (f (s.sk i)) }
def State.eng (s : State) (i : Nat) : Engine := Tbl.get s.engines i {}
def State.updEng (s : State) (i : Nat) (f : Engine → Engine) : State := { s with engines := Tbl.put s.engines i (f (s.eng i)) }
def State.rect (s : State) (i : Nat) : Rect := Tbl.get s.rects i {}
def State.updRect (s : State) (i : Nat) (f : Rect → Rect) : State := { s with rects := Tbl.put s.rects i (f (s.rect i)) }
def State.str (s : State) (i : Nat) : Str := Tbl.get s.strs i {}
def State.updStr (s : State) (i : Nat) (f : Str → Str) : State := { s with strs := Tbl.put s.strs i (f (s.str i)) }
def State.slot (s : State) (i : Nat) : Slot := Tbl.get s.slotx i {}
def State.updSlot (s : State) (i : Nat) (f : Slot → Slot) : State := { s with slotx := Tbl.put s.slotx i (f (s.slot i)) }
def State.bgt (s : State) (i : Nat) : Budget := Tbl.get s.budgets i {}
def State.updBgt (s : State) (i : Nat) (f : Budget → Budget) : State := { s with budgets := Tbl.put s.budgets i (f (s.bgt i)) }
def State.rrun (s : State) (i : Nat) : RailRun := Tbl.get s.railRuns i {}
def State.updRrun (s : State) (i : Nat) (f : RailRun → RailRun) : State := { s with railRuns := Tbl.put s.railRuns i (f (s.rrun i)) }
def State.seq (s : State) (i : Nat) : Seq := Tbl.get s.seqs i {}
def State.updSeq (s : State) (i : Nat) (f : Seq → Seq) : State := { s with seqs := Tbl.put s.seqs i (f (s.seq i)) }
def State.adc (s : State) (i : Nat) : Adc := Tbl.get s.adcs i {}
def State.updAdc (s : State) (i : Nat) (f : Adc → Adc) : State := { s with adcs := Tbl.put s.adcs i (f (s.adc i)) }
def State.ain (s : State) (i : Nat) : Ain := Tbl.get s.ains i {}
def State.updAin (s : State) (i : Nat) (f : Ain → Ain) : State := { s with ains := Tbl.put s.ains i (f (s.ain i)) }
def State.ph (s : State) (i : Nat) : Phase3 := Tbl.get s.phases i {}
def State.updPh (s : State) (i : Nat) (f : Phase3 → Phase3) : State := { s with phases := Tbl.put s.phases i (f (s.ph i)) }
def State.sens (s : State) (i : Nat) : Sensor := Tbl.get s.sensors i {}
def State.updSens (s : State) (i : Nat) (f : Sensor → Sensor) : State := { s with sensors := Tbl.put s.sensors i (f (s.sens i)) }
def State.tw (s : State) (i : Nat) : Tw := Tbl.get s.tws i {}
def State.updTw (s : State) (i : Nat) (f : Tw → Tw) : State := { s with tws := Tbl.put s.tws i (f (s.tw i)) }

def State.updShelf (s : State) (f : Shelf → Shelf) : State := { s with shelf := f s.shelf }
def State.updPair (s : State) (f : Pair → Pair) : State := { s with pair := f s.pair }
def State.updFaults (s : State) (f : Faults → Faults) : State := { s with faults := f s.faults }
def State.updNv (s : State) (f : Nv → Nv) : State := { s with nv := f s.nv }
/-- A pair activation plan is in force on this unit (R605). -/
def State.planOn (s : State) : Bool := s.trust.planAt.isSome || decide (s.trust.planStep ≠ 0)
def State.updTrust (s : State) (f : Trust → Trust) : State := { s with trust := f s.trust }
def State.updRst (s : State) (f : Reset → Reset) : State := { s with rst := f s.rst }
def State.updThm (s : State) (f : Thermal → Thermal) : State := { s with thm := f s.thm }

/-- What leaves the block in this fabric cycle. -/
def State.emitNow (s : State) (o : Out) : State := { s with out := s.out ++ [o] }

/-- A fold over the numbers below n, in ascending order. -/
def forN {α : Type} (n : Nat) (a : α) (f : α → Nat → α) : α := (List.range n).foldl f a

/-- The state changed by `f` when the condition holds. -/
def State.when (s : State) (c : Bool) (f : State → State) : State := if c then f s else s

end Sys2Proof.Machine
end

