-- ==== Sys2Proof/Machine/Regs.lean ====
section
/-! DEFINITION. Register fields as hardware reads and updates them: the one home of every value a register
field holds, and the same-cycle log of R679. -/
namespace Sys2Proof.Machine

/-- The code of a fault kind (R529). -/
def Kind.code : Kind → Nat
  | .lockstep => 0x00 | .supply => 0x01 | .clockRef => 0x02 | .bridgeCrc => 0x03 | .sramCorr => 0x04
  | .sramUncorr => 0x05 | .regParity => 0x06
  | .merUnlock => 0x10 | .ephAbort => 0x11
  | .portTrain => 0x20 | .portRetry => 0x21 | .portFlight => 0x22
  | .stitchAuto => 0x30 | .stitchSense => 0x31 | .stitchFault => 0x32 | .stitchSampleLoss => 0x33
  | .engOverrun => 0x40 | .engNoSpare => 0x41 | .engFault => 0x42 | .arbDeadline => 0x43 | .arbDup => 0x44
  | .skeinNoFb => 0x50 | .skeinStartFail => 0x51 | .skeinShare => 0x52 | .skeinDegraded => 0x53
  | .skeinOv => 0x54 | .skeinUv => 0x55 | .skeinIlim => 0x56
  | .rectFail => 0x60 | .rectComm => 0x61 | .busSense => 0x62 | .busOv => 0x63 | .busUv => 0x64
  | .battComm => 0x65 | .battFault => 0x66 | .battLevel => 0x67 | .battTemp => 0x68
  | .huEntry => 0x69 | .huExhausted => 0x6A
  | .slotMeasLoss => 0x70 | .slotBreaker => 0x71 | .slotFastTrip => 0x72 | .slotGate => 0x73
  | .slotSurprise => 0x74 | .capTargetBreak => 0x75 | .capFloorBreak => 0x76 | .capEnforce => 0x77
  | .capNoncomply => 0x78
  | .seqStartFail => 0x80 | .seqTimedOff => 0x81 | .railLost => 0x82 | .chassisForceOff => 0x83
  | .adcOverrun => 0x90 | .adcCalLost => 0x91 | .adcOpenWire => 0x92 | .thmSensor => 0x93
  | .thmWarn => 0x94 | .thmThrottle => 0x95 | .thmShutdown => 0x96
  | .pairConfig => 0xA0 | .pairLink => 0xA1 | .pairAlive => 0xA2 | .pairLost => 0xA3
  | .pairYield => 0xA4 | .pairProveFail => 0xA5
  | .nvWrite => 0xB0 | .nvRead => 0xB1 | .nvCopyLost => 0xB2 | .holdupDie => 0xB3
  | .twStretch => 0xC0 | .twStuck => 0xC1
  | .secEntropy => 0xD0 | .secBoot => 0xD1 | .secKey => 0xD2 | .fwFallback => 0xD3

/-- The listed codes, with the first unused index of each group (R529). -/
def kindListed (c : Nat) : Bool :=
  let n := [7, 2, 3, 4, 5, 7, 11, 9, 4, 7, 6, 4, 2, 4]
  decide (c % 16 < n.getD (c / 16) 0)

/-- Level kinds (R530): every kind but the event kinds. -/
def kindLevel (c : Nat) : Bool :=
  kindListed c && !([0x11, 0x43, 0x44, 0x41, 0x74, 0xA4, 0xA5, 0x83, 0x04, 0x03].contains c)

/-- The reset configuration of R532: class, grace unit (1: ms), grace value, first rung, top rung, fixed. -/
def kindConfig (c : Nat) : Nat × Nat × Nat × Nat × Nat × Nat :=
  if !kindListed c then (0, 0, 0, 0, 0, 0)
  else if c ≤ 1 then (3, 1, 1, 4, 4, 1)
  else if c = 2 then (1, 1, 10, 1, 1, 0)
  else if c = 3 ∨ c = 4 then (0, 1, 10, 1, 1, 0)
  else if c < 0x10 ∨ (0xB0 ≤ c ∧ c < 0xC0) then (2, 1, 1, 3, 4, 0)
  else if c = 0x32 ∨ c = 0x33 then (2, 1, 20, 1, 1, 0)
  else if c = 0x42 then (2, 1, 10, 1, 3, 0)
  else if c = 0x6A ∨ c = 0x96 ∨ c = 0xD1 then (2, 1, 10000, 0, 0, 0)
  else (1, 1, 10, 1, 1, 0)

/-- The reset word of FLT_KIND_k. -/
def kindReset (c : Nat) : Word :=
  let (cl, u, g, f, t, fx) := kindConfig c
  BitVec.ofNat 32 (cl + 4 * f + 32 * t + 256 * fx + 512 * (kindLevel c).toNat + 1024 * u + 2048 * g)

/-- The default spares (R22): engines 32q + 30 and 32q + 31. -/
def defaultSpare (e : Nat) : Bool := decide (30 ≤ e % 32)

/-- The reset word of the register at an address (R674): from its field table, or from the rule the table
names; an address no table lists reads 0 (R668). -/
def resetWord (a : Nat) : Word :=
  if 0x1000000 ≤ a ∧ (a - 0x1000000) % 0x10000 = 0 then
    BitVec.ofNat 32 ((if (a - 0x1000000) / 0x10000 < 256 then (a - 0x1000000) / 0x10000 else 0) + 3 * 256)
  else if 0x1100 ≤ a ∧ a < 0x1500 then kindReset ((a - 0x1100) / 4)
  else if 0x20000 ≤ a ∧ a < 0x28000 ∧ a % 0x100 = 0 then
    BitVec.ofNat 32 (1 + 2 * (defaultSpare ((a - 0x20000) / 0x100)).toNat)
  else if a = aID_STEP then (Config.stepping.zeroExtend 32)
  else if a = aID_SERIAL_LO then BitVec.ofNat 32 Config.serial.toNat
  else if a = aID_SERIAL_HI then BitVec.ofNat 32 (Config.serial.toNat / 2 ^ 32)
  else if a = aPAIR_CFG then (resetOf (((regAt a).map (·.fields)).getD [])).withBits 0 0 Config.pairPos.toNat
  else resetOf (((regAt a).map (·.fields)).getD [])

/-- The stored word of a register. -/
def State.word (s : State) (a : Nat) : Word := (Tbl.find? s.regs a).getD (resetWord a)

/-- The value of a register field. -/
def State.get (s : State) (f : Fld) : Nat := (s.word f.a).bits f.hi f.lo

/-- A field read as a Boolean. -/
def State.is (s : State) (f : Fld) : Bool := decide (s.get f ≠ 0)

/-- A stored word replaced. -/
def State.putWord (s : State) (a : Nat) (w : Word) : State := { s with regs := Tbl.put s.regs a w }

/-- A hardware-owned field takes a value. -/
def State.setF (s : State) (f : Fld) (v : Nat) : State := s.putWord f.a ((s.word f.a).withBits f.hi f.lo v)

/-- A hardware-owned field takes a signed value, saturated to its range (R12). -/
def State.setI (s : State) (f : Fld) (v : Int) : State :=
  let h : Int := 2 ^ (f.hi - f.lo)
  s.setF f (toField (f.hi + 1 - f.lo) (clampI (-h) (h - 1) v))

/-- A hardware-owned bit. -/
def State.setB (s : State) (f : Fld) (b : Bool) : State := s.setF f b.toNat

/-- A LO and HI pair takes one 64-bit value. -/
def State.setPair (s : State) (lo hi : Nat) (v : Nat) : State :=
  (s.putWord lo (BitVec.ofNat 32 v)).putWord hi (BitVec.ofNat 32 (v / 2 ^ 32))

/-- The value of a LO and HI pair. -/
def State.pairVal (s : State) (lo hi : Nat) : Nat := (s.word lo).toNat + 2 ^ 32 * (s.word hi).toNat

/-- GLB_CNT_COLLIDE counts a field once per fabric cycle at which a software write and a hardware update
met (R679). -/
def State.collide (s : State) (f : Nat × Nat × Nat) : State :=
  if s.collided.contains f || !s.is GLB_CTRL_coll_cnt_en then s
  else { s.setF GLB_CNT_COLLIDE_count (satCount 32 (s.get GLB_CNT_COLLIDE_count) 1) with
         collided := s.collided ++ [f], hwTouched := s.hwTouched ++ [.add aGLB_CNT_COLLIDE 31 0 1] }

/-- A hardware update is logged for the cycle, and counted if software wrote the field in it. -/
def State.touch (s : State) (f : Fld) (t : Touch) : State :=
  let s := { s with hwTouched := s.hwTouched ++ [t] }
  match s.swTouched.find? (fun x => decide (x.1 = f.a ∧ f.hi ≤ x.2.1 ∧ x.2.2 ≤ f.lo)) with
  | some x => s.collide x
  | none => s

/-- Hardware sets a sticky flag. -/
def State.flag (s : State) (f : Fld) : State := (s.setF f 1).touch f (.set f.a f.hi f.lo 1)

/-- Hardware counts `n` events in a saturating counter field. -/
def State.countN (s : State) (f : Fld) (n : Nat) : State :=
  (s.setF f (satCount (f.hi + 1 - f.lo) (s.get f) n)).touch f (.add f.a f.hi f.lo n)

/-- Hardware counts one event. -/
def State.count (s : State) (f : Fld) : State := s.countN f 1

/-- Hardware raises a watermark. -/
def State.raiseTo (s : State) (f : Fld) (v : Nat) : State :=
  let v := Nat.min v (2 ^ (f.hi + 1 - f.lo) - 1)
  if s.get f < v then (s.setF f v).touch f (.max f.a f.hi f.lo v) else s

/-- Hardware lowers a watermark. -/
def State.lowerTo (s : State) (f : Fld) (v : Nat) : State :=
  if v < s.get f then (s.setF f v).touch f (.min f.a f.hi f.lo v) else s

/-- Hardware clears a control bit. -/
def State.drop (s : State) (f : Fld) : State := (s.setF f 0).touch f (.set f.a f.hi f.lo 0)

end Sys2Proof.Machine
end

