-- ==== Sys2Proof/Machine/Transmit.lean ====
section
/-! DEFINITION. Cells that leave on the links: what they are and their headers (R156), the order in which they enter a
transmit PHY (R143, R150), reliable sending (R158, R160, R161), acknowledgement (R159). -/
namespace Sys2Proof.Machine

/-! ### The arbiter's candidates (R325, R328 to R331) -/

/-- The members of a sequence, queued and held. -/
def Port.members (x : Port) (l : Nat × Nat) : List CmdCell := (x.queue ++ x.held).filter (fun c => decide (c.lock = some l))
def minDeadline (l : List CmdCell) : Nat := l.foldl (fun a c => Nat.min a c.deadline) (2 ^ 64)
def Port.complete (x : Port) (l : Nat × Nat) : Bool := !x.held.any (fun c => decide (c.lock = some l))
/-- The sequences of a port that are not in progress. -/
def Port.locks (x : Port) : List (Nat × Nat) :=
  ((x.queue ++ x.held).filterMap (fun c => c.lock)).eraseDups.filter (fun l => decide (x.granting ≠ some l))

/-- What may be granted next: an ordinary cell or a whole sequence, by its members in ascending stitch. -/
def insertCell (c : CmdCell) : List CmdCell → List CmdCell
  | [] => [c]
  | d :: t => if c.stitch ≤ d.stitch then c :: d :: t else d :: insertCell c t
def Port.candidates (x : Port) : List (List CmdCell) :=
  ((x.queue.filter (fun c => match c.lock with
    | none => true
    | some l => decide ((x.members l).length < 2))).map (fun c => [c])) ++
  ((x.locks.filter (fun l => x.complete l && decide (2 ≤ (x.members l).length))).map
    (fun l => (x.members l).foldl (fun a c => insertCell c a) []))

/-! ### Cells and headers (R156, R158 to R161, R499) -/

/-- The reliable state of a link. -/
def State.relOf (s : State) : LinkId → Reliable
  | .port p => (s.port p.val).rel
  | .svc n => (s.svc n.val).rel
  | .partner => s.partnerRel
def State.updRel (s : State) (l : LinkId) (f : Reliable → Reliable) : State :=
  match l with
  | .port p => s.updPort p.val (fun x => { x with rel := f x.rel })
  | .svc n => s.updSvc n.val (fun x => { x with rel := f x.rel })
  | .partner => { s with partnerRel := f s.partnerRel }

/-- The sequence spaces restart (R158): cells that wait keep waiting, cells not acknowledged are not sent again. -/
def Reliable.restart (r : Reliable) : Reliable := { backlog := r.backlog }

/-- Whether a link carries cells. -/
def State.linkUp (s : State) : LinkId → Bool
  | .port p => decide (s.get (PORT_STATUS_link_state p.val) = 3)
  | .svc n => decide (s.get (SVC_STATUS_link_state n.val) = 2)
  | .partner => s.is PAIR_STATUS_link_up

/-- The epoch in force on a link; the partner link has none (R169, R177, R499). -/
def State.linkEpoch (s : State) : LinkId → Nat
  | .port p => s.get (PORT_EPOCH_epoch p.val)
  | .svc n => s.get (SVC_EPOCH_epoch n.val)
  | .partner => 0

/-- The number of a reliable cell's kind: 1 an OWNER_CLAIM, 2 + n the effect message of ephemeris entry n (R500), else 0;
none for what is sent without sequence. -/
def Out.reliable : Out → Option Nat
  | .event _ code _ => some (if code = 0x0400 then 1 else 0)
  | .mgmt _ _ _ _ _ => some 0
  | .bulk _ _ _ _ _ => some 0
  | .effect (.ephPost _ n _) => some (2 + n)
  | .digest _ _ _ | .effect _ | .claimRec _ | .transitRec _ | .transitReq | .image _ _ | .flights _ _ _ _ | .shelfDigest _ => some 0
  | _ => none

/-- What a header says of a cell beside its epoch, owner and sequence: link, type, stitch, tag, last and sub. -/
structure CellKind where
  link : LinkId
  type : Nat
  stitch : Nat := 0
  tag : Nat := 0
  last : Bool := false
  sub : Nat := 0

/-- The cell that an output is, if it is one (*Cell types*, *Partner link traffic*). -/
def Out.cell : Out → Option CellKind
  | .command p j c _ _ _ _ _ _ _ => some { link := .port (Fin.ofNat 64 p), type := 2, stitch := j, tag := c % 4096 }
  | .svcCommand n _ _ _ _ _ => some { link := .svc (Fin.ofNat 64 n), type := 2 }
  | .mgmt p _ _ _ _ => some { link := .port (Fin.ofNat 64 p), type := 3 }
  | .time l _ _ _ _ _ => some { link := l, type := 4 }
  | .beacon p _ _ _ => some { link := .port (Fin.ofNat 64 p), type := 4, sub := 3 }
  | .event l _ _ => some { link := l, type := 5 }
  | .ack l _ _ => some { link := l, type := 6 }
  | .bulk l _ _ last _ => some { link := l, type := 8, last := last }
  | .heartbeat _ _ _ _ => some { link := .partner, type := 4, sub := 4 }
  | .failureNotice _ => some { link := .partner, type := 4, sub := 5 }
  | .digest _ _ _ | .effect _ | .claimRec _ | .transitRec _ | .transitReq | .image _ _ | .flights _ _ _ _ | .shelfDigest _ =>
    some { link := .partner, type := 8 }
  | _ => none

/-- The class of a cell in the order of R150: 1 COMMAND, 2 SYNC, 3 ACK, 5 MGMT, 6 EVENT, 7 BULK; 4 is a cell sent again. -/
def Out.prio (o : Out) : Nat :=
  match o.cell with
  | some c => match c.type with
    | 2 => 1
    | 4 => 2
    | 6 => 3
    | 3 => 5
    | 5 => 6
    | _ => 7
  | none => 7

/-- The lane that cell number i of a port travels on (R143): the (i mod w)-th of its set; lane 0 in Beacon. -/
def laneOf (set : BitVec 8) (i : Nat) : Nat :=
  let l := (List.range 8).filter (fun j => set.getLsbD j)
  l.getD (i % Nat.max 1 l.length) 0

/-- The selective bits of an ACK (R159): bit 30 - i for number next + 1 + i. -/
def Reliable.sack (r : Reliable) : BitVec 31 :=
  BitVec.ofNat 31 ((List.range 31).foldl (fun a i =>
    if r.rxHeld.any (fun h => decide (h.1 = (r.rxNext + 1 + i) % 128)) then a + 2 ^ (30 - i) else a) 0)

/-- What a cell takes as it enters the transmit PHY: t_tx (R163) and the numbers of an ACK. -/
def State.stamp (s : State) : Out → Out
  | .time l _ f e t r => .time l s.ct f e t r
  | .beacon p _ next wake => .beacon p s.ct next wake
  | .ack l _ _ => .ack l (s.relOf l).rxNext (s.relOf l).sack
  | o => o

/-- The header of a cell (R156, R171, R174): the epoch in force, the sender's pair position, xoff above 48 of 64 cells. -/
def State.headerOf (s : State) (o : Out) (seq : Nat) (retx : Bool) : Option CellHdr :=
  o.cell.map (fun c => {
    link := c.link, type := c.type, epoch := s.linkEpoch c.link, stitch := c.stitch, tag := c.tag, retx := retx, last := c.last,
    ackReq := o.reliable.isSome, xoff := decide (48 < (s.relOf c.link).rxHeld.length), sub := c.sub, owner := s.get PAIR_CFG_pos,
    seq := seq, lane := match c.link with
      | .port p => laneOf (s.port p.val).laneSet (s.port p.val).cells
      | _ => 0 })

/-- When the cell slot after the next free one falls free (R327), in 1/1,000 ticks: 8.192 ticks over the width later. -/
def State.nextSlot (s : State) (p : Nat) : Nat :=
  Nat.max (s.port p).slotAt (1000 * s.ct) + 8192 / Nat.max 1 (s.get (PORT_STATUS_width p))
/-- Whether a cell slot of a port falls free in this fabric cycle at the latest (R325, R327). -/
def State.slotNow (s : State) (p : Nat) : Bool := decide ((s.port p).slotAt < 1000 * (s.ct + 1))

/-- A cell takes a cell slot of its port (R136, R149); scheduled cells count. -/
def State.slotTaken (s : State) (c : CellKind) : State :=
  match c.link with
  | .port p => s.updPort p.val (fun x => { x with
      cells := x.cells + 1, slotAt := s.nextSlot p.val,
      downN := if c.type = 2 ∨ c.type = 4 then x.downN + 1 else x.downN })
  | _ => s

/-- A cell enters the transmit PHY. -/
def State.enterPhy (s : State) (o : Out) (seq : Nat) (retx : Bool) : State :=
  let o := s.stamp o
  let h := s.headerOf o seq retx
  let s := match o.cell with
    | some c => s.slotTaken c
    | none => s
  { s with out := s.out ++ [o], hdrs := s.hdrs ++ h.toList }

/-! ### The order of sending (R150, R158, R160, R161) -/

/-- Whether a new reliable cell may start: fewer than 32 outstanding and no xoff. -/
def Reliable.mayStart (r : Reliable) : Bool := !r.xoff && decide (r.unacked.length < 32)
/-- The oldest cell of a class that waits. -/
def Reliable.oldest (r : Reliable) (n : Nat) : Option (Nat × Out) := r.backlog.find? (fun x => decide (x.2.prio = n))

/-- The part of a waiting cell that is sent first, and what then still waits: a BULK stream goes 20 bytes a cell (R162). -/
def Out.split : Out → Out × Option Out
  | .bulk l st seg last d =>
    if d.length ≤ 20 then (.bulk l st seg last d, none)
    else (.bulk l st seg false (d.take 20), some (.bulk l st ((seg + 1) % 65536) last (d.drop 20)))
  | o => (o, none)

/-- The first entry `x` of a list gives way to `t`, if there is one. -/
def swapFirst (x : Nat × Out) (t : Option (Nat × Out)) : List (Nat × Out) → List (Nat × Out)
  | [] => []
  | y :: l => if y = x then t.toList ++ l else y :: swapFirst x t l

/-- A waiting cell is sent; of a stream the rest keeps its place. -/
def State.sendFresh (s : State) (l : LinkId) (x : Nat × Out) : State :=
  let (o, rest) := x.2.split
  let leave := swapFirst x (rest.map (fun t => (x.1, t)))
  if x.2.reliable.isSome then
    let q := (s.relOf l).txNext
    (s.updRel l (fun r => { r with
      backlog := leave r.backlog, txNext := (q + 1) % 128,
      unacked := r.unacked ++ [{ seq := q, sentAt := s.ct, what := x.1, cell := o }] })).enterPhy o q false
  else (s.updRel l (fun r => { r with backlog := leave r.backlog })).enterPhy o 0 false

/-- The cell that leaves next on a link, sent; none when none may. -/
def State.sendNext (s : State) (l : LinkId) : Option State :=
  let r := s.relOf l
  match ((r.oldest 1).or (r.oldest 2)).or (r.oldest 3) with
  | some x => some (s.sendFresh l x)
  | none =>
    match r.again.findSome? (fun q => r.unacked.find? (fun c => decide (c.seq = q))) with
    | some c => some ((s.updRel l (fun r => { r with
        again := r.again.filter (· ≠ c.seq),
        unacked := r.unacked.map (fun d => if d.seq = c.seq then { d with sentAt := s.ct } else d) })).enterPhy c.cell c.seq true)
    | none => if r.mayStart then (((r.oldest 5).or (r.oldest 6)).or (r.oldest 7)).map (s.sendFresh l) else none

/-- Whether an OWNER_CLAIM with effect on receipt waits to take the next cell slot of its port (R512). -/
def State.claimNow (s : State) (l : LinkId) : Bool :=
  match l with
  | .port p => (s.port p.val).claim.any (fun c => decide (c.2 = 0)) && (s.relOf l).mayStart && (s.relOf l).backlog.any (fun x => decide (x.1 = 1))
  | _ => false

/-- The cell that leaves next on a link: an OWNER_CLAIM that R512 puts first, else by R150. -/
def State.sendFirst (s : State) (l : LinkId) : Option State :=
  if s.claimNow l then ((s.relOf l).backlog.find? (fun x => decide (x.1 = 1))).map (s.sendFresh l) else s.sendNext l

/-- Whether a cell other than a COMMAND may leave now: on a port when a cell slot is free and no COMMAND cell is to be
granted; the service lanes and the partner link are not divided into cell slots (log 172). -/
def State.slotFree (s : State) (l : LinkId) : Bool :=
  match l with
  | .port p =>
    let x := s.port p.val
    s.slotNow p.val && (s.claimNow l || !(s.is (PAIR_OWN_bit p.val) && (x.granting.isSome || !x.candidates.isEmpty)))
  | _ => true

def State.pumpGo (s : State) (l : LinkId) : Nat → State
  | 0 => s
  | n + 1 => if s.slotFree l then (match s.sendFirst l with
    | some t => t.pumpGo l n
    | none => s) else s
/-- Cells that wait are sent, as far as they may. -/
def State.pump (s : State) (l : LinkId) : State := s.pumpGo l (2 * (s.relOf l).backlog.length + 64)

/-- What leaves the block: a cell waits for its turn on its link; a reliable cell of a link that is not up is not sent. -/
def State.emit (s : State) (o : Out) : State :=
  match o.cell with
  | none => s.emitNow o
  | some c =>
    if o.reliable.isSome && !s.linkUp c.link then s
    else (s.updRel c.link (fun r => { r with backlog := r.backlog ++ [(o.reliable.getD 0, o)] })).pump c.link

/-- A received cell shows whether the other end takes new reliable cells (R161). -/
def State.sawXoff (s : State) (l : LinkId) (b : Bool) : State :=
  if (s.relOf l).xoff = b then s else (s.updRel l (fun r => { r with xoff := b })).pump l

/-- An ACK is owed to the other end (R159); one that already waits is not repeated. -/
def State.oweAck (s : State) (l : LinkId) : State :=
  if !s.linkUp l then s else
  (s.updRel l (fun r => { r with backlog := r.backlog.filter (fun x => decide (x.2.prio ≠ 3)) })).emit (.ack l 0 0)

end Sys2Proof.Machine
end

