-- ==== Sys2Proof/Machine/Ops.lean ====
section
/-! DEFINITION. The named operations every family shares: ownership, rings and vectors, completions, fault
raises, records to MRAM and captures. -/
namespace Sys2Proof.Machine

/-- The AF's number among mailboxes and holders, and the firmware's among ephemeris issuers. -/
def afMb : Nat := 256
def fwIssuer : Nat := 257

/-! ### Ownership (R24, R84, R709) -/

/-- The AF is always open; a VI is assigned while it holds a key (R706). -/
def State.assigned (s : State) (mb : Nat) : Bool := mb = afMb || s.is (VI_STATUS_assigned mb)

/-- The VI mapped to a slot function, 4 * slot + fn by default (R39, R50). -/
def State.mapped (s : State) (slot fn : Nat) : Option Nat :=
  Tbl.get s.viMap (4 * slot + fn) (some (4 * slot + fn))

/-- The holder of a slot function's objects: its VI while assigned, else the AF (R24, R84). -/
def State.holderOf (s : State) (slot fn : Nat) : Nat :=
  match s.mapped slot fn with
  | some v => if s.assigned v then v else afMb
  | none => afMb

def State.slotOwner (s : State) (n : Nat) : Nat := s.holderOf n 0
def State.skOwner (s : State) (k : Nat) : Nat := s.holderOf (s.sk k).slot (s.sk k).fn
/-- A stitch is its skein's owner's; an unbound stitch is its slot's. -/
def State.stOwner (s : State) (g : Nat) : Nat :=
  match (s.st g).skein with
  | some k => s.skOwner k
  | none => s.slotOwner (g / 128)

/-- This unit's pair position, and whether it owns port p (R172, R509). -/
def State.pos (s : State) : Nat := s.get PAIR_CFG_pos
def State.ownsPort (s : State) (p : Nat) : Bool := s.is (PAIR_OWN_bit p)
/-- The unit state of R496: 0 dormant, 1 booting, 2 admitted, 3 standby, 4 active. -/
def State.unit (s : State) : Nat := s.get PAIR_STATUS_state
def State.setUnit (s : State) (v : Nat) : State := s.setF PAIR_STATUS_state v
/-- The unit is out of reset and not dormant: dies A and Q0 to Q3 run (R619, R623). -/
def State.awake (s : State) : Bool := !s.rst.held && decide (s.unit ≠ 0)
def State.active (s : State) : Bool := s.unit = 4
/-- The partner is standby and covers every port (R521, R605). -/
def State.partnerReady (s : State) : Bool := s.is PAIR_STATUS_covered_all && s.get PAIR_STATUS_partner_state = 3
/-- Hold-up is normal. -/
def State.hupNormal (s : State) : Bool := s.get HU_STATUS_state = 0

/-- The bound stitches of a skein, by global id, in ascending order. -/
def State.bound (s : State) (k : Nat) : List Nat :=
  ((s.sk k).stitches.map (fun l => 128 * (s.sk k).slot + l)).filter (fun g => (s.st g).skein = some k)
/-- The skeins the pattern places in a slot. -/
def State.slotSkeins (s : State) (n : Nat) : List Nat :=
  (s.skeins.filter (fun x => x.2.known && x.2.slot = n)).map (·.1)

/-! ### Vectors and event rings (R61, R539, R540) -/

def State.msix (s : State) (mb vec : Nat) : State := s.emit (.msix mb vec)

/-- An entry of a holder's event ring; a full ring drops it and sets ev_ovf. Vector 1 follows. -/
def State.ringEvent (s : State) (mb code inst flags die : Nat) (detail : List Byte) : State :=
  if !s.assigned mb then s else
  let prod := s.get (VI_EV_PROD_index mb)
  if (prod + 256 - s.get (VI_EV_CONS_index mb)) % 256 ≥ 128 then s.flag (VI_EV_PROD_ev_ovf mb)
  else
    let bytes := leBytes 2 code ++ leBytes 2 inst ++ leBytes 1 flags ++ leBytes 1 die ++ leBytes 2 0 ++
      leBytes 8 s.ct ++ (detail ++ List.replicate 16 0).take 16
    let a := winBase mb + 0x2000 + 32 * (prod % 128)
    ({ s with mem := Mem.writeBytes Mem.blank s.mem a bytes }.setF (VI_EV_PROD_index mb) (prod + 1)).msix mb 1

/-- An event of *Other event codes* or of an EVENT cell to one holder. -/
def State.event (s : State) (mb code : Nat) (detail : List Byte) : State := s.ringEvent mb code 0 0 4 detail

/-! ### Completions (R59, R64, R643, R707) -/

/-- Slots by mailbox and number. -/
def slotKey (mb k : Nat) : Nat := 64 * mb + k
def CmdSlot.opcode (c : CmdSlot) : Nat := leVal (c.bytes.take 2)
def CmdSlot.flags (c : CmdSlot) : Nat := leVal ((c.bytes.drop 2).take 2)
def CmdSlot.handle (c : CmdSlot) : Nat := leVal ((c.bytes.drop 4).take 4)
def CmdSlot.length (c : CmdSlot) : Nat := leVal ((c.bytes.drop 8).take 2)
def CmdSlot.effectAt (c : CmdSlot) : Nat := leVal ((c.bytes.drop 10).take 6)
/-- The payload: bytes at or beyond length are 0 (R641). -/
def CmdSlot.payload (c : CmdSlot) : List Byte :=
  (((c.bytes.drop 16).take (Nat.min c.length 240)) ++ List.replicate 240 0).take 240
def flagBit (c : CmdSlot) (b : Nat) : Bool := c.flags.testBit b

/-- The function of a slot whose MGMT cells reach a VI (R50). -/
def State.fnOf (s : State) (p v : Nat) : Nat := ((List.range 4).find? (fun f => decide (s.mapped p f = some v))).getD 0

def State.ringUsed (s : State) (mb : Nat) : Nat :=
  (s.get (VI_CQ_PROD_prod mb) + 512 - s.get (VI_CQ_CONS_cons mb)) % 512
def State.ringFull (s : State) (mb : Nat) : Bool := decide (256 ≤ s.ringUsed mb)

/-- Vector 0 is raised: the number gathered is 0 and the timer stops (R707). -/
def State.raiseV0 (s : State) (mb : Nat) : State :=
  (s.updMbx mb (fun m => { m with gathered := 0, firstAt := none })).msix mb 0

/-- A completion is gathered while cq_en is 1 and the command has no no_irq (R643, R707). -/
def State.gather (s : State) (mb : Nat) (noIrq : Bool) : State :=
  if noIrq || !s.is (VI_IRQ_CTRL_cq_en mb) then s else
  let n := (s.mbx mb).gathered + 1
  if Nat.max 1 (s.get (VI_IRQ_CTRL_coal_count mb)) ≤ n then s.raiseV0 mb
  else s.updMbx mb (fun m => { m with gathered := n, firstAt := some (m.firstAt.getD s.ct) })

/-- Whether a completion leaves the generation unchanged (R64). -/
def keepsGen (status info : Nat) : Bool := (status = 5 && info = 0xFFFF) || (status = 2 && info = 1)

/-- The completion is written: ring entry, producer, slot free, generation (R63, R64, R68), and the kind 1
cell of a MGMT command (R55). -/
def State.writeCompl (s : State) (mb : Nat) (c : Compl) : State :=
  let sl := s.slotC (slotKey mb c.slot)
  let prod := s.get (VI_CQ_PROD_prod mb)
  let bytes := leBytes 4 sl.handle ++ leBytes 2 c.status ++ leBytes 2 c.info ++ leBytes 8 c.result
  let s := { s with mem := Mem.writeBytes Mem.blank s.mem (winBase mb + 0x1000 + 16 * (prod % 256)) bytes }
  let s := s.setF (VI_CQ_PROD_prod mb) (prod + 1)
  let keep := keepsGen c.status c.info
  let s := s.updSlotC (slotKey mb c.slot) (fun x => { x with
    phase := .free, freedAt := some s.ct, orderedAfter := none, viaPort := none, mirrored := false,
    gen := if keep then x.gen else (x.gen + 1) % 2 ^ 18,
    left := if keep then x.left else ((x.gen, s.ct) :: x.left).filter (fun g => decide (s.ct < g.2 + sec 1)) })
  let s := s.setB (VI_SLOT_BUSY_bit mb c.slot) false
  let s := s.updMbx mb (fun m => { m with order := m.order.filter (· ≠ c.slot) })
  let s := match sl.viaPort with
    | some p => s.emit (.mgmt p (s.fnOf p mb) 1 c.slot bytes)
    | none => s
  let s := if sl.mirrored then
      s.emit (.effect (.mgmtDone (Fin.ofNat 257 mb) (Fin.ofNat 64 c.slot))) else s
  s.gather mb (flagBit sl 4)

/-- A completion: written at once, or kept until the ring has room (R60, R665). -/
def State.post1 (s : State) (mb : Nat) (c : Compl) : State :=
  let s := if (s.slotC (slotKey mb c.slot)).mirrored then
      s.emit (.effect (.mgmtStatus (Fin.ofNat 257 mb) (Fin.ofNat 64 c.slot) c.status c.info c.result)) else s
  if s.ringFull mb || !(s.mbx mb).cqWait.isEmpty then
    ((s.flag (VI_STATUS_cq_full mb)).updSlotC (slotKey mb c.slot) (fun x => { x with phase := .done })).updMbx mb (fun m => { m with
      cqWait := m.cqWait ++ [c] })
  else s.writeCompl mb c

/-- Whether a status fences the commands held behind it (R70). -/
def fencing (status : Nat) : Bool := !(status = 0 || status = 1)

/-- The commands that fall with those in `failed` (submission numbers), in submission order: those behind a fence_after,
one whose fence_before follows the last earlier command directly, and the ordered successor (R70, R651); one whose doorbell
came in this cycle is not held by a fence that ends in it (R665). -/
def fencedBy (s : State) (mb : Nat) : List Nat → Bool → List Nat → List Nat
  | [], _, _ => []
  | k :: ks, after, failed =>
    let c := s.slotC (slotKey mb k)
    if c.phase = .waiting && decide (c.acceptedAt ≠ s.ct) &&
       (after || (flagBit c 0 && failed.contains (c.sub - 1)) ||
        (flagBit c 2 && (c.orderedAfter.map failed.contains).getD false)) then
      k :: fencedBy s mb ks (after || flagBit c 1) (c.sub :: failed)
    else fencedBy s mb ks after failed

/-- The slots after `k` in the submission order. -/
def afterSlot (k : Nat) : List Nat → List Nat
  | [] => []
  | x :: t => if x = k then t else afterSlot k t

/-- A command completes, and the commands its failure fences complete after it (R70, R651). Results of
other statuses than ST_OK, ST_QUEUED are the caller's to give (R644). -/
def State.finish (s : State) (mb k status info result : Nat) : State :=
  let c := s.slotC (slotKey mb k)
  let fall := if fencing status then
      fencedBy s mb (afterSlot k (s.mbx mb).order) (flagBit c 1) [c.sub] else []
  let s := if status = 8 then s.count SEC_CNT_ENTROPY_v else s
  let s := s.post1 mb { slot := k, status := status, info := info, result := result }
  fall.foldl (fun s j => s.post1 mb { slot := j, status := 6, info := 0, result := 0 }) s

/-- Completion of a command that waited, if there is one. -/
def State.finishOpt (s : State) (o : Option (Nat × Nat)) (status info result : Nat) : State :=
  match o with
  | some (mb, k) => s.finish mb k status info result
  | none => s

/-! ### Records to MRAM (R553, R555, R559) -/

/-- The key generation of a holder, for its tag. -/
def State.keyGenOf (s : State) (h : Nat) : Nat := ((s.mbx h).keyGen).getD 0

/-- A record joins the recorder's queue behind the records of its priority and higher; a write in progress
is never preempted. Each region keeps its own sequence (R552). -/
def State.nvPush (s : State) (region index prio holder : Nat) (data : NvData) : State :=
  let sq := Tbl.get s.nv.seqs region 0
  let w : NvWrite := {
      region := region, index := index, prio := prio,
      copy := { seq := sq, holder := holder, keyGen := s.keyGenOf holder, data := data } }
  let w := { w with started := s.nv.queue.isEmpty }
  (s.setB NV_STATUS_writing true).updNv (fun n => { n with
    seqs := Tbl.put n.seqs region ((sq + 1) % 2 ^ 32),
    queue := n.queue.filter (fun x => x.started || decide (x.prio ≤ prio)) ++ [w] ++
      n.queue.filter (fun x => !(x.started || decide (x.prio ≤ prio))) })

/-- A setting of region 0 (R629, R472, R614). -/
def State.setting (s : State) (key : Nat) (vals : List Int) : State :=
  s.nvPush 0 key 2 afMb (.setting key vals)

/-- A sequence record (R457). -/
def State.seqRecord (s : State) (holder skein slot kind info tslot d0 d1 : Nat) : State :=
  s.nvPush 2 (Tbl.get s.nv.seqs 2 0 % 4096) 2 holder (.seqRec s.ct skein slot kind info tslot d0 d1)

/-! ### Faults (R529 to R545) -/

/-- What an instance is (R529). -/
inductive Obj where
  | stitch (g : Nat) | skein (k : Nat) | port (p : Nat) | slot (n : Nat) | engine (e : Nat)
  | rect (r : Nat) | string (i : Nat) | die (d : Nat) | holder (h : Nat) | none
  deriving DecidableEq, Repr

def Kind.obj (k : Kind) (i : Nat) : Obj :=
  let c := k.code
  if c < 0x10 then (if c = 0 ∨ c = 2 then .none else .die i)
  else if 0x20 ≤ c ∧ c < 0x30 then .port i
  else if 0x30 ≤ c ∧ c < 0x40 then .stitch i
  else if c = 0x43 ∨ c = 0x44 ∨ c = 0xA4 then .port i
  else if 0x40 ≤ c ∧ c < 0x50 then .engine i
  else if (0x50 ≤ c ∧ c < 0x60) ∨ c = 0x82 then .skein i
  else if c = 0x60 ∨ c = 0x61 then .rect i
  else if 0x65 ≤ c ∧ c ≤ 0x68 then .string i
  else if (0x70 ≤ c ∧ c ≤ 0x74) ∨ c = 0x80 ∨ c = 0x81 then .slot i
  else if 0x75 ≤ c ∧ c ≤ 0x78 then .holder i
  else if 0xB0 ≤ c ∧ c < 0xC0 then .die i
  else .none

/-- The holder an instance notifies, if a VI (R539). -/
def State.instOwner (s : State) (o : Obj) : Nat :=
  match o with
  | .stitch g => s.stOwner g
  | .skein k => s.skOwner k
  | .port p => s.slotOwner p
  | .slot n => s.slotOwner n
  | .holder h => if h < 256 ∧ s.assigned h then h else afMb
  | _ => afMb

/-- The port an instance lies on, if any (R535). -/
def State.instPort (s : State) (o : Obj) : Option Nat :=
  match o with
  | .stitch g => some (g / 128)
  | .skein k => some (s.sk k).slot
  | .port p => some p
  | .slot n => some n
  | _ => none

def State.log (s : State) (r : LogRec) : State :=
  let r := { r with seq := s.get FLT_LOG_SEQ_v }
  let s := s.updFaults (fun f => { f with log := lastN 4096 (f.log ++ [r]) })
  (s.setF FLT_LOG_SEQ_v (r.seq + 1))

/-- The alarms, FAULT_N (open drain on the pattern's GPIO) and open counts follow the tracked instances (R541, FLT_STATUS,
FLT_KSTAT). Each two-wire port has an attention to assert from FAULT_N's fall (R583). -/
def State.alarms (s : State) (c : Nat) : State :=
  let n := (s.faults.insts.filter (fun i => decide (2 ≤ i.cls))).length
  let s := s.setF FLT_STATUS_alarms n
  let low := decide (0 < n) && s.is FLT_CTRL_fault_n_en
  let fell := low && !s.is FLT_STATUS_fault_n
  let s := s.setB FLT_STATUS_fault_n low
  let s := if fell then
      (List.range 8).foldl (fun s t => s.updTw t (fun x => { x with attnPending := true, attnAt := s.ct })) s else s
  let s := match s.pattern.faultGpio with
    | some g =>
      let m : BitVec 64 := BitVec.ofNat 64 (2 ^ g)
      if low then { s with gpioDriven := s.gpioDriven ||| m, gpio := s.gpio &&& ~~~m }
      else { s with gpioDriven := s.gpioDriven &&& ~~~m }
    | none => s
  s.setF (FLT_KSTAT_open c) (s.faults.insts.filter (fun i => decide (i.kind.code = c))).length

/-- The configuration in force of a kind's instance (R532): class, first rung, top rung, grace in ticks. -/
def State.kindCfg (s : State) (k : Kind) (i : Nat) : Nat × Nat × Nat × Nat :=
  if k = .clockRef ∧ i = 2 then (3, 4, 4, 0) else
  let c := k.code
  (s.get (FLT_KIND_class c), s.get (FLT_KIND_rung_first c), s.get (FLT_KIND_rung_max c),
    s.get (FLT_KIND_grace_val c) * (if s.is (FLT_KIND_grace_unit c) then ms 1 else us 1))

/-- Fixed kinds, and instance 2 of CLOCK_REF (R532, R536). -/
def State.kindFixed (s : State) (k : Kind) (i : Nat) : Bool :=
  s.is (FLT_KIND_fixed k.code) || (k = .clockRef && i = 2)

/-- The skein's words of a last-fault snapshot (R568). -/
def State.skeinSnap (s : State) (k : Nat) : List Word :=
  let x := s.sk k
  [s.word (aSKN_STATE k), s.word (aSKN_REF k), s.word (aSKN_LIMIT k), s.word (aSKN_CNT k),
   BitVec.ofInt 32 (x.lastFb.getD 0), BitVec.ofInt 32 x.isk, BitVec.ofInt 32 (satQ15 (divRound x.job.u 32768))]
def State.slotSnap (s : State) (n : Nat) : List Word :=
  [s.word (aSLOT_STATE n), s.word (aSLOT_I n), s.word (aSLOT_V n), s.word (aSLOT_P n), s.word (aPORT_STATUS n),
   s.word (aPORT_EPOCH n), s.word (aSVC_STATUS n), s.word aBUS_V]
def State.unitSnap (s : State) (cause : Nat) : List Word :=
  [BitVec.ofNat 32 cause, s.word (aTHM_TEMP 0), s.word (aTHM_TEMP 1), s.word (aTHM_TEMP 2), s.word (aTHM_TEMP 3),
   s.word (aTHM_TEMP 4), s.word aBUS_V, s.word aPAIR_STATUS, s.word aHU_STATUS, s.word aFLT_STATUS]

/-- The stitches a trigger implicates (R564). -/
def State.implicated (s : State) (o : Obj) : List Nat :=
  match o with
  | .stitch g => if (s.st g).skein.isSome then [g] else []
  | .skein k => s.bound k
  | .port n | .slot n => ((s.stitches.filter (fun x => decide (x.1 / 128 = n) && x.2.skein.isSome)).map (·.1))
  | _ => []

/-- The key of a record copy on a die: its region and page or slot. -/
def nvKey (region index : Nat) : Nat := 65536 * region + index

/-- The segments of a stitch's capture (R565, R567): three results each. With freeze set, none is overwritten: the capture
is cut short at the first that would be. -/
def State.segments (s : State) (c : Capture) (g pre : Nat) : Nat → Nat → List Rec → State
  | 0, _, _ => s
  | n + 1, i, l =>
    if l.isEmpty || s.nv.caps.any (fun (x : Capture) => x.id = c.id && x.cut) then s else
    let page := Tbl.get s.nv.seqs 5 0 % 122880
    if s.is NW_CTRL_freeze &&
        ((Tbl.find? s.nv.die0 (nvKey 5 page)).isSome || (Tbl.find? s.nv.die1 (nvKey 5 page)).isSome) then
      (s.count NW_CNT_SKIP_v).updNv (fun (n : Nv) => { n with
        caps := n.caps.map (fun (x : Capture) => if x.id = c.id then { x with cut := true } else x) })
    else (s.nvPush 5 page 3 (s.stOwner g) (.segment c.id g i c.kind pre (l.take 3))).segments c g pre n (i + 1) (l.drop 3)

/-- Stitches of a capture whose post results are staged leave it with their segments written; a capture with
none left ends. -/
def State.capFlush (s : State) : State :=
  let s := s.nv.caps.foldl (fun (s : State) (c : Capture) =>
    (c.left.filter (fun x => decide (x.2 = 0))).foldl (fun s x =>
      s.segments c x.1 (Tbl.get c.pre x.1 0) 22 0 (Tbl.get (α := List Rec) c.staged x.1 [])) s) s
  let s := s.updNv (fun n => { n with
    caps := (n.caps.map (fun (c : Capture) => { c with left := c.left.filter (fun x => decide (x.2 ≠ 0)) })).filter
      (fun c => !c.left.isEmpty) })
  let n := s.nv.caps.length
  (s.setF NW_STATUS_in_progress (Nat.min n 3)).setB NW_STATUS_full (decide (4 ≤ n))

/-- A capture starts (R564 to R566): answers its id, or 0 when none starts. -/
def State.capture (s : State) (gs : List Nat) (kind post : Nat) : State × Nat :=
  let recent := fun g => s.nv.capLog.any (fun c => c.1 = g && decide (s.ct < c.2 + sec 1))
  -- a raise takes over the capture an NW_TRIGGER of its cycle started on the same stitches (R569)
  let same := s.nv.caps.find? (fun (c : Capture) => decide (c.kind = 0xFF ∧ kind ≠ 0xFF ∧ c.startedAt = s.ct) &&
    gs.all (fun g => c.left.any (fun x => decide (x.1 = g))) && !gs.isEmpty)
  if !s.is NW_CTRL_capture_en then (s, 0)
  else match same with
  | some c => (((s.count NW_CNT_SKIP_v).flag NW_STATUS_skip_seen).updNv (fun (n : Nv) => { n with
      caps := n.caps.map (fun (x : Capture) => if x.id = c.id then { x with kind := kind } else x) }), c.id)
  | none => if decide (4 ≤ s.nv.caps.length) || gs.all recent then
    ((s.count NW_CNT_SKIP_v).flag NW_STATUS_skip_seen, 0)
  else
    let id0 := (s.get NW_CAP_ID_id + 1) % 2 ^ 32
    let id := if id0 = 0 then 1 else id0
    let cap : Capture := {
        id := id, kind := kind, startedAt := s.ct, post := post,
        left := gs.map (fun g => (g, post)), staged := gs.map (fun g => (g, (s.st g).ring.map (·.2))),
        pre := gs.map (fun g => (g, (s.st g).ring.length)) }
    let s := s.updNv (fun n => { n with caps := n.caps ++ [cap], capLog := gs.map (·, s.ct) ++ n.capLog })
    ((s.setF NW_CAP_ID_id id).capFlush, id)

/-- The last-fault record and capture of a class 2 or 3 raise (R564, R568). -/
def State.faultRecords (s : State) (k : Kind) (i cls die : Nat) (injected : Bool) : State :=
  let o := k.obj i
  match o with
  | .stitch _ | .skein _ | .port _ | .slot _ =>
    let (s, id) := s.capture (s.implicated o) k.code (s.get NW_CTRL_post)
    let fl := cls + 32 * injected.toNat
    let skein := fun (s : State) (q : Nat) =>
      s.nvPush 4 (4608 + q) 1 (s.skOwner q) (.last s.ct 0 k.code i die fl q id (s.skeinSnap q)
        (((s.bound q).filter (fun g => (s.st g).latched)).foldl (fun a g => a + 2 ^ (g % 128)) 0))
    let slot := fun (s : State) (n : Nat) =>
      s.nvPush 4 (6656 + n) 1 (s.slotOwner n) (.last s.ct 1 k.code i die fl n id (s.slotSnap n) 0)
    match o with
    | .stitch g => (match (s.st g).skein with | some q => skein s q | none => s)
    | .skein q => skein s q
    | .port n => slot s n
    | .slot n => slot s n
    | _ => s
  | _ => s

/-- A raise (R531, R533, R539, R544): log record, counter, notification, tracking, FAULT_N, grace timer and
records. A class 3 raise, and a class 2 raise that finds no room, leaves its first rung due at once; the
ladder takes it in the same cycle. -/
def State.raiseAs (s : State) (k : Kind) (i die : Nat) (injected : Bool) : State :=
  let c := k.code
  let sq := s.get FLT_LOG_SEQ_v
  let (cls0, _, _, grace) := s.kindCfg k i
  let old := s.faults.insts.find? (fun (x : Inst) => x.kind = k ∧ x.inst = i)
  let cls := (old.map (·.cls)).getD cls0
  let s := s.count (FLT_KCNT_raises c)
  let s := s.flag (FLT_KSTAT_seen c)
  let s := s.log {
      time := s.ct, kind := c, cls := cls, injected := injected, passed := false, recKind := 0,
      inst := i, die := die, rung := 0, seq := 0 }
  let fl := cls + 32 * injected.toNat
  let own := s.instOwner (k.obj i)
  let s := if cls = 0 then s else
    let s := if own ≠ afMb then s.ringEvent own c i fl die [] else s
    s.ringEvent afMb c i fl die []
  -- only the first rung of class 3 is taken in the raise cycle; a ladder that continues waits its grace (R533)
  let due := fun (last : Nat) => if cls = 3 ∧ last = 0 then s.ct else s.ct + grace
  let s := match old with
    | some _ => s.updFaults (fun f => { f with insts := f.insts.map (fun (x : Inst) =>
        if x.kind = k ∧ x.inst = i then
          (if x.held then { x with
            held := false, raisedAt := s.ct, injected := injected, clean := 0,
            graceAt := if 2 ≤ cls ∧ !x.done then some (due x.last) else none }
           else { x with clean := 0 }) else x) })
    | none =>
      let new : Inst := {
          kind := k, inst := i, cls := cls, raisedAt := s.ct, injected := injected, die := die,
          graceAt := if 2 ≤ cls then some (due 0) else none }
      if s.faults.insts.length < 2048 then s.updFaults (fun f => { f with insts := f.insts ++ [new] })
      else
        let s := s.flag FLT_STATUS_table_full
        if cls < 2 then s else
        match s.faults.insts.find? (fun (x : Inst) => decide (x.cls < 2)) with
        | some v => (s.updFaults (fun f => { f with insts := f.insts.filter (· ≠ v) ++ [new] })).alarms v.kind.code
        | none => s.updFaults (fun f => { f with atOnce := f.atOnce ++ [new] })
  let s := s.alarms c
  if 2 ≤ cls then
    -- a Unit, Memory or Trust raise restarts the count of held control (R608)
    let s := if c < 0x10 ∨ (0xB0 ≤ c ∧ c < 0xC0) ∨ 0xD0 ≤ c then s.updTrust (fun t => { t with heldSince := none }) else s
    let s := s.nvPush 3 (Tbl.get s.nv.seqs 3 0 % 8192) 2 own
      (.fault {
          time := s.ct, kind := c, cls := cls, injected := injected, passed := false, recKind := 0, inst := i,
          die := die, rung := 0, seq := sq })
    s.faultRecords k i cls die injected
  else s

/-- The die on which the checker of an instance sits (R529): the quadrant of a port, stitch, skein or
engine, else die A. -/
def State.dieOf (s : State) (o : Obj) : Nat :=
  match o with
  | .stitch g => g / 2048
  | .skein k => (s.sk k).slot / 16
  | .port p => p / 16
  | .engine e => e / 32
  | .die d => d
  | _ => 4

def State.raise (s : State) (k : Kind) (i : Nat) : State := s.raiseAs k i (s.dieOf (k.obj i)) false

/-- Whether an instance is raised (tracked with its cause present). -/
def State.raised (s : State) (k : Kind) (i : Nat) : Bool :=
  s.faults.insts.any (fun x => x.kind = k && x.inst = i && !x.held)

/-- The cause of an instance is gone (R530, R531, R533): class 0 and 1 return to idle, class 2 and 3 are
held and their timer stops. -/
def State.gone (s : State) (k : Kind) (i : Nat) : State :=
  if s.raised k i then
    let s := s.updFaults (fun f => { f with insts :=
      (f.insts.filter (fun x => !(x.kind = k && x.inst = i && decide (x.cls < 2)))).map (fun x =>
        if x.kind = k ∧ x.inst = i then { x with held := true, graceAt := none } else x) })
    s.alarms k.code
  else s

/-- A level kind follows its condition: raised at its onset, gone at its end (R530). -/
def State.level (s : State) (k : Kind) (i : Nat) (cond : Bool) : State :=
  if cond then (if s.raised k i then s else s.raise k i) else s.gone k i

/-- An event kind is raised; its cause is gone in the next fabric cycle (R530), which FABRIC_CYCLE does. -/
def eventKinds : List Kind :=
  [.ephAbort, .arbDeadline, .arbDup, .engNoSpare, .slotSurprise, .pairYield, .pairProveFail, .chassisForceOff,
   .sramCorr, .bridgeCrc]

/-- One check of an armed injection is used. -/
def State.injectUse (s : State) : State :=
  match s.faults.inject with
  | some (c, b, n, i) =>
    let s := s.updFaults (fun f => { f with inject := if n ≤ 1 then none else some (c, b, n - 1, i) })
    s.setB FLT_STATUS_inject_armed s.faults.inject.isSome
  | none => s

/-- A meaning's answer. -/
abbrev Out3 := Host.Outcome State Fault Refusal

/-- A cell of a slot port while its CRC checker is armed for injection is discarded whole (R137, R546). -/
def State.onCell (s : State) (p : Nat) (f : State → Out3) : Out3 :=
  if !s.awake then .next s else
  match s.faults.inject with
  | some (2, _, _, i) => if i = p then .next (s.injectUse.count (PORT_CNT_CRC_v p)) else f s
  | _ => f s

def State.onLink (s : State) (l : LinkId) (f : State → Out3) : Out3 :=
  match l with
  | .port p => s.onCell p.val f
  | .svc _ => if s.awake then f s else .next s
  | .partner => if s.awake then f s else .next s

end Sys2Proof.Machine
end

