-- ==== Sys2Proof/Machine/TimeOps.lean ====
section
/-! DEFINITION. Meridian arithmetic, cycles and deadlines (R14, R15, R28, R97, R117, R323, R324), and the
ephemeris as a store of entries (R115 to R124). -/
namespace Sys2Proof.Machine

/-- R15: a compare matches when value minus compare, modulo 2^48, is below 2^47. -/
def merMatched (v c : Nat) : Bool := decide ((v + 2 ^ 48 - c % 2 ^ 48) % 2 ^ 48 < 2 ^ 47)

/-- The value as read and compared: MER_OFFSET is added to the angle, the turns stay (R103). -/
def Meridian.visible (m : Meridian) : Nat :=
  m.value / 2 ^ 32 % 2 ^ 16 * 2 ^ 32 + (m.value + m.offset) % 2 ^ 32

/-- The step in 1/65,536 counts per meridian clock (R95). -/
def Meridian.stepx (m : Meridian) : Nat := m.step * 65536 + m.stepFrac
/-- The ratio in force; below 1.0 it acts as 1.0 (R94). -/
def Meridian.ratioEff (m : Meridian) : Nat := Nat.max m.ratio 65536

/-- A meridian is held in debug halt: src 0, freeze_on_halt set, carrying no bound skein (R104, R708). -/
def State.carries (s : State) (m : Nat) : Bool :=
  s.skeins.any (fun x => x.2.known && (x.2.carrier = m || x.2.moved.any (fun o => o.2.1 = m)) && !(s.bound x.1).isEmpty)
def State.merHeld (s : State) (m : Nat) : Bool :=
  s.debugHalt && s.get (MER_CFG_src m) = 0 && s.is (MER_CFG_freeze_on_halt m) && !s.carries m
def State.merEn (s : State) (m : Nat) : Bool := s.is (MER_CFG_en m)

/-- Source ticks in which the meridian advances by `counts`, rounded up. -/
def Meridian.ticksFor (m : Meridian) (counts : Nat) : Nat := ceilDiv (counts * m.ratioEff) m.stepx

/-- Fabric cycles from one source tick of a meridian to the next, as its source now runs: 65,536 ticks to a mains cycle,
one to an expected pin edge, else one to a cycle (*Meridian sources*). -/
def State.tickGap (s : State) (m : Nat) : Nat × Nat :=
  let src := s.get (MER_CFG_src m)
  if src = 2 ∧ s.shelf.pllPeriod ≠ 0 then (s.shelf.pllPeriod, 65536)
  else if src = 4 ∧ (s.mer m).edgeGap ≠ 0 then ((s.mer m).edgeGap, 1)
  else (1, 1)

/-- The fabric cycles that `n` source ticks of a meridian take, rounded up. -/
def State.ticksTime (s : State) (m n : Nat) : Nat := ceilDiv (n * (s.tickGap m).1) (s.tickGap m).2

/-- The signed distance from `v` to `c` on the 48-bit circle. -/
def merAhead (v c : Nat) : Int := fromField 48 ((c + 2 ^ 48 - v % 2 ^ 48) % 2 ^ 48)

/-- One turn of a meridian in 20.12 ticks; a rate `hz` while it does not run. -/
def State.turn12 (s : State) (m hz : Nat) : Nat :=
  let x := s.mer m
  let (n, d) := s.tickGap m
  if x.stepx = 0 then ceilDiv (1600000000 * 4096) hz
  else (divRound (2 ^ 44 * (x.ratioEff : Int) * n) (x.stepx * d)).toNat

/-- The carrier, base and rate of a skein's cycle c: from the cycle of a move on the new ones (R98). -/
def Skein.carrierAt (x : Skein) (c : Nat) : Nat × Nat × Nat :=
  match x.moved with
  | some (from_, m, b, hz) => if cycLe from_ c then (x.carrier, x.base, x.hz) else (m, b, hz)
  | none => (x.carrier, x.base, x.hz)

/-- The skein's nominal period for cycle c in 20.12 ticks: one turn of its carrier (R97, R98, R122); the pattern's rate
while the carrier does not run. -/
def State.periodAt (s : State) (k c : Nat) : Nat :=
  let y := (s.sk k).carrierAt c
  s.turn12 y.1 y.2.2

/-- The nominal period of the rate in force. -/
def State.period12 (s : State) (k : Nat) : Nat := s.turn12 (s.sk k).carrier (s.sk k).hz

/-- The flights and width of R31: the pair's with a partner, the unit's own without. -/
def State.flightUp (s : State) (p : Nat) : Nat := s.get (PORT_FLIGHT_pair_up_ns p)
def State.flightDown (s : State) (p : Nat) : Nat := s.get (PORT_FLIGHT_pair_down_ns p)
def State.widthFor (s : State) (p : Nat) : Nat :=
  let w := s.get (PORT_STATUS_width p)
  if s.pair.partner ∧ (s.port p).pairWidth ≠ 0 then Nat.min w (s.port p).pairWidth else w

/-- The control delay of R28 for a period in 20.12 ticks. -/
def ctrlDelay (period12 path up down : Nat) : Nat :=
  let y := ceilDiv (2 * (path + up + down) * 8 * 4096) (period12 * 5)
  Nat.max 1 ((y + 2) / 2)

/-- The control delay for window n (R28, R98). -/
def State.delayAt (s : State) (k n : Nat) : Nat :=
  let p := (s.sk k).slot
  ctrlDelay (s.periodAt k n) (if s.widthFor p = 1 then 390 else 350) (s.flightUp p) (s.flightDown p)
def State.delayFor (s : State) (k : Nat) : Nat :=
  let p := (s.sk k).slot
  ctrlDelay (s.period12 k) (if s.widthFor p = 1 then 390 else 350) (s.flightUp p) (s.flightDown p)

/-- The cycle number the carrier gives now (R97): turns plus base modulo 2^16. Until the first cycle on a new carrier
begins there, the old one numbers the cycles before it (R98). -/
def State.cycleNow (s : State) (k : Nat) : Nat :=
  let x := s.sk k
  let n := ((s.mer x.carrier).value / 2 ^ 32 + x.base) % 65536
  match x.moved with
  | some (from_, m, b, _) =>
    let o := ((s.mer m).value / 2 ^ 32 + b) % 65536
    if cycLe from_ n then n else if cycLe from_ o then (from_ + 65535) % 65536 else o
  | none => n

/-- Chassis time at which cycle `c` starts at angle `off` (R97, R324), as a numerator and denominator in
ticks relative to now: ahead * ratio / stepx. -/
def State.startNum (s : State) (k c off : Nat) : Int × Nat :=
  let (mer, base, _) := (s.sk k).carrierAt c
  let m := s.mer mer
  let turns := (c + 65536 - base % 65536) % 65536
  if m.stepx = 0 then
    (fromField 16 ((c + 65536 - (s.sk k).stepped % 65536) % 65536) * s.periodAt k c, 4096)
  else
    let (n, d) := s.tickGap mer
    (merAhead m.value (turns * 2 ^ 32 + off % 2 ^ 32) * m.ratioEff * n, m.stepx * d)

/-- R(c) in ticks, rounded. -/
def State.reloadAt (s : State) (k c off : Nat) : Int :=
  let (n, d) := s.startNum k c off
  s.ct + divRound n d

/-- The fabric cycle that lies `ns` after H(c), the close of window c half a period after R(c). -/
def State.closeAfter (s : State) (k c off ns : Nat) : Int :=
  let (n, d) := s.startNum k c off
  s.ct + (n * 40960 + (5 * s.periodAt k c + 65536 * ns : Nat) * d) / (40960 * d : Nat)

/-- The fabric cycle of H(c). -/
def State.closeAt (s : State) (k c off : Nat) : Int := s.closeAfter k c off 0

/-- The deadline of R323 in ticks, rounded down. -/
def State.deadline (s : State) (k c off : Nat) : Int :=
  let p := (s.sk k).slot
  let (n, d) := s.startNum k c off
  let g := 80 + s.get (PORT_FLIGHT_down_ns p) + s.get (ARB_CTRL_guard_ns p)
  s.ct + (n * 5 - (g * 8 * d : Nat)) / (5 * (d : Int))

/-- The chassis time of a trigger, as its meridian runs now; one that stands never comes. -/
def State.trigTime (s : State) : EphTrig → Int
  | .time t => t
  | .mer m v =>
    let x := s.mer m
    let a := merAhead x.visible v
    if a ≤ 0 then s.ct else if x.stepx = 0 then s.ct + 2 ^ 64 else s.ct + s.ticksTime m (x.ticksFor a.toNat)

/-- R117: the first cycle that starts at or after `t` and whose window c - D closes at least 1 µs after entry. -/
def State.cycleGo (s : State) (k : Nat) (t entered : Int) : Nat → Nat → Nat
  | 0, c => c
  | n + 1, c =>
    if t ≤ s.reloadAt k c 0 ∧ entered + us 1 ≤ s.closeAt k ((c + 65536 - (s.sk k).delay) % 65536) 0 then c
    else s.cycleGo k t entered n ((c + 1) % 65536)

def State.cycleFor (s : State) (k : Nat) (t entered : Int) : Nat :=
  let m := s.mer (s.sk k).carrier
  let d := t - s.ct
  let (n, g) := s.tickGap (s.sk k).carrier
  let adv : Int := if m.stepx = 0 then d * 4096 / s.period12 k * 2 ^ 32 else d * m.stepx * g / (m.ratioEff * n)
  let turns := (m.value + adv) / 2 ^ 32
  s.cycleGo k t entered 16 (toField 16 (turns + (s.sk k).base))

/-- The skein an action names, if it is a skein action. -/
def EphAct.skein? : EphAct → Option Nat
  | .target k _ _ => some k
  | .count k _ => some k
  | .rate k _ _ => some k
  | .samples _ k _ => some k
  | .command op pl => if op = 0x410 ∨ op = 0x411 ∨ op = 0x412 ∨ op = 0x413 ∨ (0x421 ≤ op ∧ op ≤ 0x423) then
      some (leVal (pl.take 2)) else none
  | _ => none

def EphEntry.skeins (e : EphEntry) : List Nat := e.acts.filterMap EphAct.skein?

/-- The commit point of R116: the earliest window c - D of its skein actions, else the trigger; a trigger that comes
before that window closes is the commit point (DEDUCED, log 157). -/
def State.commitAt (s : State) (e : EphEntry) : Int :=
  e.cycles.foldl (fun a c =>
    let t := s.closeAt c.1 ((c.2 + 65536 - (s.sk c.1).delay) % 65536) 0
    if t < a then t else a) (s.trigTime e.trig)

def EphEntry.live (e : EphEntry) : Bool := e.st = .pending || e.st = .committed
def State.ephHeld (s : State) (h : Nat) : Nat := (s.eph.filter (fun x => x.2.live && x.2.issuer = h)).length
def State.ephLive (s : State) : Nat := (s.eph.filter (fun x => x.2.live)).length
def State.ephPublish (s : State) : State := s.setF EPH_STATUS_pending s.ephLive

/-- R115: whether an issuer may hold one more entry. -/
def State.ephRoom (s : State) (h : Nat) : Bool :=
  let holders := afMb :: (List.range 256).filter s.assigned
  let fw := s.ephHeld fwIssuer
  let used := (s.eph.filter (fun x => x.2.live && x.2.issuer ≠ fwIssuer)).length + (fw - 512)
  let owed := (holders.filter (· ≠ h)).foldl (fun a v => a + (8 - s.ephHeld v)) 0
  let shared := decide (used + owed < 3584)
  if h = fwIssuer then decide (fw < 512) || shared
  else decide (s.ephHeld h < 8) || (decide (s.ephHeld h < 64) && shared)

/-- The first free index after the last one taken (R123). -/
def State.ephFree (s : State) : Nat → Nat → Option Nat
  | 0, _ => none
  | n + 1, i => if (s.ephE (i % 4096)).live then s.ephFree n (i + 1) else some (i % 4096)

/-- A new entry (R115, R123): answers its entry number, or none when the issuer has no room. -/
def State.ephNew (s : State) (h : Nat) (trig : EphTrig) (acts : List EphAct) (opt : Bool) (step : Option Nat) :
    State × Option Nat :=
  if !s.ephRoom h then (s, none) else
  match s.ephFree 4096 (s.ephLast + 1) with
  | none => (s, none)
  | some i =>
    let old := s.ephE i
    let g := if old.st = .free then old.gen else (old.gen + 1) % 2 ^ 20
    let t := s.trigTime trig
    let cyc := (acts.filterMap EphAct.skein?).map (fun k => (k, s.cycleFor k t s.ct))
    let e : EphEntry :=
      {
          st := .pending, gen := g, trig := trig, acts := acts, issuer := h, enteredAt := s.ct, ord := s.ephCount, cycles := cyc,
          optimiser := opt, holdupStep := step }
    (({ s with ephLast := i, ephCount := s.ephCount + 1 }.updEphE i (fun _ => e)).ephPublish, some (i + 4096 * g))

/-- The firmware's own constellation, at a chassis time (R118, R365, R385). -/
def State.fwPost (s : State) (t : Nat) (acts : List EphAct) (opt : Bool) (step : Option Nat) : State :=
  (s.ephNew fwIssuer (.time t) acts opt step).1

/-- An uncommitted entry ends without applying (R84, R124, R355). -/
def State.ephEnd (s : State) (i : Nat) (st : EphSt) : State :=
  if (s.ephE i).st = .pending then (s.updEphE i (fun e => { e with st := st, endedAt := s.ct })).ephPublish else s

def State.ephEndAll (s : State) (p : EphEntry → Bool) : State :=
  (s.eph.map (·.1)).foldl (fun s i => if p (s.ephE i) then s.ephEnd i .cancelled else s) s

/-- A skein action reaches its engine for a cycle (R117). -/
def State.skAct (s : State) (k c : Nat) (a : SkAct) : State :=
  s.updSk k (fun x => { x with acts := x.acts ++ [(c, a)] })

end Sys2Proof.Machine
end

