-- ==== Sys2Proof/Machine/UnitOps.lean ====
section
/-! DEFINITION. What several families do to stitches, skeins, engines, slots, ports and sequences: states and
their registers, placement (R269, R270), bind-off (R421, R422), fencing (R413, R417), claims (R509, R512),
sequence starts and stops (R441 to R453). -/
namespace Sys2Proof.Machine

/-! ### Causes that end after 64 evaluations (R530) -/

/-- One evaluation of a level kind whose defining rule gives no end: raised at its onset, gone after 64
consecutive evaluations without the condition. -/
def State.eval (s : State) (k : Kind) (i : Nat) (cond : Bool) : State :=
  if cond then
    if s.raised k i then s.updFaults (fun f => { f with insts := f.insts.map (fun (x : Inst) =>
      if x.kind = k ∧ x.inst = i then { x with clean := 0 } else x) })
    else s.raise k i
  else
    match s.faults.insts.find? (fun (x : Inst) => x.kind = k && x.inst = i && !x.held) with
    | none => s
    | some x =>
      if 63 ≤ x.clean then s.gone k i
      else s.updFaults (fun f => { f with insts := f.insts.map (fun (y : Inst) =>
        if y.kind = k ∧ y.inst = i then { y with clean := y.clean + 1 } else y) })

/-! ### Stitches -/

/-- A stitch's state (R189), with its register. -/
def State.stSet (s : State) (g v : Nat) : State :=
  (s.updSt g (fun x => { x with state := v })).setF (STITCH_STATE_state (g / 128) (g % 128)) v

/-- The sense-open class of a stitch (R212, R214), with its register and cause. -/
def State.senseSet (s : State) (g : Nat) (b : Bool) : State :=
  ((s.updSt g (fun x => { x with senseOpen := b, senseRun := 0, senseClear := 0 })).setB
    (STITCH_STATE_open (g / 128) (g % 128)) b).level .stitchSense g b

/-- A stitch is latched faulted (R216, R218): its skein sends it OFF from the next command on. -/
def State.latchStitch (s : State) (g : Nat) : State :=
  ((s.updSt g (fun x => { x with latched := true })).stSet g 5).flag (STITCH_FLT_bit (g / 128) (g % 128))

/-- A stitch leaves its skein (R189, R214, R218, R530): latch and class end; its record in STITCH_FLT stays. -/
def State.unbindStitch (s : State) (g : Nat) : State :=
  let s := s.senseSet g false
  let s := (s.gone .stitchFault g).gone .stitchAuto g
  let s := s.updSt g (fun x => { x with
    skein := none, latched := false, hiccup := false, hiccups := [], trailers := [], trailerGap := 0,
    adopting := false, shareRun := 0, postedTo := none, firstFromTrailer := false })
  s.stSet g 0

/-- Healthy stitches of a skein (R301): bound and not faulted. -/
def State.healthy (s : State) (k : Nat) : List Nat := (s.bound k).filter (fun g => (s.st g).state ≠ 5)

/-! ### Skeins -/

/-- A skein's state (R286), with its register. -/
def State.skSet (s : State) (k v : Nat) : State :=
  (s.updSk k (fun x => { x with job := { x.job with skeinState := v } })).setF (SKN_STATE_state k) v
def State.skSt (s : State) (k : Nat) : Nat := (s.sk k).job.skeinState

/-- SKN_REF and SKN_LIMIT follow the job (R318, R674). -/
def State.pubSkein (s : State) (k : Nat) : State :=
  let x := s.sk k
  let s := (s.setF (SKN_REF_target_mv k) (Nat.min x.target 65535)).setF (SKN_REF_ref_mv k) (Nat.min (divRound x.job.refQ16 65536).toNat 65535)
  s.setI (SKN_LIMIT_ilim_ma k) x.lim.ilimMa

/-- A whole load takes effect (R280, R314). Power loads act in the skein step. -/
def State.applyLoad (s : State) (k : Nat) (l : Load) : State :=
  match l with
  | .gaintab sh es => s.updSk k (fun x => { x with gtab := es, idxShift := sh })
  | .schedule sc => s.updSk k (fun x => { x with sched := sc })
  | .law lw => s.updSk k (fun x => { x with law := lw })
  | .limits lm => (s.updSk k (fun x => { x with lim := lm })).pubSkein k
  | .shed o => s.updSk k (fun x => { x with order := o })
  | .power _ => s

/-! ### Engines and placement (R21, R22, R44, R269, R270) -/

/-- The jobs an engine holds. -/
def State.jobs (s : State) (e : Nat) : List Nat :=
  (s.skeins.filter (fun x => decide (x.2.engine = some e))).map (·.1)

/-- The highest loop rate of a skein: of its rate list, or in force (R269). -/
def State.jobHz (s : State) (k : Nat) : Nat :=
  let x := s.sk k
  if x.rates.isEmpty then x.hz else x.rates.foldl (fun a r => Nat.max a r.1) 0

/-- The stitches a job counts: those bound, and while its slot casts on, before step 9 binds them, all of its skein. -/
def State.jobSize (s : State) (k : Nat) : Nat :=
  if s.get (SLOT_STATE_state (s.sk k).slot) = 2 then (s.sk k).stitches.length else (s.bound k).length

/-- The modelled cycles per second of a job at its rate in force (R44), and at its highest rate its command demand c_j (R269). -/
def State.jobCost (s : State) (k : Nat) : Nat := (8 + 12 * s.jobSize k) * (s.sk k).hz
def State.jobDemand (s : State) (k : Nat) : Nat :=
  let n := s.jobSize k
  if (s.sk k).interleave then 4 * ceilDiv (n * 160 * s.jobHz k) 1000000000 else 2 + 2 * ceilDiv n 4

def sumNat (l : List Nat) : Nat := l.foldl (· + ·) 0

/-- Whether jobs together keep both limits of R269. -/
def State.fitJobs (s : State) (l : List Nat) : Bool :=
  decide (sumNat (l.map s.jobCost) ≤ 900000000) &&
  decide (8 * ceilDiv l.length 4 + sumNat (l.map s.jobDemand) ≤ 104) && decide (l.length ≤ 64)

/-- An engine that may take a job: enabled, not in reset or faulted, not slowed (R277, R278, R337). -/
def State.engOk (s : State) (e : Nat) : Bool :=
  s.is (ENG_CTRL_en e) && decide (s.get (ENG_STATUS_state e) < 2) && !s.is (ENG_STATUS_slow e)

def State.roomFor (s : State) (e k : Nat) : Bool := s.engOk e && s.fitJobs (k :: (s.jobs e).filter (· ≠ k))

/-- The engines of a quadrant, ascending. -/
def quadEngines (q : Nat) : List Nat := (List.range 32).map (32 * q + ·)

/-- The engine a job goes to (R270). -/
def State.placeEngine (s : State) (k : Nat) : Option Nat :=
  let n := (s.sk k).slot
  let es := (quadEngines (n / 16)).filter (fun e => !s.is (ENG_CTRL_spare e) && !s.is (ENG_CTRL_no_place e) && s.roomFor e k)
  match es.find? (fun e => (s.jobs e).any (fun j => (s.sk j).slot = n)) with
  | some e => some e
  | none => match es.find? (fun e => (s.jobs e).isEmpty) with
    | some e => some e
    | none => es.head?

/-- The lowest spare of the job's quadrant with room (R274). -/
def State.spareEngine (s : State) (k : Nat) : Option Nat :=
  (quadEngines ((s.sk k).slot / 16)).find? (fun e =>
    s.is (ENG_CTRL_spare e) && s.roomFor e k && decide ((s.sk k).engine ≠ some e))

/-- The engine a job restarts on (R278): a spare, else any other engine with room. -/
def State.restartEngine (s : State) (k : Nat) : Option Nat :=
  match s.spareEngine k with
  | some e => some e
  | none => (quadEngines ((s.sk k).slot / 16)).find? (fun e => s.roomFor e k && decide ((s.sk k).engine ≠ some e))

/-- ENG_STATUS, ENG_LOAD and ENG_DEMAND follow the jobs an engine holds. -/
def State.pubEng (s : State) (e : Nat) : State :=
  let l := s.jobs e
  let s := s.setF (ENG_STATUS_jobs e) l.length
  let s := if s.get (ENG_STATUS_state e) < 2 then s.setF (ENG_STATUS_state e) (if l.isEmpty then 0 else 1) else s
  let s := s.setB (ENG_STATUS_shadow e) (s.skeins.any (fun x => match x.2.shadow with
    | some (t, _, _) => decide (t = e)
    | none => false))
  let s := s.setF (ENG_LOAD_model e) (Nat.min 65535 (divRound (sumNat (l.map s.jobCost) * 32768) 1000000000).toNat)
  s.setF (ENG_DEMAND_c_cycles e) (Nat.min 255 (8 * ceilDiv l.length 4 + sumNat (l.map s.jobDemand)))

/-- A trace of the skein stops (R267, R661). -/
def State.stopTrace (s : State) (k e : Nat) : State :=
  let t := (s.eng e).trace
  if t.skein = k ∧ (t.state = 1 ∨ t.state = 2) then
    (s.updEng e (fun x => { x with trace := { x.trace with state := 3 } })).setF (TRC_STATUS_state e) 3
  else s

/-- ARB_STATUS.depth and max_depth follow the queue. -/
def State.pubArb (s : State) (p : Nat) : State :=
  let d := (s.port p).queue.length
  (s.setF (ARB_STATUS_depth p) d).raiseTo (ARB_STATUS_max_depth p) d

/-! ### Effect messages (R500) -/

/-- What both units must apply goes to a partner that is admitted or standby. -/
def State.mirror (s : State) (m : Effect) : State :=
  let ps := s.get PAIR_STATUS_partner_state
  if s.is PAIR_STATUS_link_up && (ps = 2 || ps = 3) then s.emit (.effect m) else s

/-- Whether the effect message of an ephemeris entry still awaits the partner's acknowledgement (R500). -/
def State.entryOpen (s : State) (n : Nat) : Bool :=
  s.pair.partner && (s.partnerRel.unacked.any (fun c => decide (c.what = 2 + n)) ||
    s.partnerRel.backlog.any (fun c => decide (c.1 = 2 + n)))

/-- A command's entry is in the ephemeris: ST_QUEUED, once the partner has acknowledged it where it is standby or admitted
(R73, R500). -/
def State.entered (s : State) (mb k n : Nat) : State :=
  if s.entryOpen n then { s with entering := s.entering ++ [(mb, k, n)] } else s.finish mb k 1 0 n

/-! ### Planned moves (R122, R271, R284) -/

/-- Another engine of the quadrant with room for a job, in the order of R270, then a spare (DESIGN CHOICE, log 161). -/
def State.otherEngine (s : State) (k : Nat) : Option Nat := (s.placeEngine k).or (s.restartEngine k)

/-- A planned move starts: one cycle in shadow, then the switch; an earlier planned move of the job is turned away. -/
def State.planMove (s : State) (k t : Nat) (who : Option (Nat × Nat)) : State :=
  let x := s.sk k
  let s := (s.finishOpt x.moveFor 2 2 0).updSk k (fun y => { y with moveTo := some t, moveFor := who, shadow := none })
  match x.shadow with
  | some (e, _, _) => s.pubEng e
  | none => s

/-- The rate raises among actions. -/
def State.raisesOf (s : State) (acts : List EphAct) : List (Nat × Nat) :=
  acts.filterMap (fun a => match a with
    | .rate k hz _ => if (s.sk k).hz < hz then some (k, hz) else none
    | _ => none)

/-- The planned moves that rate raises need (R44, R122, R269): with every raise in force and the moves under way made, each
raised job that no longer fits its engine goes to another; none where no engine has room. -/
def State.raisePlan (s : State) (raises : List (Nat × Nat)) : Option (List (Nat × Nat)) :=
  let s := raises.foldl (fun (s : State) (r : Nat × Nat) => s.updSk r.1 (fun x => { x with
    hz := Nat.max x.hz r.2, engine := x.engine.map (fun e => x.moveTo.getD e) })) s
  (raises.foldl (fun (a : Option (State × List (Nat × Nat))) r =>
    a.bind (fun y => match (y.1.sk r.1).engine with
      | none => some y
      | some e => if y.1.fitJobs (y.1.jobs e) then some y else
        (y.1.otherEngine r.1).map (fun t => (y.1.updSk r.1 (fun x => { x with engine := some t }), y.2 ++ [(r.1, t)]))))
    (some (s, []))).map (·.2)

/-- A constellation whose moves are made is entered; the firmware's triggers 1 ms after (R118). -/
def State.postNow (s : State) (x : MovePost) : State :=
  match x.slot with
  | none => s.fwPost (s.ct + ms 1) x.acts true none
  | some (mb, k) => match s.ephNew mb x.trig x.acts false none with
    | (s, some n) => (s.mirror (.ephPost (Fin.ofNat 257 mb) n (leBytes 2 0x310 ++ List.replicate 14 0 ++ x.body))).entered mb k n
    | (s, none) => s.finish mb k 2 3 0

/-- A constellation is posted once each raised job has an engine with room for it. -/
def State.startPost (s : State) (x : MovePost) : State :=
  let rs := s.raisesOf x.acts
  match s.raisePlan rs with
  | none => s.finishOpt x.slot 2 6 0
  | some moves =>
    let s := moves.foldl (fun (s : State) (m : Nat × Nat) => s.planMove m.1 m.2 none) s
    let moving := (rs.map (·.1)).filter (fun k => (s.sk k).moveTo.isSome)
    if moving.isEmpty then s.postNow x else { s with posts := s.posts ++ [{ x with moving := moving }] }

/-- A planned move has ended: what waited for it alone is judged again. -/
def State.moveEnded (s : State) (k : Nat) : State :=
  let l := s.posts.map (fun (x : MovePost) => { x with moving := x.moving.filter (· ≠ k) })
  let due := l.filter (fun (x : MovePost) => x.moving.isEmpty)
  due.foldl (fun (s : State) (x : MovePost) => s.startPost x) { s with posts := l.filter (fun (x : MovePost) => !x.moving.isEmpty) }

/-- A planned move is given up: its command completes with `status` and `info`. -/
def State.dropMove (s : State) (k status info : Nat) : State :=
  let x := s.sk k
  let s := (s.finishOpt x.moveFor status info 0).updSk k (fun y => { y with shadow := none, moveTo := none, moveFor := none })
  let s := match x.shadow with
    | some (e, _, _) => s.pubEng e
    | none => s
  if x.moveTo.isSome then s.moveEnded k else s

/-- A job moves to engine `t`, or off every engine: the counters of R275 when `counted`. -/
def State.moveJob (s : State) (k : Nat) (t : Option Nat) (counted : Bool) : State :=
  let old := (s.sk k).engine
  let planned := (s.sk k).moveTo.isSome
  let s := s.finishOpt (s.sk k).moveFor 9 0 0
  let s := match old with | some e => s.stopTrace k e | none => s
  let s := s.updSk k (fun x => { x with engine := t, shadow := none, overruns := 0, moveTo := none, moveFor := none })
  let s := match old with
    | some e => (if counted then s.count (ENG_CNT_MIGRATE_OUT_v e) else s).pubEng e
    | none => s
  let s := match t with
    | some e => (if counted then s.count (ENG_CNT_MIGRATE_IN_v e) else s).pubEng e
    | none => s
  if planned then s.moveEnded k else s

/-! ### Arbiter queues (R321, R337) -/

/-- Queued cells that satisfy `f` are removed and counted, held ones discarded uncounted (R337). A post of the same fabric
cycle is ignored (R341): its cell goes uncounted. -/
def State.maskCells (s : State) (p : Nat) (f : CmdCell → Bool) : State :=
  let n := ((s.port p).queue.filter (fun c => f c && decide (c.postAt ≠ s.ct))).length
  if !((s.port p).queue ++ (s.port p).held).any f then s else
  let s := s.updPort p (fun x => { x with queue := x.queue.filter (fun c => !f c), held := x.held.filter (fun c => !f c) })
  (s.countN (ARB_CNT_MASKED_v p) n).pubArb p

/-- An engine is masked in the arbiters of its quadrant (R337); a lock in progress completes (R331). -/
def State.maskEngine (s : State) (e : Nat) : State :=
  (List.range 16).foldl (fun s i =>
    let p := 16 * (e / 32) + i
    let g := (s.port p).granting
    (s.maskCells p (fun c => decide (c.engine = e) && !(g.isSome && decide (c.lock = g)))).setB (ARB_MASK_bit p (e % 32)) true) s
def State.unmaskEngine (s : State) (e : Nat) : State :=
  (List.range 16).foldl (fun s i => s.setB (ARB_MASK_bit (16 * (e / 32) + i) (e % 32)) false) s

/-! ### Sequences (R440 to R455) -/

def State.railOf (s : State) (k : Nat) : Option Rail := Tbl.get s.rails k none
/-- The skeins of a slot that have an entry. -/
def State.railSkeins (s : State) (n : Nat) : List Nat := (s.slotSkeins n).filter (fun k => (s.railOf k).isSome)
def State.seqSt (s : State) (n : Nat) : Nat := s.get (SEQ_STATE_state n)

/-- The reset output of a slot's sequence (R453): asserted low, released high. -/
def State.rstOut (s : State) (n : Nat) (asserted : Bool) : State :=
  let s := s.setB (SEQ_STATE_rst n) asserted
  match (s.seq n).rstGpio with
  | some g =>
    let m : BitVec 64 := BitVec.ofNat 64 (2 ^ g)
    { s with gpioDriven := s.gpioDriven ||| m, gpio := if asserted then s.gpio &&& ~~~m else s.gpio ||| m }
  | none => s

/-- A sequence record of the slot's owner (R457). -/
def State.seqRec (s : State) (n skein kind info tslot : Nat) : State :=
  s.seqRecord (s.slotOwner n) skein n kind info tslot 0 0

/-- SKEIN_POWER as the sequence, containment or a bind-off issues it: it takes effect at the next skein step
(R314), at once on a skein whose job runs on no engine (log 22). -/
def State.powerLoad (s : State) (k op : Nat) : State :=
  if (s.sk k).engine.isNone && op ≠ 1 then (if s.skSt k = 5 then s else s.skSet k 0)
  else s.updSk k (fun x => { x with loads := x.loads ++ [(.power op, none)] })

/-- The highest time slot of a started skein. -/
def State.seqTop (s : State) (n : Nat) : Nat :=
  (s.railSkeins n).foldl (fun a k => if (s.rrun k).issued then Nat.max a (((s.railOf k).map (·.tslot)).getD 0) else a) 0

/-- A sequence starts (R441, R443). -/
def State.seqStart (s : State) (n : Nat) : State :=
  let s := (s.railSkeins n).foldl (fun s k => s.updRrun k (fun _ => {})) s
  let s := s.updSeq n (fun q => { q with t0 := s.ct, fail := false, failInfo := 0, releaseAt := none })
  let s := (s.setF (SEQ_STATE_state n) 1).setF (SEQ_STATE_tslot n) 0
  (s.rstOut n true).seqRec n 0xFFFF 1 0 0

/-- A sequence begins to stop at T1 = now (R442, R453). -/
def State.seqStop (s : State) (n : Nat) : State :=
  if s.seqSt n = 1 ∨ s.seqSt n = 2 then
    let top := s.seqTop n
    let s := s.updSeq n (fun q => { q with t0 := s.ct, tTop := top, releaseAt := none })
    let s := (s.railSkeins n).foldl (fun s k => s.updRrun k (fun r => { r with stopped := !r.issued || r.stopped })) s
    ((s.setF (SEQ_STATE_state n) 3).setF (SEQ_STATE_tslot n) top).rstOut n true
  else s

/-- A sequence latches with the skein that failed (R445, R449); SEQ_START_FAIL follows a failed start. -/
def State.seqLatch (s : State) (n : Nat) : State :=
  let s := (s.setF (SEQ_STATE_state n) 4).flag (SEQ_STATE_latch_seen n)
  let s := if (s.seq n).failInfo ≠ 0 then s.level .seqStartFail n true else s
  s.seqRec n (s.get (SEQ_STATE_fail_skein n)) 7 (s.seq n).failInfo 0

/-! ### Slots (R415 to R425) -/

def State.slSt (s : State) (n : Nat) : Nat := s.get (SLOT_STATE_state n)
def State.slSet (s : State) (n v reason : Nat) : State :=
  ((s.setF (SLOT_STATE_state n) v).setF (SLOT_STATE_reason n) reason).updSlot n (fun x => { x with
    stepAt := s.ct, cutAt := if v ≤ 1 then none else x.cutAt })

/-- A value the COMMAND cell of the slot worker carries has changed (R408). -/
def State.svcChange (s : State) (n : Nat) : State := s.updSlot n (fun x => { x with changed := true })
def State.gateSet (s : State) (n : Nat) (b : Bool) : State :=
  ((s.setB (SLOT_STATE_gate n) b).updSlot n (fun x => { x with gateSince := s.ct, risen := false })).svcChange n

/-- The detail of an EVENT cell: `v` with its lowest bit at cell bit `b` (R162). -/
def evAt (v b : Nat) : Nat := v * 2 ^ (b - 16)

/-- The input-failing warning (R425): the worker's bit, and EVENT 0x0200 with its reason and time from the owner. -/
def State.warnSlot (s : State) (n reason ms : Nat) : State :=
  ((s.setB (SLOT_STATE_warn n) true).svcChange n).when (s.ownsPort n) (fun s => s.emit
    (.event (.port (Fin.ofNat 64 n)) 0x0200 (evAt reason 184 + evAt ms 152)))
def State.unwarnSlot (s : State) (n : Nat) : State :=
  if s.is (SLOT_STATE_warn n) then
    let s := (s.setB (SLOT_STATE_warn n) false).svcChange n
    if s.slSt n = 3 && s.ownsPort n then s.emit (.event (.port (Fin.ofNat 64 n)) 0x0201 0) else s
  else s

/-- A completion of the SLOT_CTRL command in progress on a slot. -/
def State.slotDone (s : State) (n status info : Nat) : State :=
  match (s.slot n).ctrl with
  | some (mb, k, _) => (s.updSlot n (fun x => { x with ctrl := none })).finish mb k status info 0
  | none => s

/-- A SKEIN_POWER in flight ends (R295, R296, R315). Issuer 257 stands for the slot's sequence. -/
def State.powerDone (s : State) (k status info : Nat) : State :=
  match (s.sk k).powerCmd with
  | none => s
  | some (mb, sl, _) =>
    let s := s.updSk k (fun x => { x with powerCmd := none })
    if mb < 257 then s.finish mb sl status info 0
    else if status = 9 then
      -- R445: in starting, no further op 1; the sequence stops and will latch
      let n := (s.sk k).slot
      if s.seqSt n ≠ 1 then s else
      let s := s.updSeq n (fun q => { q with fail := true, failInfo := info })
      let s := s.setF (SEQ_STATE_fail_skein n) k
      let s := s.count (RAIL_CNT0_start_fail k)
      let s := (s.updRrun k (fun r => { r with cntChanged := true })).seqRec n k 3 info (((s.railOf k).map (·.tslot)).getD 0)
      (s.updRrun k (fun r => { r with stopped := true, offNoted := true })).seqStop n
    else
      let n := (s.sk k).slot
      (s.updRrun k (fun r => { r with good := true })).seqRec n k 2 0 (((s.railOf k).map (·.tslot)).getD 0)

/-- Loads that wait for a skein step take effect at once when the job leaves its engine (log 22). -/
def State.flushLoads (s : State) (k : Nat) : State :=
  let ls := (s.sk k).loads
  let s := s.updSk k (fun x => { x with loads := [] })
  ls.foldl (fun s l => (s.applyLoad k l.1).finishOpt l.2 0 0 0) s

/-- Step 3 of bind-off (R421): stitches unbound, jobs removed, queued cells removed. -/
def State.unbindSlot (s : State) (n : Nat) : State :=
  let gs := (s.stitches.filter (fun x => decide (x.1 / 128 = n) && x.2.skein.isSome)).map (·.1)
  let s := gs.foldl (fun s g => s.unbindStitch g) s
  let s := (s.updSlot n (fun x => { x with baseSet := false })).maskCells n (fun _ => true)
  (s.slotSkeins n).foldl (fun s k =>
    let s := s.gone .skeinStartFail k
    let s := s.powerDone k 9 6
    let s := (s.flushLoads k).moveJob k none false
    (s.updSk k (fun x => { x with
      acts := [], unplaced := false, wantStart := false, running := [], leads := [],
      job := { x.job with intents := [], kicks := [] } })).skSet k (if s.skSt k = 5 then 5 else 0)) s

/-- Step 4 of bind-off: the slot's epoch is 0 (R169); reliable delivery restarts (R158). -/
def State.epochZero (s : State) (n : Nat) : State :=
  let e := s.get (PORT_EPOCH_epoch n)
  let s := s.updPort n (fun x => { x with
    epochNext := none, rel := {}, lastEpoch := if e = 0 then x.lastEpoch else e })
  -- the epoch in force is kept in region 0 (R418, R630), with the last value taken (R169)
  (s.setF (PORT_EPOCH_epoch n) 0).setting (4096 * 14 + n) [0, (s.port n).lastEpoch]

/-- A SEQ_CTRL in progress on a slot completes. -/
def State.seqDone (s : State) (n status info : Nat) : State :=
  match (s.seq n).ctrl with
  | some (mb, k, _) => (s.updSeq n (fun q => { q with ctrl := none })).finish mb k status info 0
  | none => s

/-- A sequence whose skeins lost their stitches ends off, and with it a SEQ_CTRL that waits (R460); a latch stays (log 23). -/
def State.seqDead (s : State) (n : Nat) : State :=
  if s.seqSt n = 4 then s
  else
    let q := s.seq n
    let s := if q.fail then s.seqLatch n else s.setF (SEQ_STATE_state n) 0
    let s := (s.rstOut n true).updSeq n (fun q => { q with releaseAt := none, fail := false })
    match q.ctrl with
    | some (_, _, 0) => s.seqDone n 9 q.failInfo
    | _ => s.seqDone n 0 0

/-- A slot is fenced (R413, R415, R417, R422): gate 0 with warn 1, steps 3 and 4 of bind-off at the fence. Of
causes that meet in one cycle the lowest reason is held. -/
def State.fence (s : State) (n reason : Nat) : State :=
  let st := s.slSt n
  if st = 5 then
    if (s.slot n).stepAt = s.ct ∧ reason < s.get (SLOT_STATE_reason n) then s.setF (SLOT_STATE_reason n) reason else s
  else if st = 0 ∨ st = 1 then s
  else
    let s := (s.slSet n 5 reason).flag (SLOT_STATE_fence_seen n)
    let s := (s.gateSet n false).setB (SLOT_STATE_warn n) true
    let s := s.updSlot n (fun x => { x with
        step := 0, cutAt := none, toSleep := false, castWaitSent := false, leftAt := some s.ct })
    let s := ((s.unbindSlot n).epochZero n).seqDead n
    s.slotDone n 9 reason

/-- A full retrain of a port (R146): Detect, or Down when disabled. -/
def State.retrainPort (s : State) (p : Nat) : State :=
  let on := s.is (PORT_CTRL_en p)
  let s := s.count (PORT_CNT_RETRAIN_v p)
  let s := s.setF (PORT_STATUS_link_state p) (if on then 1 else 0)
  let s := (s.setF (PORT_STATUS_width p) 0).setF (PORT_STATUS_lanes_ok p) 0
  s.updPort p (fun x => { x with
    attempts := 0, flightOnly := true, retryAt := none, wchg := none, widerSince := none, rel := {}, echoes := [], sleepTrain := false,
    uncorr := [], granting := none, downSince := some (x.downSince.getD s.ct) })

/-! ### Coverage, claims and yields (R504, R509 to R513, R519) -/

/-- Whether a port counts for "every port": its slot has a cast-on in force (log 24). -/
def State.portInUse (s : State) (p : Nat) : Bool := s.is (PORT_EPOCH_epoch p)

/-- Coverage of a port (R504). The unit that does not own the port judges all three conditions; the owner
takes the shadow's step from the partner's standby state and its width from the reports of R31 (log 24). -/
def State.coverNow (s : State) (p : Nat) : Bool :=
  s.is PAIR_STATUS_link_up && s.pair.partner &&
  (if s.ownsPort p then
    decide (s.get PAIR_STATUS_partner_state = 3) && decide ((s.port p).pairWidth ≠ 0) &&
      decide ((s.port p).planWidth ≤ (s.port p).pairWidth ∨ s.get (PORT_STATUS_width p) ≤ (s.port p).pairWidth)
   else decide (s.get (PORT_STATUS_link_state p) = 3) && decide (s.get (SVC_STATUS_link_state p) = 2) &&
      decide ((s.port p).planWidth ≤ s.get (PORT_STATUS_width p)) && (s.slotSkeins p).all (fun k => (s.sk k).inStep && decide (16 ≤ (s.sk k).matched)))

/-- PAIR_COVER, covered_all and the time coverage has lasted (R524). -/
def State.cover (s : State) : State :=
  let s := (List.range 64).foldl (fun s p => s.setB (PAIR_COVER_bit p) (s.coverNow p)) s
  let all := s.is PAIR_STATUS_link_up && (List.range 64).all (fun p => !s.portInUse p || s.is (PAIR_COVER_bit p))
  let s := s.setB PAIR_STATUS_covered_all all
  s.updPair (fun x => { x with coveringSince := if all then some (x.coveringSince.getD s.ct) else none })

/-- A skein of a port the partner owns falls out of step (R502, R503): a state image is requested. -/
def State.outOfStep (s : State) (k : Nat) : State :=
  let was := (s.sk k).wantImage
  let s := s.updSk k (fun x => { x with inStep := false, matched := 0, waitDigest := none, wantImage := true })
  (if was then s else s.emit (.image k true)).cover

/-- An entry is compared with the unit's own digest of the same cycle (R502). -/
def State.compareDigest (s : State) (k : Nat) (own crc : Word) : State :=
  let s := s.count PAIR_CNT_DIGEST_v
  if own = crc then (s.updSk k (fun x => { x with matched := Nat.min 16 (x.matched + 1), waitDigest := none })).cover
  else (s.count PAIR_CNT_MISMATCH_v).outOfStep k

def State.pubDrbg (s : State) : State := s.setF SEC_STATUS_queue s.trust.queue.length

/-- What waits to complete the commands that `p` names by mailbox and slot forgets them (R57, R84). -/
def State.forgetWaits (s : State) (p : Nat → Nat → Bool) : State :=
  let two := fun (o : Option (Nat × Nat)) => o.filter (fun x => !p x.1 x.2)
  let three := fun (o : Option (Nat × Nat × Nat)) => o.filter (fun x => !p x.1 x.2.1)
  let s := { s with
    entering := s.entering.filter (fun x => !p x.1 x.2.1),
    posts := s.posts.filter (fun (x : MovePost) => !x.slot.any (fun (y : Nat × Nat) => p y.1 y.2)),
    skeins := s.skeins.map (fun (x : Nat × Skein) => (x.1, { x.2 with
      powerCmd := three x.2.powerCmd, moveFor := two x.2.moveFor,
      loads := x.2.loads.map (fun (l : Load × Option (Nat × Nat)) => (l.1, two l.2)) })),
    seqs := s.seqs.map (fun (x : Nat × Seq) => (x.1, { x.2 with ctrl := three x.2.ctrl })) }
  (s.updTrust (fun t => { t with queue := t.queue.filter (fun c => match c with
    | .random m k _ => !p m k
    | _ => true) })).pubDrbg

/-- Commands of a port that this unit mirrored leave it with the port: the new owner completes them (R57, R518). -/
def State.dropMirrored (s : State) (p : Nat) : State :=
  let gone := (s.slots.filter (fun x => decide (x.2.phase ≠ .free ∧ x.2.viaPort = some p) && x.2.mirrored)).map (·.1)
  let s := s.forgetWaits (fun mb k => gone.contains (64 * mb + k))
  gone.foldl (fun (s : State) (i : Nat) =>
    let s := s.updSlotC i (fun x => { x with
      phase := .free, orderedAfter := none, viaPort := none, mirrored := false,
      gen := (x.gen + 1) % 2 ^ 18, left := ((x.gen, s.ct) :: x.left).filter (fun g => decide (s.ct < g.2 + sec 1)) })
    (s.updMbx (i / 64) (fun m => { m with
      order := m.order.filter (fun j => decide (j ≠ i % 64)), cqWait := m.cqWait.filter (fun c => decide (c.slot ≠ i % 64)) })).setB
      (VI_SLOT_BUSY_bit (i / 64) (i % 64)) false) s

/-- Segments of commands not yet submitted are discarded at a change of port owner (R57). -/
def State.dropSegs (s : State) (p : Nat) : State :=
  let vs := (List.range 4).filterMap (fun f => s.mapped p f)
  { s with slots := s.slots.map (fun (x : Nat × CmdSlot) => if vs.contains (x.1 / 64) then (x.1, { x.2 with segs := [] }) else x) }

/-- The unit's owner view of a port (R338, R511): PAIR_OWN, PORT_EPOCH.owner and the arbiter's suppression. -/
def State.setOwn (s : State) (p : Nat) (b : Bool) : State :=
  let s := if s.ownsPort p = b then s else (s.dropSegs p).when (!b) (fun s => s.dropMirrored p)
  let s := s.setB (PAIR_OWN_bit p) b
  let s := s.setF (PORT_EPOCH_owner p) (if b then s.pos else 1 - s.pos)
  s.setB (ARB_STATUS_suppress p) (!b)

/-- Cells of the claim buffer whose deadline has not passed join the queue (R512). -/
def State.requeue (s : State) (p : Nat) : State :=
  let x := s.port p
  let new := x.claimBuf.filter (fun c => decide (s.ct ≤ c.deadline) &&
    !x.queue.any (fun d => decide (d.stitch = c.stitch ∧ d.cycle = c.cycle)))
  let room := 64 - x.queue.length
  (s.updPort p (fun x => { x with queue := x.queue ++ new.take room })).pubArb p

def State.lastClaim (s : State) (t : Nat) : State := s.setPair aPAIR_LAST_LO aPAIR_LAST_HI t

/-- A claim of a port and its service lane (R509, R512); effect time 0 means on receipt. -/
def State.claimPort (s : State) (p effectAt : Nat) : State :=
  let term := (s.get (PAIR_TERM_term p) + 1) % 65536
  let s := (s.setF (PAIR_TERM_term p) term).setB (PAIR_TERM_claim_pending p) true
  let detail := evAt s.pos 191 + evAt term 175 + evAt effectAt 111
  let s := s.updPort p (fun x => { x with claim := some (term, effectAt), namedOther := 0 })
  let s := s.emit (.event (.port (Fin.ofNat 64 p)) 0x0400 detail)
  let s := s.emit (.event (.svc (Fin.ofNat 64 p)) 0x0400 detail)
  let s := s.emit (.claimRec (.claim (Fin.ofNat 64 p) (BitVec.ofNat 16 term) effectAt))
  let s := (s.count PAIR_CNT_CLAIM_v).lastClaim (if effectAt = 0 then s.ct else effectAt)
  if effectAt = 0 then
    let s := s.countN PAIR_CNT_OOS_CLAIM_v ((s.slotSkeins p).filter (fun k => !(s.sk k).inStep)).length
    (s.setOwn p true).requeue p
  else s

/-- The owner yields a slot to the partner (R519). -/
def State.yieldSlot (s : State) (n : Nat) : State :=
  (s.emit (.claimRec (.yield (Fin.ofNat 64 n)))).setOwn n false

/-- Coverage of a slot the unit owns, for rung 2 and R519. -/
def State.canYield (s : State) (n : Nat) : Bool := s.ownsPort n && s.is (PAIR_COVER_bit n)

/-- A transit is set for T_x (R521). -/
def State.startTransit (s : State) (tx : Nat) : State :=
  let s := s.updPair (fun x => { x with transitAt := some tx })
  ((s.setB PAIR_STATUS_transit_pending true).emit (.transitRec tx))

/-- Whether a transit may start (R521): the partner standby and covering, hold-up not exhausted, none pending. -/
def State.transitOk (s : State) : Bool :=
  s.active && s.partnerReady && decide (s.get HU_STATUS_state ≠ 3) && s.pair.transitAt.isNone

/-- Commands whose entry awaits the partner no more complete (R73). -/
def State.enterDone (s : State) : State :=
  let l := s.entering.filter (fun x => !s.entryOpen x.2.2)
  if l.isEmpty then s else
  l.foldl (fun (s : State) (x : Nat × Nat × Nat) => s.finish x.1 x.2.1 1 0 x.2.2)
    { s with entering := s.entering.filter (fun x => s.entryOpen x.2.2) }

/-! ### Chassis shutdown (R450) -/

/-- Slots whose sequence is off take steps 3 and 4 of bind-off and become present; the last one ends the
shutdown. -/
def State.shutdownSweep (s : State) : State :=
  if s.get CHASSIS_PWR_state ≠ 1 then s else
  let s := (List.range 64).foldl (fun s n =>
    let st := s.slSt n
    if (st = 2 ∨ st = 3 ∨ st = 4 ∨ st = 6) ∧ (s.seqSt n = 0 ∨ s.seqSt n = 4) then
      let s := (s.unbindSlot n).epochZero n
      let s := ((s.gateSet n false).slSet n 1 0).updSlot n (fun x => { x with step := 0 })
      s.slotDone n 9 0
    else s) s
  if (List.range 64).all (fun n => decide (s.slSt n ≠ 2 ∧ s.slSt n ≠ 3 ∧ s.slSt n ≠ 4 ∧ s.slSt n ≠ 6)) then
    s.setF CHASSIS_PWR_state 2
  else s

/-- A chassis shutdown starts: every starting or up sequence stops at once under R442. -/
def State.chassisShutdown (s : State) : State :=
  if s.get CHASSIS_PWR_state ≠ 0 then s else
  let s := s.setF CHASSIS_PWR_state 1
  let s := (List.range 64).foldl (fun s n => s.seqStop n) s
  s.shutdownSweep

end Sys2Proof.Machine
end

