-- ==== Sys2Proof/Machine/Operands.lean ====
section
/-! DEFINITION. The operand forms of the mailbox commands: payload fields, the command index (R663, R664), the
start of a command (R69, R75, R76, R78), its checks in order (R645, R646) and its timed form (R71 to R73, R655). -/
namespace Sys2Proof.Machine

/-! ### Payload fields (R8, R641) -/

def u8 (p : List Byte) (i : Nat) : Nat := (p.getD i 0).toNat
def u16 (p : List Byte) (i : Nat) : Nat := leVal ((p.drop i).take 2)
def u32 (p : List Byte) (i : Nat) : Nat := leVal ((p.drop i).take 4)
def u64 (p : List Byte) (i : Nat) : Nat := leVal ((p.drop i).take 8)
def i16 (p : List Byte) (i : Nat) : Int := fromField 16 (u16 p i)
def i32 (p : List Byte) (i : Nat) : Int := fromField 32 (u32 p i)

/-- A reserved field of bytes a to b - 1 is not 0 (R10): the offset it is reported at, and whether it fails. -/
def resv (p : List Byte) (a b : Nat) : Nat × Bool := (a, ((p.drop a).take (b - a)).any (· ≠ 0))
/-- The interface level in force: the pin, else the highest the image serves (R89). -/
def State.level_ (s : State) : Nat := if s.trust.pinned = 0 then s.trust.ifMax else s.trust.pinned
/-- Whether the image serves the pinned level in force (R615). -/
def State.pinServed (s : State) : Bool :=
  decide (s.trust.pinned = 0 ∨ (s.trust.ifMin ≤ s.trust.pinned ∧ s.trust.pinned ≤ s.trust.ifMax))

/-- Erased flash reads 0xFF. -/
def flashBlank : Byte := 0xFF
def State.flash (s : State) (d : Nat) : List Host.Cell := if d = 0 then s.flash0 else s.flash1
def State.flashRead (s : State) (d a n : Nat) : List Byte := Mem.readBytes flashBlank (s.flash d) a n
/-- A pattern bank of a device (R591). -/
def bankBytes : Nat := 8388608
def bankBase (b : Nat) : Nat := 0x2000000 + bankBytes * b

/-- A field of `n` bytes, or a value above 0, introduced at level `l` is not 0 on a unit at a lower level (R664). -/
def State.fromLevel (s : State) (l : Nat) (p : List Byte) (a n : Nat) : Nat × Bool :=
  (a, decide (s.level_ < l) && ((p.drop a).take n).any (· ≠ 0))
/-- A value at offset `a` outside lo to hi. -/
def outside (a v lo hi : Nat) : Nat × Bool := (a, decide (v < lo ∨ hi < v))

/-! ### Command index (R663, R664) -/

inductive Scope where
  | p | u | l | r
  deriving DecidableEq, Repr

/-- A row of *Command index*: opcode, control class, AF only, scope, timed allowed, cost, level. -/
structure CmdInfo where
  op : Nat
  control : Bool
  af : Bool
  scope : Scope
  timed : Bool
  cost : Nat
  level : Nat
  deriving DecidableEq, Repr

def cmdIndex1 : List CmdInfo :=
  [⟨0x0000, false, false, .l, false, 1, 1⟩, ⟨0x0101, false, false, .l, false, 2, 1⟩, ⟨0x0102, false, false, .l, false, 2, 1⟩,
   ⟨0x0104, false, true, .l, false, 8, 1⟩, ⟨0x0110, false, true, .u, false, 32, 1⟩, ⟨0x0111, false, true, .u, false, 32, 1⟩,
   ⟨0x0112, false, true, .u, false, 4, 1⟩, ⟨0x0113, false, true, .p, false, 8, 3⟩, ⟨0x0120, false, true, .u, false, 16, 1⟩,
   ⟨0x0121, false, true, .u, false, 64, 1⟩, ⟨0x0310, false, false, .p, false, 8, 2⟩, ⟨0x0311, false, false, .p, false, 2, 2⟩,
   ⟨0x0312, false, false, .r, false, 2, 2⟩, ⟨0x0410, false, false, .p, true, 4, 1⟩, ⟨0x0411, false, false, .p, true, 8, 1⟩,
   ⟨0x0412, true, false, .p, true, 0, 1⟩, ⟨0x0413, false, false, .p, true, 8, 3⟩, ⟨0x0414, false, false, .r, false, 2, 1⟩,
   ⟨0x0415, false, false, .p, false, 4, 1⟩, ⟨0x0421, false, false, .p, true, 8, 1⟩, ⟨0x0422, false, false, .p, true, 8, 1⟩,
   ⟨0x0423, false, false, .p, true, 8, 1⟩, ⟨0x0501, false, false, .r, false, 2, 1⟩, ⟨0x0502, false, false, .p, false, 4, 1⟩,
   ⟨0x0530, true, false, .p, false, 0, 2⟩, ⟨0x0541, false, false, .r, false, 4, 1⟩, ⟨0x0601, false, false, .p, false, 4, 1⟩,
   ⟨0x0602, false, false, .r, false, 16, 1⟩, ⟨0x0604, false, false, .r, false, 2, 1⟩, ⟨0x0605, false, true, .p, false, 16, 3⟩,
   ⟨0x0606, false, true, .l, false, 16, 1⟩]

def cmdIndex2 : List CmdInfo :=
  [⟨0x0701, false, false, .r, false, 2, 1⟩, ⟨0x0702, false, false, .l, false, 2, 1⟩, ⟨0x0703, false, true, .u, false, 4, 1⟩,
   ⟨0x0704, false, true, .l, false, 8, 3⟩, ⟨0x0705, false, false, .r, false, 16, 1⟩, ⟨0x0801, false, false, .r, false, 2, 1⟩,
   ⟨0x0802, false, true, .u, false, 16, 1⟩, ⟨0x0810, false, true, .u, false, 8, 1⟩, ⟨0x0811, false, false, .p, true, 8, 2⟩,
   ⟨0x0820, false, false, .r, false, 2, 1⟩, ⟨0x0901, false, false, .r, false, 2, 1⟩, ⟨0x0902, false, true, .u, false, 8, 1⟩,
   ⟨0x0910, false, false, .r, false, 2, 1⟩, ⟨0x0911, false, true, .u, false, 16, 1⟩, ⟨0x0A01, false, false, .r, false, 16, 1⟩,
   ⟨0x0A02, false, false, .r, false, 16, 1⟩, ⟨0x0A03, false, false, .l, false, 8, 2⟩, ⟨0x0A04, false, true, .l, false, 4, 1⟩,
   ⟨0x0B01, false, false, .r, false, 2, 1⟩, ⟨0x0B02, false, true, .u, false, 16, 1⟩, ⟨0x0B03, false, true, .u, false, 8, 1⟩]

def cmdIndex3 : List CmdInfo :=
  [⟨0x0C01, false, true, .p, false, 16, 1⟩, ⟨0x0C02, false, false, .r, false, 2, 1⟩, ⟨0x0C03, false, true, .p, true, 8, 1⟩,
   ⟨0x0C10, true, false, .u, false, 0, 1⟩, ⟨0x0C11, false, true, .u, true, 8, 1⟩, ⟨0x0C12, false, false, .r, false, 2, 1⟩,
   ⟨0x0C13, false, true, .u, true, 4, 1⟩, ⟨0x0D01, false, false, .p, false, 8, 1⟩, ⟨0x0D02, false, true, .p, false, 8, 1⟩,
   ⟨0x0D03, false, false, .p, false, 8, 1⟩, ⟨0x0D04, false, false, .r, false, 2, 1⟩, ⟨0x0D05, false, false, .r, false, 16, 1⟩,
   ⟨0x0E01, false, true, .l, false, 16, 1⟩, ⟨0x0E10, false, false, .r, false, 2, 1⟩, ⟨0x0F01, false, false, .r, false, 2, 1⟩,
   ⟨0x0F02, false, true, .l, false, 16, 1⟩, ⟨0x0F03, false, true, .l, false, 64, 1⟩, ⟨0x0F04, false, true, .u, false, 16, 1⟩,
   ⟨0x0F05, false, true, .l, false, 8, 1⟩, ⟨0x0F06, false, true, .u, false, 4, 1⟩, ⟨0x0F10, false, false, .l, false, 4, 3⟩,
   ⟨0x0F11, false, false, .r, false, 2, 1⟩, ⟨0x0F20, false, true, .u, false, 16, 2⟩, ⟨0x0F21, false, true, .u, false, 32, 2⟩]

def cmdInfo (op : Nat) : Option CmdInfo :=
  (cmdIndex1 ++ cmdIndex2 ++ cmdIndex3).find? (fun (c : CmdInfo) => decide (c.op = op))

/-! ### Start of a command -/

/-- The busy slots submitted before slot `k`. -/
def earlier (k : Nat) : List Nat → List Nat
  | [] => []
  | x :: t => if x = k then [] else x :: earlier k t

/-- Whether fences or order hold the command in a slot (R69, R648). -/
def State.heldBack (s : State) (mb k : Nat) : Bool :=
  let c := s.slotC (slotKey mb k)
  let pre := earlier k (s.mbx mb).order
  (flagBit c 0 && !pre.isEmpty) || pre.any (fun j => flagBit (s.slotC (slotKey mb j)) 1) ||
    (flagBit c 2 && pre.any (fun j => decide (c.orderedAfter = some (s.slotC (slotKey mb j)).sub)))

/-- Whether an opcode is control class (R74); every other is bulk class. -/
def isControl (op : Nat) : Bool := (cmdInfo op).any (·.control)
def costOf (op : Nat) : Nat := ((cmdInfo op).map (·.cost)).getD 0

/-- Bulk commands started across all mailboxes (R80). -/
def State.inFlight (s : State) : Nat :=
  (s.slots.filter (fun x => decide (x.2.phase = .started) && !isControl x.2.opcode)).length

/-- A command of *Command index* of a class that waits for nothing but its turn (R60, R69, R76). -/
def State.mayStart (s : State) (control : Bool) (mb k : Nat) : Bool :=
  let c := s.slotC (slotKey mb k)
  decide (c.phase = .waiting) && s.assigned mb && !s.heldBack mb k && !s.ringFull mb && (s.mbx mb).cqWait.isEmpty &&
    (cmdInfo c.opcode).any (fun i => i.control == control) && (!control || decide ((s.mbx mb).tokens ≠ 0))

/-- The participants with a command of a class that could start (R75, R78). -/
def State.ready (s : State) (control : Bool) : List Nat :=
  (s.mbxs.filter (fun x => x.2.order.any (s.mayStart control x.1))).map (·.1)

/-- How far participant `p` stands behind participant `t` in the round of the 256 VIs and the AF (R75). -/
def turnsFrom (t p : Nat) : Nat := (p + 256 - t) % 257

/-- Whether the participant that bulk dispatch serves has a command that its deficit covers (R78). -/
def State.turnHeld (s : State) : Bool :=
  (s.mbx s.bulkTurn).order.any (fun j => s.mayStart false s.bulkTurn j &&
    decide (costOf (s.slotC (slotKey s.bulkTurn j)).opcode ≤ (s.mbx s.bulkTurn).deficit))

/-- Whether a command of cost `cost` of a participant is the one bulk dispatch serves next (R78, R79): of the participant
whose turn it is while its deficit covers a command of it, else of the next participant with bulk work in the round. -/
def State.bulkServed (s : State) (mb cost : Nat) : Bool :=
  if s.turnHeld then decide (mb = s.bulkTurn ∧ cost ≤ (s.mbx mb).deficit)
  else (s.ready false).all (fun q => decide (turnsFrom s.bulkTurn mb ≤ turnsFrom s.bulkTurn q))

/-- Whether it is a command's turn: control-class commands one of each participant in a round, before every bulk command
(R75); bulk commands by deficit round robin (R78). -/
def State.served (s : State) (mb : Nat) (i : CmdInfo) : Bool :=
  if i.control then (s.ready true).all (fun q => decide (turnsFrom s.ctrlTurn mb ≤ turnsFrom s.ctrlTurn q))
  else (s.ready true).isEmpty && s.bulkServed mb i.cost

/-- A mailbox has bulk work waiting but for the command in slot `k` (R78). -/
def State.moreBulk (s : State) (mb k : Nat) : Bool :=
  (s.mbx mb).order.any (fun j => decide (j ≠ k) && decide ((s.slotC (slotKey mb j)).phase = .waiting) &&
    !isControl (s.slotC (slotKey mb j)).opcode)

/-- The command in slot `k` starts at its turn: its phase, its token (R76) or its cost (R78, R660). The refill of a full
bucket counts from the token taken (DESIGN CHOICE, log 154). Of a command that cannot start yet, the answer is none: it
waits, with cq_full or ctrl_throttled set where R60 and R76 say so. -/
def State.begin (s : State) (mb k op : Nat) : State × Option CmdSlot :=
  let c := s.slotC (slotKey mb k)
  if c.phase ≠ .waiting ∨ c.opcode ≠ op ∨ !s.assigned mb ∨ s.heldBack mb k then (s, none)
  else if s.ringFull mb || !(s.mbx mb).cqWait.isEmpty then (s.flag (VI_STATUS_cq_full mb), none)
  else
    let start := fun (s : State) => s.updSlotC (slotKey mb k) (fun x => { x with phase := .started })
    match cmdInfo op with
    | some i =>
      if i.control then
        if (s.mbx mb).tokens = 0 then
          (s.flag (VI_STATUS_ctrl_throttled mb), none)
        else if !s.served mb i then (s, none)
        else (start ({ s with ctrlTurn := mb }.updMbx mb (fun m => { m with
          tokens := m.tokens - 1, tokenAt := if m.tokens = 4 then s.ct else m.tokenAt })), some c)
      else if 1024 ≤ s.inFlight || !s.served mb i then (s, none)
      else
        let quantum := if s.turnHeld then 0 else 64
        (start ({ s with bulkTurn := mb }.updMbx mb (fun m => { m with
          deficit := if s.moreBulk mb k then m.deficit + quantum - i.cost else 0 })), some c)
    | none => (start s, some c)

/-! ### Submission (R64 to R70, R676) -/

/-- A mailbox that takes submissions: open since R638, of an assigned VI or the AF (R706), on a unit that runs. -/
def State.mailboxOpen (s : State) (mb : Nat) : Bool :=
  s.rst.mbxOpen && !s.rst.held && decide (s.unit ≠ 0) && s.assigned mb

/-- Submitted commands take the mailbox's next numbers in turn, and each ordered one follows the last (R69). -/
def State.numberSubs (s : State) (mb : Nat) (l : List Nat) : State :=
  l.foldl (fun (s : State) (j : Nat) =>
    let m := s.mbx mb
    (s.updSlotC (slotKey mb j) (fun x => { x with sub := m.subs + 1, orderedAfter := m.lastOrdered })).updMbx mb (fun x => { x with
      subs := x.subs + 1, lastOrdered := if flagBit (s.slotC (slotKey mb j)) 2 then some (m.subs + 1) else x.lastOrdered })) s

/-- The commands of the end of an order that MGMT cells submitted in this cycle: a PCIe doorbell of the cycle comes before
them (R50). -/
def State.mgmtTail (s : State) (mb : Nat) (order : List Nat) : List Nat :=
  (order.reverse.takeWhile (fun j =>
    let c := s.slotC (slotKey mb j)
    decide (c.phase = .waiting ∧ c.acceptedAt = s.ct) && c.viaPort.isSome)).reverse

/-- A slot is accepted with the bytes that reached the ML8192 before its doorbell: it is busy and takes its place in the
order. A handle of another slot or generation is stale (R66); a generation that would return within 1 s is
busy (R68). -/
def State.submit (s : State) (mb k : Nat) (bytes : List Byte) (via : Option Nat) : State :=
  let order := (s.mbx mb).order
  let tail := if via.isSome then [] else s.mgmtTail mb order
  let head := order.take (order.length - tail.length)
  -- a mailbox that gains bulk work had no deficit (R78)
  let s := if s.moreBulk mb 64 then s else s.updMbx mb (fun m => { m with deficit := 0 })
  let s := s.updSlotC (slotKey mb k) (fun x => { x with
    phase := .waiting, bytes := bytes, acceptedAt := s.ct, viaPort := via })
  let s : State := match tail with
    | j :: _ => s.updMbx mb (fun m => { m with
        subs := (s.slotC (slotKey mb j)).sub - 1, lastOrdered := (s.slotC (slotKey mb j)).orderedAfter })
    | [] => s
  let s := s.numberSubs mb (k :: tail)
  let s := (s.updMbx mb (fun m => { m with order := head ++ k :: tail })).setB (VI_SLOT_BUSY_bit mb k) true
  let c := s.slotC (slotKey mb k)
  let h := c.handle
  if h % 2 ^ 18 ≠ c.gen ∨ h / 2 ^ 18 % 64 ≠ k ∨ h / 2 ^ 24 ≠ mb % 256 then s.finish mb k 5 0xFFFF 0
  else if c.left.any (fun g => decide (g.1 = (c.gen + 1) % 2 ^ 18 ∧ s.ct < g.2 + sec 1)) then s.finish mb k 2 1 0
  else s

/-! ### Checks 3 to 8 (R645) -/

/-- What a command's payload chapter adds to the checks: rights beyond AF (4), failing fields (6), the ports of
scope P (7) and a resource not free (8). -/
structure Checks where
  denied : Bool := false
  bad : List (Nat × Bool) := []
  ports : List Nat := []
  busy : Option Nat := none
  notOwner : Bool := false

/-- The lowest failing offset. -/
def lowestBad (l : List (Nat × Bool)) : Option Nat :=
  (l.filter (·.2)).foldl (fun a x => match a with
    | none => some x.1
    | some o => some (Nat.min o x.1)) none

/-- The effect time of R71: the value within 2^47 of now whose bits [47:0] are `e`. -/
def effectTime (now e : Nat) : Nat :=
  let d := fromField 48 ((e + 2 ^ 48 - now % 2 ^ 48) % 2 ^ 48)
  ((now : Int) + d).toNat

/-- Reserved header flags: bits 15 to 5, and timed below level 2 (R664). -/
def flagsBad (lvl : Nat) (c : CmdSlot) : Bool := decide (32 ≤ c.flags) || (decide (lvl < 2) && flagBit c 3)

/-- The status and info of the first of checks 3 to 8 that fails. -/
def State.check (s : State) (mb : Nat) (i : CmdInfo) (c : CmdSlot) (x : Checks) : Option (Nat × Nat) :=
  let timed := flagBit c 3
  if s.level_ < i.level then some (4, 0xFFFE)
  else if (i.af && decide (mb ≠ afMb)) || x.denied then some (3, 0)
  else if decide (240 < c.length) || flagsBad s.level_ c || (timed && !i.timed) ||
      (!timed && decide (c.effectAt ≠ 0)) || (timed && decide (effectTime s.ct c.effectAt < s.ct + us 10)) then some (4, 0xFFFE)
  else match lowestBad x.bad with
    | some o => some (4, o)
    | none =>
      -- from T_x the outgoing unit of a transit has lost the role (R522)
      if x.notOwner || (decide (i.scope = .u) && (!s.active || s.pair.transitMid && !s.pair.transitIn)) ||
          (decide (i.scope = .p) && x.ports.any (fun p => !s.ownsPort p)) then some (7, 0)
      else x.busy.map (fun b => (2, b))

/-- The cycle the next skein step computes. -/
def State.nextCycle (s : State) (k : Nat) : Nat := ((s.sk k).stepped + 1 + (s.sk k).delay) % 65536

/-- Commands of a skein that both units apply at one cycle (R280, R500). -/
def skeinOp (op : Nat) : Bool :=
  op = 0x410 || op = 0x411 || op = 0x412 || op = 0x413 || op = 0x421 || op = 0x422 || op = 0x423

/-- The effect message of an accepted command: a skein's names the cycle its next step computes (R500). -/
def State.effectOf (s : State) (mb op : Nat) (p : List Byte) : Effect :=
  if skeinOp op then .skeinCommand (Fin.ofNat 257 mb) op p (s.nextCycle (u16 p 0)) else .command (Fin.ofNat 257 mb) op p

/-- A command runs: it starts, is checked, and has its effect, or is entered in the ephemeris when timed. -/
def State.command (s : State) (mb k op : Nat) (chk : State → List Byte → Checks) (eff : State → List Byte → State) : State :=
  match s.begin mb k op with
  | (s, none) => s
  | (s, some c) =>
    let p := c.payload
    match cmdInfo op with
    | none => s.finish mb k 4 0xFFFE 0
    | some i =>
      match s.check mb i c (chk s p) with
      | some (st, info) => s.finish mb k st info 0
      | none =>
        -- every slot is encrypted with its holder's key (R81): without it the command has no effect (R602)
        if s.trust.keyBad.contains mb then s.finish mb k 9 1 0 else
        let both := decide (i.scope = .p ∨ i.scope = .u)
        if flagBit c 3 then
          match s.ephNew mb (.time (effectTime s.ct c.effectAt)) [.command op p] false none with
          | (s, some n) => (s.when both (fun s => s.mirror (.ephPost (Fin.ofNat 257 mb) n c.bytes))).entered mb k n
          | (s, none) => s.finish mb k 2 3 0
        -- ephemeris posts and cancels and intents have effect messages of their own (R500)
        else eff (s.when (both && decide (op ≠ 0x310 ∧ op ≠ 0x311 ∧ op ≠ 0x530)) (fun s => s.mirror (s.effectOf mb op p))) p

/-- Success. -/
def State.okay (s : State) (mb k : Nat) : State := s.finish mb k 0 0 0

/-! ### Objects a payload names (R46) -/

def State.skeinBad (s : State) (mb k : Nat) : Bool := !(s.sk k).known || (mb ≠ afMb && s.skOwner k ≠ mb)
def State.stitchBad (s : State) (mb g : Nat) : Bool :=
  decide (8192 ≤ g) || !(s.slotSkeins (g / 128)).any (fun k => (s.sk k).stitches.contains (g % 128)) ||
    (mb ≠ afMb && s.stOwner g ≠ mb)
def State.slotBad (s : State) (mb n : Nat) : Bool := decide (64 ≤ n) || (mb ≠ afMb && s.slotOwner n ≠ mb)

end Sys2Proof.Machine
end

