-- ==== Sys2Proof/Machine/ResetOps.lean ====
section
/-! DEFINITION. Resets, dormant, own failure and safe stop (R508, R537, R538, R619 to R624). -/
namespace Sys2Proof.Machine

/-- A record written whole to each die that is not lost (R553, R554): what a unit that stops still completes. -/
def State.nvDirect (s : State) (region index holder : Nat) (data : NvData) : State :=
  let sq := Tbl.get s.nv.seqs region 0
  let c : NvCopy := { seq := sq, holder := holder, keyGen := s.keyGenOf holder, data := data }
  let s := s.updNv (fun n => { n with seqs := Tbl.put n.seqs region ((sq + 1) % 2 ^ 32) })
  let s := if s.is NV_STATUS_nv0_lost then s else s.updNv (fun n => { n with die0 := Tbl.put n.die0 (nvKey region index) c })
  if s.is NV_STATUS_nv1_lost then s else s.updNv (fun n => { n with die1 := Tbl.put n.die1 (nvKey region index) c })

/-- The unit's last-fault record, complete before the unit stops (R568): of a rung 4, with the instance that climbed. -/
def State.unitRecordNow (s : State) (cause : Nat) (x : Option Inst := none) : State :=
  s.nvDirect 4 6720 afMb (match x with
    | some y => .last y.raisedAt 2 y.kind.code y.inst y.die (y.cls + 4 * 4 + 32 * y.injected.toNat) 0 0 (s.unitSnap cause) 0
    | none => .last s.ct 2 0 0 4 0 0 0 (s.unitSnap cause) 0)

/-! ### A write in progress at a supply loss (R553, R556, R557, R559, R569) -/

def State.nvLost (s : State) (die : Nat) : Bool := if die = 0 then s.is NV_STATUS_nv0_lost else s.is NV_STATUS_nv1_lost

/-- The key that a good wrapped copy gives back: of NV0, else of NV1 (R602). -/
def State.wrapped (s : State) (h : Nat) : Option Nat :=
  match s.nvLost 0, (s.mbx h).wrap0 with
  | false, some n => some n
  | _, _ => if s.nvLost 1 then none else (s.mbx h).wrap1

def State.nvPut (s : State) (die key : Nat) (c : NvCopy) : State :=
  s.updNv (fun n => if die = 0 then { n with die0 := Tbl.put n.die0 key c } else { n with die1 := Tbl.put n.die1 key c })

/-- A copy reaches a die; a good copy of a setting is the value the next start reads (R629). -/
def State.nvStore (s : State) (die : Nat) (w : NvWrite) (torn : Bool) : State :=
  let s := s.nvPut die (nvKey w.region w.index) { w.copy with torn := torn }
  match w.copy.data, torn with
  | .setting key vals, false => s.updNv (fun n => { n with settings := Tbl.put n.settings key vals })
  | _, _ => s

/-- The tag of a record is written: an old copy under another key no longer decrypts. -/
def State.nvTag (s : State) (die : Nat) (w : NvWrite) : State :=
  let key := nvKey w.region w.index
  match if die = 0 then Tbl.find? s.nv.die0 key else Tbl.find? s.nv.die1 key with
  | some c => if w.region = 0 ∨ s.nvLost die ∨ (c.holder = w.copy.holder ∧ c.keyGen = w.copy.keyGen) then s
      else s.nvPut die key { c with holder := w.copy.holder, keyGen := w.copy.keyGen, torn := true }
  | none => s

/-- The granules of a record. -/
def granules (region : Nat) : Nat := if region = 4 ∨ region = 5 then 28 else 4

/-- The write in progress stops where the supply leaves it: earlier granules and the one in progress are new, later ones
old, and a mixture is torn. What was done is free. -/
def State.nvCut (s : State) : State :=
  match s.nv.queue.head? with
  | none => s
  | some w =>
    if !w.started then s else
    let die := if w.die = 0 ∧ s.nvLost 0 then 1 else w.die
    let n := granules w.region
    let at_ := if w.die = 0 then Config.lossStage s.fresh % (n + 3) else Config.lossStage s.fresh % (n + 1) + 2
    let g := at_ - 2
    let broken := s.raised .holdupDie 7 && Config.lossBroken s.fresh
    let s1 := if 1 ≤ at_ then s.nvTag 0 w else s
    let s1 := if 2 ≤ at_ then s1.nvTag 1 w else s1
    let s1 : State :=
      if g = 0 then s1
      else if g = n ∧ !broken then s1.nvStore die w false
      else s1.nvPut die (nvKey w.region w.index) { w.copy with torn := true, uncorr := broken && Config.lossReported s.fresh }
    s1

/-- The write in progress completes on the dies it still has to reach. -/
def State.nvFinish (s : State) : State :=
  match s.nv.queue.head? with
  | none => s
  | some w =>
    if !w.started then s else
    let s := if w.die = 0 ∧ !s.nvLost 0 then s.nvStore 0 w false else s
    if s.nvLost 1 then s else s.nvStore 1 w false

/-- What the recorder still does when a supply fails: the unit record where the supervisor leaves the time for it. -/
def State.nvSupplyLoss (s : State) : State :=
  { s with fresh := s.fresh + 1, nv := (if Config.recordFits s.fresh then s.nvFinish.unitRecordNow 3 else s.nvCut).nv }

/-- The registers that a cold start or a restart keeps (R620): TW_CTRL and TW_TADDR. -/
def keptReg (a : Nat) : Bool :=
  (List.range 8).any (fun t => decide (a = aTW_CTRL t ∨ a = aTW_TADDR t))

/-- The state after a reset (R619, R620, R637): die A and the quadrant dies at their reset values; MRAM and flash
kept; VI assignments, generations and keys kept; the always-on domain kept unless `powerOn`. -/
def State.afterReset (s : State) (kind cause : Nat) (powerOn holdGpio : Bool) : State :=
  let z := State.reset
  let z := { z with
    pending := s.pending, ct := s.ct, out := s.out, hdrs := s.hdrs, fresh := s.fresh, flash0 := s.flash0, flash1 := s.flash1,
    viMap := s.viMap, viMapNext := s.viMapNext, pattern := s.pattern,
    regs := if powerOn then [] else s.regs.filter (fun x => keptReg x.1),
    nv := { die0 := s.nv.die0, die1 := s.nv.die1, seqs := s.nv.seqs, settings := s.nv.settings } }
  let z := { z with
    gpio := if holdGpio then s.gpio else 0, gpioDriven := if holdGpio then s.gpioDriven else 0,
    faults := { z.faults with safeStops := if powerOn then [] else s.faults.safeStops },
    trust := { s.trust with queue := [], planAt := none, planStep := 0, retestAt := none, failing := [], instAt := none, keyBad := if powerOn then [] else s.trust.keyBad, hubMask := 0, hubLeft := [], wbank := none },
    rst := { z.rst with
      storedCt := if powerOn then none else s.rst.storedCt, slow := if powerOn then 0 else s.rst.slow,
      dormantWhy := if powerOn then 0 else s.rst.dormantWhy, supplyGood := s.rst.supplyGood,
      sref := s.rst.sref, bootCause := if powerOn then 0 else s.rst.bootCause,
      held := true, thermDormant := s.rst.thermDormant } }
  -- the key store is in the always-on domain; without that a key comes back from a good wrapped copy (R603, R637)
  let z := s.mbxs.foldl (fun z x =>
    let key := if powerOn then s.wrapped x.1 else x.2.key
    let z := z.updMbx x.1 (fun m => { m with
      keyGen := if key.isSome then x.2.keyGen else none, key := key, wrap0 := x.2.wrap0, wrap1 := x.2.wrap1,
      keyCount := x.2.keyCount, viGen := x.2.viGen })
    if x.1 < 256 then (z.setB (VI_STATUS_assigned x.1) key.isSome).setF (VI_ID_vi_gen x.1) x.2.viGen else z) z
  let z := (z.setF RST_STATUS_kind kind).setF RST_STATUS_cause cause
  if powerOn then z else
  -- debug_lock is cleared only by a power-on reset (R677)
  let z := { (z.setF GLB_CTRL_debug_lock (s.get GLB_CTRL_debug_lock)).setF GLB_STATUS_debug_locked (s.get GLB_CTRL_debug_lock) with
    debugLock := s.debugLock || s.is GLB_CTRL_debug_lock }
  let z := z.setF THM_STATUS_last_cause (s.get THM_STATUS_last_cause)
  let z := (z.setF FW_STATUS_boot_fail_a (s.get FW_STATUS_boot_fail_a)).setF FW_STATUS_boot_fail_b (s.get FW_STATUS_boot_fail_b)
  z.setF RST_CNT_restarts (satCount 16 (s.get RST_CNT_restarts) (if kind = 0 then 0 else 1))

/-- A restart (kind 2) starts: chassis time is stored for the make-up of R130, GPIO outputs hold (R620). -/
def State.restart (s : State) (cause : Nat) : State :=
  let z := s.afterReset 2 cause false true
  { z with rst := { z.rst with storedCt := some s.ct, slow := 0 } }

/-- The unit enters dormant (R623): only the always-on domain runs. `why` is 1 thermal, 2 third safe stop,
3 UNIT_RESTART, 4 supply. -/
def State.goDormant (s : State) (why : Nat) : State :=
  let z := s.afterReset (s.get RST_STATUS_kind) (s.get RST_STATUS_cause) false false
  let z := z.setF RST_CNT_restarts (s.get RST_CNT_restarts)
  ({ z with rst := { z.rst with
      storedCt := some s.ct, slow := 0, dormantWhy := why, held := false, wakeHeld := none,
      thermDormant := decide (why = 1), restartEn := s.is THM_CTRL_restart_en,
      coolThr := fromField 16 (s.get (THM_LVL_thr 0)) - (s.get (THM_LVL_hys 0) : Int) } }).setUnit 0

/-- A wake cause of a dormant unit, held until COLD_START; of two the lower code stands (R624, R639). -/
def State.wake (s : State) (cause : Nat) : State :=
  s.updRst (fun r => { r with wakeHeld := some (match r.wakeHeld with
    | some c => Nat.min c cause
    | none => cause) })

/-- The unit declares its own failure (R508): notice, alive line, outputs, in this order. Causes 1 and 2 restart
(R619); causes 3 and 4 enter dormant. The record of a critical trip names it (R568). -/
def State.ownFail (s : State) (cause : Nat) (x : Option Inst := none) : State :=
  if s.pair.failed then s else
  let s := s.emit (.failureNotice cause)
  let s := s.updPair (fun x => { x with failed := true, alvStopped := true, outputsOff := true })
  if cause = 3 ∨ cause = 4 then
    let s := if cause = 4 then s.unitRecordNow 7 else s.nvSupplyLoss
    s.goDormant (if cause = 4 then 1 else 4)
  else (s.unitRecordNow cause x).restart 4

/-- RELEASE to every controlled stitch at its next cycle (R205, R490, R537). -/
def State.releaseEvery (s : State) : State :=
  (s.skeins.map (·.1)).foldl (fun s k =>
    if (s.bound k).any (fun g => (s.st g).state = 2) then s.skAct k (((s.sk k).stepped + 1 + (s.sk k).delay) % 65536) .releaseAll
    else s) s

/-- A safe stop (R537): the shelf path stops at once, every controlled stitch is released, the record is
written; the restart follows 50 ms later. -/
def State.safeStop (s : State) (x : Inst) : State :=
  if s.faults.safeStopAt.isSome then s else
  let recent := (s.ct :: s.faults.safeStops).filter (fun t => decide (s.ct < t + sec 3600))
  let s := s.updFaults (fun f => { f with safeStopAt := some s.ct, safeStops := recent })
  let s := s.updPair (fun x => { x with transitAt := none })
  let s := s.setB PAIR_STATUS_transit_pending false
  let s := s.updTrust (fun t => { t with heldSince := none })
  let s := s.releaseEvery
  s.unitRecordNow 6 (some x)

/-- The shelf path runs (R496, R537): the unit is active, has not failed and is in no safe stop. -/
def State.shelfOn (s : State) : Bool := s.active && s.faults.safeStopAt.isNone && !s.pair.failed && !s.pair.transitMid && s.rst.shutdownAt.isNone

end Sys2Proof.Machine
end

