-- ==== Sys2Proof/Machine/ShelfOps.lean ====
section
/-! DEFINITION. The shelf's shared operations: rectifier states and capacity (R346, R362, R366), the mains state
(R376), entering hold-up (R378, R386), charge paths and battery modes (R391, R399). -/
namespace Sys2Proof.Machine

/-- The assigned VIs. -/
def State.vis (s : State) : List Nat := ((s.mbxs.map (·.1)).filter (fun v => decide (v < 256))).filter s.assigned

/-! ### Rectifiers -/

def State.rectIds (s : State) : List Nat := (s.rects.filter (fun x => decide (x.2.state ≠ 0))).map (·.1)
def State.rectsIn (s : State) (p : Nat → Bool) : List Nat := (s.rects.filter (fun x => p x.2.state)).map (·.1)
def State.onlineRects (s : State) : List Nat := s.rectsIn (fun v => decide (v = 3))
/-- Rectifiers counted as capacity: online or draining (R377). -/
def State.capRects (s : State) : List Nat := s.rectsIn (fun v => decide (v = 3 ∨ v = 4))
def State.ratedSum (s : State) (l : List Nat) : Nat := sumNat (l.map (fun r => (s.rect r).ratedMw))
/-- P_rect of R377. -/
def State.pRect (s : State) : Nat := s.ratedSum s.capRects
def sumInt (l : List Int) : Int := l.foldl (· + ·) 0
/-- Bus output power: the polled outputs of the rectifiers that are running (R345, R362). -/
def State.busOut (s : State) : Int := sumInt (s.capRects.map (fun r => (s.rect r).poutMw))

/-- A phase is lost while all its rectifiers are AC lost or failed (R376); L1 also while the PLL is in holdover. -/
def State.phaseLost (s : State) (ph : Nat) : Bool :=
  let l := (s.rects.filter (fun x => decide (x.2.state ≠ 0 ∧ x.2.phase = ph))).map (·.2)
  (decide (ph = 0) && s.shelf.pllHoldover) || (!l.isEmpty && l.all (fun x => decide (x.state = 5 ∨ x.state = 6)))
/-- HU_STATUS.mains and phase_lost follow R376. -/
def State.pubMains (s : State) : State :=
  let b := [s.phaseLost 0, s.phaseLost 1, s.phaseLost 2]
  let n := (b.filter (fun (x : Bool) => x)).length
  let s := s.setF HU_STATUS_mains (if n = 0 then 0 else if n = 3 then 2 else 1)
  s.setF HU_STATUS_phase_lost ((s.phaseLost 0).toNat + 2 * (s.phaseLost 1).toNat + 4 * (s.phaseLost 2).toNat)

/-- The state of a rectifier, with its registers and the mains state that follows it. -/
def State.rectSet (s : State) (r v : Nat) : State :=
  let s := (s.updRect r (fun x => { x with state := v })).setF (RECT_STATE_state r) v
  (s.setF OPT_STATUS_online s.onlineRects.length).pubMains
def State.rectLost (s : State) (r : Nat) (b : Bool) : State := s.setB (RECT_STATE_lost r) b

/-- VOUT_COMMAND of a voltage at a linear exponent, rounded to the rectifier's resolution (R344) and saturated (R12). -/
def voutRaw (exp : Int) (mv : Int) : Nat :=
  (clampI 0 65535 (if exp ≤ 0 then divRound (mv * 2 ^ (-exp).toNat) 1000 else divRound mv (1000 * 2 ^ exp.toNat))).toNat

/-- A PMBus write of the shelf path (R343). -/
def State.pmWrite (s : State) (r code v : Nat) : State :=
  s.emit (.pmbus (s.rect r).tw (s.rect r).addr code v)
def State.rectOper (s : State) (r v : Nat) : State := s.pmWrite r 0x01 v
/-- VOUT_COMMAND is the set-point plus the trim (R350); a rectifier without communication is sent none (R345). -/
def State.rectVout (s : State) (r : Nat) : State :=
  if s.is (RECT_STATE_lost r) then s else
  let mv := (s.get BUS_SETPOINT_setpoint_mv : Int) + (s.rect r).trim
  (s.updRect r (fun x => { x with vout := mv.toNat })).pmWrite r 0x21 (voutRaw (s.rect r).voutExp mv)

/-- The capacity condition of R362. The redundant units are counted at the largest rating (log 25). -/
def State.capEnough (s : State) (l : List Nat) : Bool :=
  let unit := s.rectIds.foldl (fun a r => Nat.max a (s.rect r).ratedMw) 0
  decide (s.busOut * (32768 + s.shelf.reserve) + (s.shelf.nRed * unit : Nat) * 32768 ≤ (s.ratedSum l : Int) * 32768)
/-- The phase condition of R362. -/
def State.phasesEven (s : State) (l : List Nat) : Bool :=
  let c := fun (ph : Nat) => (l.filter (fun r => (s.rect r).phase = ph)).length
  let n := [c 0, c 1, c 2]
  n.all (fun a => n.all (fun b => decide (a ≤ b + 1)))
/-- Bus output steady within 5 % of its mean for 1 s (R362): the last 100 ticks of 10 ms, or 10 of 100 ms (R485). -/
def State.busSteady (s : State) : Bool :=
  let n := if 2 ≤ s.get THM_STATUS_stage then 10 else 100
  let l := lastN n s.shelf.pBus
  let m := divRound (sumInt l) l.length
  decide (n ≤ l.length) && l.all (fun x => decide ((x - m) * 20 ≤ m ∧ (m - x) * 20 ≤ m))
/-- Whether rectifier `r` may leave the online set (R362, R371). -/
def State.mayRemove (s : State) (r : Nat) : Bool :=
  let l := s.onlineRects.filter (· ≠ r)
  s.capEnough l && s.phasesEven l && s.busSteady

/-- A drain starts (R346, R351): the trim goes to its limit. -/
def State.startDrain (s : State) (r : Nat) (ex : Bool) : State :=
  ((s.updRect r (fun x => { x with drainAt := s.ct, exclude := ex, trimWas := x.trim, trim := -s.shelf.trimLim })).rectSet r 4).rectVout r
/-- A drain is cancelled or times out: online, trim restored. -/
def State.stopDrain (s : State) (r : Nat) : State :=
  let s := s.finishOpt (s.rect r).ctrlFor 9 0 0
  ((s.updRect r (fun x => { x with exclude := false, trim := x.trimWas, ctrlFor := none })).rectSet r 3).rectVout r

/-- Starting: OPERATION 0x80 written. -/
def State.rectStart (s : State) (r : Nat) : State :=
  ((s.updRect r (fun x => { x with startAt := s.ct, trim := 0 })).rectSet r 2).rectOper r 0x80

/-- The additions of R366: offline rectifiers in ascending id until capacity meets R362. -/
def State.addUntil (s : State) : List Nat → State
  | [] => s
  | r :: t =>
    if s.capEnough (s.rectsIn (fun v => decide (v = 2 ∨ v = 3 ∨ v = 4))) then s else (s.rectStart r).addUntil t

/-- The emergency add (R366). -/
def State.emergency (s : State) : State :=
  let s := (s.ephEndAll (fun e => e.st = .pending && e.optimiser && e.acts.any (fun a => match a with
    | .rectOper _ 0 => true
    | _ => false))).flag OPT_STATUS_emergency
  let s := (s.rectsIn (fun v => decide (v = 4))).foldl (fun s r => s.stopDrain r) s
  let s := s.updShelf (fun h => { h with removing := false, emergencyWas := false })
  s.addUntil (s.rectsIn (fun v => decide (v = 1)))

/-- A rectifier fails (R346, R349). -/
def State.rectFail (s : State) (r : Nat) : State :=
  let s := s.finishOpt (s.rect r).ctrlFor 9 0 0
  let s := (s.updRect r (fun x => { x with ctrlFor := none })).rectSet r 6
  let s := (s.rectOper r 0).level .rectFail r true
  s.updShelf (fun h => { h with emergencyWas := true })
/-- AC lost (R347). -/
def State.rectAcLost (s : State) (r : Nat) : State :=
  let s := s.finishOpt (s.rect r).ctrlFor 9 0 0
  ((s.updRect r (fun x => { x with ctrlFor := none })).rectSet r 5).updShelf (fun h => { h with emergencyWas := true })

/-! ### Mains and hold-up -/

/-- PFW_N, driven low while in hold-up (R380). -/
def State.pfw (s : State) (b : Bool) : State :=
  let s := s.setB HU_STATUS_pfw b
  match s.pattern.pfwGpio with
  | some g =>
    let m : BitVec 64 := BitVec.ofNat 64 (2 ^ g)
    if b then { s with gpioDriven := s.gpioDriven ||| m, gpio := s.gpio &&& ~~~m }
    else { s with gpioDriven := s.gpioDriven &&& ~~~m }
  | none => s

/-- Vector 3 on every assigned VI and the AF (R381). -/
def State.vector3 (s : State) : State := (s.vis ++ [afMb]).foldl (fun s v => s.msix v 3) s

/-- The strings the pattern places. -/
def State.strIds (s : State) : List Nat := s.strs.map (·.1)
/-- A string's sampling mode (R391). -/
def State.strMode (s : State) (i m : Nat) : State := s.setF (BAT_STATE_mode i) m
/-- OPERATION of a string module: every value but 0x98 ends a test discharge (R374). -/
def State.strOper (s : State) (i v : Nat) : State :=
  (s.setB (BAT_STATE_test i) (decide (v = 0x98))).emit (.pmbus (s.str i).tw (s.str i).addr 0x01 v)
/-- The charge path is turned on or off (R399). -/
def State.strCharge (s : State) (i : Nat) (b : Bool) : State :=
  ((s.setB (BAT_STATE_chg_on i) b).updStr i (fun x => { x with fullSince := none })).strOper i (if b then 0x80 else 0)
/-- A learning run is disqualified (R398). -/
def State.learnDisq (s : State) (i : Nat) : State := (s.setF (BAT_STATE_learn i) 0).flag (BAT_STATE_learn_disq i)

/-- The optimiser leaves running (R355): its uncommitted entries are cancelled, those that wait for a move too. -/
def State.optFreeze (s : State) (v : Nat) : State :=
  let s := if s.get OPT_STATUS_state = 1 then
      let s := s.ephEndAll (fun e => e.st = .pending && e.optimiser)
      { s with posts := s.posts.filter (fun (x : MovePost) => x.slot.isSome) }
    else s
  s.setF OPT_STATUS_state v

/-- The live slots. -/
def State.liveSlots (s : State) : List Nat := (List.range 64).filter (fun n => s.slSt n = 3)

/-- The shelf digest goes to the partner, at every optimiser tick and hold-up state change (R499). -/
def State.tellShelf (s : State) : State :=
  s.emit (.shelfDigest {
      holdup := s.get HU_STATUS_state, cause := s.get HU_STATUS_cause, enteredAt := s.shelf.enteredAt,
      pfw := s.is HU_STATUS_pfw, charges := s.strs.map (fun x => (x.1, x.2.q)), energy := s.shelf.energy })

/-- Entry to hold-up (R386), or active again while returning (R389). -/
def State.holdupEnter (s : State) (causes : Nat) : State :=
  let st := s.get HU_STATUS_state
  if st ≠ 0 ∧ st ≠ 2 then s else
  let s := (s.setF HU_STATUS_state 1).setF HU_STATUS_cause causes
  let s := s.updShelf (fun h => { h with
    budgetAt := s.ct, enteredAt := if st = 0 then s.ct else h.enteredAt, coverSince := none, settledSince := none, shutSince := none, zeroSince := none,
    posted := if st = 0 then [] else h.posted, applied := if st = 0 then [] else h.applied })
  let s := s.optFreeze 2
  let s := if st = 2 then s.ephEndAll (fun e => e.st = .pending && (match e.holdupStep with
    | some x => decide (8 ≤ x)
    | none => false)) else s
  let s := s.pfw true
  let s := if st = 0 then
      let s := ((s.flag HU_STATUS_entry_seen).count HU_CNT_entries).setF HU_STATUS_steps_applied 0
      s.raise .huEntry 0
    else s
  let s := s.strIds.foldl (fun s i =>
    let s := (s.strMode i 0).updStr i (fun x => { x with lowSince := none, idleSince := none, hibSince := none, restDone := false })
    let s := if s.is (BAT_STATE_test i) then ((s.setB (BAT_STATE_test i) false).strOper i 0).learnDisq i else s
    if s.is (BAT_STATE_chg_on i) then s.strCharge i false else s) s
  let s := s.tellShelf.vector3
  s.liveSlots.foldl (fun s n => s.warnSlot n 0 (Nat.min (1000 * s.get HU_RIDE_v) (2 ^ 32 - 1))) s

/-- The causes of R378 that hold now. -/
def State.holdupCauses (s : State) : Nat :=
  let sag := match s.shelf.sagSince with
    | some t => decide (t + us 200 ≤ s.ct)
    | none => false
  (decide (s.get HU_STATUS_mains = 2)).toNat + 2 * (decide (s.pRect < s.get HU_LOAD_v)).toNat + 4 * sag.toNat

/-- Hold-up is entered in the cycle in which a cause first holds. -/
def State.holdupCheck (s : State) : State :=
  if s.shelfOn ∧ s.holdupCauses ≠ 0 then s.holdupEnter s.holdupCauses else s

end Sys2Proof.Machine
end

