-- ==== Sys2Proof/Machine/Ladder.lean ====
section
/-! DEFINITION. The escalation ladder (R533 to R536, R548): rungs, containment by instance, and the rungs due at
once after a raise of class 3. -/
namespace Sys2Proof.Machine

/-- SKEIN_POWER op 0, as a command or containment gives it: it always acts (R315), and a command in flight then
completes with ST_FAULT, info 4. -/
def State.opZero (s : State) (k : Nat) : State := (s.powerDone k 9 4).powerLoad k 0

/-- RECT_CTRL op 1 when R346 and R362 allow it. -/
def State.rectExclude (s : State) (r : Nat) : Option State :=
  if (s.rect r).state = 3 ∧ s.mayRemove r then some (s.startDrain r true) else none

/-- Each job of an engine starts its planned move (R284) to an engine with room. -/
def State.moveOff (s : State) (e : Nat) : State :=
  (s.jobs e).foldl (fun s k => if (s.sk k).moveTo.isSome then s else
    match s.restartEngine k with
    | some t => s.planMove k t none
    | none => s) s

/-- The slots of a list that the partner covers are yielded to it (R534); none when it covers none of them. -/
def State.yieldCovered (s : State) (l : List Nat) : Option State :=
  let c := l.filter s.canYield
  if c.isEmpty then none else some (c.foldl (fun s n => s.yieldSlot n) s)

/-- The slots of a quadrant die. -/
def dieSlots (d : Nat) : List Nat := if d < 4 then (List.range 16).map (16 * d + ·) else []

/-- Containment by instance (rung 1); none when it cannot act and is passed. -/
def State.contain (s : State) (o : Obj) : Option State :=
  match o with
  | .stitch g => if (s.st g).skein.isSome then some (s.latchStitch g) else none
  | .skein k => if s.skSt k ≠ 0 ∧ s.skSt k ≠ 5 ∧ (s.sk k).known then
      some ((s.mirror (s.effectOf afMb 0x410 (leBytes 240 k))).opZero k) else none
  | .port p => if s.is (PORT_CTRL_en p) then some (s.retrainPort p) else none
  | .engine e => some ((s.moveOff e).setB (ENG_STATUS_slow e) true)
  | .rect r => s.rectExclude r
  | .string i => if s.strIds.contains i then
      some ((s.updStr i (fun x => { x with inhibitCmd := true })).strCharge i false) else none
  | .slot n => if s.slSt n = 2 ∨ s.slSt n = 3 ∨ s.slSt n = 4 ∨ s.slSt n = 6 then some (s.fence n 12) else none
  | .die d => s.yieldCovered (dieSlots d)
  | _ => none

/-- Containment as the owner takes it: that of a stitch, string or slot reaches the partner too (R535). -/
def State.containBoth (s : State) (x : Inst) : Option State :=
  let o := x.kind.obj x.inst
  let both : Bool := match o with
    | .stitch _ => true
    | .string _ => true
    | .slot _ => true
    | _ => false
  match s.contain o with
  | some s' => if both then (s.mirror (.contain (BitVec.ofNat 8 x.kind.code) (BitVec.ofNat 16 x.inst))).contain o else some s'
  | none => none

/-- The slots of an instance, for rung 2. -/
def State.instSlots (s : State) (o : Obj) : List Nat :=
  match o with
  | .die d => dieSlots d
  | .engine e => ((s.jobs e).map (fun k => (s.sk k).slot)).eraseDups
  | o => match s.instPort o with
    | some p => [p]
    | none => []

/-- Rung 4: own failure, or the safe stop without a standby partner that covers every port. -/
def State.unitStop (s : State) (x : Inst) : State :=
  let s := s.updPair (fun x => { x with transitAt := none })
  let s := s.setB PAIR_STATUS_transit_pending false
  if s.partnerReady then s.ownFail 1 (some x) else s.safeStop x

/-- A rung's action; none when it is passed. -/
def State.rungAct (s : State) (rung : Nat) (o : Obj) (x : Inst) : Option State :=
  match rung with
  | 1 => s.containBoth x
  | 2 => s.yieldCovered (s.instSlots o)
  | 3 => if s.transitOk then some (s.startTransit (s.ct + us 100)) else none
  | 4 => some (s.unitStop x)
  | _ => none

/-- The record, event and register of a rung taken or passed (R539, R545). -/
def State.rungNote (s : State) (x : Inst) (rung : Nat) (passed : Bool) : State :=
  let c := x.kind.code
  let sq := s.get FLT_LOG_SEQ_v
  let s := s.log {
      time := s.ct, kind := c, cls := x.cls, injected := x.injected, passed := passed, recKind := 1,
      inst := x.inst, die := x.die, rung := rung, seq := 0 }
  let own := s.instOwner (x.kind.obj x.inst)
  let s := s.nvPush 3 (Tbl.get s.nv.seqs 3 0 % 8192) 2 own
    (.fault {
        time := s.ct, kind := c, cls := x.cls, injected := x.injected, passed := passed, recKind := 1, inst := x.inst,
        die := x.die, rung := rung, seq := sq })
  if passed then s else
  let s := s.setF FLT_STATUS_last_rung rung
  let fl := x.cls + 4 * rung + 32 * x.injected.toNat + 64
  let s := if own ≠ afMb then s.ringEvent own c x.inst fl x.die [] else s
  s.ringEvent afMb c x.inst fl x.die []

def State.updInst (s : State) (x : Inst) (f : Inst → Inst) : State :=
  s.updFaults (fun t => { t with insts := t.insts.map (fun (y : Inst) => if y.kind = x.kind ∧ y.inst = x.inst then f y else y) })

/-- The rungs from `rung` up to `top`: the first that acts is taken, the passed ones logged (R534). -/
def State.climb (s : State) (x : Inst) (top grace : Nat) : Nat → Nat → State
  | 0, _ => s
  | n + 1, rung =>
    if top < rung then s.updInst x (fun y => { y with graceAt := none, done := true })
    else match s.rungAct rung (x.kind.obj x.inst) x with
      | some s' =>
        let more := decide (rung < top)
        let s := s.updInst x (fun y => { y with
          last := rung, graceAt := if more then some (s.ct + grace) else none, done := !more, waits := false })
        -- the rung's record precedes an action that ends the unit's run
        if rung = 4 then (s.rungNote x rung false).unitStop x
        else (s'.updInst x (fun y => { y with
          last := rung, graceAt := if more then some (s.ct + grace) else none, done := !more, waits := false })).rungNote x rung false
      | none => ((s.updInst x (fun y => { y with last := rung })).rungNote x rung true).climb x top grace n (rung + 1)

/-- Whether a rung may be taken on this unit (R535). -/
def State.rungHere (s : State) (rung : Nat) (o : Obj) : Bool :=
  decide (rung = 4) || (match s.instPort o with
    | some p => s.ownsPort p
    | none => s.active)

/-- The next rung of a raised instance whose timer is due, under a configuration of its kind (R533, R535, R536). -/
def State.nextRungBy (s : State) (x : Inst) (cfg : Nat × Nat × Nat × Nat) : State :=
  let (_, first, maxr, grace) := cfg
  let fixed := s.kindFixed x.kind x.inst
  let top := if fixed then maxr else Nat.min maxr (s.get FLT_CTRL_max_rung)
  let rung := if x.last = 0 then first else x.last + 1
  if rung = 0 ∨ top < rung then s.updInst x (fun y => { y with graceAt := none })
  else if !fixed && !s.is FLT_CTRL_ladder_en then s.updInst x (fun y => { y with graceAt := some (s.ct + grace) })
  else if s.rungHere rung (x.kind.obj x.inst) then s.climb x top grace 5 rung
  else if x.waits then s
  else (s.updInst x (fun y => { y with waits := true })).rungNote x rung true

def State.nextRung (s : State) (x : Inst) : State := s.nextRungBy x (s.kindCfg x.kind x.inst)

/-- Instances whose first rung is due in the cycle of the raise: those of class 3, and those that found the table full of
alarms (R531, R544). -/
def State.dueNow (s : State) : List Inst :=
  s.faults.atOnce ++ s.faults.insts.filter (fun x => !x.held && decide (x.cls = 3) && !x.waits && (match x.graceAt with
    | some t => decide (t ≤ s.ct)
    | none => false))

/-- The rungs due in this cycle, unit stop last (R548). -/
def State.settle (s : State) : State :=
  let l := s.dueNow
  let late := s.faults.atOnce
  let s := s.when (!late.isEmpty) (fun s => s.updFaults (fun f => { f with atOnce := [] }))
  let stop := fun (x : Inst) => decide ((s.kindCfg x.kind x.inst).2.1 = 4)
  ((l.filter (fun x => !stop x)) ++ ((l.filter stop).take 1)).foldl (fun s x =>
    match s.faults.insts.find? (fun (y : Inst) => y.kind = x.kind ∧ y.inst = x.inst) with
    | some y => s.nextRung y
    | none => if late.contains x then s.nextRung x else s) s

end Sys2Proof.Machine
end

