-- ==== Sys2Proof/Machine/Shelf.lean ====
section
/-! DEFINITION. Rectifiers, bus bar, optimiser and energy accounting (R342 to R372). A transaction in a two-wire
port's queue is (object, PMBus code, kind): kind 0 poll, 1 alert read, 2 admission, 3 battery status, 4 clear; objects below
64 are rectifiers, 64 + s is string s, 255 is the alert response address. -/
namespace Sys2Proof.Machine


/-- The signed reading of a LINEAR11 word, scaled by `num` (R343). -/
def linear11 (w : Nat) (num : Int) : Int :=
  let e := fromField 5 (w / 2048)
  let m := fromField 11 w
  if e < 0 then divRound (m * num) (2 ^ (-e).toNat) else m * num * 2 ^ e.toNat
/-- A VOUT_MODE-format word in mV. -/
def vout16 (exp : Int) (w : Nat) : Int :=
  if exp ≤ 0 then divRound ((w : Int) * 1000) (2 ^ (-exp).toNat) else (w : Int) * 1000 * 2 ^ exp.toNat

/-- Transactions join a port's queue behind the others. -/
def State.twPush (s : State) (t : Nat) (l : List (Nat × Nat × Nat)) : State :=
  s.updTw t (fun x => { x with jobs := x.jobs ++ l })
/-- An alert's transactions go ahead of the rest at the next transaction boundary (R348). -/
def State.twNext (s : State) (t : Nat) (l : List (Nat × Nat × Nat)) : State :=
  s.updTw t (fun x => { x with jobs := x.jobs.take 1 ++ l ++ x.jobs.drop 1 })

/-- The reads of one poll (R343, R345); the manual counts nine transactions and names eight reads (log 26). -/
def pollCodes : List Nat := [0x79, 0x88, 0x89, 0x8B, 0x8C, 0x8D, 0x96, 0x97]

/-- Rated current at the set-point, in mA (R346). -/
def State.ratedMa (s : State) (r : Nat) : Int :=
  divRound ((s.rect r).ratedMw * 1000 : Nat) (Nat.max 1 (s.get BUS_SETPOINT_setpoint_mv) : Nat)

/-- The sharing trims of R350, when every online rectifier polled successfully since the last round. -/
def State.shareTrims (s : State) : State :=
  let l := s.onlineRects
  if l.isEmpty || !l.all (fun r => (s.rect r).polled) then s else
  let mean := divRound (sumInt (l.map (fun r => (s.rect r).ioutMa))) l.length
  l.foldl (fun s r =>
    let d := mean - (s.rect r).ioutMa
    if s.is (RECT_STATE_lost r) then s
    else if s.ratedMa r < 100 * d ∨ s.ratedMa r < -100 * d then
      let step := clampI (-20) 20 (divRound (2 * d) 1000)
      let trim := clampI (-s.shelf.trimLim) s.shelf.trimLim ((s.rect r).trim + step)
      (s.updRect r (fun x => { x with trim := trim })).rectVout r
    else s) s

/-- TELEMETRY_ROUND (R345, R350): trims from the last round, then a poll of each rectifier that runs or is off. -/
def execTelemetryRound (s : State) : Out3 :=
  if !s.shelfOn then .next s else
  let s := s.shareTrims
  -- a draining rectifier is polled too, since its READ_IOUT ends the drain (R346)
  .next ((s.rectsIn (fun v => decide (1 ≤ v ∧ v ≤ 4))).foldl (fun s r =>
    (s.updRect r (fun x => { x with polled := false, cml := 0 })).twPush (s.rect r).tw (pollCodes.map (fun c => (r, c, 0)))) s)

/-- Three consecutive failed polls lose communication (R345). -/
def State.pollFailed (s : State) (r : Nat) : State :=
  let s := s.updRect r (fun x => { x with commFails := x.commFails + 1, polled := false })
  let s := s.updTw (s.rect r).tw (fun x => { x with jobs := x.jobs.filter (fun j => !(decide (j.1 = r) && decide (j.2.2 = 0))) })
  if 3 ≤ (s.rect r).commFails then (s.rectLost r true).level .rectComm r true else s

/-- CML is set: the read is retried, twice at most (R345, R349). -/
def State.rectRetry (s : State) (r : Nat) : State :=
  if (s.rect r).cml < 2 then
    (s.updRect r (fun x => { x with cml := x.cml + 1 })).updTw (s.rect r).tw (fun x => { x with jobs := (r, 0x79, 1) :: x.jobs })
  else (s.updRect r (fun x => { x with cml := 0 })).pollFailed r

/-- The response to a STATUS_WORD (R349), with CLEAR_FAULTS after a bit that was set. -/
def State.rectStatus (s : State) (r w : Nat) : State :=
  let st := (s.rect r).state
  let b := fun (k : Nat) => w.testBit k
  let other := ((List.range 16).filter (fun k => b k && !([5, 4, 3, 2, 6].contains k))).length + (b 6 && !(st = 3 ∨ st = 4)).toNat
  let s := if other = 0 then s else s.countN RECT_CNT_STATUS_count other
  let s := if (b 5 || b 4 || (b 6 && decide (st = 3 ∨ st = 4))) && decide (st ≠ 0) then s.rectFail r
    else if b 3 && decide (st ≠ 0 ∧ st ≠ 7) then s.rectAcLost r else s
  let s := if b 2 then s.twNext (s.rect r).tw [(r, 0x7D, 0)] else s
  let s := if b 1 then s.rectRetry r else s
  if w = 0 then s else s.pmWrite r 0x03 0

/-- What the last read of a successful poll leads to (R345, R346). -/
def State.rectPolled (s : State) (r : Nat) : State :=
  let s := s.updRect r (fun x => { x with polled := true, commFails := 0 })
  let s := if s.is (RECT_STATE_lost r) then
      let s := s.rectLost r false
      if (s.rect r).state = 3 ∨ (s.rect r).state = 4 then s.rectVout r else s
    else s
  let s := s.gone .rectComm r
  let x := s.rect r
  if x.state = 2 then
    let near := decide ((x.voutMv - x.vout) * 100 ≤ x.vout ∧ ((x.vout : Int) - x.voutMv) * 100 ≤ x.vout)
    if near && !x.status.testBit 6 && !x.status.testBit 11 && !x.status.testBit 15 then
      let s := (s.rectSet r 3).rectVout r
      if (s.rectsIn (fun v => decide (v = 2))).isEmpty then
        s.updShelf (fun h => { h with rectDwell := s.ct + sec 1, rectSettle := 4 })
      else s
    else s
  else if x.state = 4 ∧ x.ioutMa * 20 ≤ s.ratedMa r then
    let s := (s.rectOper r 0).rectSet r (if x.exclude then 7 else 1)
    let s := s.finishOpt x.ctrlFor 0 0 0
    let s := s.updRect r (fun y => { y with ctrlFor := none, exclude := false, trim := 0 })
    if (s.rectsIn (fun v => decide (v = 4))).isEmpty then
      s.updShelf (fun h => { h with removing := false, rectDwell := s.ct + sec 1, rectSettle := 4 })
    else s
  else s

/-- The set-point and trims of R354 follow the rectifiers admitted online. -/
def State.admitBus (s : State) : State :=
  let l := s.onlineRects
  if l.isEmpty then s else
  let mean := divRound (sumInt (l.map (fun r => ((s.rect r).vout : Int)))) l.length
  let sp := clampI s.shelf.busMin s.shelf.busMax mean
  let s := s.setF BUS_SETPOINT_setpoint_mv sp.toNat
  l.foldl (fun s r => s.updRect r (fun x => { x with trim := clampI (-s.shelf.trimLim) s.shelf.trimLim (x.vout - mean) })) s

/-- STATUS_WORD of a failed rectifier, read for RECT_CTRL op 0 (R346): clean, it is offline. -/
def State.rectCleared (s : State) (r w : Nat) : State :=
  let c := (s.rect r).ctrlFor
  let s := s.updRect r (fun y => { y with status := w, ctrlFor := none })
  let s := if w ≠ 0 then s.rectStatus r w
    else if (s.rect r).state = 6 then (s.rectSet r 1).gone .rectFail r else s
  s.finishOpt c 0 0 0

/-- A read of a rectifier has answered. -/
def State.rectData (s : State) (r code kind w : Nat) : State :=
  let x := s.rect r
  if kind = 2 then
    if code = 0x20 then
      if 32 ≤ w % 256 then (s.rectSet r 6).level .rectFail r true
      else s.updRect r (fun y => { y with voutExp := fromField 5 w })
    else if code = 0x01 then s.updRect r (fun y => { y with status := w })
    else if x.state = 6 then s
    else
      let s := s.updRect r (fun y => { y with vout := (vout16 y.voutExp w).toNat })
      (s.rectSet r (if x.status % 256 = 0x80 ∧ x.acOk then 3 else 1)).admitBus
  else if kind = 4 then s.rectCleared r w
  else if code = 0x79 then (s.updRect r (fun y => { y with status := w })).rectStatus r w
  else if code = 0x7D then (if w.testBit 7 then s.rectFail r else s.count RECT_CNT_STATUS_count)
  else if code = 0x8B then s.updRect r (fun y => { y with voutMv := vout16 y.voutExp w })
  else if code = 0x8C then s.updRect r (fun y => { y with ioutMa := linear11 w 1000 })
  else if code = 0x8D then s.updRect r (fun y => { y with temp := linear11 w 16 })
  else if code = 0x96 then s.updRect r (fun y => { y with poutMw := linear11 w 1000 })
  else if code = 0x97 then (s.updRect r (fun y => { y with pinMw := linear11 w 1000 })).rectPolled r
  else s

/-- SMBALERT (R348): the alert response address where the GPIO is shared, then STATUS_WORD. -/
def execSmbalert (g : Fin 64) (s : State) : Out3 :=
  if !s.shelfOn then .next s else
  match (s.rects.filter (fun x => decide (x.2.state ≠ 0 ∧ x.2.alertGpio = g.val))).map (·.1) with
  | [] => .next s
  | [r] => .next ((s.flag (RECT_ALERT_bit r)).twNext (s.rect r).tw [(r, 0x79, 1)])
  | r :: _ =>
    -- one read serves an attention of the same cycle too (R589)
    let t := (s.rect r).tw
    if (s.tw t).araAt = some s.ct then .next s
    else .next ((s.twNext t [(255, 0x0C, 1)]).updTw t (fun x => { x with alertAt := some s.ct }))

/-- AC_OK_FILTER_EXPIRE (R347, R376, R378): capacity leaves the sums, and hold-up may be entered, in this cycle. -/
def execAcOkFilterExpire (r : Fin 48) (s : State) : Out3 :=
  let s := s.updRect r (fun x => { x with acOk := false })
  let st := (s.rect r).state
  if st = 0 ∨ st = 7 ∨ st = 5 then .next s else
  .next (((s.rectAcLost r).holdupCheck).settle)

/-- AC_OK_RESTORE (R346): AC lost to offline after 1 s of AC_OK. -/
def execAcOkRestore (r : Fin 48) (s : State) : Out3 :=
  let s := s.updRect r (fun x => { x with acOk := true })
  .next (if (s.rect r).state = 5 then s.rectSet r 1 else s)

/-- RECT_START_TIMEOUT (R346). -/
def execRectStartTimeout (r : Fin 48) (s : State) : Out3 :=
  if (s.rect r).state = 2 ∧ (s.rect r).startAt + ms s.pattern.tStartMs ≤ s.ct then .next ((s.rectFail r).holdupCheck).settle else .next s

/-- RECT_DRAIN_TIMEOUT (R346): not drained within 500 ms. -/
def execRectDrainTimeout (r : Fin 48) (s : State) : Out3 :=
  if (s.rect r).state = 4 ∧ (s.rect r).drainAt + ms 500 ≤ s.ct then .next (s.stopDrain r) else .next s

/-- The sense inputs' readings: valid ones in mV, by the divider ratio (R352). -/
def State.busInputs (s : State) : List (Option Int) :=
  s.pattern.busInputs.map (fun (i, num, den) =>
    if s.is (ADC_RES_valid (i / 32) (i % 32)) && !s.is (ADC_RES_open (i / 32) (i % 32)) && decide (s.get (ADC_INCFG_cal_state (i / 32) (i % 32)) ≠ 2) then
      some (divRound ((s.get (ADC_RES_value (i / 32) (i % 32)) : Int) * num) (Nat.max 1 den : Nat))
    else none)

/-- BUS_V_UPDATE (R352, R353, R377, R378, R384): the bus bar voltage, P_load, and the timers that run on them. -/
def execBusVUpdate (s : State) : Out3 :=
  if s.unit = 0 ∨ s.rst.held then .next s else
  let l := s.busInputs
  let ok := l.filterMap id
  let s := s.setF BUS_STATUS_sense_ok ((List.range 4).foldl (fun a i => a + (match l.getD i none with
    | some _ => 2 ^ i
    | none => 0)) 0)
  let s := if ok.isEmpty then s else s.setI BUS_V_bus_mv (divRound (sumInt ok) ok.length)
  if !s.active then .next s else
  let s := s.level .busSense 0 ok.isEmpty
  let v := fromField 32 (s.get BUS_V_bus_mv)
  let pl := sumInt ((List.range 64).map (fun n => fromField 32 (s.get (SLOT_P_v n))))
  let s := s.setF HU_LOAD_v pl.toNat
  let keep := fun (c : Bool) (o : Option Nat) => if c then some (o.getD s.ct) else none
  let h := s.shelf
  let held := decide (s.get HU_STATUS_state = 1 ∨ s.get HU_STATUS_state = 2)
  let calm := s.strIds.all (fun i => decide (-1000 ≤ fromField 32 (s.get (BAT_I_v i))))
  let s := s.updShelf (fun x => { x with
    pLoad := pl, ovSince := keep (decide (h.busOv < v)) h.ovSince, uvSince := keep (decide (v < h.busUv)) h.uvSince,
    sagSince := keep (decide (v < (s.get BUS_SETPOINT_setpoint_mv : Int) - h.sag)) h.sagSince,
    shutSince := keep (decide (v ≤ h.vShut + 500)) h.shutSince,
    settledSince := keep (decide ((h.busMin : Int) ≤ v) && calm) h.settledSince,
    coverSince := keep (decide (pl * (32768 + h.reserve) ≤ (s.pRect : Int) * 32768)) h.coverSince })
  let s := if v ≤ h.busOv then s.gone .busOv 0 else s
  let s := if h.busUv ≤ v ∨ held then s.gone .busUv 0 else s
  .next (s.holdupCheck).settle

/-- BUS_LIMIT_TIMER (R353, R379): a bus voltage outside a threshold for 100 µs. -/
def execBusLimitTimer (ov : Bool) (s : State) : Out3 :=
  let due := fun (o : Option Nat) => match o with
    | some t => decide (t + us 100 ≤ s.ct)
    | none => false
  if ov then (if due s.shelf.ovSince then .next ((s.flag BUS_STATUS_ov_seen).level .busOv 0 true).settle else .next s)
  else if due s.shelf.uvSince && !decide (s.get HU_STATUS_state = 1 ∨ s.get HU_STATUS_state = 2) then
    .next ((s.flag BUS_STATUS_uv_seen).level .busUv 0 true).settle
  else .next s

/-- EMERGENCY_ADD (R366): above 90 % of the capacity counted, or within 1 ms of capacity leaving. -/
def execEmergencyAdd (s : State) : Out3 :=
  if s.shelfOn ∧ (s.shelf.emergencyWas ∨ ((s.pRect : Int) * 9 < s.busOut * 10)) then .next s.emergency else .next s

/-! ### The optimiser -/

/-- Distribution loss: rectifier outputs less slot input power less charge power (R355 ff.). -/
def State.shelfLoss (s : State) : Int :=
  let rectLoss := sumInt (s.capRects.map (fun r => (s.rect r).pinMw - (s.rect r).poutMw))
  let charge := sumInt (s.strIds.map (fun i =>
    let ci := fromField 32 (s.get (BAT_I_v i))
    if 0 < ci then divRound (ci * fromField 32 (s.get (BAT_V_v i))) 1000 else 0))
  rectLoss + (s.busOut - s.shelf.pLoad - charge)

/-- Least saving of a decision (R360), in mW: a floor and a share in 1/1000 of the loss. -/
def hysteresis (floor permille loss : Int) : Int :=
  let x := divRound (loss * permille) 1000
  if floor < x then x else floor

/-- Count candidates n - 3 to n + 3, as the set of rectifiers online after each (R360, R362). -/
def State.countSet (s : State) (d : Int) : Option (List Nat) :=
  let on := s.onlineRects
  if 0 ≤ d then
    let add := (s.rectsIn (fun v => decide (v = 1))).take d.toNat
    let l := on ++ add
    if add.length = d.toNat ∧ s.capEnough l ∧ s.phasesEven l then some l else none
  else
    let n := (-d).toNat
    -- removals take the highest-numbered of each phase in turn of its count
    let pick := (List.range n).foldl (fun (l : List Nat) _ =>
      let c := fun (ph : Nat) => (l.filter (fun r => (s.rect r).phase = ph)).length
      let ph := if c 0 ≥ c 1 ∧ c 0 ≥ c 2 then 0 else if c 1 ≥ c 2 then 1 else 2
      match (l.filter (fun r => (s.rect r).phase = ph)).foldl (fun a r => Nat.max a (r + 1)) 0 with
      | 0 => l
      | r + 1 => l.filter (· ≠ r)) on
    if pick.length + n = on.length ∧ s.capEnough pick ∧ s.phasesEven pick ∧ s.busSteady then some pick else none

/-- Polled loss enters the bin of its output power (R357): 16 equal bins of rated power, each with the averages of the losses
and of the powers in it (DESIGN CHOICE, log 21). An interval that a change has disturbed is left out (R356). -/
def State.rectBin (s : State) (r : Nat) : State :=
  let x := s.rect r
  let b : Int := clampI 0 15 (x.poutMw * 16 / (Nat.max 1 x.ratedMw : Nat))
  let loss := x.pinMw - x.poutMw
  let new := if x.bins.any (fun z => decide (z.1 = b)) then
      x.bins.map (fun z => if z.1 = b then (b, z.2.1 + divRound (loss - z.2.1) 64, z.2.2 + divRound (x.poutMw - z.2.2) 64) else z)
    else x.bins ++ [(b, loss, x.poutMw)]
  s.updRect r (fun y => { y with bins := new })

def sumRat (l : List Rat) : Rat := l.foldl (· + ·) 0
/-- A fraction in whole units, rounded (R12). -/
def roundRat (q : Rat) : Int := divRound q.num q.den

/-- The least-squares fit y = c0 + c1 x + c2 x² (R357). -/
def fitSquare (l : List (Rat × Rat)) : Rat × Rat × Rat :=
  let S := fun (i : Nat) => sumRat (l.map (fun p => p.1 ^ i))
  let T := fun (i : Nat) => sumRat (l.map (fun p => p.1 ^ i * p.2))
  let a := S 2 * S 4 - S 3 * S 3
  let b := S 1 * S 4 - S 2 * S 3
  let c := S 1 * S 3 - S 2 * S 2
  let d := S 0 * a - S 1 * b + S 2 * c
  ((T 0 * a - T 1 * b + T 2 * c) / d,
    (-(T 0 * b) + T 1 * (S 0 * S 4 - S 2 * S 2) - T 2 * (S 0 * S 3 - S 1 * S 2)) / d,
    (T 0 * c - T 1 * (S 0 * S 3 - S 1 * S 2) + T 2 * (S 0 * S 2 - S 1 * S 1)) / d)

/-- A rectifier's fit, of 3 populated bins at least. -/
def State.rectFit (s : State) (r : Nat) : Option (Rat × Rat × Rat) :=
  let l := (s.rect r).bins
  if l.length < 3 then none else some (fitSquare (l.map (fun z => ((z.2.2 : Rat), (z.2.1 : Rat)))))

/-- The fitted loss in mW of a set of rectifiers that share the bus output; none without a fit of each (R357). -/
def State.fitLoss (s : State) (l : List Nat) : Option Rat :=
  let p : Rat := (s.busOut : Rat) / (l.length : Rat)
  l.foldl (fun (a : Option Rat) r => a.bind (fun t => (s.rectFit r).map (fun f => t + f.1 + f.2.1 * p + f.2.2 * p ^ 2))) (some 0)

/-- The predicted saving of a count candidate. -/
def State.countSaving (s : State) (l : List Nat) : Option Int :=
  match s.fitLoss s.onlineRects, s.fitLoss l with
  | some a, some b => some (roundRat (a - b))
  | _, _ => none

/-- The candidate of the largest saving. -/
def bestOf {α : Type} (l : List (α × Int)) : Option (α × Int) :=
  l.foldl (fun a x => match a with
    | some y => if y.2 < x.2 then some x else a
    | none => some x) none

/-- The bus output power has not moved by more than 10 % in the last interval (R356). -/
def State.busCalm (s : State) : Bool :=
  match lastN 2 s.shelf.pBus with
  | [a, b] => decide ((b - a) * 10 ≤ a ∧ (a - b) * 10 ≤ a)
  | _ => false
/-- No change of the rectifiers or of the set-point has disturbed the interval (R356, R361). -/
def State.busClean (s : State) : Bool := s.busCalm && decide (s.shelf.rectSettle = 0 ∧ s.shelf.busSettle = 0)

/-- The rectifier count decision of a tick (R360 to R362, R365). -/
def State.optRect (s : State) : State :=
  let h := s.shelf
  if !h.rectEn || h.removing || !(s.rectsIn (fun v => decide (v = 2))).isEmpty || decide (s.ct < h.rectDwell) || !s.busClean then s else
  let cands := ([-3, -2, -1, 1, 2, 3] : List Int).filterMap (fun d =>
    (s.countSet d).bind (fun l => (s.countSaving l).map (fun v => ((d, l), v))))
  match bestOf cands with
  | none => s
  | some ((d, l), save) =>
    if save < hysteresis 10000 5 s.shelfLoss then s.count OPT_CNT_declined
    else
      let s := s.updShelf (fun x => { x with rectDwell := s.ct + sec 1, rectSettle := 4 })
      if 0 ≤ d then
        s.fwPost (s.ct + ms 1) ((l.filter (fun r => !s.onlineRects.contains r)).map (fun r => EphAct.rectOper r 0x80)) true none
      else
        (s.updShelf (fun x => { x with removing := true })).fwPost (s.ct + ms 1)
          ((s.onlineRects.filter (fun r => !l.contains r)).map (fun r => EphAct.rectOper r 0)) true none

/-- The bus set-point search of R359. -/
def State.optBus (s : State) (loss : Int) : State :=
  let h := s.shelf
  if !h.busEn || h.removing || !(s.rectsIn (fun v => decide (v = 2))).isEmpty || s.skeins.any (fun (x : Nat × Skein) => decide (0 < x.2.settle)) ||
      decide (s.ct < h.busDwell) || !s.busClean then s else
  if 0 < h.busHold then s.updShelf (fun x => { x with busHold := x.busHold - 1, busDwell := s.ct + ms 200 }) else
  -- a first move, and the first one after a hold, has no move before it to keep or reverse (log 202)
  let first := decide (h.busLoss = 0)
  let kept := !first && decide (hysteresis 10000 5 loss ≤ h.busLoss - loss)
  let dir := if kept || first then h.busDir else !h.busDir
  let back := if kept || first then 0 else h.busBack + 1
  let sp : Int := s.get BUS_SETPOINT_setpoint_mv
  let mv := clampI h.busMin h.busMax (if dir then sp + h.busStep else sp - h.busStep)
  let hold := decide (2 ≤ back)
  let s := s.updShelf (fun x => { x with
    busDir := dir, busBack := if hold then 0 else back, busHold := if hold then 10 else 0, busLoss := if hold then 0 else loss,
    busDwell := s.ct + ms 200 })
  if hold || decide (mv = sp) then s
  else (s.updShelf (fun x => { x with busSettle := 4 })).fwPost (s.ct + ms 1) [.busSet mv.toNat] true none

/-- A fit of a skein that is usable (R357). -/
def fitUsable (b : List (Nat × Nat × Int × Int)) : Bool :=
  let ks := (b.map (·.1)).eraseDups
  let hi := b.foldl (fun (a : Int) x => if a < x.2.2.1 then x.2.2.1 else a) 0
  let lo := b.foldl (fun (a : Int) x => if x.2.2.1 < a then x.2.2.1 else a) hi
  decide (3 ≤ b.length) && (decide (2 ≤ ks.length) || decide (4 * lo ≤ hi ∧ 0 < hi))
def fitData (b : List (Nat × Nat × Int × Int)) : List Int :=
  b.foldl (fun a x => a ++ [(x.1 : Int), (x.2.1 : Int), x.2.2.1, x.2.2.2]) []

/-- Whether a stitch count is allowed to the optimiser (R302, R363). -/
def State.countAllowed (s : State) (k c : Nat) : Bool :=
  let x := s.sk k
  decide (x.lim.nMin ≤ c ∧ c ≤ x.lim.nMax ∧ 0 < c) &&
  (decide (x.lim.restoreMa = 0) || decide (x.isk * 10 ≤ 8 * x.lim.restoreMa * c)) &&
  !(decide (c < x.job.count) && s.is (SKN_STATE_restore_hold k))

/-- The next rates up and down of a skein's list. -/
def nextRates (rs : List (Nat × Nat)) (hz : Nat) : List (Nat × Nat) :=
  ((rs.filter (fun r => decide (hz < r.1))).take 1) ++ (lastN 1 (rs.filter (fun r => decide (r.1 < hz))))

/-- The least-squares fit loss = k a + b I² / k of a skein's bins (R357). -/
def fitSkein (l : List (Nat × Nat × Int × Int)) : Rat × Rat :=
  let S := fun (f : Rat → Rat → Rat → Rat) => sumRat (l.map (fun z => f z.1 ((z.2.2.1 : Rat) / (z.1 : Rat)) z.2.2.2))
  let d := S (fun k _ _ => k * k) * S (fun _ x _ => x * x) - S (fun k x _ => k * x) ^ 2
  ((S (fun k _ y => k * y) * S (fun _ x _ => x * x) - S (fun _ x y => x * y) * S (fun k x _ => k * x)) / d,
    (S (fun _ x y => x * y) * S (fun k _ _ => k * k) - S (fun k _ y => k * y) * S (fun k x _ => k * x)) / d)

/-- The predicted saving of a count, of a rate, or of both as a pair (R361); the model has no term for the rate (log 21). -/
def Skein.saving (x : Skein) (q : Option Nat × Option (Nat × Nat)) : Int :=
  let c := q.1.getD x.job.count
  match q.2 with
  | some r => Config.rateSaving (fitData x.fitBins) c r.1
  | none =>
    let f := fitSkein x.fitBins
    let at_ := fun (k : Nat) => (k : Rat) * f.1 + f.2 * ((x.isk * x.isk : Int) : Rat) / (k : Rat)
    roundRat (at_ x.job.count - at_ c)

/-- The decisions of one skein at a tick (R358, R360, R361, R363, R364, R365). -/
def State.optSkein (s : State) (k : Nat) : State :=
  let x := s.sk k
  if x.job.skeinState ≠ 2 ∨ !x.clean ∨ 0 < s.shelf.busSettle then s
  else
    let usable := fitUsable x.fitBins
    let s := s.updSk k (fun y => { y with
      unusableSince := if usable then none else some (y.unusableSince.getD s.ct), wait4 := if usable then (0, 0, 0, 0) else y.wait4 })
    if !usable then s else
    let counts := if x.optCount && decide (x.dwellUntil ≤ s.ct) then
        ((List.range 129).filter (fun c => decide (c ≠ x.job.count ∧ x.job.count / 2 ≤ c) && s.countAllowed k c)) else []
    -- a raise no engine has room for is not planned (R271)
    let rates := if x.optRate && decide (x.rateDwell ≤ s.ct) && !s.is (PORT_STATUS_plan_active x.slot) then
        (nextRates x.rates x.hz).filter (fun r => (s.raisePlan (s.raisesOf [.rate k r.1 r.2])).isSome) else []
    let cands : List (Option Nat × Option (Nat × Nat)) := counts.map (fun c => (some c, none)) ++ rates.map (fun r => (none, some r)) ++
      counts.flatMap (fun c => rates.map (fun r => (some c, some r)))
    match bestOf (cands.map (fun q => (q, x.saving q))) with
    | none => s
    | some ((c, r), save) =>
      if save < hysteresis 500 10 x.lossMw then s.count OPT_CNT_declined
      else
        let s := s.updSk k (fun y => { y with
          settle := 3, dwellUntil := if c.isSome then s.ct + ms 100 else y.dwellUntil,
          rateDwell := if r.isSome then s.ct + sec 1 else y.rateDwell })
        s.startPost { acts := (c.map (fun c => EphAct.count k c)).toList ++ (r.map (fun r => EphAct.rate k r.1 r.2)).toList }

/-- One component of energy to a holder: nJ to mJ with the remainder carried (R368). -/
def State.addEnergy (s : State) (h sel : Nat) (nj : Int) : State :=
  let key := 8 * h + sel
  let t := Tbl.get s.shelf.rem key 0 + nj
  let mj := t / 1000000
  s.updShelf (fun x => { x with
    energy := Tbl.put x.energy key ((((Tbl.get x.energy key 0 : Nat) : Int) + mj) % 2 ^ 64).toNat,
    rem := Tbl.put x.rem key (t - mj * 1000000) })

/-- A stitch's contribution over the interval (R369): e_in, e_out, loss in nJ. -/
def State.contrib (s : State) (g interval : Nat) : State × (Int × Int × Int) :=
  let x := s.st g
  if !x.desc.iinSensed then (s, (0, 0, 0)) else
  let dv := x.snap.ticks - x.prevSnap.ticks
  if interval ≤ 2 * dv ∧ 0 < dv then
    let f := fun (a b : Int) => divRound ((a - b) * interval) dv
    let c := (f x.snap.eIn x.prevSnap.eIn, f x.snap.eOut x.prevSnap.eOut, f x.snap.loss x.prevSnap.loss)
    (s.updSt g (fun y => { y with lastContrib := c }), c)
  else (s, x.lastContrib)

/-- The energy of a slot since the last tick in nJ, the rest below 1 nJ carried. -/
def State.slotNj (s : State) (n : Nat) : Int := (s.slot n).eTick / 524288000

/-- Energy accounting at a tick (R368, R369). Slot input energy over the interval is what joined SLOT_E, in nJ; without any, the
shelf loss is shared with nobody (DESIGN CHOICE, log 201). -/
def State.energyTick (s : State) (interval : Nat) : State :=
  let shelfNj := divRound (s.shelfLoss * interval * 5) 8000
  let slotNj := s.slotNj
  let total := sumInt ((List.range 64).map slotNj)
  let (s, used) := (List.range 64).foldl (fun (a : State × Int) n =>
    let (s, used) := a
    let e := slotNj n
    let h := s.slotOwner n
    let share := if total = 0 then 0 else divRound (shelfNj * e) total
    let (s, ein) := ((s.stitches.filter (fun y => decide (y.1 / 128 = n) && y.2.skein.isSome)).map (·.1)).foldl
      (fun (b : State × Int) g =>
        let (s, c) := b.1.contrib g interval
        let o := s.stOwner g
        (((((s.addEnergy o 0 c.2.1).addEnergy o 1 c.2.2).addEnergy o 4 (c.2.1 + c.2.2)), b.2 + c.1))) (s, 0)
    let s := ((s.addEnergy h 2 (e - ein)).addEnergy h 3 share).addEnergy h 4 (e - ein + share)
    (s, used + share)) (s, 0)
  let left := (s.pairVal aSHELF_UNALLOC_LO aSHELF_UNALLOC_HI : Int) + (if total = 0 then 0 else shelfNj - used)
  let s := (List.range 64).foldl (fun (s : State) (n : Nat) =>
    if (s.slot n).eTick = 0 then s else s.updSlot n (fun x => { x with eTick := x.eTick % 524288000 })) s
  s.setPair aSHELF_UNALLOC_LO aSHELF_UNALLOC_HI (left % 2 ^ 64).toNat

/-- The optimiser's freeze conditions (R355): hold-up active, battery discharging, mains lost. -/
def State.optFrozen (s : State) : Bool :=
  decide (s.get HU_STATUS_state ≠ 0) || decide (s.get HU_STATUS_mains = 2) ||
    s.strIds.any (fun i => decide (fromField 32 (s.get (BAT_I_v i)) < 0))

/-- A skein's interval enters its fit (R356, R357): bins of I squared over the limit's square (log 21). -/
def State.skeinBin (s : State) (k interval : Nat) : State :=
  let x := s.sk k
  let loss := sumInt ((s.bound k).map (fun g => (s.st g).snap.loss - (s.st g).prevSnap.loss))
  let p := sumInt ((s.bound k).map (fun g => (s.st g).snap.eOut - (s.st g).prevSnap.eOut))
  let steady := decide ((p - x.pPrev) * 10 ≤ x.pPrev ∧ (x.pPrev - p) * 10 ≤ x.pPrev)
  let (n0, lo, hi) := if x.wait4.2.1 = 0 then (0, p, p) else (x.wait4.2.1, if p < x.wait4.2.2.1 then p else x.wait4.2.2.1, if x.wait4.2.2.2 < p then p else x.wait4.2.2.2)
  let (sm, n) := (if n0 = 0 then p else x.wait4.1 + p, n0 + 1)
  -- a power outside 10 % of its mean restarts the wait of R358
  let calm := decide (hi * (10 * n : Nat) ≤ 11 * sm ∧ 9 * sm ≤ lo * (10 * n : Nat))
  let s := s.updSk k (fun y => { y with
    pPrev := p, wait4 := if calm then (sm, n, lo, hi) else (p, 1, p, p),
    unusableSince := if calm then y.unusableSince else y.unusableSince.map (fun _ => s.ct) })
  let mw := divRound (loss * 8000) (5 * (Nat.max 1 interval : Nat))
  let clean := steady && decide (x.settle = 0 ∧ s.shelf.busSettle = 0 ∧ x.job.skeinState = 2)
  let s := s.updSk k (fun y => { y with lossMw := mw, clean := clean })
  if !clean then s else
  let i2 := x.isk * x.isk
  let b := (clampI 0 15 (i2 * 16 / (x.lim.ilimMa * x.lim.ilimMa))).toNat
  let new := (x.fitBins.filter (fun z => !(decide (z.1 = x.job.count ∧ z.2.1 = b)))) ++ [(x.job.count, b, i2, mw)]
  s.updSk k (fun y => { y with fitBins := new })

/-- A tick plans while the optimiser runs; a freeze that now holds comes first (R355, R367). -/
def State.optPlan (s : State) : State :=
  let st := s.get OPT_STATUS_state
  if s.optFrozen then (if st = 1 then s.optFreeze 2 else s)
  else
    let s := if st = 2 then s.setF OPT_STATUS_state (if s.shelf.optRun then 1 else 3) else s
    if s.get OPT_STATUS_state ≠ 1 then s else
    let loss := s.shelfLoss + sumInt (s.skeins.map (fun x => x.2.lossMw))
    let s := (s.optRect).optBus loss
    let s := (s.skeins.map (·.1)).foldl (fun s k => s.optSkein k) s
    s.setB OPT_STATUS_pending (s.shelf.removing || decide (0 < s.shelf.rectSettle ∨ 0 < s.shelf.busSettle) ||
      s.skeins.any (fun x => decide (0 < x.2.settle)))

/-- OPT_TICK (R355 to R369): accounts the interval, posts the next chassis-wide snapshot (R241) and plans. -/
def execOptTick (s : State) : Out3 :=
  if !s.shelfOn ∨ s.ct < s.shelf.tickAt then .next s else
  let interval := s.shelf.tickLen
  let next := if 2 ≤ s.get THM_STATUS_stage then ms 100 else ms 10
  let s := s.updShelf (fun h => { h with tickAt := s.ct + next, tickLen := next, ticks := h.ticks + 1 })
  let s := s.energyTick interval
  let s := s.updShelf (fun h => { h with
    pBus := lastN 100 (h.pBus ++ [s.busOut]), rectSettle := h.rectSettle - 1, busSettle := h.busSettle - 1 })
  let s := if s.busClean then (s.capRects.filter (fun r => !s.is (RECT_STATE_lost r))).foldl (fun s r => s.rectBin r) s else s
  let s := (s.skeins.map (·.1)).foldl (fun s k => s.skeinBin k interval) s
  let s := s.fwPost (s.ct + next) ((List.range 64).map (fun p => EphAct.regWrite (aRED_CTRL p) 4 4)) false none
  let s := s.tellShelf.optPlan
  .next ((s.skeins.map (·.1)).foldl (fun s k => if (s.sk k).settle = 0 then s else s.updSk k (fun y => { y with settle := y.settle - 1 })) s)

/-- OPT_PROBE (R358): one stitch down where allowed, else up, once an hour, after 60 s without a usable fit. -/
def execOptProbe (k : Fin 2048) (s : State) : Out3 :=
  let x := s.sk k
  let old := match x.unusableSince with
    | some t => decide (t + sec 60 ≤ s.ct)
    | none => false
  if !s.shelfOn || decide (s.get OPT_STATUS_state ≠ 1) || !x.optCount || !old || decide (0 < x.settle ∨ 0 < s.shelf.busSettle ∨ s.ct < x.dwellUntil) ||
      decide (x.probeAt ≠ 0 ∧ s.ct < x.probeAt + sec 3600) then .next s else
  let c := x.job.count
  let pick := if s.countAllowed k (c - 1) && decide (x.lim.nMin < c) then some (c - 1)
    else if decide (c < x.lim.nMax) && s.countAllowed k (c + 1) then some (c + 1) else none
  match pick with
  | none => .next s
  | some c' =>
    let s := s.updSk k (fun y => { y with probeAt := s.ct, dwellUntil := s.ct + ms 100, settle := 3 })
    .next (s.fwPost (s.ct + ms 1) [.count k c'] true none)

/-! ### Commands (R370 to R372) -/

/-- RECT_QUERY. -/
def execRectQuery (mb : Mb) (k : Fin 64) (s : State) : Out3 :=
  .next (s.command mb k 0x801 (fun _ p => { bad := [outside 0 (u8 p 0) 0 47] }) (fun s p =>
    let r := u8 p 0
    let x := s.rect r
    s.finish mb k 0 (x.state + 8 * (s.get (RECT_STATE_lost r)))
      (toField 32 (sat32 x.poutMw) + toField 16 (sat16 x.trim) * 2 ^ 32 + toField 16 (sat16 x.temp) * 2 ^ 48)))

/-- RECT_CTRL: op 0 reads STATUS_WORD, and a clean one clears failed; op 1 drains and excludes, op 2 includes. -/
def execRectCtrl (mb : Mb) (k : Fin 64) (s : State) : Out3 :=
  .next (s.command mb k 0x802
    (fun s p => {
      bad := [outside 0 (u8 p 0) 0 47, outside 1 (u8 p 1) 0 2],
      busy := if (u8 p 1 = 1 ∧ (s.rect (u8 p 0)).state = 3 ∧ !s.mayRemove (u8 p 0)) ∨ (u8 p 1 = 0 ∧ (s.rect (u8 p 0)).ctrlFor.isSome) then some 6 else none })
    (fun s p =>
      let r := u8 p 0
      let x := s.rect r
      match u8 p 1 with
      | 0 => if x.state = 6 then
          (s.twPush x.tw [(r, 0x79, 4)]).updRect r (fun y => { y with ctrlFor := some (mb.val, k.val) })
        else s.okay mb k
      | 1 => if x.state = 3 then (s.startDrain r true).updRect r (fun y => { y with ctrlFor := some (mb.val, k.val) })
        else s.okay mb k
      | _ => (if x.state = 7 then s.rectSet r 1 else s).okay mb k))

/-- The settings of R353 and R362, run and pause. -/
def State.applyOpt (s : State) (p : List Byte) : State :=
  let run := (u8 p 0).testBit 0
  let s := s.updShelf (fun h => { h with
    optRun := run, rectEn := (u8 p 0).testBit 1, busEn := (u8 p 0).testBit 2, nRed := u8 p 1, reserve := u16 p 2,
    busMin := u32 p 4, busMax := u32 p 8, busStep := u16 p 12, trimLim := u16 p 14, busOv := u32 p 16,
    busUv := u32 p 20, acFilterUs := u16 p 24 })
  if run then s.setF OPT_STATUS_state (if s.optFrozen then 2 else 1) else s.optFreeze 3

/-- The checks of OPT_CTRL (R353). -/
def optChecks (p : List Byte) : Checks :=
  { bad := [
      (0, decide (8 ≤ u8 p 0)), outside 1 (u8 p 1) 0 16, outside 2 (u16 p 2) 0 16384,
      (4, decide (u32 p 4 < u32 p 20 + 1000)),
      (8, decide (u32 p 8 < u32 p 4 ∨ 60000 < u32 p 8)), outside 12 (u16 p 12) 10 1000, outside 14 (u16 p 14) 0 1000,
      (16, decide (u32 p 16 ≤ u32 p 8 + 999)), (20, decide (u32 p 4 ≤ u32 p 20 + 999)),
      outside 24 (u16 p 24) 10 1000, resv p 26 32] }

/-- OPT_CTRL. -/
def execOptCtrl (mb : Mb) (k : Fin 64) (s : State) : Out3 :=
  .next (s.command mb k 0x810
    (fun _ p => optChecks p)
    (fun s p => (s.applyOpt p).okay mb k))

/-- The rate list of a payload: ascending rates in range, zeros last, reserved bytes 0. -/
def policyRates (p : List Byte) : List (Nat × Nat) :=
  (([0, 1, 2, 3] : List Nat).map (fun i => (u32 p (4 + 8 * i), u8 p (8 + 8 * i)))).filter (fun r => decide (r.1 ≠ 0))

/-- The flags and the rate list of OPT_SKEIN_POLICY. -/
def State.applyPolicy (s : State) (p : List Byte) : State :=
  let k := u16 p 0
  s.updSk k (fun x => { x with
    optCount := (u8 p 2).testBit 0, optRate := (u8 p 2).testBit 1, rates := policyRates p })

/-- ENERGY_READ: a VI reads itself. -/
def execEnergyRead (mb : Mb) (k : Fin 64) (s : State) : Out3 :=
  .next (s.command mb k 0x820
    (fun _ p => { bad := [(0, decide (mb.val = 256 ∧ 256 < u16 p 0)), outside 2 (u8 p 2) 0 4] })
    (fun s p =>
      let h := if mb.val = 256 then u16 p 0 else mb.val
      s.finish mb k 0 (s.shelf.ticks % 65536) (Tbl.get s.shelf.energy (8 * h + u8 p 2) 0)))

end Sys2Proof.Machine
end

