-- ==== Sys2Proof/Machine/Holdup.lean ====
section
/-! DEFINITION. Hold-up and the battery shelf (R373 to R405). -/
namespace Sys2Proof.Machine

/-- One mC in the unit of a string's count: mA times ticks (R390). -/
def mcTicks : Int := 1600000000
/-- q_s in mC, rounded. -/
def Str.mc (x : Str) : Int := divRound x.q mcTicks

/-- The open-circuit voltage at q / qfull, exact, as a numerator over `qfull` (R382). -/
def Str.ocvNum (x : Str) (q qfull : Int) : Int :=
  let i := (clampI 0 15 (q * 16 / qfull)).toNat
  let a := x.ocv.getD i 0
  let b := x.ocv.getD (i + 1) a
  a * qfull + (b - a) * (q * 16 - i * qfull)

/-- The index of the table interval that holds voltage `v`. -/
def ocvIndex (v : Int) : List Int → Nat → Nat
  | _ :: b :: t, i => if v < b then i else match t with
    | [] => i
    | _ => ocvIndex v (b :: t) (i + 1)
  | _, i => i

/-- ocv_inv of R382 times `scale`, rounded once: the charge at which the table equals `v`. -/
def Str.ocvInv (x : Str) (v scale : Int) : Int :=
  if v ≤ x.ocv.getD 0 0 then 0
  else if x.ocv.getD 16 0 ≤ v then scale
  else
    let i := ocvIndex v x.ocv 0
    let a := x.ocv.getD i 0
    let d := x.ocv.getD (i + 1) a - a
    divRound (scale * (i * d + (v - a))) (16 * d)

/-- The discharge current of a string, 0 while charging. -/
def State.iDis (s : State) (i : Nat) : Int :=
  let a := fromField 32 (s.get (BAT_I_v i))
  if a < 0 then -a else 0

/-- i_ref, ir and q_zero of R382 for a string. -/
def State.zeroOf (s : State) (i : Nat) : Int × Int × Int :=
  let x := s.str i
  let qf : Int := x.qfull
  let n : Int := s.strIds.length
  let share := divRound (s.shelf.pLoad * 1000 * qf) (n * x.ocvNum x.mc qf)
  let iRef := if share < s.iDis i then s.iDis i else share
  let ir := divRound (iRef * x.rint) 1000000
  (iRef, ir, x.ocvInv (s.shelf.vShut + ir) qf)

/-- The energy of a string to the shutdown voltage (R382), in mJ. -/
def State.energyOf (s : State) (i : Nat) : Int :=
  let x := s.str i
  let qf : Int := x.qfull
  let (_, ir, qz) := s.zeroOf i
  let dq := if x.mc < qz then 0 else x.mc - qz
  divRound (dq * (x.ocvNum x.mc qf + (s.shelf.vShut - ir) * qf)) (2000 * qf)

/-- A warning level after hysteresis (R396): thresholds warn, low, critical. -/
def levelOf (old soc : Nat) (th : List Nat) : Nat :=
  let fall := (th.filter (fun t => decide (soc < t))).length
  let rise := (th.filter (fun t => decide (soc < t + 655))).length
  if old ≤ fall then fall else if rise < old then rise else old

def q15Frac (num den : Int) : Nat :=
  if den ≤ 0 ∨ num ≤ 0 then 0 else (clampI 0 32767 (divRound (num * 32768) den)).toNat

/-- Charge registers of a string (R390, R395): BAT_Q, BAT_QFULL, BAT_SOC and its level (R396). -/
def State.pubStr (s : State) (i : Nat) : State :=
  let x := s.str i
  let (_, _, qz) := s.zeroOf i
  let soc := q15Frac (x.mc - qz) (x.qfull - qz)
  let s := (s.setI (BAT_Q_v i) x.mc).setF (BAT_QFULL_v i) x.qfull
  let s := (s.setF (BAT_SOC_rescaled i) soc).setF (BAT_SOC_raw i) (q15Frac x.mc x.qfull)
  let s := s.setI (BAT_RINT_v i) x.rint
  let old := s.get (BAT_STATE_level i)
  let lv := levelOf old soc [s.shelf.warn, s.shelf.low, s.shelf.crit]
  let s := s.setF (BAT_STATE_level i) lv
  if old < lv then s.raise .battLevel i else if lv = 0 then s.gone .battLevel i else s

/-- The slot an action names: SLOT_SET_BREAKER's. -/
def EphAct.slot? : EphAct → Option Nat
  | .command op pl => if op = 0xC03 then some (pl.getD 0 0).toNat else none
  | _ => none

/-- Hold-up steps whose trigger holds are posted, once per episode (R385). -/
def State.huSteps (s : State) (elapsedMs : Nat) : State :=
  if s.get HU_STATUS_state ≠ 1 ∧ s.get HU_STATUS_state ≠ 3 then s else
  (List.range (Nat.min 8 s.pattern.steps.length)).foldl (fun s i =>
    match s.pattern.steps[i]? with
    | none => s
    | some (kind, v, acts, _) =>
      let hit := match kind with
        | 0 => decide (v ≤ elapsedMs)
        | 1 => decide (s.get HU_RIDE_v < v)
        | _ => decide (s.get BATT_CHASSIS_soc < v)
      if hit && !s.shelf.posted.contains i then
        let s := s.updShelf (fun h => { h with posted := h.posted ++ [i] })
        let s := s.count HU_CNT_steps
        let s := s.fwPost (s.ct + ms 1) acts false (some i)
        let owners := ((acts.filterMap EphAct.skein?).map s.skOwner ++ (acts.filterMap EphAct.slot?).map s.slotOwner).eraseDups.filter (· ≠ afMb)
        owners.foldl (fun s v => s.event v 0x0504 (leBytes 1 i)) s
      else s) s

/-- The hold-up settings of a payload (R402). -/
def State.applyHoldup (s : State) (p : List Byte) : State :=
  s.updShelf (fun h => { h with
    vShut := u32 p 0, targetS := u16 p 4, sag := u16 p 6, stableMs := u32 p 8, minMs := u32 p 12, warn := u16 p 16,
    low := u16 p 18, crit := u16 p 20, chgMin := i16 p 22, chgMax := i16 p 24, huNext := none })
/-- A load that waits takes effect at a computation of R382 (R402). -/
def State.takeHoldup (s : State) : State :=
  match s.shelf.huNext with
  | some p => s.applyHoldup p
  | none => s

/-- HOLDUP_BUDGET (R382, R383, R395, R396): the energy to shutdown, P_allow, levels and steps. -/
def execHoldupBudget (s : State) : Out3 :=
  if !s.shelfOn ∨ s.ct < s.shelf.budgetAt then .next s else
  let s := s.takeHoldup
  let e := sumInt (s.strIds.map s.energyOf)
  let pl := s.shelf.pLoad
  let ride : Nat := if pl = 0 then Config.rideIdle e else (divRound e pl).toNat
  let lim := divRound (sumInt (s.strIds.map (fun i => (s.str i).iDisMax * fromField 32 (s.get (BAT_V_v i))))) 1000
  let elapsed := if s.get HU_STATUS_state = 0 then 0 else (s.ct - s.shelf.enteredAt) / ms 1
  let target := s.shelf.targetS * 1000
  let drain := if elapsed < target then
      let d := divRound (e * 1000) (target - elapsed : Nat)
      if d < lim then d else lim
    else lim
  let allow := (s.pRect : Int) + drain
  let s := s.updShelf (fun h => { h with
    budgetAt := s.ct + ms 10, lim := lim, drain := drain,
    zeroSince := if e = 0 then some (h.zeroSince.getD s.ct) else none })
  let s := (s.setF HU_RIDE_v (Nat.min ride (2 ^ 32 - 1))).setF HU_ALLOW_v (clampI 0 (2 ^ 32 - 1) allow).toNat
  let s := s.strIds.foldl (fun s i => s.pubStr i) s
  let pos := fun (x : Int) => if x < 0 then 0 else x
  let num := sumInt (s.strIds.map (fun i => pos ((s.str i).mc - (s.zeroOf i).2.2)))
  let den := sumInt (s.strIds.map (fun i => pos ((s.str i).qfull - (s.zeroOf i).2.2)))
  let soc := q15Frac num den
  let old := s.get BATT_CHASSIS_level
  let lv := if s.strIds.isEmpty then old else levelOf old soc [s.shelf.warn, s.shelf.low, s.shelf.crit]
  let s := (s.setF BATT_CHASSIS_soc soc).setF BATT_CHASSIS_level lv
  let s := if lv = old then s else s.vector3
  .next (s.huSteps elapsed).settle

/-- BUS_SAG_TIMER (R378): cause 2 after 200 µs below the set-point less sag_mv. -/
def execBusSagTimer (s : State) : Out3 := .next (s.holdupCheck).settle

/-- HOLDUP_EXHAUSTED (R384): the shutdown voltage or e at 0 for 1 ms. -/
def execHoldupExhausted (s : State) : Out3 :=
  let due := fun (o : Option Nat) => match o with
    | some t => decide (t + ms 1 ≤ s.ct)
    | none => false
  let st := s.get HU_STATUS_state
  if s.shelfOn && decide (st = 1 ∨ st = 2) && (due s.shelf.shutSince || due s.shelf.zeroSince) then
    let s := (s.setF HU_STATUS_state 3).flag HU_STATUS_exhausted_seen
    let s := (s.level .huExhausted 0 true).tellShelf.vector3
    .next (s.chassisShutdown).settle
  else .next s

/-- HOLDUP_RETURN (R387 to R389): to returning, with the restores of the applied steps in descending order. -/
def execHoldupReturn (s : State) : Out3 :=
  let st := s.get HU_STATUS_state
  let covered := match s.shelf.coverSince with
    | some t => decide (t + ms s.shelf.stableMs ≤ s.ct)
    | none => false
  let from_ := decide (st = 1) || (decide (st = 3) && decide (s.get CHASSIS_PWR_state ≠ 1))
  if s.shelfOn && from_ && decide (s.get HU_STATUS_phase_lost = 0) && covered &&
      decide (s.shelf.enteredAt + ms s.shelf.minMs ≤ s.ct) then
    -- a cause that holds in the same cycle wins, and the stable time starts again
    if s.holdupCauses ≠ 0 then .next (s.updShelf (fun h => { h with coverSince := some s.ct })) else
    let s := (s.setF HU_STATUS_state 2).updShelf (fun h => { h with settledSince := none })
    let s := (s.gone .huExhausted 0).tellShelf.vector3
    .next (([7, 6, 5, 4, 3, 2, 1, 0] : List Nat).foldl (fun s i =>
      if s.shelf.applied.contains i || s.shelf.posted.contains i then
        match s.pattern.steps[i]? with
        | some (_, _, _, restore) => s.fwPost (s.ct + ms 1) restore false (some (8 + i))
        | none => s
      else s) s)
  else .next s

/-- HOLDUP_NORMAL (R380, R388, R425, R426): PFW_N released, warnings end. -/
def execHoldupNormal (s : State) : Out3 :=
  let ok := match s.shelf.settledSince with
    | some t => decide (t + sec 1 ≤ s.ct)
    | none => false
  if s.shelfOn && decide (s.get HU_STATUS_state = 2) && ok then
    let s := ((s.setF HU_STATUS_state 0).pfw false).gone .huEntry 0
    let s := s.tellShelf.vector3
    let s := (s.liveSlots.filter (fun n => (s.slot n).cutAt.isNone)).foldl (fun s n => s.unwarnSlot n) s
    -- cast-on step 2 has waited for normal: its limit runs from now (R424)
    .next ((List.range 64).foldl (fun s n => if s.slSt n = 2 ∧ (s.slot n).step = 2 then
      s.updSlot n (fun x => { x with stepAt := s.ct }) else s) s)
  else .next s

/-! ### Strings -/

/-- BATT_STATUS_POLL (R375): STATUS_WORD of the module, every 100 ms. -/
def execBattStatusPoll (i : Fin 16) (s : State) : Out3 :=
  if s.shelfOn ∧ s.strIds.contains i then .next (s.twPush (s.str i).tw [(64 + i.val, 0x79, 3)]) else .next s

/-- The module's STATUS_WORD has answered. -/
def State.strStatus (s : State) (i w : Nat) : State :=
  let s := ((s.updStr i (fun x => { x with commFails := 0 })).setB (BAT_STATE_comm_lost i) false).gone .battComm i
  if w.testBit 4 || w.testBit 5 || w.testBit 6 then
    let s := s.strCharge i false
    (s.emit (.pmbus (s.str i).tw (s.str i).addr 0x03 0)).level .battFault i true
  else s.eval .battFault i false
def State.strFailed (s : State) (i : Nat) : State :=
  let s := s.updStr i (fun x => { x with commFails := x.commFails + 1 })
  if 3 ≤ (s.str i).commFails then (s.setB (BAT_STATE_comm_lost i) true).level .battComm i true else s

/-- An analogue input scaled as its pattern entry says (R373): num * value / den + offset, the value the mean of the last
`n` results (R391). -/
def State.ainVal (s : State) (input n : Nat) (sc : Int × Int × Int) : Int :=
  let l := lastN n (s.ain input).hist
  let (sum, c) := if l.isEmpty then (s.get (ADC_RES_value (input / 32) (input % 32)), 1) else (sumNat l, l.length)
  divRound ((sum : Int) * sc.1) (sc.2.1 * c) + sc.2.2
def State.ainOk (s : State) (input : Nat) : Bool :=
  s.is (ADC_RES_valid (input / 32) (input % 32)) && !s.is (ADC_RES_open (input / 32) (input % 32))

def absI (x : Int) : Int := if x < 0 then -x else x

/-- The learning run of a string at a sample (R397, R398). -/
def State.learnStep (s : State) (i : Nat) (v a t : Int) (dt : Nat) : State :=
  let x := s.str i
  let st := s.get (BAT_STATE_learn i)
  let dis := if a < 0 then -a else 0
  -- the run starts at the first discharging sample
  let first := decide (st = 1 ∧ a < 0)
  let dt := if first then 0 else dt
  let s := if first then (s.setF (BAT_STATE_learn i) 2).updStr i (fun y => { y with qd := 0, interruptAt := none }) else s
  if first ∨ st = 2 then
    let s := s.updStr i (fun y => { y with
      qd := y.qd + dis * dt,
      interruptAt := if dis * 360000 < x.qfull then some (y.interruptAt.getD s.ct) else none })
    if t < 240 ∨ 560 < t ∨ (x.qfull : Int) < dis * 18000 then s.learnDisq i
    else
      let lim := x.ocvNum (divRound ((x.qfull * x.learnEnd : Nat) : Int) 32768) x.qfull
      if (v * 1000000 + dis * x.rint) * x.qfull ≤ lim * 1000000 then
        let new := divRound ((s.str i).qd * 32768) (mcTicks * (32768 - x.learnEnd))
        if (x.qNom : Int) ≤ 2 * new ∧ 100 * new ≤ 110 * (x.qNom : Int) then
          let s := s.updStr i (fun y => { y with
            qfull := new.toNat, q := divRound (new * x.learnEnd * mcTicks) 32768 })
          (s.setF (BAT_STATE_learn i) 0).flag (BAT_STATE_learn_done i)
        else s.learnDisq i
      else s
  else s

/-- BATT_SAMPLE (R390, R391, R394, R397, R398, R400): one sample of a string at its mode's interval. -/
def execBattSample (i : Fin 16) (s : State) : Out3 :=
  let x := s.str i
  let m := s.get (BAT_STATE_mode i)
  let gap := if m = 0 then us 10 else if m = 1 then ms 1 else sec 1
  if !s.active || !s.strIds.contains i || decide (s.ct < x.sampledAt + gap) || !s.ainOk x.ainV || !s.ainOk x.ainI then .next s else
  let n := if m = 0 then 1 else if m = 1 then 16 else 64
  let v := s.ainVal x.ainV n x.scV
  let a := s.ainVal x.ainI n x.scI
  let t := s.ainVal x.ainT n x.scT
  let dt := if x.prevI.isNone then 0 else s.ct - x.sampledAt
  let s := ((s.setI (BAT_V_v i) v).setI (BAT_I_v i) a).setI (BAT_T_v i) t
  let dv := match x.prevI with
    | some (pv, pa) => (v - pv, a - pa)
    | none => (0, 0)
  let r := if m = 0 ∧ 20000 ≤ absI dv.2 then divRound (-dv.1 * 1000000) dv.2 else 0
  let rint := if 1000 ≤ r ∧ r ≤ 60000 then x.rint + divRound (r - x.rint) 16 else x.rint
  let chg := s.is (BAT_STATE_chg_on i)
  let s := s.updStr i (fun y => { y with
    q := clampI 0 (y.qfull * mcTicks) (y.q + a * dt), rint := rint, sampledAt := s.ct, prevI := some (v, a),
    lowSince := if absI a < 2000 then some (y.lowSince.getD s.ct) else none,
    idleSince := if absI a < 200 ∧ !chg then some (y.idleSince.getD s.ct) else none,
    fullSince := if chg ∧ y.vFull ≤ v ∧ a < y.iTaper then some (y.fullSince.getD s.ct) else none })
  let s := s.learnStep i v a t dt
  let s := if (m = 1 ∧ 2000 ≤ absI a) ∨ (m = 2 ∧ 200 ≤ absI a) then
      (s.strMode i 0).updStr i (fun y => { y with hibSince := none, restDone := false })
    else s
  let inh := s.is (BAT_STATE_chg_inhibit i)
  let bad := decide (t < s.shelf.chgMin ∨ s.shelf.chgMax < t)
  let back := decide (s.shelf.chgMin + 32 ≤ t ∧ t ≤ s.shelf.chgMax - 32)
  let s := if bad && !inh then
      let s := (s.setB (BAT_STATE_chg_inhibit i) true).level .battTemp i true
      s.strCharge i false
    else if inh && back then (s.setB (BAT_STATE_chg_inhibit i) false).gone .battTemp i else s
  .next (s.pubStr i).settle

/-- BATT_MODE_TIMER (R391): reduced after 1 s, hibernating after 600 s with the charge path off. -/
def execBattModeTimer (i : Fin 16) (s : State) : Out3 :=
  let x := s.str i
  let m := s.get (BAT_STATE_mode i)
  let past := fun (o : Option Nat) (d : Nat) => match o with
    | some t => decide (t + d ≤ s.ct)
    | none => false
  if !s.strIds.contains i then .next s
  else if decide (m = 0 ∨ m = 1) && past x.idleSince (sec 600) && !s.is (BAT_STATE_chg_on i) then
    .next ((s.strMode i 2).updStr i (fun y => { y with hibSince := some s.ct, restDone := false }))
  else if decide (m = 0) && past x.lowSince (sec 1) then .next (s.strMode i 1)
  else .next s

/-- The full-charge correction (R392). -/
def State.fullCorrect (s : State) (i : Nat) : State :=
  let s := s.updStr i (fun y => { y with q := y.qfull * mcTicks, fullSeen := true })
  ((s.strCharge i false).setF (BAT_STATE_learn i) 1).pubStr i

/-- FULL_CHARGE_CORRECT: charge on, at v_full_mv and below i_taper_ma for 60 s. -/
def execFullChargeCorrect (i : Fin 16) (s : State) : Out3 :=
  match (s.str i).fullSince with
  | some t => if t + sec 60 ≤ s.ct ∧ s.is (BAT_STATE_chg_on i) then .next (s.fullCorrect i).settle else .next s
  | none => .next s

/-- REST_CORRECT (R393): once per hibernation of 1,800 s. -/
def execRestCorrect (i : Fin 16) (s : State) : Out3 :=
  let x := s.str i
  match x.hibSince with
  | some t =>
    if t + sec 1800 ≤ s.ct ∧ !x.restDone ∧ s.get (BAT_STATE_mode i) = 2 ∧ !s.is (BAT_STATE_chg_on i) then
      let v := fromField 32 (s.get (BAT_V_v i))
      let j := ocvIndex v x.ocv 0
      let s := s.updStr i (fun y => { y with restDone := true })
      if x.ocv.getD (j + 1) 0 - x.ocv.getD j 0 < 20 then .next s
      else
        let goal := x.ocvInv v (x.qfull * mcTicks)
        .next ((s.updStr i (fun y => { y with q := clampI 0 (y.qfull * mcTicks) (y.q + divRound (goal - y.q) 2) })).pubStr i).settle
    else .next s
  | none => .next s

/-- LEARN_INTERRUPT (R398): an interruption of more than 60 s, by low discharge or without valid samples, disqualifies
the run. -/
def execLearnInterrupt (i : Fin 16) (s : State) : Out3 :=
  let x := s.str i
  if s.get (BAT_STATE_learn i) = 2 ∧ Nat.min (x.interruptAt.getD x.sampledAt) x.sampledAt + sec 60 < s.ct then .next (s.learnDisq i)
  else .next s

/-- Whether the last condition of R399 holds with the strings of `l` charging. -/
def State.chargeRoom (s : State) (l : List Nat) : Bool :=
  decide ((s.shelf.pLoad + sumNat (l.map (fun i => (s.str i).chgMw))) * (32768 + s.shelf.reserve) ≤ (s.pRect : Int) * 32768)

/-- Strings turned off, highest raw charge first, while the power condition fails (R399). -/
def State.chargeOff (s : State) : List Nat → State
  | [] => s
  | i :: t =>
    let on := s.strIds.filter (fun j => s.is (BAT_STATE_chg_on j))
    if s.chargeRoom on then s else (s.strCharge i false).chargeOff t

/-- Ids sorted by raw charge, rising, ties in ascending id. -/
def State.byCharge (s : State) (l : List Nat) : List Nat :=
  l.foldl (fun acc i =>
    acc.takeWhile (fun j => decide ((s.str j).q ≤ (s.str i).q)) ++ [i] ++ acc.dropWhile (fun j => decide ((s.str j).q ≤ (s.str i).q))) []

/-- CHARGE_CONTROL (R399). -/
def execChargeControl (s : State) : Out3 :=
  if !s.shelfOn then .next s else
  let on := s.strIds.filter (fun i => s.is (BAT_STATE_chg_on i))
  let s := (on.filter (fun i => !s.hupNormal || s.is (BAT_STATE_chg_inhibit i) || (s.str i).inhibitCmd)).foldl (fun s i => s.strCharge i false) s
  let on := s.strIds.filter (fun i => s.is (BAT_STATE_chg_on i))
  let s := s.chargeOff (s.byCharge on).reverse
  let on := s.strIds.filter (fun i => s.is (BAT_STATE_chg_on i))
  if !s.hupNormal ∨ s.ct < s.shelf.chgAt then .next s else
  let may := (s.byCharge (s.strIds.filter (fun i => !on.contains i && !s.is (BAT_STATE_chg_inhibit i) && !(s.str i).inhibitCmd &&
    !s.is (BAT_STATE_test i) && (decide (s.get (BAT_SOC_rescaled i) < 31130) || !(s.str i).fullSeen)))).find? (fun i => s.chargeRoom (i :: on))
  match may with
  | some i => .next ((s.strCharge i true).updShelf (fun h => { h with chgAt := s.ct + sec 1 }))
  | none => .next s

/-! ### Commands -/

/-- HOLDUP_QUERY (R403). -/
def execHoldupQuery (mb : Mb) (k : Fin 64) (s : State) : Out3 :=
  .next (s.command mb k 0x901 (fun _ _ => {}) (fun s _ =>
    s.finish mb k 0 (s.get HU_STATUS_state + 4 * s.get HU_STATUS_mains + 16 * s.get HU_STATUS_pfw +
        32 * s.get HU_STATUS_phase_lost + 256 * s.get HU_STATUS_cause)
      (s.get BATT_CHASSIS_soc + 2 ^ 16 * Nat.min 65535 (s.get HU_RIDE_v) + 2 ^ 32 * s.get HU_ALLOW_v)))

/-- HOLDUP_CTRL (R402). -/
def execHoldupCtrl (mb : Mb) (k : Fin 64) (s : State) : Out3 :=
  .next (s.command mb k 0x902
    (fun s p => { bad := [
      (0, decide (u32 p 0 < 30000 ∨ s.shelf.busUv < u32 p 0)), outside 4 (u16 p 4) 0 3600, outside 6 (u16 p 6) 500 10000,
      outside 8 (u32 p 8) 1000 600000, outside 12 (u32 p 12) 100 60000,
      (16, decide (32768 ≤ u16 p 16)), (18, decide (u16 p 16 ≤ u16 p 18)), (20, decide (u16 p 18 ≤ u16 p 20)),
      resv p 26 32] })
    (fun s p => (s.updShelf (fun h => { h with huNext := some p })).okay mb k))

/-- BATT_QUERY (R405). -/
def execBattQuery (mb : Mb) (k : Fin 64) (s : State) : Out3 :=
  .next (s.command mb k 0x910 (fun _ p => { bad := [outside 0 (u8 p 0) 0 15] }) (fun s p =>
    let i := u8 p 0
    s.finish mb k 0 (s.get (BAT_STATE_mode i) + 4 * s.get (BAT_STATE_level i) + 16 * s.get (BAT_STATE_learn i) +
        64 * s.get (BAT_STATE_chg_on i) + 128 * s.get (BAT_STATE_chg_inhibit i))
      (s.get (BAT_Q_v i) + 2 ^ 32 * s.get (BAT_SOC_rescaled i) + 2 ^ 48 * s.get (BAT_SOC_raw i))))

/-- BATT_CTRL (R404). -/
def execBattCtrl (mb : Mb) (k : Fin 64) (s : State) : Out3 :=
  .next (s.command mb k 0x911
    (fun s p => {
      bad := [(0, !s.strIds.contains (u8 p 0)), outside 1 (u8 p 1) 0 4],
      busy := if u8 p 1 = 2 && (!s.hupNormal || s.strIds.any (fun i => s.is (BAT_STATE_test i))) then some 2 else none })
    (fun s p =>
      let i := u8 p 0
      let s := match u8 p 1 with
        | 0 => (s.updStr i (fun x => { x with inhibitCmd := true })).strCharge i false
        | 1 => s.updStr i (fun x => { x with inhibitCmd := false })
        | 2 => ((s.setB (BAT_STATE_chg_on i) false).updStr i (fun x => { x with fullSince := none })).strOper i 0x98
        | 3 => if s.is (BAT_STATE_test i) then s.strOper i 0 else s
        | _ => s.fullCorrect i
      (s.okay mb k).settle))

end Sys2Proof.Machine
end

