-- ==== Sys2Proof/Machine/Slots.lean ====
section
/-! DEFINITION. Slots, breakers and power budgets (R406 to R439). -/
namespace Sys2Proof.Machine

/-- The skein that names a stitch in the pattern. -/
def State.skeinOf (s : State) (g : Nat) : Option Nat := (s.slotSkeins (g / 128)).find? (fun k => (s.sk k).stitches.contains (g % 128))

/-- The combined offset of a stitch (R97): of a bound stitch the one in force; of an unbound one the offset it has while
every stitch of its skein takes part in the stagger (R112; DESIGN CHOICE, log 155). -/
def State.refOffset (s : State) (g : Nat) : Nat :=
  match (s.st g).skein, s.skeinOf g with
  | none, some k =>
    let x := s.sk k
    let j := (x.stitches.filter (fun l => decide (l < g % 128))).length
    (x.offset + (if x.interleave then (divRound ((j : Int) * 2 ^ 32) x.stitches.length).toNat else 0)) % 2 ^ 32
  | _, _ => (s.st g).offset

/-- A setting a command has changed is kept in region 0 (R629): the command's payload under its kind and object. -/
def State.keep (s : State) (kind id : Nat) (p : List Byte) : State :=
  s.setting (4096 * kind + id) (p.map (fun (b : Byte) => (b.toNat : Int)))

/-! ### Responses -/

/-- The response of R413: gate 0 with warn 1, the fence, the fault source and the counter. -/
def State.slotTrip (s : State) (n reason : Nat) (k : Kind) : State :=
  let st := s.slSt n
  -- a slot emptied or fenced in this cycle still takes the trip's source and the lower reason (R417, R424)
  if st = 2 ∨ st = 3 ∨ st = 4 ∨ st = 6 ∨ ((st = 0 ∨ st = 5) ∧ (s.slot n).leftAt = some s.ct) then
    let s := if reason = 3 then s.count (SLOT_CNT_timed n) else if reason = 9 then s.count (SLOT_CNT_fast n) else s
    (s.fence n reason).eval k n true
  else s

/-- The port of an empty or asleep slot enters Beacon while sleep_en is set; its first rendezvous is 1 s away (R179, DESIGN
CHOICE, log 174). -/
def State.enterBeacon (s : State) (n : Nat) : State :=
  if s.is (PORT_CTRL_sleep_en n) ∧ s.is (PORT_CTRL_en n) then
    let s := ((s.setF (PORT_STATUS_link_state n) 4).setF (PORT_STATUS_width n) 0).setF (PORT_STATUS_lanes_ok n) 0
    let s := (s.setF (PORT_SLEEP_guard_us n) 50).setF (PORT_SLEEP_widened n) 0
    s.updPort n (fun x => { x with rendezvousAt := s.ct + sec 1, burstAt := none, sleepTrain := false, rel := {}, wchg := none, retryAt := none, granting := none })
  else s

/-- The functions of a slot take the VIs mapped to them last (R50, VI_MAP). -/
def State.takeMap (s : State) (n : Nat) : State :=
  (List.range 4).foldl (fun (s : State) (f : Nat) =>
    match Tbl.find? s.viMapNext (4 * n + f) with
    | some v => { s with viMap := Tbl.put s.viMap (4 * n + f) v, viMapNext := Tbl.del s.viMapNext (4 * n + f) }
    | none => s) s

/-- Casting-on from a step (R415, R418): a cast-on that leads to a new epoch takes the mapping. -/
def State.castFrom (s : State) (n step : Nat) : State :=
  let s := if step = 1 ∨ step = 6 then s.takeMap n else s
  ((s.slSet n 2 0).updSlot n (fun x => { x with step := step, castWaitSent := false, toSleep := false }))

/-- Present with auto_cast while the chassis is on and the unit owns the slot (R415, R450). -/
def State.autoCast (s : State) (n : Nat) : State :=
  if s.slSt n = 1 ∧ s.pattern.autoCast.getLsbD n ∧ s.get CHASSIS_PWR_state = 0 ∧ s.ownsPort n then s.castFrom n 1 else s

/-- Steps 3 to 5 of bind-off or sleep, once every skein of the slot is off (R421). -/
def State.bindOffCheck (s : State) (n : Nat) : State :=
  if s.slSt n = 4 ∧ s.seqSt n ≠ 3 ∧ (s.slotSkeins n).all (fun k => decide (s.skSt k = 0 ∨ s.skSt k = 5)) then
    let sleep := (s.slot n).toSleep
    let s := s.unbindSlot n
    let s := if sleep then s.enterBeacon n
      else (s.epochZero n).gateSet n false
    let s := (s.slSet n (if sleep then 6 else 1) 0).setB (SLOT_STATE_warn n) false
    (s.svcChange n).slotDone n 0 0
  else s

/-- Bind-off or sleep begins (R421, R425). -/
def State.bindOff (s : State) (n : Nat) (sleep : Bool) : State :=
  let s := (s.slSet n 4 0).updSlot n (fun x => { x with toSleep := sleep, unbindAt := s.ct + ms s.pattern.unbindMs })
  let s := (s.warnSlot n 1 s.pattern.unbindMs).seqStop n
  -- skeins without an entry stay off; any other that still runs waits for UNBIND_TIMEOUT
  s.bindOffCheck n

/-! ### Progress of a sequence (R441, R442, R445, R460) -/

/-- A skein counts as off while it is off with no start waiting, or latched (log 32). -/
def State.skOff (s : State) (k : Nat) : Bool :=
  let x := s.sk k
  decide (s.skSt k = 5) || (decide (s.skSt k = 0) && !x.wantStart && !x.loads.any (fun l => match l.1 with
    | .power o => decide (o = 1)
    | _ => false))

/-- A skein given its off mode by its sequence is off: its stop is complete (R457; DEDUCED, log 181: one record
per skein, none for the slot, which is the count the worked example gives). -/
def State.stopsNoted (s : State) (n : Nat) : State :=
  (s.railSkeins n).foldl (fun (s : State) (k : Nat) =>
    let r := s.rrun k
    if r.issued && r.stopped && !r.offNoted && s.skOff k then
      (s.updRrun k (fun x => { x with offNoted := true })).seqRec n k 6 0 (((s.railOf k).map (·.tslot)).getD 0)
    else s) s

/-- A sequence whose last skein reached power good becomes up; one whose last skein is off ends its stop. -/
def State.seqPoke (s : State) (n : Nat) : State :=
  let s := if s.seqSt n = 2 ∨ s.seqSt n = 3 then s.stopsNoted n else s
  let ks := s.railSkeins n
  if s.seqSt n = 1 then
    if ks.all (fun k => (s.rrun k).good) then
      let s := (s.setF (SEQ_STATE_state n) 2).updSeq n (fun q => { q with releaseAt := some (s.ct + us q.rstDelayUs) })
      s.seqDone n 0 0
    else s
  else if s.seqSt n = 3 then
    if ks.all s.skOff then
      let q := s.seq n
      let s := if q.fail then s.seqLatch n else s.setF (SEQ_STATE_state n) 0
      let s := s.updSeq n (fun q => { q with fail := false })
      let s := match q.ctrl with
        | some (_, _, 0) => s.seqDone n 9 q.failInfo
        | some _ => s.seqDone n 0 0
        | none => s
      (s.bindOffCheck n).shutdownSweep
    else s
  else s

/-! ### Measurement and breakers -/

/-- WORKER_SAMPLE_RX (R407, R409, R630): the interval's samples, the worker's bits and presence. The first cell
after a start gives the slot its state. -/
def execWorkerSampleRx (n : Fin 64) (h : UpHdr) (c : WorkerCell) (s : State) : Out3 :=
  let s := s.sawXoff (.svc n) h.xoff
  let x := s.slot n
  let first := !x.adopted && decide (2 ≤ s.unit)
  let s := s.updSlot n (fun y => { y with
    cell := some (c.cur.map (·.toNat), c.vol.map (·.toNat)), gateOn := c.gateOn, gateHigh := c.gateHigh, risen := y.risen || c.gateHigh,
    tripped := c.tripped, present := c.present,
    presentSince := if c.present then some (y.presentSince.getD s.ct) else none,
    absentSince := if c.present then none else some (y.absentSince.getD s.ct) })
  let s := s.gone .slotMeasLoss n
  if first then
    let s := s.updSlot n (fun y => { y with adopted := true })
    let s := (s.setB (SLOT_STATE_gate n) c.gateOn).svcChange n
    if !c.present then .next ((s.slSet n 0 0).enterBeacon n)
    else if c.tripped then .next (((s.slSet n 5 9).flag (SLOT_STATE_fence_seen n)).eval .slotFastTrip n true).settle
    else if !c.gateOn then
      let s := (s.slSet n 1 0).autoCast n
      .next (if s.slSt n = 2 then s.count RST_CNT_cast_on else s)
    else if s.active then
      .next (((s.castFrom n 5).updSlot n (fun y => { y with startupBound := true })).count RST_CNT_adopted)
    else .next (s.slSet n 3 0)
  else if c.tripped then .next (s.slotTrip n 9 .slotFastTrip).settle
  else .next s

/-- WORKER_TRIP delivered (R409, R413). -/
def State.workerTrip (s : State) (n : Fin 64) (_ma : Word) : State :=
  (s.updSlot n (fun x => { x with tripped := true })).slotTrip n 9 .slotFastTrip

/-- The sums of an interval: current, voltage and products of (code - zero). -/
def slotSums (cur vol : List Nat) (z : Nat) : Int × Int × Int :=
  let ci := cur.map (fun (c : Nat) => (c : Int) - z)
  let cv := vol.map (fun (c : Nat) => (c : Int))
  (sumInt ci, sumInt cv, sumInt ((ci.zip cv).map (fun x => x.1 * x.2)))

/-- Energy in units of 1/524,288,000 nJ joins SLOT_E, the remainder below 1 mJ carried (R410). -/
def State.slotEnergy (s : State) (n : Nat) (e : Int) : State :=
  let u : Int := 524288000 * 1000000
  let t := (s.slot n).eRem + e
  let mj := t / u
  let s := s.updSlot n (fun x => { x with eRem := t - mj * u, eTick := x.eTick + e })
  let s := s.setPair (aSLOT_E_LO n) (aSLOT_E_HI n) (toField 64 ((s.pairVal (aSLOT_E_LO n) (aSLOT_E_HI n) : Nat) + mj))
  s.touch ⟨aSLOT_E_LO n, 31, 0⟩ (.add (aSLOT_E_LO n) 63 0 (toField 64 mj))

/-- The breakers and gate tests of an interval (R412, R414): the reason and kind of a trip. -/
def State.slotJudge (s : State) (n : Nat) : State × Option (Nat × Kind) :=
  let x := s.slot n
  let st := s.slSt n
  if (!(st = 2 ∨ st = 3 ∨ st = 4 ∨ st = 6) ∨ !s.is (SLOT_STATE_gate n)) ∧ !(st = 5 ∧ x.leftAt = some s.ct) then
    (s.updSlot n (fun y => { y with stRun := 0, ltRun := 0, lowHigh := 0, dropSince := none }), none)
  else
    let i := fromField 32 (s.get (SLOT_I_v n))
    let inrush := decide (st = 2 ∧ (x.step = 3 ∨ x.step = 4))
    let st_ := if (if inrush then x.inrushMa else x.stMa) < i then x.stRun + 1 else 0
    let lt := if !inrush ∧ x.ltMa < i then x.ltRun + 1 else 0
    let past := decide (x.gateSince + ms x.gateRiseMs ≤ s.ct)
    let low := if past ∧ !x.gateHigh then x.lowHigh + 1 else 0
    let drop := decide (x.dropMax < fromField 32 (s.get BUS_V_bus_mv) - fromField 32 (s.get (SLOT_V_v n))) && !inrush
    let ds := if drop then some (x.dropSince.getD s.ct) else none
    let s := s.updSlot n (fun y => { y with stRun := st_, ltRun := lt, lowHigh := low, dropSince := ds })
    let dropped : Bool := match ds with
      | some t => decide (t + ms 1 ≤ s.ct)
      | none => false
    if decide (3 ≤ low) || dropped then (s, some (1, .slotGate))
    else if x.stUs ≤ 10 * st_ ∧ 0 < st_ ∨ 1000 * x.ltMs ≤ 10 * lt ∧ 0 < lt then (s, some (3, .slotBreaker))
    else (s, none)

/-- SLOT_INTERVAL (R410 to R414): one 10 µs interval of a slot whose worker is admitted. -/
def execSlotInterval (n : Fin 64) (s : State) : Out3 :=
  let x := s.slot n
  if !x.haveDesc then .next s else
  let s := match x.cell with
    | some (cur, vol) =>
      let (si, sv, sp) := slotSums cur vol x.iZero
      let m : Int := Nat.max 1 cur.length
      let s := s.setI (SLOT_I_v n) (divRound (si * x.iLsb) (256 * m))
      let s := s.setI (SLOT_V_v n) (divRound (sv * x.vLsb) (256 * m))
      let s := s.setI (SLOT_P_v n) (divRound (sp * x.iLsb * x.vLsb) (65536000 * m))
      (s.slotEnergy n (divRound (sp * x.iLsb * x.vLsb * 80) m)).updSlot n (fun y => { y with cell := none, missed := 0 })
    | none =>
      ((s.count (SLOT_CNT_missed n)).slotEnergy n (fromField 32 (s.get (SLOT_P_v n)) * 10 * 524288000)).updSlot n
        (fun y => { y with missed := y.missed + 1 })
  let s := s.updSlot n (fun y => { y with p1ms := lastN 100 (y.p1ms ++ [fromField 32 (s.get (SLOT_P_v n))]) })
  let (s, trip) := s.slotJudge n
  match trip with
  | some (reason, k) => .next (s.slotTrip n reason k).settle
  | none => .next ((((s.eval .slotBreaker n false).eval .slotGate n false).eval .slotFastTrip n (s.slot n).tripped)).settle

/-- SLOT_MEAS_LOSS (R411): 10 consecutive missing intervals. -/
def execSlotMeasLoss (n : Fin 64) (s : State) : Out3 :=
  if 10 ≤ (s.slot n).missed then .next (s.level .slotMeasLoss n true).settle else .next s

/-- GATE_RISE_TIMEOUT (R414): commanded on and no gate_high within gate_rise_ms, or the drop for 1 ms. -/
def execGateRiseTimeout (n : Fin 64) (s : State) : Out3 :=
  let x := s.slot n
  let dropped : Bool := match x.dropSince with
    | some t => decide (t + ms 1 ≤ s.ct)
    | none => false
  if s.is (SLOT_STATE_gate n) ∧ (dropped ∨ !x.risen ∧ x.gateSince + ms x.gateRiseMs ≤ s.ct) then .next (s.slotTrip n 1 .slotGate).settle
  else .next s

/-- SVC_COMMAND_TX (R408): the owner's COMMAND cell to the slot worker, every 10 µs and at a change. -/
def execSvcCommandTx (n : Fin 64) (s : State) : Out3 :=
  let x := s.slot n
  let due := x.changed || decide ((s.svc n).sentAt + us 10 ≤ s.ct)
  if s.ownsPort n && decide (s.get (SVC_STATUS_link_state n) = 2) && !s.pair.outputsOff && due then
    let s := (s.updSvc n (fun y => { y with sentAt := s.ct })).emit (.svcCommand n (s.is (SLOT_STATE_gate n)) (s.is (SLOT_STATE_warn n)) (s.is (SLOT_STATE_throttle n)) x.clearTrip x.tripMa)
    .next (s.updSlot n (fun y => { y with changed := false, clearTrip := false }))
  else .next s

/-! ### Insertion, cast-on, removal -/

/-- SLOT_PRESENT (R415): present reported for 100 ms. -/
def execSlotPresent (n : Fin 64) (s : State) : Out3 :=
  match (s.slot n).presentSince with
  | some t => if s.slSt n = 0 ∧ t + ms 100 ≤ s.ct then .next ((s.slSet n 1 0).autoCast n) else .next s
  | none => .next s

/-- SLOT_SURPRISE (R415, R422): presence clear for 1 ms. -/
def execSlotSurprise (n : Fin 64) (s : State) : Out3 :=
  let st := s.slSt n
  match (s.slot n).absentSince with
  | some t =>
    if st ≠ 0 ∧ t + ms 1 ≤ s.ct then
      -- a trip of this cycle leaves the loss of presence standing (R424)
      let busy := decide (st = 2 ∨ st = 3 ∨ st = 4 ∨ st = 5 ∧ (s.slot n).leftAt = some s.ct)
      let s := if busy || decide (st = 6) then ((s.unbindSlot n).epochZero n).seqDead n else s
      let s := ((s.gateSet n false).setB (SLOT_STATE_warn n) false).slSet n 0 0
      let s := s.updSlot n (fun x => { x with step := 0, startupBound := false, leftAt := if busy then some s.ct else x.leftAt })
      let s := (s.slotDone n 9 0).enterBeacon n
      if busy then .next (s.raise .slotSurprise n).settle else .next s
    else .next s
  | none => .next s

/-- The next epoch value of a slot (R169), and whether it waits for its retirement to age (R170). -/
def State.nextEpoch (s : State) (n : Nat) : Nat :=
  let e := s.get (PORT_EPOCH_epoch n)
  let l := if e = 0 then (s.port n).lastEpoch else e
  l % 255 + 1
def retiredRecently (t : Tbl Nat) (e now : Nat) : Bool :=
  match Tbl.find? t e with
  | some r => decide (now < r + sec 10)
  | none => false

/-- A value a cast-on must wait for: retired less than 10 s ago, every value but the current one within 10 s of a start
without chassis time (R170). -/
def State.retiredNow (s : State) (t : Tbl Nat) (e cur : Nat) : Bool :=
  retiredRecently t e s.ct || (match s.rst.retiredAll with
    | some r => decide (s.ct < r + sec 10 ∧ e ≠ cur)
    | none => false)

/-- Jobs of a slot in descending modelled cost, ties in ascending id (R270). -/
def State.byCost (s : State) (l : List Nat) : List Nat :=
  l.foldl (fun acc k =>
    acc.takeWhile (fun j => decide (s.jobCost k ≤ s.jobCost j)) ++ [k] ++ acc.dropWhile (fun j => decide (s.jobCost k ≤ s.jobCost j))) []

/-- Placement of the jobs of a slot (R270): none when one finds no engine. -/
def State.placeAll (s : State) : List Nat → Option State
  | [] => some s
  | k :: t => match s.placeEngine k with
    | some e => (s.moveJob k (some e) false).placeAll t
    | none => none

/-- The check of R334 at the pattern width, every interval length being a skein's own time from latest post to
deadline, with stitches at any phase (log 27). Times in 1/8 ns. -/
def State.arbFits (s : State) (n : Nat) : Bool :=
  let w := Nat.max 1 (s.widthFor n)
  let ks := s.slotSkeins n
  let T := fun (k : Nat) => s.period12 k * 5 / 4096
  let L := fun (k : Nat) => (T k * (2 * s.delayFor k - 1)) / 2 - 8 * (245 + 84 + s.get (PORT_FLIGHT_down_ns n) + (if w = 1 then 40 else 0))
  ks.all (fun k =>
    let len := L k
    let dem := sumNat (ks.map (fun j => if L j ≤ len then (s.sk j).stitches.length * ((len - L j) / Nat.max 1 (T j) + 1) else 0))
    decide ((dem + 8) * 64 * 4096 ≤ len * 63 * w * 100))

/-! ### Reduced-width plans (R148 to R155, R42) -/

/-- The pattern width of a port: 8 lanes, capped by PORT_CTRL.max_width. -/
def State.portCap (s : State) (p : Nat) : Nat := 8 / 2 ^ s.get (PORT_CTRL_max_width p)

/-- A skein's line of a plan: skein, samples per cycle, rate and carrier. -/
abbrev PlanRow := Nat × Nat × Nat × Nat

/-- The pattern values of a port's skeins. -/
def State.planRows (s : State) (p : Nat) : List PlanRow :=
  (s.pattern.skeins.filter (fun x => decide (x.slot = p))).map (fun x => (x.id, x.samples, x.hz, x.carrier))

/-- Cells of a complete window (R192, R226). -/
def cellCount (q n : Nat) : Nat := if n = 8 then 2 else q * n / 16

/-- The upstream SAMPLE cells of a window of each stitch of a skein, together, at n samples per cycle (R42, R192). -/
def State.windowCells (s : State) (p k n : Nat) : Nat :=
  sumNat (((s.sk k).stitches).map (fun j => cellCount (if Tbl.get s.pattern.iinSensed (128 * p + j) false then 4 else 3) n))
/-- The upstream SAMPLE cells per second of a row. -/
def State.rowUp (s : State) (p : Nat) (r : PlanRow) : Nat := s.windowCells p r.1 r.2.1 * r.2.2.1
/-- Carrier reference cells per second (R168). -/
def State.refCells (s : State) (p : Nat) (rows : List PlanRow) : Nat :=
  sumNat ((List.range 64).map (fun m =>
    if s.get (MER_CFG_src m) = 3 ∧ s.merEn m ∧ s.get (MER_CFG_port m) = p then
      (match rows.find? (fun r => (s.sk r.1).stitches.contains (s.get (MER_CFG_stitch m))) with
        | some r => r.2.2.1
        | none => 0)
    else 0))
/-- Both directions fit the budget of R42 at a width: SAMPLE, ECHO and CARRIER_REF cells up, COMMAND and TIME cells down. -/
def State.budgetFits (s : State) (p w : Nat) (rows : List PlanRow) : Bool :=
  let lim := 175781250 * w
  let up := sumNat (rows.map (s.rowUp p)) + 15625 + s.refCells p rows
  let down := sumNat (rows.map (fun r => (s.sk r.1).stitches.length * r.2.2.1)) + 1000000
  decide (up ≤ lim ∧ down ≤ lim)
/-- Both directions fit the budget of R42 at a width, and the check of R334 passes. -/
def State.planFits (s : State) (p w : Nat) (rows : List PlanRow) : Bool :=
  let t := (s.setF (PORT_STATUS_width p) w).updPort p (fun x => { x with pairWidth := w })
  let t := rows.foldl (fun t r => t.updSk r.1 (fun x => { x with hz := r.2.2.1, carrier := r.2.2.2 })) t
  s.budgetFits p w rows && t.arbFits p

/-- The carrier that turns at a rate. -/
def State.carrierOf (s : State) (hz : Nat) : Option Nat :=
  (List.range 64).find? (fun m =>
    let x := s.mer m
    s.merEn m && decide (x.stepx ≠ 0 ∧
      divRound (2 ^ 44 * (x.ratioEff : Int)) x.stepx = divRound (1600000000 * 4096) hz))
/-- The next lower rate of a row: of its pattern list, else half, never below 50 kHz. A halved rate takes the carrier that
turns at it; with none the row keeps its own (DESIGN CHOICE, log 43). -/
def State.lowerRate (s : State) (r : PlanRow) : Option PlanRow :=
  let l := (((s.pattern.skeins.find? (fun x => decide (x.id = r.1))).map (·.rates)).getD []).filter (fun x => decide (x.1 < r.2.2.1))
  match l.foldl (fun (a : Option (Nat × Nat)) x => match a with
      | none => some x
      | some b => if b.1 < x.1 then some x else some b) none with
  | some x => some (r.1, r.2.1, x.1, x.2)
  | none =>
    let h := Nat.max 50000 (r.2.2.1 / 2)
    if h < r.2.2.1 then some (r.1, r.2.1, h, (s.carrierOf h).getD r.2.2.2) else none

/-- One step of R151; none when nothing is left to lower. -/
def State.planStep (s : State) (p : Nat) (rows : List PlanRow) : Option (List PlanRow) :=
  let most := rows.foldl (fun a r => Nat.max a r.2.1) 0
  if 8 < most then some (rows.map (fun r => if r.2.1 = most then (r.1, most / 2, r.2.2.1, r.2.2.2) else r))
  else
    let can := rows.filter (fun r => (s.lowerRate r).isSome)
    match can.foldl (fun (a : Option PlanRow) r => match a with
        | none => some r
        | some b => if s.rowUp p b < s.rowUp p r then some r else some b) none with
    | none => none
    | some b => (s.lowerRate b).map (fun n => rows.map (fun r => if r = b then n else r))

def State.planGo (s : State) (p w : Nat) : Nat → List PlanRow → List PlanRow
  | 0, rows => rows
  | n + 1, rows => if s.planFits p w rows then rows else match s.planStep p rows with
    | some r => s.planGo p w n r
    | none => rows

/-- The firmware computes the plan of each width below the pattern width and stores it (R151). -/
def State.storePlans (s : State) (p : Nat) : State :=
  let ws := ([4, 2, 1] : List Nat).filter (fun w => decide (w < s.portCap p))
  s.updPort p (fun x => { x with plans := ws.map (fun w => (w, s.planGo p w 1024 (s.planRows p))) })

/-- The stored plan of a port for a width. -/
def State.planFor (s : State) (p w : Nat) : List PlanRow :=
  match (s.port p).plans.find? (fun x => decide (x.1 = w)) with
  | some x => x.2
  | none => s.planRows p

/-- The engine of a skein's job shows its load. -/
def State.pubJob (s : State) (k : Nat) : State :=
  match (s.sk k).engine with
  | some e => s.pubEng e
  | none => s

/-- The turn count of the last window of a stitch closed at chassis time `t`, as its carrier runs: window n closes half a
period after its start (R632). -/
def State.closedTurn (s : State) (k g t : Nat) : Nat :=
  let x := s.mer (s.sk k).carrier
  let v := (x.value : Int) - ((s.ct : Int) - t) * x.stepx / x.ratioEff
  toField 16 ((v - s.refOffset g - 2 ^ 31) / 2 ^ 32)

/-- A stitch of a slot's pattern skeins is bound (R189, R207, R633): hub_state 2 adopted, 3 controlled and OFF. -/
def State.bindStitch (s : State) (k g : Nat) : State :=
  let x := s.st g
  if x.skein.isSome ∨ !x.desc.storedLoop then s
  else if x.hub ≠ 2 ∧ x.hub ≠ 3 then s
  else
    -- its first window is the one after the last that has closed
    let last := (s.closedTurn k g s.ct + (s.sk k).base) % 65536
    let s := s.updSt g (fun y => { y with
      skein := some k, adopting := false, trailerGap := 0, offset := s.refOffset g, toOffset := s.refOffset g, offs := [],
      wins := [], reduced := some last, lens := [], judgedAt := none, lastOk := none })
    let s := if (s.bound k).length = 1 then s.updSk k (fun y => { y with stepped := last }) else s
    if x.hub = 2 then (s.stSet g 1).raise .stitchAuto g else s.stSet g 2
def State.bindSlot (s : State) (n : Nat) : State :=
  (s.slotSkeins n).foldl (fun s k => ((s.sk k).stitches).foldl (fun s l => s.bindStitch k (128 * n + l)) s) s

/-- Reaching live (R420, R240): accumulators reset, SLOT_CTRL op 0 completes. -/
def State.goLive (s : State) (n : Nat) : State :=
  let gs := (s.stitches.filter (fun x => decide (x.1 / 128 = n))).map (·.1)
  let s := gs.foldl (fun s g => s.updSt g (fun y => { y with acc := {}, snap := {}, prevSnap := {}, added := (0, []) })) s
  let s := s.updPort n (fun x => { x with snapSeen := false })
  let s := s.setF (RED_SNAP_SEQ_seq n) 0
  let s := (s.slSet n 3 0).updSlot n (fun x => { x with step := 0, startupBound := false })
  let s := (s.slotSkeins n).foldl (fun (s : State) (k : Nat) => s.pubJob k) s
  s.slotDone n 0 0

/-- One step of cast-on (R418), when its condition holds. -/
def State.castStep (s : State) (n : Nat) : State :=
  let x := s.slot n
  let goStep := fun (s : State) (v : Nat) => s.updSlot n (fun y => { y with step := v, stepAt := s.ct })
  match x.step with
  | 1 =>
    let rated := Tbl.get s.pattern.rated n 0
    if rated ≠ 0 ∧ s.hupNormal ∧ s.get HU_LOAD_v + rated ≤ s.get HU_ALLOW_v then
      -- step 2: the service-lane epoch advances and the worker is admitted afresh (R177); EPOCH_CHANGE applies it
      let e := s.get (SVC_EPOCH_epoch n) % 255 + 1
      if s.retiredNow (s.svc n).retired e (s.get (SVC_EPOCH_epoch n)) then s else
      let s := s.mirror (.epoch (.svc (Fin.ofNat 64 n)) (BitVec.ofNat 8 e) (s.ct + us 20))
      let s := s.updSvc n (fun y => { y with epochNext := some (e, s.ct + us 20), admitted := false })
      ((goStep s 2).updSlot n (fun y => { y with haveDesc := false })).svcChange n
    else if x.castWaitSent then s
    else (s.event afMb 0x0505 (leBytes 1 n)).updSlot n (fun y => { y with castWaitSent := true })
  | 2 => if s.hupNormal && s.get (SVC_STATUS_link_state n) = 2 && (s.svc n).epochNext.isNone && x.haveDesc then
      goStep ((s.gateSet n true).updSvc n (fun y => { y with admitted := true })) 3 else s
  | 3 => if x.gateHigh then goStep s 4 else s
  | 4 => if fromField 32 (s.get BUS_V_bus_mv) - fromField 32 (s.get (SLOT_V_v n)) ≤ x.dropMax then
      let s := goStep s 5
      if s.get (PORT_STATUS_link_state n) = 3 then s else s.setF (PORT_STATUS_link_state n) (if s.is (PORT_CTRL_en n) then 1 else 0)
    else s
  | 5 => if s.get (PORT_STATUS_link_state n) = 3 then
      (if s.get (PORT_EPOCH_hub_epoch n) = s.get (PORT_EPOCH_epoch n) ∧ s.get (PORT_EPOCH_epoch n) ≠ 0 then goStep s 8
       else goStep (s.updSlot n (fun y => { y with descs := [] })) 6)
    else s
  | 6 =>
    match (s.port n).epochNext with
    | some _ => s
    | none =>
      -- the change applies at EPOCH_CHANGE, which moves the slot to step 7
      let e := s.nextEpoch n
      if s.retiredNow (s.port n).retired e (s.get (PORT_EPOCH_epoch n)) then s
      else
        let s := s.mirror (.epoch (.port (Fin.ofNat 64 n)) (BitVec.ofNat 8 e) (s.ct + us 20))
        s.updPort n (fun y => { y with epochNext := some (e, s.ct + us 20) })
  | 7 =>
    let want := (s.slotSkeins n).flatMap (fun k => (s.sk k).stitches)
    if want.all (fun l => x.descs.contains l) then
      let bad := decide (x.descs.length ≠ want.length) || want.any (fun l =>
        decide ((s.st (128 * n + l)).desc.iinSensed ≠ Tbl.get s.pattern.iinSensed (128 * n + l) false))
      if bad then s.fence n 6
      else goStep (s.when (s.ownsPort n) (fun s => want.foldl (fun (s : State) (l : Nat) =>
        s.emit (.bulk (.port (Fin.ofNat 64 n)) 2 0 true ((Tbl.get s.pattern.storedLoops (128 * n + l) []).take 240))) s)) 8
    else s
  | 8 =>
    -- bound stitch counts for the limits are the pattern's; binding follows in step 9
    let ks := s.byCost ((s.slotSkeins n).filter (fun k => (s.sk k).engine.isNone))
    match s.placeAll ks with
    | none => s.fence n 7
    | some s' => if s'.planFits n (s'.portCap n) (s'.planRows n) then goStep (s'.storePlans n) 9 else s.fence n 8
  | 9 =>
    if x.startupBound then
      (if (s.slotSkeins n).all (fun k => decide (s.skSt k = 0 ∨ s.skSt k = 2)) ∨
          (s.port n).firstTimeAt.any (fun t => decide (t + ms 20 ≤ s.ct)) then s.goLive n else s)
    else
      let s := (s.bindSlot n).updSlot n (fun y => { y with baseSet := true })
      let s := if s.seqSt n = 0 then (s.seqStart n).seqPoke n else s
      s.goLive n
  | _ => s

/-- CAST_ON_RESUME: a casting-on slot takes its next step when the step's condition holds; a unit that does not own the
port follows from the new epoch on (R500). -/
def execCastOnResume (n : Fin 64) (s : State) : Out3 :=
  if s.slSt n = 2 ∧ (s.ownsPort n ∨ 7 ≤ (s.slot n).step) then .next (s.castStep n).settle else .next s

/-- CAST_ON_STEP_TIMEOUT (R417, R418): the step's limit has passed. -/
def execCastOnStepTimeout (n : Fin 64) (s : State) : Out3 :=
  let x := s.slot n
  let past := fun (d : Nat) => decide (x.stepAt + ms d ≤ s.ct)
  if s.slSt n ≠ 2 then .next s else
  match x.step with
  | 2 => if past 10 && s.hupNormal then .next (s.fence n 10).settle else .next s
  | 3 => if past x.gateRiseMs && !x.gateHigh then .next (s.slotTrip n 1 .slotGate).settle else .next s
  | 4 => if past s.pattern.inrushMs then .next (s.fence n 2).settle else .next s
  | 5 => if past s.pattern.hubBootMs && decide (s.get (PORT_STATUS_link_state n) ≠ 3) then
      .next (s.fence n (if (s.port n).attempts = 0 ∧ s.get (PORT_STATUS_link_state n) ≠ 2 then 4 else 5)).settle else .next s
  | 7 => if past 10 then .next (s.fence n 6).settle else .next s
  | 8 => if past 10 then .next (s.fence n 7).settle else .next s
  | _ => .next s

/-- UNBIND_TIMEOUT (R421, R442): a skein not off within unbind_ms of its stop receives op 0. -/
def execUnbindTimeout (k : Fin 2048) (s : State) : Out3 :=
  let n := (s.sk k).slot
  let r := s.rrun k
  let late := (decide (s.slSt n = 4) && decide ((s.slot n).unbindAt ≤ s.ct)) ||
    (decide (s.seqSt n = 3) && r.stopped && r.issued && decide (r.stopAt + ms s.pattern.unbindMs ≤ s.ct))
  if late ∧ s.skSt k ≠ 0 ∧ s.skSt k ≠ 5 ∧ (s.sk k).known then .next ((s.opZero k).bindOffCheck n).settle else .next s

/-- CUT_LEAD_EXPIRE (R433): the slot is fenced when its lead has passed. -/
def execCutLeadExpire (n : Fin 64) (s : State) : Out3 :=
  match (s.slot n).cutAt with
  | some t => if t ≤ s.ct then .next (s.fence n 11).settle else .next s
  | none => .next s

/-! ### Budgets -/

/-- The budget holders: assigned VIs and the AF (R427). -/
def State.holders (s : State) : List Nat := s.vis ++ [afMb]
/-- The slots a holder owns. -/
def State.holderSlots (s : State) (h : Nat) : List Nat := (List.range 64).filter (fun n => decide (s.slotOwner n = h))
/-- The mean power of a holder's slots over the last 100 intervals; SLOT_P is 0 before the first (R427). -/
def State.power1ms (s : State) (h : Nat) : Int :=
  divRound (sumInt ((s.holderSlots h).map (fun n => sumInt (s.slot n).p1ms))) 100

/-- The cuts of R427: class by class, each class's floors scaled by a fraction (num, den). -/
def cutClasses (f : Nat → Int) : Nat → Nat → Nat → Int → Int → List (Nat × Int × Int) → Int × Nat × List (Nat × Int × Int)
  | 0, k, _, need, _, acc => (need, k, acc)
  | n + 1, k, top, need, avail, acc =>
    if need ≤ avail ∨ top ≤ k then (need, k, acc)
    else
      let other := need - f k
      if avail ≤ other then cutClasses f n (k + 1) top other avail (acc ++ [(k, 0, 1)])
      else cutClasses f n (k + 1) top avail avail (acc ++ [(k, avail - other, f k)])

/-- The caps and stage of R427 for p_allow, p_rect + lim, the rank and budgets (holder, class, floor, ceil). -/
def capsOf (allow full : Int) (rank : Nat) (b : List (Nat × Nat × Int × Int)) : Nat × List (Nat × Int) × List Nat :=
  let ceil := sumInt (b.map (fun x => x.2.2.2))
  let floor := sumInt (b.map (fun x => x.2.2.1))
  if ceil ≤ allow then (0, b.map (fun x => (x.1, x.2.2.2)), [])
  else if floor ≤ allow then
    (1, b.map (fun x => (x.1, x.2.2.1 + divRound ((x.2.2.2 - x.2.2.1) * (allow - floor)) (ceil - floor))), [])
  else
    let f := fun (k : Nat) => sumInt ((b.filter (fun x => decide (x.2.1 = k))).map (fun x => x.2.2.1))
    let (need, k, cut) := cutClasses f 8 0 rank floor allow []
    let (stage, cut) := if allow < need then
        let (_, _, c) := cutClasses f 8 k 8 need full cut
        (3, c)
      else (2, cut)
    (stage, b.map (fun x => (x.1, match cut.find? (fun (c : Nat × Int × Int) => decide (c.1 = x.2.1)) with
      | some c => divRound (x.2.2.1 * c.2.1) c.2.2
      | none => x.2.2.1)), cut.map (·.1))

/-- The ceiling of a holder: the lesser of its own and its thermal ceilings (R486, R487). -/
def State.ceilOf (s : State) (h : Nat) : Nat :=
  (List.range 8).foldl (fun a k =>
    let on := (s.sens (5 + k)).on
    let z := s.get (THM_ZONE_slots (2 * k)) + 2 ^ 32 * s.get (THM_ZONE_slots (2 * k + 1))
    if !on.any (fun (b : Bool) => b) || !(s.holderSlots h).any (fun n => z.testBit n) then a else
    let d := if on.getD 1 false then s.get (THM_REMOTE1_derate_thr k) else s.get (THM_REMOTE1_derate_warn k)
    Nat.min a (divRound ((s.bgt h).ceil * d : Nat) 32768).toNat) (s.bgt h).ceil

/-- The VI_CAP registers of a holder follow its budget. -/
def State.pubCap (s : State) (h : Nat) : State :=
  let b := s.bgt h
  let s := (s.setF (VI_CAP_MW_v h) (s.get (BGT_CAP_cap_mw h))).setF (VI_CAP_POWER_v h) (s.get (BGT_POWER_power_mw h))
  let s := (s.setF (VI_CAP_REQ_v h) b.reqId).setF (VI_CAP_STATE_cap_state h) (s.get (BGT_STATE_cap_state h))
  (s.setF (VI_CAP_STATE_stage h) (s.get CAP_STATUS_stage)).setPair (aVI_CAP_DEADLINE_LO h) (aVI_CAP_DEADLINE_HI h) b.deadline

/-- The holder is told of its cap: its registers and vector 2 (R429, R430). -/
def State.tellCap (s : State) (h : Nat) : State :=
  ((s.pubCap h).updBgt h (fun x => { x with toldCap := s.get (BGT_CAP_cap_mw h) })).msix h 2

/-- Throttle bits of a holder's slots (R430, R431). -/
def State.throttleSlots (s : State) (h : Nat) (b : Bool) : State :=
  (s.holderSlots h).foldl (fun s n => (s.setB (SLOT_STATE_throttle n) b).svcChange n) s

/-- A throttled or cut budget returns to free (R431). -/
def State.capFree (s : State) (h : Nat) : State :=
  let s := (s.setF (BGT_STATE_cap_state h) 0).throttleSlots h false
  ((s.gone .capEnforce h).gone .capNoncomply h).tellCap h

/-- Enforcement begins (R430): throttle, event with the cap, fault source. -/
def State.capThrottle (s : State) (h : Nat) : State :=
  let cap := s.get (BGT_CAP_cap_mw h)
  let s := (s.setF (BGT_STATE_cap_state h) 2).flag (BGT_STATE_enforced_seen h)
  let s := s.updBgt h (fun b => { b with capAtThrottle := cap, throttledAt := s.ct })
  let s := s.throttleSlots h true
  let s := (s.holderSlots h).foldl (fun s n => s.emit (.event (.port (Fin.ofNat 64 n)) 0x0220 (evAt cap 160))) s
  (s.level .capEnforce h true).pubCap h

def State.overCap (s : State) (h : Nat) : Bool :=
  let cap : Int := s.get (BGT_CAP_cap_mw h)
  decide ((100 * cap + cap) < 100 * s.power1ms h)

/-- R431: cap at 105 % of the cap at throttling or at the ceiling, and power at or below it. -/
def State.mayFree (s : State) (h : Nat) : Bool :=
  let cap := s.get (BGT_CAP_cap_mw h)
  let b := s.bgt h
  (decide (105 * b.capAtThrottle ≤ 100 * cap) || decide (s.ceilOf h ≤ cap)) && decide (s.power1ms h ≤ cap)

/-- CAP_COMPUTE (R427 to R429, R431, R434). -/
def execCapCompute (s : State) : Out3 :=
  if !s.shelfOn then .next s else
  let hs := s.holders
  let b := hs.map (fun h => let x := s.bgt h; (h, x.cls, (x.floor : Int), (s.ceilOf h : Int)))
  let (stage, caps, cut) := capsOf (s.get HU_ALLOW_v) (s.pRect + s.shelf.lim) (s.get CAP_STATUS_rank) b
  let s := (s.setF CAP_STATUS_stage stage).setF CAP_STATUS_low_intact (((List.range 8).find? (fun k => !cut.contains k)).getD 7)
  let whole : Bool := caps.all (fun x => decide (((s.bgt x.1).floor : Int) ≤ x.2))
  let s := s.level .capTargetBreak afMb (decide (stage = 3))
  let s := caps.foldl (fun (s : State) (x : Nat × Int) =>
    let h := x.1
    let old := s.get (BGT_CAP_cap_mw h)
    let cap : Nat := x.2.toNat
    let s := s.setF (BGT_CAP_cap_mw h) cap
    -- a stage of 2 or more raises CAP_FLOOR_BREAK: for the holders whose floor is cut, else for the AF
    let s := s.level .capFloorBreak h (decide (2 ≤ stage ∧ (x.2 < (s.bgt h).floor ∨ h = afMb ∧ whole)))
    let told := (s.bgt h).toldCap
    let s := if (cap < told ∧ s.ceilOf h ≤ 100 * (told - cap)) ∨ (told < cap ∧ (told : Int) ≤ s.power1ms h ∧ s.power1ms h < cap) then
        s.tellCap h else s.pubCap h
    let s := if old < cap then
        -- the warning stays while hold-up is another cause of it (R425)
        (s.holderSlots h).foldl (fun s n => if (s.slot n).cutAt.isSome then
          (s.updSlot n (fun y => { y with cutAt := none })).when s.hupNormal (fun s => s.unwarnSlot n) else s) s
      else s
    if s.get (BGT_STATE_cap_state h) = 2 ∧ s.mayFree h then s.capFree h else s) s
  .next s.settle

/-- CAP_JUDGE (R430, R431): a judgement of the 1 ms mean. -/
def execCapJudge (h : Mb) (s : State) : Out3 :=
  if !s.shelfOn ∨ !s.assigned h then .next s else
  let s := s.setF (BGT_POWER_power_mw h) (clampI 0 (2 ^ 32 - 1) (s.power1ms h)).toNat
  let s := s.setF (VI_CAP_POWER_v h) (s.get (BGT_POWER_power_mw h))
  match s.get (BGT_STATE_cap_state h) with
  | 0 =>
    if s.overCap h then
      let s := s.setF (BGT_STATE_cap_state h) 1
      let s := s.updBgt h (fun b => { b with reqId := (b.reqId + 1) % 2 ^ 32, deadline := s.ct + us b.graceUs, promise := false })
      .next (s.tellCap h)
    else .next s
  | 1 => if s.overCap h then .next s else .next ((s.setF (BGT_STATE_cap_state h) 0).pubCap h)
  | 2 => if s.mayFree h then .next (s.capFree h) else .next s
  | 3 => if s.overCap h then .next s else .next (s.capFree h)
  | _ => .next s

/-- CAP_GRACE_EXPIRE (R430, R431): the deadline of a request. -/
def execCapGraceExpire (h : Mb) (s : State) : Out3 :=
  if s.shelfOn ∧ s.get (BGT_STATE_cap_state h) = 1 ∧ (s.bgt h).deadline ≤ s.ct then
    if s.overCap h then .next (s.capThrottle h).settle else .next ((s.setF (BGT_STATE_cap_state h) 0).pubCap h)
  else .next s

/-- Ids in descending SLOT_P, ties in ascending id. -/
def State.byPower (s : State) (l : List Nat) : List Nat :=
  let p := fun (n : Nat) => fromField 32 (s.get (SLOT_P_v n))
  l.foldl (fun acc n => acc.takeWhile (fun j => decide (p n ≤ p j)) ++ [n] ++ acc.dropWhile (fun j => decide (p n ≤ p j))) []

/-- Slots taken until the remaining power is at or below the cap (R433). -/
def cutList (p : Nat → Int) : List Nat → Int → Int → List Nat
  | [], _, _ => []
  | n :: t, pow, cap => if pow ≤ cap then [] else n :: cutList p t (pow - p n) cap

/-- CAP_ENF_EXPIRE (R430, R433): enf_ms after throttling, and enf_ms after each cut whose leads have ended (DESIGN CHOICE, log
203), a power still above the cap cuts; with no slot left to cut, the holder is throttled. -/
def execCapEnfExpire (h : Mb) (s : State) : Out3 :=
  let st := s.get (BGT_STATE_cap_state h)
  let cutting := (s.holderSlots h).any (fun n => (s.slot n).cutAt.isSome)
  if s.shelfOn ∧ (st = 2 ∨ st = 3 ∧ !cutting) ∧ (s.bgt h).throttledAt + ms (s.bgt h).enfMs ≤ s.ct ∧ s.overCap h then
    let l := s.byPower ((s.holderSlots h).filter (fun n => s.pattern.cutEn.getLsbD n &&
      decide (s.slSt n = 2 ∨ s.slSt n = 3 ∨ s.slSt n = 4 ∨ s.slSt n = 6)))
    if l.isEmpty then .next (((s.setF (BGT_STATE_cap_state h) 2).level .capNoncomply h true).pubCap h).settle
    else
      let s := (s.setF (BGT_STATE_cap_state h) 3).flag (BGT_STATE_enforced_seen h)
      let take := cutList (fun n => fromField 32 (s.get (SLOT_P_v n))) l (s.power1ms h) (s.get (BGT_CAP_cap_mw h))
      let s := take.foldl (fun s n =>
        (s.warnSlot n 2 (ceilDiv s.shelf.warnLead 1000)).updSlot n (fun y => { y with cutAt := some (s.ct + us s.shelf.warnLead) })) s
      .next ((s.updBgt h (fun b => { b with throttledAt := s.ct })).pubCap h)
  else .next s

/-! ### Commands -/

/-- SLOT_CTRL (R416, R420, R421, R436). -/
def execSlotCtrl (mb : Mb) (k : Fin 64) (s : State) : Out3 :=
  .next (s.command mb k 0xC01
    (fun s p => {
      bad := [outside 0 (u8 p 0) 0 63, outside 1 (u8 p 1) 0 4], ports := [u8 p 0],
      busy := if (s.slot (u8 p 0)).ctrl.isSome ∧ u8 p 1 ≠ 4 then some 2 else none })
    (fun s p =>
      let n := u8 p 0
      let op := u8 p 1
      let st := s.slSt n
      let mine := fun (s : State) => s.updSlot n (fun x => { x with ctrl := some (mb.val, k.val, op) })
      match op with
      | 0 => if st = 1 then
            if s.get CHASSIS_PWR_state = 0 then mine (s.castFrom n 1) else s.finish mb k 9 0 0
          else if st = 5 then s.finish mb k 9 (s.get (SLOT_STATE_reason n)) 0
          else if st = 2 then mine s else s.okay mb k
      -- a request that meets a trip, or a sleep that meets BIND_REQ, ends with ST_FAULT (R424)
      | 1 => if st = 3 then (mine s).bindOff n false
          else if st = 5 ∧ (s.slot n).leftAt = some s.ct then s.finish mb k 9 (s.get (SLOT_STATE_reason n)) 0 else s.okay mb k
      | 2 => if st = 3 then (mine s).bindOff n true
          else if st = 5 ∧ (s.slot n).leftAt = some s.ct ∨ st = 4 ∧ (s.slot n).stepAt = s.ct then
            s.finish mb k 9 (s.get (SLOT_STATE_reason n)) 0
          else s.okay mb k
      | 3 => if st = 6 then (s.castFrom n 5).okay mb k else s.okay mb k
      | _ =>
        if st ≠ 5 then s.okay mb k
        else if (s.slot n).tripped ∨ ((s.slot n).gateHigh ∧ !s.is (SLOT_STATE_gate n)) then
          -- the worker's latch is released by the next COMMAND cell, so that a later op 4 succeeds (log 28)
          ((s.updSlot n (fun x => { x with clearTrip := true })).svcChange n).finish mb k 9 (s.get (SLOT_STATE_reason n)) 0
        else
          (((s.slSet n 1 0).setB (SLOT_STATE_warn n) false).svcChange n).okay mb k))

/-- SLOT_QUERY (R437). -/
def execSlotQuery (mb : Mb) (k : Fin 64) (s : State) : Out3 :=
  .next (s.command mb k 0xC02 (fun s p => { bad := [(0, s.slotBad mb (u8 p 0))] }) (fun s p =>
    let n := u8 p 0
    s.finish mb k 0 (s.slSt n + 8 * s.get (SLOT_STATE_reason n)) (s.get (SLOT_P_v n) + 2 ^ 32 * s.get (SLOT_I_v n))))

/-- The breaker limits of a payload (R412, R438): they apply from the next interval. -/
def State.applyBreaker (s : State) (p : List Byte) : State :=
  let n := u8 p 0
  ((s.updSlot n (fun x => { x with
    ltMa := u32 p 4, ltMs := u32 p 8, stMa := u32 p 12, stUs := u32 p 16, tripMa := u32 p 20, inrushMa := u32 p 24,
    dropMax := u16 p 28, gateRiseMs := u8 p 30 })).svcChange n).keep 7 n p

def execSlotSetBreaker (mb : Mb) (k : Fin 64) (s : State) : Out3 :=
  .next (s.command mb k 0xC03
    (fun s p => {
      bad := [
        outside 0 (u8 p 0) 0 63, resv p 1 4, (4, decide (u32 p 12 ≤ u32 p 4)), outside 8 (u32 p 8) 1 10000,
        (12, decide (u32 p 20 ≤ u32 p 12)), (16, decide (u32 p 16 < 10 ∨ 10000 < u32 p 16 ∨ u32 p 16 % 10 ≠ 0)),
        (20, decide ((s.slot (u8 p 0)).tripMaxA * 1000 < u32 p 20)), (24, decide (i32 p 24 ≤ 0)),
        outside 28 (u16 p 28) 1 5000, outside 30 (u8 p 30) 1 50, resv p 31 32],
      ports := [u8 p 0] })
    (fun s p => (s.applyBreaker p).okay mb k))

/-- BUDGET_CAP_ACK (R432). -/
def execBudgetCapAck (mb : Mb) (k : Fin 64) (s : State) : Out3 :=
  .next (s.command mb k 0xC10
    (fun s p => { bad := [(4, decide ((if s.level_ < 3 then 1 else 2) ≤ u8 p 4)), resv p 5 8] })
    (fun s p =>
      if (s.bgt mb).reqId = u32 p 0 ∧ s.get (BGT_STATE_cap_state mb) ≠ 0 then
        if (u8 p 4).testBit 0 then
          ((if s.get (BGT_STATE_cap_state mb) = 1 then s.capThrottle mb else s).okay mb k).settle
        else (s.updBgt mb (fun b => { b with promise := true })).okay mb k
      else s.finish mb k 5 0 0))

/-- A budget of a payload (R434, R439). -/
def State.applyBudget (s : State) (p : List Byte) : State :=
  let h := u16 p 0
  let s := s.updBgt h (fun b => { b with
    cls := u8 p 2, floor := u32 p 4, ceil := u32 p 8, graceUs := u32 p 12, enfMs := u16 p 16 })
  (s.setF (BGT_STATE_class h) (u8 p 2)).keep 6 h p

def execBudgetSet (mb : Mb) (k : Fin 64) (s : State) : Out3 :=
  .next (s.command mb k 0xC11
    (fun _ p => { bad := [
      outside 0 (u16 p 0) 0 256, outside 2 (u8 p 2) 0 7, resv p 3 4, (4, decide (u32 p 8 < u32 p 4)),
      (8, decide (2147483647 < u32 p 8)), outside 12 (u32 p 12) 100 100000, outside 16 (u16 p 16) 1 1000, resv p 18 20] })
    (fun s p => (s.applyBudget p).okay mb k))

/-- BUDGET_QUERY (R439): a VI reads its own budget. -/
def execBudgetQuery (mb : Mb) (k : Fin 64) (s : State) : Out3 :=
  .next (s.command mb k 0xC12
    (fun _ p => { bad := [(0, decide (mb.val = 256 ∧ 256 < u16 p 0))] })
    (fun s p =>
      let h := if mb.val = 256 then u16 p 0 else mb.val
      s.finish mb k 0 (s.get (BGT_STATE_cap_state h) + 4 * (s.bgt h).cls + 32 * s.get CAP_STATUS_stage)
        (s.get (BGT_CAP_cap_mw h) + 2 ^ 32 * s.get (BGT_POWER_power_mw h))))

/-- BUDGET_POLICY (R439). -/
def State.applyBudgetPolicy (s : State) (p : List Byte) : State :=
  ((s.setF CAP_STATUS_rank (u8 p 0)).updShelf (fun h => { h with warnLead := u16 p 2 })).keep 6 257 p

def execBudgetPolicy (mb : Mb) (k : Fin 64) (s : State) : Out3 :=
  .next (s.command mb k 0xC13
    (fun _ p => { bad := [outside 0 (u8 p 0) 0 7, outside 2 (u16 p 2) 10 10000] })
    (fun s p => (s.applyBudgetPolicy p).okay mb k))

end Sys2Proof.Machine
end

