-- ==== Sys2Proof/Machine/Recorder.lean ====
section
/-! DEFINITION. The nightwatch recorder (R550 to R570): record layouts and CRC-32C, the write order, reading and
repair, and the recorder's commands. -/
namespace Sys2Proof.Machine

/-! ### Layouts (R10, R234, R457, R545, R552, R567, R568) -/

def crcBit (c : Word) : Word := if c.getLsbD 0 then (c >>> 1) ^^^ 0x82F63B78#32 else c >>> 1
def crcByte (c : Word) (b : Byte) : Word := forN 8 (c ^^^ b.zeroExtend 32) (fun c _ => crcBit c)
/-- CRC-32C of a byte list: reflected, from all ones, inverted at the end. -/
def crc32c (bs : List Byte) : Word := ~~~ (bs.foldl crcByte 0xFFFFFFFF#32)

/-- The `n` little-endian bytes of a signed value. -/
def leInt (n : Nat) (v : Int) : List Byte := leBytes n (toField (8 * n) v)
def zeros (n : Nat) : List Byte := List.replicate n 0

/-- The window result record of R234. -/
def Rec.bytes (r : Rec) : List Byte :=
  let fl := r.vinOk.toNat + 2 * r.iphOk.toNat + 4 * r.voutOk.toNat + 8 * r.iinOk.toNat + 16 * r.lossOk.toNat +
    32 * r.incomplete.toNat
  leBytes 2 r.cycle ++ leBytes 1 fl ++ leBytes 1 (r.res + 4 * r.hub) ++ leInt 4 r.vinMean ++ leInt 4 r.iphMean ++
    leInt 4 r.voutMean ++ leInt 4 r.iinMean ++ leInt 4 r.iphRms ++ leInt 4 r.iinRms ++ leInt 4 r.iphMax ++
    leInt 4 r.iphMin ++ leInt 4 r.voutMax ++ leInt 4 r.voutMin ++ leInt 4 r.eIn ++ leInt 4 r.eOut ++ leInt 4 r.loss ++
    leBytes 2 r.voutCode ++ leBytes 2 r.mask ++ leBytes 4 r.w

/-- The fault log record of R545. -/
def LogRec.bytes (r : LogRec) : List Byte :=
  leBytes 8 r.time ++ leBytes 1 r.kind ++
    leBytes 1 (r.cls + 4 * r.injected.toNat + 8 * r.passed.toNat + 16 * r.recKind) ++ leBytes 2 r.inst ++
    leBytes 1 (r.die + 16 * r.rung) ++ [0] ++ leBytes 2 r.seq

/-- A record's bytes before its CRC. -/
def NvData.bytes (seq : Nat) : NvData → List Byte
  | .seqRec t sk sl kind info ts d0 d1 =>
    leBytes 4 seq ++ leBytes 8 t ++ leBytes 2 sk ++ leBytes 1 sl ++ leBytes 1 kind ++ leBytes 2 info ++ leBytes 1 ts ++
      [0] ++ leBytes 4 d0 ++ leBytes 4 d1
  | .fault r => leBytes 4 seq ++ r.bytes ++ zeros 8
  | .last t ok kind i die fl o cap snap l =>
    leBytes 4 seq ++ leBytes 8 t ++ leBytes 1 ok ++ leBytes 1 kind ++ leBytes 2 i ++ leBytes 1 die ++ leBytes 1 fl ++
      leBytes 2 o ++ leBytes 4 cap ++ ((snap.flatMap (fun w => leBytes 4 w.toNat)) ++ zeros 64).take 64 ++ leBytes 16 l ++ zeros 116
  | .segment cap g idx kind pre recs =>
    leBytes 4 seq ++ leBytes 4 cap ++ leBytes 2 g ++ leBytes 1 idx ++ leBytes 1 recs.length ++ leBytes 1 kind ++
      leBytes 1 pre ++ zeros 2 ++ ((recs.flatMap Rec.bytes) ++ zeros 192).take 192 ++ zeros 12
  | .setting key vals => leBytes 4 seq ++ leBytes 4 key ++ ((vals.flatMap (leInt 1)) ++ zeros 20).take 20

/-- A whole record with its CRC. -/
def NvCopy.bytes (c : NvCopy) : List Byte :=
  let b := c.data.bytes c.seq
  b ++ leBytes 4 (crc32c b).toNat

/-- Bytes delivered in a command slot's payload (R282). -/
def State.slotWrite (s : State) (mb k : Nat) (b : List Byte) : State :=
  { s with mem := Mem.writeBytes Mem.blank s.mem (winBase mb + 0x4000 + 256 * k + 16) b }

/-! ### Writing (R553 to R555) -/

/-- The recorder goes to the next copy or the next record. -/
def State.nvNext (s : State) (w : NvWrite) : State :=
  if w.die = 0 ∧ !s.nvLost 1 then
    s.updNv (fun n => { n with queue := { w with die := 1, tries := 0, started := true } :: n.queue.drop 1 })
  else
    let q := match s.nv.queue.drop 1 with
      | [] => []
      | x :: t => { x with started := true, die := if s.nvLost 0 then 1 else 0 } :: t
    (s.updNv (fun n => { n with queue := q })).setB NV_STATUS_writing (!q.isEmpty)

/-- NV_RECORD_DONE (R553, R554): the write in progress has been read back. -/
def execNvRecordDone (equal : Bool) (s : State) : Out3 :=
  match s.nv.queue with
  | [] => .next s
  | w :: _ =>
    let die := if w.die = 0 ∧ s.nvLost 0 then 1 else w.die
    let w := { w with die := die }
    -- with both dies lost nothing is written (R554)
    if s.nvLost die then .next (s.nvNext w)
    else if equal then
      let s := (s.nvStore die w false).updNv (fun n => { n with fails := setAt n.fails die 0 })
      .next ((s.level .nvWrite (5 + die) false).nvNext w)
    else if w.tries < 3 then
      let s := s.count NW_CNT_REWRITE_v
      .next (s.updNv (fun n => { n with queue := { w with tries := w.tries + 1, started := true } :: n.queue.drop 1 }))
    else
      let s := (s.nvStore die w true).level .nvWrite (5 + die) true
      let f := s.nv.fails.getD die 0 + 1
      let s := s.updNv (fun n => { n with fails := setAt n.fails die f })
      let s := if 3 ≤ f then
          -- ID_DIES shows the die as taken out of service (R19)
          ((s.setB (if die = 0 then NV_STATUS_nv0_lost else NV_STATUS_nv1_lost) true).setF ID_DIES_lost
            (s.get ID_DIES_lost ||| 2 ^ (5 + die))).level .nvCopyLost (5 + die) true
        else s
      .next (s.nvNext w).settle

/-- HOLDUP_DIE_MEASURE (R557). -/
def execHoldupDieMeasure (pass : Bool) (s : State) : Out3 :=
  if s.rst.held ∨ s.unit = 0 then .next s else
  .next ((s.setB NV_STATUS_holdup_ok pass).level .holdupDie 7 (!pass)).settle

/-! ### Reading and repair (R560 to R562) -/

/-- The generation a copy's tag names, in 6 bits, is the holder's current one. -/
def State.readable (s : State) (c : NvCopy) : Bool :=
  s.assigned c.holder && decide (c.keyGen % 64 = s.keyGenOf c.holder % 64)
/-- A copy that decrypts to what fails its CRC: a mixture, or one of an older key of the same tag. -/
def State.garbled (s : State) (c : NvCopy) : Bool := c.torn || decide (c.keyGen ≠ s.keyGenOf c.holder)
def State.goodCopy (s : State) (c : NvCopy) : Bool := s.readable c && !s.garbled c && !c.uncorr

/-- What a bad copy counts and raises. -/
def State.noteCopy (s : State) (die : Nat) : Option NvCopy → State
  | none => s
  | some c =>
    if !s.readable c then s
    else
      let s := if c.uncorr then s.level .nvRead (5 + die) true else s
      if s.garbled c then (s.count NW_CNT_TORN_v).flag NW_STATUS_torn_seen else s

/-- Record `b` is newer than `a` (R552). -/
def newer (b a : Nat) : Bool := decide ((b + 2 ^ 32 - a % 2 ^ 32) % 2 ^ 32 < 2 ^ 31)

/-- The die in whose copy an armed injection makes this read find a granule with 1 or 2 wrong bits (R546). -/
def State.injectedDie (s : State) (a b : Option NvCopy) : Option (Nat × Nat) :=
  match s.faults.inject with
  | some (1, bits, _, i) => if (i / 256 = 5 ∧ a.isSome) ∨ (i / 256 = 6 ∧ b.isSome) then some (i / 256 - 5, bits) else none
  | _ => none

/-- A record is read: the copy used, its die, and whether the other was repaired; none when neither is good. -/
def State.readRec (s : State) (key : Nat) : State × Option (NvCopy × Nat × Bool) :=
  let a := if s.nvLost 0 then none else Tbl.find? s.nv.die0 key
  let b := if s.nvLost 1 then none else Tbl.find? s.nv.die1 key
  let un := fun (o : Option NvCopy) => match o with
    | some c => !s.readable c
    | none => false
  let s := if un a || un b then s.count NW_CNT_UNREAD_v else s
  let s := (s.noteCopy 0 a).noteCopy 1 b
  let hit := s.injectedDie a b
  -- one bit is corrected and its granule rewritten, which reads back clean; two make the copy bad (R561; DEDUCED, log 183)
  let s : State := match hit with
    | some (d, bits) =>
      let s := s.injectUse.raiseAs .nvRead (5 + d) (5 + d) true
      if bits = 1 then (s.count NW_CNT_CORR_v).gone .nvRead (5 + d) else s
    | none => s
  -- the repair reads back clean at once
  let mend := fun (d : Nat) (c : NvCopy) => (s.nvPut d key c).gone .nvRead (5 + d)
  let good := fun (d : Nat) (o : Option NvCopy) => match o with
    | some c => s.goodCopy c && decide (hit ≠ some (d, 2))
    | none => false
  match a, b, good 0 a, good 1 b with
  | some x, some y, true, true => if newer y.seq x.seq && decide (x.seq ≠ y.seq) then (s, some (y, 1, false)) else (s, some (x, 0, false))
  | some x, _, true, _ =>
    if s.nvLost 1 then (s, some (x, 0, false))
    else (mend 1 x, some (x, 0, true))
  | _, some y, _, true =>
    if s.nvLost 0 then (s, some (y, 1, false))
    else (mend 0 y, some (y, 1, true))
  | _, _, _, _ => (s, none)

/-- The keys of a region, oldest record first, with their sequence numbers. -/
def insertAge (x : Nat × Nat) : List (Nat × Nat) → List (Nat × Nat)
  | [] => [x]
  | y :: t => if newer x.2 y.2 then y :: insertAge x t else x :: y :: t
def State.regionKeys (s : State) (region : Nat) : List (Nat × Nat) :=
  let l := (s.nv.die0.map (fun x => (x.1, x.2.seq))) ++
    (s.nv.die1.filter (fun x => (Tbl.find? s.nv.die0 x.1).isNone)).map (fun x => (x.1, x.2.seq))
  (l.filter (fun x => decide (Nat.min 5 (x.1 / 65536) = region))).foldl (fun acc x => insertAge x acc) []

/-- Whether a record belongs to a reader: its own, or any for the AF. -/
def State.ownRec (s : State) (mb key : Nat) : Bool :=
  mb = afMb || (match Tbl.find? s.nv.die0 key with
    | some c => decide (c.holder = mb)
    | none => false) || (match Tbl.find? s.nv.die1 key with
    | some c => decide (c.holder = mb)
    | none => false)

/-- Up to `n` good records of a list of keys: the state, the records, and the sequence number after the last. -/
def State.takeRecs (s : State) (skip : State → State) : List (Nat × Nat) → Nat → List NvCopy → State × List NvCopy × Option Nat
  | [], _, acc => (s, acc, none)
  | x :: t, n, acc =>
    match n with
    | 0 => (s, acc, some x.2)
    | m + 1 =>
      match s.readRec x.1 with
      | (s, some (c, _, _)) => s.takeRecs skip t m (acc ++ [c])
      | (s, none) => (skip s).takeRecs skip t (m + 1) acc

/-- Records of a region from a first sequence number, for a reader. -/
def State.readRegion (s : State) (mb region first n : Nat) (skip : State → State) : State × List NvCopy × Nat :=
  let l := (s.regionKeys region).filter (fun x => s.ownRec mb x.1 && (decide (first = 0xFFFFFFFF) || newer x.2 first))
  let (s, recs, nx) := s.takeRecs skip l n []
  (s, recs, nx.getD (Tbl.get s.nv.seqs region 0))

/-- A read waits for a write in progress of its record, or of its region's (R563). -/
def State.nvBusy (s : State) (region : Nat) : Bool :=
  match s.nv.queue.head? with
  | some w => w.started && decide (w.region = region)
  | none => false
def State.nvBusyAt (s : State) (region index : Nat) : Bool :=
  match s.nv.queue.head? with
  | some w => w.started && decide (w.region = region ∧ w.index = index)
  | none => false
/-- The page of a last-fault record (R551). -/
def lastPage (p : List Byte) : Nat := if u8 p 0 = 0 then 4608 + u16 p 2 else if u8 p 0 = 1 then 6656 + u16 p 2 else 6720

/-! ### Start-up (R458, R563) -/

/-- The counters of a skein follow a sequence record that passed its check (R458; log 31). -/
def State.railReplay (s : State) : NvData → State
  | .seqRec _ k _ kind info _ d0 d1 =>
    if 2048 ≤ k then s
    else if kind = 12 then (s.putWord (aRAIL_CNT0 k) (BitVec.ofNat 32 d0)).putWord (aRAIL_CNT1 k) (BitVec.ofNat 32 d1)
    else if kind = 2 then s.count (RAIL_CNT0_starts k)
    else if kind = 3 then (s.count (RAIL_CNT0_starts k)).count (RAIL_CNT0_start_fail k)
    else if kind = 4 then s.count (RAIL_CNT1_warnings k)
    else if kind = 5 ∧ info ≠ 0 then s.count (RAIL_CNT1_timed_off k)
    else s
  | _ => s

/-- NV_BOOT_SCAN_DONE (R563): every copy is read and repaired, each sequence resumes, and readers see records. -/
def execNvBootScanDone (s : State) : Out3 :=
  if !s.awake then .next s else
  if s.is NW_STATUS_scan_done then .next s else
  let s := [2, 3, 4, 5].foldl (fun (s : State) (r : Nat) =>
    let keys := s.regionKeys r
    keys.foldl (fun (s : State) (x : Nat × Nat) =>
      match s.readRec x.1 with
      | (s, some (c, _, _)) =>
        let s := if newer c.seq (Tbl.get s.nv.seqs r 0) ∨ c.seq = Tbl.get s.nv.seqs r 0 then
            s.updNv (fun n => { n with seqs := Tbl.put n.seqs r ((c.seq + 1) % 2 ^ 32) }) else s
        if r = 2 then s.railReplay c.data else s
      | (s, none) => if r = 2 then s.count SEQ_LOG_SKIP_count else s) s) s
  .next (s.setB NW_STATUS_scan_done true).settle

/-! ### Commands -/

/-- NW_READ (R570). -/
def execNwRead (mb : Mb) (k : Fin 64) (s : State) : Out3 :=
  if s.nvBusy (u8 (s.slotC (slotKey mb k)).payload 0) then .next s else
  .next (s.command mb k 0xA01 (fun _ p => { bad := [(0, decide (u8 p 0 ≠ 3 ∧ u8 p 0 ≠ 5))] }) (fun s p =>
    if !s.is NW_STATUS_scan_done then s.finish mb k 0 0 (2 ^ 32 * Tbl.get s.nv.seqs (u8 p 0) 0) else
    let (s, recs, nx) := s.readRegion mb (u8 p 0) (u32 p 4) (if u8 p 0 = 3 then 7 else 1) id
    (s.slotWrite mb k (recs.flatMap NvCopy.bytes)).finish mb k 0 0 (recs.length + 2 ^ 32 * nx)))

/-- NW_LAST_FAULT (R570). -/
def execNwLastFault (mb : Mb) (k : Fin 64) (s : State) : Out3 :=
  if s.nvBusyAt 4 (lastPage (s.slotC (slotKey mb k)).payload) then .next s else
  .next (s.command mb k 0xA02
    (fun s p => {
      denied := decide (u8 p 0 = 2 ∧ mb.val ≠ afMb),
      bad := [outside 0 (u8 p 0) 0 2,
        (2, if u8 p 0 = 0 then s.skeinBad mb (u16 p 2) else if u8 p 0 = 1 then s.slotBad mb (u16 p 2) else false)] })
    (fun s p =>
      let page := lastPage p
      if !s.is NW_STATUS_scan_done ∨ !s.ownRec mb (nvKey 4 page) then s.finish mb k 9 4 0 else
      match s.readRec (nvKey 4 page) with
      | (s, some (c, die, rep)) => (s.slotWrite mb k c.bytes).finish mb k 0 (die + 2 * rep.toNat) 0
      | (s, none) => s.finish mb k 9 4 0))

/-- NW_TRIGGER (R564, R570). -/
def execNwTrigger (mb : Mb) (k : Fin 64) (s : State) : Out3 :=
  .next (s.command mb k 0xA03
    (fun s p => { bad := [outside 0 (u8 p 0) 0 2,
      (2, if u8 p 0 = 0 then s.stitchBad mb (u16 p 2) else if u8 p 0 = 1 then s.skeinBad mb (u16 p 2)
        else if u8 p 0 = 2 then s.slotBad mb (u16 p 2) else false),
      outside 4 (u8 p 4) 0 48] })
    (fun s p =>
      let o : Obj := if u8 p 0 = 0 then .stitch (u16 p 2) else if u8 p 0 = 1 then .skein (u16 p 2) else .slot (u16 p 2)
      let (s, id) := s.capture (s.implicated o) 0xFF (u8 p 4)
      s.finish mb k 0 0 id))

/-- NW_CTRL_SET (R570). -/
def execNwCtrlSet (mb : Mb) (k : Fin 64) (s : State) : Out3 :=
  .next (s.command mb k 0xA04
    (fun _ p => { bad := [outside 0 (u8 p 0) 0 3, outside 1 (u8 p 1) 0 48] })
    (fun s p =>
      (((s.setB NW_CTRL_capture_en ((u8 p 0).testBit 0)).setB NW_CTRL_freeze ((u8 p 0).testBit 1)).setF NW_CTRL_post
        (u8 p 1)).okay mb k))

end Sys2Proof.Machine
end

