-- ==== Sys2Proof/Machine/Sequencing.lean ====
section
/-! DEFINITION. Sequencing and supervision (R440 to R460): starts and stops, supervised rails, the push button and
manual reset, records and commands. -/
namespace Sys2Proof.Machine

/-! ### Power commands of a skein (R287, R314, R315, R444) -/

/-- A SKEIN_POWER given by a command or a sequence (`mb` 257) acts: it loads at the next skein step, or ends at once
where the state names no transition. -/
def State.powerAs (s : State) (k op mb sl : Nat) : State :=
  let st := s.skSt k
  let mine := fun (s : State) => s.updSk k (fun x => { x with powerCmd := some (mb, sl, op) })
  let waits := (s.sk k).loads.any (fun l => match l.1 with
    | .power o => decide (o = 1)
    | _ => false)
  match op with
  | 0 =>
    let s := s.powerDone k 9 4
    let s := s.updSk k (fun x => { x with
      wantStart := false, loads := x.loads.filter (fun l => match l.1 with
        | .power _ => false
        | _ => true) })
    if st = 0 ∨ st = 5 then (mine s).powerDone k 0 0
    else if (s.sk k).engine.isNone then ((mine s).skSet k 0).powerDone k 0 0
    else (mine s).powerLoad k 0
  | 1 =>
    if st = 5 then (mine s).powerDone k 9 5
    else if st ≠ 0 ∨ waits then (mine s).powerDone k 0 0
    else if (s.sk k).engine.isNone ∧ (s.healthy k).isEmpty then (mine s).powerDone k 9 6
    else ((mine s).gone .skeinStartFail k).powerLoad k 1
  | _ =>
    if st = 1 ∨ st = 2 then
      (if (s.sk k).engine.isNone then ((mine s).skSet k 0).powerDone k 0 0 else (mine s).powerLoad k 2)
    else (mine s).powerDone k 0 0

/-! ### The time slots of a sequence (R441, R442) -/

/-- The time at which a started skein of time slot t may receive its off mode, and op 1 (R441, R442). -/
def State.seqOnAt (s : State) (n : Nat) (r : Rail) : Nat := (s.seq n).t0 + us ((s.seq n).widthUs * r.tslot + 10 * r.onDelay)
def State.seqOffAt (s : State) (n : Nat) (r : Rail) : Nat :=
  (s.seq n).t0 + us ((s.seq n).widthUs * ((s.seq n).tTop - r.tslot) + 10 * r.offDelay)
def State.tslotOf (s : State) (k : Nat) : Nat := ((s.railOf k).map (·.tslot)).getD 0

/-- SEQ_SLOT_TIMER (R441, R442): op 1 or the off mode of a skein at its time. -/
def execSeqSlotTimer (k : Fin 2048) (s : State) : Out3 :=
  let n := (s.sk k).slot
  match s.railOf k with
  | none => .next s
  | some r =>
    let run := s.rrun k
    let others := (s.railSkeins n)
    if s.seqSt n = 1 ∧ !run.issued ∧ s.seqOnAt n r ≤ s.ct ∧
        others.all (fun j => decide (r.tslot ≤ s.tslotOf j) || (s.rrun j).good) then
      let s := (s.updRrun k (fun x => { x with issued := true, cntChanged := true })).count (RAIL_CNT0_starts k)
      let s := s.setF (SEQ_STATE_tslot n) r.tslot
      .next ((s.powerAs k 1 257 k).seqPoke n).settle
    else if s.seqSt n = 3 ∧ run.issued ∧ !run.stopped ∧ s.seqOffAt n r ≤ s.ct ∧
        others.all (fun j => decide (s.tslotOf j ≤ r.tslot) || !(s.rrun j).issued || s.skOff j) then
      let s := (s.updRrun k (fun x => { x with stopped := true, stopAt := s.ct })).setF (SEQ_STATE_tslot n) r.tslot
      -- the sequence's own op 1 ends unanswered; a command of another issuer ends only by an immediate off
      let own := match (s.sk k).powerCmd with
        | some (mb, _, _) => decide (mb = 257)
        | none => false
      let s := if own then s.updSk k (fun x => { x with powerCmd := none })
        else if r.immediate then s.powerDone k 9 4 else s
      let s := if s.skOff k then s else s.powerLoad k (if r.immediate then 0 else 2)
      .next (s.seqPoke n).settle
    else .next (s.seqPoke n).settle

/-! ### Supervision (R447 to R449) -/

/-- A supervised condition arises or clears (R447, R455). -/
def State.seqCond (s : State) (k code : Nat) (present : Bool) : State :=
  let n := (s.sk k).slot
  match s.railOf k with
  | none => s
  | some r =>
    let held := (s.rrun k).conds.any (fun c => decide (c.1 = code))
    if present ∧ !held ∧ (s.seqSt n = 2 ∨ s.seqSt n = 3) then
      let s := s.updRrun k (fun x => { x with conds := x.conds ++ [(code, s.ct)], cntChanged := true })
      let s := ((s.count (RAIL_CNT1_warnings k)).flag (SEQ_STATE_warn_seen n)).seqRec n k 4 code r.tslot
      if s.seqSt n = 2 then s.event (s.skOwner k) 0x0500 (leBytes 1 code) else s
    else if !present ∧ held then
      let s := s.updRrun k (fun x => { x with conds := x.conds.filter (fun c => decide (c.1 ≠ code)) })
      if (s.rrun k).conds.isEmpty then s.updRrun k (fun x => { x with acted := false }) else s
    else s

/-- An entry's action is taken, for a timer or a lost rail (R449). -/
def State.railAct (s : State) (k : Nat) (lost : Bool) : State :=
  let n := (s.sk k).slot
  match s.railOf k with
  | none => s
  | some r =>
    let s := (s.updRrun k (fun x => { x with acted := true, cntChanged := true })).seqRec n k 5 r.action r.tslot
    if r.action = 0 then s
    else
      let s := s.count (RAIL_CNT1_timed_off k)
      let s := if lost then s.raise .railLost k else s.raise .seqTimedOff n
      if r.action = 1 then
        let s := s.updRrun k (fun x => { x with stopped := true, stopAt := s.ct })
        if s.skOff k then s else s.powerLoad k (if r.immediate then 0 else 2)
      else
        let q := s.seq n
        let same := q.fail && decide (q.failInfo = 0) && decide (q.t0 = s.ct)
        let f := if same then Nat.min k (s.get (SEQ_STATE_fail_skein n)) else k
        let s := s.updSeq n (fun q => { q with fail := true, failInfo := 0 })
        (s.setF (SEQ_STATE_fail_skein n) f).seqStop n

/-- The sequence began its stop in this cycle for another entry that reached action 2: the lower skein is recorded (R455). -/
def State.alsoFails (s : State) (k : Nat) : Bool :=
  let n := (s.sk k).slot
  let q := s.seq n
  decide (s.seqSt n = 3) && q.fail && decide (q.failInfo = 0) && decide (q.t0 = s.ct) &&
    decide (((s.railOf k).map (·.action)) = some 2)

/-- A rail of an up sequence is lost (R448). -/
def State.railLost (s : State) (k : Nat) : State :=
  let n := (s.sk k).slot
  if (s.seqSt n = 2 ∨ s.alsoFails k) ∧ (s.railOf k).isSome ∧ !(s.rrun k).stopped then
    ((s.updRrun k (fun x => { x with conds := [] })).count (RAIL_CNT1_lost k)).railAct k true
  else s

/-- RAIL_SD_TIMER (R449): a supervised condition has lasted sd_ms. -/
def execRailSdTimer (k : Fin 2048) (s : State) : Out3 :=
  let n := (s.sk k).slot
  match s.railOf k with
  | none => .next s
  | some r =>
    let run := s.rrun k
    if (s.seqSt n = 2 ∨ s.alsoFails k) ∧ !run.acted ∧ run.conds.any (fun c => decide (c.2 + ms r.sdMs ≤ s.ct)) then
      .next ((s.railAct k false).seqPoke n).settle
    else .next s

/-- The shelf's checkpoints in region 0 (R628): energy counters, and each string's charge, capacity and resistance. -/
def State.shelfCheckpoint (s : State) : State :=
  if !s.active then s else
  let s := s.setting (4096 * 16) (s.shelf.energy.flatMap (fun (x : Nat × Nat) => [(x.1 : Int), (x.2 : Int)]))
  s.strs.foldl (fun (s : State) (x : Nat × Str) => s.setting (4096 * 17 + x.1) [x.2.q, (x.2.qfull : Int), x.2.rint]) s

/-- RAIL_CNT_CHECKPOINT (R457, R628): every 10 s a record of each skein whose counters changed, and the shelf's
checkpoints. -/
def execRailCntCheckpoint (s : State) : Out3 :=
  let s := s.shelfCheckpoint
  let ks := (s.railRuns.filter (fun x => x.2.cntChanged)).map (·.1)
  .next (ks.foldl (fun s k =>
    let n := (s.sk k).slot
    (s.updRrun k (fun x => { x with cntChanged := false })).seqRecord (s.slotOwner n) k n 12 0 (s.tslotOf k)
      (s.word (aRAIL_CNT0 k)).toNat (s.word (aRAIL_CNT1 k)).toNat) s)

/-! ### The push button, manual reset and reset outputs (R450 to R454) -/

/-- A chassis record. -/
def State.chassisRec (s : State) (kind : Nat) : State := s.seqRecord afMb 0xFFFF 0xFF kind 0 0 0 0

/-- BUTTON_PRESS (R451): a press released after `held` ticks. A dormant unit with the chassis off wakes. -/
def execButtonPress (held : Nat) (s : State) : Out3 :=
  let s := s.setB CHASSIS_PWR_pressed false
  if held < ms 50 ∨ ms 8000 ≤ held then .next s
  else if s.unit = 0 then
    .next (s.wake 8)
  else
    let s := (s.flag CHASSIS_PWR_press_seen).chassisRec 9
    if 2 ≤ s.get CHASSIS_PWR_state then
      let s := s.setF CHASSIS_PWR_state 0
      .next ((List.range 64).foldl (fun s n => s.autoCast n) s)
    else
      let s := s.event afMb 0x0506 []
      .next (if s.is CHASSIS_PWR_btn_action then s.chassisShutdown else s).settle

/-- BUTTON_FORCE_OFF (R452): gate 0 on every owned service lane, in hardware. -/
def execButtonForceOff (s : State) : Out3 :=
  if !s.awake then .next s else
  let s := (List.range 64).foldl (fun (s : State) (n : Nat) =>
    let s := if s.is (SLOT_STATE_gate n) then s.gateSet n false else s
    let st := s.slSt n
    if st = 0 ∨ st = 1 then s
    else
      let s := ((s.unbindSlot n).epochZero n).seqDead n
      ((s.slSet n 1 0).updSlot n (fun x => { x with step := 0, cutAt := none, toSleep := false })).slotDone n 9 0) s
  let s := ((s.setF CHASSIS_PWR_state 3).setB CHASSIS_PWR_pressed true).flag CHASSIS_PWR_force_seen
  .next ((s.chassisRec 11).raise .chassisForceOff 0).settle

/-- MANUAL_RESET (R454): MR_N returns high after `low` ticks. -/
def execManualReset (low : Nat) (s : State) : Out3 :=
  if !s.awake then .next s else
  if low < ms 1 then .next s
  else
    let until_ := s.ct + ms s.pattern.rstMs
    let s := (s.flag CHASSIS_PWR_mr_seen).chassisRec 10
    .next ((List.range 64).foldl (fun s n =>
      if (s.seq n).rstGpio.isSome then (s.updSeq n (fun q => { q with mrUntil := some until_ })).rstOut n true else s) s)

/-- RESET_OUTPUT_RELEASE (R453, R454). -/
def execResetOutputRelease (n : Fin 64) (s : State) : Out3 :=
  let q := s.seq n
  let mr : Bool := match q.mrUntil with
    | some t => decide (s.ct < t)
    | none => false
  let up : Bool := match q.releaseAt with
    | some t => decide (t ≤ s.ct)
    | none => false
  if s.seqSt n = 2 ∧ up ∧ !mr then
    .next ((s.updSeq n (fun x => { x with mrUntil := none })).rstOut n false)
  else .next s

/-! ### Commands -/

/-- The entry of a payload (R459). -/
def State.applyRail (s : State) (p : List Byte) : State :=
  let k := u16 p 0
  let r : Rail :=
    {
        tslot := u8 p 2, immediate := (u8 p 3).testBit 0, action := u8 p 3 / 2 % 4, onDelay := u16 p 4, offDelay := u16 p 6,
        sdMs := u16 p 8 }
  ({ s with rails := Tbl.put s.rails k (if (u8 p 10).testBit 0 then none else some r) }).keep 8 k p

/-- SEQ_SET_RAIL (R459). -/
def execSeqSetRail (mb : Mb) (k : Fin 64) (s : State) : Out3 :=
  .next (s.command mb k 0xD01
    (fun s p =>
      let n := (s.sk (u16 p 0)).slot
      let top := (s.seq n).widthUs / 10 - 1
      let gone := (u8 p 10).testBit 0
      {
          bad := [(0, s.skeinBad mb (u16 p 0)), (3, decide (8 ≤ u8 p 3 ∨ u8 p 3 / 2 % 4 = 3)),
          (4, !gone && decide (top < u16 p 4)), (6, !gone && decide (top < u16 p 6)),
          (8, !gone && decide (u16 p 8 < 1 ∨ 10000 < u16 p 8)), outside 10 (u8 p 10) 0 1],
          ports := [n], busy := if s.seqSt n = 1 ∨ s.seqSt n = 3 then some 2 else none })
    (fun s p => (s.applyRail p).okay mb k))

/-- The width, reset output and delay of a payload. -/
def State.applySeqSlot (s : State) (p : List Byte) : State :=
  let n := u8 p 0
  let s := s.updSeq n (fun q => { q with
    rstGpio := if u8 p 1 = 255 then none else some (u8 p 1), widthUs := u32 p 4, rstDelayUs := u32 p 8 })
  (s.rstOut n (s.is (SEQ_STATE_rst n))).keep 9 n p

/-- SEQ_SET_SLOT (R440, R453, R459). -/
def execSeqSetSlot (mb : Mb) (k : Fin 64) (s : State) : Out3 :=
  .next (s.command mb k 0xD02
    (fun s p => {
      bad := [outside 0 (u8 p 0) 0 63, (1, decide (64 ≤ u8 p 1 ∧ u8 p 1 ≠ 255)), outside 4 (u32 p 4) 100 100000,
        outside 8 (u32 p 8) 0 100000],
      ports := [u8 p 0], busy := if s.seqSt (u8 p 0) = 1 ∨ s.seqSt (u8 p 0) = 3 then some 2 else none })
    (fun s p => (s.applySeqSlot p).okay mb k))

/-- SEQ_CTRL (R443, R446, R455, R460). -/
def execSeqCtrl (mb : Mb) (k : Fin 64) (s : State) : Out3 :=
  .next (s.command mb k 0xD03
    (fun s p => { bad := [(0, s.slotBad mb (u8 p 0)), outside 1 (u8 p 1) 0 2], ports := [u8 p 0] })
    (fun s p =>
      let n := u8 p 0
      let mine := fun (s : State) => s.updSeq n (fun q => { q with ctrl := some (mb.val, k.val, u8 p 1) })
      match u8 p 1 with
      | 0 =>
        if s.seqSt n ≠ 0 then s.okay mb k
        else if s.get CHASSIS_PWR_state ≠ 0 then s.finish mb k 9 0 0
        else (((mine s).seqStart n).seqPoke n).settle
      | 1 =>
        if s.seqSt n = 1 ∨ s.seqSt n = 2 then
          let s := s.seqDone n 9 0
          (((mine s).seqStop n).seqPoke n).settle
        else s.okay mb k
      | _ =>
        if s.seqSt n ≠ 4 then s.okay mb k
        else
          let f := s.get (SEQ_STATE_fail_skein n)
          if s.skSt f = 5 then s.finish mb k 9 0 0
          else
            let s := ((s.setF (SEQ_STATE_state n) 0).seqRec n f 8 0 0).gone .seqStartFail n
            s.okay mb k))

/-- SEQ_QUERY (R459). -/
def execSeqQuery (mb : Mb) (k : Fin 64) (s : State) : Out3 :=
  .next (s.command mb k 0xD04 (fun s p => { bad := [(0, s.slotBad mb (u8 p 0))] })
    (fun s p => s.finish mb k 0 0 (s.word (aSEQ_STATE (u8 p 0))).toNat))

/-- SEQ_LOG_READ (R458, R460): seven records of 32 bytes fit. -/
def execSeqLogRead (mb : Mb) (k : Fin 64) (s : State) : Out3 :=
  if s.nvBusy 2 then .next s else
  .next (s.command mb k 0xD05 (fun _ _ => {}) (fun s p =>
    if !s.is NW_STATUS_scan_done then s.okay mb k else
    let (s, recs, _) := s.readRegion mb 2 (u32 p 0) 7 (fun s => s.count SEQ_LOG_SKIP_count)
    (s.slotWrite mb k (recs.flatMap NvCopy.bytes)).finish mb k 0 0 recs.length))

end Sys2Proof.Machine
end

