-- ==== Sys2Proof/Machine/Arbiter.lean ====
section
/-! DEFINITION. The command arbiter of a port (R320 to R341): posts, locked sequences, grants, expiry, hints. -/
namespace Sys2Proof.Machine

/-! ### Posts (R321, R322, R336, R337) -/

/-- Cells in an engine's output buffer: those it has queued at the ports of its quadrant. -/
def State.bufferOf (s : State) (e : Nat) : Nat :=
  sumNat ((List.range 16).map (fun i => ((s.port (16 * (e / 32) + i)).queue.filter (fun c => decide (c.engine = e))).length))

/-- A duplicate post is discarded (R336). -/
def State.arbDup (s : State) (p : Nat) : State := ((s.count (ARB_CNT_DUP_v p)).flag (ARB_STATUS_dup_seen p)).raise .arbDup p

/-- A post reaches the arbiter: ignored while its engine is masked, discarded as a duplicate or with a dropped
sequence, refused when a buffer is full, else queued. -/
def State.postCell (s : State) (p : Nat) (c : CmdCell) : State :=
  let x := s.port p
  if s.is (ARB_MASK_bit p (c.engine % 32)) then s
  else if x.locksDropped.any (fun d => decide (c.lock = some d.1)) then s
  else
    let twin := x.queue.find? (fun d => decide (d.stitch = c.stitch ∧ d.cycle = c.cycle))
    let granted := decide (Tbl.find? x.lastGrant c.stitch = some c.cycle)
    if granted then s.arbDup p
    else match twin with
      | some d =>
        if d.postAt = s.ct ∧ c.engine < d.engine then
          (s.updPort p (fun x => { x with queue := x.queue.map (fun y => if y = d then { c with postAt := s.ct } else y) })).arbDup p
        else s.arbDup p
      | none =>
        if 64 ≤ x.queue.length ∨ 16 ≤ s.bufferOf c.engine then
          let s := (s.count (ARB_CNT_FULL_v p)).flag (ARB_STATUS_full_seen p)
          s.updPort p (fun x => { x with held := x.held ++ [c] })
        else (s.updPort p (fun x => { x with queue := x.queue ++ [{ c with postAt := s.ct }] })).pubArb p

/-- ARB_POST_RETRY (R322): the cells an engine holds are offered again, each refusal counted. -/
def execArbPostRetry (e : Fin 128) (s : State) : Out3 :=
  .next ((List.range 16).foldl (fun s i =>
    let p := 16 * (e.val / 32) + i
    let mine := (s.port p).held.filter (fun c => decide (c.engine = e.val))
    if mine.isEmpty then s else
    let s := s.updPort p (fun x => { x with held := x.held.filter (fun c => decide (c.engine ≠ e.val)) })
    mine.foldl (fun s c => s.postCell p c) s) s).settle

/-! ### Locked sequences (R328 to R331) -/

/-- R330, on the port's cell slot schedule: 8.192 / w ticks a slot. A first cell takes the next slot that falls free. -/
def State.mustDrop (s : State) (p : Nat) (l : Nat × Nat) : Bool :=
  let x := s.port p
  let m := x.members l
  let d := minDeadline m
  let w := Nat.max 1 (s.get (PORT_STATUS_width p))
  if m.length < 2 then false
  else decide (d * 1000 * w + 999 * w < Nat.max x.slotAt (s.ct * 1000) * w + (m.length - 1) * 8192) || (decide (d < s.ct) && !x.complete l)

/-- Sequences that must be dropped are dropped whole. -/
def State.dropLocks (s : State) (p : Nat) : State :=
  ((s.port p).locks.filter (s.mustDrop p)).foldl (fun s l =>
    let s := s.updPort p (fun x => { x with
      queue := x.queue.filter (fun c => decide (c.lock ≠ some l)), held := x.held.filter (fun c => decide (c.lock ≠ some l)),
      locksDropped := x.locksDropped.filter (fun d => decide (s.ct < d.2 + ms 1)) ++ [(l, s.ct)] })
    (((s.count (ARB_CNT_LOCK_DROP_v p)).flag (ARB_STATUS_lock_drop_seen p)).pubArb p).raise .arbDeadline p) s

/-- LOCK_DROP (R330). -/
def execLockDrop (p : Fin 64) (s : State) : Out3 := .next (s.dropLocks p).settle

/-! ### Expiry (R335) -/

/-- Entries whose deadline is earlier than this cycle leave the queue and the output buffer. A sequence in
progress completes (R331). -/
def State.expireCells (s : State) (p : Nat) : State :=
  let x := s.port p
  let dead := fun (c : CmdCell) => decide (c.deadline < s.ct) && !(x.granting.isSome && decide (c.lock = x.granting))
  let n := (x.queue.filter dead).length
  if n = 0 then s else
  let s := s.updPort p (fun x => { x with queue := x.queue.filter (fun c => !dead c) })
  (((s.countN (ARB_CNT_EXPIRED_v p) n).flag (ARB_STATUS_expired_seen p)).pubArb p).raise .arbDeadline p

/-- ARB_EXPIRE (R335). -/
def execArbExpire (p : Fin 64) (s : State) : Out3 := .next ((s.dropLocks p).expireCells p).settle

/-! ### Grants (R325 to R327, R331, R338, R511) -/

/-- The order of R325 and R326: deadline, post cycle, engine, stitch. -/
def grantKey (l : List CmdCell) : Nat × Nat × Nat × Nat :=
  (minDeadline l, l.foldl (fun a c => Nat.max a c.postAt) 0, (l.head?.map (·.engine)).getD 0, (l.head?.map (·.stitch)).getD 0)
def keyLt (a b : Nat × Nat × Nat × Nat) : Bool :=
  if a.1 ≠ b.1 then decide (a.1 < b.1) else if a.2.1 ≠ b.2.1 then decide (a.2.1 < b.2.1)
  else if a.2.2.1 ≠ b.2.2.1 then decide (a.2.2.1 < b.2.2.1) else decide (a.2.2.2 < b.2.2.2)
def firstOf (l : List (List CmdCell)) : Option (List CmdCell) :=
  l.foldl (fun a c => match a with
    | none => some c
    | some b => if keyLt (grantKey c) (grantKey b) then some c else a) none

/-- Whether the unit owns cycle c of a port, by the reload of the cell (R511). -/
def State.ownsCell (s : State) (p : Nat) (c : CmdCell) : Bool :=
  let x := s.port p
  match x.claim, x.yieldAt with
  | some (_, e), _ => s.ownsPort p || (decide (e ≠ 0) && decide (e ≤ c.reload))
  | none, some t => s.ownsPort p && decide (c.reload < t)
  | none, none => s.ownsPort p

/-- The lengths and resolutions of commanded cycles the reducer uses (R229, R233), and their duties (R223): a cycle's commanded length is
period * (1 + offset change / 2^32). -/
def State.noteGrant (s : State) (p : Nat) (c : CmdCell) : State :=
  let g := 128 * p + c.stitch
  let d := fromField 32 ((c.nextOffset + 2 ^ 32 - c.off % 2 ^ 32) % 2 ^ 32)
  let len := ((c.period : Int) * (2 ^ 32 + d)).toNat
  s.updSt g (fun x => { x with applied := lastN 8 (x.applied ++ [(c.reload, c.duty)]), lens := lastN 8 (x.lens ++ [(c.cycle, len)]), resOf := lastN 8 (x.resOf ++ [(c.cycle, c.res)]) })

/-- The slot of a suppressed grant passes to other cell types (R338). -/
def State.passSlot (s : State) (p : Nat) : State :=
  match s.sendFirst (.port (Fin.ofNat 64 p)) with
  | some t => t
  | none => s.updPort p (fun x => { x with slotAt := s.nextSlot p })

/-- A cell is granted and enters the PHY, or is discarded there on a unit that does not own the cycle. With hint_en clear
each grant takes one more fabric cycle (R340). -/
def State.grantCell (s : State) (p : Nat) (c : CmdCell) : State :=
  let s := s.updPort p (fun x => { x with
    queue := x.queue.filter (fun d => decide (d ≠ c)), lastGrant := Tbl.put x.lastGrant c.stitch c.cycle })
  let s := (s.count (ARB_CNT_GRANT_v p)).lowerTo (ARB_SLACK_min_slack p) (c.deadline - s.ct)
  let s := (s.raiseTo (ARB_SLACK_max_wait p) (s.ct - c.postAt)).pubArb p
  let s := s.noteGrant p c
  let s := if s.is (ARB_CTRL_hint_en p) then s else s.updPort p (fun x => { x with slotAt := Nat.max x.slotAt (1000 * s.ct) + 1000 })
  if s.ownsCell p c then
    let s := s.updPort p (fun x => { x with
      claimBuf := if x.claim.isSome then lastN 64 (x.claimBuf.filter (fun d => decide (s.ct ≤ d.deadline)) ++ [c]) else x.claimBuf })
    s.enterPhy (.command p c.stitch c.cycle c.duty c.mode c.res c.hold c.period c.nextOffset c.target) 0 false
  else
    let s := s.updPort p (fun x => { x with
      claimBuf := x.claimBuf.filter (fun d => decide (d.stitch ≠ c.stitch ∧ s.ct ≤ d.deadline)) ++ [c] })
    (s.count (ARB_CNT_SUPPRESSED_v p)).passSlot p

/-- ARB_GRANT (R150, R325, R331): a cell slot of a port that is Up falls free; without a COMMAND cell to grant, the first of
the other cells that wait takes it, and an OWNER_CLAIM with effect on receipt comes before all (R512). -/
def execArbGrant (p : Fin 64) (s : State) : Out3 :=
  if s.get (PORT_STATUS_link_state p) ≠ 3 ∨ !s.slotNow p then .next s else
  let s := (s.dropLocks p).expireCells p
  if s.claimNow (.port p) then .next (s.pump (.port p)).settle else
  let x := s.port p
  match x.granting with
  | some l =>
    match (x.members l).foldl (fun a c => insertCell c a) [] with
    | c :: rest => .next ((s.grantCell p c).updPort p (fun x => { x with granting := if rest.isEmpty then none else some l })).settle
    | [] => .next (s.updPort p (fun x => { x with granting := none })).settle
  | none =>
    let cs := x.candidates
    match firstOf cs with
    | some (c :: rest) =>
      let s := if 2 ≤ cs.length then s.count (ARB_CNT_CONTEND_v p) else s
      let s := if rest.isEmpty then s else
        (s.count (ARB_CNT_LOCK_v p)).updPort p (fun x => { x with granting := c.lock })
      .next (s.grantCell p c).settle
    | _ => .next (s.pump (.port p)).settle

/-! ### Turn hints (R339, R340) -/

/-- The grant order of the current queue, a sequence in progress first. -/
def grantOrder : Nat → List (List CmdCell) → List CmdCell
  | 0, _ => []
  | n + 1, l => match firstOf l with
    | some b => b ++ grantOrder n (l.filter (fun x => decide (x ≠ b)))
    | none => []

/-- The hints of a cycle: a cell first at risk is counted. Rank saturates at 15. -/
def State.hints (s : State) (p : Nat) : State :=
  let x := s.port p
  if x.queue.isEmpty ∨ !s.is (ARB_CTRL_hint_en p) then s else
  let w := Nat.max 1 (s.get (PORT_STATUS_width p))
  let first := match x.granting with
    | some l => (x.members l).foldl (fun a c => insertCell c a) []
    | none => []
  let order := first ++ grantOrder x.queue.length x.candidates
  let risk := fun (c : CmdCell) (r : Nat) => decide (c.deadline * 1000 * w < s.ct * 1000 * w + (Nat.min r 15 + 1) * 8192)
  let new := ((order.zip (List.range order.length)).filter (fun y => risk y.1 y.2 && !y.1.hinted)).map (·.1)
  if new.isEmpty then s else
  let s := s.updPort p (fun x => { x with queue := x.queue.map (fun c => if new.contains c then { c with hinted := true } else c) })
  (s.countN (ARB_CNT_AT_RISK_v p) new.length).flag (ARB_STATUS_at_risk_seen p)

end Sys2Proof.Machine
end

