-- ==== Sys2Proof/Machine/Reducer.lean ====
section
/-! DEFINITION. Sample cells, windows and their results, accumulators and snapshots (R190 to R195, R224 to R243). -/
namespace Sys2Proof.Machine

/-! ### Upstream cells (R174, R511 to R513) -/

/-- A claim is acknowledged: the buffer is queued again (R512). -/
def State.claimAcked (s : State) (p : Nat) : State :=
  if s.is (PAIR_TERM_claim_pending p) then
    let s := s.setB (PAIR_TERM_claim_pending p) false
    match (s.port p).claim with
    | some (_, 0) => (s.updPort p (fun x => { x with claim := none })).requeue p
    | _ => s.requeue p
  else s

/-- The unit yields a port whose cells name the partner (R513). -/
def State.portYield (s : State) (p : Nat) : State :=
  let s := ((s.setOwn p false).flag PAIR_STATUS_yield_seen).raise .pairYield p
  let s := s.updPort p (fun x => { x with namedOther := 0 })
  if s.active && !s.is PAIR_STATUS_link_up && !s.is PAIR_STATUS_alive_in then
    (s.pfw false).setUnit 2
  else s

/-- An upstream cell of a port arrives with an owner bit (R174, R512, R513). -/
def State.ownerBit (s : State) (p : Nat) (owner : Bool) : State :=
  let other := decide (owner.toNat ≠ s.get (PORT_EPOCH_owner p))
  let s := if other then s.count (PORT_CNT_OWNER_v p) else s
  let s := if owner.toNat = s.pos then s.claimAcked p else s
  if other && s.ownsPort p then
    let s := s.updPort p (fun x => { x with namedOther := x.namedOther + 1 })
    if 8 ≤ (s.port p).namedOther then s.portYield p else s
  else s.updPort p (fun x => { x with namedOther := 0 })

/-- The header of an upstream cell: its owner bit, on a slot port, and its xoff (R161, R174; the service lanes have no
counter). -/
def State.upHdr (s : State) (l : LinkId) (h : UpHdr) : State :=
  let s := s.sawXoff l h.xoff
  match l with
  | .port p => s.ownerBit p.val h.owner
  | .svc _ => s
  | .partner => s

/-- A scheduled cell up a port, SAMPLE or SYNC, counts (R149). -/
def State.upScheduled (s : State) (p : Nat) : State := s.updPort p (fun x => { x with upN := x.upN + 1 })

/-! ### Resolutions and cycles (R193, R224 to R226) -/

def resSamples (r : Nat) : Nat := 8 * 2 ^ (r % 4)
def samplesRes (n : Nat) : Nat := if n ≤ 8 then 0 else if n ≤ 16 then 1 else if n ≤ 32 then 2 else 3
/-- Samples per cycle in force for a skein: its own, a reduced-width plan's or a shed stage's, the least of them. -/
def Skein.sampleCount (x : Skein) : Nat := Nat.min (Nat.min x.samples (x.planSamples.getD 64)) (x.shedSamples.getD 64)

/-- The resolution in force of window n: that of the command for cycle n - 1, else of the last one sent (R229). -/
def State.resOfWin (s : State) (g n : Nat) : Nat :=
  let l := (s.st g).resOf
  match l.find? (fun x => decide (x.1 = (n + 65535) % 65536)) with
  | some x => x.2
  | none => match l.getLast? with
    | some x => x.2
    | none => match (s.st g).skein with
      | some k => samplesRes (s.sk k).sampleCount
      | none => 1

/-- A 12-bit tag is the cycle nearest to the carrier's; of two equally near, the earlier (R224; DESIGN CHOICE, log 163). -/
def nearCycle (tag now : Nat) : Nat :=
  toField 16 ((now : Int) + fromField 12 ((tag + 4096 - now % 4096) % 4096))

/-- The combined offset of cycle n of a stitch: the next_offset its command for n - 1 carried (R324). -/
def State.offsetOf (s : State) (g n : Nat) : Nat :=
  match (s.st g).offs.find? (fun x => decide (x.1 = n)) with
  | some x => x.2
  | none => (s.st g).offset

/-- The fabric cycle of the deadline of window n of a stitch (R225). -/
def State.winDeadline (s : State) (g k n : Nat) : Int :=
  s.closeAfter k n (s.offsetOf g n) (70 + s.get (PORT_FLIGHT_up_ns (g / 128)))

/-! ### A window's results (R187, R190, R191, R231 to R236) -/

/-- The samples a cell carries of a quantity: grid index and code (R191). -/
def cellSamples (n q : Nat) (c : Nat × List Nat) : List (Nat × Nat) :=
  if n = 8 then
    if c.1 = q / 2 then ((List.range 8).zip ((c.2.drop (8 * (q % 2))).take 8)) else []
  else
    let per := n / 16
    if c.1 / per = q then ((List.range 16).map (fun i => 16 * (c.1 % per) + i)).zip c.2 else []

def quantity (n q : Nat) (cells : List (Nat × List Nat)) : List (Nat × Nat) := cells.flatMap (cellSamples n q)

/-- Exact sums of (code - zero): sum, sum of squares, least and greatest. -/
def codes (z : Nat) (l : List (Nat × Nat)) : List Int := l.map (fun x => (x.2 : Int) - z)
def meanOf (l : List Int) (lsb : Nat) : Int := divRound (sumInt l * lsb) (256 * l.length)
def rmsOf (l : List Int) (lsb : Nat) : Int :=
  sqrtRound ((sumInt (l.map (fun x => x * x))).toNat * lsb * lsb) (65536 * l.length)
def maxOf (l : List Int) : Int := l.foldl (fun a x => if a < x then x else a) (l.headD 0)
def minOf (l : List Int) : Int := l.foldl (fun a x => if x < a then x else a) (l.headD 0)
/-- The sum of products of two quantities at equal grid points. -/
def dot (v i : List (Nat × Nat)) (zv zi : Nat) : Int :=
  sumInt (v.map (fun x => match i.find? (fun y => decide (y.1 = x.1)) with
    | some y => ((x.2 : Int) - zv) * ((y.2 : Int) - zi)
    | none => 0))

/-- The exact length of a cycle, in 20.12 ticks times 2^32: commanded, with its offset change, or the skein's nominal
period (R197, R233). -/
def State.cycLen (s : State) (g k n : Nat) : Nat :=
  match (s.st g).lens.find? (fun x => decide (x.1 = n)) with
  | some x => x.2
  | none => s.periodAt k n * 2 ^ 32

/-- The result record of a window (R231 to R236). -/
def State.winRec (s : State) (g k : Nat) (w : OpenWin) : Rec :=
  let x := s.st g
  let d := x.desc
  let old := x.last
  let res := s.resOfWin g w.cycle
  let n := resSamples res
  let q := if d.iinSensed then 4 else 3
  let vin := quantity n 0 w.cells
  let iph := quantity n 1 w.cells
  let vout := quantity n 2 w.cells
  let iin := if d.iinSensed then quantity n 3 w.cells else []
  let ok := fun (l : List (Nat × Nat)) => decide (n ≤ 2 * l.length)
  let full := decide (w.cells.length = cellCount q n)
  let wl := (divRound ((s.cycLen g k ((w.cycle + 65535) % 65536) + s.cycLen g k w.cycle : Nat) : Int) (2 ^ 33)).toNat
  let cVin := codes 0 vin
  let cIph := codes d.iphZero iph
  let cVout := codes 0 vout
  let cIin := codes d.iinZero iin
  let den : Int := 65536 * n * 8 * 1000000 * 4096
  let ein := dot vin iin 0 d.iinZero * d.vinLsb * d.iinLsb * wl * 5
  let eout := dot vout iph 0 d.iphZero * d.voutLsb * d.iphLsb * wl * 5
  let lossOk := full && d.iinSensed
  let unit := fun (c : Int) (lsb : Nat) => divRound (c * lsb) 256
  {
      cycle := w.cycle, vinOk := ok vin, iphOk := ok iph, voutOk := ok vout, iinOk := d.iinSensed && ok iin, lossOk := lossOk,
      incomplete := !full, res := res, hub := if w.cells.isEmpty then old.hub else w.hub,
      vinMean := if ok vin then meanOf cVin d.vinLsb else old.vinMean,
      iphMean := if ok iph then meanOf cIph d.iphLsb else old.iphMean,
      voutMean := if ok vout then meanOf cVout d.voutLsb else old.voutMean,
      iinMean := if !d.iinSensed then 0 else if ok iin then meanOf cIin d.iinLsb else old.iinMean,
      iphRms := if ok iph then rmsOf cIph d.iphLsb else old.iphRms,
      iinRms := if !d.iinSensed then 0 else if ok iin then rmsOf cIin d.iinLsb else old.iinRms,
      iphMax := if ok iph then unit (maxOf cIph) d.iphLsb else old.iphMax,
      iphMin := if ok iph then unit (minOf cIph) d.iphLsb else old.iphMin,
      voutMax := if ok vout then unit (maxOf cVout) d.voutLsb else old.voutMax,
      voutMin := if ok vout then unit (minOf cVout) d.voutLsb else old.voutMin,
      eIn := if lossOk then sat32 (divRound ein den) else 0,
      eOut := if lossOk then sat32 (divRound eout den) else 0,
      loss := if lossOk then sat32 (divRound (ein - eout) den) else 0,
      voutCode := if ok vout then (divRound (sumInt cVout) cVout.length).toNat else old.voutCode,
      mask := w.cells.foldl (fun a c => a + 2 ^ c.1) 0, w := wl }

/-- A window joins accumulators, as its record gives the energies (R240; DESIGN CHOICE, log 162). -/
def Acc.join (a : Acc) (r : Rec) : Acc :=
  {
      eIn := sat64 (a.eIn + r.eIn), eOut := sat64 (a.eOut + r.eOut), loss := sat64 (a.loss + r.loss),
      ticks := Nat.min (2 ^ 64 - 1) (a.ticks + (divRound (r.w : Int) 4096).toNat), windows := Nat.min (2 ^ 64 - 1) (a.windows + 1) }

/-- A window is added to the live accumulators and to a pending snapshot by its close (R240 to R242). -/
def State.accumulate (s : State) (g k : Nat) (r : Rec) : State :=
  let p := g / 128
  if !r.lossOk ∨ !s.is (RED_CTRL_acc_en p) then s else
  let live := fun (x : Stitch) => { x with
    acc := x.acc.join r, added := (s.ct, (if x.added.1 = s.ct then x.added.2 else []) ++ [r]) }
  match (s.port p).snapAt with
  | some t =>
    if s.closeAt k r.cycle (s.offsetOf g r.cycle) < t then
      s.updSt g (fun x => { x with
        snap := x.snap.join r, acc := if (s.port p).clearWindow then x.acc else x.acc.join r })
    else s.updSt g live
  | none => s.updSt g live

/-- A delivered result is staged for the captures that await it (R565). -/
def State.capStage (s : State) (g : Nat) (r : Rec) : State :=
  if s.nv.caps.any (fun c => decide (0 < Tbl.get (α := Nat) c.left g 0)) then
    (s.updNv (fun n => { n with caps := n.caps.map (fun (c : Capture) =>
      if 0 < Tbl.get (α := Nat) c.left g 0 then
        { c with
          left := c.left.map (fun x => if x.1 = g then (g, x.2 - 1) else x),
          staged := c.staged.map (fun x => if x.1 = g then (g, x.2 ++ [r]) else x) }
      else c) })).capFlush
  else s

/-- WINDOW_REDUCE (R227, R237, R239, R240): a window's record is formed, delivered and kept. -/
def State.reduceWin (s : State) (g k : Nat) (w : OpenWin) : State :=
  let p := g / 128
  let r := s.winRec g k w
  let s := s.count (RED_CNT_WINDOWS_v p)
  let s := if r.incomplete then s.count (RED_CNT_INCOMPLETE_v p) else s
  let bad := !(r.vinOk && r.iphOk && r.voutOk)
  let s := if bad then s.count (RED_CNT_MISSING_v p) else s
  let s := if r.lossOk && decide (r.loss < 0) then s.flag (RED_STATUS_loss_neg p) else s
  let s := s.accumulate g k r
  let ring := s.is (RED_CTRL_ring_en p)
  let s := s.updSt g (fun x => { x with
    last := r, due := true, sampled := s.ct, reduced := some w.cycle,
    wins := x.wins.filter (fun v => !cycLe v.cycle w.cycle),
    trailerGap := if x.state = 1 then x.trailerGap + 1 else x.trailerGap,
    missing := if bad then x.missing + 1 else 0, ring := if ring then lastN 16 (x.ring ++ [(s.stOwner g, r)]) else x.ring,
    lens := x.lens.filter (fun l => cycLe w.cycle l.1), lastOk := if r.voutOk then some (r.voutMean, r.voutCode, s.ct) else x.lastOk,
    noHub2 := if x.state = 2 ∧ r.hub ≠ 2 then x.noHub2 + 1 else 0 })
  let s := if bad then s else s.gone .stitchSampleLoss g
  let s := if 64 ≤ (s.st g).noHub2 then s.gone .stitchAuto g else s
  let s := s.updSk k (fun x => { x with
    kept := lastN 8192 (x.kept ++ [(g, r)]) })
  s.capStage g r

/-- A window of a stitch, open or with no cell yet. -/
def Stitch.winOf (x : Stitch) (n : Nat) : OpenWin :=
  (x.wins.find? (fun v => decide (v.cycle = n))).getD { cycle := n, hub := x.hub }

/-- A window is reduced; the windows before it, whose deadlines have passed, are reduced first, as incomplete. -/
def State.reduceUpTo (s : State) (g k n : Nat) : Nat → State
  | 0 => s
  | f + 1 =>
    let x := s.st g
    match x.reduced with
    | none => s.reduceWin g k (x.winOf n)
    | some m =>
      if cycLe n m then s
      else (s.reduceWin g k (x.winOf ((m + 1) % 65536))).reduceUpTo g k n f

/-! ### The hub's report (R189, R207) -/

/-- Each cell tells the hub's state of its stitch. -/
def State.hubSeen (s : State) (g hub : Nat) : State :=
  let x := s.st g
  let s := s.updSt g (fun x => { x with hub := hub })
  match x.state, hub with
  | 2, 1 => s.stSet g 3
  | 3, 0 => s.stSet g 2
  -- the report that a command was applied ends its adoption (R189, R206)
  | 1, 0 | 1, 1 | 1, 3 => if x.adopting then (s.updSt g (fun x => { x with adopting := false, trailers := [] })).stSet g 2 else s
  | 2, 2 | 3, 2 =>
    let s := s.updSt g (fun x => { x with adopting := false, trailerGap := 0, noHub2 := 0, postedTo := none })
    (s.stSet g 1).raise .stitchAuto g
  | 5, 2 => if x.hub = 2 then s else s.raise .stitchAuto g
  | 0, 2 | 0, 3 =>
    -- a stitch of a live chassis that reported 0 or 1 is bound when it first reports 2 or 3 (R633)
    let n := g / 128
    if (s.slot n).baseSet then
      (match s.skeinOf g with
        | some k => (s.bindStitch k g).pubJob k
        | none => s)
    else s
  | _, _ => s

/-- SAMPLE_CELL_RX (R190 to R194, R224 to R230). -/
def execSampleCellRx (p : Fin 64) (h : UpHdr) (c : SampleCell) (s : State) : Out3 := s.onCell p.val fun (s : State) =>
  let g := 128 * p.val + c.stitch.val
  let s := ((s.upHdr (.port p) h).upScheduled p).hubSeen g c.hub.toNat
  match (s.st g).skein with
  | none =>
    .next (match s.skeinOf g with
      | some _ => s.updSt g (fun x => { x with lastTag := some (c.tag.toNat, s.ct) })
      | none => s).settle
  | some k =>
    let x := s.st g
    let n := nearCycle c.tag.toNat (s.cycleNow k)
    if c.res.toNat ≠ s.resOfWin g n then .next (s.count (PORT_CNT_CMD_REJECT_v p)).settle
    else
      let base := match x.reduced with
        | some m => (m + 1) % 65536
        | none => n
      let q := if x.desc.iinSensed then 4 else 3
      let total := cellCount q (resSamples c.res.toNat)
      let w := x.winOf n
      if w.cells.any (fun d => decide (d.1 = h.seq.toNat)) then .next (s.count (RED_CNT_DUP_v p)).settle
      else if !cycLe base n ∨ s.winDeadline g k n < s.ct then .next (s.count (RED_CNT_LATE_v p)).settle
      else if !cycLe n ((base + 2) % 65536) ∨ total ≤ h.seq.toNat then .next (s.count (RED_CNT_BAD_SEQ_v p)).settle
      else
        let w := { w with cells := w.cells ++ [(h.seq.toNat, c.samples.map (·.toNat))], hub := c.hub.toNat }
        let s := s.updSt g (fun x => { x with wins := x.wins.filter (fun v => decide (v.cycle ≠ n)) ++ [w] })
        if w.cells.length = total then .next (s.reduceUpTo g k n 64).settle
        else .next s.settle

/-- WINDOW_DEADLINE (R225, R226): the oldest window still open is reduced once the fabric cycle of its deadline, whose
cells still belong to it, is past. -/
def execWindowDeadline (g : Fin 8192) (s : State) : Out3 :=
  match (s.st g).skein with
  | none => .next s
  | some k =>
    let n := match (s.st g).reduced with
      | some m => (m + 1) % 65536
      | none => match (s.st g).wins.head? with
        | some w => w.cycle
        | none => toField 16 ((((((s.mer (s.sk k).carrier).value + (s.sk k).base * 2 ^ 32) / 2 ^ 31 : Nat) : Int) - 1) / 2)
    if s.winDeadline g k n < s.ct then .next (s.reduceUpTo g k n 64).settle else .next s

/-- STITCH_SAMPLE_LOSS (R237): 8 consecutive windows with a quantity missing. -/
def execStitchSampleLoss (g : Fin 8192) (s : State) : Out3 :=
  if 8 ≤ (s.st g).missing then .next (s.level .stitchSampleLoss g true).settle else .next s

/-- TRAILER_RX (R195, R208, R228, R632): kept for adoption; of an unbound stitch of a slot that starts, kept for its
cycle base. -/
def execTrailerRx (p : Fin 64) (h : UpHdr) (j : Fin 128) (hub : BitVec 2) (duty cycle : BitVec 16) (_held : BitVec 7) (s : State) : Out3 := s.onCell p.val fun (s : State) =>
  let g := 128 * p.val + j.val
  let s := (s.upHdr (.port p) h).hubSeen g hub.toNat
  .next (s.updSt g (fun x => { x with
    trailers := lastN 8 (x.trailers ++ [(duty.toNat, cycle.toNat)]), trailerGap := 0, trailAt := s.ct,
    duty := if x.state = 1 then duty.toNat else x.duty })).settle

/-! ### Snapshots (R241 to R243) -/

/-- The stitches of a port the state lists. -/
def State.portStitches (s : State) (p : Nat) : List Nat := (s.stitches.filter (fun x => decide (x.1 / 128 = p))).map (·.1)

/-- A snapshot begins (R241); a second one while pending is ignored. -/
def State.takeSnap (s : State) (p : Nat) : State :=
  if s.is (RED_STATUS_snap_pending p) then s else
  let s := (s.portStitches p).foldl (fun s g => s.updSt g (fun x => { x with prevSnap := x.snap, snap := x.acc })) s
  (s.updPort p (fun x => { x with snapAt := some s.ct, clearWindow := false })).setB (RED_STATUS_snap_pending p) true

/-- Whether every window of a port that closes before `t` has been reduced. -/
def State.reducedTo (s : State) (p t : Nat) : Bool :=
  (s.portStitches p).all (fun g => match (s.st g).skein, (s.st g).reduced with
    | some k, some m => decide ((t : Int) ≤ s.closeAt k ((m + 1) % 65536) (s.offsetOf g ((m + 1) % 65536)))
    | _, _ => true)

/-- RED_SNAP_DONE (R241): the snapshot holds every window that closed before its time. -/
def execRedSnapDone (p : Fin 64) (s : State) : Out3 :=
  match (s.port p).snapAt with
  | some t =>
    if s.ct ≤ t ∨ !s.reducedTo p t then .next s else
    let s := (s.setB (RED_STATUS_snap_pending p) false).flag (RED_STATUS_snap_done p)
    let s := s.setF (RED_SNAP_SEQ_seq p) (s.get (RED_SNAP_SEQ_seq p) + 1)
    .next (s.updPort p (fun x => { x with snapAt := none, clearWindow := false, snapSeen := true }))
  | none => .next s

/-- The accumulators of a port are cleared (R242). -/
def State.clearAcc (s : State) (p : Nat) : State :=
  -- a window added in the cycle of the clear is added after it
  let s := (s.portStitches p).foldl (fun s g => s.updSt g (fun x => { x with
    acc := if x.added.1 = s.ct then x.added.2.foldl (fun a r => a.join r) {} else {} })) s
  if s.is (RED_STATUS_snap_pending p) then s.updPort p (fun x => { x with clearWindow := true }) else s

/-- A selected accumulator. -/
def Acc.sel (a : Acc) (i : Nat) : Int :=
  match i with
  | 0 => a.eIn
  | 1 => a.eOut
  | 2 => a.loss
  | 3 => a.ticks
  | _ => a.windows

/-- LOSS_READ (R243): from the latest complete snapshot. -/
def execLossRead (mb : Mb) (k : Fin 64) (s : State) : Out3 :=
  .next (s.command mb k 0x541
    (fun s p => { bad := [
      (0, if u8 p 2 = 0 then s.stitchBad mb (u16 p 0) else if u8 p 2 = 1 then s.skeinBad mb (u16 p 0) else false),
      outside 2 (u8 p 2) 0 1, outside 3 (u8 p 3) 0 4, resv p 4 16] })
    (fun s p =>
      let o := u16 p 0
      let n := if u8 p 2 = 0 then o / 128 else (s.sk o).slot
      let sq := s.get (RED_SNAP_SEQ_seq n)
      let of := fun (g : Nat) =>
        let x := s.st g
        (if (s.port n).snapAt.isSome then x.prevSnap else x.snap).sel (u8 p 3)
      if !(s.port n).snapSeen then s.finish mb k 0 0 0
      else
        let v := if u8 p 2 = 0 then of o else sumInt ((s.bound o).map of)
        s.finish mb k 0 (sq % 65536) (if 3 ≤ u8 p 3 then (clampI 0 (2 ^ 64 - 1) v).toNat else toField 64 (sat64 v))))

end Sys2Proof.Machine
end

