-- ==== Sys2Proof/Machine/Loop.lean ====
section
/-! DEFINITION. The loop program of the engines (R244 to R268) and the skein step with its judgements (R286 to
R313): one delivered batch of a skein's window results. -/
namespace Sys2Proof.Machine

/-! ### Operations of R245: a result, and whether a range limit acted (R246) -/

abbrev Lim := Int × Bool
def limTo (lo hi x : Int) : Lim := (clampI lo hi x, decide (x < lo ∨ hi < x))
def accLim (x : Int) : Lim := limTo (-(2 ^ 39)) (2 ^ 39 - 1) x
def narrow15 (acc : Int) : Lim := limTo (-32768) 32767 (divRound acc 32768)
def narrow16 (acc : Int) : Lim := limTo 0 65535 (divRound acc 16384)
def shl (acc : Int) (n : Nat) : Lim := accLim (acc * 2 ^ n)
def wmul (acc b : Int) : Lim := accLim (divRound (acc * b) 32768)
/-- RECIP: every vin above twice v_ff counts as a limit, whatever it rounds to (R258). -/
def recip (vff vin : Int) : Lim :=
  if vin ≤ 0 then (32767, true) else
  let r := limTo 8192 32767 (divRound (vff * 32768) (2 * vin))
  (r.1, r.2 || decide (2 * vff < vin))

/-- A current in Q15 of i_fs (R259, R261). -/
def Skein.q15 (x : Skein) (ma : Int) : Int := satQ15 (divRound (ma * 32768) x.law.iFs)
/-- The error of R250, exact in the reference's 16 fraction bits. -/
def Skein.err (x : Skein) (fb : Int) : Int :=
  satQ15 (divRound ((x.job.refQ16 - fb * 65536) * 32768) (x.law.errFs * 65536))
def Skein.gains (x : Skein) : Int × Int × Int × Nat := x.sched.gains.getD x.job.region (0, 0, 0, 0)
/-- idx(e) of R254. -/
def Skein.idx (x : Skein) (e : Int) : Nat := Nat.min 63 (e.natAbs / 2 ^ x.idxShift)

/-- Whether cycle `c` lies in first to last, on the 16-bit circle. -/
def inSpan (first last c : Nat) : Bool :=
  decide ((c + 65536 - first % 65536) % 65536 ≤ (last + 65536 - first % 65536) % 65536)

/-- The law of one skein step for cycle `c` (R248, R252, R259, R311): `e` none without feedback. -/
def Skein.lawStep (x : Skein) (c : Nat) (e : Option Int) (ilim : Bool) : Skein :=
  let j := x.job
  let (kp, ki, kd, kexp) := x.gains
  let (du0, b1) : Lim := match e with
    | none => (0, false)
    | some e =>
      let (acc, b) := accLim (kp * (e - j.e1) + ki * e + kd * (e - 2 * j.e1 + j.e2))
      let (q, b') := narrow15 acc
      let (d, b'') := shl ((x.gtab.getD (x.idx e) 0 : Nat) * q) kexp
      (d, b || b' || b'')
  let cap := fun (v : Int) => if ilim && decide (0 < v) then 0 else v
  let du := cap du0
  let delta := x.q15 (sumInt ((j.intents.filter (fun i => decide (i.cycle = c))).map (·.deltaMa)))
  let (st, b2) := shl (x.law.kstep * delta) x.law.kstepExp
  let (kk, b3) : Lim := if x.law.nKick = 0 then (0, false) else shl (x.law.kkick * delta) x.law.kkickExp
  let new := if cap kk = 0 then [] else [Kick.mk (cap kk) c ((c + x.law.nKick - 1) % 65536)]
  let kicks := j.kicks.filter (fun k => inSpan k.first k.last c) ++ new
  let (tot, b4) := accLim (sumInt (kicks.map (·.value)))
  let u := clampI (x.law.uMin * 32768) (x.law.uMax * 32768) (j.u + du + cap st)
  { x with
    job := { j with
      u := u, e1 := e.getD j.e1, e2 := if e.isSome then j.e1 else j.e2, kicks := kicks,
      intents := j.intents.filter (fun i => !cycLe i.cycle c) },
    lastE := e.getD x.lastE, lastIdx := (e.map x.idx).getD x.lastIdx, lastDu := du, lastKick := tot, lastDelta := delta,
    gotIntent := j.intents.any (fun i => decide (i.cycle = c)),
    sat := x.sat || b1 || b2 || b3 || b4 }

def shareOf (j : Job) (l : Nat) : Int := Tbl.get (α := Int) j.shares l 0

/-- The duty of the stitch step (R248) before a hand-back's slew. -/
def Skein.dutyOf (x : Skein) (r share : Int) : Lim :=
  let (a, b1) := accLim (x.job.u + x.lastKick)
  let (m, b2) := wmul a r
  let (d, b3) := shl m 1
  let (t, b4) := accLim (d + share)
  let (n, b5) := narrow16 t
  (clampI x.lim.dmin x.lim.dmax n, b1 || b2 || b3 || b4 || b5)

/-- r of a stitch (R258). -/
def Skein.recipOf (x : Skein) (vin : Int) : Lim := if x.law.ffEn then recip x.law.vFf vin else (16384, false)

/-- The background step of share_j (R261). -/
def Skein.shareNext (x : Skein) (l : Nat) (iph : Int) : Int :=
  let lim := x.law.shareLim * 32768
  clampI (-lim) lim (accLim (shareOf x.job l + x.law.ks * x.q15 (x.iAvg - iph))).1

/-- u over adopted stitches with trailer duty and r: the mean of d / (4 r) in 30 fraction bits (R263). -/
def adoptU (l : List (Nat × Int)) : Int :=
  let (n, d) := l.foldl (fun (a : Int × Int) x => (a.1 * x.2 + (x.1 : Int) * 2 ^ 28 * a.2, a.2 * x.2)) (0, 1)
  divRound n (d * l.length)
/-- share_j of an adopted stitch (R263). -/
def Skein.adoptShare (x : Skein) (u r : Int) (d : Nat) : Int :=
  let lim := x.law.shareLim * 32768
  clampI (-lim) lim (divRound ((d : Int) * 2 ^ 28 - u * r) 16384)

/-- The highest region that is 0 or has x at least th[r - 1] (R256, R293). -/
def Sched.direct (sc : Sched) (v : Int) : Nat :=
  (List.range 8).foldl (fun a r => if r ≠ 0 ∧ sc.th.getD (r - 1) 0 ≤ v then r else a) 0
/-- One step of the region (R256). -/
def Sched.next (sc : Sched) (r : Nat) (v : Int) : Nat :=
  if r < 7 ∧ sc.th.getD r 0 + sc.hys ≤ v then r + 1
  else if 0 < r ∧ v < sc.th.getD (r - 1) 0 - sc.hys then r - 1 else r
def Skein.selected (x : Skein) : Int := if x.sched.selector = 0 then x.isk else x.running.length
/-- The region after a step; `changed` marks a change of the count in force, which then sets it (R256). -/
def Skein.regionAfter (x : Skein) (changed : Bool) : Nat :=
  if x.sched.selector = 2 then x.sched.fixed % 8
  else if x.sched.selector = 1 && changed then x.sched.direct x.job.count
  else x.sched.next x.job.region x.selected

/-- One step of the reference toward `dst` at `rate` µV/µs (R288), for a period in 20.12 ticks. -/
def refStep (ref dst rate : Int) (p12 : Nat) : Int :=
  let d := divRound (rate * p12 * 10) 1000000
  if ref < dst then (if dst ≤ ref + d then dst else ref + d) else if dst < ref then (if ref - d ≤ dst then dst else ref - d) else dst

/-! ### Stitches of a skein (R112, R114, R248, R301) -/

def minNat (l : List Nat) : Option Nat := l.foldl (fun a x => match a with
  | none => some x
  | some m => some (Nat.min m x)) none
/-- The healthy stitches in restore order (R301). -/
def State.restoreOrder (s : State) (k : Nat) : List Nat :=
  let x := s.sk k
  let o := if x.order.isEmpty then x.stitches else x.order
  (o.map (128 * x.slot + ·)).filter (fun g => decide ((s.st g).skein = some k ∧ (s.st g).state ≠ 5))
/-- The lead stitch (R248). -/
def State.leadOf (s : State) (k : Nat) : Option Nat :=
  match minNat (s.sk k).running with
  | some g => some g
  | none => minNat (s.bound k)

/-- The lead stitch of window n: another one leads from the cycle at which the change of the running set applies (R248). -/
def State.leadAt (s : State) (k n : Nat) : Option Nat :=
  match (s.sk k).leads.find? (fun l => !cycLe l.1 n && decide ((s.st l.2).skein = some k)) with
  | some l => some l.2
  | none => s.leadOf k

/-- The lead stitch whose result a batch holds, if it is the lead batch. -/
def State.leadIn (s : State) (k : Nat) (gs : List Nat) : Option Nat :=
  gs.find? (fun g => decide (s.leadAt k (s.st g).last.cycle = some g))

/-- The stagger of the running stitches, in ascending local id (R112). -/
def State.stagger (s : State) (k : Nat) : State :=
  let x := s.sk k
  let gs := (s.bound k).filter x.running.contains
  let n := gs.length
  (gs.zip (List.range n)).foldl (fun s y =>
    let o := if x.interleave then (divRound ((y.2 : Int) * 2 ^ 32) n).toNat else 0
    s.updSt y.1 (fun v => { v with toOffset := (x.offset + o) % 2 ^ 32 })) s

/-- One cycle of a slew (R114): the shorter way, forward at half a turn, by at most 2^28. -/
def slewOffset (cur dst : Nat) : Nat :=
  let d := fromField 32 ((dst + 2 ^ 32 - cur % 2 ^ 32) % 2 ^ 32)
  let d := if d = -(2 ^ 31) then 2 ^ 28 else clampI (-(2 ^ 28)) (2 ^ 28) d
  toField 32 ((cur : Int) + d)

/-! ### A move to another carrier (R98) -/

/-- The turn of meridian `m` that cycle c of a stitch takes when it may not begin before `t` (ticks, a fraction). -/
def State.turnAt (s : State) (m off : Nat) (t : Int × Nat) : Int :=
  let x := s.mer m
  -- ceil((value + t * step - off) / 2^32)
  let num := ((x.value : Int) - off) * (t.2 * x.ratioEff : Nat) + t.1 * x.stepx
  let den : Int := 2 ^ 32 * (t.2 * x.ratioEff : Nat)
  0 - (0 - num) / den

/-- The skein is on meridian `m` from cycle c on. Where the first points of its stitches at or after the old start lie in
different turns, the latest turn numbers c for all (DESIGN CHOICE, log 158). -/
def State.moveCarrier (s : State) (k c hz m : Nat) : State :=
  if (s.mer m).stepx = 0 then s else
  let turns := (s.bound k).map (fun g => s.turnAt m (s.offsetOf g c) (s.startNum k c (s.offsetOf g c)))
  let t := turns.foldl (fun (a : Int) b => if a < b then b else a) (turns.headD (s.turnAt m (s.sk k).offset (s.startNum k c (s.sk k).offset)))
  s.updSk k (fun x => { x with
    moved := some (c, x.carrier, x.base, x.hz), carrier := m, hz := hz, base := toField 16 ((c : Int) - t) })

/-- The move to another carrier that is entered for a cycle of a skein: at its engine, or in an entry of the ephemeris that
is not yet committed (R98, log 159). -/
def State.rateAt (s : State) (k c : Nat) : Option (Nat × Nat) :=
  let own := (s.sk k).acts.filterMap (fun a => match a with
    | (c', .rate hz m) => if c' = c then some (hz, m) else none
    | _ => none)
  let entered := (s.eph.filter (fun x => x.2.st = .pending ∧ x.2.cycles.any (fun y => decide (y = (k, c))))).flatMap (fun x =>
    x.2.acts.filterMap (fun a => match a with
      | .rate k' hz m => if k' = k then some (hz, m) else none
      | _ => none))
  (own ++ entered).head?

/-- The nominal period a command for cycle c carries (R98, R196): a carrier move at c + 1 places R(c + 1). -/
def State.periodFor (s : State) (k c off next : Nat) : Nat :=
  match s.rateAt k ((c + 1) % 65536) with
  | some (hz, m) =>
    let s' := s.moveCarrier k ((c + 1) % 65536) hz m
    let (n1, d1) := s.startNum k c off
    let (n2, d2) := s'.startNum k ((c + 1) % 65536) next
    let len := (n2 * d1 - n1 * d2) * 4096
    (divRound (len * 2 ^ 32) ((d1 * d2 : Nat) * (2 ^ 32 + fromField 32 ((next + 2 ^ 32 - off % 2 ^ 32) % 2 ^ 32)))).toNat
  | none => s.periodAt k c

/-! ### Overruns (R272 to R277) -/

/-- The cycle that ends is judged; a planned move (R284) takes its one cycle in shadow, then switches. -/
def State.judgeOverrun (s : State) (k e : Nat) : State :=
  let x := s.sk k
  let spent := Config.spentCycles s.fresh
  let late := x.batchLate
  let b := 8 + 12 * (s.bound k).length
  let over_ := decide (5 * b < 4 * spent) || late
  let s := s.setF (ENG_LOAD_measured e) (Config.spentCycles (s.fresh + 1))
  let s := { s with fresh := s.fresh + 2 }
  let s := if over_ then s.count (ENG_CNT_OVERRUN_v e) else s
  let runs := if over_ then x.overruns + 1 else 0
  let s := s.updSk k (fun y => { y with spent := spent, batchLate := false, overruns := runs })
  let slow := fun (s : State) => (s.setB (ENG_STATUS_slow e) true).raise .engOverrun e
  let toSpare := fun (s : State) => match s.spareEngine k with
    | some t => (s.updSk k (fun y => { y with shadow := some (t, false, s.ct) })).pubEng t
    | none => s.raise .engNoSpare e
  match x.moveTo, x.shadow with
  | some t, sh =>
    -- a slowed engine takes no job (R277)
    if !s.engOk t then s.dropMove k 2 2
    else if sh.isSome then
      let s := ((s.finishOpt x.moveFor 0 0 0).updSk k (fun y => { y with moveFor := none })).moveJob k (some t) true
      if 3 ≤ runs then slow s else s
    else (s.updSk k (fun y => { y with shadow := some (t, false, s.ct) })).pubEng t
  | none, sh =>
    if runs < 2 then (if runs = 0 then s.eval .engOverrun e false else s).dropMove k 0 0
    else match sh with
      | some (t, _, _) => if s.engOk t then slow (s.moveJob k (some t) true) else toSpare (s.dropMove k 0 0)
      | none => toSpare s

/-! ### Loads and actions of a step (R249, R280, R289, R302, R305, R306, R314) -/

/-- A power load: answers whether it is op 0. -/
def State.powerOp (s : State) (k op : Nat) : State × Bool :=
  let st := s.skSt k
  match op with
  | 0 => (s.updSk k (fun x => { x with wantStart := false }), !(st = 0 || st = 5))
  | 1 => (s.updSk k (fun x => { x with wantStart := decide (st = 0) }), false)
  | _ => (if st = 1 ∨ st = 2 then s.skSet k 3 else s.updSk k (fun x => { x with wantStart := false }), false)

def State.takeLoad (s : State) (k : Nat) (l : Load) : State × Bool :=
  match l with
  | .power op => s.powerOp k op
  | l => (s.applyLoad k l, false)

/-- A count comes into force, limited to the healthy stitches. During the hold of R306 none lowers it. A change starts
the skein's dwell and settle intervals (R356, R367). -/
def State.countAct (s : State) (k n issuer : Nat) : State :=
  let x := s.sk k
  let n := Nat.min n (s.healthy k).length
  if x.restoreUntil.any (fun t => decide (s.ct < t)) ∧ n < x.job.count then s.event issuer 0x0503 (leBytes 1 x.job.count)
  else s.updSk k (fun y => { y with
    job := { y.job with count := n }, settle := if n = y.job.count then y.settle else 3,
    dwellUntil := if n = y.job.count then y.dwellUntil else s.ct + ms 100 })

def State.takeAct (s : State) (k c : Nat) (a : SkAct) : State × Bool :=
  match a with
  | .target mv slew => (s.updSk k (fun x => { x with target := mv, slew := if slew = 0 then x.lim.slew else slew }), false)
  | .count n h => (s.countAct k n h, false)
  | .rate hz m => ((s.moveCarrier k c hz m).updSk k (fun x => { x with settle := 3, rateDwell := s.ct + sec 1 }), false)
  | .samples true n => (s.updSk k (fun x => { x with planSamples := n }), false)
  | .samples false n => (s.updSk k (fun x => { x with shedSamples := n }), false)
  | .load l => s.takeLoad k l
  | .releaseAll => (s, false)

/-- RELEASE to every running stitch at cycle c (R213, R252, R537): released. -/
def State.releaseSkein (s : State) (k c : Nat) : State :=
  let st := s.skSt k
  if st = 1 ∨ st = 2 ∨ st = 3 then
    let s := (s.powerDone k 9 5).skSet k 4
    s.updSk k (fun x => { x with
      relAt := some c, mayReturn := false, forceAdopt := false, adoptWin := 0, wantStart := false,
      job := { x.job with kicks := [], ovRun := 0, uvRun := 0 }, lastKick := 0 })
  else s

/-- Loads first, in order, then actions for cycles up to c; answers whether op 0 stands. -/
def State.takeAll (s : State) (k c : Nat) : State × Bool :=
  let ls := (s.sk k).loads
  let s := s.updSk k (fun x => { x with loads := [] })
  let (s, off) := ls.foldl (fun (a : State × Bool) l =>
    let (s, b) := a.1.takeLoad k l.1
    (s.finishOpt l.2 0 0 0, a.2 || b)) (s, false)
  let due := (s.sk k).acts.filter (fun a => cycLe a.1 c)
  let s := s.updSk k (fun x => { x with acts := x.acts.filter (fun a => !cycLe a.1 c) })
  due.foldl (fun (a : State × Bool) d =>
    let (s, b) := a.1.takeAct k c d.2
    (match d.2 with
      | .releaseAll => s.releaseSkein k c
      | _ => s, a.2 || b)) (s, off)

/-- An automatic restore due at c: the larger count stands (R305, R306). One that leaves the count as it is, with every healthy
stitch running, is no restore (DEDUCED, log 175). -/
def State.takeRestore (s : State) (k c : Nat) : State :=
  match (s.sk k).countAt with
  | some (cy, n) =>
    if cycLe cy c then
      let n := Nat.min n (s.healthy k).length
      let s := s.updSk k (fun x => { x with countAt := none })
      if n ≤ (s.sk k).job.count then s
      else
        let s := s.updSk k (fun x => { x with
          settle := 3, dwellUntil := s.ct + ms 100, restoreUntil := some (s.ct + ms 20), job := { x.job with count := n } })
        ((s.count (SKN_CNT_restores k)).setB (SKN_STATE_restore_hold k) true).event (s.skOwner k) 0x0503 (leBytes 1 n)
    else s
  | none => s

/-- The running set of the step for cycle c (R301 to R303): the count in force of the stitches healthy at the step before, or
now at a start. -/
def State.setRunning (s : State) (k c : Nat) : State :=
  let x := s.sk k
  let h := if x.wantStart then s.restoreOrder k else x.nextRunning.filter (fun g => decide ((s.st g).skein = some k))
  let run := h.take x.job.count
  let s := s.updSk k (fun y => { y with nextRunning := s.restoreOrder k })
  if run = x.running then s else
  let old := s.leadOf k
  let s := ((s.updSk k (fun y => { y with running := run })).stagger k).setF (SKN_STATE_active k) run.length
  match old with
  | some g => if s.leadOf k = some g then s else s.updSk k (fun y => { y with leads := y.leads ++ [(c, g)] })
  | none => s

/-! ### Measurements (R212, R251, R255, R261) -/

/-- The median Vout of the running stitches whose Vout is valid. -/
def State.medianVout (s : State) (k : Nat) : Option Int :=
  let l := (((s.sk k).running.filter (fun g => (s.st g).last.voutOk)).map (fun g => (s.st g).last.voutMean))
  if l.isEmpty then none else some (median l)

/-- The sense-open judgement of a delivered window, made once (R212, R214). -/
def State.judgeSense (s : State) (k g : Nat) : State :=
  let r := (s.st g).last
  if !r.voutOk || (s.st g).judgedAt.any (fun m => cycLe r.cycle m) then s else
  let s := s.updSt g (fun x => { x with judgedAt := some r.cycle })
  match s.medianVout k with
  | none => s
  | some m =>
    let high := decide (4032 ≤ r.voutCode ∧ m * 11 < r.voutMean * 10)
    let close := decide (10 * (r.voutMean - m).natAbs ≤ m.natAbs)
    let s := s.updSt g (fun x => { x with
      senseRun := if high then x.senseRun + 1 else 0, senseClear := if close then x.senseClear + 1 else 0 })
    if 2 ≤ (s.st g).senseRun ∧ !(s.st g).senseOpen then s.senseSet g true else s

/-- The most recent usable result of any stitch of a skein delivered within the last T, with its code (R251). -/
def State.lastUsable (s : State) (k : Nat) : Option (Int × Nat × Nat) :=
  ((s.bound k).filterMap (fun g => if (s.st g).senseOpen then none else (s.st g).lastOk)).foldl (fun a x => match a with
    | some y => if y.2.2 < x.2.2 then some x else a
    | none => if s.ct * 4096 ≤ x.2.2 * 4096 + s.period12 k then some x else none) none

/-- The feedback of a step (R251), and the code traced with it: that of the fallback's result, or of the first usable stitch
of the lead batch (R265; DESIGN CHOICE, log 166). -/
def State.feedback (s : State) (k : Nat) (gs : List Nat) : Option Int × Nat :=
  let us_ := gs.filter (fun g => (s.st g).last.voutOk && !(s.st g).senseOpen)
  if us_.isEmpty then
    (match s.lastUsable k with
      | some (v, code, _) => (some v, code)
      | none => (none, (s.sk k).lastFbCode))
  else (some (divRound (sumInt (us_.map (fun g => (s.st g).last.voutMean))) us_.length), (us_.head?.map (fun g => (s.st g).last.voutCode)).getD 0)

/-- I_sk, i_avg, feedback and its runs (R252, R253, R291). -/
def State.measure (s : State) (k e : Nat) (gs : List Nat) : State :=
  let is_ := ((s.sk k).running.filter (fun g => (s.st g).last.iphOk)).map (fun g => (s.st g).last.iphMean)
  let (fb, code) := s.feedback k gs
  let s := if fb.isNone then s.count (ENG_CNT_NO_FB_v e) else s
  s.updSk k (fun x => { x with
    isk := sumInt is_, iAvg := divRound (sumInt is_) is_.length, lastFb := fb.or x.lastFb, lastFbCode := code,
    noFb := if fb.isNone then x.noFb + 1 else 0, fbBack := if fb.isSome then x.fbBack + 1 else 0,
    fbHist := lastN 4 (x.fbHist ++ [fb]) })

/-! ### Judgements (R304, R305, R308 to R312) -/

/-- Fewer healthy stitches than n_min (R304). -/
def State.judgeDegraded (s : State) (k : Nat) : State :=
  let d := decide ((s.healthy k).length < (s.sk k).lim.nMin)
  ((s.setB (SKN_STATE_degraded k) d).level .skeinDegraded k d).seqCond k 2 d

/-- An automatic restore is set for a cycle (R305, R306). -/
def State.setRestore (s : State) (k cy : Nat) : State :=
  let x := s.sk k
  let pending : Bool := match x.countAt with
    | some (c, _) => cycLe c cy
    | none => false
  if pending then s else s.updSk k (fun y => { y with countAt := some (cy, x.lim.nMax) })

/-- The restore conditions of a step for cycle c: a stitch current, and each intent first held. -/
def State.judgeRestore (s : State) (k c : Nat) : State :=
  let x := s.sk k
  let lim := x.lim
  let fresh := x.job.intents.filter (fun i => !x.heldIntents.contains i)
  let s := s.updSk k (fun y => { y with heldIntents := y.job.intents })
  if lim.restoreMa = 0 ∨ lim.nMax ≤ x.job.count then s
  else
    let c1 := (c + 1) % 65536
    let s := if x.running.any (fun g => (s.st g).last.iphOk && decide (lim.restoreMa < (s.st g).last.iphMean)) then s.setRestore k c1 else s
    fresh.foldl (fun s i =>
      if x.job.count ≠ 0 ∧ lim.restoreMa * x.job.count < x.isk + i.deltaMa then
        let c4 := (i.cycle + 65536 - 4) % 65536
        s.setRestore k (if cycLe c4 c1 then c1 else c4)
      else s) s

/-- The thresholds of R308, in 1/65536 mV: over-voltage and under-voltage. -/
def Skein.ovThr (x : Skein) : Int :=
  let hi := x.refHist.foldl (fun (a : Int) r => if a < r then r else a) (x.refHist.headD 0)
  let v := hi + (x.lim.ovMargin : Int) * 65536
  if (x.lim.ovAbs : Int) * 65536 < v then (x.lim.ovAbs : Int) * 65536 else v
def Skein.uvThr (x : Skein) : Int :=
  x.refHist.foldl (fun (a : Int) r => if r < a then r else a) (x.refHist.headD 0) - (x.lim.uvMargin : Int) * 65536

/-- m of R195. -/
def Skein.trailerM (x : Skein) : Nat := ceilDiv x.hz 500000
/-- The fresh trailers of a stitch at window n (R209). -/
def Stitch.fresh (y : Stitch) (n m : Nat) : List (Nat × Nat) :=
  y.trailers.filter (fun t => decide ((n + 65536 - t.2 % 65536) % 65536 ≤ 4 * m))

/-- v_est of R312. -/
def State.estimate (s : State) (k n : Nat) : Option Int :=
  match s.leadOf k with
  | none => none
  | some g => (((s.st g).fresh n (s.sk k).trailerM).getLast?).map (fun t => divRound ((t.1 : Int) * (s.st g).last.vinMean) 65536)

/-- The voltage judgement of a step: above the over-voltage and below the under-voltage threshold; none makes no
judgement. -/
def State.judgeV (s : State) (k n : Nat) (fb : Option Int) : Option (Bool × Bool) :=
  let x := s.sk k
  match s.skSt k with
  | 1 | 3 => fb.map (fun v => (decide (x.ovThr < v * 65536), false))
  | 2 => fb.map (fun v => (decide (x.ovThr < v * 65536), decide (v * 65536 < x.uvThr)))
  | 4 => (s.estimate k n).map (fun v =>
      let t : Int := x.target
      let hi := if (x.lim.ovAbs : Int) < t + x.lim.ovMargin then (x.lim.ovAbs : Int) else t + x.lim.ovMargin
      (decide (hi + x.lim.estMargin < v), decide (v < t - x.lim.uvMargin - x.lim.estMargin)))
  | _ => none

/-- A skein under judgement: starting to released. -/
def State.judged (s : State) (k : Nat) : Bool := let st := s.skSt k; st = 1 || st = 2 || st = 3 || st = 4

/-- The runs of R309 to R312 after a step. -/
def State.countRuns (s : State) (k n : Nat) (fb : Option Int) : State :=
  let v := s.judgeV k n fb
  let (ov, uv) := v.getD (false, false)
  let on := s.judged k
  let lim := on && decide ((s.sk k).lim.ilimMa < (s.sk k).isk)
  let s := if lim then (s.count (SKN_CNT_ilim_windows k)).flag (SKN_STATE_ilim_seen k) else s
  s.updSk k (fun x => { x with
    job := { x.job with
      ovRun := if ov then x.job.ovRun + 1 else 0, uvRun := if uv then x.job.uvRun + 1 else 0,
      ilimRun := if lim then x.job.ilimRun + 1 else 0 },
    uvClear := if v.isSome && !uv then x.uvClear + 1 else if uv then 0 else x.uvClear,
    ilimFrom := if lim then some (x.ilimFrom.getD s.ct) else none })

/-- The under-voltage response (R310, R312): raise, seen bit and event at its onset; the supervised condition. -/
def State.takeUv (s : State) (k : Nat) : State :=
  let x := s.sk k
  let on := (s.skSt k = 2 || s.skSt k = 4) && decide (x.lim.uvWin ≤ x.job.uvRun ∧ 0 < x.job.uvRun)
  let first := on && !s.raised .skeinUv k
  let s := if first then s.flag (SKN_STATE_uv_seen k) else s
  let s := s.eval .skeinUv k on
  if on then s.seqCond k 1 true
  else if x.lim.uvWin ≤ x.uvClear ∨ !(s.skSt k = 2 ∨ s.skSt k = 4) then s.seqCond k 1 false else s

/-! ### Outcomes (R293, R296, R309, R311, R313) -/

def State.dropTerms (s : State) (k : Nat) : State :=
  s.updSk k (fun x => { x with job := { x.job with kicks := [] }, lastKick := 0 })

/-- A latch (R309, R311): by over-voltage or current limit. -/
def State.latchSkein (s : State) (k : Nat) (ov : Bool) : State :=
  let info := if ov && decide (s.skSt k = 1) then 3 else 5
  let s := (s.powerDone k 9 info).skSet k 5
  let s := (s.dropTerms k).updSk k (fun x => { x with
    wantStart := false, relAt := none, job := { x.job with intents := [], ovRun := 0, ilimRun := 0 }, ilimFrom := none })
  let s := if ov then ((s.flag (SKN_STATE_ov_seen k)).count (SKN_CNT_ov_trips k)).raise .skeinOv k else s.raise .skeinIlim k
  s.railLost k

/-- Whether a trip of R309, R311 or R312 is due. -/
def State.ovDue (s : State) (k : Nat) : Bool :=
  s.judged k && decide (0 < (s.sk k).job.ovRun ∧ (s.sk k).lim.ovWin ≤ (s.sk k).job.ovRun)
def State.ilimDue (s : State) (k : Nat) : Bool :=
  s.judged k && (match (s.sk k).ilimFrom with
    | some t => decide (t + us (s.sk k).lim.ilimUs ≤ s.ct)
    | none => false)

/-- The skein is off from cycle c on (R296). -/
def State.skeinOff (s : State) (k c : Nat) : State :=
  (((s.skSet k 0).dropTerms k).updSk k (fun x => { x with offAt := some c, relAt := none, pgAt := none })).gone .skeinUv k

/-- v_pre of R291. -/
def Skein.preBias (x : Skein) : Option Int :=
  let l := x.fbHist.filterMap (fun (v : Option Int) => v)
  if l.isEmpty then none else
  let m := divRound (sumInt l) l.length
  some (if m < 0 then 0 else m)

/-- A start (R291 to R293): answers the info of a refusal. -/
def State.startSkein (s : State) (k c : Nat) : State :=
  let x := s.sk k
  let s := s.updSk k (fun y => { y with wantStart := false })
  let lead := (s.leadOf k).getD 0
  let vin := (s.st lead).last.vinMean
  let ov : Int := if (x.lim.ovAbs : Int) < x.target + x.lim.ovMargin then x.lim.ovAbs else x.target + x.lim.ovMargin
  let fail := fun (i : Nat) => s.powerDone k 9 i
  if x.running.isEmpty then fail 6
  else match x.preBias with
    | none => fail 7
    | some v =>
      if ov ≤ v then fail 1
      else if !x.law.ffEn ∧ vin ≤ 0 then fail 8
      else
        let u := clampI x.law.uMin x.law.uMax (divRound (v * 32768) (if x.law.ffEn then x.law.vFf else vin))
        let t := s.reloadAt k c (s.offsetOf lead c) + us x.lim.pgTimeout
        let s := (s.dropTerms k).updSk k (fun y => { y with
          job := { y.job with
            u := u * 32768, e1 := 0, e2 := 0, shares := [], refQ16 := v * 65536,
            region := if y.sched.selector = 2 then y.sched.fixed % 8 else y.sched.direct y.selected,
            intents := y.job.intents.filter (fun i => !cycLe i.cycle ((c + 65535) % 65536)), ovRun := 0, uvRun := 0 },
          pgAt := some t.toNat, pgRun := 0, noFb := 0, offAt := none, refHist := y.refHist.dropLast ++ [v * 65536] })
        s.skSet k 1

/-- The reference moves (R288, R294, R296). -/
def State.moveRef (s : State) (k : Nat) : State :=
  let p := s.period12 k
  let st := s.skSt k
  s.updSk k (fun x =>
    let t : Int := (x.target : Int) * 65536
    let r := match st with
      | 1 => refStep x.job.refQ16 t x.lim.ramp p
      | 2 => refStep x.job.refQ16 t x.slew p
      | 3 => refStep x.job.refQ16 0 x.lim.ramp p
      | _ => x.job.refQ16
    { x with job := { x.job with refQ16 := r }, refHist := lastN 64 (x.refHist ++ [r]) })

/-- Power good (R295). -/
def State.powerGood (s : State) (k : Nat) (fb : Option Int) : State :=
  let x := s.sk k
  if s.skSt k ≠ 1 then s else
  let ok : Bool := match fb with
    | some v => decide (x.job.refQ16 = (x.target : Int) * 65536 ∧ (v - x.target).natAbs ≤ x.lim.uvMargin)
    | none => false
  let s := s.updSk k (fun y => { y with pgRun := if ok then y.pgRun + 1 else 0 })
  if 16 ≤ (s.sk k).pgRun then ((s.updSk k (fun y => { y with pgAt := none })).skSet k 2).powerDone k 0 0 else s

/-! ### Adoption (R208 to R210, R263, R264) -/

/-- Adopted stitches not yet handed a first command. -/
def State.adoptees (s : State) (k : Nat) : List Nat := (s.bound k).filter (fun g => decide ((s.st g).state = 1) && !(s.st g).adopting)
/-- Running stitches under command. -/
def State.commanded (s : State) (k : Nat) : List Nat :=
  (s.sk k).running.filter (fun g => let y := s.st g; y.state = 2 || y.state = 3 || y.adopting)

def State.trailerDuty (s : State) (g : Nat) : Nat := ((s.st g).trailers.getLast?.map (·.1)).getD (s.st g).duty

/-- u and share_j are loaded from trailers: u only while no stitch is commanded. -/
def State.adoptLoad (s : State) (k : Nat) (gs : List Nat) (loadU : Bool) (e : Option Int) (c : Nat) : State :=
  let x := s.sk k
  let l := (gs.filter (fun g => !(s.st g).trailers.isEmpty)).map (fun g => (g, s.trailerDuty g, x.recipOf (s.st g).last.vinMean))
  let u := if loadU && !l.isEmpty then adoptU (l.map (fun y => (y.2.1, y.2.2.1))) else x.job.u
  let sat := l.any (fun y => y.2.2.2)
  let s := s.updSk k (fun y => { y with
    job := { y.job with
      u := u, shares := l.foldl (fun a z => Tbl.put a (z.1 % 128) (x.adoptShare u z.2.2.1 z.2.1)) y.job.shares,
      e1 := if loadU then e.getD y.job.e1 else y.job.e1, e2 := if loadU then e.getD y.job.e2 else y.job.e2,
      kicks := if loadU then [] else y.job.kicks,
      intents := if loadU then y.job.intents.filter (fun i => !cycLe i.cycle c) else y.job.intents },
    lastKick := if loadU then 0 else y.lastKick, lastDu := if loadU then 0 else y.lastDu,
    lastE := if loadU then e.getD y.lastE else y.lastE,
    lastIdx := if loadU then (e.map y.idx).getD y.lastIdx else y.lastIdx, sat := y.sat || sat })
  l.foldl (fun s z => s.updSt z.1 (fun y => { y with rj := z.2.2.1 })) s

/-- The adopted stitches are taken at cycle c when R209 holds, or when R210 forces it; a released skein then
regulates with its reference at the target (R287). -/
def State.adoptStep (s : State) (k n c : Nat) (gs : List Nat) : State :=
  let x := s.sk k
  let m := x.trailerM
  let may := decide (s.skSt k ≠ 4) || x.mayReturn
  if gs.isEmpty ∨ !may then s.updSk k (fun y => { y with adoptWin := 0, forceAdopt := false }) else
  let near := fun (g : Nat) => decide (((x.dutyOf (s.st g).rj (shareOf x.job (g % 128))).1 - s.trailerDuty g).natAbs ≤ 256)
  let ready := gs.all (fun g => decide (4 ≤ ((s.st g).fresh n m).length) && near g)
  -- a stitch without trailers for 8m windows stays adopted; a trailer is stale from then on (R211; DESIGN CHOICE, log 168)
  let take := if ready then gs else if x.forceAdopt then
    gs.filter (fun g => decide ((s.st g).trailerGap < 8 * m) && !(s.st g).trailers.isEmpty) else []
  if take.isEmpty then s.updSk k (fun y => { y with adoptWin := y.adoptWin + 1 }) else
  let s := take.foldl (fun s g => s.updSt g (fun y => { y with
    adopting := true, adoptC := c, firstFromTrailer := !ready, duty := s.trailerDuty g, postedTo := none })) s
  let s := s.updSk k (fun y => { y with adoptWin := 0, forceAdopt := false })
  if s.skSt k = 4 then
    (s.updSk k (fun y => { y with
      relAt := none, mayReturn := false, job := { y.job with refQ16 := (y.target : Int) * 65536, ovRun := 0, uvRun := 0 }, noFb := 0 })).skSet k 2
  else s

/-- The law or the reload of a step (R249, R263, R264). -/
def State.lawPart (s : State) (k n c : Nat) (fb : Option Int) : State :=
  let x := s.sk k
  let e := fb.map x.err
  let ilim := decide (x.lim.ilimMa < x.isk)
  let ads := s.adoptees k
  let st := s.skSt k
  if st = 0 ∨ st = 5 then s
  else if st = 4 ∨ (!ads.isEmpty ∧ (s.commanded k).isEmpty) then
    (s.adoptLoad k ads true e c).adoptStep k n c ads
  else
    let s := s.updSk k (fun y => y.lawStep c e ilim)
    (s.adoptLoad k ads false e c).adoptStep k n c ads

/-! ### What a step publishes (R246, R318, R501) -/

/-- The job as a list of numbers, for the digest (log 12). -/
def jobFlat (j : Job) : List Int :=
  [j.u, j.e1, j.e2, j.region, j.refQ16, j.skeinState, j.count, j.ovRun, j.uvRun, j.ilimRun] ++
    j.shares.flatMap (fun x => [(x.1 : Int), x.2]) ++ j.kicks.flatMap (fun x => [x.value, (x.first : Int), (x.last : Int)]) ++
    j.intents.flatMap (fun x => [(x.cycle : Int), x.deltaMa])

/-- The checkpoint of a step (R278), the digest of R501 and the SKN registers. -/
def State.endStep (s : State) (k n c : Nat) (gs : List Nat) : State :=
  let s := s.updSk k (fun x => { x with job := { x.job with intents := x.job.intents.filter (fun i => !cycLe i.cycle c) } })
  let s := s.updSk k (fun x => { x with
    check := x.job, checkCycle := n, kept := gs.map (fun g => (g, (s.st g).last)),
    ownDigest := lastN 16 (x.ownDigest ++ [(n, Config.jobDigest (jobFlat x.job))]), stepsIn := x.stepsIn + 1, steps := x.steps + 1 })
  let s := match (s.sk k).waitDigest with
    | some (cy, _, crc) => if cy = n then s.compareDigest k (Config.jobDigest (jobFlat (s.sk k).job)) crc else s
    | none => s
  let s := (s.setF (SKN_STATE_region k) (s.sk k).job.region).setB (SKN_STATE_est_mode k) (decide (s.skSt k = 4))
  s.pubSkein k

/-- A saturation of the job's cycle, counted once (R246). -/
def State.satSeen (s : State) (k e : Nat) (was : Bool) : State :=
  if (s.sk k).sat && !was then (s.count (ENG_CNT_SAT_v e)).flag (ENG_STATUS_sat e) else s

/-! ### Traces (R265 to R267) -/

/-- A node's 16-bit value (*Trace nodes*). -/
def State.traceNode (s : State) (k t code : Nat) : Nat :=
  let x := s.sk k
  let y := s.st (128 * x.slot + t)
  let q := fun (acc : Int) => toField 16 (narrow15 acc).1
  match code with
  | 0 => toField 16 x.lastE
  | 1 => q x.lastDu
  | 2 => q x.job.u
  | 3 => x.job.region + 8 * x.lastIdx
  | 4 => q x.lastKick
  | 5 => x.lastFbCode
  | 6 => y.duty
  | 7 => q (shareOf x.job t)
  | 8 => toField 16 (x.q15 y.last.iphMean)
  | 9 => Nat.min 65535 (divRound y.last.vinMean 4).toNat
  | 10 => toField 16 x.lastDelta
  | _ => 0

def Trace.size (t : Trace) : Nat := 4 + 4 * ((2 * t.nodes.length + 3) / 4)
def Trace.room (t : Trace) : Nat := 16384 / t.size
def Trace.perStitch (t : Trace) : Bool := t.nodes.any (fun n => decide (6 ≤ n ∧ n ≤ 9))

/-- TRC_STATUS follows the buffer. -/
def State.pubTrace (s : State) (e : Nat) : State :=
  let t := (s.eng e).trace
  let s := (s.setF (TRC_STATUS_state e) t.state).setB (TRC_STATUS_wrapped e) t.wrapped
  (s.setF (TRC_STATUS_records e) t.records.length).setF (TRC_STATUS_skein e) t.skein

/-- A record joins the trace of an engine (R265, R266), after decimation. In ring mode the record of the trigger's own step
is not one of the `post` further ones. In one-shot mode the trace records from the arm, and a trigger only marks it triggered
(DESIGN CHOICE, log 165). -/
def State.traceRec (s : State) (k e c : Nat) : State :=
  let t := (s.eng e).trace
  if !(t.skein = k ∧ (t.state = 1 ∨ t.state = 2)) then s else
  let x := s.sk k
  let hit := decide (t.state = 1) && (match t.trigger with
    | 0 => true
    | 1 => decide (t.level ≤ x.lastE.natAbs)
    | 2 => s.faults.insts.any (fun i => !i.held && decide (i.kind.obj i.inst = .skein k))
    | 3 => x.gotIntent
    | _ => decide (t.at_ ≤ s.ct))
  let t := if hit then { t with state := 2, postLeft := t.post } else t
  let write := decide (t.decimLeft = 0)
  let hdr := c % 65536 + x.job.region * 65536 + x.sat.toNat * 2 ^ 19 + (decide (0 < x.overruns)).toNat * 2 ^ 20
  let r := leBytes 4 hdr ++ t.nodes.flatMap (fun n => leBytes 2 (s.traceNode k t.stitch n))
  let l := if write then t.records ++ [r ++ List.replicate (t.size - r.length) 0] else t.records
  let t := { t with decimLeft := if write then t.decim - 1 else t.decimLeft - 1 }
  let t :=
    if t.ringMode then
      let left := if write && decide (t.state = 2) && !hit then t.postLeft - 1 else t.postLeft
      { t with
        records := lastN t.room l, wrapped := t.wrapped || decide (t.room < l.length), postLeft := left,
        state := if t.state = 2 ∧ left = 0 then 3 else t.state }
    else { t with records := l, state := if t.room ≤ l.length then 3 else t.state }
  (s.updEng e (fun y => { y with trace := t })).pubTrace e

/-! ### The skein step (R248, R249, R313) -/

/-- The step of window n with the lead batch `gs`, for cycle n + D. -/
def State.skeinStep (s : State) (k e n : Nat) (gs : List Nat) : State :=
  let s := s.judgeOverrun k e
  let d := s.delayAt k n
  let c := (n + d) % 65536
  -- the windows before a move are past (R98)
  let past := (s.sk k).moved.any (fun o => cycLe ((o.1 + 8) % 65536) n)
  let s := s.updSk k (fun x => { x with
    moved := if past then none else x.moved, leads := x.leads.filter (fun l => !cycLe l.1 n), delay := d, stepped := n,
    sat := false, lastDelta := 0, gotIntent := false })
  let old := (s.sk k).job.count
  let (s, off) := s.takeAll k c
  let s := s.takeRestore k c
  let s := s.setRunning k c
  let s := s.measure k e gs
  let s := s.updSk k (fun x => { x with job := { x.job with region := x.regionAfter (decide (x.job.count ≠ old)) } })
  let s := s.moveRef k
  let fb := ((s.sk k).fbHist.getLast?).getD none
  let s := (s.judgeRestore k c).judgeDegraded k
  let s := s.countRuns k n fb
  let s := s.takeUv k
  let x := s.sk k
  let open_ := !x.running.isEmpty && x.running.all (fun g => (s.st g).senseOpen)
  let s :=
    if s.ovDue k then s.latchSkein k true
    else if s.ilimDue k then s.latchSkein k false
    else if off && decide (s.skSt k ≠ 5) then
      let s := if s.skSt k = 0 then s else s.railLost k
      s.skeinOff k c
    else if s.skSt k = 3 ∧ x.job.refQ16 = 0 then s.skeinOff k c
    else if x.wantStart ∧ s.skSt k = 0 then s.startSkein k c
    else
      let s := if open_ then s.releaseSkein k c else s
      (s.powerGood k fb).lawPart k n c fb
  -- the first OFF cycle has begun (R296)
  let s := match (s.sk k).offAt with
    | some oc => if cycLe oc n then (s.updSk k (fun x => { x with offAt := none })).powerDone k 0 0 else s
    | none => s
  let s := s.seqCond k 3 (decide (s.skSt k = 4))
  let s := if s.raised .skeinShare k then
      s.eval .skeinShare k ((s.sk k).running.any (fun g => decide (4096 ≤ (s.st g).shareRun))) else s
  let s := s.endStep k n c gs
  let e' := (s.sk k).engine.getD e
  let s := s.satSeen k e' false
  let s := if (s.eng e').trace.perStitch then s else s.traceRec k e' c
  (s.seqPoke (s.sk k).slot).bindOffCheck (s.sk k).slot

/-! ### Stitch steps and posts (R196, R199, R205, R248, R261, R262, R328) -/

/-- The mode of a stitch's command for cycle c; none sends no command (*Skein states*, R208, R216, R218). -/
def State.cmdMode (s : State) (k g c : Nat) : Option Nat :=
  let x := s.sk k
  let y := s.st g
  match x.job.skeinState with
  | 0 | 5 => some 0
  | 4 => if y.latched then some 0 else if x.relAt = some c ∧ x.running.contains g ∧ y.state ≠ 1 then some 2 else none
  | _ =>
    if y.latched then some 0
    else if y.state = 1 ∧ !y.adopting then none
    -- the first command of an adopted stitch carries RUN (R209)
    else if y.state = 1 ∧ y.adoptC = c then some 1
    else if x.running.contains g ∨ (y.state = 5 ∧ y.hiccup) then some 1
    else some 0

/-- The hold window h (R200). A partner counts as fitted while its heartbeats have come and no loss of it has been declared
since (DESIGN CHOICE, log 167). -/
def State.holdFor (s : State) (k : Nat) : Nat :=
  let t := s.period12 k
  let cyc := fun (usec : Nat) => ceilDiv (us usec * 4096) t
  let h := ((s.sk k).holdCfg).getD (Nat.max 2 (Nat.min 64 (cyc 16)))
  let h := if s.pair.partner then Nat.max h (Nat.min 64 (cyc 10)) else h
  Nat.max h (us 1 * 4096 / t + 1)

/-- A duty moves toward `to` by at most 256 counts (R210). -/
def slewDuty (cur dst : Int) : Int := cur + clampI (-256) 256 (dst - cur)

/-- The stitch step of a delivered result: duty, mode and offsets of the command, and the background share. -/
def State.stitchStep (s : State) (k e g c : Nat) : State × List CmdCell :=
  let x := s.sk k
  let y := s.st g
  let was := x.sat
  let traced := fun (s : State) =>
    let t := (s.eng e).trace
    if t.skein = k ∧ t.perStitch ∧ t.stitch = g % 128 then s.traceRec k e c else s
  match s.cmdMode k g c with
  | none => (traced s, [])
  | some mode =>
    let (r, b1) := x.recipOf y.last.vinMean
    let (full, b2) := x.dutyOf r (shareOf x.job (g % 128))
    let slew := mode = 1 && y.firstFromTrailer
    let duty : Int := if mode = 0 then 0 else if mode = 2 then y.duty
      else if slew then (if y.adoptC = c then y.duty else slewDuty y.duty full) else full
    let s := s.updSk k (fun z => { z with sat := z.sat || (decide (mode = 1) && (b1 || b2)) })
    let cur := s.offsetOf g c
    let next := if x.running.contains g then slewOffset cur y.toOffset else cur
    let first := decide (y.state = 1) && !y.adopting
    let posted : Bool := match y.postedTo with
      | some p => cycLe c p
      | none => false
    -- a cycle already commanded gets no second command (R32)
    let s := if posted then s else s.updSt g (fun z => { z with
      duty := duty.toNat, mode := mode, rj := r, offset := next, offs := lastN 8 (z.offs ++ [((c + 1) % 65536, next)]),
      firstFromTrailer := slew && decide (duty ≠ full), adopting := z.adopting || first,
      adoptC := if first then c else z.adoptC, postedTo := some c })
    let s := s.satSeen k e was
    let cell := fun (cy : Nat) (off nx : Nat) => (
      {
        stitch := g % 128, engine := e, cycle := cy, duty := duty.toNat, mode := mode, res := samplesRes x.sampleCount,
        hold := s.holdFor k - 1, period := s.periodFor k cy off nx, nextOffset := nx, off := off, target := x.target,
        deadline := (s.deadline k cy off).toNat, reload := (s.reloadAt k cy off).toNat, postAt := s.ct } : CmdCell)
    -- cycles that a rise of D skipped repeat the command before (R32)
    let gap := match y.postedTo with
      | some p => (c + 65535 - p) % 65536
      | none => 0
    let skipped := if gap ≤ 8 then (List.range gap).map (fun i => (c + 65536 - gap + i) % 65536) else []
    let cells := if posted then [] else
      skipped.map (fun cy => { cell cy cur cur with duty := y.duty, mode := y.mode }) ++ [cell c cur next]
    -- background, after posting
    let on := decide (mode = 1 ∧ x.running.contains g ∧ y.state ≠ 5) && y.last.iphOk && !y.senseOpen
    let v := x.shareNext (g % 128) y.last.iphMean
    let lim := x.law.shareLim * 32768
    let s := if !on then s else s.updSk k (fun z => { z with job := { z.job with shares := Tbl.put z.job.shares (g % 128) v } })
    -- a share_lim of 0 is never counted as reached (R299; DEDUCED, log 176)
    let now := shareOf (s.sk k).job (g % 128)
    let s := s.updSt g (fun z => { z with
      shareRun := if mode = 1 ∧ x.running.contains g ∧ 0 < lim ∧ (now = lim ∨ now = -lim) then z.shareRun + 1 else 0 })
    (traced s, cells)

/-- The cells of a skein without interleave are locked in runs of 8 by ascending stitch (R328). -/
def lockRuns (k c : Nat) (l : List CmdCell) : List CmdCell :=
  let n := l.length
  (l.zip (List.range n)).map (fun x =>
    if x.2 / 8 * 8 + 1 = n then x.1 else { x.1 with lock := some (k, 65536 * (x.2 / 8) + c) })

/-- The stitch steps and posts of a batch; in a replay a cycle already granted, or whose deadline has passed, posts
nothing (R278). -/
def State.postBatch (s : State) (k : Nat) (gs : List Nat) (replay : Bool) : State :=
  match (s.sk k).engine with
  | none => s
  | some e =>
    let p := (s.sk k).slot
    let d := (s.sk k).delay
    let (s, cells) := gs.foldl (fun (a : State × List CmdCell) g =>
      let (s, l) := a.1.stitchStep k e g (((s.st g).last.cycle + d) % 65536)
      (s, a.2 ++ l)) (s, [])
    let cells := if replay then cells.filter (fun c =>
      decide (s.ct ≤ c.deadline) && decide (Tbl.find? (s.port p).lastGrant c.stitch ≠ some c.cycle)) else cells
    let cs := cells.map (·.cycle)
    let cells := if (s.sk k).interleave then cells
      else cs.eraseDups.flatMap (fun c => lockRuns k c (cells.filter (fun x => decide (x.cycle = c))))
    let fits := s.fitJobs (s.jobs e) && !s.is (ENG_STATUS_slow e)
    let late := !fits && Config.latePost s.fresh
    let s := if fits then s else { s with fresh := s.fresh + 1 }
    let s := if late then (s.count (ENG_CNT_LATE_POST_v e)).updSk k (fun x => { x with batchLate := true }) else s
    cells.foldl (fun s c => s.postCell p c) s

/-- A batch of a skein's results: the skein step when it holds the lead's, once per cycle, then the stitch steps (R248). -/
def State.runBatch (s : State) (k e : Nat) (gs : List Nat) (replay : Bool) : State :=
  let s := gs.foldl (fun s g => s.judgeSense k g) s
  let s := match s.leadIn k gs with
    | some l =>
      let n := (s.st l).last.cycle
      if cycLe n (s.sk k).stepped then s else s.skeinStep k e n gs
    | none => s
  (s.postBatch k gs replay).pubArb (s.sk k).slot

/-- SKEIN_STEP (R248): the results of the batch that are delivered and not yet taken. -/
def execSkeinStep (k : Fin 2048) (batch : List (Fin 128)) (s : State) : Out3 :=
  match (s.sk k).engine with
  | none => .next s
  | some e =>
    let gs := (s.bound k).filter (fun g => (s.st g).due && batch.any (fun j => decide (128 * (s.sk k).slot + j.val = g)))
    if gs.isEmpty then .next s else
    let s := gs.foldl (fun s g => s.updSt g (fun y => { y with due := false })) s
    .next (s.runBatch k e gs false).settle

end Sys2Proof.Machine
end

