-- ==== Sys2Proof/Machine/Skeins.lean ====
section
/-! DEFINITION. Skein protection and adoption events, engine faults and restarts, and the engine, skein and stitch
commands (R207 to R223, R274 to R319). -/
namespace Sys2Proof.Machine

/-! ### Adoption and sense (R209 to R214, R252, R253) -/

/-- ADOPT_TIMEOUT (R210): 64 windows without R209. -/
def execAdoptTimeout (k : Fin 2048) (s : State) : Out3 :=
  if 64 ≤ (s.sk k).adoptWin then .next (s.updSk k (fun x => { x with forceAdopt := true })) else .next s

/-- TRAILER_LOSS (R211). -/
def execTrailerLoss (g : Fin 8192) (s : State) : Out3 :=
  match (s.st g).skein with
  | some k =>
    if (s.st g).state = 1 ∧ 8 * (s.sk k).trailerM ≤ (s.st g).trailerGap then .next (s.raise .stitchAuto g).settle else .next s
  | none => .next s

/-- SENSE_OPEN_CLEAR (R214): the class ends; a released skein may return (R287). -/
def execSenseOpenClear (g : Fin 8192) (s : State) : Out3 :=
  if (s.st g).senseOpen ∧ 64 ≤ (s.st g).senseClear then
    let s := s.senseSet g false
    match (s.st g).skein with
    | some k => .next (if s.skSt k = 4 then s.updSk k (fun x => { x with mayReturn := true }) else s).settle
    | none => .next s.settle
  else .next s

/-- NO_FEEDBACK_RELEASE (R252): 64 consecutive cycles. -/
def execNoFeedbackRelease (k : Fin 2048) (s : State) : Out3 :=
  let st := s.skSt k
  if 64 ≤ (s.sk k).noFb ∧ (st = 1 ∨ st = 2 ∨ st = 3) ∧ !(s.sk k).acts.any (fun a => decide (a.2 = .releaseAll)) then
    .next ((s.skAct k (s.nextCycle k) .releaseAll).raise .skeinNoFb k).settle
  else .next s

/-- FEEDBACK_RETURN (R253): 16 consecutive cycles. -/
def execFeedbackReturn (k : Fin 2048) (s : State) : Out3 :=
  if 16 ≤ (s.sk k).fbBack then
    let s := s.gone .skeinNoFb k
    .next (if s.skSt k = 4 then s.updSk k (fun x => { x with mayReturn := true }) else s).settle
  else .next s

/-! ### Engines: copies, faults and restarts (R274, R278, R285, R337) -/

/-- JOB_COPY_DONE (R274). -/
def execJobCopyDone (k : Fin 2048) (s : State) : Out3 :=
  .next (s.updSk k (fun x => { x with shadow := x.shadow.map (fun t => (t.1, true, t.2.2)) }))

/-- Kept results in the batches they were delivered in: one window of a skein without interleave, else one result. -/
def groupKept (interleave : Bool) : List (Nat × Rec) → List (List (Nat × Rec))
  | [] => []
  | x :: t =>
    match groupKept interleave t with
    | (y :: ys) :: rest => if !interleave && decide (y.2.cycle = x.2.cycle) then (x :: y :: ys) :: rest else [x] :: (y :: ys) :: rest
    | l => [x] :: l

/-- A job restarts from its checkpoint on engine `e` (R278): it runs the results kept since, when all are kept; else
its stitches come back by adoption. -/
def State.restartJob (s : State) (k e : Nat) : State :=
  let x := s.sk k
  let last := (x.kept.getLast?.map (fun y => y.2.cycle)).getD x.checkCycle
  let all := decide ((last + 65536 - x.checkCycle % 65536) % 65536 ≤ 64)
  -- of the job, only the shares have changed since the checkpoint by what runs again; intents that came since stand
  let s := s.updSk k (fun y => { y with
    job := { y.job with shares := y.check.shares, intents := if all then y.job.intents else [] },
    stepped := if all then y.stepped else last, kept := [], unplaced := false })
  let s := (s.bound k).foldl (fun s g => s.updSt g (fun y => { y with postedTo := none })) s
  if !all then s else
  let s := (groupKept x.interleave x.kept).foldl (fun s grp =>
    let s := grp.foldl (fun s y => s.updSt y.1 (fun z => { z with last := y.2 })) s
    let s := s.updSk k (fun z => { z with kept := z.kept ++ grp })
    s.runBatch k e (grp.map (·.1)) true) s
  (s.bound k).foldl (fun s g => s.updSt g (fun y => { y with due := false })) s

/-- A job without an engine finds one, or stays unplaced. -/
def State.rehome (s : State) (k : Nat) : State :=
  match s.restartEngine k with
  | some t => (s.moveJob k (some t) false).restartJob k t
  | none =>
    let was := (s.sk k).unplaced
    let old := (s.sk k).engine
    let s := (s.moveJob k none false).updSk k (fun x => { x with unplaced := true })
    if was then s else s.raise .engNoSpare (old.getD ((s.sk k).slot / 16 * 32))

/-- Shadows on an engine that stops, and planned moves to it, end (R274, R284). -/
def State.dropShadows (s : State) (e : Nat) : State :=
  let l := (s.skeins.filter (fun (x : Nat × Skein) => decide (x.2.shadow.map (·.1) = some e) || decide (x.2.moveTo = some e))).map (·.1)
  (l.foldl (fun (s : State) (k : Nat) => s.dropMove k 2 2) s).pubEng e

/-- An engine is masked and its jobs restart elsewhere (R278, R337). -/
def State.evictEngine (s : State) (e : Nat) : State :=
  let s := s.dropShadows e
  let l := s.jobs e
  l.foldl (fun s k => s.rehome k) (s.maskEngine e)

/-- ENGINE_FAULT (R278). -/
def execEngineFault (e : Fin 128) (s : State) : Out3 :=
  if !s.awake then .next s else
  if s.get (ENG_STATUS_state e) = 3 then .next s
  else .next (((s.setF (ENG_STATUS_state e) 3).evictEngine e).raise .engFault e).settle

/-- JOB_PLACE_RETRY (R278). -/
def execJobPlaceRetry (k : Fin 2048) (s : State) : Out3 :=
  if (s.sk k).unplaced then .next (s.rehome k).settle else .next s

/-- ENG_SELF_TEST_DONE (R285). -/
def execEngSelfTestDone (e : Fin 128) (pass : Bool) (s : State) : Out3 :=
  match (s.eng e).testFor with
  | none => .next s
  | some (mb, k) =>
    let s := s.updEng e (fun x => { x with testFor := none })
    if pass then
      let s := ((s.setF (ENG_STATUS_state e) 0).setB (ENG_STATUS_slow e) false).gone .engFault e
      let s := if s.is (ENG_CTRL_en e) then s.unmaskEngine e else s
      .next ((s.pubEng e).finish mb k 0 0 0).settle
    else .next (s.finish mb k 9 0 0).settle

/-! ### Protection (R295, R299, R306, R309 to R311) -/

/-- SKEIN_PG_TIMEOUT (R295). -/
def execSkeinPgTimeout (k : Fin 2048) (s : State) : Out3 :=
  match (s.sk k).pgAt with
  | some t =>
    if s.skSt k = 1 ∧ t ≤ s.ct then
      let s := (s.powerDone k 9 2).skeinOff k (s.nextCycle k)
      .next ((s.updSk k (fun x => { x with offAt := none })).raise .skeinStartFail k).settle
    else .next s
  | none => .next s

/-- SKEIN_OV_TRIP (R309, R312): the skein step that completes the run takes the trip itself; a run it has not taken
is taken here. -/
def execSkeinOvTrip (k : Fin 2048) (s : State) : Out3 :=
  if s.ovDue k then .next (s.latchSkein k true).settle else .next s

/-- SKEIN_UV (R310, R312). -/
def execSkeinUv (k : Fin 2048) (s : State) : Out3 :=
  if (s.sk k).lim.uvWin ≤ (s.sk k).job.uvRun then .next (s.takeUv k).settle else .next s

/-- ILIM_TIMEOUT (R311). -/
def execIlimTimeout (k : Fin 2048) (s : State) : Out3 :=
  if s.ilimDue k then .next (s.latchSkein k false).settle else .next s

/-- SHARE_LIMIT_COUNT (R299). -/
def execShareLimitCount (g : Fin 8192) (s : State) : Out3 :=
  match (s.st g).skein with
  | some k =>
    if 4096 ≤ (s.st g).shareRun then .next ((s.flag (SKN_STATE_share_seen k)).level .skeinShare k true).settle else .next s
  | none => .next s

/-- RESTORE_HOLD_END (R306). -/
def execRestoreHoldEnd (k : Fin 2048) (s : State) : Out3 :=
  match (s.sk k).restoreUntil with
  | some t =>
    if t ≤ s.ct then .next ((s.updSk k (fun x => { x with restoreUntil := none })).setB (SKN_STATE_restore_hold k) false)
    else .next s
  | none => .next s

/-! ### Loads of a payload (R280, R314) -/

def gaintabOf (p : List Byte) : Load := .gaintab (u8 p 2) ((List.range 64).map (fun i => u16 p (8 + 2 * i)))
def schedOf (p : List Byte) : Load :=
  .schedule {
    selector := u8 p 2, fixed := u8 p 3, hys := i32 p 4, th := (List.range 7).map (fun i => i32 p (8 + 4 * i)),
    gains := (List.range 8).map (fun r => (i16 p (40 + 8 * r), i16 p (42 + 8 * r), i16 p (44 + 8 * r), u8 p (46 + 8 * r))) }
def lawOf (p : List Byte) : Load :=
  .law {
    ffEn := (u8 p 2).testBit 0, nKick := u8 p 3, vFf := u32 p 4, errFs := u32 p 8, iFs := u32 p 12, uMin := u16 p 16,
    uMax := u16 p 18, ks := u16 p 20, shareLim := u16 p 22, kstep := i16 p 24, kstepExp := u8 p 26, kkickExp := u8 p 27,
    kkick := i16 p 28 }
def limitsOf (p : List Byte) : Load :=
  .limits {
    tgtMin := u32 p 4, tgtMax := u32 p 8, ovAbs := u32 p 12, ovMargin := u16 p 16, uvMargin := u16 p 18, ovWin := u8 p 20,
    uvWin := u8 p 21, nMin := u8 p 22, nMax := u8 p 23, ilimMa := u32 p 24, ilimUs := u32 p 28, restoreMa := i32 p 32,
    dmin := u16 p 36, dmax := u16 p 38, ramp := u32 p 40, slew := u32 p 44, pgTimeout := u32 p 48, estMargin := u16 p 52 }
def shedOf (p : List Byte) : Load := .shed ((List.range (u8 p 2)).map (fun i => u8 p (4 + i)))

/-- The action a timed skein command becomes (R655). -/
def timedAct (op : Nat) (p : List Byte) : Option SkAct :=
  match op with
  | 0x410 => some (.load (.power (u8 p 2)))
  | 0x411 => some (.load (limitsOf p))
  | 0x412 => some (.target (u32 p 4) (u32 p 8))
  | 0x413 => some (.load (shedOf p))
  | 0x421 => some (.load (gaintabOf p))
  | 0x422 => some (.load (schedOf p))
  | 0x423 => some (.load (lawOf p))
  | _ => none

/-- The kind a skein command's setting is kept under. -/
def settingKind (op : Nat) : Option Nat :=
  match op with
  | 0x411 => some 2
  | 0x412 => some 0
  | 0x413 => some 3
  | 0x421 => some 5
  | 0x422 => some 4
  | 0x423 => some 1
  | _ => none

/-- A load waits for the next skein step, or takes effect at once on a skein whose job runs on no engine (log 22). -/
def State.loadCmd (s : State) (op : Nat) (p : List Byte) (l : Load) (by_ : Option (Nat × Nat)) : State :=
  let k := u16 p 0
  let s := match settingKind op with
    | some kind => s.keep kind k p
    | none => s
  if (s.sk k).engine.isNone then (s.applyLoad k l).finishOpt by_ 0 0 0
  else s.updSk k (fun x => { x with loads := x.loads ++ [(l, by_)] })

/-- A new target and its rate (R289, R290). -/
def State.applyTarget (s : State) (p : List Byte) : State :=
  let k := u16 p 0
  let s := s.updSk k (fun x => { x with target := u32 p 4, slew := if u32 p 8 = 0 then x.lim.slew else u32 p 8 })
  (s.pubSkein k).keep 0 k p

/-! ### Commands of R279 -/

def gaintabChecks (s : State) (mb : Nat) (p : List Byte) : Checks :=
  {
      bad := [(0, s.skeinBad mb (u16 p 0)), outside 2 (u8 p 2) 0 9, resv p 3 8] ++
        (List.range 64).map (fun i => outside (8 + 2 * i) (u16 p (8 + 2 * i)) 0 32767),
      ports := [(s.sk (u16 p 0)).slot] }

/-- SKEIN_LOAD_GAINTAB. -/
def execSkeinLoadGaintab (mb : Mb) (k : Fin 64) (s : State) : Out3 :=
  .next (s.command mb k 0x421 (fun s p => gaintabChecks s mb p) (fun s p => s.loadCmd 0x421 p (gaintabOf p) (some (mb.val, k.val)))).settle

def schedChecks (s : State) (mb : Nat) (p : List Byte) : Checks :=
  {
      bad := [(0, s.skeinBad mb (u16 p 0)), outside 2 (u8 p 2) 0 2, outside 3 (u8 p 3) 0 7, (4, decide (i32 p 4 < 0)), resv p 36 40] ++
        (List.range 6).map (fun i => (12 + 4 * i, decide (i32 p (12 + 4 * i) ≤ i32 p (8 + 4 * i)))) ++
        (List.range 8).flatMap (fun r => [outside (46 + 8 * r) (u8 p (46 + 8 * r)) 0 7, resv p (47 + 8 * r) (48 + 8 * r)]),
      ports := [(s.sk (u16 p 0)).slot] }

/-- SKEIN_LOAD_SCHEDULE. -/
def execSkeinLoadSchedule (mb : Mb) (k : Fin 64) (s : State) : Out3 :=
  .next (s.command mb k 0x422 (fun s p => schedChecks s mb p) (fun s p => s.loadCmd 0x422 p (schedOf p) (some (mb.val, k.val)))).settle

def lawChecks (s : State) (mb : Nat) (p : List Byte) : Checks :=
  {
      bad := [(0, s.skeinBad mb (u16 p 0)), outside 2 (u8 p 2) 0 1, outside 3 (u8 p 3) 0 8, outside 4 (u32 p 4) 1 100000,
        outside 8 (u32 p 8) 1 65535, (12, decide (i32 p 12 ≤ 0)), outside 16 (u16 p 16) 0 (u16 p 18),
        outside 18 (u16 p 18) (u16 p 16) 32767, outside 20 (u16 p 20) 0 32767, outside 22 (u16 p 22) 0 32767,
        outside 26 (u8 p 26) 0 7, outside 27 (u8 p 27) 0 7, resv p 30 32,
        s.fromLevel 2 p 3 1, s.fromLevel 2 p 24 2, s.fromLevel 2 p 26 1, s.fromLevel 2 p 27 1, s.fromLevel 2 p 28 2],
      ports := [(s.sk (u16 p 0)).slot] }

/-- SKEIN_LOAD_LAW. -/
def execSkeinLoadLaw (mb : Mb) (k : Fin 64) (s : State) : Out3 :=
  .next (s.command mb k 0x423 (fun s p => lawChecks s mb p) (fun s p => s.loadCmd 0x423 p (lawOf p) (some (mb.val, k.val)))).settle

/-- The trace that a payload of *ENG_TRACE_ARM* arms. -/
def traceOf (p : List Byte) (owner : Nat) : Trace :=
  {
      state := if u8 p 16 = 0 then (if u8 p 3 = 1 ∧ u16 p 18 = 0 then 3 else 2) else 1, skein := u16 p 0, ringMode := decide (u8 p 3 = 1),
      nodes := (List.range (u8 p 2)).map (fun i => u8 p (4 + i)), stitch := u8 p 12, decim := u16 p 14, trigger := u8 p 16,
      post := u16 p 18, level := i16 p 20, at_ := u64 p 24, postLeft := u16 p 18, owner := owner }

/-- ENG_TRACE_ARM (R281, R484). -/
def execEngTraceArm (mb : Mb) (k : Fin 64) (s : State) : Out3 :=
  .next (s.command mb k 0x601
    (fun s p =>
      let q := u16 p 0
      let t := traceOf p 0
      {
          bad := [(0, s.skeinBad mb q), outside 2 (u8 p 2) 1 8, outside 3 (u8 p 3) 0 1] ++
            (List.range 8).map (fun i => (4 + i, if i < u8 p 2 then decide (10 < u8 p (4 + i)) else decide (u8 p (4 + i) ≠ 0))) ++
            [(12, decide (127 < u8 p 12) || (t.perStitch && !(s.sk q).stitches.contains (u8 p 12))), resv p 13 14,
             outside 14 (u16 p 14) 1 256, outside 16 (u8 p 16) 0 4, (16, decide (s.level_ < 2 ∧ u8 p 16 = 3)), resv p 17 18,
             (18, t.ringMode && decide (t.room < u16 p 18)), resv p 22 24],
          ports := [(s.sk q).slot],
          busy :=
            if 1 ≤ s.get THM_STATUS_stage then some 6
            else match (s.sk q).engine with
              | none => some 2
              | some e =>
                let o := (s.eng e).trace
                if o.skein ≠ q ∧ (o.state = 1 ∨ o.state = 2) then some 2 else none })
    (fun s p =>
      match (s.sk (u16 p 0)).engine with
      | none => s.okay mb k
      | some e => ((s.updEng e (fun x => { x with trace := traceOf p (s.skOwner (u16 p 0)) })).pubTrace e).okay mb k)).settle

/-- The engine whose buffer holds a skein's trace: its job's engine first (R267). -/
def State.traceEngine (s : State) (q : Nat) : Option Nat :=
  let has := fun (e : Nat) => decide ((s.eng e).trace.state ≠ 0 ∧ (s.eng e).trace.skein = q)
  match (s.sk q).engine with
  | some e => if has e then some e else (s.engines.map (·.1)).find? has
  | none => (s.engines.map (·.1)).find? has

/-- ENG_TRACE_READ (R282). -/
def execEngTraceRead (mb : Mb) (k : Fin 64) (s : State) : Out3 :=
  .next (s.command mb k 0x602 (fun s p => { bad := [(0, s.skeinBad mb (u16 p 0))] })
    (fun s p =>
      match s.traceEngine (u16 p 0) with
      | none => s.okay mb k
      | some e =>
        let t := (s.eng e).trace
        -- the records stay their owner's and the AF's (R661)
        let mine := decide (mb.val = afMb ∨ t.owner = s.skOwner (u16 p 0))
        let l := if mine then (t.records.drop (u16 p 2)).take (240 / t.size) else []
        (s.slotWrite mb k l.flatten).finish mb k 0 t.size (l.length + t.records.length * 2 ^ 16 + t.state * 2 ^ 32)))

/-- ENG_JOB_QUERY (R283). -/
def execEngJobQuery (mb : Mb) (k : Fin 64) (s : State) : Out3 :=
  .next (s.command mb k 0x604 (fun s p => { bad := [(0, s.skeinBad mb (u16 p 0))] })
    (fun s p =>
      let q := u16 p 0
      let x := s.sk q
      match x.engine with
      | none => s.finish mb k 9 1 0
      | some e => s.finish mb k 0 0 (e + x.shadow.isSome.toNat * 2 ^ 7 + Nat.min x.overruns 255 * 2 ^ 8 +
          (8 + 12 * (s.bound q).length) * 2 ^ 16 + Nat.min x.spent 65535 * 2 ^ 32 + x.job.region * 2 ^ 48 + x.lastIdx * 2 ^ 51)))

/-- ENG_JOB_MOVE (R284). -/
def execEngJobMove (mb : Mb) (k : Fin 64) (s : State) : Out3 :=
  .next (s.command mb k 0x605
    (fun s p =>
      let q := u16 p 0
      let t := u8 p 2
      {
          bad := [(0, s.skeinBad mb q), (2, decide (t / 32 ≠ (s.sk q).slot / 16) || !s.fitJobs (q :: (s.jobs t).filter (· ≠ q)))],
          ports := [(s.sk q).slot],
          busy := if !s.engOk t || (s.sk q).engine.isNone || (s.sk q).moveTo.isSome then some 2 else none })
    (fun s p =>
      let q := u16 p 0
      if (s.sk q).engine = some (u8 p 2) then s.okay mb k
      else s.planMove q (u8 p 2) (some (mb.val, k.val))))

/-- ENG_RESET (R285, R337). -/
def execEngReset (mb : Mb) (k : Fin 64) (s : State) : Out3 :=
  .next (s.command mb k 0x606
    (fun s p => {
      bad := [outside 0 (u8 p 0) 0 127],
      busy := if !(s.jobs (u8 p 0)).isEmpty ∨ s.get (ENG_STATUS_state (u8 p 0)) = 2 then some 2 else none })
    (fun s p =>
      let e := u8 p 0
      (((s.dropShadows e).setF (ENG_STATUS_state e) 2).maskEngine e).updEng e (fun x => { x with testFor := some (mb.val, k.val) })))

/-! ### Commands of R314 -/

/-- SKEIN_POWER (R287, R314, R315, R444, R448). -/
def execSkeinPower (mb : Mb) (k : Fin 64) (s : State) : Out3 :=
  .next (s.command mb k 0x410
    (fun s p =>
      let q := u16 p 0
      let n := (s.sk q).slot
      let seq := (s.railOf q).isSome && decide (s.seqSt n = 1 ∨ s.seqSt n = 2 ∨ s.seqSt n = 3)
      {
          bad := [(0, s.skeinBad mb q), outside 2 (u8 p 2) 0 (if s.level_ < 3 then 1 else 2), resv p 3 8], ports := [n],
          busy := if u8 p 2 ≠ 0 && ((s.sk q).powerCmd.isSome || seq) then some 2 else none })
    (fun s p =>
      let q := u16 p 0
      let s := if u8 p 2 = 0 && (s.sk q).engine.isNone && !s.skOff q then s.railLost q else s
      (s.powerAs q (u8 p 2) mb k).seqPoke (s.sk q).slot)).settle

/-- The pattern's limits of a skein: the envelope for VIs (R316). -/
def State.envelope (s : State) (q : Nat) : Limits :=
  ((s.pattern.skeins.find? (fun (x : PatSkein) => decide (x.id = q))).map (·.lim)).getD {}

def limitsChecks (s : State) (mb : Nat) (p : List Byte) : Checks :=
  let q := u16 p 0
  let e := s.envelope q
  let vi := decide (mb ≠ afMb)
  {
      bad := [(0, s.skeinBad mb q), resv p 2 4,
        (4, decide (u32 p 4 < 1 ∨ u32 p 8 < u32 p 4) || (vi && decide (u32 p 4 < e.tgtMin))),
        (8, decide (60000 < u32 p 8) || (vi && decide (e.tgtMax < u32 p 8))),
        (12, decide (i32 p 12 ≤ (u32 p 8 : Int)) || (vi && decide (e.ovAbs < u32 p 12))),
        (16, decide (u16 p 16 = 0)), (18, decide (u16 p 18 = 0)), outside 20 (u8 p 20) 1 16, outside 21 (u8 p 21) 1 255,
        outside 22 (u8 p 22) 1 (u8 p 23), outside 23 (u8 p 23) (u8 p 22) (s.bound q).length,
        (24, decide (i32 p 24 ≤ 0) || (vi && decide (e.ilimMa < u32 p 24))), outside 28 (u32 p 28) 1 100000,
        outside 36 (u16 p 36) 0 (u16 p 38), (38, vi && decide (e.dmax < u16 p 38)), outside 40 (u32 p 40) 1 1000000,
        outside 44 (u32 p 44) 1 1000000, (48, decide (u32 p 48 * u32 p 40 < u32 p 8 * 1000 + 1000 * u32 p 40)), resv p 54 64,
        s.fromLevel 3 p 32 4, s.fromLevel 3 p 52 2],
      ports := [(s.sk q).slot] }

/-- SKEIN_SET_LIMITS (R314, R316). -/
def execSkeinSetLimits (mb : Mb) (k : Fin 64) (s : State) : Out3 :=
  .next (s.command mb k 0x411 (fun s p => limitsChecks s mb p) (fun s p => s.loadCmd 0x411 p (limitsOf p) (some (mb.val, k.val)))).settle

/-- SKEIN_SET_TARGET (R289, R290). -/
def execSkeinSetTarget (mb : Mb) (k : Fin 64) (s : State) : Out3 :=
  .next (s.command mb k 0x412
    (fun s p =>
      let q := u16 p 0
      {
          bad := [(0, s.skeinBad mb q), resv p 2 4, outside 4 (u32 p 4) (s.sk q).lim.tgtMin (s.sk q).lim.tgtMax,
            outside 8 (u32 p 8) 0 1000000, s.fromLevel 3 p 8 4],
          ports := [(s.sk q).slot] })
    (fun s p => (s.applyTarget p).okay mb k))

/-- SKEIN_SET_SHED (R317): every bound stitch exactly once. -/
def execSkeinSetShed (mb : Mb) (k : Fin 64) (s : State) : Out3 :=
  .next (s.command mb k 0x413
    (fun s p =>
      let q := u16 p 0
      let b := (s.bound q).map (· % 128)
      let l := (List.range (u8 p 2)).map (fun i => u8 p (4 + i))
      {
          bad := [(0, s.skeinBad mb q), (2, decide (u8 p 2 ≠ b.length)),
            (4, !(l.all b.contains && b.all l.contains && decide (l.eraseDups.length = l.length)))],
          ports := [(s.sk q).slot] })
    (fun s p => s.loadCmd 0x413 p (shedOf p) (some (mb.val, k.val)))).settle

/-- SKEIN_QUERY (R318). -/
def execSkeinQuery (mb : Mb) (k : Fin 64) (s : State) : Out3 :=
  .next (s.command mb k 0x414 (fun s p => { bad := [(0, s.skeinBad mb (u16 p 0))] })
    (fun s p =>
      let q := u16 p 0
      let x := s.sk q
      s.finish mb k 0 (clampI 0 65535 (x.lastFb.getD 0)).toNat
        (s.skSt q + x.job.count * 2 ^ 3 + x.job.region * 2 ^ 11 + x.restoreUntil.isSome.toNat * 2 ^ 14 +
          (decide (s.skSt q = 4)).toNat * 2 ^ 15 + Nat.min (divRound x.job.refQ16 65536).toNat 65535 * 2 ^ 16 +
          Nat.min x.target 65535 * 2 ^ 32 + (s.healthy q).length * 2 ^ 48)))

/-- SKEIN_CLEAR (R319, R530). -/
def execSkeinClear (mb : Mb) (k : Fin 64) (s : State) : Out3 :=
  .next (s.command mb k 0x415
    (fun s p => { bad := [(0, s.skeinBad mb (u16 p 0))], ports := [(s.sk (u16 p 0)).slot] })
    (fun s p =>
      let q := u16 p 0
      let x := s.sk q
      if s.skSt q ≠ 5 then s.okay mb k
      else if (match x.lastFb with
        | some v => decide (x.ovThr ≤ v * 65536)
        | none => false) then s.finish mb k 9 0 0
      else (((s.skSet q 0).gone .skeinOv q).gone .skeinIlim q).okay mb k)).settle

/-! ### Commands of R222 and R223 -/

/-- The duty of a stitch: of its newest trailer while it is held or adopted, else the last one applied (R223). -/
def State.shownDuty (s : State) (g : Nat) : Nat :=
  let y := s.st g
  match y.trailers.getLast? with
  | some t => if y.state = 1 ∨ y.state = 3 then t.1 else lastApplied y.applied
  | none => lastApplied y.applied
where
  lastApplied (l : List (Nat × Nat)) : Nat := (((l.filter (fun a => decide (a.1 ≤ s.ct))).getLast?).map (·.2)).getD 0

/-- STITCH_QUERY (R223). -/
def execStitchQuery (mb : Mb) (k : Fin 64) (s : State) : Out3 :=
  .next (s.command mb k 0x501 (fun s p => { bad := [(0, s.stitchBad mb (u16 p 0))] })
    (fun s p =>
      let y := s.st (u16 p 0)
      s.finish mb k 0 0 (y.state + y.hub * 2 ^ 8 + s.shownDuty (u16 p 0) % 65536 * 2 ^ 16 + Nat.min y.late (2 ^ 32 - 1) * 2 ^ 32)))

/-- STITCH_CLEAR releases a latch (R216, R218, R530). -/
def State.clearStitch (s : State) (g : Nat) : State :=
  let was := (s.st g).state
  let s := s.updSt g (fun y => { y with latched := false, hiccups := [] })
  let s := s.gone .stitchFault g
  if was = 5 then s.stSet g 2 else s

/-- STITCH_CLEAR. -/
def execStitchClear (mb : Mb) (k : Fin 64) (s : State) : Out3 :=
  .next (s.command mb k 0x502
    (fun s p => { bad := [(0, s.stitchBad mb (u16 p 0))], ports := [u16 p 0 / 128] })
    (fun s p =>
      let g := u16 p 0
      if (s.st g).hiccup then s.finish mb k 9 0 0 else (s.clearStitch g).okay mb k)).settle

/-- An intent joins a skein (R220, R222). -/
def State.addIntent (s : State) (q c : Nat) (delta : Int) : State :=
  s.updSk q (fun x => { x with job := { x.job with intents := x.job.intents ++ [{ cycle := c, deltaMa := delta }] } })

/-- LOAD_INTENT_POST (R222). -/
def execLoadIntentPost (mb : Mb) (k : Fin 64) (s : State) : Out3 :=
  .next (s.command mb k 0x530
    (fun s p => {
      bad := [(0, s.skeinBad mb (u16 p 0)), resv p 2 4, outside 8 (u64 p 8) (s.ct + us 10) (s.ct + us 200)],
      ports := [(s.sk (u16 p 0)).slot],
      busy := if 4 ≤ (s.sk (u16 p 0)).job.intents.length then some 2 else none })
    (fun s p =>
      let q := u16 p 0
      let c := s.cycleFor q (u64 p 8) s.ct
      let s := (s.addIntent q c (i32 p 4)).mirror (.intent (Fin.ofNat 2048 q) c (i32 p 4))
      s.finish mb k 0 0 c))

end Sys2Proof.Machine
end

