-- ==== Sys2Proof/Machine/Hub.lean ====
section
/-! DEFINITION. Events and intents from card hubs (R203, R212, R215 to R221, R415, R611). -/
namespace Sys2Proof.Machine

/-- A hub event to the owning VI on vector 1 (R217): `detail` counts from cell bit 16, the ring entry keeps [191:64]. -/
def State.hubEvent (s : State) (h code detail : Nat) : State := s.event h code (leBytes 16 (detail / 2 ^ 48))

/-- The stitches a mask names. -/
def maskStitches (m : BitVec 128) : List Nat := (List.range 128).filter (fun j => m.getLsbD j)

/-- STITCH_LATE (R203, R217): per-stitch counts take the count when one stitch is named, else 1 each. -/
def State.stitchLate (s : State) (p : Fin 64) (mask : BitVec 128) (count : Word) : State :=
  let s := s.countN (PORT_CNT_LATE_v p) count.toNat
  let l := maskStitches mask
  let n := if l.length = 1 then count.toNat else 1
  let s := l.foldl (fun s j => s.updSt (128 * p.val + j) (fun y => { y with late := satCount 32 y.late n })) s
  s.hubEvent (s.slotOwner p) 0x0100 (evAt mask.toNat 64 + evAt count.toNat 32)

/-- CMD_REJECT (R203, R217). -/
def State.cmdReject (s : State) (p : Fin 64) (count : Word) : State :=
  let s := s.countN (PORT_CNT_CMD_REJECT_v p) count.toNat
  s.hubEvent (s.slotOwner p) 0x0101 (evAt count.toNat 32)

/-- SENSE_OPEN (R212, R213). -/
def State.senseOpen (s : State) (p : Fin 64) (j : Fin 128) : State :=
  let g := 128 * p.val + j.val
  let s := s.hubEvent (s.stOwner g) 0x0102 (evAt j 185)
  if (s.st g).skein.isSome then s.senseSet g true else s

/-- OC_HICCUP (R215, R216): faulted; the third within 1 s latches. -/
def State.ocHiccup (s : State) (p : Fin 64) (j : Fin 128) (cycles : BitVec 16) : State :=
  let g := 128 * p.val + j.val
  let s := ((s.count (PORT_CNT_HICCUP_v p))).hubEvent (s.stOwner g) 0x0103 (evAt j 185 + evAt cycles.toNat 169)
  if (s.st g).skein.isNone then s else
  let recent := s.ct :: (s.st g).hiccups.filter (fun t => decide (s.ct < t + sec 1))
  let s := (s.updSt g (fun y => { y with hiccup := true, hiccups := recent })).stSet g 5
  if 3 ≤ recent.length then s.latchStitch g else s

/-- OC_RESUME (R217): faulted to controlled unless latched. -/
def State.ocResume (s : State) (p : Fin 64) (j : Fin 128) : State :=
  let g := 128 * p.val + j.val
  let s := s.hubEvent (s.stOwner g) 0x0104 (evAt j 185)
  let s := s.updSt g (fun y => { y with hiccup := false })
  if (s.st g).state = 5 ∧ !(s.st g).latched then s.stSet g 2 else s

/-- A stitch fault of the hub (R217): faulted, latched, STITCH_FAULT. -/
def State.stitchFault (s : State) (g : Nat) : State :=
  if (s.st g).skein.isNone then s else (s.latchStitch g).level .stitchFault g true

/-- STAGE_OT. -/
def State.stageOt (s : State) (p : Fin 64) (j : Fin 128) (temp : BitVec 16) : State :=
  let g := 128 * p.val + j.val
  (s.hubEvent (s.stOwner g) 0x0105 (evAt j 185 + evAt temp.toNat 169)).stitchFault g

/-- DRIVER_FAULT. -/
def State.driverFault (s : State) (p : Fin 64) (j : Fin 128) : State :=
  let g := 128 * p.val + j.val
  (s.hubEvent (s.stOwner g) 0x0106 (evAt j 185)).stitchFault g

/-- BIND_REQ (R217, R415). -/
def State.bindReq (s : State) (p : Fin 64) : State :=
  let s := s.hubEvent (s.slotOwner p) 0x0210 0
  if s.slSt p = 3 ∧ s.ownsPort p then s.bindOff p false
    else if s.slSt p = 4 ∧ (s.slot p).toSleep ∧ (s.slot p).stepAt = s.ct then
      -- BIND_REQ meets op 2 (R424)
      (s.updSlot p (fun x => { x with toSleep := false })).slotDone p 9 0
    else s

/-- HUB_FW_VERSION (R217, R611). -/
def State.hubFwVersion (s : State) (p : Fin 64) (version : Word) : State :=
  let s := (s.updPort p (fun x => { x with hubVersion := version.toNat}))
  let s := s.updTrust (fun t => { t with hubMask := t.hubMask &&& ~~~(BitVec.ofNat 64 (2 ^ p.val)) })
  s.hubEvent (s.slotOwner p) 0x0601 (evAt version.toNat 160)

/-- UNKNOWN_EVENT_RX (R217): a slot port counts it; no counter of the other links is named. -/
def State.unknownEvent (s : State) (l : LinkId) (_code : BitVec 16) : State :=
  match l with
  | .port p => s.count (PORT_CNT_BAD_TYPE_v p)
  | .svc _ => s
  | .partner => s

/-! ### Intents (R219 to R221) -/

/-- The first cycle with a tag whose start lies after now (R220). -/
def State.tagCycle (s : State) (k tag : Nat) : Nat :=
  let c := s.cycleNow k
  let c := if s.ct < s.reloadAt k c (s.sk k).offset then c else (c + 1) % 65536
  (c + (tag + 4096 - c % 4096) % 4096) % 65536

/-- The condition of R220 an intent fails, 1 to 4; 0 when it holds all. -/
def State.intentFails (s : State) (p fn k c : Nat) : Nat :=
  if s.skOwner k ≠ s.holderOf p fn then 1
  else if s.ct + us 200 < s.reloadAt k c (s.sk k).offset then 2
  else if s.closeAt k ((c + 65536 - (s.sk k).delay) % 65536) (s.sk k).offset < s.ct + us 1 then 3
  else if 4 ≤ (s.sk k).job.intents.length then 4
  else 0

/-- INTENT_CELL_RX (R219 to R221, R260). -/
def State.intentCell (s : State) (p : Fin 64) (j : Fin 128) (tag : BitVec 12) (fn : Fin 4) (delta : BitVec 32) (id : BitVec 8) : State :=
  let g := 128 * p.val + j.val
  let drop := fun (why : Nat) =>
    (s.count (PORT_CNT_INTENT_DROP_v p)).hubEvent (s.stOwner g) 0x0110 (evAt id.toNat 184 + evAt why 176)
  match (s.st g).skein with
  | none => drop 1
  | some k =>
    let c := s.tagCycle k tag.toNat
    match s.intentFails p fn k c with
    | 0 => s.addIntent k c delta.toInt
    | why => drop why

end Sys2Proof.Machine
end

