-- ==== Sys2Proof/Machine/Link.lean ====
section
/-! DEFINITION. The Fliral slot link: training, width and reduced-width plans, delivery, time and flight, epochs,
service lanes, beacon rendezvous (R134 to R184), and the SerDes references (R703). -/
namespace Sys2Proof.Machine

/-! ### Lane sets and flights (R142, R31, R167) -/

/-- The valid lane sets, widest first and lowest lane first (R142). -/
def laneSets : List (Nat × BitVec 8) :=
  [(8, 0xFF), (4, 0x0F), (4, 0xF0), (2, 0x03), (2, 0x0C), (2, 0x30), (2, 0xC0), (1, 0x01), (1, 0x02), (1, 0x04),
   (1, 0x08), (1, 0x10), (1, 0x20), (1, 0x40), (1, 0x80)]
/-- The widest valid set within healthy lanes and a width cap. -/
def pickLanes (ok : BitVec 8) (cap : Nat) : Option (Nat × BitVec 8) :=
  laneSets.find? (fun x => decide (x.1 ≤ cap) && x.2 &&& ok == x.2)
def laneWidth (l : BitVec 8) : Nat := ((List.range 8).filter (fun i => l.getLsbD i)).length

/-- Flights and width go to the partner (R31), and the pair's flights follow (PORT_FLIGHT). -/
def State.pairFlight (s : State) (p : Nat) : State :=
  let up := s.get (PORT_FLIGHT_up_ns p)
  let down := s.get (PORT_FLIGHT_down_ns p)
  match s.pair.partner, (s.port p).pairFlights with
  | true, some (u, d) => (s.setF (PORT_FLIGHT_pair_up_ns p) (Nat.max up u)).setF (PORT_FLIGHT_pair_down_ns p) (Nat.max down d)
  | _, _ => (s.setF (PORT_FLIGHT_pair_up_ns p) up).setF (PORT_FLIGHT_pair_down_ns p) down
def State.pubFlight (s : State) (p up down : Nat) : State :=
  let s := (s.setF (PORT_FLIGHT_up_ns p) (Nat.min up 255)).setF (PORT_FLIGHT_down_ns p) (Nat.min down 255)
  (s.setB (PORT_STATUS_long_flight p) (decide (25 < up ∨ 25 < down))).pairFlight p
def State.tellFlights (s : State) (p : Nat) : State :=
  s.emit (.flights p (s.get (PORT_FLIGHT_up_ns p)) (s.get (PORT_FLIGHT_down_ns p)) (s.get (PORT_STATUS_width p)))

/-! ### Reduced-width plans in force (R153, R155) -/

/-- The cycle c of a row at which a plan applies: its window c - D, D being the delay at the new width and rate, is the
first to close 2 µs or more after now (R153). -/
def State.planCycle (s : State) (r : PlanRow) : Nat :=
  let t := s.updSk r.1 (fun x => { x with hz := r.2.2.1, carrier := r.2.2.2 })
  let d := t.delayFor r.1
  (s.updSk r.1 (fun x => { x with delay := d })).cycleGo r.1 (-(2 ^ 63)) (s.ct + us 1) 64 ((s.cycleNow r.1 + 65535) % 65536)

/-- The stored plan for the new width is triggered in hardware; at full width nothing is in force. A plan lowers rates; one
that follows another sets its own. -/
def State.triggerPlan (s : State) (p w : Nat) : State :=
  if s.portCap p ≤ w then s else
  let again := s.is (PORT_STATUS_plan_active p)
  let s := (s.planFor p w).foldl (fun s r =>
    let c := s.planCycle r
    let s := s.skAct r.1 c (.samples true (some r.2.1))
    if r.2.2.1 < (s.sk r.1).hz ∨ (again ∧ r.2.2.1 ≠ (s.sk r.1).hz) then s.skAct r.1 c (.rate r.2.2.1 r.2.2.2) else s) s
  (s.updPort p (fun x => { x with planWidth := w, widerSince := none })).setB (PORT_STATUS_plan_active p) true

/-! ### Training (R140, R141, R167) -/

/-- One more attempt of a training that failed; after three the port waits 100 ms. A port whose rendezvous schedule is lost
tries again without wait or source (R183). -/
def State.trainFail (s : State) (p : Nat) (flight : Bool) : State :=
  let s := s.updPort p (fun x => { x with attempts := x.attempts + 1, flightOnly := x.flightOnly && flight, echoes := [] })
  let s := (if flight then s.level .portFlight p true else s).setF (PORT_STATUS_link_state p) 1
  if 3 ≤ (s.port p).attempts ∧ !(s.port p).sleepTrain then
    let s := if (s.port p).flightOnly then s else s.level .portTrain p true
    s.updPort p (fun x => { x with retryAt := some (s.ct + ms 100) })
  else s.count (PORT_CNT_RETRAIN_v p)

/-- Whether a port may train now: enabled, not Up, and in Beacon only while its slot wakes. -/
def State.mayTrain (s : State) (p : Nat) : Bool :=
  let l := s.get (PORT_STATUS_link_state p)
  s.is (PORT_CTRL_en p) && decide (2 ≤ s.unit) && !s.rst.held && !(s.port p).retryAt.isSome &&
    (decide (l < 3) || (decide (l = 4) && decide (s.slSt p = 2)))

/-- A reported flight: the mean of the measured ones in 1/16 ns, rounded to 1 ns and not negative (R166). -/
def flightNs (l : List (Int × Int)) (f : Int × Int → Int) : Nat := (divRound (sumInt (l.map f)) (16 * l.length)).toNat

/-- PORT_TRAIN_COMPLETE (R140, R142, R158, R167, R183): the lanes that locked; the flights are those of step 5's 16
exchanges. A plan for the width, or the pattern values, waits 1 s where a lower one is in force (R155). -/
def execPortTrainComplete (p : Fin 64) (lanes : BitVec 8) (s : State) : Out3 :=
  let x := s.port p
  if !s.mayTrain p ∨ x.echoes.length < 16 then .next s else
  match pickLanes (if x.sleepTrain then lanes &&& 1 else lanes) (s.portCap p) with
  | none => .next (s.trainFail p false).settle
  | some (w, set) =>
    let up := flightNs x.echoes (·.1)
    let down := flightNs x.echoes (·.2)
    if 100 < up ∨ 100 < down then .next ((s.pubFlight p up down).trainFail p true).settle else
    let sleeps := (s.slot p).adopted && decide (s.slSt p = 0 ∨ s.slSt p = 6) && s.is (PORT_CTRL_sleep_en p)
    let s := ((s.gone .portTrain p).gone .portFlight p).gone .portRetry p
    let s := s.updPort p (fun x => { x with
      attempts := 0, flightOnly := true, retryAt := none, laneSet := set, wchg := none, widerSince := none, rel := {},
      cells := 0, sleepTrain := false, uncorr := [], echoReqAt := s.ct, downSince := none })
    if sleeps then .next (s.enterBeacon p) else
    let s := ((s.setF (PORT_STATUS_link_state p) 3).setF (PORT_STATUS_width p) w).setF (PORT_STATUS_lanes_ok p) lanes.toNat
    let s := (s.pubFlight p up down).tellFlights p
    let s := if w < (s.port p).planWidth then s.triggerPlan p w
      else s.updPort p (fun x => { x with widerSince := if x.planWidth < w then some s.ct else none })
    .next s.cover

/-- PORT_TRAIN_FAIL (R141). -/
def execPortTrainFail (p : Fin 64) (_step : Fin 7) (s : State) : Out3 :=
  if s.mayTrain p then .next (s.trainFail p false).settle else .next s

/-- PORT_TRAIN_RETRY (R141, R167): 100 ms after the third failure. -/
def execPortTrainRetry (p : Fin 64) (s : State) : Out3 :=
  match (s.port p).retryAt with
  | some t =>
    if t ≤ s.ct ∧ s.is (PORT_CTRL_en p) then
      let s := s.updPort p (fun x => { x with retryAt := none, attempts := 0, flightOnly := true })
      .next ((s.count (PORT_CNT_RETRAIN_v p)).setF (PORT_STATUS_link_state p) 1)
    else .next s
  | none => .next s

/-! ### Lanes and width (R138, R144, R145, R147, R153, R155) -/

/-- The FEC frame number of a chassis time: a frame lasts 40.96 ns, 65.536 ticks (R135). -/
def frameAt (ct : Nat) : Nat := ct * 1000 / 65536

/-- A width change is proposed for a frame 16 ahead (R145). -/
def State.proposeWidth (s : State) (p : Nat) (set : BitVec 8) : State :=
  let f := frameAt s.ct + 16
  (s.updPort p (fun x => { x with wchg := some (set, f, s.ct, false) })).emit (.widthSet p set f)

/-- A lane is declared failed (R144, R146): the port leaves a set that holds it, be it in use or agreed on. -/
def State.laneFail (s : State) (p l : Nat) : State :=
  let ok : BitVec 8 := BitVec.ofNat 8 (s.get (PORT_STATUS_lanes_ok p)) &&& ~~~(BitVec.ofNat 8 (2 ^ l))
  let s := s.setF (PORT_STATUS_lanes_ok p) ok.toNat
  if !(s.port p).laneSet.getLsbD l && !(s.port p).wchg.any (fun x => x.1.getLsbD l) then s else
  match pickLanes ok (s.portCap p) with
  | some (_, set) => s.proposeWidth p set
  | none => (s.retrainPort p).cover

/-- LANE_FAIL (R144). -/
def execLaneFail (p : Fin 64) (l : Fin 8) (s : State) : Out3 :=
  if s.get (PORT_STATUS_link_state p) = 3 ∧ (s.get (PORT_STATUS_lanes_ok p)).testBit l then .next (s.laneFail p l).settle else .next s

/-- WIDTH_CHANGE_RX (R145): the answer to our set, or the other end's decision, answered in kind. A set that differs from
an own one not yet answered is no answer (DESIGN CHOICE, log 169). -/
def execWidthChangeRx (p : Fin 64) (set : BitVec 8) (frame : Nat) (s : State) : Out3 := s.onCell p.val fun (s : State) =>
  if s.get (PORT_STATUS_link_state p) ≠ 3 then .next s else
  match (s.port p).wchg with
  | some (own, f, t, false) =>
    if own = set ∧ f = frame then .next (s.updPort p (fun x => { x with wchg := some (own, f, t, true) })) else .next s
  | _ =>
    if laneSets.any (fun x => x.2 == set) then
      .next ((s.updPort p (fun x => { x with wchg := some (set, frame, s.ct, true) })).emit (.widthSet p set frame))
    else .next s

/-- WIDTH_CHANGE_TIMEOUT (R145): 8 frames without an answer. -/
def execWidthChangeTimeout (p : Fin 64) (s : State) : Out3 :=
  match (s.port p).wchg with
  | some (_, _, t, false) =>
    if t * 1000 + 8 * 65536 ≤ s.ct * 1000 then .next ((s.retrainPort p).cover).settle else .next s
  | _ => .next s

/-- WIDTH_CHANGE_APPLY (R144, R147, R153): the agreed frame has come. -/
def execWidthChangeApply (p : Fin 64) (s : State) : Out3 :=
  match (s.port p).wchg with
  | some (set, f, _, true) =>
    if f ≤ frameAt s.ct then
      let old := s.get (PORT_STATUS_width p)
      let w := laneWidth set
      -- a change to lanes that were not in use at the same width replaces a failed lane: also a drop (R144)
      let drop := decide (w < old ∨ (w = old ∧ set ≠ (s.port p).laneSet))
      let s := (s.updPort p (fun x => { x with laneSet := set, wchg := none })).setF (PORT_STATUS_width p) w
      let s := s.tellFlights p
      let s := if drop then (s.count (PORT_CNT_LANE_DROP_v p)).flag (PORT_STATUS_lane_dropped p) else s
      let s := if w < old then s.triggerPlan p w
        else if (s.port p).planWidth < w then s.updPort p (fun x => { x with widerSince := some s.ct })
        else s
      .next s.cover
    else .next s
  | _ => .next s

/-- LANE_REJOIN (R147): a retrained lane has been healthy for 1 ms. -/
def execLaneRejoin (p : Fin 64) (l : Fin 8) (s : State) : Out3 :=
  if s.get (PORT_STATUS_link_state p) ≠ 3 then .next s else
  let ok : BitVec 8 := BitVec.ofNat 8 (s.get (PORT_STATUS_lanes_ok p)) ||| BitVec.ofNat 8 (2 ^ l.val)
  let s := s.setF (PORT_STATUS_lanes_ok p) ok.toNat
  if !s.is (PORT_CTRL_rejoin_en p) ∨ (s.port p).laneSet.getLsbD l then .next s else
  match pickLanes ok (s.portCap p) with
  | some (w, set) => if s.get (PORT_STATUS_width p) < w then .next (s.proposeWidth p set) else .next s
  | none => .next s

/-- WIDER_WIDTH_TIMER (R155): after 1 s the firmware posts the plan of the width, or the pattern values, 1 ms ahead (R118). -/
def execWiderWidthTimer (p : Fin 64) (s : State) : Out3 :=
  match (s.port p).widerSince with
  | some t =>
    if t + sec 1 ≤ s.ct then
      let w := s.get (PORT_STATUS_width p)
      let full := decide (s.portCap p ≤ w)
      let rows := if full then s.planRows p else s.planFor p w
      let acts := rows.flatMap (fun r =>
        EphAct.samples true r.1 (if full then 0 else r.2.1) ::
          (if (s.sk r.1).hz = r.2.2.1 then [] else [EphAct.rate r.1 r.2.2.1 r.2.2.2])) ++ [EphAct.plan p w]
      .next ((s.updPort p (fun x => { x with widerSince := none })).fwPost (s.ct + ms 1) acts false none)
    else .next s
  | none => .next s

/-- FEC_UNCORRECTABLE (R135, R138, R144): a frame with symbol errors on a lane. Up to 4 are corrected and counted; a frame
with more is discarded and counted, and the fourth of a lane within 100 µs fails the lane. -/
def execFecUncorrectable (p : Fin 64) (l : Fin 8) (symbols : Nat) (s : State) : Out3 :=
  if !s.awake then .next s else
  if symbols ≤ 4 then .next (s.countN (PORT_CNT_FEC_CORR_v p) symbols) else
  let s := s.count (PORT_CNT_FEC_UNCORR_v p)
  let recent := (l.val, s.ct) :: (s.port p).uncorr.filter (fun x => decide (s.ct < x.2 + us 100))
  let s := s.updPort p (fun x => { x with uncorr := recent })
  if 4 ≤ (recent.filter (fun x => decide (x.1 = l.val))).length ∧ s.get (PORT_STATUS_link_state p) = 3 ∧
      (s.get (PORT_STATUS_lanes_ok p)).testBit l then .next (s.laneFail p l).settle
  else .next s

/-! ### Cells discarded (R137, R157, R172) -/

/-- The CRC-16 of R137 after one more bit: x^16 + x^12 + x^5 + 1. -/
def cellCrcBit (c : BitVec 16) (b : Bool) : BitVec 16 :=
  let t := c <<< 1
  if c.getMsbD 0 != b then t ^^^ 0x1021 else t
/-- The CRC-16 of a cell (R137): from 0xFFFF, over cell bits [255:16] in transmit order. -/
def cellCrc (cell : BitVec 256) : BitVec 16 :=
  (List.range 240).foldl (fun c i => cellCrcBit c (cell.getLsbD (255 - i))) 0xFFFF

/-- CELL_CRC_FAIL: a cell as received; it is discarded and counted where its CRC does not match. -/
def execCellCrcFail (l : LinkId) (cell : BitVec 256) (s : State) : Out3 :=
  if !s.awake ∨ cellCrc cell = cell.setWidth 16 then .next s else
  match l with
  | .port p => .next (s.count (PORT_CNT_CRC_v p))
  | .svc n => .next (s.count (SVC_CNT_CRC_v n))
  | .partner => .next s

/-- Whether a type is reserved, or a SYNC subtype (R157): subtypes 4 and 5 exist on the partner link alone (R499). -/
def reservedType (l : LinkId) (type sub : Nat) : Bool :=
  decide (type = 0) || decide (9 ≤ type) || (decide (type = 4) && decide ((if l = .partner then 6 else 4) ≤ sub))

/-- BAD_TYPE_CELL_RX: only slot ports have a counter for it. -/
def execBadTypeCellRx (l : LinkId) (type sub : BitVec 4) (s : State) : Out3 := s.onLink l fun (s : State) =>
  match l with
  | .port p => .next (if reservedType l type.toNat sub.toNat then s.count (PORT_CNT_BAD_TYPE_v p) else s)
  | .svc _ => .next s
  | .partner => .next s

/-- STALE_EPOCH_CELL_RX: the partner link's epoch is not checked (R499). -/
def execStaleEpochCellRx (l : LinkId) (e : BitVec 8) (s : State) : Out3 := s.onLink l fun (s : State) =>
  match l with
  | .port p => .next (if e.toNat = s.get (PORT_EPOCH_epoch p) then s else s.count (PORT_CNT_STALE_v p))
  | .svc n => .next (if e.toNat = s.get (SVC_EPOCH_epoch n) then s else s.count (SVC_CNT_STALE_v n))
  | .partner => .next s

/-! ### Reliable delivery (R158 to R161) -/

/-- Whether an ACK acknowledges a sequence number: before `next`, or in the selective bits. -/
def acked (next : Nat) (sack : BitVec 31) (q : Nat) : Bool :=
  decide ((next + 127 - q) % 128 < 64) ||
    (let i := (q + 127 - next) % 128; decide (i < 31) && sack.getLsbD (30 - i))

/-- ACK_RX. An acknowledged claim queues the claim buffer (R512). -/
def execAckRx (l : LinkId) (h : UpHdr) (next : BitVec 7) (sack : BitVec 31) (s : State) : Out3 := s.onLink l fun (s : State) =>
  let s := s.upHdr l h
  let done := fun (c : RelCell) => acked next.toNat sack c.seq
  let claim := (s.relOf l).unacked.any (fun c => done c && decide (c.what = 1))
  let s := s.updRel l (fun r => { r with unacked := r.unacked.filter (fun c => !done c) })
  let s := match l with
    | .port p => if claim then s.claimAcked p else s
    | .svc n => if claim then s.updSvc n (fun x => { x with claim := none }) else s
    | .partner => s
  .next (s.pump l).enterDone

/-- The partner link goes down: reliable delivery restarts and coverage lapses (R507). -/
def State.partnerDown (s : State) : State :=
  (((({ s with partnerRel := {} }).updTrust (fun t => { t with planGone := true })).setB PAIR_STATUS_link_up false).cover).enterDone

/-- A service lane goes down and retrains (R178, R423). -/
def State.svcDown (s : State) (n : Nat) : State :=
  let s := (s.setF (SVC_STATUS_link_state n) (if s.is (SVC_CTRL_en n) then 1 else 0)).updSvc n (fun x => { x with
    downSince := some (x.downSince.getD s.ct), retryAt := some (s.ct + ms 10), rel := {}, echoes := [] })
  let s := if s.slSt n = 2 ∧ 2 < (s.slot n).step then s.fence n 10 else s
  s.cover

/-- RELIABLE_RETX_TIMEOUT (R160, R176): sent again; the eighth raises PORT_RETRY and retrains the link. -/
def execReliableRetxTimeout (l : LinkId) (q : BitVec 7) (s : State) : Out3 :=
  match (s.relOf l).unacked.find? (fun c => decide (c.seq = q.toNat) && !(s.relOf l).again.contains c.seq) with
  | none => .next s
  | some c =>
    let limit := match l with
      | .svc _ => us 20
      | .port _ => us 2
      | .partner => us 2
    if s.ct < c.sentAt + limit then .next s else
    let s := (s.updRel l (fun r => { r with
      again := r.again ++ [c.seq],
      unacked := r.unacked.map (fun d => if d.seq = c.seq then { d with tries := d.tries + 1 } else d) })).pump l
    match l with
    | .port p =>
      let s := s.count (PORT_CNT_RETX_v p)
      if 7 ≤ c.tries then .next (((s.level .portRetry p true).retrainPort p).cover).settle else .next s
    | .svc n => if 7 ≤ c.tries then .next ((s.level .portRetry n true).svcDown n).settle else .next s
    | .partner => if 7 ≤ c.tries then .next s.partnerDown else .next s

/-! ### Time, flight and epochs (R163 to R173) -/

/-- The mean of the recorded flights, in 1/16 ns. -/
def meanUp (l : List (Int × Int)) : Int := divRound (sumInt (l.map (·.1))) l.length
def meanDown (l : List (Int × Int)) : Int := divRound (sumInt (l.map (·.2))) l.length

/-- What a TIME cell announces (R171): the epoch to come and its time; with none pending, the epoch in force and 0 (DESIGN
CHOICE, log 170). -/
def announced (pending : Option (Nat × Nat)) (epoch : Nat) : Nat × Nat := pending.getD (epoch, 0)

/-- SYNC_TIME_TX (R164, R171, R176, R177): a TIME cell every 1 µs on a port that trains or is Up, and on a service lane that
is up; echo_req every 64 µs, and in every one while the port trains. The active unit sends it on the partner link (R499). -/
def execSyncTimeTx (l : LinkId) (s : State) : Out3 :=
  if s.unit = 0 ∨ s.pair.outputsOff then .next s else
  let due := fun (last : Option Nat) => last.all (fun t => decide (t + us 1 ≤ s.ct))
  match l with
  | .port p =>
    let x := s.port p
    let up := decide (s.get (PORT_STATUS_link_state p) = 3)
    if !due x.timeAt ∨ !(up || (s.mayTrain p && decide (s.get (PORT_STATUS_link_state p) ≠ 4))) then .next s else
    let req := !up || decide (x.echoReqAt + us 64 ≤ s.ct)
    let (e, t) := announced x.epochNext (s.get (PORT_EPOCH_epoch p))
    let s := s.updPort p (fun x => { x with
      timeAt := some s.ct, echoReqAt := if req then s.ct else x.echoReqAt, firstTimeAt := some (x.firstTimeAt.getD s.ct) })
    .next (s.emit (.time l s.ct (toField 16 (meanDown x.echoes)) e t req))
  | .svc n =>
    let x := s.svc n
    if !due x.timeAt ∨ s.get (SVC_STATUS_link_state n) ≠ 2 then .next s else
    let req := decide (x.echoReqAt + us 64 ≤ s.ct)
    let (e, t) := announced x.epochNext (s.get (SVC_EPOCH_epoch n))
    let s := s.updSvc n (fun x => { x with timeAt := some s.ct, echoReqAt := if req then s.ct else x.echoReqAt })
    .next (s.emit (.time l s.ct (toField 16 (meanDown x.echoes)) e t req))
  | .partner => if s.active && s.is PAIR_STATUS_link_up then .next (s.emit (.time l s.ct 0 0 0 false)) else .next s

/-- The flights that an ECHO measures, up and down, in 1/16 ns (R166). -/
def echoFlights (t1 t2 t3 t4 : Nat) (asym : Int) : Int × Int :=
  let way : Int := 5 * (((t4 : Int) - t1) - ((t3 : Int) - t2))
  (way - 960 + 16 * asym, way - 960 - 16 * asym)

/-- ECHO_RX (R140, R166, R167, R173, R178). An ECHO on a port that trains is one of step 5's exchanges: the steps before it
have passed (log 173). -/
def execEchoRx (l : LinkId) (h : UpHdr) (t1 t2 t3 t4 : Nat) (epoch : BitVec 8) (s : State) : Out3 := s.onLink l fun (s : State) =>
  let s := s.upHdr l h
  match l with
  | .svc n =>
    let s := s.updSvc n (fun x => { x with echoes := lastN 16 (x.echoes ++ [echoFlights t1 t2 t3 t4 0]) })
    .next (s.updSvc n (fun x => { x with upNs := flightNs x.echoes (·.1), downNs := flightNs x.echoes (·.2) }))
  | .partner => .next s
  | .port p =>
    let s := (s.setF (PORT_EPOCH_hub_epoch p) epoch.toNat).upScheduled p
    let up := decide (s.get (PORT_STATUS_link_state p) = 3)
    if !(up || (s.mayTrain p && decide (s.get (PORT_STATUS_link_state p) ≠ 4))) then .next s else
    let f := echoFlights t1 t2 t3 t4 (fromField 8 (s.get (PORT_ASYM_asym_ns p)))
    let s := s.updPort p (fun x => { x with echoes := lastN 16 (x.echoes ++ [f]) })
    if !up then .next (s.setF (PORT_STATUS_link_state p) 2) else
    let e := (s.port p).echoes
    let keep := fun (old new : Nat) => if old + 2 ≤ new ∨ new + 2 ≤ old then new else old
    let up0 := s.get (PORT_FLIGHT_up_ns p)
    let dn0 := s.get (PORT_FLIGHT_down_ns p)
    let up := keep up0 (flightNs e (·.1))
    let dn := keep dn0 (flightNs e (·.2))
    let s := if up = up0 ∧ dn = dn0 then s else (s.pubFlight p up dn).tellFlights p
    if 100 < up ∨ 100 < dn then .next (((s.level .portFlight p true).retrainPort p).cover).settle else .next s

/-- EPOCH_CHANGE (R169 to R171, R177, R158): the announced epoch comes into force. -/
def execEpochChange (l : LinkId) (s : State) : Out3 :=
  match l with
  | .partner => .next s
  | .svc n =>
    match (s.svc n).epochNext with
    | some (e, t) =>
      if t ≤ s.ct then
        let old := s.get (SVC_EPOCH_epoch n)
        let s := if old = 0 then s else s.keep 22 (256 * n.val + old) (leBytes 8 s.ct)
        let s := s.updSvc n (fun x => { x with
          epochNext := none, rel := x.rel.restart, retired := if old = 0 then x.retired else Tbl.put x.retired old s.ct })
        .next (((s.setF (SVC_EPOCH_epoch n) e).keep 26 n.val (leBytes 1 e)).pump l)
      else .next s
    | none => .next s
  | .port p =>
    match (s.port p).epochNext with
    | some (e, t) =>
      if t ≤ s.ct then
        let x := s.port p
        let old := if s.get (PORT_EPOCH_epoch p) = 0 then x.lastEpoch else s.get (PORT_EPOCH_epoch p)
        let s := if old = 0 then s else s.keep 18 (256 * p.val + old) (leBytes 8 s.ct)
        let s := s.updPort p (fun x => { x with
          epochNext := none, rel := x.rel.restart, lastEpoch := e, retired := if old = 0 then x.retired else Tbl.put x.retired old s.ct })
        let s := ((s.setF (PORT_EPOCH_epoch p) e).keep 14 p.val (leBytes 1 e ++ leBytes 1 e)).pump l
        .next (if s.slSt p = 2 ∧ (s.slot p).step = 6 then s.updSlot p (fun x => { x with step := 7, stepAt := s.ct }) else s)
      else .next s
    | none => .next s

/-! ### Descriptors (R186, R406) -/

/-- A stitch descriptor of 16 bytes. -/
def State.takeDesc (s : State) (p : Nat) (d : List Byte) : State :=
  let j := u8 d 0 % 128
  let f := u8 d 1
  let s := s.updSt (128 * p + j) (fun x => { x with desc := {
      iinSensed := f.testBit 0, storedLoop := f.testBit 1, bias := f.testBit 2, vinLsb := u16 d 2, iphLsb := u16 d 4,
      voutLsb := u16 d 6, iinLsb := u16 d 8, iphZero := u16 d 10, iinZero := u16 d 12 } })
  s.updSlot p (fun x => { x with descs := x.descs.filter (· ≠ j) ++ [j] })
def State.takeDescs (s : State) (p : Nat) : Nat → List Byte → State × List Byte
  | 0, d => (s, d)
  | n + 1, d => if d.length < 16 then (s, d) else (s.takeDesc p (d.take 16)).takeDescs p n (d.drop 16)

/-- A BULK cell delivered: stitch descriptors on stream 1 of a port, the worker's on stream 3 of a service lane. Cells are
delivered in sequence (R159), so the segments of a stream come in order (R162). -/
def State.bulkCell (s : State) (l : LinkId) (last : Bool) (stream : BitVec 8) (_seg : BitVec 16) (data : List Byte) : State :=
  let s := s.updRel l (fun r => { r with rxData := r.rxData ++ data })
  let d := (s.relOf l).rxData
  let rest := fun (s : State) (d : List Byte) => s.updRel l (fun r => { r with rxData := if last then [] else d })
  match l with
  | .partner => rest s []
  | .port p =>
    if stream = 1 then let (s, d) := s.takeDescs p 64 d; rest s d else rest s []
  | .svc n =>
    if stream = 3 ∧ 8 ≤ d.length then
      rest (s.updSlot n (fun x => { x with
        iLsb := u16 d 0, vLsb := u16 d 2, iZero := u16 d 4, tripMaxA := u16 d 6, haveDesc := true })) []
    else rest s (if stream = 3 then d else [])

/-! ### Service lanes (R175 to R178) -/

/-- SVC_LANE_DOWN. -/
def execSvcLaneDown (n : Fin 64) (s : State) : Out3 :=
  if s.get (SVC_STATUS_link_state n) = 2 then .next ((s.flag (SVC_STATUS_down_seen n)).svcDown n).settle else .next s

/-- SVC_LANE_RETRY: every 10 ms while the lane stays down. -/
def execSvcLaneRetry (n : Fin 64) (s : State) : Out3 :=
  match (s.svc n).retryAt with
  | some t =>
    if t ≤ s.ct ∧ s.get (SVC_STATUS_link_state n) ≠ 2 ∧ s.is (SVC_CTRL_en n) then
      .next ((s.setF (SVC_STATUS_link_state n) 1).updSvc n (fun x => { x with retryAt := some (s.ct + ms 10) }))
    else .next s
  | none => .next s

/-- SVC_TRAIN_COMPLETE. -/
def execSvcTrainComplete (n : Fin 64) (s : State) : Out3 :=
  if s.is (SVC_CTRL_en n) ∧ s.get (SVC_STATUS_link_state n) ≠ 2 ∧ 2 ≤ s.unit ∧ s.rst.held = false then
    .next ((s.setF (SVC_STATUS_link_state n) 2).updSvc n (fun x => { x with rel := {}, echoes := [], downSince := none, retryAt := none })).cover
  else .next s

/-! ### Beacon rendezvous (R179 to R184) -/

/-- RENDEZVOUS (R180): one burst of preamble and 4 BEACON cells of the owner, every 10 µs from the guard before the
rendezvous time to the guard after it. -/
def execRendezvous (p : Fin 64) (s : State) : Out3 :=
  let x := s.port p
  let g := us (s.get (PORT_SLEEP_guard_us p))
  if s.get (PORT_STATUS_link_state p) = 4 ∧ s.ownsPort p ∧ x.rendezvousAt ≤ s.ct + g ∧ s.ct ≤ x.rendezvousAt + g ∧
      x.burstAt.all (fun t => decide (t + us 10 ≤ s.ct)) then
    let s := s.updPort p (fun y => { y with burstAt := some s.ct })
    .next ((List.range 4).foldl (fun (s : State) (_ : Nat) =>
      s.emit (.beacon p s.ct (x.rendezvousAt + sec 1) (decide (s.slSt p = 2)))) s)
  else .next s

/-- BEACON_RX (R180, R182): an answer with the slot's epoch within the window. -/
def execBeaconRx (p : Fin 64) (h : UpHdr) (epoch : BitVec 8) (wakeReq : Bool) (s : State) : Out3 := s.onCell p.val fun (s : State) =>
  let s := (s.upHdr (.port p) h).upScheduled p
  let g := us (s.get (PORT_SLEEP_guard_us p))
  let t := (s.port p).rendezvousAt
  if s.get (PORT_STATUS_link_state p) = 4 ∧ epoch.toNat = s.get (PORT_EPOCH_epoch p) ∧ t ≤ s.ct + g ∧ s.ct ≤ t + g then
    let s := (s.setF (PORT_SLEEP_guard_us p) 50).setF (PORT_SLEEP_widened p) 0
    let s := s.updPort p (fun x => { x with rendezvousAt := t + sec 1, burstAt := none })
    let s := if wakeReq ∧ s.slSt p = 6 ∧ s.ownsPort p then s.castFrom p 5 else s
    .next (if s.slSt p = 2 then s.setF (PORT_STATUS_link_state p) 1 else s)
  else .next s

/-- The guard of a widened rendezvous (R182). -/
def guardOf (n : Nat) : Nat := [50, 100, 200, 400, 800, 1000, 1000, 1000, 1000].getD n 1000

/-- RENDEZVOUS_MISS (R182 to R184): an empty slot is not counted as missing. -/
def execRendezvousMiss (p : Fin 64) (s : State) : Out3 :=
  let t := (s.port p).rendezvousAt
  if s.get (PORT_STATUS_link_state p) ≠ 4 ∨ s.ct ≤ t + us (s.get (PORT_SLEEP_guard_us p)) then .next s else
  let s := s.updPort p (fun x => { x with rendezvousAt := t + sec 1, burstAt := none })
  if s.slSt p = 0 then .next s else
  let s := s.count (PORT_CNT_SLEEP_MISS_v p)
  let w := s.get (PORT_SLEEP_widened p)
  if 8 ≤ w then
    let s := (s.flag (PORT_STATUS_sleep_lost p)).setF (PORT_STATUS_link_state p) 1
    let s := s.updPort p (fun x => { x with sleepTrain := true, attempts := 0, retryAt := none, echoes := [] })
    .next (s.event (s.slotOwner p) 0x0502 (leBytes 1 p))
  else .next ((s.setF (PORT_SLEEP_widened p) (w + 1)).setF (PORT_SLEEP_guard_us p) (guardOf (w + 1)))

/-! ### SerDes references (R703) -/

/-- SREF_LOSS: the unit runs from the other input; with both lost, instance 2 stops it (R532). -/
def execSrefLoss (b : Bool) (s : State) : Out3 :=
  let m : BitVec 2 := BitVec.ofNat 2 (2 ^ b.toNat)
  let s := s.updRst (fun r => { r with sref := r.sref &&& ~~~m })
  if !s.awake then .next s else
  let s := s.level .clockRef b.toNat true
  .next (if s.rst.sref = 0 then s.level .clockRef 2 true else s).settle

/-! ### Rate lists (R364) -/

/-- A rate list passes R42 and R333 at the pattern width: each rate with the other skeins of the port at their highest. -/
def State.ratesFit (s : State) (k : Nat) (rates : List (Nat × Nat)) : Bool :=
  let p := (s.sk k).slot
  rates.all (fun (r : Nat × Nat) =>
    (s.updSk k (fun x => { x with hz := r.1 })).planFits p (s.portCap p) ((s.slotSkeins p).map (fun (j : Nat) =>
      if j = k then (j, (s.sk j).samples, r.1, r.2) else (j, (s.sk j).samples, s.jobHz j, (s.sk j).carrier))))

/-- A list whose highest rate breaks R269 on the job's engine moves the job. -/
def State.policyStays (s : State) (q e : Nat) : Bool := s.fitJobs (q :: (s.jobs e).filter (· ≠ q))

/-- The checks of OPT_SKEIN_POLICY: rates ascending and in range, zeros last; the budgets; room on an engine (R364). -/
def policyChecks (s : State) (mb : Nat) (p : List Byte) : Checks :=
  let q := u16 p 0
  let rs := ([0, 1, 2, 3] : List Nat).map (fun i => u32 p (4 + 8 * i))
  let asc := fun (i : Nat) => decide (rs.getD i 0 ≠ 0 ∧ (rs.getD i 0 < 50000 ∨ 2000000 < rs.getD i 0 ∨
    (0 < i ∧ rs.getD i 0 ≤ rs.getD (i - 1) 0) ∨ (0 < i ∧ rs.getD (i - 1) 0 = 0)))
  let s' := s.applyPolicy p
  let fits := match (s.sk q).engine with
    | some e => s'.policyStays q e || (s'.restartEngine q).isSome
    | none => true
  {
      bad := [(0, s.skeinBad mb q), (2, decide (4 ≤ u8 p 2)), resv p 3 4] ++
      ([0, 1, 2, 3] : List Nat).flatMap (fun i => [(4 + 8 * i, asc i), (8 + 8 * i, decide (64 ≤ u8 p (8 + 8 * i))), resv p (9 + 8 * i) (12 + 8 * i)]) ++
      [(4, !fits || !s.ratesFit q (policyRates p))],
      ports := [(s.sk q).slot],
      busy := if (s.sk q).moveTo.isSome then some 2 else none }

/-- OPT_SKEIN_POLICY: a list that fails a budget, or that no engine of the quadrant can take, is refused; a job whose
engine cannot take it moves by the shadow and switch of ENG_JOB_MOVE before the command completes (R364). -/
def execOptSkeinPolicy (mb : Mb) (k : Fin 64) (s : State) : Out3 :=
  .next (s.command mb k 0x811
    (fun s p => policyChecks s mb p)
    (fun s p =>
      let q := u16 p 0
      let s := s.applyPolicy p
      match (s.sk q).engine with
      | none => s.okay mb k
      | some e =>
        if s.policyStays q e then (s.pubEng e).okay mb k
        else match s.restartEngine q with
          | some t => s.planMove q t (some (mb.val, k.val))
          | none => s.okay mb k))

end Sys2Proof.Machine
end

