-- ==== Sys2Proof/Machine/Pair.lean ====
section
/-! DEFINITION. The controller pair (R495 to R528): heartbeats and the alive line, digests and images, claims, moves,
failover, transits. -/
namespace Sys2Proof.Machine

/-! ### The partner link -/

/-- Whether this unit is the home unit (R495). -/
def State.isHome (s : State) : Bool := decide (s.get PAIR_CFG_home = s.pos)

/-- Whether the unit takes part in the pair: admitted, standby or active, and not failed (R499, R505). -/
def State.inPair (s : State) : Bool := decide (2 ≤ s.unit) && !s.pair.failed

/-- The ports a unit owns, as the heartbeat carries them. -/
def State.ownMask (s : State) : BitVec 64 :=
  BitVec.ofNat 64 (sumNat ((List.range 64).map (fun p => if s.ownsPort p then 2 ^ p else 0)))

/-- Chassis time is at a whole µs plus `off`, for the first time in that µs: a slew may skip one count (R92). -/
def State.atMicro (s : State) (off : Nat) (last : Option Nat) : Bool :=
  decide ((s.ct + off) % 1600 < 2) && decide (last ≠ some ((s.ct + off) / 1600))

/-- HEARTBEAT_TX (R499), at each whole µs. -/
def execHeartbeatTx (s : State) : Out3 :=
  if s.inPair && s.is PAIR_STATUS_link_up && s.atMicro 0 s.pair.hbTx then
    .next ((s.updPair (fun x => { x with hbTx := some (s.ct / 1600) })).emit (.heartbeat s.ct s.unit s.isHome s.ownMask))
  else .next s

/-- ALIVE_TOGGLE (R505), every 250 ns. -/
def execAliveToggle (s : State) : Out3 :=
  if s.inPair ∧ s.pair.alvAt + 400 ≤ s.ct then .next (s.updPair (fun x => { x with alvOut := !x.alvOut, alvAt := s.ct }))
  else .next s

/-- The partner's alive line, stopped or toggling. -/
def State.alive (s : State) (b : Bool) : State :=
  (s.updPair (fun x => { x with alvStopped := !b })).setB PAIR_STATUS_alive_in b

/-- The flights of every port that is Up go to the partner (R31). -/
def State.tellAllFlights (s : State) : State :=
  (List.range 64).foldl (fun s p => if s.get (PORT_STATUS_link_state p) = 3 then s.tellFlights p else s) s

/-- The flights that D takes follow the partner's presence. -/
def State.allFlights (s : State) : State := (List.range 64).foldl (fun s p => s.pairFlight p) s

/-- The settings that commands have changed (R629): those stored, and those whose write still waits. -/
def State.changed (s : State) : Tbl (List Int) :=
  (s.nv.queue.foldl (fun (t : Tbl (List Int)) (w : NvWrite) => match w.copy.data with
    | .setting key vals => Tbl.put t key vals
    | _ => t) s.nv.settings).filter (fun x => decide (x.1 < 40960))

/-- The pattern in force with the changed settings and the pinned level, then state images of every job on a port this unit owns, for a partner
that is admitted (R497, R503, R615). -/
def State.sendImages (s : State) : State :=
  let bank := match s.trust.patBank with
    | some (d, b) => s.flashRead d (bankBase b) bankBytes
    | none => []
  let s := if s.active then s.emit (.effect (.pattern bank (Fin.ofNat 4 s.trust.pinned) s.changed)) else s
  ((s.skeins.filter (fun x => x.2.known && s.ownsPort x.2.slot)).map (·.1)).foldl (fun s k => s.emit (.image k false)) s

/-- HEARTBEAT_RX (R498, R499). -/
def execHeartbeatRx (_tTx : Nat) (state : Fin 8) (_home : Bool) (_owned : BitVec 64) (pos : Bool) (s : State) : Out3 :=
  -- a loss declared in this cycle stands (R526)
  if !s.is PAIR_STATUS_link_up ∨ s.pair.lostAt = some s.ct then .next s else
  let was := s.get PAIR_STATUS_partner_state
  let new := !s.pair.partner
  let s := s.updPair (fun x => { x with
    partner := true, hbAt := some s.ct, misses := 0 })
  let s := s.setF PAIR_STATUS_partner_state state.val
  let s := if new then (s.alive true).allFlights else s
  let conflict := decide (pos.toNat = s.pos)
  let s := (s.setB PAIR_STATUS_pos_conflict conflict).level .pairConfig 0 (conflict || (decide (s.unit = 2) && !s.pinServed))
  let s := ((s.gone .pairLink 0).gone .pairLost 0).level .pairAlive 0 s.pair.alvStopped
  let s := if state.val = 2 ∧ was ≠ 2 then s.sendImages.tellShelf else s
  .next s.cover.settle

/-- The partner link comes Up at the width 2 to the `lanes` (R501, R504). -/
def execPartnerLinkUp (lanes : Fin 4) (s : State) : Out3 :=
  if !s.awake then .next s else
  let s := (({ s with partnerRel := {} }).updPair (fun x => { x with linkLanes := lanes.val })).setB PAIR_STATUS_link_up true
  .next (s.enterDone.alive true).tellAllFlights.cover

/-- PARTNER_LINK_DOWN (R507). -/
def execPartnerLinkDown (s : State) : Out3 :=
  if !s.awake then .next s else
  .next s.partnerDown

/-- PARTNER_TIME_RX (R91, R92, R130, R165): a booting unit steps its chassis time, forward only; an admitted or
standby unit notes how far it is from the active unit's. -/
def execPartnerTimeRx (tTx flight16 : Nat) (s : State) : Out3 :=
  if !s.awake then .next s else
  let t : Int := (tTx : Int) + 96 + divRound flight16 10
  match s.unit with
  | 1 => .next (if (s.ct : Int) < t then ({ s with ct := t.toNat }).setF CT_STATUS_ct_src 0 else s)
  | 2 | 3 =>
    let d := t - s.ct
    let s := s.updPair (fun x => { x with partnerDiff := d })
    .next ((s.setB CT_STATUS_slewing (decide (d ≠ 0))).setB CT_STATUS_aligned (decide (d.natAbs ≤ 2)))
  | _ => .next s

/-! ### Claims (R509 to R513, R518) -/

/-- At a claim, mirrored commands of the port: those executed complete under R55, with the ring entry and the cell, the
others start (R518). The slot of a closed mailbox takes none (R706). -/
def State.claimMgmt (s : State) (p : Nat) : State :=
  let l := s.pair.mirror.filter (fun m => decide (m.port = p))
  let s := s.updPair (fun x => { x with mirror := x.mirror.filter (fun m => decide (m.port ≠ p)) })
  l.foldl (fun s m =>
    if !s.mailboxOpen m.mb ∨ (s.slotC (slotKey m.mb m.slot)).phase ≠ .free then s else
    match m.status with
    | some (st, info, res) =>
      let s := s.updSlotC (slotKey m.mb m.slot) (fun x => { x with
        phase := .started, bytes := m.bytes, acceptedAt := s.ct, viaPort := some p })
      let s := ((s.numberSubs m.mb [m.slot]).updMbx m.mb (fun x => { x with order := x.order ++ [m.slot] })).setB
        (VI_SLOT_BUSY_bit m.mb m.slot) true
      s.post1 m.mb { slot := m.slot, status := st, info := info, result := res }
    | none => s.submit m.mb m.slot m.bytes (some p)) s

/-- A claim with what follows it on the mailbox. -/
def State.claim (s : State) (p effectAt : Nat) : State :=
  if s.is PAIR_STATUS_pos_conflict ∧ !s.ownsPort p then s
  else if effectAt = 0 then (s.claimPort p 0).claimMgmt p else s.claimPort p effectAt

/-- A term of the partner's is newer when it exceeds the one known by 1 to 32,767 (R510). -/
def termNewer (cur new : Nat) : Bool := decide (0 < (new + 65536 - cur) % 65536 ∧ (new + 65536 - cur) % 65536 < 32768)

/-- CLAIM_RECORD_RX (R509, R519). -/
def execClaimRecordRx (r : ClaimRec) (s : State) : Out3 :=
  if !s.awake then .next s else
  match r with
  | .claim p term effectAt =>
    if termNewer (s.get (PAIR_TERM_term p)) term.toNat then
      let s := (s.setF (PAIR_TERM_term p) term.toNat).lastClaim (if effectAt = 0 then s.ct else effectAt)
      if effectAt = 0 then .next ((s.setOwn p false).cover)
      else .next (s.updPort p (fun x => { x with yieldAt := some effectAt }))
    else .next s
  | .yield n => .next ((s.claim n 0).cover).settle

/-- PORT_MOVE_YIELD (R519): the port or service lane has been down for 2 µs and the partner covers it. -/
def execPortMoveYield (n : Fin 64) (s : State) : Out3 :=
  let long := fun (o : Option Nat) => match o with
    | some t => decide (t + us 2 ≤ s.ct)
    | none => false
  if (long (s.port n).downSince || long (s.svc n).downSince) && s.canYield n && s.is PAIR_STATUS_link_up then
    .next (s.yieldSlot n).cover
  else .next s

/-! ### Loss and failover (R506, R507, R514 to R517) -/

/-- What a unit does on entering active (R514, R517, R628): PFW_N from the hold-up state, the rectifiers read
afresh, and no planning until two clean intervals. -/
def State.enterActive (s : State) : State :=
  let s := (s.setUnit 4).pfw (s.is HU_STATUS_pfw)
  let s := (List.range 8).foldl (fun (s : State) (t : Nat) => s.updTw t (fun x => { x with jobs := [], tries := 0, losses := 0 })) s
  let s := (s.rects.map (·.1)).foldl (fun s r => s.twPush (s.rect r).tw [(r, 0x20, 2), (r, 0x01, 2), (r, 0x21, 2)]) s
  -- the first tick accounts the time since the last shelf digest too
  let since := if s.pair.shelfDigest.isSome then s.ct - s.pair.shelfDigestAt else 0
  let s := s.updShelf (fun h => { h with rectSettle := 2, busSettle := 2, tickAt := s.ct + ms 10, tickLen := since + ms 10 })
  (s.skeins.map (·.1)).foldl (fun s k => s.updSk k (fun x => { x with settle := 1 })) s

/-- The shelf state of a digest (R517): hold-up, PFW_N, charges and energy. -/
def State.loadShelf (s : State) (d : ShelfDigest) : State :=
  let s := ((s.setF HU_STATUS_state d.holdup).setF HU_STATUS_cause d.cause).setB HU_STATUS_pfw d.pfw
  let s := s.updShelf (fun h => { h with enteredAt := d.enteredAt, energy := d.energy })
  -- what the slots joined up to the digest is in its counters
  let s := (List.range 64).foldl (fun (s : State) (n : Nat) =>
    if (s.slot n).eTick = 0 then s else s.updSlot n (fun x => { x with eTick := x.eTick % 524288000 })) s
  d.charges.foldl (fun s x => s.updStr x.1 (fun y => { y with q := x.2 })) s

/-- The partner is declared lost (R506, R514, R526). -/
def State.partnerLost (s : State) : State :=
  if !s.pair.partner then s else
  let s := (s.flag PAIR_STATUS_lost_seen).level .pairLost 0 true
  -- a transit of a thermal shutdown ends with the partner: RELEASE as without one (R493)
  let s := if s.rst.shutdownAt.isSome ∧ s.pair.transitAt.isSome ∧ !s.pair.transitMid then s.releaseEvery else s
  let s := (s.updPair (fun x => { x with
    partner := false, lostAt := some s.ct, transitAt := none, transitIn := false, transitMid := false })).setB PAIR_STATUS_transit_pending false
  let s := (s.finishOpt s.pair.transitFor 9 0 0).updRst (fun r => { r with restartFor := none })
  let s := (s.updPair (fun x => { x with transitFor := none })).allFlights.cover.enterDone
  -- a loss ends a plan, but for the restart of the partner that the plan waits for (R606, log 41)
  let s := if s.planOn ∧ s.trust.planStep ≠ 1 ∧ s.trust.planStep ≠ 4 then
      (s.updTrust (fun t => { t with planAt := none, planStep := 0 })).setB FW_STATUS_plan false else s
  let st := s.unit
  if st = 3 ∨ st = 4 then
    let s := (List.range 64).foldl (fun s p => if s.ownsPort p then s else s.claim p 0) s
    let s := s.updPair (fun x => { x with lastSwap := s.ct, proving := none })
    if st = 3 then s.enterActive else s
  else s

/-- HEARTBEAT_CHECK (R506, R507), at each whole µs plus 500 ns. -/
def execHeartbeatCheck (s : State) : Out3 :=
  if !s.inPair ∨ !s.pair.partner ∨ !s.atMicro 800 s.pair.hbChk then .next s else
  let s := s.updPair (fun x => { x with hbChk := some ((s.ct + 800) / 1600) })
  let heard : Bool := match s.pair.hbAt with
    | some t => decide (s.ct < t + us 1)
    | none => false
  if heard then .next s else
  let s := (s.count PAIR_CNT_HB_MISS_v).updPair (fun x => { x with misses := x.misses + 1 })
  let s := s.gone .pairAlive 0
  if s.pair.misses < 3 then .next s
  else if s.pair.alvStopped then .next s.partnerLost.settle
  else .next (s.level .pairLink 0 true).settle

/-- ALIVE_STOP (R505 to R507). -/
def execAliveStop (s : State) : Out3 :=
  let s := s.alive false
  if !s.pair.partner ∨ !s.inPair then .next s
  else if 3 ≤ s.pair.misses then .next s.partnerLost.settle
  -- PAIR_ALIVE is raised while heartbeats still arrive (R507)
  else if s.pair.misses = 0 then .next (s.level .pairAlive 0 true).settle
  else .next s

/-- FAILURE_NOTICE_RX (R506). -/
def execFailureNoticeRx (_cause : Fin 5) (s : State) : Out3 := .next s.partnerLost.settle

/-- OWN_FAILURE (R508): 1 escalation, 2 lockstep, 3 supply, 4 thermal. -/
def execOwnFailure (cause : Fin 5) (s : State) : Out3 :=
  if !s.awake then .next s else
  if cause = 0 then .next s else .next (s.ownFail cause)

/-! ### The shadow (R501 to R503) -/

/-- DIGEST_ROUND (R501), 8 / w µs after the last: one entry for each skein of an owned port that stepped in the round. -/
def execDigestRound (s : State) : Out3 :=
  if !s.inPair ∨ !s.is PAIR_STATUS_link_up ∨ s.ct < s.pair.digestAt + us (8 / 2 ^ s.pair.linkLanes) then .next s else
  let s := s.updPair (fun x => { x with digestAt := s.ct })
  .next ((s.skeins.filter (fun x => decide (0 < x.2.stepsIn))).foldl (fun s x =>
    let s := s.updSk x.1 (fun y => { y with stepsIn := 0 })
    match x.2.ownDigest.getLast? with
    | some (c, d) => if s.ownsPort x.2.slot then s.emit (.digest x.1 c d) else s
    | none => s) s)

/-- DIGEST_RX (R502). -/
def execDigestRx (k : Fin 2048) (cycle : BitVec 16) (crc : Word) (s : State) : Out3 :=
  if !s.inPair ∨ s.ownsPort (s.sk k).slot then .next s else
  match (s.sk k).ownDigest.find? (fun x => decide (x.1 = cycle.toNat)) with
  | some (_, own) => .next (s.compareDigest k own crc)
  | none => .next (s.updSk k (fun x => { x with waitDigest := some (cycle.toNat, s.ct, crc) }))

/-- DIGEST_STEP_TIMEOUT (R502). -/
def execDigestStepTimeout (k : Fin 2048) (s : State) : Out3 :=
  match (s.sk k).waitDigest with
  | some (_, t, _) => if t + us 4 ≤ s.ct then .next (s.outOfStep k) else .next s
  | none => .next s

/-- The records of a skein's stitches after cycle `c`, cycle by cycle, from the rings (R239). -/
def State.ringAfter (s : State) (k c : Nat) : List (Nat × Rec) :=
  (List.range 16).flatMap (fun i =>
    let n := (c + 1 + i) % 65536
    (s.bound k).filterMap (fun g => ((s.st g).ring.find? (fun r => decide (r.2.cycle = n))).map (fun r => (g, r.2))))

/-- A batch of a replay: its steps, posting nothing (R503). -/
def State.replayBatch (s : State) (k e : Nat) (gs : List Nat) : State :=
  let s := match s.leadIn k gs with
    | some l => s.skeinStep k e (s.st l).last.cycle gs
    | none => s
  gs.foldl (fun s g => (s.stitchStep k e g (((s.st g).last.cycle + (s.sk k).delay) % 65536)).1) s

/-- STATE_IMAGE_RX (R503): the job after step c replaces the unit's own, and the steps since then run again from the
rings. An image whose window c + 1 the rings no longer hold is requested again. -/
def execStateImageRx (k : Fin 2048) (cycle : BitVec 16) (image : Job) (s : State) : Out3 :=
  if !s.awake then .next s else
  if s.ownsPort (s.sk k).slot then .next s else
  let c := cycle.toNat
  let after := s.ringAfter k c
  let need := decide ((s.sk k).stepped ≠ c) && cycLe c (s.sk k).stepped
  let have_ := (s.bound k).all (fun g => after.any (fun x => decide (x.1 = g ∧ x.2.cycle = (c + 1) % 65536)))
  if need && !have_ then .next (s.emit (.image k true)) else
  let s := s.updSk k (fun x => { x with
    job := image, check := image, checkCycle := c, stepped := c, kept := [], inStep := true, matched := 0, wantImage := false, waitDigest := none })
  let s := match (s.sk k).engine with
    | some e => if need then (groupKept (s.sk k).interleave after).foldl (fun (s : State) (grp : List (Nat × Rec)) =>
        let s := grp.foldl (fun (s : State) (y : Nat × Rec) => s.updSt y.1 (fun z => { z with last := y.2 })) s
        s.replayBatch k e (grp.map (fun (y : Nat × Rec) => y.1))) s else s
    | none => s
  .next (((s.count PAIR_CNT_IMAGE_v).pubSkein k).cover).settle

/-- SHELF_DIGEST_RX (R517): the standby's shadow of the shelf path. -/
def execShelfDigestRx (d : ShelfDigest) (s : State) : Out3 :=
  if !s.awake then .next s else
  if s.active then .next s else .next ((s.loadShelf d).updPair (fun x => { x with shelfDigest := some d, shelfDigestAt := s.ct }))

/-- PORT_FLIGHTS_RX (R31). -/
def execPortFlightsRx (p : Fin 64) (up down width : Nat) (s : State) : Out3 :=
  if !s.awake then .next s else
  let s := s.updPort p (fun x => { x with pairFlights := some (Nat.min up 255, Nat.min down 255), pairWidth := width })
  .next (s.pairFlight p).cover

/-! ### Transits (R521 to R525) -/

/-- TRANSIT_RX (R521): the standby claims every port with effect time T_x. -/
def execTransitRx (tx : Nat) (s : State) : Out3 :=
  if s.unit ≠ 3 ∨ s.pair.transitAt.isSome then .next s else
  -- a transit back within prove_s ends the periodic proofs (R523)
  let early : Bool := match s.pair.proving with
    | some t => decide (tx < t + sec (s.get PAIR_TIMING_prove_s))
    | none => false
  let s := s.updPair (fun x => { x with
    transitAt := some tx, transitIn := true, proving := if early then none else x.proving, periodicOff := x.periodicOff || early })
  let s := s.setB PAIR_STATUS_transit_pending true
  .next ((List.range 64).foldl (fun s p => if s.ownsPort p then s else s.claim p tx) s)

/-- Whether a transit at `tx` is the periodic proof: the home unit hands over, transit_h hours after the last swap (R523). -/
def State.isProof (s : State) (tx : Nat) : Bool :=
  let h := s.get PAIR_CFG_transit_h
  (if s.pair.transitIn then !s.isHome else s.isHome) && decide (h ≠ 0) && !s.pair.periodicOff &&
    decide (s.pair.lastSwap + sec (3600 * h) ≤ tx)

/-- At T_x the ports change owner and the outgoing unit's shelf path stops. -/
def State.transitSwap (s : State) : State :=
  let incoming := s.pair.transitIn
  let s := if incoming then s else s.tellShelf
  let s := (List.range 64).foldl (fun s p =>
    let s := if s.ownsPort p = incoming then s else s.setOwn p incoming
    let s := if incoming then s.claimMgmt p else s
    s.updPort p (fun x => { x with
      yieldAt := none, claim := if s.is (PAIR_TERM_claim_pending p) then x.claim.map (fun c => (c.1, 0)) else none })) s
  s.updPair (fun x => { x with transitMid := true })

/-- 20 µs later the roles have changed. -/
def State.transitEnd (s : State) (tx : Nat) : State :=
  let proof := s.isProof tx
  let s := if s.pair.transitIn then s.enterActive else (s.pfw false).setUnit 3
  let s := ((s.count PAIR_CNT_TRANSIT_v).lastClaim tx).setB PAIR_STATUS_transit_pending false
  let s := s.finishOpt s.pair.transitFor 0 0 0
  let s := s.updPair (fun x => { x with
    transitAt := none, transitIn := false, transitMid := false, transitFor := none, lastSwap := tx,
    proving := if proof then some tx else none, coveringSince := none })
  -- UNIT_RESTART on an active unit resets once the transit is over (R640)
  let s := s.updRst (fun r => { r with restartFor := none, restartAt := match r.restartFor with
    | some c => some (s.ct, c)
    | none => r.restartAt })
  s.cover

/-- TRANSIT_TIME (R521): at T_x, and again 20 µs later. -/
def execTransitTime (s : State) : Out3 :=
  match s.pair.transitAt with
  | some tx =>
    if s.ct < tx then .next s else
    let s := if s.pair.transitMid then s else s.transitSwap
    if tx + us 20 ≤ s.ct then .next (s.transitEnd tx).settle else .next s
  | none => .next s

/-- PERIODIC_TRANSIT (R523). -/
def execPeriodicTransit (s : State) : Out3 :=
  if s.isHome && s.isProof s.ct && s.transitOk then .next (s.startTransit (s.ct + us 100)) else .next s

/-- PROVE_TIMER (R523): a unit-level fault while the partner of the home unit proves itself sends the role back; after
prove_s without one the home unit asks for it. -/
def execProveTimer (s : State) : Out3 :=
  match s.pair.proving with
  | none => .next s
  | some t =>
    let over_ := decide (t + sec (s.get PAIR_TIMING_prove_s) ≤ s.ct)
    let bad := s.faults.insts.any (fun i => decide (i.kind.code < 0x10 ∧ t ≤ i.raisedAt) && !i.held)
    if s.active && !s.isHome then
      if over_ then .next (s.updPair (fun x => { x with proving := none }))
      else if bad ∧ s.transitOk then
        let s := (s.startTransit (s.ct + us 100)).updPair (fun x => { x with proving := none, periodicOff := true })
        .next (s.raise .pairProveFail 0).settle
      else .next s
    else if s.unit = 3 ∧ s.isHome ∧ over_ then
      .next ((s.updPair (fun x => { x with proving := none })).emit .transitReq)
    else .next s

/-- RECLAIM_REQUEST (R524). -/
def execReclaimRequest (s : State) : Out3 :=
  let long : Bool := match s.pair.coveringSince with
    | some t => decide (t + sec (s.get PAIR_TIMING_reclaim_s) ≤ s.ct)
    | none => false
  if s.unit = 3 ∧ s.isHome ∧ s.is PAIR_CFG_reclaim_en ∧ long then .next (s.emit .transitReq) else .next s

/-- TRANSIT_REQUEST_RX (R524). -/
def execTransitRequestRx (s : State) : Out3 :=
  if s.transitOk then .next (s.startTransit (s.ct + us 100)) else .next s

/-- PCIE_DOWN_TRANSIT (R525): the link has been down for 1 s. -/
def execPcieDownTransit (s : State) : Out3 :=
  if s.is PAIR_CFG_auto_transit ∧ s.transitOk then .next (s.startTransit (s.ct + us 100)) else .next s

/-! ### Commands (R528) -/

/-- PAIR_QUERY (0x0B01). -/
def execPairQuery (mb : Mb) (k : Fin 64) (s : State) : Out3 :=
  .next (s.command mb k 0x0B01 (fun _ _ => {}) (fun s _ =>
    s.finish mb k 0 (s.unit + 8 * s.get PAIR_STATUS_partner_state + 64 * s.get PAIR_CFG_home) s.ownMask.toNat)).settle

/-- PAIR_TRANSIT (0x0B02): completes after T_x + 20 µs. -/
def execPairTransit (mb : Mb) (k : Fin 64) (s : State) : Out3 :=
  .next (s.command mb k 0x0B02
    (fun s p => {
        bad := [(0, decide (u64 p 0 ≠ 0 ∧ u64 p 0 < s.ct + us 100))],
        busy := if s.transitOk then none else some 5 })
    (fun s p =>
      let tx := if u64 p 0 = 0 then s.ct + us 100 else u64 p 0
      (s.startTransit tx).updPair (fun x => { x with transitFor := some (mb.val, k.val) }))).settle

/-- The settings of PAIR_CTRL. -/
def State.applyPair (s : State) (p : List Byte) : State :=
  let s := (s.setF PAIR_CFG_home (u8 p 0)).setB PAIR_CFG_reclaim_en ((u8 p 1).testBit 0)
  let s := (s.setB PAIR_CFG_auto_transit ((u8 p 1).testBit 1)).setF PAIR_CFG_transit_h (u16 p 2)
  let s := (s.setF PAIR_TIMING_prove_s (u16 p 4)).setF PAIR_TIMING_reclaim_s (u16 p 6)
  (s.updPair (fun x => { x with periodicOff := false })).cover

/-- PAIR_CTRL (0x0B03). -/
def execPairCtrl (mb : Mb) (k : Fin 64) (s : State) : Out3 :=
  .next (s.command mb k 0x0B03
    (fun _ p => { bad := [
        outside 0 (u8 p 0) 0 1, outside 1 (u8 p 1) 0 3, outside 2 (u16 p 2) 0 8760, outside 4 (u16 p 4) 10 3600,
        outside 6 (u16 p 6) 60 65535] })
    (fun s p => (s.applyPair p).okay mb k)).settle

end Sys2Proof.Machine
end

