-- ==== Sys2Proof/Machine/Analog.lean ====
section
/-! DEFINITION. The shelf ADC (R461 to R478): conversion slots, sequences, calibration, open-wire checks, mains. -/
namespace Sys2Proof.Machine

/-! ### Sequences (R463 to R466) -/

/-- The entries a start takes from ADC_SEQ and ADC_CTRL.last (R466). -/
def State.adcEntries (s : State) (c : Nat) : List (Nat × Nat × Nat) :=
  (List.range (s.get (ADC_CTRL_last c) + 1)).map (fun i =>
    (s.get (ADC_SEQ_input c i), Nat.min 8 (s.get (ADC_SEQ_a c i)), Nat.min 8 (s.get (ADC_SEQ_shift c i))))

/-- A run starts in the first slot that begins later, which takes the entries. -/
def State.adcRun (s : State) (c : Nat) : State :=
  (s.updAdc c (fun x => { x with running := true, entry := 0, conv := 0, sum := 0, startAt := s.ct, trigAt := none })).setB
    (ADC_STATUS_busy c) true

/-- A trigger (R464, R465): while a run is in progress an overrun, judged at the cycle's end; none in the cycle of a
stop (R477). -/
def State.adcTrigger (s : State) (c : Nat) : State :=
  let x := s.adc c
  if !s.is (ADC_CTRL_en c) ∨ x.stopAt = some s.ct then s
  else if x.running then
    -- two triggers of one cycle are one start (R477)
    if x.startAt = s.ct then s
    else s.updAdc c (fun y => { y with trigAt := some s.ct })
  else (s.adcRun c).eval .adcOverrun c false

/-- The cycle is complete: a trigger that met a run which went on was an overrun (R465, R477). -/
def State.adcOverruns (s : State) : State :=
  (List.range 4).foldl (fun (s : State) (c : Nat) =>
    if (s.adc c).trigAt.isSome then
      let s := s.updAdc c (fun x => { x with trigAt := none })
      ((s.count (ADC_CNT_OVERRUN_v c)).flag (ADC_STATUS_overrun_seen c)).eval .adcOverrun c true
    else s) s

/-- ADC_CTRL.stop ends the run at once; its entry in progress writes no result. -/
def State.adcHalt (s : State) (c : Nat) : State :=
  (s.updAdc c (fun x => { x with running := false, stopAt := some s.ct })).setB (ADC_STATUS_busy c) false

/-! ### Results (R467 to R469) -/

/-- The result of a sum of n codes. -/
def adcResult (sum n : Nat) (z16 gain : Int) (shift : Nat) : Int :=
  divRound ((16 * (sum : Int) - n * z16) * gain) (16 * 32768 * 2 ^ shift)

def State.adcZero (s : State) (c i : Nat) : Int := fromField 16 (s.get (ADC_CAL_z16 c i))
def State.adcGain (s : State) (c i : Nat) : Nat := s.get (ADC_CAL_gain c i)

/-- An entry writes its result; during an open-wire check's hold the input keeps its last (R473). -/
def State.adcWrite (s : State) (c i sum n shift : Nat) : State :=
  let a := s.ain (32 * c + i)
  if a.owBase.isSome ∨ s.ct < a.holdUntil then s else
  let r := adcResult sum n (s.adcZero c i) (s.adcGain c i) shift
  let v := clampI 0 65535 r
  let ok := !s.is (ADC_RES_open c i) && decide (s.get (ADC_INCFG_cal_state c i) < 2)
  let s := (s.setF (ADC_RES_value c i) v.toNat).setB (ADC_RES_sat c i) (decide (v ≠ r))
  let s := s.updAin (32 * c + i) (fun x => { x with hist := lastN 64 (x.hist ++ [v.toNat]) })
  (s.setB (ADC_RES_valid c i) ok).setF (ADC_RES_seq c i) (s.get (ADC_RES_seq c i) + 1)

/-- One conversion of the sequence (R463, R468). -/
def State.adcSeqSlot (s : State) (c code : Nat) : State :=
  -- a value written up to the start takes effect at it (R466)
  let s := if (s.adc c).entry = 0 ∧ (s.adc c).conv = 0 then s.updAdc c (fun y => { y with seq := s.adcEntries c }) else s
  let x := s.adc c
  let (i, a, shift) := x.seq.getD x.entry (0, 0, 0)
  let sum := x.sum + code
  if x.conv + 1 < 2 ^ a then s.updAdc c (fun y => { y with conv := y.conv + 1, sum := sum })
  else
    let s := s.adcWrite c i sum (2 ^ a) shift
    if x.entry + 1 < x.seq.length then s.updAdc c (fun y => { y with entry := y.entry + 1, conv := 0, sum := 0 })
    else
      let s := s.flag (ADC_STATUS_done c)
      if x.trigAt = some s.ct ∨ (s.is (ADC_CTRL_continuous c) ∧ s.is (ADC_CTRL_en c)) then s.adcRun c
      else (s.updAdc c (fun y => { y with running := false })).setB (ADC_STATUS_busy c) false

/-! ### Mains (R475, R476, R102) -/

def State.mainsInput (s : State) (ph : Nat) : Nat :=
  match ph with
  | 0 => s.get MAINS_CFG_l1
  | 1 => s.get MAINS_CFG_l2
  | _ => s.get MAINS_CFG_l3

/-- The phase whose mains slot this is, if any. -/
def State.mainsSlot (s : State) (c : Nat) : Option Nat :=
  let ph := s.ct / 800 % 20
  if s.is MAINS_CFG_en ∧ ph < 3 ∧ s.mainsInput ph / 32 = c then some ph else none

/-- A code with the input's coefficients while it is calibrated. -/
def State.mainsCode (s : State) (i code : Nat) : Int :=
  let c := i / 32
  let j := i % 32
  if s.get (ADC_INCFG_cal_state c j) = 1 then adcResult code 1 (s.adcZero c j) (s.adcGain c j) 0 else code

/-- The mains PLL holds its last frequency, or follows the crossings: holdover and lock of every src 2 meridian, and the
state of L1 (R102, R376). -/
def State.pllHold (s : State) (hold : Bool) : State :=
  let s := s.updShelf (fun h => { h with pllHoldover := hold })
  let s := (List.range 64).foldl (fun s m => if s.get (MER_CFG_src m) = 2 then
    (s.setB (MER_STATUS_holdover m) hold).setB (MER_STATUS_locked m) (!hold) else s) s
  s.pubMains

/-- A crossing of L1 feeds the PLL: within 45 Hz to 66 Hz it locks, outside it holds (R102). -/
def State.l1Cross (s : State) (period : Nat) : State :=
  let s := s.setF MAINS_PERIOD_period (Nat.min (2 ^ 32 - 1) period)
  if ceilDiv (sec 1) 66 ≤ period ∧ period ≤ sec 1 / 45 then
    (s.updShelf (fun h => { h with pllPeriod := period })).pllHold false
  else s.pllHold true

/-- A mains sample. -/
def State.mainsSample (s : State) (ph code : Nat) : State :=
  let i := s.mainsInput ph
  let v := s.mainsCode i code
  let z : Int := s.get MAINS_ZERO_zero
  let x := s.ph ph
  let t := s.ct / 800 * 800
  let rise := x.armed && decide (z ≤ v)
  let cross := rise && !(decide (ph = 0) && s.is (ADC_RES_open (i / 32) (i % 32)))
  let armed := decide (v < z - (s.get MAINS_CFG_hys : Int)) || (x.armed && !rise)
  let sq := ((v - z) * (v - z)).toNat
  if cross then
    let at_ := match x.prev with
      | some (v0, t0) => if v = v0 then t else ((t0 : Int) + divRound ((z - v0) * ((t : Int) - t0)) (v - v0)).toNat
      | none => t
    let s := match x.lastCross with
      | some l =>
        let s := s.setF (MAINS_RMS_rms ph) (clampI 0 65535 (sqrtRound (256 * x.sumSq) x.count)).toNat
        if ph = 0 then s.l1Cross (at_ - l) else s
      | none => s
    s.updPh ph (fun _ => { armed := false, prev := some (v, t), lastCross := some at_, sumSq := sq, count := 1 })
  else s.updPh ph (fun y => { y with armed := armed, prev := some (v, t), sumSq := y.sumSq + sq, count := y.count + 1 })

/-! ### Slots (R461, R462) -/

/-- The input of a converter whose calibration capture wants conversions, the lowest. -/
def State.capInput (s : State) (c : Nat) : Option Nat :=
  (List.find? (fun (x : Nat × Ain) => decide (x.1 / 32 = c) && (match x.2.cap with
    | some (_, n, _, _) => decide (n < 256)
    | none => false) && x.2.owBase.isNone && decide (x.2.holdUntil ≤ s.ct)) s.ains).map (·.1)

/-- A slot of a converter is used, by a check or a capture or not. -/
def State.slotUsed (s : State) (c : Nat) (check : Bool) : State :=
  (s.count (ADC_CNT_CONV_v c)).updAdc c (fun x => { x with
    slotAt := some (s.ct / 800), lastCheck := if check then some (s.ct / 800) else x.lastCheck })

/-- The slot in progress has had its conversion. -/
def State.slotGone (s : State) (c : Nat) : Bool := decide ((s.adc c).slotAt = some (s.ct / 800))

/-- No check or capture in the three slots before this one (R462). -/
def State.checkShare (s : State) (c : Nat) : Bool :=
  match (s.adc c).lastCheck with
  | some l => decide (l + 4 ≤ s.ct / 800)
  | none => true

/-- ADC_SLOT: mains, then a capture within its share, then the sequence; else the slot is idle. -/
def execAdcSlot (c : Fin 4) (code : BitVec 12) (s : State) : Out3 :=
  if s.slotGone c then .next s else
  match s.mainsSlot c with
  | some ph => .next ((s.slotUsed c false).mainsSample ph code.toNat).settle
  | none =>
    match (if s.checkShare c then s.capInput c else none) with
    | some i => .next ((s.slotUsed c true).updAin i (fun x => { x with
        cap := x.cap.map (fun y => (y.1, y.2.1 + 1, y.2.2.1 + code.toNat, y.2.2.2)) }))
    | none =>
      let x := s.adc c
      if x.running ∧ x.startAt < s.ct / 800 * 800 then
        .next ((s.slotUsed c false).adcSeqSlot c code.toNat).settle
      else .next s

/-! ### Open-wire checks (R473, R474) -/

/-- Whether a check may take this slot: no mains slot, and no check or capture in the three before it (R462, R477). -/
def State.checkSlot (s : State) (c : Nat) : Bool := (s.mainsSlot c).isNone && s.checkShare c && !s.slotGone c

/-- A check of an input is due, and the input is not under capture. -/
def State.owDue (s : State) (i : Nat) : Bool :=
  s.is (ADC_INCFG_ow_en (i / 32) (i % 32)) && (s.ain i).cap.isNone &&
    (decide ((s.ain i).owAt = 0) || decide ((s.ain i).owAt + ms (s.get (ADC_OW_CFG_period_ms (i / 32))) ≤ s.ct))

/-- OW_CHECK: the conversion without pull; the pull goes on. One check at a time on a converter, the lowest input that
is due. -/
def execOwCheck (i : Fin 128) (code : BitVec 12) (s : State) : Out3 :=
  let c := i.val / 32
  let busy := s.ains.any (fun x => decide (x.1 / 32 = c) && x.2.owBase.isSome)
  let first := (List.range (i.val % 32)).all (fun j => !s.owDue (32 * c + j))
  if s.owDue i && first && decide (s.get THM_STATUS_stage = 0) && !busy && s.checkSlot c then
    .next ((s.slotUsed c true).updAin i (fun x => { x with owBase := some code.toNat, owAt := s.ct }))
  else .next s

/-- OW_SETTLE_EXPIRE: the conversion with the pull on, judged on uncalibrated codes; the pull goes off. -/
def execOwSettleExpire (i : Fin 128) (code : BitVec 12) (s : State) : Out3 :=
  let c := i.val / 32
  let j := i.val % 32
  match (s.ain i).owBase with
  | none => .next s
  | some b =>
    if s.ct < (s.ain i).owAt + us (s.get (ADC_OW_CFG_settle_us c)) ∨ !s.checkSlot c then .next s else
    let k := code.toNat
    let thr := s.get (ADC_OW_CFG_thr c)
    let open_ := decide (b + thr < k ∨ k + thr < b) || (if s.is (ADC_INCFG_ow_dir c j) then decide (k = 0) else decide (k = 4095))
    let s := (s.slotUsed c true).updAin i (fun x => { x with
      owBase := none, holdUntil := s.ct + us (s.get (ADC_OW_CFG_settle_us c)),
      openRun := if open_ then x.openRun + 1 else 0, goodRun := if open_ then 0 else x.goodRun + 1 })
    if open_ ∧ 2 ≤ (s.ain i).openRun then
      .next (if s.is (ADC_RES_open c j) then s
        else ((s.setB (ADC_RES_open c j) true).flag (ADC_STATUS_ow_seen c)).level .adcOpenWire i true).settle
    else if !open_ ∧ 2 ≤ (s.ain i).goodRun then .next ((s.setB (ADC_RES_open c j) false).gone .adcOpenWire i)
    else .next s

/-! ### Calibration (R470 to R472, R478) -/

def State.calPub (s : State) (c : Nat) : State :=
  s.setB (ADC_STATUS_cal_busy c) (s.ains.any (fun x => decide (x.1 / 32 = c) && x.2.cap.isSome))

/-- The command of a capture ends. -/
def State.calDone (s : State) (i status info : Nat) : State :=
  let c := i / 32
  let j := i % 32
  let o := (s.ain i).capFor
  let s := (s.updAin i (fun x => { x with cap := none, capFor := none })).calPub c
  let r := s.get (ADC_CAL_z16 c j) + 65536 * s.get (ADC_CAL_gain c j)
  s.finishOpt o status info (if status = 0 then r else 0)

/-- Coefficients in force, kept in region 0 (R472). -/
def State.calKeep (s : State) (i : Nat) : State :=
  s.keep 11 i (leBytes 4 (s.word (aADC_CAL (i / 32) (i % 32))).toNat ++ leBytes 1 (s.get (ADC_INCFG_cal_state (i / 32) (i % 32))))

/-- CAL_CAPTURE_DONE: 256 conversions have been captured. -/
def execCalCaptureDone (i : Fin 128) (s : State) : Out3 :=
  let c := i.val / 32
  let j := i.val % 32
  match (s.ain i).cap with
  | some (op, 256, sum, fs) =>
    let m := divRound sum 16
    if op = 0 then
      if 2048 < m.natAbs then .next ((s.setF (ADC_INCFG_cal_state c j) 3).calDone i 9 1)
      else .next (((s.setI (ADC_CAL_z16 c j) m).setF (ADC_INCFG_cal_state c j) 2).calDone i 0 2)
    else
      let d := m - s.adcZero c j
      let g := divRound ((fs * 16 * 32768 : Nat) : Int) d
      if d ≠ 0 ∧ 24576 ≤ g ∧ g ≤ 40960 then
        let s := (s.setF (ADC_CAL_gain c j) g.toNat).setF (ADC_INCFG_cal_state c j) 1
        .next ((s.gone .adcCalLost i).calKeep i |>.calDone i 0 1)
      else .next ((s.setF (ADC_INCFG_cal_state c j) 3).calDone i 9 2)
  | _ => .next s

/-- ADC_CAL (0x0E01). -/
def execAdcCal (mb : Mb) (k : Fin 64) (s : State) : Out3 :=
  .next (s.command mb k 0x0E01
    (fun s p =>
      let i := u16 p 0
      let st := s.get (ADC_INCFG_cal_state (i / 32) (i % 32))
      let op := u8 p 2
      {
          bad := [outside 0 i 0 127, outside 2 op 0 3, (2, decide (op = 1 ∧ st ≠ 2)), (4, decide (op = 1 ∧ (u16 p 4 < 1 ∨ 4095 < u16 p 4)))],
          busy := if op < 3 ∧ (s.ain i).cap.isSome then some 2 else none })
    (fun s p =>
      let i := u16 p 0
      let c := i / 32
      let j := i % 32
      let r := fun (s : State) => s.get (ADC_CAL_z16 c j) + 65536 * s.get (ADC_CAL_gain c j)
      match u8 p 2 with
      | 0 => (s.updAin i (fun x => { x with
          cap := some (0, 0, 0, 0), capFor := some (mb.val, k.val), prevCal := s.get (ADC_INCFG_cal_state c j) })).calPub c
      | 1 => (s.updAin i (fun x => { x with cap := some (1, 0, 0, u16 p 4), capFor := some (mb.val, k.val) })).calPub c
      | 2 =>
        let s := ((s.setF (ADC_CAL_z16 c j) 0).setF (ADC_CAL_gain c j) 32768).setF (ADC_INCFG_cal_state c j) 0
        let s := (s.gone .adcCalLost i).calKeep i
        s.finish mb k 0 0 (r s)
      | _ =>
        match (s.ain i).cap with
        -- the last conversion has been made: the capture completes (R477)
        | some (_, 256, _, _) => s.finish mb k 5 0 0
        | some _ =>
          let s := (s.setF (ADC_INCFG_cal_state c j) (s.ain i).prevCal).calDone i 6 1
          s.finish mb k 0 (s.get (ADC_INCFG_cal_state c j)) (r s)
        | none => s.finish mb k 5 0 0)).settle

/-- MAINS_PLL_HOLDOVER (R102): no crossing of L1 for 2 expected cycles, or none yet; L1 counts as lost (R376). -/
def execMainsPllHoldover (s : State) : Out3 :=
  if !s.awake ∨ (s.ph 0).lastCross.any (fun t => decide (s.ct < t + 2 * s.shelf.pllPeriod)) then .next s
  else .next ((s.pllHold true).holdupCheck).settle

end Sys2Proof.Machine
end

