-- ==== Sys2Proof/Machine/Thermal.lean ====
section
/-! DEFINITION. Temperature and thermal action (R479 to R494). -/
namespace Sys2Proof.Machine

/-! ### Readings (R479, R480) -/

def State.temp (s : State) (k : Nat) : Int := fromField 16 (s.get (THM_TEMP_temp k))
def State.tempOk (s : State) (k : Nat) : Bool := s.is (THM_TEMP_valid k)

/-- A sensor is valid or not, with its cause and THM_STATUS.sensor_fault. -/
def State.tempValid (s : State) (k : Nat) (ok : Bool) : State :=
  let s := (s.setB (THM_TEMP_valid k) ok).level .thmSensor k (!ok)
  s.setB THM_STATUS_sensor_fault ((List.range 13).any (fun i => s.raised .thmSensor i))

/-- One reading. -/
def State.reading (s : State) (k : Nat) (t : Option Int) : State :=
  match t with
  | none => s
  | some v =>
    let s := (s.setI (THM_TEMP_temp k) v).updSens k (fun x => { x with
      sampledAt := s.ct, critRun := if 2000 ≤ v then x.critRun + 1 else 0 })
    s.tempValid k (decide (-640 ≤ v ∧ v ≤ 2400))

/-- The junction temperature: the highest valid reading of sensors 0 to 4. -/
def State.junction (s : State) : Option Int :=
  (List.range 5).foldl (fun a k => if s.tempOk k && a.all (fun v => decide (v < s.temp k)) then some (s.temp k) else a) none

/-- A die without a valid sensor counts as being at the throttle level (R480). -/
def State.dieBlind (s : State) : Bool := (List.range 5).any (fun k => !s.tempOk k)

/-! ### Levels (R481 to R483) -/

def levelKind (j : Nat) : Kind := if j = 0 then .thmWarn else if j = 1 then .thmThrottle else .thmShutdown
def levelSeen (j : Nat) : Fld := if j = 0 then THM_STATUS_warn_seen else if j = 1 then THM_STATUS_throttle_seen else THM_STATUS_shutdown_seen

/-- Samples in a window (R482); code 7 is reserved and counts as the longest. -/
def rateWindow (code : Nat) : Nat := [100, 250, 500, 1000, 2000, 5000, 10000].getD code 10000

/-- Whether a level is entered or left after this sample, and its run counts: (entered, left, enterRun, leaveRun, absolute run). -/
def State.levelRuns (s : State) (j : Nat) : Nat × Nat × Nat × Bool × Bool :=
  let x := s.thm
  let t := x.hist.headD none
  let thr : Int := fromField 16 (s.get (THM_LVL_thr j))
  let blind := decide (j = 1) && s.dieBlind
  let abs_ := t.any (fun v => decide (thr ≤ v)) || blind
  if s.is (THM_LVLR_rate_mode j) then
    let w := rateWindow (s.get (THM_LVLR_window j))
    let rate : Int := s.get (THM_LVLR_rate j)
    let rise : Option Int := t.bind (fun v => (x.hist.getD w none).map (fun v0 => v - v0))
    let hot := rise.any (fun r => decide (rate < r)) || blind
    let calm := rise.all (fun r => decide (2 * r ≤ rate)) && !blind
    let e := if hot then x.enterRun.getD j 0 + 1 else 0
    let a := if j = 2 ∧ abs_ then x.enterRun.getD 3 0 + 1 else 0
    let l := if calm then x.leaveRun.getD j 0 + 1 else 0
    (e, l, a, decide (2 ≤ e ∨ 2 ≤ a), decide (w ≤ l))
  else
    let e := if abs_ then x.enterRun.getD j 0 + 1 else 0
    let cold := t.any (fun v => decide (v < thr - (s.get (THM_LVL_hys j) : Int))) && !blind
    let l := if cold then x.leaveRun.getD j 0 + 1 else 0
    (e, l, 0, decide (2 ≤ e), decide (2 ≤ l))

/-- The samples of a stage of shed work: skeins at 32 or 64 halve at stage 3, all run at 8 from stage 4 (R484, R485). -/
def stageSamples (stage n : Nat) : Nat := if 4 ≤ stage then 8 else if stage = 3 ∧ 32 ≤ n then n / 2 else 0

/-- A shed stage comes into force, or is taken back: stages 3 and 4 are one constellation for each port. -/
def State.setStage (s : State) (old new : Nat) : State :=
  let s := s.setF THM_STATUS_stage new
  if Nat.max old new < 3 then s else
  (List.range 64).foldl (fun s p =>
    let acts := (s.slotSkeins p).filterMap (fun k =>
      let n := (s.sk k).samples
      if stageSamples old n = stageSamples new n then none else some (EphAct.samples false k (stageSamples new n)))
    if acts.isEmpty then s else s.fwPost (s.ct + ms 1) acts false none) s

/-- The orderly shutdown begins (R490): the shelf path of this unit stops; a transit, or RELEASE without one. -/
def State.shutdownEnter (s : State) : State :=
  if s.rst.shutdownAt.isSome then s else
  let ok := s.is THM_CTRL_transit_en && s.transitOk
  let s := s.updRst (fun r => { r with shutdownAt := some s.ct })
  let s := if ok then s.startTransit (s.ct + us 100) else s.releaseEvery
  s.setF THM_STATUS_last_cause 1

/-- A level is entered or left. A sample that enters shutdown steps no shed stage (R493). -/
def State.levelSet (s : State) (j : Nat) (on shut : Bool) : State :=
  let x := s.thm
  let s := s.updThm (fun t => { t with levels := setAt t.levels j on })
  let s := s.setF THM_STATUS_level (((List.range 3).filter (fun i => s.thm.levels.getD i false)).foldl (fun a i => Nat.max a (i + 1)) 0)
  if on then
    let s := (s.flag (levelSeen j)).level (levelKind j) 0 true
    -- the raise tells the AF unless the kind is class 0
    let s := if (s.kindCfg (levelKind j) 0).1 = 0 then s.event afMb (levelKind j).code [] else s
    if j = 1 then
      let stage := s.get THM_STATUS_stage
      let s := s.updThm (fun t => { t with stageAt := some s.ct, stageTemp := x.hist.headD none, restoreAt := none })
      if stage = 0 ∧ !shut then s.setStage 0 1 else s
    else if j = 2 then s.shutdownEnter
    else s
  else
    let s := s.gone (levelKind j) 0
    if j = 1 then s.updThm (fun t => { t with stageAt := none, restoreAt := some (s.ct + sec 10) }) else s

/-- The levels after a sample. -/
def State.judgeLevels (s : State) : State :=
  let shut := s.rst.shutdownAt.isSome || (!s.thm.levels.getD 2 false && (s.levelRuns 2).2.2.2.1)
  ([0, 1, 2] : List Nat).foldl (fun s j =>
    let (e, l, a, enter, leave) := s.levelRuns j
    let s := s.updThm (fun t => { t with
      enterRun := setAt (if j = 2 then setAt t.enterRun 3 a else t.enterRun) j e, leaveRun := setAt t.leaveRun j l })
    let on := s.thm.levels.getD j false
    if !on && enter then (s.levelSet j true shut).updThm (fun t => { t with leaveRun := setAt t.leaveRun j 0 })
    else if on && leave && !enter then s.levelSet j false shut
    else s) s

/-! ### Remote sensors (R486, R487) -/

/-- The level of a remote sensor. -/
def Sensor.lvl (x : Sensor) : Nat := if x.on.getD 1 false then 2 else if x.on.getD 0 false then 1 else 0

/-- THERMAL_REQ to every holder that owns a slot of the zone. -/
def State.thermalReq (s : State) (k : Nat) : State :=
  let z := s.get (THM_ZONE_slots (2 * k)) + 2 ^ 32 * s.get (THM_ZONE_slots (2 * k + 1))
  let hs := (((List.range 64).filter (fun n => z.testBit n)).map s.slotOwner).eraseDups
  hs.foldl (fun s h => s.event h 0x0501 (leBytes 1 (5 + k) ++ leBytes 1 (s.sens (5 + k)).lvl)) s

/-- The thresholds of a remote sensor after a sample, with a 5 °C hysteresis. -/
def State.judgeRemote (s : State) (k : Nat) : State :=
  if !s.tempOk (5 + k) then s else
  let t := s.temp (5 + k)
  let was := (s.sens (5 + k)).lvl
  let s := ([0, 1] : List Nat).foldl (fun s j =>
    let thr : Int := fromField 16 (if j = 0 then s.get (THM_REMOTE0_warn k) else s.get (THM_REMOTE0_throttle k))
    s.updSens (5 + k) (fun x =>
      let e := if thr ≤ t then x.enterRun.getD j 0 + 1 else 0
      let l := if t < thr - 80 then x.leaveRun.getD j 0 + 1 else 0
      let on := x.on.getD j false
      { x with
        enterRun := setAt x.enterRun j e, leaveRun := setAt x.leaveRun j l,
        on := setAt x.on j (if on then !decide (2 ≤ l) else decide (2 ≤ e)) })) s
  if (s.sens (5 + k)).lvl = was then s else s.thermalReq k

/-- THM_SAMPLE (R479 to R483, R486, R491): a critical trip comes before everything else of the sample (R493). -/
def execThmSample (readings : List (Option Int)) (s : State) : Out3 :=
  if !s.awake then .next s else
  if s.unit = 0 ∨ s.ct < s.thm.sampleAt then .next s else
  let s := s.updThm (fun t => { t with sampleAt := s.ct + ms 1 })
  let s := ((List.range 13).zip readings).foldl (fun s x => s.reading x.1 x.2) s
  if (List.range 5).any (fun k => decide (2 ≤ (s.sens k).critRun)) then
    .next ((s.setF THM_STATUS_last_cause 2).ownFail 4)
  else
    let s := s.updThm (fun t => { t with hist := (s.junction :: t.hist).take 10001 })
    let s := s.judgeLevels
    .next ((List.range 8).foldl (fun s k => s.judgeRemote k) s).settle

/-- THM_SENSOR_STALE (R480): no update for 3 ms. -/
def execThmSensorStale (k : Fin 13) (s : State) : Out3 :=
  if !s.awake then .next s else
  if (s.sens k).sampledAt + ms 3 ≤ s.ct ∧ s.unit ≠ 0 then .next (s.tempValid k false).settle else .next s

/-! ### Shedding (R484, R485) -/

/-- SHED_STAGE_TIMER: 1 s at throttle without a fall of 1 °C takes the next stage; none once shutdown is entered. -/
def execShedStageTimer (s : State) : Out3 :=
  match s.thm.stageAt with
  | some t =>
    if s.ct < t + sec 1 ∨ s.rst.shutdownAt.isSome then .next s else
    let j := s.junction
    let stage := s.get THM_STATUS_stage
    let fell := s.thm.stageTemp.any (fun t0 => j.any (fun t1 => decide (16 ≤ t0 - t1)))
    let s' := s.updThm (fun x => { x with stageAt := some s.ct, stageTemp := j })
    .next (if !fell ∧ stage < 4 then s'.setStage stage (stage + 1) else s')
  | none => .next s

/-- SHED_RESTORE_TIMER: one stage back every 10 s. -/
def execShedRestoreTimer (s : State) : Out3 :=
  match s.thm.restoreAt with
  | some t =>
    let stage := s.get THM_STATUS_stage
    if s.ct < t ∨ stage = 0 then .next s
    else .next ((s.updThm (fun x => { x with restoreAt := if stage = 1 then none else some (s.ct + sec 10) })).setStage stage (stage - 1))
  | none => .next s

/-! ### Fans (R488, R489) -/

/-- The duty of an automatic fan. -/
def State.fanDuty (s : State) (n : Nat) : Nat :=
  let period := s.get (FAN_PWM_period n)
  let mask := s.get (THM_FAN2_sensors n)
  let l := (List.range 13).filter (fun k => mask.testBit k)
  if l.isEmpty || !l.all s.tempOk || decide (2 ≤ s.get THM_STATUS_level) then period else
  let t := l.foldl (fun a k => if a < s.temp k then s.temp k else a) (s.temp (l.headD 0))
  let lo : Int := fromField 16 (s.get (THM_FAN0_t_lo n))
  let hi : Int := fromField 16 (s.get (THM_FAN0_t_hi n))
  let dmin : Int := s.get (THM_FAN1_duty_min n)
  let dmax : Int := s.get (THM_FAN1_duty_max n)
  let f := clampI dmin dmax
    (if hi = lo then Config.fanFlat [dmin, dmax, t, lo] else dmin + divRound ((dmax - dmin) * (t - lo)) (hi - lo))
  (divRound ((period : Int) * f) 32768).toNat

/-- FAN_UPDATE: every 100 ms. -/
def execFanUpdate (s : State) : Out3 :=
  if s.ct < s.thm.fanAt then .next s else
  let s := s.updThm (fun x => { x with fanAt := s.ct + ms 100 })
  .next ((List.range 16).foldl (fun s n =>
    if s.is (THM_FAN2_auto n) then
      let d := s.fanDuty n
      (s.setF (FAN_PWM_duty n) d).touch (FAN_PWM_duty n) (.set (aFAN_PWM n) 31 16 d)
    else s) s)

/-! ### Dormant (R490, R492) -/

/-- THERMAL_DORMANT_ENTRY (R490): once the transit is over, or 50 ms after the entry. -/
def execThermalDormantEntry (s : State) : Out3 :=
  match s.rst.shutdownAt with
  | some t =>
    if s.pair.transitAt.isNone ∨ t + ms 50 ≤ s.ct then .next ((s.unitRecordNow 5).goDormant 1) else .next s
  | none => .next s

/-- DORMANT_THM_CHECK (R492): once per second; 60 s at or below the threshold wake the unit. -/
def execDormantThmCheck (temp : Int) (s : State) : Out3 :=
  if s.unit ≠ 0 ∨ !s.rst.thermDormant then .next s else
  let n := if temp ≤ s.rst.coolThr then s.rst.cool + 1 else 0
  let s := s.updRst (fun r => { r with cool := n })
  .next (if 60 < n ∧ s.rst.restartEn then s.wake 10 else s)

/-- THM_QUERY (0x0E10). -/
def execThmQuery (mb : Mb) (k : Fin 64) (s : State) : Out3 :=
  .next (s.command mb k 0x0E10
    (fun _ p => { bad := [outside 0 (u8 p 0) 0 12] })
    (fun s p =>
      let n := u8 p 0
      let lvl := if n < 5 then s.get THM_STATUS_level else (s.sens n).lvl
      s.finish mb k 0 ((s.tempOk n).toNat + 2 * lvl) (s.get (THM_TEMP_temp n)))).settle

end Sys2Proof.Machine
end

