-- ==== Sys2Proof/Machine/Faults.lean ====
section
/-! DEFINITION. Grace, safe stop and the fault commands (R533, R537, R538, R542 to R549). -/
namespace Sys2Proof.Machine

/-- Every listed kind, for reading a kind from its code. -/
def allKinds : List Kind :=
  [.lockstep, .supply, .clockRef, .bridgeCrc, .sramCorr, .sramUncorr, .regParity, .merUnlock, .ephAbort, .portTrain, .portRetry,
   .portFlight, .stitchAuto, .stitchSense, .stitchFault, .stitchSampleLoss, .engOverrun, .engNoSpare, .engFault, .arbDeadline, .arbDup] ++
  [.skeinNoFb, .skeinStartFail, .skeinShare, .skeinDegraded, .skeinOv, .skeinUv, .skeinIlim, .rectFail, .rectComm, .busSense, .busOv,
   .busUv, .battComm, .battFault, .battLevel, .battTemp, .huEntry, .huExhausted, .slotMeasLoss, .slotBreaker, .slotFastTrip, .slotGate,
   .slotSurprise] ++
  [.capTargetBreak, .capFloorBreak, .capEnforce, .capNoncomply, .seqStartFail, .seqTimedOff, .railLost, .chassisForceOff, .adcOverrun,
   .adcCalLost, .adcOpenWire, .thmSensor, .thmWarn, .thmThrottle, .thmShutdown, .pairConfig, .pairLink, .pairAlive, .pairLost, .pairYield,
   .pairProveFail, .nvWrite, .nvRead, .nvCopyLost, .holdupDie, .twStretch, .twStuck, .secEntropy, .secBoot, .secKey, .fwFallback]
def Kind.ofCode (c : Nat) : Option Kind := allKinds.find? (fun k => decide (k.code = c))

def State.instOf (s : State) (k : Kind) (i : Nat) : Option Inst :=
  s.faults.insts.find? (fun (x : Inst) => x.kind = k ∧ x.inst = i)

/-- GRACE_EXPIRE (R533): the next rung of an instance whose cause is still present. -/
def execGraceExpire (kind : Byte) (inst : BitVec 16) (s : State) : Out3 :=
  match (Kind.ofCode kind.toNat).bind (fun k => s.instOf k inst.toNat) with
  | some x =>
    match x.graceAt with
    | some t =>
      -- an expiry in the cycle of a FAULT_CONFIG uses the old values (R548)
      if !x.held ∧ t ≤ s.ct then .next (s.nextRungBy x (Tbl.get s.faults.kindOld kind.toNat (s.kindCfg x.kind x.inst))).settle
      else .next s
    | none => .next s
  | none => .next s

/-- SAFE_STOP_RESTART (R537, R538): 50 ms after the decision; the third within 1 h enters dormant instead. -/
def execSafeStopRestart (s : State) : Out3 :=
  match s.faults.safeStopAt with
  | some t =>
    if s.ct < t + ms 50 then .next s
    else if 3 ≤ (s.faults.safeStops.filter (fun u => decide (s.ct < u + sec 3600))).length then .next (s.goDormant 2)
    else .next ((s.restart 3).setF FLT_STATUS_safe_stop_seen 1)
  | none => .next s

/-! ### Commands (R549) -/

/-- Checks of a command that names an instance: a listed kind; from a VI, an instance it owns. -/
def State.instChecks (s : State) (mb : Nat) (p : List Byte) : Checks :=
  match Kind.ofCode (u8 p 0) with
  | none => { bad := [(0, true)] }
  | some k =>
    let o := k.obj (u16 p 2)
    let owned : Bool := match o with
      | .stitch _ => true
      | .skein _ => true
      | .port _ => true
      | .slot _ => true
      | .holder _ => true
      | _ => false
    if mb = afMb then {}
    else { denied := !owned, bad := [(2, decide (s.instOwner o ≠ mb))] }

def State.instState (s : State) (k : Kind) (i : Nat) : Nat × Nat × Nat × Nat :=
  match s.instOf k i with
  | some x => (if x.held then 2 else 1, x.last, x.cls, x.raisedAt)
  | none => (0, 0, (s.kindCfg k i).1, 0)

/-- FAULT_QUERY (0x0701). -/
def execFaultQuery (mb : Mb) (k : Fin 64) (s : State) : Out3 :=
  .next (s.command mb k 0x0701 (fun s p => s.instChecks mb p) (fun s p =>
    match Kind.ofCode (u8 p 0) with
    | some kd =>
      let (st, rung, cls, t) := s.instState kd (u16 p 2)
      s.finish mb k 0 (st + 4 * rung + 32 * cls) t
    | none => s.finish mb k 4 0 0)).settle

/-- A clear or a refused clear in the logs (R545). -/
def State.clearNote (s : State) (x : Inst) (what : Nat) : State :=
  let r : LogRec := {
      time := s.ct, kind := x.kind.code, cls := x.cls, injected := x.injected, passed := false, recKind := what,
      inst := x.inst, die := x.die, rung := x.last, seq := s.get FLT_LOG_SEQ_v }
  let s := s.log r
  if 2 ≤ x.cls then s.nvPush 3 (Tbl.get s.nv.seqs 3 0 % 8192) 2 (s.instOwner (x.kind.obj x.inst)) (.fault r) else s

/-- FAULT_CLEAR (0x0702, R542, R543). -/
def execFaultClear (mb : Mb) (k : Fin 64) (s : State) : Out3 :=
  .next (s.command mb k 0x0702 (fun s p => s.instChecks mb p) (fun s p =>
    match (Kind.ofCode (u8 p 0)).bind (fun kd => s.instOf kd (u16 p 2)) with
    | some x =>
      if x.held then
        let s := s.clearNote x 2
        let s := s.updFaults (fun f => { f with insts := f.insts.filter (fun (y : Inst) => !(y.kind = x.kind && y.inst = x.inst)) })
        (s.alarms x.kind.code).okay mb k
      else ((s.count FLT_PREMATURE_v).clearNote x 3).finish mb k 9 1 0
    | none => s.okay mb k)).settle

/-- A configuration of a kind (R532). -/
def State.applyKind (s : State) (p : List Byte) : State :=
  let c := u8 p 0
  let s := match Kind.ofCode c with
    | some k => s.updFaults (fun f => { f with kindOld := Tbl.put f.kindOld c (Tbl.get f.kindOld c (s.kindCfg k 0)) })
    | none => s
  let s := ((s.setF (FLT_KIND_class c) (u8 p 1)).setF (FLT_KIND_rung_first c) (u8 p 2)).setF (FLT_KIND_rung_max c) (u8 p 3)
  (s.setF (FLT_KIND_grace_val c) (u16 p 4)).setF (FLT_KIND_grace_unit c) (u8 p 6)

/-- FAULT_CONFIG (0x0703). -/
def execFaultConfig (mb : Mb) (k : Fin 64) (s : State) : Out3 :=
  .next (s.command mb k 0x0703
    (fun s p => { bad := [
        (0, !kindListed (u8 p 0) || s.is (FLT_KIND_fixed (u8 p 0))), outside 1 (u8 p 1) 0 3, outside 2 (u8 p 2) 0 4,
        outside 3 (u8 p 3) (u8 p 2) 4, outside 4 (u16 p 4) 1 10000, outside 6 (u8 p 6) 0 1] })
    (fun s p => (s.applyKind p).okay mb k)).settle

/-- Whether an injection's instance exists for its checker (R546). -/
def injectBad (chk inst : Nat) : Bool :=
  match chk with
  | 0 => decide (4 < inst / 256)
  | 1 => decide (inst / 256 ≠ 5 ∧ inst / 256 ≠ 6)
  | 2 => decide (63 < inst)
  | 3 => decide (4 < inst / 256)
  | 5 => decide (1 < inst)
  | _ => false

/-- FAULT_INJECT (0x0704, R546, R547). -/
def execFaultInject (mb : Mb) (k : Fin 64) (s : State) : Out3 :=
  .next (s.command mb k 0x0704
    (fun s p => {
        bad := [outside 0 (u8 p 0) 0 6, outside 1 (u8 p 1) 1 (if u8 p 0 < 2 then 2 else 1), outside 2 (u8 p 2) 1 16,
          (4, injectBad (u8 p 0) (u16 p 4))],
        busy := if s.pair.transitAt.isSome then some 5
          else if s.faults.inject.isSome then some 2
          else if !s.hupNormal ∨ (u8 p 0 = 5 ∧ !s.partnerReady) then some 6 else none })
    (fun s p =>
      ((s.updFaults (fun f => { f with inject := some (u8 p 0, u8 p 1, u8 p 2, u16 p 4) })).setB FLT_STATUS_inject_armed true).okay mb k)).settle

/-- FAULT_LOG_READ (0x0705): up to 15 records from a sequence number; a VI reads those of its own instances. -/
def execFaultLogRead (mb : Mb) (k : Fin 64) (s : State) : Out3 :=
  .next (s.command mb k 0x0705 (fun _ _ => {}) (fun s p =>
    let first := u32 p 0
    let mine := fun (r : LogRec) => decide (mb.val = afMb) || (match Kind.ofCode r.kind with
      | some kd => decide (s.instOwner (kd.obj r.inst) = mb.val)
      | none => false)
    let l := (s.faults.log.filter (fun r => decide ((r.seq + 2 ^ 32 - first) % 2 ^ 32 < 2 ^ 31) && mine r)).take 15
    (s.slotWrite mb k (l.flatMap LogRec.bytes)).finish mb k 0 0 l.length)).settle

end Sys2Proof.Machine
end

