-- ==== Sys2Proof/Machine/TwoWire.lean ====
section
/-! DEFINITION. The two-wire ports (R571 to R589): failed attempts, bus recovery, attention, the target map and
the wake of a dormant unit. -/
namespace Sys2Proof.Machine

/-- A port in a role: 1 controller, 2 target (R571). -/
def State.twRole (s : State) (t : Nat) : Nat := s.get (TW_CTRL_mode t)

/-- A controller port of a unit that runs. -/
def State.twCtl (s : State) (t : Nat) : Bool := s.twRole t = 1 && decide (s.unit ≠ 0) && !s.rst.held

/-! ### As controller -/

/-- The transaction in progress has failed its third attempt (R345, R375). A rectifier whose admission reads fail
is failed (log 35). -/
def State.twGiveUp (s : State) (t : Nat) (j : Nat × Nat × Nat) : State :=
  if j.1 < 64 then
    if j.2.2 = 0 then s.pollFailed j.1
    else if j.2.2 = 2 then
      let s := s.updTw t (fun x => { x with jobs := x.jobs.filter (fun i => !(decide (i.1 = j.1) && decide (i.2.2 = 2))) })
      (s.rectSet j.1 6).level .rectFail j.1 true
    else if j.2.2 = 4 then (s.finishOpt (s.rect j.1).ctrlFor 0 0 0).updRect j.1 (fun x => { x with ctrlFor := none })
    else s
  else if j.1 = 255 then s
  else s.strFailed (j.1 - 64)

/-- A failed attempt: the transaction is retried twice, then it has failed. -/
def State.twFail (s : State) (t : Nat) : State :=
  match (s.tw t).jobs with
  | [] => s
  | j :: rest =>
    if (s.tw t).tries < 2 then s.updTw t (fun x => { x with tries := x.tries + 1, losses := 0 })
    else (s.updTw t (fun x => { x with jobs := rest, tries := 0, losses := 0 })).twGiveUp t j

/-- Whether a controller port may have a transaction on its bus: not while recovering or stuck, and of the unit that runs
the shelf path alone, so that none ends after the T_x of a transit (R496, R521, R537). -/
def State.twBusy (s : State) (t : Nat) : Bool :=
  s.twCtl t && s.shelfOn && decide (s.get (TW_STATUS_bus t) < 2) && !(s.tw t).jobs.isEmpty

/-- The rectifier or string module of a port with an address. -/
def State.twRect (s : State) (t a : Nat) : Option Nat :=
  ((s.rects.filter (fun x => decide (x.2.state ≠ 0 ∧ x.2.tw = t ∧ x.2.addr = a))).map (·.1)).head?
def State.twStr (s : State) (t a : Nat) : Option Nat :=
  ((s.strs.filter (fun x => decide (x.2.tw = t ∧ x.2.addr = a))).map (·.1)).head?

/-- An alert of the device at an address (R348, R582): its STATUS_WORD is read at the next transaction boundary.
Answers false when the address is neither a rectifier's nor a string module's. -/
def State.twAlert (s : State) (t a : Nat) : State × Bool :=
  match s.twRect t a, s.twStr t a with
  | some r, _ => (if s.shelfOn then (s.flag (RECT_ALERT_bit r)).twNext t [(r, 0x79, 1)] else s, true)
  | none, some i => (if s.shelfOn then s.twNext t [(64 + i, 0x79, 3)] else s, true)
  | none, none => (s, false)

/-- TW_TRANSACTION_DONE (R345, R375, R575, R576): the transaction at the head of the port's queue has ended. -/
def execTwTransactionDone (t : Fin 8) (r : TwEnd) (s : State) : Out3 :=
  if !s.twBusy t then .next s else
  match (s.tw t).jobs, r with
  | [], _ => .next s
  | j :: rest, .ok data =>
    let s := (s.updTw t (fun x => { x with jobs := rest, tries := 0, losses := 0 })).gone .twStretch t
    let s := if j.1 = 255 then (s.twAlert t (data.toNat % 128)).1
      else if j.1 < 64 then s.rectData j.1 j.2.1 j.2.2 data.toNat
      else s.strStatus (j.1 - 64) data.toNat
    .next (s.holdupCheck).settle
  | _ :: _, .nack => .next ((s.count (TW_CNT_NACK_v t)).twFail t).settle
  | _ :: _, .pec => .next ((s.count (TW_CNT_PEC_v t)).twFail t).settle

/-- TW_ARB_LOST (R574): eight consecutive losses on one transaction are one failed attempt. -/
def execTwArbLost (t : Fin 8) (s : State) : Out3 :=
  if !s.twBusy t then .next s else
  let s := (s.count (TW_CNT_ARB_v t)).flag (TW_STATUS_arb_lost_seen t)
  let s := s.updTw t (fun x => { x with lostAt := some s.ct })
  let n := (s.tw t).losses + 1
  .next (if 8 ≤ n then (s.updTw t (fun x => { x with losses := 0 })).twFail t
    else s.updTw t (fun x => { x with losses := n })).settle

/-- TW_STRETCH_TIMEOUT (R576, R579): the transaction ends; a low SDA leaves a recovery due at once. An arbitration loss of
the same cycle takes its place (R589). -/
def execTwStretchTimeout (t : Fin 8) (sdaLow : Bool) (s : State) : Out3 :=
  if !s.twCtl t ∨ (s.tw t).lostAt = some s.ct then .next s else
  let s := ((s.level .twStretch t true).flag (TW_STATUS_stretch_seen t)).count (TW_CNT_STRETCH_v t)
  let s := s.twFail t
  .next (if sdaLow then (s.setF (TW_STATUS_bus t) 2).updTw t (fun x => { x with retryAt := some s.ct }) else s).settle

/-- TW_SCL_STUCK (R577): TW_STUCK, and SCL is tested every 100 ms. -/
def execTwSclStuck (t : Fin 8) (s : State) : Out3 :=
  if !s.twCtl t then .next s else
  let s := (s.level .twStuck t true).setF (TW_STATUS_bus t) 3
  .next (s.updTw t (fun x => { x with retryAt := some (s.ct + ms 100) })).settle

/-- A bus recovery (R579, R580): pulses until SDA reads high, then a STOP; a ninth pulse with SDA low is stuck. -/
def State.twRecover (s : State) (t : Nat) (freedAt : Option (Fin 9)) : State :=
  let s := (s.count (TW_CNT_RECOVER_v t)).updTw t (fun x => { x with recAt := some s.ct })
  match freedAt with
  | some n =>
    let s := (s.emit (.twRecover t (n.val + 1))).setF (TW_STATUS_bus t) 0
    (s.updTw t (fun x => { x with retryAt := none })).gone .twStuck t
  | none =>
    let s := ((s.emit (.twRecover t 9)).setF (TW_STATUS_bus t) 3).flag (TW_STATUS_stuck_seen t)
    (s.updTw t (fun x => { x with retryAt := some (s.ct + ms 100) })).level .twStuck t true

/-- TW_SDA_STUCK (R579). -/
def execTwSdaStuck (t : Fin 8) (freedAt : Option (Fin 9)) (s : State) : Out3 :=
  if !s.twCtl t ∨ 2 ≤ s.get (TW_STATUS_bus t) then .next s else .next (s.twRecover t freedAt).settle

/-- TW_STUCK_RETRY (R577, R580): SCL is tested and, high, the bus is recovered. -/
def execTwStuckRetry (t : Fin 8) (sclHigh : Bool) (freedAt : Option (Fin 9)) (s : State) : Out3 :=
  match (s.tw t).retryAt with
  | some u =>
    if !s.twCtl t ∨ s.ct < u then .next s
    else if sclHigh then .next (s.twRecover t freedAt).settle
    else .next (s.updTw t (fun x => { x with retryAt := some (s.ct + ms 100) }))
  | none => .next s

/-- TW_ATTENTION (R581, R582): the alert response address answered with `addr`, or nobody did. One read serves an
SMBALERT# edge of the same cycle too, and a bus found stuck in this cycle gives no attention (R589). -/
def execTwAttention (t : Fin 8) (addr : Option (BitVec 7)) (s : State) : Out3 :=
  if !s.twCtl t ∨ !s.is (TW_CTRL_attn_det t) ∨ 2 ≤ s.get (TW_STATUS_bus t) ∨ (s.tw t).recAt = some s.ct then .next s else
  let s := s.updTw t (fun x => { x with
    araAt := some s.ct, jobs := if x.alertAt = some s.ct then x.jobs.filter (fun j => decide (j.1 ≠ 255)) else x.jobs })
  let a := (addr.map (·.toNat)).getD 0
  let s := ((s.setF (TW_ATTN_addr t) a).count (TW_CNT_ATTN_v t)).flag (TW_STATUS_attn_seen t)
  let (s, known) := if addr.isSome then s.twAlert t a else (s, false)
  .next (if known then s else s.event afMb 0x0508 (leBytes 1 t ++ leBytes 1 a))

/-! ### As target -/

/-- A field of TW_TADDR. -/
def State.taddr (s : State) (t : Nat) (i : Nat) : Nat × Bool :=
  let w := s.word (aTW_TADDR t)
  (w.bits (8 * i + 6) (8 * i), w.bit (8 * i + 7))

/-- The addresses a target port recognises (R584). -/
def State.recognised (s : State) (t : Nat) (a : BitVec 7) : Bool :=
  if a.toNat < 8 ∨ 0x78 ≤ a.toNat then false
  else if s.is (TW_CTRL_mask_mode t) then
    decide ((a ^^^ BitVec.ofNat 7 (s.taddr t 0).1) &&& BitVec.ofNat 7 (s.taddr t 1).1 = 0)
  else (List.range 4).any (fun i => (s.taddr t i).2 && decide ((s.taddr t i).1 = a.toNat))

/-- The target map (R585). -/
def State.targetMap (s : State) (code : Nat) : Word :=
  match code with
  | 0 => BitVec.ofNat 32 (0x8192 + 2 ^ 16 * Config.stepping.toNat + 2 ^ 24 * s.level_)
  | 1 => BitVec.ofNat 32 (s.unit + 8 * s.pos + 16 * s.get PAIR_CFG_home)
  | 2 => BitVec.ofNat 32 (s.get BUS_V_bus_mv)
  | 3 => s.word aHU_LOAD
  | 4 => s.word aHU_STATUS
  | 5 => s.word aBATT_CHASSIS
  | 6 => s.word aFLT_STATUS
  | 7 => s.word aTHM_STATUS
  | 8 => s.word aCHASSIS_PWR
  | _ => 0

/-- Whether a port answers as a target: in its role, in a unit that is not dormant (R587), and loaded (R588). -/
def State.twServes (s : State) (t : Nat) : Bool :=
  s.twRole t = 2 && decide (s.unit ≠ 0) && !s.rst.held && !(s.tw t).roleWait

/-- TW_ATTN_ASSERT (R583): SDA low for 50 µs, again every 1 s until code 0x06 is read. -/
def execTwAttnAssert (t : Fin 8) (s : State) : Out3 :=
  if s.twServes t ∧ s.is (TW_CTRL_attn_en t) ∧ (s.tw t).attnPending ∧ (s.tw t).attnAt ≤ s.ct then
    .next ((s.updTw t (fun x => { x with attnAt := s.ct + sec 1 })).emit (.twAttention t))
  else .next s

/-- A transaction to a recognised address is answered or, while the port waits for its role, NACKed (R587, R588). -/
def State.twTarget (s : State) (t : Nat) (a : BitVec 7) (f : State → State) : State :=
  if s.twRole t ≠ 2 ∨ !s.recognised t a then s
  else if s.unit = 0 then (if (s.tw t).roleWait then s.emit (.twNack t) else s)
  else if s.rst.held then s.emit (.twNack t)
  else
    let s := s.setF (TW_STATUS_last_addr t) a.toNat
    if s.twServes t then f s else s.emit (.twNack t)

/-- TW_TARGET_READ (R585): the word is taken whole; code 0x06 ends a pending attention (R583). -/
def execTwTargetRead (t : Fin 8) (addr : BitVec 7) (code : Byte) (s : State) : Out3 :=
  .next (s.twTarget t addr (fun s =>
    let v := s.targetMap code.toNat
    let s := if code.toNat = 6 then s.updTw t (fun x => { x with attnPending := false }) else s
    s.emit (.twData t v)))

/-- TW_TARGET_WRITE (R586): NACKed at its data byte, without effect. -/
def execTwTargetWrite (t : Fin 8) (addr : BitVec 7) (_code _data : Byte) (s : State) : Out3 :=
  .next (s.twTarget t addr (fun s => s.emit (.twNack t)))

/-- TW_TARGET_TIMEOUT (R578): the target lets go of the bus; the event is counted, no fault is raised. -/
def execTwTargetTimeout (t : Fin 8) (s : State) : Out3 :=
  if s.twServes t then .next ((s.count (TW_CNT_STRETCH_v t)).flag (TW_STATUS_stretch_seen t)) else .next s

/-- TW_WAKE (R587, R624): the transaction is NACKed, and the dormant unit starts to leave dormant. -/
def execTwWake (t : Fin 8) (addr : BitVec 7) (s : State) : Out3 :=
  if s.unit = 0 ∧ s.rst.dormantWhy ≠ 0 ∧ s.twRole t = 2 ∧ s.is (TW_CTRL_wake_en t) ∧ s.recognised t addr then
    -- a second START before the role is loaded is NACKed and wakes nothing more (R588, R589)
    if (s.tw t).roleWait then .next (s.emit (.twNack t)) else
    let s := (s.emit (.twNack t)).flag (TW_STATUS_wake_seen t)
    -- after the third safe stop only a short press ends dormant (R538)
    .next (if s.rst.dormantWhy = 2 then s else (s.updTw t (fun x => { x with roleWait := true })).wake 9)
  else .next s

end Sys2Proof.Machine
end

