-- ==== Sys2Proof/Machine/Trust.lean ====
section
/-! DEFINITION. Trust, entropy and firmware update (R590 to R618): flash images and banks, the boot check, the
DRBG and its consumers, keys, staging, activation, confirmation, fallback and hub images. -/
namespace Sys2Proof.Machine

/-! ### Flash (R590, R591) -/

def State.setFlash (s : State) (d : Nat) (m : List Host.Cell) : State :=
  if d = 0 then { s with flash0 := m } else { s with flash1 := m }
/-- The bytes of a range erased. -/
def State.flashErase (s : State) (d a n : Nat) : State :=
  s.setFlash d ((s.flash d).filter (fun c => decide (c.1 < a ∨ a + n ≤ c.1)))
def State.flashWrite (s : State) (d a : Nat) (b : List Byte) : State := s.setFlash d (Mem.writeBytes flashBlank (s.flash d) a b)

/-- Image slot A is on XSPI0 and B on XSPI1: the header, and a slot with any byte written. -/
def slotBytes : Nat := 33554432
def State.imgHeader (s : State) (slot : Nat) : List Byte := s.flashRead slot 0 256
def State.imgAny (s : State) (slot : Nat) : Bool := (s.flash slot).any (fun c => decide (c.1 < slotBytes))
/-- FW_VER words of a header. -/
def verWord (h : List Byte) : Nat := u32 h 4 % 2 ^ 24 + 2 ^ 24 * u8 h 8

/-! ### Pattern banks (R591) -/

/-- CRC-32C of `n` bytes of a memory from `a`. -/
def crcGo (d : Byte) (m : List Host.Cell) : Nat → Nat → Word → Word
  | _, 0, c => ~~~ c
  | a, n + 1, c => crcGo d m (a + 1) n (crcByte c (Mem.read d m a))
/-- The CRC of a bank, of all its bytes before the CRC itself (log 36). -/
def State.bankCrc (s : State) (d b : Nat) : Word := crcGo flashBlank (s.flash d) (bankBase b) (bankBytes - 4) 0xFFFFFFFF#32
def State.bankTrailer (s : State) (d b : Nat) : List Byte := s.flashRead d (bankBase b + bankBytes - 16) 16
def State.bankAny (s : State) (d b : Nat) : Bool :=
  (s.flash d).any (fun c => decide (bankBase b ≤ c.1 ∧ c.1 < bankBase b + bankBytes))
/-- A bank whose CRC passes; an erased bank's does not. -/
def State.bankGood (s : State) (d b : Nat) : Bool :=
  s.bankAny d b && decide ((s.bankCrc d b).toNat = u32 (s.bankTrailer d b) 12)
/-- The device that holds a good copy of a bank. -/
def State.bankOn (s : State) (b : Nat) : Option Nat := [0, 1].find? (fun d => s.bankGood d b)
/-- The newer good bank with its device. -/
def State.newBank (s : State) : Option (Nat × Nat) :=
  match s.bankOn 0, s.bankOn 1 with
  | some d, none => some (d, 0)
  | none, some e => some (e, 1)
  | some d, some e =>
    if newer (u32 (s.bankTrailer e 1) 4) (u32 (s.bankTrailer d 0) 4) then some (e, 1) else some (d, 0)
  | none, none => none
/-- The bank PATTERN_WRITE writes. -/
def State.oldBank (s : State) : Nat :=
  match s.newBank with
  | some (_, b) => 1 - b
  | none => 0
/-- A bank's trailer written with a format and a sequence, and its CRC, on both devices. -/
def State.putTrailer (s : State) (b fmt seq : Nat) : State :=
  [0, 1].foldl (fun (s : State) (d : Nat) =>
    let at_ := bankBase b + bankBytes - 16
    let s := (s.flashWrite d at_ (leBytes 2 fmt)).flashWrite d (at_ + 4) (leBytes 4 seq)
    s.flashWrite d (at_ + 12) (leBytes 4 (s.bankCrc d b).toNat)) s

/-! ### The check of an image (R592, R612) -/

/-- The first check an image fails, by FW_VERIFY's codes: 1 magic or signature, 2 security version, 3 level range,
5 length, 4 pattern format; none when it passes. -/
def State.imgFails (s : State) (slot : Nat) : Option Nat :=
  let h := s.imgHeader slot
  let len := u32 h 16
  if u32 h 0 ≠ 0x4D4C3831 then some 1
  else if !Config.signatureOk (h ++ s.flashRead slot 256 (Nat.min len (slotBytes - 256))) then some 1
  else if u8 h 8 < s.trust.fusedSec then some 2
  else if s.trust.pinNext ≠ 0 ∧ (s.trust.pinNext < u8 h 9 ∨ u8 h 10 < s.trust.pinNext) then some 3
  else if len = 0 ∨ slotBytes - 256 < len then some 5
  else match s.newBank with
    | some (d, b) => if u16 h 12 < u16 (s.bankTrailer d b) 0 then some 4 else none
    | none => none

/-! ### Registers of the images -/

def State.slotState (s : State) (slot : Nat) : Nat :=
  if slot = 0 then s.get FW_SLOTS_state_a else s.get FW_SLOTS_state_b
def State.setSlotState (s : State) (slot v : Nat) : State :=
  if slot = 0 then s.setF FW_SLOTS_state_a v else s.setF FW_SLOTS_state_b v

/-- FW_VER_RUN, FW_VER_OTHER and FW_SLOTS follow the slots. -/
def State.pubFw (s : State) : State :=
  let t := s.trust
  let o := 1 - t.image
  let s := (s.putWord aFW_VER_RUN (BitVec.ofNat 32 (verWord (s.imgHeader t.image)))).putWord aFW_VER_OTHER
    (BitVec.ofNat 32 (if s.slotState o = 0 then 0 else verWord (s.imgHeader o)))
  ((s.setF FW_SLOTS_fused_sec t.fusedSec).setF FW_SLOTS_pinned t.pinned).setF FW_SLOTS_pin_next t.pinNext

/-- On trial: the running slot is the one the selector tries. -/
def State.onTrial (s : State) : Bool := decide (s.trust.trialSlot = some s.trust.image)
/-- FW_STATUS with its running counts of seconds. -/
def State.fwStatus (s : State) : Word :=
  let secs := fun (o : Option Nat) (top : Nat) => match o with
    | some t => Nat.min top ((s.ct - t) / sec 1)
    | none => 0
  ((s.word aFW_STATUS).withBits 14 5 (if s.onTrial then secs s.trust.trialAt 1023 else 0)).withBits 21 15
    (if s.onTrial then secs s.trust.heldSince 127 else 0)

/-! ### Keys and the DRBG (R82, R86, R596 to R603) -/

/-- The 64 bytes of a holder's key for AES-256 in XTS mode (R81, R82). -/
def State.keyOf (s : State) (h : Nat) : Option (List Byte) :=
  (s.mbx h).key.map (fun n => (List.range 64).map (fun i => Config.drbgByte (n + i)))

/-- A holder's key is created from the DRBG (R82): the next generation (R601), with its wrapped copies on the dies in
service (R83). -/
def State.newKey (s : State) (h : Nat) : State :=
  let n := s.trust.drbgN
  (s.updMbx h (fun m => { m with
    keyCount := (m.keyCount + 1) % 65536, keyGen := some ((m.keyCount + 1) % 65536), key := some n,
    wrap0 := if s.nvLost 0 then none else some n, wrap1 := if s.nvLost 1 then none else some n })).updTrust
    (fun t => { t with keyBad := t.keyBad.filter (· ≠ h), requests := t.requests + 1, drbgN := n + 64 })

/-- A consumer is served. -/
def State.serve (s : State) (c : Consumer) : State :=
  match c with
  | .viKey mb k v =>
    let s := (s.newKey v).updMbx v (fun m => { m with viGen := (m.viGen + 1) % 65536 })
    -- a virtual function enabled again is a new assignment (R88)
    let s := { s with vfOff := s.vfOff.filter (· ≠ v) }
    let s := (s.setB (VI_STATUS_assigned v) true).setF (VI_ID_vi_gen v) (s.mbx v).viGen
    s.finish mb k 0 0 ((s.mbx v).viGen + 65536 * s.keyGenOf v)
  | .keyFix h => s.newKey h
  | .random mb k n =>
    let b := (List.range n).map (fun i => Config.drbgByte (s.trust.drbgN + i))
    let s := (s.slotWrite mb k b).updTrust (fun t => { t with drbgN := t.drbgN + n, requests := t.requests + 1 })
    s.finish mb k 0 0 n

/-- Every waiting consumer is told that the DRBG has failed; a key that must be replaced waits on (log 37). -/
def State.starve (s : State) (c : Consumer) : State :=
  match c with
  | .viKey mb k _ => s.finish mb k 8 0 0
  | .keyFix _ => s
  | .random mb k _ => s.finish mb k 8 0 0

/-- A consumer arrives (R598, R599). -/
def State.consume (s : State) (c : Consumer) : State :=
  if s.get SEC_STATUS_drbg = 1 then s.serve c
  -- after a passing re-test a consumer waits for the new instantiation (R617)
  else if s.get SEC_STATUS_drbg = 3 ∧ s.trust.instAt.isNone then s.starve c
  else match c, decide (512 ≤ s.trust.queue.length) with
  | .keyFix _, true => s
  | _, _ => (s.updTrust (fun t => { t with queue := t.queue ++ [c] })).pubDrbg
/-- The entropy queue is full. -/
def State.entropyBusy (s : State) : Option Nat :=
  if s.get SEC_STATUS_drbg ≠ 1 ∧ !(s.get SEC_STATUS_drbg = 3 ∧ s.trust.instAt.isNone) ∧ 512 ≤ s.trust.queue.length then some 4 else none

/-- ENTROPY_TEST_FAIL (R595, R597): a failing test withholds the output at once and starts a re-test. -/
def execEntropyTestFail (src : Fin 2) (apt : Bool) (s : State) : Out3 :=
  if s.rst.held ∨ s.unit = 0 then .next s else
  let s := (s.count (if apt then SEC_CNT_APT_v else SEC_CNT_RCT_v)).flag SEC_STATUS_entropy_seen
  let s := s.setF SEC_STATUS_src_ok (s.get SEC_STATUS_src_ok - (if (s.get SEC_STATUS_src_ok).testBit src then 2 ^ src.val else 0))
  let s := s.updTrust (fun t => { t with instAt := none, failing := t.failing.filter (· ≠ src.val) ++ [src.val] })
  let s := if s.get SEC_STATUS_drbg < 2 then s.setF SEC_STATUS_drbg 2 else s
  let s := if s.trust.retestAt.isSome then s else
    (s.setF SEC_STATUS_retest_fail 0).updTrust (fun t => { t with retestAt := some (src.val, s.ct + us 10240) })
  .next (s.level .secEntropy 0 true).settle

/-- ENTROPY_RETEST_DONE (R597, R599, R600); a second failing source is re-tested after the first. -/
def execEntropyRetestDone (pass : Bool) (s : State) : Out3 :=
  match s.trust.retestAt with
  | none => .next s
  | some (src, t) =>
    if s.ct < t then .next s
    else if pass then
      let s := (s.setF SEC_STATUS_src_ok (s.get SEC_STATUS_src_ok % 4 ||| 2 ^ src)).setF SEC_STATUS_retest_fail 0
      let s := s.updTrust (fun x => { x with failing := x.failing.filter (· ≠ src) })
      match s.trust.failing with
      | other :: _ => .next (s.updTrust (fun x => { x with retestAt := some (other, s.ct + us 10240) }))
      | [] => .next ((s.updTrust (fun x => { x with retestAt := none, instAt := some s.ct })).gone .secEntropy 0)
    else
      let n := Nat.min 3 (s.get SEC_STATUS_retest_fail + 1)
      let s := (s.count SEC_CNT_RETEST_v).setF SEC_STATUS_retest_fail n
      let s := s.updTrust (fun x => { x with retestAt := some (src, s.ct + us 10240) })
      if n = 3 ∧ s.get SEC_STATUS_drbg = 2 then
        let q := s.trust.queue
        let s := ((s.setF SEC_STATUS_drbg 3).updTrust (fun x => { x with queue := [] })).pubDrbg
        .next (q.foldl (fun s c => s.starve c) s)
      else .next s

/-- DRBG_INSTANTIATE_DONE (R596, R600): healthy, from 1,024 samples of each source, at one a µs; the waiting consumers are
served in order, then lost keys. -/
def execDrbgInstantiateDone (s : State) : Out3 :=
  if s.trust.instAt.all (fun t => decide (s.ct < t + us 1024)) then .next s else
  let s := ((s.setF SEC_STATUS_drbg 1).setF SEC_STATUS_src_ok 3).updTrust (fun t => { t with
    instAt := none, reseedAt := s.ct + sec 1, requests := 0 })
  let q := s.trust.queue
  let s := (s.updTrust (fun t => { t with queue := [] })).pubDrbg
  let s := q.foldl (fun s c => s.serve c) s
  .next (s.trust.keyBad.foldl (fun s h => s.newKey h) s)

/-- DRBG_RESEED (R596). -/
def execDrbgReseed (s : State) : Out3 :=
  if s.get SEC_STATUS_drbg = 1 ∧ (s.trust.reseedAt ≤ s.ct ∨ 65536 ≤ s.trust.requests) then
    .next (s.updTrust (fun t => { t with reseedAt := s.ct + sec 1, requests := 0 }))
  else .next s

/-- KEY_PARITY_ERROR (R602): the key comes back from its wrapped copy in NV0, or in NV1, or is created anew. -/
def execKeyParityError (h : Mb) (s : State) : Out3 :=
  if (s.mbx h).keyGen.isNone ∨ s.rst.held ∨ s.unit = 0 then .next s else
  let s := (s.flag SEC_STATUS_key_seen).raise .secKey 0
  match s.wrapped h with
  | some n => .next (s.updMbx h (fun m => { m with key := some n })).settle
  | none =>
    let s := s.updTrust (fun t => { t with keyBad := t.keyBad.filter (· ≠ h.val) ++ [h.val] })
    .next (s.consume (.keyFix h)).settle

/-! ### Boot (R592, R593, R607 to R609) -/

/-- Every holder reads the level in force (R89). -/
def State.pubLevel (s : State) : State :=
  (List.range 257).foldl (fun s v => s.setF (VI_ID_if_level v) s.level_) (s.setF ID_IF_if_level s.level_)

/-- The state of a slot as the image finds it: the running one verified, another rejected, staged or empty (log 38). -/
def State.foundState (s : State) (slot : Nat) : Nat :=
  if slot = s.trust.image then 2 else if s.trust.rejected.contains slot then 3 else if s.imgAny slot then 1 else 0

/-- An image runs: the level in force, FW_STATUS and FW_SLOTS, the security block's start, and the causes kept
from before (R593, R601, R609, R614). -/
def State.imageRuns (s : State) (slot : Nat) : State :=
  let h := s.imgHeader slot
  let s := s.updTrust (fun t => { t with
    image := slot, ifMin := u8 h 9, ifMax := u8 h 10, pinned := t.pinNext, bootRetryAt := none, heldSince := none,
    -- the DRBG's samples follow a passing start-up test of 10,240 samples (R596, R597)
    trialSlot := if t.trialSlot = some slot then t.trialSlot else none, instAt := some (s.ct + us 10240) })
  let s := (s.setF ID_IF_if_max s.trust.ifMax).setF ID_IF_if_min s.trust.ifMin
  let s := (s.setF FW_STATUS_slot slot).setB FW_STATUS_plan (decide (s.trust.planStep ≠ 0))
  let s := ((s.setSlotState slot 2).setSlotState (1 - slot) (s.foundState (1 - slot))).setB FW_STATUS_trial s.onTrial
  let s := ((s.setF RST_STATUS_phase 1).updRst (fun r => { r with imageAt := s.ct })).pubFw
  let s := s.pubLevel
  let s := if (s.mbx afMb).keyGen.isNone then s.consume (.keyFix afMb) else s
  let s := (s.trust.keyBad.filter (· ≠ afMb)).foldl (fun s h => s.consume (.keyFix h)) s
  let s := if s.rst.bootCause ≠ 0 then (s.updRst (fun r => { r with bootCause := 0 })).level .secBoot 0 true else s.setB FLT_STATUS_fault_n false
  if s.trust.fellBack then
    ((s.flag FW_STATUS_fallback_seen).level .fwFallback 0 true).updTrust (fun t => { t with fellBack := false })
  else s

/-- The boot ROM's check of the selected slot, and of the other when it fails. -/
def State.bootTry (s : State) : State :=
  let first := s.trust.trialSlot.getD s.trust.selector
  let bad := fun (s : State) (slot : Nat) => if slot = 0 then s.setF FW_STATUS_boot_fail_a 1 else s.setF FW_STATUS_boot_fail_b 1
  let s := (s.setF FW_STATUS_boot_fail_a 0).setF FW_STATUS_boot_fail_b 0
  if (s.imgFails first).isNone then s.imageRuns first
  else
    let s := bad s first
    let other := 1 - first
    if (s.imgFails other).isNone then s.imageRuns other
    else
      let s := (bad s other).setB FLT_STATUS_fault_n true
      (s.updRst (fun r => { r with bootCause := 1 })).updTrust (fun t => { t with bootRetryAt := some (s.ct + sec 10) })

/-- SECURE_BOOT (R592, R593): after leaving reset, while the boot ROM runs. -/
def execSecureBoot (s : State) : Out3 :=
  if s.unit = 1 ∧ !s.rst.held ∧ s.get RST_STATUS_phase = 0 ∧ s.trust.bootRetryAt.isNone then .next s.bootTry.settle else .next s

/-- BOOT_RETRY (R593): every 10 s while both slots fail. -/
def execBootRetry (s : State) : Out3 :=
  match s.trust.bootRetryAt with
  | some t => if s.unit = 1 ∧ !s.rst.held ∧ t ≤ s.ct then .next s.bootTry.settle else .next s
  | none => .next s

/-! ### Activation, confirmation and fallback (R605 to R609) -/

def State.planEnd (s : State) : State :=
  (s.updTrust (fun t => { t with planAt := none, planStep := 0 })).setB FW_STATUS_plan false
def State.planEvent (s : State) (step : Nat) : State := s.event afMb 0x0509 (leBytes 1 step)

/-- The unit restarts into its other slot on trial (R605 steps 1 and 4, R607). -/
def State.toTrial (s : State) (step : Nat) : State :=
  let s := s.updTrust (fun t => { t with trialSlot := some (1 - t.image), trialAt := some s.ct, planAt := none, planStep := step })
  let z := s.restart 5
  z.updTrust (fun t => { t with planStep := step })

/-- The trial slot is rejected and the selector names the previous one (R609). -/
def State.reject (s : State) : State :=
  s.updTrust (fun t => { t with
    rejected := (t.rejected.filter (· ≠ t.image)) ++ [t.image], selector := 1 - t.image, trialSlot := none, trialAt := none,
    fellBack := true, planAt := none, planStep := 0 })

/-- FW_PLAN_START (R605 to R607, R617): T_a, and each later step of a plan when its condition holds. planStep is 0
before T_a, 1 while the active unit waits for the restarted one, 2 on the restarted unit, 3 during the transit,
4 while the new active unit waits for the other: it must have left the link and returned, within 900 s. -/
def execFwPlanStart (s : State) : Out3 :=
  let waiting := fun (step : Nat) (s : State) =>
    s.updTrust (fun x => { x with planStep := step, planAt := some s.ct, planGone := false })
  match s.trust.planStep, s.trust.planAt with
  | 0, some t =>
    if s.ct < t then .next s
    else if s.pair.transitAt.isSome then .next s.planEnd
    else if s.trust.planScope = 1 ∨ !s.pair.partner then .next (s.toTrial 0)
    else if s.active then .next (waiting 1 (s.planEvent 1))
    else .next (s.toTrial 2)
  | 1, some t =>
    if t + sec 900 ≤ s.ct then .next s.planEnd
    else if s.trust.planGone ∧ s.partnerReady ∧ s.transitOk then
      let s := (s.planEvent 2).startTransit (s.ct + us 100)
      .next ((s.planEvent 3).updTrust (fun x => { x with planStep := 3 }))
    else .next s
  | 2, _ => .next (if s.active then waiting 4 (s.setB FW_STATUS_plan true) else s)
  | 3, _ =>
    if s.unit = 3 then .next ((s.planEvent 4).toTrial 0)
    else if s.pair.transitAt.isNone then .next s.planEnd
    else .next s
  | 4, some t =>
    .next (if s.trust.planGone ∧ s.partnerReady then (s.planEvent 5).planEnd
      else if t + sec 900 ≤ s.ct then s.planEnd else s)
  | _, _ => .next s

/-- Whether the unit holds control (R608). -/
def State.holds (s : State) : Bool :=
  s.active || (decide (s.unit = 3) && s.is PAIR_STATUS_covered_all &&
    s.skeins.all (fun x => !x.2.known || x.2.inStep || (s.bound x.1).isEmpty))

/-- Migration at confirmation (R613): the pattern is written in the running image's format to the older bank on both
devices, when its format is older. The formats' bytes are not in the manual: the body is kept (log 39). -/
def State.migrate (s : State) : State :=
  match s.newBank with
  | none => s
  | some (d, b) =>
    let fmt := u16 (s.imgHeader s.trust.image) 12
    let tr := s.bankTrailer d b
    if fmt ≤ u16 tr 0 then s else
    let o := 1 - b
    let body := (s.flash d).filterMap (fun c =>
      if bankBase b ≤ c.1 ∧ c.1 < bankBase b + bankBytes then some (c.1 - bankBase b, c.2) else none)
    let s := [0, 1].foldl (fun (s : State) (e : Nat) =>
      let s := s.flashErase e (bankBase o) bankBytes
      s.setFlash e (body.foldl (fun (m : List Host.Cell) (c : Nat × Byte) => Mem.write flashBlank m (bankBase o + c.1) c.2) (s.flash e))) s
    s.putTrailer o fmt (u32 tr 4 + 1)

/-- The conditions of a confirmation hold: 60 s of held control within 900 s of the restart. -/
def State.mayConfirm (s : State) : Bool :=
  match s.trust.trialAt, s.trust.heldSince with
  | some t, some h => s.onTrial && decide (h + sec 60 ≤ s.ct ∧ s.ct ≤ t + sec 900) && s.holds
  | _, _ => false
def State.confirm (s : State) : State :=
  let s := s.updTrust (fun x => { x with
    selector := x.image, trialSlot := none, trialAt := none,
    fusedSec := Nat.max x.fusedSec (u8 (s.imgHeader x.image) 8 % 64) })
  let s := ((s.setB FW_STATUS_trial false).flag FW_STATUS_confirm_seen).gone .fwFallback 0
  s.migrate.pubFw

/-- FW_CONFIRM (R594, R608, R613). -/
def execFwConfirm (s : State) : Out3 := .next (if s.mayConfirm then s.confirm else s)

/-- FW_TRIAL_TIMEOUT (R609); a confirmation due in the same cycle comes first (R617). -/
def execFwTrialTimeout (s : State) : Out3 :=
  match s.trust.trialAt with
  | some t => 
    if s.onTrial ∧ t + sec 900 ≤ s.ct then .next (if s.mayConfirm then s.confirm else s.reject.restart 6) else .next s
  | none => .next s

/-! ### Commands (R618) -/

/-- FW_QUERY (0x0F01). -/
def execFwQuery (mb : Mb) (k : Fin 64) (s : State) : Out3 :=
  .next (s.command mb k 0x0F01 (fun _ _ => {}) (fun s _ =>
    s.finish mb k 0 (s.fwStatus.bits 15 0) ((s.word aFW_VER_RUN).toNat + 2 ^ 32 * (s.word aFW_VER_OTHER).toNat)))

/-- The checks of a write at an offset of a region of `size` bytes. -/
def writeBad (p : List Byte) (size : Nat) : List (Nat × Bool) :=
  [(0, decide (u32 p 0 % 16 ≠ 0 ∨ size < u32 p 0 + u16 p 4)), outside 4 (u16 p 4) 1 224]

/-- FW_WRITE (0x0F02, R604). -/
def execFwWrite (mb : Mb) (k : Fin 64) (s : State) : Out3 :=
  .next (s.command mb k 0x0F02
    (fun s p => {
        bad := writeBad p slotBytes,
        busy := if s.planOn then some 5 else if s.onTrial then some 6 else none })
    (fun s p =>
      let o := 1 - s.trust.image
      let s := if u32 p 0 = 0 then
          ((s.flashErase o 0 slotBytes).setSlotState o 1).updTrust (fun t => { t with rejected := t.rejected.filter (· ≠ o) })
        else s
      ((s.flashWrite o (u32 p 0) ((p.drop 16).take (u16 p 4))).pubFw).okay mb k))

/-- FW_VERIFY (0x0F03, R604): a staged slot that passes is verified. -/
def execFwVerify (mb : Mb) (k : Fin 64) (s : State) : Out3 :=
  .next (s.command mb k 0x0F03
    (fun s _ => { busy := if s.planOn then some 5 else if s.onTrial then some 6 else none })
    (fun s _ =>
      let o := 1 - s.trust.image
      match s.imgFails o with
      | some f => s.finish mb k 9 f 0
      | none => (if s.slotState o = 1 then s.setSlotState o 2 else s).okay mb k))

/-- What both units hold for a pair's activation (R605): the partner's slot is not seen on the link (log 40). -/
def State.activateBusy (s : State) (scope : Nat) : Option Nat :=
  if s.planOn ∨ s.pair.transitAt.isSome then some 5
  else if scope = 0 ∧ s.pair.partner ∧
      (s.slotState (1 - s.trust.image) ≠ 2 ∨ !s.partnerReady ∨ !s.hupNormal ∨
        !Config.partnerHolds (s.word aFW_VER_OTHER)) then some 6
  else none

/-- A plan enters force. -/
def State.applyActivate (s : State) (p : List Byte) : State :=
  let ta := if u64 p 0 = 0 then s.ct + sec 1 else u64 p 0
  (s.updTrust (fun t => { t with planAt := some ta, planScope := u8 p 8, planStep := 0 })).setB FW_STATUS_plan true

/-- FW_ACTIVATE (0x0F04). -/
def execFwActivate (mb : Mb) (k : Fin 64) (s : State) : Out3 :=
  .next (s.command mb k 0x0F04
    (fun s p => {
        bad := [(0, decide (u64 p 0 ≠ 0 ∧ u64 p 0 < s.ct + sec 1)), outside 8 (u8 p 8) 0 1], busy := s.activateBusy (u8 p 8) })
    (fun s p => (s.applyActivate p).okay mb k))

/-- FW_REVERT (0x0F05): the completion, then the fallback at the next fabric cycle. -/
def execFwRevert (mb : Mb) (k : Fin 64) (s : State) : Out3 :=
  .next (s.command mb k 0x0F05
    (fun s _ => { busy := if s.onTrial then none else some 6 })
    (fun s _ => (s.okay mb k).reject.updRst (fun r => { r with restartAt := some (s.ct, 6) })))

/-- The pinned level of the next restart, kept in region 0. -/
def State.applyPin (s : State) (p : List Byte) : State :=
  ((s.updTrust (fun t => { t with pinNext := u8 p 0 })).keep 12 0 p).pubFw

/-- FW_PIN_LEVEL (0x0F06). -/
def execFwPinLevel (mb : Mb) (k : Fin 64) (s : State) : Out3 :=
  .next (s.command mb k 0x0F06
    (fun s p => { bad := [(0, decide (u8 p 0 ≠ 0 ∧ (u8 p 0 < s.trust.ifMin ∨ Nat.min 3 s.trust.ifMax < u8 p 0)))] })
    (fun s p => (s.applyPin p).okay mb k))

/-- SEC_RANDOM (0x0F10). -/
def execSecRandom (mb : Mb) (k : Fin 64) (s : State) : Out3 :=
  .next (s.command mb k 0x0F10
    (fun s p => { bad := [outside 0 (u8 p 0) 1 32], busy := s.entropyBusy })
    (fun s p => s.consume (.random mb k (u8 p 0))))

/-- SEC_QUERY (0x0F11). -/
def execSecQuery (mb : Mb) (k : Fin 64) (s : State) : Out3 :=
  .next (s.command mb k 0x0F11 (fun _ _ => {}) (fun s _ => s.finish mb k 0 0 (s.word aSEC_STATUS).toNat))

/-- HUB_FW_WRITE (0x0F20, R610): the staging buffer of 4 MiB. -/
def State.applyHubWrite (s : State) (p : List Byte) : State :=
  let s := if u32 p 0 = 0 then { s with hubStage := [] }.updTrust (fun t => { t with hubLen := 0 }) else s
  ({ s with hubStage := Mem.writeBytes Mem.blank s.hubStage (u32 p 0) ((p.drop 16).take (u16 p 4)) }).updTrust
    (fun t => { t with hubLen := Nat.max t.hubLen (u32 p 0 + u16 p 4) })
def execHubFwWrite (mb : Mb) (k : Fin 64) (s : State) : Out3 :=
  .next (s.command mb k 0x0F20 (fun _ p => { bad := writeBad p 4194304 }) (fun s p => (s.applyHubWrite p).okay mb k))

/-- HUB_FW_ACTIVATE (0x0F21, R610): the image goes to each named slot on BULK stream 5. -/
def State.applyHubActivate (s : State) (p : List Byte) : State :=
  let l := (List.range 64).filter (fun n => (u64 p 0).testBit n)
  let s := s.updTrust (fun t => { t with hubMask := BitVec.ofNat 64 (u64 p 0), hubAt := u64 p 8, hubLeft := l })
  let image := Mem.readBytes Mem.blank s.hubStage 0 s.trust.hubLen
  l.foldl (fun s n => s.emit (.bulk (.port (Fin.ofNat 64 n)) 5 0 true image)) s
def execHubFwActivate (mb : Mb) (k : Fin 64) (s : State) : Out3 :=
  .next (s.command mb k 0x0F21
    (fun s p => {
        bad := [(8, decide (u64 p 8 < s.ct + sec 1))],
        busy := if s.trust.hubMask ≠ 0 ∨ !s.trust.hubLeft.isEmpty then some 2 else none })
    (fun s p => (s.applyHubActivate p).okay mb k))

/-- Whether cells of the hub image still wait or are not yet acknowledged. -/
def Reliable.sendsImage (r : Reliable) : Bool :=
  let image := fun (o : Out) => match o with
    | .bulk _ 5 _ _ _ => true
    | _ => false
  r.backlog.any (fun x => image x.2) || r.unacked.any (fun c => image c.cell)

/-- HUB_FW_DELIVERED (R610): EVENT 0x0600 with T_h, once the image is delivered. -/
def execHubFwDelivered (n : Fin 64) (s : State) : Out3 :=
  if s.trust.hubLeft.contains n.val && !(s.port n).rel.sendsImage then
    let s := s.updTrust (fun t => { t with hubLeft := t.hubLeft.filter (· ≠ n.val) })
    .next (s.emit (.event (.port n) 0x0600 (evAt (s.trust.hubAt % 2 ^ 64) 128)))
  else .next s

/-- HUB_FW_REPORT_TIMEOUT (R611): no version within 10 s of T_h. -/
def execHubFwReportTimeout (n : Fin 64) (s : State) : Out3 :=
  if s.trust.hubMask.getLsbD n ∧ s.trust.hubAt + sec 10 ≤ s.ct then
    let s := s.updTrust (fun t => { t with hubMask := t.hubMask &&& ~~~(BitVec.ofNat 64 (2 ^ n.val)), hubLeft := t.hubLeft.filter (· ≠ n.val) })
    .next (s.event afMb 0x0509 (leBytes 1 6 ++ leBytes 1 n))
  else .next s

end Sys2Proof.Machine
end

