-- ==== Sys2Proof/Machine/Start.lean ====
section
/-! DEFINITION. Start-up, restart and reset (R619 to R640, R690, R691): the pattern and settings a start loads, the
pair decision, binding at start-up, and the commands of the reset domain. -/

/-- What a pattern bank holds. The byte format of a bank is not in the manual (log 9). -/
opaque Sys2Proof.Config.bankPattern : List Sys2Proof.Byte → Sys2Proof.Machine.Pattern

namespace Sys2Proof.Machine

/-! ### The pattern (R22, R111, R342, R373, R406, R440, R571, R591) -/

/-- The stitches of an entry, in ascending local id: those of its one slot (R20, R112). -/
def PatSkein.stitchIds (p : PatSkein) : List Nat := (List.range 128).filter p.stitches.contains

/-- A skein as its pattern entry describes it: of 1 to 128 stitches that no other skein holds (R20). -/
def State.installSkein (s : State) (p : PatSkein) : State :=
  let mine := p.stitchIds.filter (fun l => !(s.slotSkeins p.slot).any (fun k => decide (k ≠ p.id) && (s.sk k).stitches.contains l))
  let s := s.updSk p.id (fun _ => {
    known := !mine.isEmpty, slot := p.slot, stitches := mine, law := p.law, gtab := p.gtab, idxShift := p.idxShift,
    sched := p.sched, lim := p.lim, target := p.target, slew := p.lim.slew, offset := p.offset,
    interleave := p.interleave, samples := p.samples, carrier := p.carrier, hz := p.hz, rates := p.rates, holdCfg := p.hold })
  ({ s with rails := Tbl.put s.rails p.id p.rail }).pubSkein p.id

/-- A meridian as the pattern sets it: its MER_CFG word, step, fraction and ratio (R132). -/
def State.installMer (s : State) (m : Nat) (x : Nat × Nat × Nat × Nat) : State :=
  let s := ((s.putWord (aMER_CFG m) (BitVec.ofNat 32 x.1)).setF (MER_STEP_step m) x.2.1).setF (MER_STEP_FRAC_frac m) x.2.2.1
  (s.setF (MER_PRESCALE_ratio m) x.2.2.2).updMer m (fun y => { y with step := x.2.1, stepFrac := x.2.2.1, ratio := x.2.2.2 })

/-- The spares of a quadrant (R22): 2, or the count the pattern sets; the engines it names first, then the highest two
(DESIGN CHOICE where it names fewer, log 160). -/
def Pattern.sparesOf (p : Pattern) (q : Nat) : List Nat :=
  let n := Nat.min 2 (Tbl.get p.spareCount q 2)
  let named := (List.range 32).filter (fun e => (p.spares.getD []).contains (32 * q + e))
  ((named ++ [30, 31].filter (fun e => !named.contains e)).take n).map (32 * q + ·)

/-- The GPIOs the pattern gives to the timebase: those it names so and for no other use (R111). -/
def Pattern.timebaseGpio (p : Pattern) : Nat :=
  let other := p.pfwGpio.toList ++ p.faultGpio.toList ++ p.otherGpio ++ p.rects.map (fun (x : Nat × Rect) => x.2.alertGpio) ++
    p.seqs.filterMap (fun (x : Nat × Seq) => x.2.rstGpio)
  sumNat ((List.range 64).map (fun g => if p.merGpio.getLsbD g && !other.contains g then 2 ^ g else 0))

/-- The pattern comes into force. -/
def State.installPattern (s : State) (p : Pattern) : State :=
  let s := { s with
    skeins := s.skeins.map (fun (x : Nat × Skein) => (x.1, { x.2 with known := false })),
    pattern := p, strs := p.strings, rects := p.rects.map (fun (x : Nat × Rect) => (x.1, { x.2 with state := 0 })),
    budgets := p.budgets, slotx := p.breakers, seqs := p.seqs }
  let s := p.skeins.foldl (fun s k => s.installSkein k) s
  let s := p.meridians.foldl (fun (s : State) (x : Nat × (Nat × Nat × Nat × Nat)) => s.installMer x.1 x.2) s
  let s := p.budgets.foldl (fun (s : State) (x : Nat × Budget) => s.setF (BGT_STATE_class x.1) x.2.cls) s
  -- roles of the two-wire ports; a port waits for its role after a wake until now (R571, R588)
  let s := (List.range 8).foldl (fun (s : State) (t : Nat) =>
    (s.setF (TW_CTRL_mode t) (Tbl.get p.twMode t 0)).updTw t (fun x => { x with roleWait := false })) s
  let spares := (List.range 4).flatMap p.sparesOf
  let s := (List.range 128).foldl (fun (s : State) (e : Nat) => s.setB (ENG_CTRL_spare e) (spares.contains e)) s
  let s := s.setF ID_CAPS_spares spares.length
  let s : State := (s.setF PAIR_CFG_home p.home).setF BUS_SETPOINT_setpoint_mv p.busSet
  let s := (s.setF (MER_GPIO_gpio 0) (p.timebaseGpio % 2 ^ 32)).setF (MER_GPIO_gpio 1) (p.timebaseGpio / 2 ^ 32)
  -- a unit whose region 0 holds no pin takes the pattern's (R615)
  if s.trust.pinNext = 0 ∧ p.pin ≠ 0 then ((s.updTrust (fun t => { t with pinned := p.pin })).pubFw).pubLevel else s

/-! ### Settings (R629) -/

/-- One setting of region 0, by its kind. The value is restored as it was stored, whatever level the start pinned for its
fields (R89 rules on payloads of commands; DESIGN CHOICE, log 171). -/
def State.restore1 (s : State) (kind id : Nat) (v : List Int) : State :=
  let p : List Byte := v.map (fun x => BitVec.ofInt 8 x)
  let load := fun (l : Load) => s.applyLoad (u16 p 0) l
  match kind with
  | 0 => s.applyTarget p
  | 1 => load (lawOf p)
  | 2 => load (limitsOf p)
  | 3 => load (shedOf p)
  | 4 => load (schedOf p)
  | 5 => load (gaintabOf p)
  | 6 => if id = 257 then s.applyBudgetPolicy p else s.applyBudget p
  | 7 => s.applyBreaker p
  | 8 => s.applyRail p
  | 9 => s.applySeqSlot p
  | 11 => (s.putWord (aADC_CAL (id / 32) (id % 32)) (BitVec.ofNat 32 (u32 p 0))).setF (ADC_INCFG_cal_state (id / 32) (id % 32)) (u8 p 4)
  | 14 => (s.setF (PORT_EPOCH_epoch id) (u8 p 0)).updPort id (fun x => { x with lastEpoch := u8 p 1 })
  | 26 => s.setF (SVC_EPOCH_epoch id) (u8 p 0)
  -- epoch retirements, of ports and of service lanes, by the chassis time that goes on; a start without it dates them all (R170)
  | _ => if kind < 18 ∨ s.rst.retiredAll.isSome then s else
      let put := fun (t : Tbl Nat) => Tbl.put t (id % 256) (u64 p 0)
      if kind < 22 then s.updPort (16 * (kind - 18) + id / 256) (fun x => { x with retired := put x.retired })
      else s.updSvc (16 * (kind - 22) + id / 256) (fun x => { x with retired := put x.retired })

/-- Whether a die holds a good copy of a setting. -/
def State.settingGood (s : State) (key : Nat) : Bool :=
  [s.nv.die0, s.nv.die1].any (fun d => match Tbl.find? d (nvKey 0 key) with
    | some c => !c.torn && !c.uncorr
    | none => false)

/-- Every setting is read back; reading writes nothing. -/
def State.restoreAll (s : State) : State :=
  let z := (s.nv.settings.filter (fun (x : Nat × List Int) => s.settingGood x.1)).foldl (fun (s : State) (x : Nat × List Int) =>
    s.restore1 (x.1 / 4096) (x.1 % 4096) x.2) s
  { z with nv := s.nv }

/-- An input whose stored coefficients have no good copy starts with cal_state 3 (R472). -/
def State.calLost (s : State) : State :=
  (s.nv.settings.filter (fun x => decide (x.1 / 4096 = 11) && !s.settingGood x.1)).foldl (fun (s : State) (x : Nat × List Int) =>
    let i := x.1 % 4096
    let s := (s.putWord (aADC_CAL (i / 32) (i % 32)) (resetWord (aADC_CAL (i / 32) (i % 32)))).setF (ADC_INCFG_cal_state (i / 32) (i % 32)) 3
    s.level .adcCalLost i true) s

/-- The newer good bank is loaded, and the settings replace its values. -/
def State.loadPattern (s : State) : State :=
  let p : Pattern := match s.newBank with
    | some (d, b) => Config.bankPattern (s.flashRead d (bankBase b) bankBytes)
    | none => {}
  let s := s.updTrust (fun t => { t with patBank := s.newBank })
  -- the reduced-width plans are computed at each pattern load (R151)
  let s := ((s.installPattern p).restoreAll).calLost
  ((List.range 64).foldl (fun (s : State) (n : Nat) => s.storePlans n) s).setF RST_STATUS_phase 2

/-! ### Resets (R619 to R625, R690, R691) -/

/-- POWER_ON (R619): VAON is applied; the main supplies follow. -/
def execPowerOn (s : State) : Out3 :=
  let z := s.afterReset 0 0 true false
  .next { z with ct := 0, rst := { z.rst with supplyGood := false } }

/-- SYS_RESET (R622): a low of 1 µs or more restarts a unit that runs. -/
def execSysReset (lowTicks : Nat) (s : State) : Out3 :=
  if lowTicks < us 1 ∨ s.unit = 0 ∨ s.rst.held then .next s else .next (s.restart 1)

/-- The chassis time of R130 without a partner, R131: value and ct_src. -/
def startTime (stored : Option Nat) (slow : Nat) : Nat × Nat :=
  match stored with
  | some t =>
    let m := t + (divRound (slow * 390625) 8).toNat
    (if m ≤ t then t + 1 else m, 1)
  | none => (0, 2)

/-- RESET_EXIT (R625, R130, R131, R170): the unit boots. -/
def execResetExit (slowTicks : BitVec 48) (s : State) : Out3 :=
  if !s.rst.held ∨ !s.rst.supplyGood ∨ s.rst.sref = 0 then .next s else
  let (t, src) := startTime s.rst.storedCt slowTicks.toNat
  -- each fan's first period out of reset starts here (R126, R129)
  let s := { s with ct := t, fans := (List.range 16).map (fun (n : Nat) => (n, { s.fan n with startedAt := t })) }
  let s := (s.setF CT_STATUS_ct_src src).setUnit 1
  let s := if src = 1 then s.setPair aMKUP_SLOW_LO aMKUP_SLOW_HI slowTicks.toNat else s
  .next (s.updRst (fun r => { r with
    held := false, exitAt := t, slow := slowTicks.toNat, dormantWhy := 0, mbxOpen := false,
    retiredAll := if src = 2 then some t else none }))

/-- MAIN_SUPPLY_LOSS (R689, R690, R623): not good for 2 µs. A unit that boots or runs enters dormant. -/
def execMainSupplyLoss (ticks : Nat) (s : State) : Out3 :=
  if ticks < us 2 then .next s else
  let s := s.updRst (fun r => { r with supplyGood := false })
  if 2 ≤ s.unit then .next (s.ownFail 3) else if s.unit = 1 then .next (s.nvSupplyLoss.goDormant 4) else .next s

/-- SUPPLY_GOOD (R624, R690): every main supply has been in range for 1 ms. -/
def execSupplyGood (s : State) : Out3 :=
  let s := s.updRst (fun r => { r with supplyGood := true })
  .next (if s.unit = 0 ∧ s.rst.dormantWhy = 4 then s.wake 7 else s)

/-- VAON_LOSS (R691): the unit stops as in R690; the always-on domain loses its contents. -/
def execVaonLoss (s : State) : Out3 :=
  let s := if 2 ≤ s.unit ∧ !s.pair.failed then s.emit (.failureNotice 3) else s
  let z := (if 1 ≤ s.unit then s.nvSupplyLoss else s).afterReset 0 0 true false
  .next { z with rst := { z.rst with supplyGood := false, thermDormant := false } }

/-- COLD_START (R619, R620, R624): a wake cause, with every main supply good, takes the unit out of dormant. -/
def execColdStart (s : State) : Out3 :=
  match s.rst.wakeHeld with
  | some c =>
    if s.unit = 0 ∧ s.rst.dormantWhy ≠ 0 ∧ s.rst.supplyGood then
      let seen := (List.range 8).filter (fun t => s.is (TW_STATUS_wake_seen t))
      let z := s.afterReset 1 c false false
      let z := { z with rst := { z.rst with dormantWhy := 0, thermDormant := false } }
      let z := seen.foldl (fun (z : State) (t : Nat) => z.setF (TW_STATUS_wake_seen t) 1) z
      .next ((List.range 8).foldl (fun (z : State) (t : Nat) =>
        if z.twRole t = 2 then z.updTw t (fun x => { x with roleWait := true }) else z) z)
    else .next s
  | none => .next s

/-- MAILBOX_OPEN (R638): 1 s after leaving reset. -/
def execMailboxOpen (s : State) : Out3 :=
  if s.unit ≠ 0 ∧ !s.rst.held ∧ s.rst.exitAt + sec 1 ≤ s.ct then
    .next ((s.updRst (fun r => { r with mbxOpen := true })).setF RST_STATUS_phase (if s.get RST_STATUS_phase = 4 then 5 else s.get RST_STATUS_phase))
  else .next s

/-- A reset that a command or an activation has set, at its time: code 0 to 15 restarts with that cause, 16
enters dormant. -/
def State.dueRestart (s : State) : Option State :=
  match s.rst.restartAt with
  | some (t, c) => if t ≤ s.ct then some (if c = 16 then s.goDormant 3 else s.restart c) else none
  | none => none

/-- UNIT_RESTART (0x0104, R640). -/
def execUnitRestart (mb : Mb) (k : Fin 64) (s : State) : Out3 :=
  .next (s.command mb k 0x0104
    (fun s p => {
        bad := [outside 0 (u8 p 0) 0 1],
        busy := if s.pair.transitAt.isSome ∨ s.planOn then some 5 else none })
    (fun s p =>
      let c := if u8 p 0 = 1 then 16 else 2
      if s.transitOk then
        let s := (s.startTransit (s.ct + us 100)).updPair (fun x => { x with transitFor := some (mb.val, k.val) })
        s.updRst (fun r => { r with restartFor := some c })
      else (s.okay mb k).updRst (fun r => { r with restartAt := some (s.ct, c) }))).settle

/-! ### The pair decision (R497, R498, R627, R628) -/

/-- Ports and service lanes start to train (R621, R626). -/
def State.startPorts (s : State) : State :=
  (List.range 64).foldl (fun (s : State) (n : Nat) =>
    let s := if s.is (PORT_CTRL_en n) then s.setF (PORT_STATUS_link_state n) 1 else s
    if s.is (SVC_CTRL_en n) then s.setF (SVC_STATUS_link_state n) 1 else s) s

/-- The unit leaves booting. -/
def State.leaveBoot (s : State) : State := (s.setPair aRST_TIME_LO aRST_TIME_HI s.ct).setF RST_STATUS_phase 4

/-- An admitted unit takes the active unit's pattern, changed settings and pinned level, and stores them; a level its image
cannot serve keeps it admitted (R497, R615, R629). -/
def State.takePattern (s : State) (bank : List Byte) (pin : Nat) (l : List (Nat × List Int)) : State :=
  if s.unit ≠ 2 then s else
  let s := s.updNv (fun n => { n with settings := n.settings.filter (fun x => decide (40960 ≤ x.1)) })
  let s := s.installPattern (if bank.isEmpty then {} else Config.bankPattern bank)
  let s := { l.foldl (fun (s : State) (x : Nat × List Int) => s.restore1 (x.1 / 4096) (x.1 % 4096) x.2) s with nv := s.nv }
  let s := l.foldl (fun (s : State) (x : Nat × List Int) => s.setting x.1 x.2) s
  let s := (s.updTrust (fun t => { t with pinned := pin, pinNext := pin })).keep 12 0 [BitVec.ofNat 8 pin]
  (s.pubFw.pubLevel).level .pairConfig 0 (s.is PAIR_STATUS_pos_conflict || !s.pinServed)

/-- Admitted (R497): no slot path. -/
def State.enterAdmitted (s : State) : State := ((s.setUnit 2).leaveBoot).startPorts

/-- The shelf's checkpoints take the place of a shelf digest (R628). -/
def State.takeCheckpoints (s : State) : State :=
  let rec pairs : List Int → Tbl Nat
    | a :: b :: t => Tbl.put (pairs t) a.toNat b.toNat
    | _ => []
  let s := s.updShelf (fun h => { h with energy := pairs (Tbl.get (α := List Int) s.nv.settings (4096 * 16) []) })
  s.strs.foldl (fun (s : State) (x : Nat × Str) =>
    match Tbl.get (α := List Int) s.nv.settings (4096 * 17 + x.1) [] with
    | [q, qf, r] => s.updStr x.1 (fun y => { y with q := q, qfull := qf.toNat, rint := r })
    | _ => s) s

/-- Active, alone or as the home unit: every port is claimed, and the shelf path taken up. -/
def State.bootActive (s : State) (alone : Bool) : State :=
  let s := (s.setB RST_STATUS_alone alone).leaveBoot
  let s := (s.takeCheckpoints).enterActive
  ((List.range 64).foldl (fun (s : State) (p : Nat) => if s.ownsPort p then s else s.claim p 0) s).startPorts

/-- PAIR_DECISION (R627): at pattern load and no earlier than 50 ms after partner-link training starts with the image; again
while the alive line alone shows a partner. -/
def execPairDecision (s : State) : Out3 :=
  if s.unit ≠ 1 ∨ s.rst.held ∨ s.get RST_STATUS_phase = 0 ∨ s.ct < s.rst.imageAt + ms 50 then .next s else
  let s := if s.get RST_STATUS_phase = 1 then s.loadPattern else s
  let s := s.setF RST_STATUS_phase 3
  if s.is PAIR_STATUS_pos_conflict then .next s
  else if s.pair.partner then
    .next (if 2 ≤ s.get PAIR_STATUS_partner_state ∨ !s.isHome then s.enterAdmitted else s.bootActive false).settle
  else if s.pair.alvStopped then .next (s.bootActive true).settle
  else .next (s.level .pairLink 0 true).settle

/-- ADMIT_COMPLETE (R497): every shadowed job has matched 16 rounds and a shelf digest is loaded; not on a pinned
level the image does not serve (R615). -/
def execAdmitComplete (s : State) : Out3 :=
  if s.unit = 2 ∧ s.pair.shelfDigest.isSome ∧ !s.is PAIR_STATUS_pos_conflict ∧ s.pinServed ∧
      s.skeins.all (fun (x : Nat × Skein) => !x.2.known || (s.bound x.1).isEmpty || s.ownsPort x.2.slot || (x.2.inStep && decide (16 ≤ x.2.matched))) then
    .next ((s.setUnit 3).setF RST_STATUS_phase 5).cover
  else .next s

/-! ### Binding at start-up (R101, R632 to R635) -/

/-- A carrier that no bound skein uses is loaded from its reference stitch (R101): its angle is what the last reload
timestamp gives; its turns stay. -/
def State.loadCarrier (s : State) (m : Nat) : State :=
  let x := s.mer m
  if s.carries m ∨ s.get (MER_CFG_src m) ≠ 3 ∨ x.lastRef = 0 then s else
  let g := 128 * s.get (MER_CFG_port m) + s.get (MER_CFG_stitch m)
  let angle := (s.refOffset g + (s.ct - x.lastRef) * x.stepx / x.ratioEff) % 2 ^ 32
  s.updMer m (fun y => { y with value := y.value / 2 ^ 32 * 2 ^ 32 + angle })

/-- Whether an idle src 3 carrier has had no reference yet, so that it cannot be loaded (R101). -/
def State.noReference (s : State) (m : Nat) : Bool :=
  !s.carries m && decide (s.get (MER_CFG_src m) = 3) && s.merEn m && decide ((s.mer m).lastRef = 0)

/-- A skein's cycle base (R632): from the newest trailer of its lead stitch, else from a sample cell's tag with bits
[15:12] nearest to the turn count plus the previous base; kept in region 0. -/
def State.setBase (s : State) (k : Nat) : State :=
  let x := s.sk k
  let gs := x.stitches.map (128 * x.slot + ·)
  let prev := ((Tbl.get (α := List Int) s.nv.settings (4096 * 15 + k) []).headD 0).toNat
  let lead := gs.find? (fun g => !(s.st g).trailers.isEmpty)
  let base : Option Nat := match lead with
    | some g => ((s.st g).trailers.getLast?).map (fun (t : Nat × Nat) =>
        toField 16 ((t.2 : Int) - s.closedTurn k g (s.st g).trailAt))
    | none => (gs.findSome? (fun g => ((s.st g).lastTag).map (fun t => (g, t)))).map (fun (t : Nat × Nat × Nat) =>
        let turn := s.closedTurn k t.1 t.2.2
        toField 16 ((nearCycle t.2.1 ((turn + prev) % 65536) : Int) - turn))
  match base with
  | some b => (s.updSk k (fun y => { y with base := b })).setting (4096 * 15 + k) [(b : Int)]
  | none => s.updSk k (fun y => { y with base := prev })

/-- A skein's state at start (R634): released with an adopted stitch, else off. -/
def State.startState (s : State) (k : Nat) : State :=
  if (s.bound k).any (fun g => decide ((s.st g).state = 1)) then
    (s.updSk k (fun x => { x with mayReturn := true, job := { x.job with count := x.lim.nMax } })).skSet k 4
  else s.skSet k 0

/-- The sequence of a slot that starts (R635): up, off, or a mix that stops with T1 now. -/
def State.startSeq (s : State) (n : Nat) : State :=
  let ks := s.railSkeins n
  let on := fun (k : Nat) => decide (s.skSt k = 4 ∨ s.skSt k = 2)
  let s := ks.foldl (fun (s : State) (k : Nat) =>
    s.updRrun k (fun _ => { issued := decide (s.skSt k ≠ 0), good := on k })) s
  if ks.all on then (s.setF (SEQ_STATE_state n) 2).rstOut n false
  else if ks.all (fun k => decide (s.skSt k = 0)) then s.setF (SEQ_STATE_state n) 0
  else
    let s := (s.setF (SEQ_STATE_state n) 2).seqStop n
    (s.flag RST_STATUS_mixed_seen).event (s.slotOwner n) Config.mixedEvent.toNat (leBytes 1 n)

/-- Jobs are placed at start-up (R270): those of the slots that start, in ascending slot, up to slot `n` (DEDUCED, log 164). -/
def State.placeStart (s : State) (n : Nat) : State :=
  (List.range (n + 1)).foldl (fun (s : State) (m : Nat) =>
    if m = n ∨ (s.slot m).startupBound then
      (s.placeAll (s.byCost ((s.slotSkeins m).filter (fun k => (s.sk k).engine.isNone)))).getD s
    else s) s

/-- STARTUP_BIND (R632 to R635): no earlier than 1 ms after the first TIME cell of the port. -/
def execStartupBind (p : Fin 64) (s : State) : Out3 :=
  let n := p.val
  let due : Bool := match (s.port n).firstTimeAt with
    | some t => decide (t + ms 1 ≤ s.ct)
    | none => false
  let starting := (decide (s.slSt n = 2) && (s.slot n).startupBound && decide ((s.slot n).step = 9)) ||
    decide (s.slSt n = 3)
  if !due || !starting || (s.slot n).baseSet then .next s else
  let ks := s.slotSkeins n
  -- a carrier is loaded from its reference before a stitch is adopted (R132)
  if ks.any (fun k => s.noReference (s.sk k).carrier) then .next s else
  let s := ks.foldl (fun (s : State) (k : Nat) => s.loadCarrier (s.sk k).carrier) s
  let s := ks.foldl (fun (s : State) (k : Nat) => s.setBase k) s
  let s := (s.bindSlot n).updSlot n (fun x => { x with baseSet := true })
  -- a unit without the slot path places the jobs it shadows here
  let s := s.placeStart n
  let s := ks.foldl (fun (s : State) (k : Nat) => s.startState k) s
  .next (if s.active then s.startSeq n else s).settle

end Sys2Proof.Machine
end

