-- ==== Sys2Proof/Machine/Flags.lean ====
section
/-! DEFINITION. Register fields as software reads and writes them (R667 to R671, R676, R679, R680): what each access
code does to a field, the same-cycle outcomes, and the view a read shows. -/
namespace Sys2Proof.Machine

/-! ### Access codes (R16, R667) -/

/-- A field after a write of `v` under the mask `m`, of disabled bytes (R667) or of an ephemeris action (R681). -/
def fieldAfter (w v m : Word) (f : FieldSpec) : Word :=
  match f.acc with
  | .rw | .sh => w.withBits f.hi f.lo (((v &&& m) ||| (w &&& ~~~m)).bits f.hi f.lo)
  | .w1c | .hsW1c => w.withBits f.hi f.lo ((w &&& ~~~(v &&& m)).bits f.hi f.lo)
  | .w1s => w.withBits f.hi f.lo ((w ||| (v &&& m)).bits f.hi f.lo)
  | .wo | .ro | .hsRo => w

/-- A register word after a write. -/
def wordAfter (w v m : Word) (fs : List FieldSpec) : Word := fs.foldl (fun (a : Word) (f : FieldSpec) => fieldAfter a v m f) w

/-- Whether a write acts on a field: it stores, clears, sets or triggers something there. -/
def FieldSpec.acted (f : FieldSpec) (v m : Word) : Bool :=
  match f.acc with
  | .rw | .sh => decide (m.bits f.hi f.lo ≠ 0)
  | .w1c | .hsW1c | .w1s | .wo => decide ((v &&& m).bits f.hi f.lo ≠ 0)
  | .ro | .hsRo => false

/-- The mask of four byte enables. -/
def byteMask (be : BitVec 4) : Word :=
  (List.range 4).foldl (fun (m : Word) (i : Nat) => if be.getLsbD i then m.withBits (8 * i + 7) (8 * i) 255 else m) 0

/-! ### The same-cycle outcomes (R679) -/

def Touch.at_ : Touch → Nat × Nat × Nat
  | .set a h l _ => (a, h, l)
  | .add a h l _ => (a, h, l)
  | .max a h l _ => (a, h, l)
  | .min a h l _ => (a, h, l)

/-- A hardware update of this cycle applied on top of a written value. -/
def State.again (s : State) (t : Touch) : State :=
  let get := fun (a h l : Nat) => (s.word a).bits h l
  let put := fun (a h l v : Nat) => s.putWord a ((s.word a).withBits h l v)
  match t with
  | .set a h l v => put a h l v
  | .add a h l n => put a h l (satCount (h + 1 - l) (get a h l) n)
  | .max a h l v => put a h l (Nat.max v (get a h l))
  | .min a h l v => put a h l (Nat.min v (get a h l))

/-- Hardware updates of this cycle inside a field. -/
def State.touchesOf (s : State) (a hi lo : Nat) : List Touch :=
  s.hwTouched.filter (fun t => decide (t.at_.1 = a ∧ t.at_.2.1 ≤ hi ∧ lo ≤ t.at_.2.2))

/-- A software write meets the hardware updates of its cycle at one field. -/
def State.meetField (s : State) (a : Nat) (f : FieldSpec) : State :=
  let ts := s.touchesOf a f.hi f.lo
  let s := { s with swTouched := s.swTouched ++ [(a, f.hi, f.lo)] }
  if ts.isEmpty then s else (ts.foldl (fun (s : State) (t : Touch) => s.again t) s).collide (a, f.hi, f.lo)

/-! ### What a write may not change (R59, R96, R532, R708 and the field tables) -/

/-- The word stored of a write that would store `w`. -/
def State.guardWord (s : State) (a : Nat) (w : Word) : Word :=
  let old := s.word a
  if 0x1000000 ≤ a then
    let mb := (a - 0x1000000) / 0x10000
    if a = aVI_CQ_CONS mb ∧ 256 < (s.get (VI_CQ_PROD_prod mb) + 512 - w.bits 8 0) % 512 then old else w
  else if 0x1100 ≤ a ∧ a < 0x1500 then
    if s.is (FLT_KIND_fixed ((a - 0x1100) / 4)) ∨ w.bits 24 11 < 1 ∨ 10000 < w.bits 24 11 then old else w
  else if 0x4100 ≤ a ∧ a < 0x4900 then
    let m := (a - 0x4100) / 0x20
    if !s.carries m then w
    else if a = aMER_CFG m then
      (w.withBits 2 0 (old.bits 2 0)).withBits 3 3 (if old.bit 3 then 1 else w.bits 3 3)
    else if a = aMER_STEP m then (if w = 0 ∧ s.get (MER_STEP_FRAC_frac m) = 0 then old else w)
    else if a = aMER_STEP_FRAC m then (if w.bits 15 0 = 0 ∧ s.get (MER_STEP_step m) = 0 then old else w)
    else w
  else if 0x5000 ≤ a ∧ a < 0x7000 ∧ a % 16 = 8 then (if 6 ≤ w.bits 7 4 then w.withBits 0 0 0 else w)
  else w

/-- A register's fields take a write. -/
def State.storeWord (s : State) (a : Nat) (v m : Word) : State :=
  match regAt a with
  | none => s
  | some r =>
    let s := s.putWord a (s.guardWord a (wordAfter (s.word a) v m r.fields))
    (r.fields.filter (fun f => f.acted v m)).foldl (fun (s : State) (f : FieldSpec) => s.meetField a f) s

/-! ### LO and HI pairs (R670, R671) -/

/-- The LO register of a pair that holds one value; HI follows it. -/
def loOfPair (a : Nat) : Bool :=
  a = aCT_LO || a = aMKUP_SLOW_LO || a = aSHELF_UNALLOC_LO || a = aPAIR_LAST_LO || a = aRST_TIME_LO ||
  (decide (0x4100 ≤ a ∧ a < 0x4900) && decide (a % 0x20 = 0x10)) ||
  (decide (0x5000 ≤ a ∧ a < 0x7000) && decide (a % 16 = 0)) ||
  (decide (0x60000 ≤ a ∧ a < 0x61000) && decide (a % 0x40 = 0x10)) ||
  (decide (0x1000000 ≤ a ∧ a < 0x2010000) && decide (a % 0x10000 = 0x810))
/-- The pairs that software may write. -/
def rwPair (a : Nat) : Bool :=
  loOfPair a && ((decide (0x4100 ≤ a ∧ a < 0x7000)) || decide (0x60000 ≤ a ∧ a < 0x61000))

/-! ### What a read shows -/

/-- MER_VAL as read: the held value while the meridian is disabled (R96), else the running one, with MER_OFFSET (R103). -/
def State.merRead (s : State) (m : Nat) : Nat :=
  let x := s.mer m
  match s.merEn m, x.held with
  | false, some h => ({ x with value := h } : Meridian).visible
  | _, _ => x.visible

/-- VI_STATUS.owner (R709). -/
def State.ownsAll (s : State) (v : Nat) : Bool :=
  let ns := (List.range 64).filter (fun n => decide (s.slotOwner n = v))
  let ks := (s.skeins.filter (fun (x : Nat × Skein) => x.2.known && decide (s.skOwner x.1 = v))).map (fun (x : Nat × Skein) => x.2.slot)
  s.assigned v && (if (ns ++ ks).isEmpty then s.active else (ns ++ ks).all s.ownsPort)

/-- The word a register shows: the stored one, with the fields that follow other state put in. -/
def State.regShow (s : State) (a : Nat) : Word :=
  let w := s.word a
  if 0x1000000 ≤ a then
    let mb := (a - 0x1000000) / 0x10000
    if a = aVI_STATUS mb then w.withBits 1 1 (s.ownsAll mb).toNat
    else if a = aVI_HOLDUP mb then
      ((((w.withBits 1 0 (s.get HU_STATUS_state)).withBits 3 2 (s.get HU_STATUS_mains)).withBits 4 4
        (s.get HU_STATUS_pfw)).withBits 6 5 (s.get BATT_CHASSIS_level)).withBits 31 16 (Nat.min 65535 (s.get HU_RIDE_v))
    else w
  else if a = aCT_LO then BitVec.ofNat 32 s.ct
  else if a = aCT_HI then BitVec.ofNat 32 (s.ct / 2 ^ 32)
  else if 0x4100 ≤ a ∧ a < 0x4900 then
    let m := (a - 0x4100) / 0x20
    if a = aMER_VAL_LO m then BitVec.ofNat 32 (s.merRead m)
    else if a = aMER_VAL_HI m then BitVec.ofNat 32 (s.merRead m / 2 ^ 32)
    else if a = aMER_STATUS m then w.withBits 3 3 (s.merHeld m).toNat
    else w
  else if a = aFLT_SAFE_CNT then
    BitVec.ofNat 32 (Nat.min 15 (s.faults.safeStops.filter (fun u => decide (s.ct < u + sec 3600))).length)
  else if a = aFW_STATUS then s.fwStatus
  else if 0xA000 ≤ a ∧ a < 0xA800 ∧ a % 0x100 = 8 then
    -- a port with a transaction in hand is busy
    if w.bits 1 0 = 0 ∧ !(s.tw ((a - 0xA000) / 0x100)).jobs.isEmpty then w.withBits 1 0 1 else w
  else w

/-- A byte of the rings and command slots of a window. -/
def inRings (a : Nat) : Bool := decide (0x1000000 ≤ a) && decide (0x1000 ≤ a % 0x10000 ∧ a % 0x10000 < 0x3000)
def inSlots (a : Nat) : Bool := decide (0x1000000 ≤ a) && decide (0x4000 ≤ a % 0x10000 ∧ a % 0x10000 < 0x8000)

/-- Whether the map lists an address (R668, R673, R675). -/
def onMap (a : Nat) : Bool := inRings a || inSlots a || (regAt a).isSome

/-- A read of a word, with its side effects. -/
def State.readWord (s : State) (a : Nat) : State × Word :=
  if inRings a || inSlots a then (s, BitVec.ofNat 32 (leVal (Mem.readBytes Mem.blank s.mem a 4)))
  else if !onMap a then (s, 0)
  else if loOfPair a then
    ({ s with latchHi := Tbl.put s.latchHi a (s.regShow (a + 4)), heldLo := Tbl.del s.heldLo a }, s.regShow a)
  else if 4 ≤ a && loOfPair (a - 4) then (s, Tbl.get s.latchHi (a - 4) (resetWord a))
  else (s, s.regShow a)

end Sys2Proof.Machine
end

