-- ==== Sys2Proof/Machine/RegWrite.lean ====
section
/-! DEFINITION. Register writes and what they set going (R51, R54 to R60, R93 to R96, R105, R107, R110, R127, R146,
R178, R241, R242, R464 to R466, R667 to R678, R682, R707), and the doorbells of the mailboxes (R64 to R66, R642). -/
namespace Sys2Proof.Machine

/-! ### Mailbox registers -/

/-- The bytes a command slot holds (R51). -/
def State.slotBytes (s : State) (mb k : Nat) : List Byte := Mem.readBytes Mem.blank s.mem (winBase mb + 0x4000 + 256 * k) 256

/-- A doorbell or segment that names a busy slot (R54, R65), with what it found noted for a release in its cycle (R84). -/
def State.dropBell (s : State) (mb : Nat) : State :=
  let fresh := !(s.mbx mb).counted.any (fun x => decide (x.1 = s.ct))
  let s := s.when fresh (fun s => s.updMbx mb (fun m => { m with
    counted := some (s.ct, s.is (VI_STATUS_dup_doorbell mb), s.get (VI_DOORBELL_DROP_CNT_count mb)) }))
  (s.flag (VI_STATUS_dup_doorbell mb)).count (VI_DOORBELL_DROP_CNT_count mb)

/-- A doorbell of one slot (R64, R65); one whose completion was written in this cycle is judged as busy (R665). -/
def State.ring1 (s : State) (mb k : Nat) : State :=
  if (s.slotC (slotKey mb k)).phase ≠ .free ∨ (s.slotC (slotKey mb k)).freedAt = some s.ct then s.dropBell mb
  else s.submit mb k (s.slotBytes mb k) none

/-- A doorbell write: its slots in ascending order (R642). -/
def State.ringBits (s : State) (mb : Nat) (hi : Bool) (w : Word) : State :=
  if !s.mailboxOpen mb then s
  else ((List.range 32).filter (fun i => w.bit i)).foldl (fun (s : State) (i : Nat) => s.ring1 mb (if hi then 32 + i else i)) s

/-- Completions that waited are written while the ring has room (R60, R665). -/
def State.writeWaiting (s : State) (mb : Nat) : Nat → State
  | 0 => s
  | n + 1 =>
    match (s.mbx mb).cqWait with
    | [] => s
    | c :: t =>
      if s.ringFull mb then s
      else ((s.updMbx mb (fun m => { m with cqWait := t })).writeCompl mb c).writeWaiting mb n

/-- VI_IRQ_CTRL has changed from `old` (R707). -/
def State.irqChanged (s : State) (mb : Nat) (old : Word) : State :=
  if !s.is (VI_IRQ_CTRL_cq_en mb) ∨ !old.bit 0 then s.updMbx mb (fun m => { m with gathered := 0, firstAt := none })
  else if (s.mbx mb).gathered ≠ 0 ∧ Nat.max 1 (s.get (VI_IRQ_CTRL_coal_count mb)) ≤ (s.mbx mb).gathered then s.raiseV0 mb
  else s

/-! ### Meridians and compare channels -/

/-- Whether channels and triggers on a meridian are judged (R105). -/
def State.merLive (s : State) (m : Nat) : Bool := s.merEn m && !s.merHeld m
/-- Whether they may match in this cycle: not in the one in which the meridian began or resumed to run (R105). -/
def State.merJudged (s : State) (m : Nat) : Bool := s.merLive m && decide ((s.mer m).liveAt ≠ some s.ct)

/-- The 48-bit value of a channel and its meridian. -/
def State.cmpVal (s : State) (k : Nat) : Nat := s.pairVal (aCMP_VAL_LO k) (aCMP_VAL_HI k) % 2 ^ 48
def State.cmpMer (s : State) (k : Nat) : Nat := (s.word (aCMP_VAL_HI k)).bits 21 16
def State.cmpHit (s : State) (k : Nat) : Bool :=
  s.is (CMP_CTRL_arm k) && s.merLive (s.cmpMer k) && merMatched (s.mer (s.cmpMer k)).visible (s.cmpVal k)

/-- The state in which a match of this cycle is judged and acts: a value or control word written in the cycle counts from
the next one (R107, R110). -/
def State.beforeCmp (s : State) (k : Nat) : State :=
  match Tbl.find? s.cmpOld k with
  | some (lo, hi, ctrl) => ((s.putWord (aCMP_VAL_LO k) lo).putWord (aCMP_VAL_HI k) hi).putWord (aCMP_CTRL k) ctrl
  | none => s
/-- The words of a channel before its first write of the cycle. -/
def State.keepCmp (s : State) (a : Nat) : State :=
  let k := (a - 0x5000) / 16
  if 0x5000 ≤ a ∧ a < 0x7000 ∧ (Tbl.find? s.cmpOld k).isNone then
    { s with cmpOld := Tbl.put s.cmpOld k (s.word (aCMP_VAL_LO k), s.word (aCMP_VAL_HI k), s.word (aCMP_CTRL k)) } else s

/-- Channels of a meridian that starts or resumes and already match set late (R105, R107). -/
def State.lateOn (s : State) (m : Nat) : State :=
  ((List.range 512).filter (fun k => decide (s.cmpMer k = m) && s.cmpHit k)).foldl (fun (s : State) (k : Nat) =>
    s.flag (CMP_CTRL_late k)) s

/-- A meridian is enabled (R94 to R96): the accumulator is 0, the held value and the register values are taken. -/
def State.merStart (s : State) (m : Nat) : State :=
  let step := s.get (MER_STEP_step m)
  let fr := s.get (MER_STEP_FRAC_frac m)
  let ratio := s.get (MER_PRESCALE_ratio m)
  let off := s.get (MER_OFFSET_offset m)
  let s := s.updMer m (fun x => { x with
    liveAt := some s.ct, acc := 0, value := x.held.getD x.value, frac := if x.held.isSome then 0 else x.frac, held := none, step := step,
    stepFrac := fr, ratio := ratio, offset := off })
  s.lateOn m

/-- A held value: HI with the LO that came with it, while the meridian is disabled (R96). -/
def State.merHold (s : State) (m : Nat) (lo : Option Word) (hi : Word) : State :=
  if s.merEn m then s else
  let low := (lo.map (·.toNat)).getD (((s.mer m).held.getD (s.mer m).value) % 2 ^ 32)
  s.updMer m (fun x => { x with held := some (hi.bits 15 0 * 2 ^ 32 + low) })

/-! ### Ports, lanes, engines, converters -/

/-- PORT_CTRL has changed from `old` (R179): a port that may no longer train is down; one that is enabled, or leaves Beacon
as sleep_en falls, detects; the port of an empty or asleep slot enters Beacon. -/
def State.portSwitch (s : State) (p : Nat) (old : Word) : State :=
  let l := s.get (PORT_STATUS_link_state p)
  let rests := (s.slot p).adopted && decide (s.slSt p = 0 ∨ s.slSt p = 6)
  if !s.is (PORT_CTRL_en p) then
    (if old.bit 0 then ((s.retrainPort p).setF (PORT_CNT_RETRAIN_v p) (s.get (PORT_CNT_RETRAIN_v p))).cover else s)
  else if rests && s.is (PORT_CTRL_sleep_en p) && decide (l ≠ 4) && !(old.bit 0 && old.bit 4) then s.enterBeacon p
  else if !old.bit 0 || (decide (l = 4) && !s.is (PORT_CTRL_sleep_en p)) then s.setF (PORT_STATUS_link_state p) 1
  else s

/-- SVC_CTRL.retrain (R178). -/
def State.svcRetrainNow (s : State) (n : Nat) : State := s.svcDown n

/-- ENG_CTRL.en has changed from `old` (R278, R337). -/
def State.engSwitch (s : State) (e : Nat) (old : Bool) : State :=
  if !s.is (ENG_CTRL_en e) then (if old then (s.evictEngine e).pubEng e else s)
  else if !old && decide (s.get (ENG_STATUS_state e) < 2) then s.unmaskEngine e else s

/-! ### What a write sets going -/

/-- The actions of a write that stored over `old`; `v` under `m` is what was written. -/
def State.writeActs (s : State) (a : Nat) (old v m : Word) : State :=
  let on := v &&& m
  if 0x1000000 ≤ a then
    let mb := (a - 0x1000000) / 0x10000
    if a = aVI_DOORBELL mb 0 then s.ringBits mb false on
    else if a = aVI_DOORBELL mb 1 then s.ringBits mb true on
    else if a = aVI_CQ_CONS mb then s.writeWaiting mb 256
    else if a = aVI_IRQ_CTRL mb then s.irqChanged mb old
    else s
  else if a = aFLT_CTRL then s.alarms 0
  else if 0x4100 ≤ a ∧ a < 0x4900 then
    let k := (a - 0x4100) / 0x20
    if a = aMER_CFG k ∧ s.merEn k ∧ !old.bit 3 then s.merStart k else s
  else if 0x5000 ≤ a ∧ a < 0x7000 ∧ a % 16 = 8 then
    let k := (a - 0x5000) / 16
    if on.bit 0 && s.cmpHit k then s.flag (CMP_CTRL_late k) else s
  else if 0x7000 ≤ a ∧ a < 0x7040 then
    let n := (a - 0x7000) / 4
    -- a write in the cycle of the reload takes effect at it (R127)
    if (s.fan n).startedAt = s.ct then
      s.updFan n (fun x => { x with period := s.get (FAN_PWM_period n), duty := s.get (FAN_PWM_duty n) })
    else s
  else if 0x8000 ≤ a ∧ a < 0x8C00 then
    let c := (a - 0x8000) / 0x300
    if a = aADC_CTRL c then
      let s := if on.bit 3 then s.adcHalt c else s
      if on.bit 2 then s.adcTrigger c else s
    else s
  else if 0x10000 ≤ a ∧ a < 0x20000 then
    let p := (a - 0x10000) / 0x400
    if a = aPORT_CTRL p then (s.portSwitch p old).when (on.bit 1) (fun s => s.retrainPort p)
    else if a = aSVC_CTRL p then (if on.bit 1 then s.svcRetrainNow p else s)
    else if a = aRED_CTRL p then
      let s := if on.bit 2 then s.takeSnap p else s
      if on.bit 3 then s.clearAcc p else s
    else s
  else if 0x20000 ≤ a ∧ a < 0x28000 then
    let e := (a - 0x20000) / 0x100
    if a = aENG_CTRL e then s.engSwitch e (old.bit 0) else s
  else s

/-! ### Writes (R667, R669, R671, R676, R682) -/

/-- A block in reset ignores writes (R682): the unit, or one engine (R285). -/
def State.inReset (s : State) (a : Nat) : Bool :=
  s.rst.held || decide (s.unit = 0) ||
  (decide (0x20000 ≤ a ∧ a < 0x28000) && decide (s.get (ENG_STATUS_state ((a - 0x20000) / 0x100)) = 2))

/-- A register takes a write and acts on it. -/
def State.applyWrite (s : State) (a : Nat) (v m : Word) : State :=
  let old := s.word a
  ((s.keepCmp a).storeWord a v m).writeActs a old v m

/-- Energy counted in this cycle is added to the value written over SLOT_E (R679). -/
def State.energyAgain (s : State) (lo : Nat) : State :=
  let ts := s.hwTouched.filter (fun t => decide (t.at_ = (lo, 63, 0)))
  if ts.isEmpty then s else
  let n := ts.foldl (fun (a : Nat) (t : Touch) => match t with
    | .add _ _ _ v => a + v
    | _ => a) 0
  (s.setPair lo (lo + 4) ((s.pairVal lo (lo + 4) + n) % 2 ^ 64)).collide (lo, 31, 0)

/-- HI of a pair takes a write, with the LO that waits for it (R671). -/
def State.writePair (s : State) (lo : Nat) (v m : Word) : State :=
  let waits := Tbl.find? s.heldLo lo
  let s := ({ s with heldLo := Tbl.del s.heldLo lo } : State).keepCmp lo
  if 0x4100 ≤ lo ∧ lo < 0x4900 then
    let k := (lo - 0x4100) / 0x20
    s.merHold k waits ((v &&& m) ||| (s.regShow (lo + 4) &&& ~~~m))
  else
    let s : State := match waits with
      | some w => s.applyWrite lo w 0xFFFFFFFF
      | none => s
    (s.applyWrite (lo + 4) v m).energyAgain lo

/-- A write of one aligned word under a mask. -/
def State.writeWord (s : State) (a : Nat) (v m : Word) : State :=
  if s.inReset a ∨ inRings a then s
  else if inSlots a then
    let cur : Word := BitVec.ofNat 32 (leVal (Mem.readBytes Mem.blank s.mem a 4))
    { s with mem := Mem.writeBytes Mem.blank s.mem a (leBytes 4 ((v &&& m) ||| (cur &&& ~~~m)).toNat) }
  -- MER_VAL of an enabled meridian takes no write (R96)
  else if rwPair a && decide (0x4100 ≤ a ∧ a < 0x4900) && s.merEn ((a - 0x4100) / 0x20) then s
  else if rwPair a then { s with heldLo := Tbl.put s.heldLo a ((v &&& m) ||| (s.regShow a &&& ~~~m)) }
  else if 4 ≤ a && rwPair (a - 4) then s.writePair (a - 4) v m
  else s.applyWrite a v m

/-! ### Accesses -/

/-- The unified address of an offset in a window (R666). -/
def Win.addr : Win → Nat → Nat
  | .bar2, off => off
  | .vi v, off => winBase v.val + off
  | .af, off => winBase afMb + off
/-- Whether an offset lies in the window's BAR. -/
def winHas : Win → Nat → Bool
  | .bar2, off => decide (off < 0x100000)
  | _, off => decide (off < 0x10000)
def listed (w : Win) (off : Nat) : Bool := winHas w off && onMap (Win.addr w (off / 4 * 4))

/-- An access to an offset no map lists (R668). -/
def State.unmapped (s : State) (w : Win) (write : Bool) : State :=
  let glob := decide (w = .bar2)
  let s := if glob && write then s.flag GLB_STATUS_unmapped_seen else s
  if glob && s.is GLB_CTRL_ur_unmapped then s.emit .unsupported
  else if write then s else s.emit (.readData 0)

/-- Whether the endpoint discards a write to a window: the authority has disabled its virtual function (R88). -/
def State.discards (s : State) (w : Win) : Bool :=
  match w with
  | .vi v => s.vfOff.contains v.val
  | _ => false

/-- The window of a mailbox. -/
def winOf (mb : Mb) : Win := if h : mb.val < 256 then .vi ⟨mb.val, h⟩ else .af

/-- A write access, of 32 bits and aligned; anything else is unsupported (R667). -/
def State.access (s : State) (w : Win) (off : Nat) (v m : Word) : State :=
  if s.discards w then s
  else if off % 4 ≠ 0 then s.emit .unsupported
  else if !listed w off then s.unmapped w true
  else s.writeWord (Win.addr w off) v m

/-! ### The rows -/

/-- REGISTER_WRITE (R667, R669). -/
def execRegisterWrite (w : Win) (off : Nat) (v : Word) (be : BitVec 4) (s : State) : Out3 :=
  .next (s.access w off v (byteMask be)).settle

/-- LO_WRITE_HELD (R671). -/
def execLoWriteHeld (w : Win) (off : Nat) (v : Word) (s : State) : Out3 :=
  let a := Win.addr w off
  if listed w off && rwPair a && decide (off % 4 = 0) && !s.discards w then .next (s.writeWord a v 0xFFFFFFFF) else .next s

/-- LO_HI_READ_LATCH (R670). -/
def execLoHiReadLatch (w : Win) (off : Nat) (s : State) : Out3 :=
  let a := Win.addr w off
  if listed w off && loOfPair a && decide (off % 4 = 0) then
    let r := s.readWord a
    .next (r.1.emit (.readData r.2))
  else .next s

/-- CT_LO_READ (R93). -/
def execCtLoRead (s : State) : Out3 :=
  let r := s.readWord aCT_LO
  .next (r.1.emit (.readData r.2))

/-- UNMAPPED_ACCESS (R668). -/
def execUnmappedAccess (w : Win) (off : Nat) (write : Bool) (s : State) : Out3 :=
  if listed w off then .next s else .next (s.unmapped w write)

/-- UNSUPPORTED_ACCESS (R667): a size other than 32 or 64 bits, or an address not aligned to 4 bytes. -/
def execUnsupportedAccess (_w : Win) (off : Nat) (bytes : Nat) (_write : Bool) (s : State) : Out3 :=
  if off % 4 = 0 ∧ (bytes = 4 ∨ bytes = 8) then .next s else .next (s.emit .unsupported)

/-- DEBUG_LOCK (R678): in force from the next fabric cycle. -/
def execDebugLock (s : State) : Out3 := .next (s.writeWord aGLB_CTRL 1 1)

/-- CQ_CONS_WRITE (R59, R60). -/
def execCqConsWrite (mb : Mb) (v : Word) (s : State) : Out3 := .next (s.access (winOf mb) 0x404 v 0xFFFFFFFF).settle

/-- IRQ_CTRL_WRITE (R707). -/
def execIrqCtrlWrite (mb : Mb) (v : Word) (s : State) : Out3 := .next (s.access (winOf mb) 0x408 v 0xFFFFFFFF)

/-- MER_CFG_WRITE (R94, R96, R708). -/
def execMerCfgWrite (m : Fin 64) (v : Word) (s : State) : Out3 := .next (s.writeWord (aMER_CFG m) v 0xFFFFFFFF)

/-- MER_VAL_WRITE (R96, R671). -/
def execMerValWrite (m : Fin 64) (hi : Bool) (v : Word) (s : State) : Out3 :=
  .next (s.writeWord (if hi then aMER_VAL_HI m else aMER_VAL_LO m) v 0xFFFFFFFF)

/-- CMP_ARM (R107, R110). -/
def execCmpArm (k : Fin 512) (v : Word) (s : State) : Out3 := .next (s.writeWord (aCMP_CTRL k) v 0xFFFFFFFF)

/-- PORT_RETRAIN (R146). -/
def execPortRetrain (p : Fin 64) (v : Word) (s : State) : Out3 := .next (s.writeWord (aPORT_CTRL p) v 0xFFFFFFFF).settle

/-- SVC_RETRAIN (R178). -/
def execSvcRetrain (n : Fin 64) (v : Word) (s : State) : Out3 := .next (s.writeWord (aSVC_CTRL n) v 0xFFFFFFFF).settle

/-- ENG_DISABLE (R278, R337). -/
def execEngDisable (e : Fin 128) (v : Word) (s : State) : Out3 := .next (s.writeWord (aENG_CTRL e) v 0xFFFFFFFF).settle

/-- RED_SNAP (R241). -/
def execRedSnap (p : Fin 64) (v : Word) (s : State) : Out3 := .next (s.writeWord (aRED_CTRL p) v 0xFFFFFFFF)

/-- RED_CLEAR_ACC (R242). -/
def execRedClearAcc (p : Fin 64) (v : Word) (s : State) : Out3 := .next (s.writeWord (aRED_CTRL p) v 0xFFFFFFFF)

/-- ADC_START (R464). -/
def execAdcStart (c : Fin 4) (v : Word) (s : State) : Out3 := .next (s.writeWord (aADC_CTRL c) v 0xFFFFFFFF).settle

/-- ADC_STOP (R465). -/
def execAdcStop (c : Fin 4) (v : Word) (s : State) : Out3 := .next (s.writeWord (aADC_CTRL c) v 0xFFFFFFFF).settle

/-- DOORBELL (R64 to R66, R642). -/
def execDoorbell (mb : Mb) (hi : Bool) (ring : Word) (s : State) : Out3 :=
  .next (s.access (winOf mb) (if hi then 0x104 else 0x100) ring 0xFFFFFFFF)

/-- COAL_TIMER_EXPIRE (R707). -/
def execCoalTimerExpire (mb : Mb) (s : State) : Out3 :=
  let u := s.get (VI_IRQ_CTRL_coal_us mb)
  match (s.mbx mb).firstAt with
  | some t => if u ≠ 0 ∧ t + us u ≤ s.ct then .next (s.raiseV0 mb) else .next s
  | none => .next s

end Sys2Proof.Machine
end

