-- ==== Sys2Proof/Machine/Timebase.lean ====
section
/-! DEFINITION. The meridian timebase (R91 to R111, R126 to R133): the fabric cycle, source ticks, carrier lock, debug
halt, compare channels and fan outputs; and the checkers that run in every fabric cycle (R530, R546). -/
namespace Sys2Proof.Machine

/-! ### Meridians -/

/-- A meridian clock (R95): step, fraction and offset are taken, the step is added; the ratio counts from the next tick. -/
def State.merClock (s : State) (m : Nat) : State :=
  let x := s.mer m
  let step := s.get (MER_STEP_step m)
  let fr := s.get (MER_STEP_FRAC_frac m)
  let v := (x.value * 65536 + x.frac + step * 65536 + fr) % 2 ^ 64
  s.updMer m (fun y => { y with
    value := v / 65536, frac := v % 65536, step := step, stepFrac := fr, offset := s.get (MER_OFFSET_offset m),
    ratio := s.get (MER_PRESCALE_ratio m) })

/-- A source tick (R94). -/
def State.merTick (s : State) (m : Nat) : State :=
  if !s.merEn m || s.merHeld m then s else
  let x := s.mer m
  let a := x.acc + 65536
  if a < x.ratioEff then s.updMer m (fun y => { y with acc := a })
  else (s.updMer m (fun y => { y with acc := a - x.ratioEff })).merClock m

/-- An edge of the pin of a src 4 meridian in holdover (R133): the phase error is what its angle lies from the nearest
whole tick. A larger one is corrected by 2^20 counts and the meridian runs on at its last rate; at a smaller one the edges
drive it again, with no step. -/
def State.pinBack (s : State) (m : Nat) : State :=
  let x := s.mer m
  let gone := (x.stepx : Int) * ((s.ct : Int) - x.tickAt) / (65536 * (x.edgeGap : Int))
  let phase := x.slewed + gone
  let err := if 2 * phase ≤ x.step then phase else phase - x.step
  if err.natAbs ≤ 2 ^ 20 then
    (s.updMer m (fun y => { y with
      value := toField 48 ((y.value : Int) - y.slewed + (phase - err)), slewed := 0, tickAt := s.ct, lastEdge := some s.ct })).setB
      (MER_STATUS_holdover m) false
  else
    let corr := clampI (-(2 ^ 20)) (2 ^ 20) err
    s.updMer m (fun y => { y with
      value := toField 48 ((y.value : Int) - corr), slewed := y.slewed - corr, lastEdge := some s.ct })

/-- MER_SOURCE_TICK (R94, R133): a tick of the meridian's source; of src 4, an edge of its pin. Before two edges there is
no expected period (DESIGN CHOICE, log 156). -/
def execMerSourceTick (m : Fin 64) (s : State) : Out3 :=
  if 5 ≤ s.get (MER_CFG_src m) then .next s
  else if s.get (MER_CFG_src m) = 4 then
    if s.is (MER_STATUS_holdover m) then .next (if s.merEn m then s.pinBack m else s)
    else
      let s := s.updMer m (fun x => { x with
        edgeGap := (x.lastEdge.map (fun t => s.ct - t)).getD x.edgeGap, lastEdge := some s.ct, tickAt := s.ct })
      .next (s.merTick m)
  else .next (s.merTick m)

/-- MER_PIN_HOLDOVER (R133): no edge for 16 expected periods. -/
def execMerPinHoldover (m : Fin 64) (s : State) : Out3 :=
  let x := s.mer m
  if s.get (MER_CFG_src m) = 4 ∧ s.merEn m ∧ x.edgeGap ≠ 0 ∧ x.lastEdge.any (fun t => decide (t + 16 * x.edgeGap ≤ s.ct)) then
    .next (s.setB (MER_STATUS_holdover m) true)
  else .next s

/-- A src 4 meridian in holdover runs at its last measured rate. -/
def State.pinRun (s : State) (m : Nat) : State :=
  let x := s.mer m
  if s.get (MER_CFG_src m) = 4 ∧ s.is (MER_STATUS_holdover m) ∧ x.edgeGap ≠ 0 ∧ x.tickAt + x.edgeGap ≤ s.ct then
    (s.updMer m (fun y => { y with tickAt := s.ct })).merTick m
  else s

/-- The reference stitches a port carries: of those its src 3 meridians name, the first 8 in meridian order (R168; log 185). -/
def State.portRefs (s : State) (p : Nat) : List Nat :=
  ((((List.range 64).filter (fun m => decide (s.get (MER_CFG_src m) = 3 ∧ s.get (MER_CFG_port m) = p))).map
    (fun m => s.get (MER_CFG_stitch m))).eraseDups).take 8

/-- A reload timestamp of a meridian's reference stitch (R99): the phase error, its correction, lock and loss of lock. -/
def State.carrierRef (s : State) (m g reload : Nat) : State :=
  let x := s.mer m
  let s := (s.updMer m (fun y => { y with lastRef := reload })).setB (MER_STATUS_holdover m) false
  if !s.merEn m then s else
  let off := s.refOffset g
  let back := ((s.ct : Int) - reload) * x.stepx / x.ratioEff
  let err := fromField 32 (toField 32 ((x.value : Int) - back - off))
  let corr := clampI (-(2 ^ 20)) (2 ^ 20) err
  let small := decide (err.natAbs ≤ 2 ^ 22)
  let large := decide (2 ^ 26 < err.natAbs)
  let good := if small then Nat.min 64 (x.good + 1) else 0
  let bad := if large then Nat.min 4 (x.bad + 1) else 0
  let s := s.updMer m (fun y => { y with value := toField 48 ((y.value : Int) - corr), good := good, bad := bad })
  if 64 ≤ good then (s.setB (MER_STATUS_locked m) true).level .merUnlock m false
  else if 4 ≤ bad ∧ s.is (MER_STATUS_locked m) then
    ((s.setB (MER_STATUS_locked m) false).flag (MER_STATUS_unlock_seen m)).level .merUnlock m true
  else s

/-- CARRIER_REF_RX (R99, R168): each src 3 meridian whose reference the stitch is. -/
def execCarrierRefRx (p : Fin 64) (h : UpHdr) (j : Fin 128) (reload : Nat) (_cycle : BitVec 16) (s : State) : Out3 :=
  s.onCell p.val fun (s : State) =>
  let s := (s.upHdr (.port p) h).upScheduled p
  if !(s.portRefs p).contains j.val then .next s.settle else
  .next ((List.range 64).foldl (fun (s : State) (m : Nat) =>
    if s.get (MER_CFG_src m) = 3 ∧ s.get (MER_CFG_port m) = p.val ∧ s.get (MER_CFG_stitch m) = j.val then
      s.carrierRef m (128 * p.val + j.val) reload
    else s) s).settle

/-- CARRIER_HOLDOVER (R99): no reference for 8 expected cycles. -/
def execCarrierHoldover (m : Fin 64) (s : State) : Out3 :=
  let x := s.mer m
  if s.get (MER_CFG_src m) = 3 ∧ s.merEn m ∧ x.lastRef + x.ticksFor (8 * 2 ^ 32) ≤ s.ct then
    .next (s.setB (MER_STATUS_holdover m) true)
  else .next s

/-! ### Debug halt (R104, R105, R678) -/

/-- DEBUG_HALT: JTAG halts a management core, unless debug_lock is in force. -/
def execDebugHalt (s : State) : Out3 :=
  if !s.awake then .next s else
  if s.debugLock then .next s else .next ({ s with debugHalt := true }.setB GLB_STATUS_halt true)

/-- DEBUG_HALT_END: held meridians resume without make-up. -/
def execDebugHaltEnd (s : State) : Out3 :=
  if !s.awake then .next s else
  let held := (List.range 64).filter s.merHeld
  let s := { s with debugHalt := false }.setB GLB_STATUS_halt false
  .next (held.foldl (fun (s : State) (m : Nat) => (s.updMer m (fun x => { x with liveAt := some s.ct })).lateOn m) s)

/-! ### Compare channels (R106 to R111) -/

/-- Whether software wrote a field in this cycle. -/
def State.wroteNow (s : State) (a : Nat) : Bool := s.swTouched.any (fun x => decide (x.1 = a))

/-- The action of a match, as the control word `w` names it. -/
def State.cmpAct (s : State) (k : Nat) (w : State) : State :=
  let arg := w.get (CMP_CTRL_arg k)
  let given := s.is ⟨aMER_GPIO (arg / 32), arg % 32, arg % 32⟩
  let drive := fun (b : Bool) =>
    let m : BitVec 64 := BitVec.ofNat 64 (2 ^ arg)
    if given then { s with gpioDriven := s.gpioDriven ||| m, gpio := if b then s.gpio ||| m else s.gpio &&& ~~~m } else s
  match w.get (CMP_CTRL_action k) with
  | 1 => s.event afMb 0x050A (leBytes 2 k)
  | 2 => drive true
  | 3 => drive false
  | 4 => drive (!s.gpio.getLsbD arg)
  | 5 => s.adcTrigger (arg % 4)
  | _ => s

/-- A channel matches: it sets matched, disarms or moves on, and acts. A channel armed or given a value by software in this
cycle keeps what was written; the match is of the old words (R110). -/
def State.cmpMatch (s : State) (k : Nat) : State :=
  let w := s.beforeCmp k
  let per := s.get (CMP_PERIOD_period k)
  let v := (w.cmpVal k + (if per = 0 then 2 ^ 32 else per)) % 2 ^ 48
  let s := { s with cmpDone := s.cmpDone ++ [k] }.flag (CMP_CTRL_matched k)
  let s : State :=
    if w.is (CMP_CTRL_periodic k) then
      if s.wroteNow (aCMP_VAL_LO k) || s.wroteNow (aCMP_VAL_HI k) then s
      else (s.putWord (aCMP_VAL_LO k) (BitVec.ofNat 32 v)).putWord (aCMP_VAL_HI k)
        ((s.word (aCMP_VAL_HI k)).withBits 15 0 (v / 2 ^ 32))
    else if s.wroteNow (aCMP_CTRL k) then s
    else s.setB (CMP_CTRL_arm k) false
  s.cmpAct k w

/-- Whether a channel matches in this cycle: once, of the words it had before the cycle's writes (R105 to R107, R110). -/
def State.cmpDue (s : State) (k : Nat) : Bool :=
  !s.cmpDone.contains k && (s.beforeCmp k).cmpHit k && s.merJudged ((s.beforeCmp k).cmpMer k)

/-- The channels that software has set up, ascending. -/
def State.cmpSet (s : State) : List Nat :=
  (s.regs.filter (fun x => decide (0x5000 ≤ x.1 ∧ x.1 < 0x7000 ∧ x.1 % 16 = 8))).map (fun x => (x.1 - 0x5000) / 16)

/-- COMPARE_MATCH: the channel's match, after those of lower channels that match in the same cycle (R109). -/
def execCompareMatch (k : Fin 512) (s : State) : Out3 :=
  if !s.cmpDue k then .next s
  else .next (((s.cmpSet.filter (fun j => decide (j < k.val) && s.cmpDue j)) ++ [k.val]).foldl (fun s j => s.cmpMatch j) s).settle

/-! ### Fan outputs (R126 to R129) -/

/-- FAN_PWM_RELOAD: at the end of a period, period and duty together. -/
def execFanPwmReload (n : Fin 16) (s : State) : Out3 :=
  let x := s.fan n
  if s.ct < x.startedAt + 64 * Nat.max 1 x.period then .next s else
  let s := s.updFan n (fun y => { y with period := s.get (FAN_PWM_period n), duty := s.get (FAN_PWM_duty n), startedAt := s.ct })
  -- a write of this cycle meets the reload and takes effect at it (R127, R679)
  .next ((s.touch (FAN_PWM_period n) (.max (aFAN_PWM n) 15 0 0)).touch (FAN_PWM_duty n) (.max (aFAN_PWM n) 31 16 0))

/-- Whether FANn is at its active level: in reset always, disabled never (R128, R129). -/
def State.fanActive (s : State) (n : Nat) : Bool :=
  let x := s.fan n
  if s.rst.held || decide (s.unit = 0) then true
  else s.is ⟨aFAN_CTRL, n, n⟩ && decide (2 ≤ x.period) &&
    decide (x.period ≤ x.duty ∨ (s.ct - x.startedAt) / 64 < x.duty)
/-- The level FANn drives. -/
def State.fanLevel (s : State) (n : Nat) : Bool := s.fanActive n != s.is ⟨aFAN_CTRL, 16 + n, 16 + n⟩

/-! ### The fabric cycle -/

/-- The count of a cycle (R91, R92): 1, and one more or less where a slew of 1 per 1,024 cycles falls due. -/
def State.countCycle (s : State) : State :=
  let d := s.pair.partnerDiff
  if (s.unit = 2 ∨ s.unit = 3) ∧ d ≠ 0 then
    if 1 < s.pair.slewLeft then { s.updPair (fun x => { x with slewLeft := x.slewLeft - 1 }) with ct := s.ct + 1 }
    else
      let d' := if 0 < d then d - 1 else d + 1
      let s := { s.updPair (fun x => { x with slewLeft := 1024, partnerDiff := d' }) with ct := if 0 < d then s.ct + 2 else s.ct }
      (s.setB CT_STATUS_slewing (decide (d' ≠ 0))).setB CT_STATUS_aligned (decide (d'.natAbs ≤ 2))
  else { s with ct := s.ct + 1 }

/-- The causes of event kinds are gone in the cycle after their raise (R530). -/
def State.eventsGone (s : State) : State :=
  (s.faults.insts.filter (fun (x : Inst) => eventKinds.contains x.kind && !x.held)).foldl (fun (s : State) (x : Inst) =>
    s.gone x.kind x.inst) s

/-- An armed checker of the unit finds its inverted check bits in this cycle (R546). -/
def State.injectNow (s : State) : State :=
  match s.faults.inject with
  | some (c, bits, _, i) =>
    let hit := fun (k : Kind) (inst die : Nat) => s.injectUse.raiseAs k inst die true
    match c with
    | 0 => if bits = 1 then hit .sramCorr (i / 256) (i / 256) else hit .sramUncorr (i / 256) (i / 256)
    | 3 => hit .bridgeCrc (i / 256) (i / 256)
    | 4 => hit .regParity 4 4
    | 5 => hit .lockstep i 4
    | 6 => hit .secKey 0 4
    | _ => s
  | none => s

/-- Level kinds of the unit's checkers end after 64 clean cycles (R530). -/
def State.cleanCycle (s : State) (was : State) : State :=
  (s.faults.insts.filter (fun (x : Inst) => !x.held &&
      (x.kind = .sramUncorr || x.kind = .regParity || x.kind = .secBoot || (x.kind = .secKey && s.trust.keyBad.isEmpty)))).foldl (fun (s : State) (x : Inst) =>
    if s.get (FLT_KCNT_raises x.kind.code) ≠ was.get (FLT_KCNT_raises x.kind.code) then s.updInst x (fun y => { y with clean := 0 })
    else s.eval x.kind x.inst false) s

/-- PORT_BUDGET at each millisecond: scheduled cells of the last one, Q15 of the capacity, 195,312.5 per lane (R148, R149). -/
def State.portUse (s : State) (p : Nat) : State :=
  let x := s.port p
  let w := s.get (PORT_STATUS_width p)
  let q := fun (n : Nat) => if w = 0 then 0 else Nat.min 65535 (divRound (n * 32768 * 2) (390625 * w : Nat)).toNat
  ((s.setF (PORT_BUDGET_up_use p) (q x.upN)).setF (PORT_BUDGET_down_use p) (q x.downN)).updPort p (fun y => { y with upN := 0, downN := 0 })

/-- What runs in every fabric cycle of a unit out of reset. -/
def State.cycleChecks (s : State) : State :=
  let s := s.eventsGone
  let s := s.injectNow.cleanCycle s
  let s := (s.mers.map (·.1)).foldl (fun (s : State) (m : Nat) => s.pinRun m) s
  let s := (s.ports.map (·.1)).foldl (fun (s : State) (p : Nat) => (s.hints p).pump (.port (Fin.ofNat 64 p))) s
  let s := if s.ct % ms 1 = 0 then (s.ports.map (·.1)).foldl (fun (s : State) (p : Nat) => s.portUse p) s else s
  s.updTrust (fun t => { t with heldSince := if s.onTrial && s.holds then some (t.heldSince.getD s.ct) else none })

/-- FABRIC_CYCLE (R91): the rungs the last cycle left due are taken in it (R531); a new cycle begins, and what happened in
the last one is no longer the same cycle's. -/
def execFabricCycle (s : State) : Out3 :=
  let s := { s with
    hwTouched := [], swTouched := [], collided := [], cmpOld := [], cmpDone := [], out := [], hdrs := [], debugLock := s.is GLB_CTRL_debug_lock,
    faults := { s.faults with kindOld := [] } }
  let s := s.when (decide (s.unit ≠ 0) && !s.rst.held) State.settle
  let s := (s.setF GLB_STATUS_debug_locked s.debugLock.toNat).countCycle
  if s.rst.held ∨ s.unit = 0 then .next s else
  let s := s.adcOverruns.cycleChecks.settle
  .next (s.dueRestart.getD s)

end Sys2Proof.Machine
end

