-- ==== Sys2Proof/Machine/Ephemeris.lean ====
section
/-! DEFINITION. The ephemeris at work (R115 to R125, R155, R365, R385, R655, R656): commit points, triggers, and the
commands that post, cancel and ask for entries. -/
namespace Sys2Proof.Machine

/-! ### Triggers and commit points (R105, R116, R117) -/

/-- Whether an entry's trigger is judged. -/
def State.trigLive (s : State) : EphTrig → Bool
  | .time _ => true
  | .mer m _ => s.merLive m

/-- Whether an entry's trigger has come. -/
def State.trigDue (s : State) : EphTrig → Bool
  | .time t => decide (t ≤ s.ct)
  | .mer m v => s.merJudged m && merMatched (s.mer m).visible v

/-- The entry with the cycles its skein actions take as their meridians run now. -/
def State.replan (s : State) (e : EphEntry) : EphEntry :=
  { e with cycles := (e.acts.filterMap EphAct.skein?).map (fun k => (k, s.cycleFor k (s.trigTime e.trig) e.enteredAt)) }

/-- Whether an entry's commit point has come: at its trigger at the latest (DEDUCED, log 157). -/
def State.commitDue (s : State) (e : EphEntry) : Bool :=
  e.st = .pending && (s.trigDue e.trig || (s.trigLive e.trig && decide (s.commitAt (s.replan e) ≤ (s.ct : Int))))

/-- Entries in the order in which they were entered. -/
def byOrd (l : List (Nat × EphEntry)) : List Nat :=
  (l.foldl (fun a x => a.takeWhile (fun y => decide (y.2.ord < x.2.ord)) ++ [x] ++
    a.dropWhile (fun y => decide (y.2.ord < x.2.ord))) []).map (·.1)

/-- A skein an issuer may act on: known, its own, not latched. -/
def State.skOk (s : State) (h k : Nat) : Bool :=
  (s.sk k).known && (decide (256 ≤ h) || decide (s.skOwner k = h)) && decide (s.skSt k ≠ 5)
/-- A rectifier that takes PMBus writes: in the pattern and not failed. -/
def State.rectOk (s : State) (r : Nat) : Bool := decide ((s.rect r).state ≠ 0 ∧ (s.rect r).state ≠ 6)

/-- The check of one action at the commit point (R116). -/
def State.actOk (s : State) (h : Nat) : EphAct → Bool
  | .target k _ _ => s.skOk h k
  | .count k _ => s.skOk h k
  | .rate k _ m => s.skOk h k && s.merEn m && decide ((s.mer m).stepx ≠ 0)
  | .samples _ k _ => s.skOk h k
  | .command op p =>
    if (timedAct op p).isSome ∨ op = 0x811 then s.skOk h (u16 p 0)
    else if op = 0xC11 then s.assigned (u16 p 0) else true
  | .rectVout r _ => s.rectOk r
  | .rectOper r _ => s.rectOk r
  | .regWrite _ _ _ | .plan _ _ | .busSet _ => true

/-- The action of a skein that an ephemeris action is, if it is one. -/
def EphAct.act? (h : Nat) : EphAct → Option (Nat × SkAct)
  | .target k mv slew => some (k, .target mv slew)
  | .count k n => some (k, .count n h)
  | .rate k hz m => some (k, .rate hz m)
  | .samples b k n => some (k, .samples b (if n = 0 then none else some n))
  | .command op p => (timedAct op p).map (fun a => (u16 p 0, a))
  | _ => none

/-- A skein action reaches its engine for its cycle. -/
def State.deliver (s : State) (h : Nat) (cyc : List (Nat × Nat)) (a : EphAct) : State :=
  match a.act? h with
  | some (k, x) => if (s.sk k).engine.isNone then s else s.skAct k (Tbl.get cyc k 0) x
  | none => s

/-- The actions of an entry that its engines still hold take their place behind those delivered since (R119). -/
def State.redeliver (s : State) (j : Nat) : State :=
  let e := s.ephE j
  e.acts.foldl (fun (s : State) (a : EphAct) => match a.act? e.issuer with
    | some (k, x) =>
      let y := (Tbl.get e.cycles k 0, x)
      if (s.sk k).acts.contains y then s.updSk k (fun z => { z with acts := z.acts.filter (fun w => decide (w ≠ y)) ++ [y] }) else s
    | none => s) s

/-- An entry commits, or aborts (R116). Of entries with one trigger the later one's actions stay the later ones (R119). -/
def State.commitEntry (s : State) (i : Nat) : State :=
  let e := s.replan (s.ephE i)
  if e.acts.all (fun a => s.actOk e.issuer a) then
    let s := s.updEphE i (fun _ => { e with st := .committed })
    let s := e.acts.foldl (fun (s : State) (a : EphAct) => s.deliver e.issuer e.cycles a) s
    (byOrd (s.eph.filter (fun x => decide (x.2.st = .committed ∧ e.ord < x.2.ord ∧ s.trigTime x.2.trig = s.trigTime e.trig)))).foldl
      (fun (s : State) (j : Nat) => s.redeliver j) s
  else
    let s := (s.updEphE i (fun _ => { e with st := .aborted, endedAt := s.ct })).ephPublish
    let s := (s.count EPH_STATUS_aborted).raise .ephAbort i
    -- the raise tells the AF, unless its class is 0
    if e.issuer < 256 ∨ (e.issuer = afMb ∧ (s.kindCfg .ephAbort i).1 = 0) then s.ringEvent e.issuer 0x11 i 1 4 [] else s

/-- EPH_COMMIT. -/
def execEphCommit (i : Fin 4096) (s : State) : Out3 :=
  if s.commitDue (s.ephE i) then .next (s.commitEntry i).settle else .next s

/-! ### Actions at the trigger (R117, R120, R155, R365, R385) -/

/-- A command of the entry applies: settings kept, budgets, breakers and policies at once. -/
def State.applyTimed (s : State) (op : Nat) (p : List Byte) : State :=
  match op with
  | 0x811 => s.applyPolicy p
  | 0xC03 => s.applyBreaker p
  | 0xC11 => s.applyBudget p
  | 0xC13 => s.applyBudgetPolicy p
  | _ => match settingKind op with
    | some kind => s.keep kind (u16 p 0) p
    | none => s

/-- A skein action of a skein whose job runs on no engine (log 22). -/
def State.idleAct (s : State) (h : Nat) (a : EphAct) : State :=
  match a.act? h with
  | some (k, x) =>
    if (s.sk k).engine.isSome then s else
    match x with
    | .load (.power op) => s.powerLoad k op
    | x => (s.takeAct k (s.cycleNow k) x).1
  | none => s

/-- The hold-up step that an entry applied: taken, or restored, after which it may apply again (R385, R388, R389). -/
def State.stepApplied (s : State) (o : Option Nat) : State :=
  match o with
  | none => s
  | some i =>
    let n := i % 8
    let on := decide (i < 8)
    let bit := 2 ^ n
    let old := s.get HU_STATUS_steps_applied
    let s := s.updShelf (fun h => { h with
      applied := if on then h.applied.filter (· ≠ n) ++ [n] else h.applied.filter (· ≠ n),
      posted := if on then h.posted else h.posted.filter (· ≠ n) })
    s.setF HU_STATUS_steps_applied (if on && decide (old / bit % 2 = 0) then old + bit else old)

/-- An action applies at the trigger. -/
def State.trigAct (s : State) (h : Nat) (a : EphAct) : State :=
  let s := s.idleAct h a
  match a with
  | .regWrite off v m => if listed .bar2 off then s.writeWord off v m else s.unmapped .bar2 true
  | .command op p => s.applyTimed op p
  | .target k _ _ => if (s.sk k).engine.isNone then s.pubSkein k else s
  | .plan p w => (s.updPort p (fun x => { x with planWidth := w })).setB (PORT_STATUS_plan_active p) (decide (w < s.portCap p))
  | .rectOper r v =>
    if v = 0x80 then (if (s.rect r).state = 1 then s.rectStart r else s)
    else if (s.rect r).state = 3 then s.startDrain r false else s
  | .rectVout r mv => s.pmWrite r 0x21 (voutRaw (s.rect r).voutExp mv)
  | .busSet mv =>
    let s := s.setF BUS_SETPOINT_setpoint_mv mv
    s.onlineRects.foldl (fun (s : State) (r : Nat) => s.rectVout r) s
  | .count _ _ | .rate _ _ _ | .samples _ _ _ => s

/-- An entry applies (R117, R656). -/
def State.applyEntry (s : State) (i : Nat) : State :=
  let e := s.ephE i
  let s := e.acts.foldl (fun (s : State) (a : EphAct) => s.trigAct e.issuer a) s
  let s := (s.stepApplied e.holdupStep).updEphE i (fun x => { x with st := .applied, endedAt := s.ct })
  let s := s.ephPublish
  let s := if e.optimiser then s.count OPT_CNT_applied else s
  if e.issuer = fwIssuer then s else s.event e.issuer 0x0507 (leBytes 4 (i + 4096 * e.gen))

/-- What is due of an entry: its commit, and at its trigger its application. -/
def State.ephStep (s : State) (i : Nat) : State :=
  let s := if s.commitDue (s.ephE i) then s.commitEntry i else s
  let e := s.ephE i
  if e.st = .committed && s.trigDue e.trig then s.applyEntry i else s

/-- EPH_TRIGGER: the entry applies, after those entered before it whose triggers have come (R119). -/
def execEphTrigger (i : Fin 4096) (s : State) : Out3 :=
  let e := s.ephE i
  if !(e.live && s.trigDue e.trig) then .next s else
  let before := byOrd (s.eph.filter (fun x => x.2.live && decide (x.2.ord < e.ord) && s.trigDue x.2.trig))
  .next ((before ++ [i.val]).foldl (fun (s : State) (j : Nat) => s.ephStep j) s).settle

/-! ### EPH_POST (R121, R122) -/

/-- The rate list of a skein: set, or one of its pattern rate and carrier (R122). -/
def State.rateList (s : State) (k : Nat) : List (Nat × Nat) :=
  let x := s.sk k
  if x.rates.isEmpty then
    match s.pattern.skeins.find? (fun (y : PatSkein) => decide (y.id = k)) with
    | some y => [(y.hz, y.carrier)]
    | none => [(x.hz, x.carrier)]
  else x.rates

/-- A signed 64-bit value. -/
def i64 (p : List Byte) (i : Nat) : Int := fromField 64 (u64 p i)
def outsideI (a : Nat) (v : Int) (lo hi : Nat) : Nat × Bool := (a, decide (v < lo ∨ (hi : Int) < v))

/-- The failing fields of action i of a post (R122). -/
def State.postActBad (s : State) (mb : Nat) (p : List Byte) (i : Nat) : List (Nat × Bool) :=
  let b := 16 + 16 * i
  let code := u16 p b
  let k := u16 p (b + 2)
  let v := i64 p (b + 8)
  let own := (b + 2, s.skeinBad mb k)
  match code with
  | 1 => [own, resv p (b + 4) (b + 8), outsideI (b + 8) v (s.sk k).lim.tgtMin (s.sk k).lim.tgtMax]
  | 2 => [own, resv p (b + 4) (b + 8), outsideI (b + 8) v (s.sk k).lim.nMin (s.sk k).lim.nMax]
  | 3 =>
    let m := u32 p (b + 4)
    [own, (b + 4, decide (64 ≤ m) || !s.merEn m || decide ((s.mer m).stepx = 0) ||
        !(s.rateList k).any (fun r => decide ((r.1 : Int) = v ∧ r.2 = m))),
      (b + 8, !(s.rateList k).any (fun r => decide ((r.1 : Int) = v)))]
  | 4 => [(b + 2, decide (k ≠ 0)), (b + 4, decide (u32 p (b + 4) % 4 ≠ 0 ∨ 0x100000 ≤ u32 p (b + 4)))]
  | _ => [(b, true)]

/-- The action i of a post. -/
def postAct (p : List Byte) (i : Nat) : EphAct :=
  let b := 16 + 16 * i
  let k := u16 p (b + 2)
  match u16 p b with
  | 1 => .target k (u64 p (b + 8)) 0
  | 2 => .count k (u64 p (b + 8))
  | 3 => .rate k (u64 p (b + 8)) (u32 p (b + 4))
  | _ => .regWrite (u32 p (b + 4)) (BitVec.ofNat 32 (u32 p (b + 8))) (BitVec.ofNat 32 (u32 p (b + 12)))

def postActs (p : List Byte) : List EphAct := (List.range (u8 p 1)).map (fun i => postAct p i)

/-- The trigger of a post; kind 2 takes the carrier of the skein now. -/
def State.postTrig (s : State) (p : List Byte) : EphTrig :=
  match u8 p 0 with
  | 0 => .time (u64 p 8)
  | 1 => .mer (u16 p 2) (u64 p 8)
  | _ => .mer (s.sk (u16 p 2)).carrier (u64 p 8)

/-- Whether an action is of scope U: the unit must be active (R647). -/
def EphAct.unitScope : EphAct → Bool
  | .regWrite _ _ _ => true
  | .command op _ => (cmdInfo op).any (fun i => decide (i.scope = .u))
  | _ => false

def ephPostChecks (s : State) (mb : Nat) (p : List Byte) : Checks :=
  let kind := u8 p 0
  let obj := u16 p 2
  let acts := postActs p
  let trig := s.postTrig p
  {
      denied := decide (mb ≠ afMb) && (decide (kind = 1) || (List.range (Nat.min 13 (u8 p 1))).any (fun i => decide (u16 p (16 + 16 * i) = 4))),
      bad := [(0, decide (2 < kind)), outside 1 (u8 p 1) 1 13,
        (2, match kind with
          | 0 => decide (obj ≠ 0)
          | 1 => decide (63 < obj)
          | _ => s.skeinBad mb obj),
        resv p 4 8,
        (8, match trig with
          | .time t => decide (t < s.ct + us 10)
          | .mer m v => s.merEn m && merMatched (s.mer m).visible v)] ++
        (if kind = 0 then [] else [resv p 14 16]) ++
        (List.range (Nat.min 13 (u8 p 1))).flatMap (fun i => s.postActBad mb p i),
      ports := (acts.filterMap EphAct.skein?).map (fun k => (s.sk k).slot),
      notOwner := !s.active && acts.any EphAct.unitScope,
      busy := if !s.ephRoom mb then some 3
        else if (s.raisePlan (s.raisesOf acts)).isNone then some 6 else none }

/-- EPH_POST: the entry is posted once each raised job has room, after its planned move where it needs one (R122). -/
def execEphPost (mb : Mb) (k : Fin 64) (s : State) : Out3 :=
  .next (s.command mb k 0x310 (fun s p => ephPostChecks s mb p)
    (fun s p => s.startPost { slot := some (mb.val, k.val), trig := s.postTrig p, acts := postActs p, body := p })).settle

/-! ### EPH_CANCEL and EPH_QUERY (R124, R125) -/

/-- The index of an entry number, when its generation is current. -/
def State.entryOf (s : State) (n : Nat) : Option Nat :=
  let e := s.ephE (n % 4096)
  if e.st ≠ .free ∧ e.gen = n / 4096 then some (n % 4096) else none

/-- The actions of the entry that a cancel names: they change if it has its effect (R48). -/
def State.cancelActs (s : State) (p : List Byte) : List EphAct :=
  match s.entryOf (u32 p 0) with
  | some i => (s.ephE i).acts
  | none => []

/-- EPH_CANCEL: a commit point of this cycle wins. -/
def execEphCancel (mb : Mb) (k : Fin 64) (s : State) : Out3 :=
  .next (s.command mb k 0x311
    (fun s p => {
      bad := [(0, decide (mb.val ≠ afMb) && (match s.entryOf (u32 p 0) with
        | some i => decide ((s.ephE i).issuer ≠ mb.val)
        | none => false))],
      ports := ((s.cancelActs p).filterMap EphAct.skein?).map (fun k => (s.sk k).slot),
      notOwner := !s.active && (s.cancelActs p).any EphAct.unitScope })
    (fun s p =>
      match s.entryOf (u32 p 0) with
      | none => s.finish mb k 5 0 0
      | some i =>
        let s := if s.commitDue (s.ephE i) then s.commitEntry i else s
        match (s.ephE i).st with
        | .pending => ((s.ephEnd i .cancelled).mirror (.ephCancel (u32 p 0))).finish mb k 0 0 0
        | .committed => s.finish mb k 5 1 0
        | _ => s.finish mb k 5 0 0)).settle

/-- EPH_QUERY. -/
def execEphQuery (mb : Mb) (k : Fin 64) (s : State) : Out3 :=
  .next (s.command mb k 0x312
    (fun s p => {
      bad := [(0, decide (mb.val ≠ afMb) && (match s.entryOf (u32 p 0) with
        | some i => decide ((s.ephE i).issuer ≠ mb.val)
        | none => false))] })
    (fun s p =>
      match s.entryOf (u32 p 0) with
      | none => s.finish mb k 5 0 0
      | some i =>
        let e := s.ephE i
        match e.st with
        | .applied => s.finish mb k 0 1 e.endedAt
        | .aborted => s.finish mb k 0 2 e.endedAt
        | .cancelled => s.finish mb k 0 3 e.endedAt
        | _ => s.finish mb k 0 0 0))

end Sys2Proof.Machine
end

