-- ==== Sys2Proof/Machine/Mailbox.lean ====
section
/-! DEFINITION. Mailbox transport from the cards and mailbox administration (R50 to R57, R76, R82 to R88, R652 to R654,
R661, R662, R676): MGMT cells, tokens, the commands of VIs, objects and pattern banks. -/
namespace Sys2Proof.Machine

/-! ### MGMT cells (R52 to R57) -/

/-- A segment reaches a command slot; the last one submits it, and tells the partner (R518). -/
def State.segment (s : State) (p v k seg : Nat) (data : List Byte) : State :=
  let key := slotKey v k
  if (s.slotC key).phase ≠ .free then s.dropBell v else
  let d := (data ++ List.replicate 20 0).take (if seg = 12 then 16 else 20)
  let s := { s with mem := Mem.writeBytes Mem.blank s.mem (winBase v + 0x4000 + 256 * k + 20 * seg) d }
  let s := s.updSlotC key (fun x => { x with
    segs := x.segs.filter (· ≠ seg) ++ [seg], segsAt := if x.segs.isEmpty then s.ct else x.segsAt })
  if (s.slotC key).segs.length < 13 then s else
  let b := s.slotBytes v k
  let ps := s.get PAIR_STATUS_partner_state
  let both := s.is PAIR_STATUS_link_up && decide (ps = 2 ∨ ps = 3)
  let s := s.updSlotC key (fun x => { x with segs := [], mirrored := both })
  (s.mirror (.mgmtSlot (Fin.ofNat 257 v) (Fin.ofNat 64 k) (Fin.ofNat 64 p) b)).submit v k b (some p)

/-- A kind 0 cell delivered (R53, R54, R706): on the unit that owns the port. -/
def State.mgmtSegment (s : State) (p : Fin 64) (fn : Fin 4) (k : Fin 64) (seg : Fin 16) (data : List Byte) : State :=
  match s.mapped p fn with
  | some v => if s.ownsPort p && s.mailboxOpen v && decide (seg.val ≤ 12) then s.segment p v k seg data else s
  | none => s

/-- MGMT_SEGMENT_TIMEOUT (R54): 100 µs after the first segment. -/
def execMgmtSegmentTimeout (mb : Mb) (k : Fin 64) (s : State) : Out3 :=
  let x := s.slotC (slotKey mb k)
  if !x.segs.isEmpty && decide (x.segsAt + us 100 ≤ s.ct) then
    .next ((s.updSlotC (slotKey mb k) (fun y => { y with segs := [] })).count (VI_DOORBELL_DROP_CNT_count mb))
  else .next s

/-- A kind 2 cell delivered (R56, R676): one word of the VI's window below 0x1000, and the reply. -/
def State.mgmtWindow (s : State) (p : Fin 64) (fn : Fin 4) (off : BitVec 16) (write : Bool) (v : Word) : State :=
  match s.mapped p fn with
  | none => s
  | some vi =>
    if !s.ownsPort p then s else
    let o := off.toNat
    let a := winBase vi + o
    let r : State × Word :=
      if o % 4 ≠ 0 ∨ 0x1000 ≤ o then (s, 0)
      else if write then
        let t := s.writeWord a v 0xFFFFFFFF
        (t, t.regShow a)
      else s.readWord a
    r.1.emit (.mgmt p fn 2 0 (leBytes 2 o ++ leBytes 1 write.toNat ++ [0] ++ leBytes 4 r.2.toNat))

/-! ### Control tokens (R76) -/

/-- TOKEN_REFILL. -/
def execTokenRefill (mb : Mb) (s : State) : Out3 :=
  let m := s.mbx mb
  if m.tokens < 4 ∧ m.tokenAt + us 10 ≤ s.ct then
    .next (s.updMbx mb (fun x => { x with tokens := x.tokens + 1, tokenAt := x.tokenAt + us 10 }))
  else .next s

/-! ### MBX_NOP, MBX_QUERY, MBX_ABORT (R652 to R654) -/

/-- MBX_NOP. A slot with an opcode that *Command index* lacks fails check 3 here (R645). -/
def execMbxNop (mb : Mb) (k : Fin 64) (s : State) : Out3 :=
  let op := (s.slotC (slotKey mb k)).opcode
  .next (s.command mb k (if (cmdInfo op).isNone then op else 0) (fun _ _ => {}) (fun s _ => s.okay mb k))

/-- The busy slot a handle of this mailbox names (R67). -/
def State.handleSlot (s : State) (mb h : Nat) : Option Nat :=
  let j := h / 2 ^ 18 % 64
  let c := s.slotC (slotKey mb j)
  if h / 2 ^ 24 = mb % 256 ∧ c.phase ≠ .free ∧ h % 2 ^ 18 = c.gen then some j else none

/-- MBX_QUERY. -/
def execMbxQuery (mb : Mb) (k : Fin 64) (s : State) : Out3 :=
  .next (s.command mb k 0x101 (fun _ _ => {}) (fun s p =>
    match s.handleSlot mb (u32 p 0) with
    | none => s.finish mb k 5 0 0
    | some j =>
      let c := s.slotC (slotKey mb j)
      let info := if c.phase = .started then 2 else if c.phase = .waiting && s.heldBack mb j then 0 else 1
      s.finish mb k 0 info (c.opcode + 2 ^ 16 * (c.acceptedAt % 2 ^ 48))))

/-- MBX_ABORT: the aborted command, what it held, then the abort. -/
def execMbxAbort (mb : Mb) (k : Fin 64) (s : State) : Out3 :=
  .next (s.command mb k 0x102
    (fun _ p => { bad := [(0, decide (u32 p 0 / 2 ^ 18 % 64 = k.val ∧ u32 p 0 / 2 ^ 24 = mb.val % 256))] })
    (fun s p =>
      match s.handleSlot mb (u32 p 0) with
      | none => s.finish mb k 5 0 0
      | some j =>
        if (s.slotC (slotKey mb j)).phase ≠ .waiting then s.finish mb k 2 2 0
        else (s.finish mb j 6 1 0).okay mb k))

/-! ### VI_ASSIGN, VI_RELEASE, VI_MAP (R50, R82 to R86) -/

/-- VI_ASSIGN. -/
def execViAssign (mb : Mb) (k : Fin 64) (s : State) : Out3 :=
  .next (s.command mb k 0x110
    (fun s p =>
      let v := u16 p 0
      let waits := s.trust.queue.any (fun c => match c with
        | .viKey _ _ w => decide (w = v)
        | _ => false)
      { bad := [outside 0 v 0 255], busy := if s.assigned v || waits then some 2 else s.entropyBusy })
    (fun s p => s.consume (.viKey mb k (u16 p 0)))).settle

/-- Captures of a VI still in staging are discarded before its key goes (R569): stitches not yet staged whole, and
segments queued and not started. -/
def State.dropStaged (s : State) (v : Nat) : State :=
  let s := s.updNv (fun n => { n with
    caps := n.caps.map (fun (c : Capture) => { c with left := c.left.filter (fun x => decide (s.stOwner x.1 ≠ v)) }),
    queue := n.queue.filter (fun w => w.started || !(decide (w.region = 5) && decide (w.copy.holder = v))) })
  s.capFlush

/-- Doorbells and segments of the release's own cycle are not counted (R84, R706). -/
def State.uncount (s : State) (v : Nat) : State :=
  match (s.mbx v).counted with
  | some (t, dup, n) =>
    if t ≠ s.ct then s else
    let s := (s.setB (VI_STATUS_dup_doorbell v) dup).setF (VI_DOORBELL_DROP_CNT_count v) n
    { s with hwTouched := s.hwTouched.filter (fun x => match x with
        | .set a _ _ _ => decide (a ≠ aVI_STATUS v)
        | .add a _ _ _ => decide (a ≠ aVI_DOORBELL_DROP_CNT v)
        | _ => true) }
  | none => s

/-- A slot whose command a release discards is free with the next generation, so that no handle of the old assignment is
current (R84, R86); one that would have been accepted in the release's cycle never was (R706). -/
def CmdSlot.discard (x : CmdSlot) (ct : Nat) : CmdSlot :=
  let fresh := decide (x.acceptedAt = ct)
  { x with
    phase := .free, orderedAfter := none, viaPort := none, mirrored := false,
    gen := if fresh then x.gen else (x.gen + 1) % 2 ^ 18,
    left := if fresh then x.left else ((x.gen, ct) :: x.left).filter (fun g => decide (ct < g.2 + sec 1)) }

/-- The steps of R84 before the release completes. A completion that waits for room in the ring is kept. -/
def State.releaseVi (s : State) (v : Nat) : State :=
  if !s.assigned v then s else
  let s := ((s.uncount v).forgetWaits (fun m _ => decide (m = v))).dropStaged v
  let s := (s.updPair (fun x => { x with mirror := x.mirror.filter (fun m => decide (m.mb ≠ v)) })).updTrust (fun t => { t with
    queue := t.queue.filter (fun c => decide (c ≠ .keyFix v)) })
  let at_ := fun (s : State) (f : Phase) => (s.mbx v).order.filter (fun k => decide ((s.slotC (slotKey v k)).phase = f))
  let s := (at_ s .started).foldl (fun (s : State) (k : Nat) => s.post1 v { slot := k, status := 6, info := 2, result := 0 }) s
  let s := (at_ s .waiting).foldl (fun (s : State) (k : Nat) =>
    (s.updSlotC (slotKey v k) (fun x => x.discard s.ct)).setB (VI_SLOT_BUSY_bit v k) false) s
  let s := (List.range 64).foldl (fun (s : State) (k : Nat) =>
    if (s.slotC (slotKey v k)).segs.isEmpty then s else s.updSlotC (slotKey v k) (fun x => { x with segs := [] })) s
  let s := s.updMbx v (fun m => { m with order := at_ s .done, deficit := 0, keyGen := none, key := none, wrap0 := none, wrap1 := none })
  let s := s.ephEndAll (fun e => decide (e.issuer = v))
  -- what its key encrypts is unreadable without it: window records and traces
  let s := { s with stitches := s.stitches.map (fun (x : Nat × Stitch) => (x.1, { x.2 with ring := x.2.ring.filter (fun r => decide (r.1 ≠ v)) })) }
  let s := { s with engines := s.engines.map (fun (x : Nat × Engine) =>
    if x.2.trace.owner = v then (x.1, { x.2 with trace := { x.2.trace with records := [] } }) else x) }
  ((s.updTrust (fun t => { t with keyBad := t.keyBad.filter (· ≠ v) })).setB (VI_STATUS_assigned v) false).pubDrbg

/-- VI_RELEASE: of an unassigned VI, no effect. -/
def execViRelease (mb : Mb) (k : Fin 64) (s : State) : Out3 :=
  .next (s.command mb k 0x111 (fun _ p => { bad := [outside 0 (u16 p 0) 0 255] })
    (fun s p => (s.releaseVi (u16 p 0)).okay mb k)).settle

/-- The VI a slot function will have after its next cast-on. -/
def State.mappedNext (s : State) (i : Nat) : Option Nat :=
  Tbl.get s.viMapNext i (s.mapped (i / 4) (i % 4))
def State.applyMap (s : State) (p : List Byte) : State :=
  { s with viMapNext := Tbl.put s.viMapNext (4 * u8 p 0 + u8 p 1) (if u16 p 2 = 0xFFFF then none else some (u16 p 2)) }

/-- VI_MAP: in force from the slot's next cast-on. -/
def execViMap (mb : Mb) (k : Fin 64) (s : State) : Out3 :=
  .next (s.command mb k 0x112
    (fun s p => { bad := [
      outside 0 (u8 p 0) 0 63, outside 1 (u8 p 1) 0 3,
      (2, decide (255 < u16 p 2 ∧ u16 p 2 ≠ 0xFFFF) ||
        (List.range 256).any (fun i => decide (i ≠ 4 * u8 p 0 + u8 p 1 ∧ s.mappedNext i = some (u16 p 2))))] })
    (fun s p => (s.applyMap p).okay mb k))

/-! ### OBJ_ASSIGN (R661) -/

def State.applyOwner (s : State) (p : List Byte) : State :=
  let q := u16 p 0
  let s : State := match s.traceEngine q with
    | some e => s.stopTrace q e
    | none => s
  s.updSk q (fun x => { x with fn := u8 p 2 })

/-- OBJ_ASSIGN. -/
def execObjAssign (mb : Mb) (k : Fin 64) (s : State) : Out3 :=
  .next (s.command mb k 0x113
    (fun s p =>
      let q := u16 p 0
      {
          bad := [(0, s.skeinBad mb q), (2, decide (3 < u8 p 2) || (match s.mapped (s.sk q).slot (u8 p 2) with
            | some v => !s.assigned v
            | none => true))],
          ports := [(s.sk q).slot] })
    (fun s p => (s.applyOwner p).okay mb k))

/-! ### Pattern banks (R591, R662) -/

/-- The bank that PATTERN_WRITE fills and PATTERN_COMMIT checks. -/
def State.writeBank (s : State) : Nat := s.trust.wbank.getD s.oldBank

def State.applyBank (s : State) (p : List Byte) : State :=
  let b := s.writeBank
  let s := [0, 1].foldl (fun (s : State) (d : Nat) =>
    let s := if u32 p 0 = 0 then s.flashErase d (bankBase b) bankBytes else s
    s.flashWrite d (bankBase b + u32 p 0) ((p.drop 16).take (u16 p 4))) s
  s.updTrust (fun t => { t with wbank := some b })

/-- PATTERN_WRITE. -/
def execPatternWrite (mb : Mb) (k : Fin 64) (s : State) : Out3 :=
  .next (s.command mb k 0x120
    (fun s p => { bad := writeBad p bankBytes, busy := if s.planOn then some 5 else none })
    (fun s p => (s.applyBank p).okay mb k))

/-- The bank sequence of a bank's good copy. -/
def State.bankSeq (s : State) (b : Nat) : Nat :=
  match s.bankOn b with
  | some d => u32 (s.bankTrailer d b) 4
  | none => 0

/-- The check of the written bank: the failing info, or the committed state. The overrides written before the commit
are gone at the load (R629). -/
def State.applyCommit (s : State) : State × Option Nat :=
  let b := s.writeBank
  match s.bankOn b with
  | none => (s, some 1)
  | some d =>
    let fmt := u16 (s.bankTrailer d b) 0
    if u16 (s.imgHeader s.trust.image) 12 < fmt then (s, some 2) else
    let s := s.putTrailer b fmt ((s.bankSeq (1 - b) + 1) % 2 ^ 32)
    let s := s.updNv (fun n => { n with
      settings := n.settings.filter (fun (x : Nat × List Int) => decide (10 < x.1 / 4096)),
      queue := n.queue.filter (fun w => w.started || !(decide (w.region = 0) && decide (w.index / 4096 ≤ 10))) })
    (s.updTrust (fun t => { t with wbank := none }), none)

/-- PATTERN_COMMIT. -/
def execPatternCommit (mb : Mb) (k : Fin 64) (s : State) : Out3 :=
  .next (s.command mb k 0x121
    (fun s _ => { busy := if s.planOn then some 5 else none })
    (fun s _ => match s.applyCommit with
      | (s, none) => s.okay mb k
      | (s, some f) => s.finish mb k 9 f 0))

end Sys2Proof.Machine
end

