-- ==== Sys2Proof/Machine/Shadow.lean ====
section
/-! DEFINITION. What a unit does with the effect messages of its partner (R500, R518, R647): the changes both units
apply, and the command slots the owner of a port mirrors. -/
namespace Sys2Proof.Machine

/-- A SLOT_CTRL the partner accepted. A cast-on is followed from the new epoch on. -/
def State.followSlot (s : State) (p : List Byte) : State :=
  let n := u8 p 0
  let st := s.slSt n
  match u8 p 1 with
  | 1 => if st = 3 then s.bindOff n false else s
  | 2 => if st = 3 then s.bindOff n true else s
  | 3 => if st = 6 then s.castFrom n 8 else s
  | 4 => if st = 5 then ((s.slSet n 1 0).setB (SLOT_STATE_warn n) false).svcChange n else s
  | _ => s

/-- A SEQ_CTRL the partner accepted. -/
def State.followSeq (s : State) (p : List Byte) : State :=
  let n := u8 p 0
  match u8 p 1 with
  | 0 => if s.seqSt n = 0 ∧ s.get CHASSIS_PWR_state = 0 then (s.seqStart n).seqPoke n else s
  | 1 => (s.seqStop n).seqPoke n
  | _ => if s.seqSt n = 4 then (s.setF (SEQ_STATE_state n) 0).gone .seqStartFail n else s

/-- A RECT_CTRL the partner accepted: what the shelf path of this unit must know when it takes over. -/
def State.followRect (s : State) (p : List Byte) : State :=
  let r := u8 p 0
  let v := (s.rect r).state
  match u8 p 1 with
  | 0 => if v = 6 then (s.rectSet r 1).gone .rectFail r else s
  | 1 => s
  | _ => if v = 7 then s.rectSet r 1 else s

/-- A BATT_CTRL the partner accepted. -/
def State.followBatt (s : State) (p : List Byte) : State :=
  let i := u8 p 0
  match u8 p 1 with
  | 0 => s.updStr i (fun x => { x with inhibitCmd := true })
  | 1 => s.updStr i (fun x => { x with inhibitCmd := false })
  | 4 => s.fullCorrect i
  | _ => s

/-- The VI of an assignment the partner accepted: its key and generation (R82, R86). -/
def State.followAssign (s : State) (v : Nat) : State :=
  if s.assigned v ∨ 255 < v then s else
  let s := (s.newKey v).updMbx v (fun m => { m with viGen := (m.viGen + 1) % 65536 })
  (s.setB (VI_STATUS_assigned v) true).setF (VI_ID_vi_gen v) (s.mbx v).viGen

/-- The load that a skein command carries. -/
def loadOf (op : Nat) (p : List Byte) : Option Load :=
  match timedAct op p with
  | some (.load l) => some l
  | _ => none

/-- A command of another class than *Command index* names a settled effect for: skeins, stitches and engines. -/
def State.followSkein (s : State) (op : Nat) (p : List Byte) : State :=
  let q := u16 p 0
  match op with
  | 0x410 => s.powerLoad q (u8 p 2)
  | 0x412 => s.applyTarget p
  | 0x415 => if s.skSt q = 5 then ((s.skSet q 0).gone .skeinOv q).gone .skeinIlim q else s
  | 0x502 => s.clearStitch q
  | 0x601 => match (s.sk q).engine with
    | some e => (s.updEng e (fun x => { x with trace := traceOf p (s.skOwner q) })).pubTrace e
    | none => s
  | 0x605 => if (s.sk q).engine = some (u8 p 2) then s else s.planMove q (u8 p 2) none
  | _ => match loadOf op p with
    | some l => s.loadCmd op p l none
    | none => s

/-- A P or U command the partner accepted (R647). What its completion waits for at the partner alone, and what only the
active unit's shelf path or a hub image transfer does, has no effect here. -/
def State.follow (s : State) (h op : Nat) (p : List Byte) : State :=
  match op with
  | 0x110 => s.followAssign (u16 p 0)
  | 0x111 => if u16 p 0 < 256 then s.releaseVi (u16 p 0) else s
  | 0x112 => s.applyMap p
  | 0x113 => s.applyOwner p
  | 0x120 => s.applyBank p
  | 0x121 => s.applyCommit.1
  | 0x703 => s.applyKind p
  | 0x802 => s.followRect p
  | 0x810 => s.applyOpt p
  | 0x811 => s.applyPolicy p
  | 0x902 => s.applyHoldup p
  | 0x911 => s.followBatt p
  | 0xB03 => s.applyPair p
  | 0xC01 => s.followSlot p
  | 0xC03 => s.applyBreaker p
  | 0xC10 =>
    if (s.bgt h).reqId = u32 p 0 ∧ s.get (BGT_STATE_cap_state h) ≠ 0 then
      if (u8 p 4).testBit 0 then (if s.get (BGT_STATE_cap_state h) = 1 then s.capThrottle h else s)
      else s.updBgt h (fun b => { b with promise := true })
    else s
  | 0xC11 => s.applyBudget p
  | 0xC13 => s.applyBudgetPolicy p
  | 0xD01 => s.applyRail p
  | 0xD02 => s.applySeqSlot p
  | 0xD03 => s.followSeq p
  -- a plan of scope 1 restarts the unit that took it alone (R607)
  | 0xF04 => if u8 p 8 = 0 then s.applyActivate p else s
  | 0xF06 => s.applyPin p
  | 0xF20 => s.applyHubWrite p
  | _ => s.followSkein op p

/-- An ephemeris entry of the partner under its number: a constellation, or a timed command (R73, R500). -/
def State.followPost (s : State) (h n : Nat) (bytes : List Byte) : State :=
  let p := bytes.drop 16
  let op := leVal (bytes.take 2)
  let i := n % 4096
  let e : EphEntry :=
    if op = 0x310 then
      { st := .pending, gen := n / 4096, trig := s.postTrig p, acts := postActs p, issuer := h, enteredAt := s.ct }
    else
      let len := leVal ((bytes.drop 8).take 2)
      {
          st := .pending, gen := n / 4096, trig := .time (effectTime s.ct (leVal ((bytes.drop 10).take 6))),
          acts := [.command op ((p.take (Nat.min len 240) ++ List.replicate 240 0).take 240)], issuer := h, enteredAt := s.ct }
  ({ s with ephLast := i, ephCount := s.ephCount + 1 }.updEphE i (fun _ => s.replan { e with ord := s.ephCount })).ephPublish

/-- The epoch the partner announced for a port or service lane it owns: the slot follows its cast-on (R171, R177, R418). -/
def State.followEpoch (s : State) (l : LinkId) (e t : Nat) : State :=
  match l with
  | .partner => s
  | .svc n => s.updSvc n (fun y => { y with epochNext := some (e, t) })
  | .port n =>
  let s := s.updPort n (fun y => { y with epochNext := some (e, t) })
  if s.ownsPort n then s
  else ((s.castFrom n 6).updSlot n (fun x => { x with descs := [] })).setB (SLOT_STATE_gate n) true

/-- EFFECT_MESSAGE_RX. -/
def execEffectMessageRx (m : Effect) (s : State) : Out3 :=
  if s.unit = 0 ∨ s.rst.held then .next s else
  match m with
  | .skeinCommand _ op p c =>
    match timedAct op p with
    | some a =>
      let k := u16 p 0
      let s : State := match settingKind op with
        | some kind => s.keep kind k p
        | none => s
      if (s.sk k).engine.isSome then .next (s.skAct k c a)
      else match a with
        | .load (.power o) => .next (s.powerLoad k o)
        | a => .next ((s.takeAct k (s.cycleNow k) a).1.pubSkein k)
    | none => .next s
  | .command h op p => .next (s.follow h op p).settle
  | .intent k c d => .next (s.addIntent k c d)
  | .ephPost h n b => .next (s.followPost h n b)
  | .ephCancel n => match s.entryOf n with
    | some i => .next (s.ephEnd i .cancelled)
    | none => .next s
  | .epoch p e t => .next (s.followEpoch p e.toNat t)
  | .mgmtSlot mb k p b => .next (s.updPair (fun x => { x with
      mirror := x.mirror.filter (fun y => !(decide (y.mb = mb.val ∧ y.slot = k.val))) ++
        [{ mb := mb.val, slot := k.val, port := p.val, bytes := b }] }))
  | .mgmtStatus mb k st info res => .next (s.updPair (fun x => { x with
      mirror := x.mirror.map (fun y => if y.mb = mb.val ∧ y.slot = k.val then { y with status := some (st, info, res) } else y) }))
  | .mgmtDone mb k => .next (s.updPair (fun x => { x with
      mirror := x.mirror.filter (fun y => !(decide (y.mb = mb.val ∧ y.slot = k.val))) }))
  | .pattern b pin l => .next (s.takePattern b pin.val l).settle
  | .contain c i => match Kind.ofCode c.toNat with
    | some k => .next ((s.contain (k.obj i.toNat)).getD s).settle
    | none => .next s

end Sys2Proof.Machine
end

