-- ==== Sys2Proof/Machine/Uplink.lean ====
section
/-! DEFINITION. Reliable cells that arrive (R158, R159, R174): each is delivered in sequence, held while one before it
lacks, acknowledged, and discarded as a duplicate; MGMT, EVENT, INTENT and BULK cells of ports and service lanes. -/
namespace Sys2Proof.Machine

/-- What a reliable cell does once it is delivered. -/
def State.deliverCell (s : State) (c : Instr) : State :=
  match c with
  | .mgmtSegment p _ fn k seg d => s.mgmtSegment p fn k seg d
  | .mgmtWindowAccess p _ fn off w v => s.mgmtWindow p fn off w v
  | .bulkCellRx l _ last st seg d => s.bulkCell l last st seg d
  | .intentCellRx p _ j tag fn delta id => s.intentCell p j tag fn delta id
  | .stitchLate p _ mask n => s.stitchLate p mask n
  | .cmdReject p _ n => s.cmdReject p n
  | .senseOpen p _ j => s.senseOpen p j
  | .ocHiccup p _ j n => s.ocHiccup p j n
  | .ocResume p _ j => s.ocResume p j
  | .stageOt p _ j t => s.stageOt p j t
  | .driverFault p _ j => s.driverFault p j
  | .bindReq p _ => s.bindReq p
  | .hubFwVersion p _ v => s.hubFwVersion p v
  | .unknownEventRx l _ code => s.unknownEvent l code
  | .workerTrip n _ ma => s.workerTrip n ma
  | _ => s

/-- Cells held out of order are delivered as their turn comes. -/
def State.deliverHeld (s : State) (l : LinkId) : Nat → State
  | 0 => s
  | n + 1 =>
    let r := s.relOf l
    match r.rxHeld.find? (fun x => decide (x.1 = r.rxNext)) with
    | none => s
    | some x =>
      ((s.updRel l (fun r => { r with rxNext := (r.rxNext + 1) % 128, rxHeld := r.rxHeld.filter (· ≠ x) })).deliverCell x.2).deliverHeld l n

/-- A reliable cell arrives: in sequence it is delivered, with those that waited for it; ahead of it, within the window, it
is held; behind it, it is a duplicate. Each is acknowledged (R159). -/
def State.arrive (s : State) (l : LinkId) (h : UpHdr) (c : Instr) : Out3 := s.onLink l fun (s : State) =>
  let s := s.upHdr l h
  let r := s.relOf l
  let d := (h.seq.toNat + 128 - r.rxNext % 128) % 128
  let s := if d = 0 then
      ((s.updRel l (fun r => { r with rxNext := (r.rxNext + 1) % 128 })).deliverCell c).deliverHeld l 31
    else if d < 32 ∧ !r.rxHeld.any (fun x => decide (x.1 = h.seq.toNat)) then
      s.updRel l (fun r => { r with rxHeld := r.rxHeld ++ [(h.seq.toNat, c)] })
    else s
  .next (s.oweAck l).settle

/-- MGMT_SEGMENT (R53, R54, R706). -/
def execMgmtSegment (p : Fin 64) (h : UpHdr) (fn : Fin 4) (k : Fin 64) (seg : Fin 16) (data : List Byte) (s : State) : Out3 :=
  s.arrive (.port p) h (.mgmtSegment p h fn k seg data)
/-- MGMT_WINDOW_ACCESS (R56, R676). -/
def execMgmtWindowAccess (p : Fin 64) (h : UpHdr) (fn : Fin 4) (off : BitVec 16) (write : Bool) (v : Word) (s : State) : Out3 :=
  s.arrive (.port p) h (.mgmtWindowAccess p h fn off write v)
/-- BULK_CELL_RX (R162, R186, R406). -/
def execBulkCellRx (l : LinkId) (h : UpHdr) (last : Bool) (stream : BitVec 8) (seg : BitVec 16) (data : List Byte) (s : State) : Out3 :=
  s.arrive l h (.bulkCellRx l h last stream seg data)
/-- INTENT_CELL_RX (R219 to R221, R260). -/
def execIntentCellRx (p : Fin 64) (h : UpHdr) (j : Fin 128) (tag : BitVec 12) (fn : Fin 4) (delta : BitVec 32) (id : BitVec 8)
    (s : State) : Out3 := s.arrive (.port p) h (.intentCellRx p h j tag fn delta id)
/-- STITCH_LATE (R203, R217). -/
def execStitchLate (p : Fin 64) (h : UpHdr) (mask : BitVec 128) (count : Word) (s : State) : Out3 :=
  s.arrive (.port p) h (.stitchLate p h mask count)
/-- CMD_REJECT (R203, R217). -/
def execCmdReject (p : Fin 64) (h : UpHdr) (count : Word) (s : State) : Out3 := s.arrive (.port p) h (.cmdReject p h count)
/-- SENSE_OPEN (R212, R213). -/
def execSenseOpen (p : Fin 64) (h : UpHdr) (j : Fin 128) (s : State) : Out3 := s.arrive (.port p) h (.senseOpen p h j)
/-- OC_HICCUP (R215, R216). -/
def execOcHiccup (p : Fin 64) (h : UpHdr) (j : Fin 128) (cycles : BitVec 16) (s : State) : Out3 :=
  s.arrive (.port p) h (.ocHiccup p h j cycles)
/-- OC_RESUME (R217). -/
def execOcResume (p : Fin 64) (h : UpHdr) (j : Fin 128) (s : State) : Out3 := s.arrive (.port p) h (.ocResume p h j)
/-- STAGE_OT (R217). -/
def execStageOt (p : Fin 64) (h : UpHdr) (j : Fin 128) (temp : BitVec 16) (s : State) : Out3 :=
  s.arrive (.port p) h (.stageOt p h j temp)
/-- DRIVER_FAULT (R217). -/
def execDriverFault (p : Fin 64) (h : UpHdr) (j : Fin 128) (s : State) : Out3 := s.arrive (.port p) h (.driverFault p h j)
/-- BIND_REQ (R217, R415). -/
def execBindReq (p : Fin 64) (h : UpHdr) (s : State) : Out3 := s.arrive (.port p) h (.bindReq p h)
/-- HUB_FW_VERSION (R217, R611). -/
def execHubFwVersion (p : Fin 64) (h : UpHdr) (version : Word) (s : State) : Out3 := s.arrive (.port p) h (.hubFwVersion p h version)
/-- UNKNOWN_EVENT_RX (R217). -/
def execUnknownEventRx (l : LinkId) (h : UpHdr) (code : BitVec 16) (s : State) : Out3 := s.arrive l h (.unknownEventRx l h code)
/-- WORKER_TRIP (R409, R413). -/
def execWorkerTrip (n : Fin 64) (h : UpHdr) (ma : Word) (s : State) : Out3 := s.arrive (.svc n) h (.workerTrip n h ma)

end Sys2Proof.Machine
end

