-- ==== Sys2Proof/Machine/Dispatch.lean ====
section
/-! DEFINITION. The meaning of every command: one arm per constructor of Instr. -/
namespace Sys2Proof.Machine

def exec (i : Instr) (s : State) : Host.Outcome State Fault Refusal :=
  match i with
  -- clock, registers (R91, R93, R667 to R678)
  | .fabricCycle => Sys2Proof.Machine.execFabricCycle s
  | .ctLoRead => Sys2Proof.Machine.execCtLoRead s
  | .loHiReadLatch w off => Sys2Proof.Machine.execLoHiReadLatch w off s
  | .loWriteHeld w off v => Sys2Proof.Machine.execLoWriteHeld w off v s
  | .unmappedAccess w off write => Sys2Proof.Machine.execUnmappedAccess w off write s
  | .unsupportedAccess w off bytes write => Sys2Proof.Machine.execUnsupportedAccess w off bytes write s
  | .debugLock => Sys2Proof.Machine.execDebugLock s
  | .registerWrite w off v be => Sys2Proof.Machine.execRegisterWrite w off v be s
  -- mailbox transport
  | .doorbell mb hi ring => Sys2Proof.Machine.execDoorbell mb hi ring s
  | .mgmtSegment port h fn slot seg data => Sys2Proof.Machine.execMgmtSegment port h fn slot seg data s
  | .mgmtSegmentTimeout mb slot => Sys2Proof.Machine.execMgmtSegmentTimeout mb slot s
  | .mgmtWindowAccess p h fn off w v => Sys2Proof.Machine.execMgmtWindowAccess p h fn off w v s
  | .cqConsWrite mb v => Sys2Proof.Machine.execCqConsWrite mb v s
  | .irqCtrlWrite mb v => Sys2Proof.Machine.execIrqCtrlWrite mb v s
  | .coalTimerExpire mb => Sys2Proof.Machine.execCoalTimerExpire mb s
  | .tokenRefill mb => Sys2Proof.Machine.execTokenRefill mb s
  -- timebase
  | .merSourceTick m => Sys2Proof.Machine.execMerSourceTick m s
  | .merCfgWrite m v => Sys2Proof.Machine.execMerCfgWrite m v s
  | .merValWrite m hi v => Sys2Proof.Machine.execMerValWrite m hi v s
  | .carrierRefRx p h j r c => Sys2Proof.Machine.execCarrierRefRx p h j r c s
  | .carrierHoldover m => Sys2Proof.Machine.execCarrierHoldover m s
  | .merPinHoldover m => Sys2Proof.Machine.execMerPinHoldover m s
  | .mainsPllHoldover => Sys2Proof.Machine.execMainsPllHoldover s
  | .debugHalt => Sys2Proof.Machine.execDebugHalt s
  | .debugHaltEnd => Sys2Proof.Machine.execDebugHaltEnd s
  | .compareMatch k => Sys2Proof.Machine.execCompareMatch k s
  | .cmpArm k v => Sys2Proof.Machine.execCmpArm k v s
  | .fanPwmReload n => Sys2Proof.Machine.execFanPwmReload n s
  | .ephCommit idx => Sys2Proof.Machine.execEphCommit idx s
  | .ephTrigger idx => Sys2Proof.Machine.execEphTrigger idx s
  | .ephPost mb slot => Sys2Proof.Machine.execEphPost mb slot s
  | .ephCancel mb slot => Sys2Proof.Machine.execEphCancel mb slot s
  | .ephQuery mb slot => Sys2Proof.Machine.execEphQuery mb slot s
  -- the slot link
  | .portTrainComplete p lanes => Sys2Proof.Machine.execPortTrainComplete p lanes s
  | .portTrainFail p step => Sys2Proof.Machine.execPortTrainFail p step s
  | .portTrainRetry p => Sys2Proof.Machine.execPortTrainRetry p s
  | .portRetrain p v => Sys2Proof.Machine.execPortRetrain p v s
  | .laneFail p lane => Sys2Proof.Machine.execLaneFail p lane s
  | .widthChangeRx p lanes frame => Sys2Proof.Machine.execWidthChangeRx p lanes frame s
  | .widthChangeTimeout p => Sys2Proof.Machine.execWidthChangeTimeout p s
  | .widthChangeApply p => Sys2Proof.Machine.execWidthChangeApply p s
  | .laneRejoin p lane => Sys2Proof.Machine.execLaneRejoin p lane s
  | .widerWidthTimer p => Sys2Proof.Machine.execWiderWidthTimer p s
  | .fecUncorrectable p lane n => Sys2Proof.Machine.execFecUncorrectable p lane n s
  | .cellCrcFail l cell => Sys2Proof.Machine.execCellCrcFail l cell s
  | .badTypeCellRx l ty sub => Sys2Proof.Machine.execBadTypeCellRx l ty sub s
  | .staleEpochCellRx l epoch => Sys2Proof.Machine.execStaleEpochCellRx l epoch s
  | .ackRx l h next sack => Sys2Proof.Machine.execAckRx l h next sack s
  | .reliableRetxTimeout l seq => Sys2Proof.Machine.execReliableRetxTimeout l seq s
  | .syncTimeTx l => Sys2Proof.Machine.execSyncTimeTx l s
  | .echoRx l h t1 t2 t3 t4 epoch => Sys2Proof.Machine.execEchoRx l h t1 t2 t3 t4 epoch s
  | .epochChange l => Sys2Proof.Machine.execEpochChange l s
  | .bulkCellRx l h last stream segment data => Sys2Proof.Machine.execBulkCellRx l h last stream segment data s
  | .svcLaneDown n => Sys2Proof.Machine.execSvcLaneDown n s
  | .svcLaneRetry n => Sys2Proof.Machine.execSvcLaneRetry n s
  | .svcRetrain n v => Sys2Proof.Machine.execSvcRetrain n v s
  | .rendezvous p => Sys2Proof.Machine.execRendezvous p s
  | .beaconRx p h epoch wake => Sys2Proof.Machine.execBeaconRx p h epoch wake s
  | .rendezvousMiss p => Sys2Proof.Machine.execRendezvousMiss p s
  -- samples, stitches and hub events
  | .sampleCellRx p h c => Sys2Proof.Machine.execSampleCellRx p h c s
  | .trailerRx p h stitch hub duty cycle held => Sys2Proof.Machine.execTrailerRx p h stitch hub duty cycle held s
  | .windowDeadline gid => Sys2Proof.Machine.execWindowDeadline gid s
  | .stitchSampleLoss gid => Sys2Proof.Machine.execStitchSampleLoss gid s
  | .intentCellRx p h stitch tag fn delta id => Sys2Proof.Machine.execIntentCellRx p h stitch tag fn delta id s
  | .stitchLate p h mask count => Sys2Proof.Machine.execStitchLate p h mask count s
  | .cmdReject p h count => Sys2Proof.Machine.execCmdReject p h count s
  | .senseOpen p h stitch => Sys2Proof.Machine.execSenseOpen p h stitch s
  | .ocHiccup p h stitch cycles => Sys2Proof.Machine.execOcHiccup p h stitch cycles s
  | .ocResume p h stitch => Sys2Proof.Machine.execOcResume p h stitch s
  | .stageOt p h stitch temp => Sys2Proof.Machine.execStageOt p h stitch temp s
  | .driverFault p h stitch => Sys2Proof.Machine.execDriverFault p h stitch s
  | .bindReq p h => Sys2Proof.Machine.execBindReq p h s
  | .hubFwVersion p h version => Sys2Proof.Machine.execHubFwVersion p h version s
  | .unknownEventRx l h code => Sys2Proof.Machine.execUnknownEventRx l h code s
  -- the loop and its engines
  | .skeinStep sk batch => Sys2Proof.Machine.execSkeinStep sk batch s
  | .adoptTimeout sk => Sys2Proof.Machine.execAdoptTimeout sk s
  | .trailerLoss gid => Sys2Proof.Machine.execTrailerLoss gid s
  | .senseOpenClear gid => Sys2Proof.Machine.execSenseOpenClear gid s
  | .noFeedbackRelease sk => Sys2Proof.Machine.execNoFeedbackRelease sk s
  | .feedbackReturn sk => Sys2Proof.Machine.execFeedbackReturn sk s
  | .jobCopyDone sk => Sys2Proof.Machine.execJobCopyDone sk s
  | .engineFault e => Sys2Proof.Machine.execEngineFault e s
  | .jobPlaceRetry sk => Sys2Proof.Machine.execJobPlaceRetry sk s
  | .engDisable e v => Sys2Proof.Machine.execEngDisable e v s
  | .engSelfTestDone e pass => Sys2Proof.Machine.execEngSelfTestDone e pass s
  -- the arbiter
  | .arbPostRetry e => Sys2Proof.Machine.execArbPostRetry e s
  | .arbGrant p => Sys2Proof.Machine.execArbGrant p s
  | .arbExpire p => Sys2Proof.Machine.execArbExpire p s
  | .lockDrop p => Sys2Proof.Machine.execLockDrop p s
  -- skein protection
  | .skeinPgTimeout sk => Sys2Proof.Machine.execSkeinPgTimeout sk s
  | .skeinOvTrip sk => Sys2Proof.Machine.execSkeinOvTrip sk s
  | .skeinUv sk => Sys2Proof.Machine.execSkeinUv sk s
  | .ilimTimeout sk => Sys2Proof.Machine.execIlimTimeout sk s
  | .shareLimitCount gid => Sys2Proof.Machine.execShareLimitCount gid s
  | .restoreHoldEnd sk => Sys2Proof.Machine.execRestoreHoldEnd sk s
  -- engine, skein and stitch commands
  | .skeinLoadGaintab mb slot => Sys2Proof.Machine.execSkeinLoadGaintab mb slot s
  | .skeinLoadSchedule mb slot => Sys2Proof.Machine.execSkeinLoadSchedule mb slot s
  | .skeinLoadLaw mb slot => Sys2Proof.Machine.execSkeinLoadLaw mb slot s
  | .engTraceArm mb slot => Sys2Proof.Machine.execEngTraceArm mb slot s
  | .engTraceRead mb slot => Sys2Proof.Machine.execEngTraceRead mb slot s
  | .engJobQuery mb slot => Sys2Proof.Machine.execEngJobQuery mb slot s
  | .engJobMove mb slot => Sys2Proof.Machine.execEngJobMove mb slot s
  | .engReset mb slot => Sys2Proof.Machine.execEngReset mb slot s
  | .skeinPower mb slot => Sys2Proof.Machine.execSkeinPower mb slot s
  | .skeinSetLimits mb slot => Sys2Proof.Machine.execSkeinSetLimits mb slot s
  | .skeinSetTarget mb slot => Sys2Proof.Machine.execSkeinSetTarget mb slot s
  | .skeinSetShed mb slot => Sys2Proof.Machine.execSkeinSetShed mb slot s
  | .skeinQuery mb slot => Sys2Proof.Machine.execSkeinQuery mb slot s
  | .skeinClear mb slot => Sys2Proof.Machine.execSkeinClear mb slot s
  | .stitchQuery mb slot => Sys2Proof.Machine.execStitchQuery mb slot s
  | .stitchClear mb slot => Sys2Proof.Machine.execStitchClear mb slot s
  | .loadIntentPost mb slot => Sys2Proof.Machine.execLoadIntentPost mb slot s
  -- reducer snapshots
  | .redSnap p v => Sys2Proof.Machine.execRedSnap p v s
  | .redSnapDone p => Sys2Proof.Machine.execRedSnapDone p s
  | .redClearAcc p v => Sys2Proof.Machine.execRedClearAcc p v s
  | .lossRead mb slot => Sys2Proof.Machine.execLossRead mb slot s
  -- rectifiers, bus bar, optimiser
  | .telemetryRound => Sys2Proof.Machine.execTelemetryRound s
  | .twTransactionDone t r => Sys2Proof.Machine.execTwTransactionDone t r s
  | .smbalert gpio => Sys2Proof.Machine.execSmbalert gpio s
  | .acOkFilterExpire r => Sys2Proof.Machine.execAcOkFilterExpire r s
  | .acOkRestore r => Sys2Proof.Machine.execAcOkRestore r s
  | .rectStartTimeout r => Sys2Proof.Machine.execRectStartTimeout r s
  | .rectDrainTimeout r => Sys2Proof.Machine.execRectDrainTimeout r s
  | .busVUpdate => Sys2Proof.Machine.execBusVUpdate s
  | .busLimitTimer ov => Sys2Proof.Machine.execBusLimitTimer ov s
  | .optTick => Sys2Proof.Machine.execOptTick s
  | .optProbe sk => Sys2Proof.Machine.execOptProbe sk s
  | .emergencyAdd => Sys2Proof.Machine.execEmergencyAdd s
  | .rectQuery mb slot => Sys2Proof.Machine.execRectQuery mb slot s
  | .rectCtrl mb slot => Sys2Proof.Machine.execRectCtrl mb slot s
  | .optCtrl mb slot => Sys2Proof.Machine.execOptCtrl mb slot s
  | .optSkeinPolicy mb slot => Sys2Proof.Machine.execOptSkeinPolicy mb slot s
  | .energyRead mb slot => Sys2Proof.Machine.execEnergyRead mb slot s
  -- hold-up and battery
  | .battStatusPoll sk => Sys2Proof.Machine.execBattStatusPoll sk s
  | .busSagTimer => Sys2Proof.Machine.execBusSagTimer s
  | .holdupBudget => Sys2Proof.Machine.execHoldupBudget s
  | .holdupExhausted => Sys2Proof.Machine.execHoldupExhausted s
  | .holdupReturn => Sys2Proof.Machine.execHoldupReturn s
  | .holdupNormal => Sys2Proof.Machine.execHoldupNormal s
  | .battSample sk => Sys2Proof.Machine.execBattSample sk s
  | .battModeTimer sk => Sys2Proof.Machine.execBattModeTimer sk s
  | .fullChargeCorrect sk => Sys2Proof.Machine.execFullChargeCorrect sk s
  | .restCorrect sk => Sys2Proof.Machine.execRestCorrect sk s
  | .learnInterrupt sk => Sys2Proof.Machine.execLearnInterrupt sk s
  | .chargeControl => Sys2Proof.Machine.execChargeControl s
  | .holdupQuery mb slot => Sys2Proof.Machine.execHoldupQuery mb slot s
  | .holdupCtrl mb slot => Sys2Proof.Machine.execHoldupCtrl mb slot s
  | .battQuery mb slot => Sys2Proof.Machine.execBattQuery mb slot s
  | .battCtrl mb slot => Sys2Proof.Machine.execBattCtrl mb slot s
  -- slots and budgets
  | .slotInterval n => Sys2Proof.Machine.execSlotInterval n s
  | .slotMeasLoss n => Sys2Proof.Machine.execSlotMeasLoss n s
  | .workerSampleRx n h c => Sys2Proof.Machine.execWorkerSampleRx n h c s
  | .svcCommandTx n => Sys2Proof.Machine.execSvcCommandTx n s
  | .workerTrip n h ma => Sys2Proof.Machine.execWorkerTrip n h ma s
  | .gateRiseTimeout n => Sys2Proof.Machine.execGateRiseTimeout n s
  | .slotPresent n => Sys2Proof.Machine.execSlotPresent n s
  | .slotSurprise n => Sys2Proof.Machine.execSlotSurprise n s
  | .castOnResume n => Sys2Proof.Machine.execCastOnResume n s
  | .castOnStepTimeout n => Sys2Proof.Machine.execCastOnStepTimeout n s
  | .unbindTimeout sk => Sys2Proof.Machine.execUnbindTimeout sk s
  | .capCompute => Sys2Proof.Machine.execCapCompute s
  | .capJudge h => Sys2Proof.Machine.execCapJudge h s
  | .capGraceExpire h => Sys2Proof.Machine.execCapGraceExpire h s
  | .capEnfExpire h => Sys2Proof.Machine.execCapEnfExpire h s
  | .cutLeadExpire n => Sys2Proof.Machine.execCutLeadExpire n s
  | .slotCtrl mb slot => Sys2Proof.Machine.execSlotCtrl mb slot s
  | .slotQuery mb slot => Sys2Proof.Machine.execSlotQuery mb slot s
  | .slotSetBreaker mb slot => Sys2Proof.Machine.execSlotSetBreaker mb slot s
  | .budgetCapAck mb slot => Sys2Proof.Machine.execBudgetCapAck mb slot s
  | .budgetSet mb slot => Sys2Proof.Machine.execBudgetSet mb slot s
  | .budgetQuery mb slot => Sys2Proof.Machine.execBudgetQuery mb slot s
  | .budgetPolicy mb slot => Sys2Proof.Machine.execBudgetPolicy mb slot s
  -- sequencing
  | .seqSlotTimer sk => Sys2Proof.Machine.execSeqSlotTimer sk s
  | .railSdTimer sk => Sys2Proof.Machine.execRailSdTimer sk s
  | .railCntCheckpoint => Sys2Proof.Machine.execRailCntCheckpoint s
  | .buttonPress heldTicks => Sys2Proof.Machine.execButtonPress heldTicks s
  | .buttonForceOff => Sys2Proof.Machine.execButtonForceOff s
  | .manualReset lowTicks => Sys2Proof.Machine.execManualReset lowTicks s
  | .resetOutputRelease n => Sys2Proof.Machine.execResetOutputRelease n s
  | .seqSetRail mb slot => Sys2Proof.Machine.execSeqSetRail mb slot s
  | .seqSetSlot mb slot => Sys2Proof.Machine.execSeqSetSlot mb slot s
  | .seqCtrl mb slot => Sys2Proof.Machine.execSeqCtrl mb slot s
  | .seqQuery mb slot => Sys2Proof.Machine.execSeqQuery mb slot s
  | .seqLogRead mb slot => Sys2Proof.Machine.execSeqLogRead mb slot s
  -- shelf ADC
  | .adcSlot c code => Sys2Proof.Machine.execAdcSlot c code s
  | .adcStart c v => Sys2Proof.Machine.execAdcStart c v s
  | .adcStop c v => Sys2Proof.Machine.execAdcStop c v s
  | .owCheck input code => Sys2Proof.Machine.execOwCheck input code s
  | .owSettleExpire input code => Sys2Proof.Machine.execOwSettleExpire input code s
  | .calCaptureDone input => Sys2Proof.Machine.execCalCaptureDone input s
  | .adcCal mb slot => Sys2Proof.Machine.execAdcCal mb slot s
  -- thermal
  | .thmSample readings => Sys2Proof.Machine.execThmSample readings s
  | .thmSensorStale k => Sys2Proof.Machine.execThmSensorStale k s
  | .shedStageTimer => Sys2Proof.Machine.execShedStageTimer s
  | .shedRestoreTimer => Sys2Proof.Machine.execShedRestoreTimer s
  | .fanUpdate => Sys2Proof.Machine.execFanUpdate s
  | .dormantThmCheck temp => Sys2Proof.Machine.execDormantThmCheck temp s
  | .thmQuery mb slot => Sys2Proof.Machine.execThmQuery mb slot s
  -- the pair
  | .heartbeatTx => Sys2Proof.Machine.execHeartbeatTx s
  | .heartbeatRx tTx state home owned pos => Sys2Proof.Machine.execHeartbeatRx tTx state home owned pos s
  | .heartbeatCheck => Sys2Proof.Machine.execHeartbeatCheck s
  | .aliveToggle => Sys2Proof.Machine.execAliveToggle s
  | .aliveStop => Sys2Proof.Machine.execAliveStop s
  | .failureNoticeRx cause => Sys2Proof.Machine.execFailureNoticeRx cause s
  | .ownFailure cause => Sys2Proof.Machine.execOwnFailure cause s
  | .digestRound => Sys2Proof.Machine.execDigestRound s
  | .digestRx sk cycle crc => Sys2Proof.Machine.execDigestRx sk cycle crc s
  | .digestStepTimeout sk => Sys2Proof.Machine.execDigestStepTimeout sk s
  | .stateImageRx sk cycle image => Sys2Proof.Machine.execStateImageRx sk cycle image s
  | .effectMessageRx m => Sys2Proof.Machine.execEffectMessageRx m s
  | .claimRecordRx r => Sys2Proof.Machine.execClaimRecordRx r s
  | .shelfDigestRx d => Sys2Proof.Machine.execShelfDigestRx d s
  | .portFlightsRx p upNs downNs width => Sys2Proof.Machine.execPortFlightsRx p upNs downNs width s
  | .portMoveYield n => Sys2Proof.Machine.execPortMoveYield n s
  | .transitRx tx => Sys2Proof.Machine.execTransitRx tx s
  | .transitTime => Sys2Proof.Machine.execTransitTime s
  | .periodicTransit => Sys2Proof.Machine.execPeriodicTransit s
  | .proveTimer => Sys2Proof.Machine.execProveTimer s
  | .reclaimRequest => Sys2Proof.Machine.execReclaimRequest s
  | .pcieDownTransit => Sys2Proof.Machine.execPcieDownTransit s
  | .pairQuery mb slot => Sys2Proof.Machine.execPairQuery mb slot s
  | .pairTransit mb slot => Sys2Proof.Machine.execPairTransit mb slot s
  | .pairCtrl mb slot => Sys2Proof.Machine.execPairCtrl mb slot s
  -- faults
  | .graceExpire kind inst => Sys2Proof.Machine.execGraceExpire kind inst s
  | .safeStopRestart => Sys2Proof.Machine.execSafeStopRestart s
  | .faultQuery mb slot => Sys2Proof.Machine.execFaultQuery mb slot s
  | .faultClear mb slot => Sys2Proof.Machine.execFaultClear mb slot s
  | .faultConfig mb slot => Sys2Proof.Machine.execFaultConfig mb slot s
  | .faultInject mb slot => Sys2Proof.Machine.execFaultInject mb slot s
  | .faultLogRead mb slot => Sys2Proof.Machine.execFaultLogRead mb slot s
  -- recorder
  | .nvRecordDone equal => Sys2Proof.Machine.execNvRecordDone equal s
  | .holdupDieMeasure pass => Sys2Proof.Machine.execHoldupDieMeasure pass s
  | .nvBootScanDone => Sys2Proof.Machine.execNvBootScanDone s
  | .nwRead mb slot => Sys2Proof.Machine.execNwRead mb slot s
  | .nwLastFault mb slot => Sys2Proof.Machine.execNwLastFault mb slot s
  | .nwTrigger mb slot => Sys2Proof.Machine.execNwTrigger mb slot s
  | .nwCtrlSet mb slot => Sys2Proof.Machine.execNwCtrlSet mb slot s
  -- two-wire ports
  | .twArbLost t => Sys2Proof.Machine.execTwArbLost t s
  | .twStretchTimeout t sdaLow => Sys2Proof.Machine.execTwStretchTimeout t sdaLow s
  | .twSclStuck t => Sys2Proof.Machine.execTwSclStuck t s
  | .twSdaStuck t freedAt => Sys2Proof.Machine.execTwSdaStuck t freedAt s
  | .twStuckRetry t sclHigh freedAt => Sys2Proof.Machine.execTwStuckRetry t sclHigh freedAt s
  | .twAttention t addr => Sys2Proof.Machine.execTwAttention t addr s
  | .twAttnAssert t => Sys2Proof.Machine.execTwAttnAssert t s
  | .twTargetRead t addr code => Sys2Proof.Machine.execTwTargetRead t addr code s
  | .twTargetWrite t addr code data => Sys2Proof.Machine.execTwTargetWrite t addr code data s
  | .twTargetTimeout t => Sys2Proof.Machine.execTwTargetTimeout t s
  | .twWake t addr => Sys2Proof.Machine.execTwWake t addr s
  -- trust and update
  | .secureBoot => Sys2Proof.Machine.execSecureBoot s
  | .bootRetry => Sys2Proof.Machine.execBootRetry s
  | .entropyTestFail src apt => Sys2Proof.Machine.execEntropyTestFail src apt s
  | .entropyRetestDone pass => Sys2Proof.Machine.execEntropyRetestDone pass s
  | .drbgInstantiateDone => Sys2Proof.Machine.execDrbgInstantiateDone s
  | .drbgReseed => Sys2Proof.Machine.execDrbgReseed s
  | .keyParityError h => Sys2Proof.Machine.execKeyParityError h s
  | .fwQuery mb slot => Sys2Proof.Machine.execFwQuery mb slot s
  | .fwWrite mb slot => Sys2Proof.Machine.execFwWrite mb slot s
  | .fwVerify mb slot => Sys2Proof.Machine.execFwVerify mb slot s
  | .fwActivate mb slot => Sys2Proof.Machine.execFwActivate mb slot s
  | .fwPlanStart => Sys2Proof.Machine.execFwPlanStart s
  | .fwConfirm => Sys2Proof.Machine.execFwConfirm s
  | .fwTrialTimeout => Sys2Proof.Machine.execFwTrialTimeout s
  | .fwRevert mb slot => Sys2Proof.Machine.execFwRevert mb slot s
  | .fwPinLevel mb slot => Sys2Proof.Machine.execFwPinLevel mb slot s
  | .secRandom mb slot => Sys2Proof.Machine.execSecRandom mb slot s
  | .secQuery mb slot => Sys2Proof.Machine.execSecQuery mb slot s
  | .hubFwWrite mb slot => Sys2Proof.Machine.execHubFwWrite mb slot s
  | .hubFwActivate mb slot => Sys2Proof.Machine.execHubFwActivate mb slot s
  | .hubFwDelivered n => Sys2Proof.Machine.execHubFwDelivered n s
  | .hubFwReportTimeout n => Sys2Proof.Machine.execHubFwReportTimeout n s
  -- start-up, restart, reset
  | .powerOn => Sys2Proof.Machine.execPowerOn s
  | .sysReset lowTicks => Sys2Proof.Machine.execSysReset lowTicks s
  | .resetExit slowTicks => Sys2Proof.Machine.execResetExit slowTicks s
  | .mainSupplyLoss ticks => Sys2Proof.Machine.execMainSupplyLoss ticks s
  | .supplyGood => Sys2Proof.Machine.execSupplyGood s
  | .vaonLoss => Sys2Proof.Machine.execVaonLoss s
  | .coldStart => Sys2Proof.Machine.execColdStart s
  | .pairDecision => Sys2Proof.Machine.execPairDecision s
  | .admitComplete => Sys2Proof.Machine.execAdmitComplete s
  | .startupBind p => Sys2Proof.Machine.execStartupBind p s
  | .mailboxOpen => Sys2Proof.Machine.execMailboxOpen s
  | .unitRestart mb slot => Sys2Proof.Machine.execUnitRestart mb slot s
  -- mailbox administration
  | .mbxNop mb slot => Sys2Proof.Machine.execMbxNop mb slot s
  | .mbxQuery mb slot => Sys2Proof.Machine.execMbxQuery mb slot s
  | .mbxAbort mb slot => Sys2Proof.Machine.execMbxAbort mb slot s
  | .viAssign mb slot => Sys2Proof.Machine.execViAssign mb slot s
  | .viRelease mb slot => Sys2Proof.Machine.execViRelease mb slot s
  | .viMap mb slot => Sys2Proof.Machine.execViMap mb slot s
  | .objAssign mb slot => Sys2Proof.Machine.execObjAssign mb slot s
  | .patternWrite mb slot => Sys2Proof.Machine.execPatternWrite mb slot s
  | .patternCommit mb slot => Sys2Proof.Machine.execPatternCommit mb slot s
  -- clock and link events
  | .srefLoss b => Sys2Proof.Machine.execSrefLoss b s
  | .svcTrainComplete n => Sys2Proof.Machine.execSvcTrainComplete n s
  | .partnerLinkUp lanes => Sys2Proof.Machine.execPartnerLinkUp lanes s
  | .partnerLinkDown => Sys2Proof.Machine.execPartnerLinkDown s
  | .partnerTimeRx tTx downFlight16 => Sys2Proof.Machine.execPartnerTimeRx tTx downFlight16 s
  | .thermalDormantEntry => Sys2Proof.Machine.execThermalDormantEntry s
  | .transitRequestRx => Sys2Proof.Machine.execTransitRequestRx s

end Sys2Proof.Machine
end

