-- ==== Sys2Proof/Safety.lean ====
section
/-! DEFINITION. What a safe run is, in the terms statements use: what every state that a command leaves keeps, and the
conditions on a state under which a command has its own effect. -/
namespace Sys2Proof.Safety

open Sys2Proof.Machine

/-- Every byte memory is in canonical form: addresses rising, no entry equal to what an unlisted address reads as. -/
abbrev MemWf (s : State) : Prop :=
  Mem.wf Mem.blank s.mem = true ∧ Mem.wf Mem.blank s.hubStage = true ∧ Mem.wf 0xFF s.flash0 = true ∧ Mem.wf 0xFF s.flash1 = true

/-- The unit is out of reset and not dormant. -/
abbrev Runs (s : State) : Prop := s.rst.held = false ∧ s.unit ≠ 0

/-- No escalation rung is due in this cycle. -/
abbrev NoRung (s : State) : Prop := s.dueNow = []

/-- A saturating counter has counted one event. -/
abbrev Counted (s t : State) (f : Fld) : Prop := t.get f = satCount (f.hi + 1 - f.lo) (s.get f) 1

/-- An instance of a fault kind that is not tracked may be raised without a rung being due at once: its class is not 3, the
table has room, and no rung is due (R531, R542). -/
abbrev MayRaise (s : State) (k : Kind) (i : Nat) : Prop :=
  s.dueNow = [] ∧ (s.kindCfg k i).1 ≠ 3 ∧ s.faults.insts.length < 2048 ∧ s.faults.insts.all (fun x => !(x.kind = k && x.inst = i)) = true

/-- No rung is due, the table has room, and no kind of `l` has class 3: what the command raises takes no rung in its own
cycle (R531, R533, R536). -/
abbrev Mild (s : State) (l : List Kind) : Prop :=
  s.dueNow = [] ∧ s.faults.insts.length + 64 ≤ 2048 ∧ l.all (fun k => decide (s.get (FLT_KIND_class k.code) ≠ 3)) = true ∧
  s.faults.insts.all (fun (x : Inst) => decide (x.cls ≠ 3) || !l.contains x.kind) = true

/-- Hardware has not updated the register at `a` in this cycle (R679). -/
abbrev Untouched (s : State) (a : Nat) : Prop := s.hwTouched.all (fun t => decide (t.at_.1 ≠ a)) = true

/-- A BAR2 register whose write sets nothing going: not one of a meridian, compare channel, fan output, converter, port or
engine, not FLT_CTRL or a per-kind configuration, and not half of a pair that software writes as one value. -/
abbrev PlainReg (a : Nat) : Prop :=
  a ≠ aFLT_CTRL ∧ rwPair a = false ∧ rwPair (a - 4) = false ∧ (a < 0x1100 ∨ 0x1500 ≤ a) ∧ (a < 0x4100 ∨ 0x4900 ≤ a) ∧
  (a < 0x5000 ∨ 0x7040 ≤ a) ∧ (a < 0x8000 ∨ 0x8C00 ≤ a) ∧ (a < 0x10000 ∨ 0x28000 ≤ a)

/-- The header of a cell brings nothing new: the unit runs, the cell shows the xoff already known, and on a slot port it
names the owner that is known, no injection waits for it and no claim awaits it (R156, R161, R174, R546). -/
abbrev Plain (s : State) (l : LinkId) (h : UpHdr) : Prop :=
  Runs s ∧ h.xoff = (s.relOf l).xoff ∧
  (match l with
    | .port p => decide (s.faults.inject = none) && decide (h.owner.toNat = s.get (PORT_EPOCH_owner p)) && !s.is (PAIR_TERM_claim_pending p)
    | .svc _ => true
    | .partner => true) = true

/-- A reliable cell is the next of its link, with none held behind it (R159). -/
abbrev InOrder (s : State) (l : LinkId) (h : UpHdr) : Prop :=
  Plain s l h ∧ h.seq.toNat = (s.relOf l).rxNext ∧ (s.relOf l).rxHeld = []

/-- The command in slot k of mailbox mb, and its payload. -/
abbrev cmdOf (s : State) (mb k : Nat) : CmdSlot := s.slotC (slotKey mb k)
abbrev payloadOf (s : State) (mb k : Nat) : List Byte := (cmdOf s mb k).payload

/-- A command of opcode `op` waits in the slot and it is its turn: nothing holds it back, the completion ring has room, a
control command has its token, a bulk command its place among those in flight (R60, R69, R75, R76, R78, R80). -/
abbrev Turn (s : State) (mb k op : Nat) : Prop :=
  (cmdOf s mb k).phase = .waiting ∧ (cmdOf s mb k).opcode = op ∧ s.assigned mb = true ∧ s.heldBack mb k = false ∧
  s.ringFull mb = false ∧ (s.mbx mb).cqWait = [] ∧
  (cmdInfo op).any (fun (i : CmdInfo) => s.served mb i && (if i.control then decide ((s.mbx mb).tokens ≠ 0) else decide (s.inFlight < 1024))) = true

/-- The command in the slot is at its turn, its header is in order and not timed, its opcode is within the pinned level, its
holder may issue it and holds its key, and the unit has the role its scope asks for (R82, R645, R647). -/
abbrev Ready (s : State) (mb k op : Nat) : Prop :=
  Turn s mb k op ∧ MemWf s ∧
  (cmdOf s mb k).length ≤ 240 ∧ (cmdOf s mb k).flags < 32 ∧ flagBit (cmdOf s mb k) 3 = false ∧ (cmdOf s mb k).effectAt = 0 ∧
  s.trust.keyBad.contains mb = false ∧
  (cmdInfo op).any (fun (i : CmdInfo) => decide (i.level ≤ s.level_) && (!i.af || decide (mb = afMb)) &&
    (decide (i.scope ≠ .u) || s.active && !(s.pair.transitMid && !s.pair.transitIn))) = true

/-- What a command's chapter adds to the checks holds: no right, field, owner or resource fails, and the unit owns the ports
it acts on (R645). -/
abbrev Passes (s : State) (x : Checks) : Prop :=
  x.denied = false ∧ lowestBad x.bad = none ∧ x.notOwner = false ∧ x.busy = none ∧ x.ports.all s.ownsPort = true

/-- No command was submitted after the one in slot k: a failure would end those held behind it too (R70). -/
abbrev Tail (s : State) (mb k : Nat) : Prop := afterSlot k (s.mbx mb).order = []

/-- The unit has what the scope of cancelling entry `i` asks for: the ports of its skein actions, and the role for its
register writes (R647). -/
abbrev CancelHere (s : State) (i : Nat) : Prop :=
  ((s.ephE i).acts.filterMap EphAct.skein?).all (fun k => s.ownsPort (s.sk k).slot) = true ∧
  (s.active || !(s.ephE i).acts.any EphAct.unitScope) = true

/-- The slot is free again and the newest entry of the completion ring is the command's, with this status, info and
result (R63, R64). -/
abbrev Done (t : State) (mb k : Nat) (c : CmdSlot) (status info result : Nat) : Prop :=
  (t.slotC (slotKey mb k)).phase = .free ∧
  Mem.readBytes Mem.blank t.mem (winBase mb + 0x1000 + 16 * ((t.get (VI_CQ_PROD_prod mb) + 511) % 256)) 16 =
    leBytes 4 c.handle ++ leBytes 2 status ++ leBytes 2 info ++ leBytes 8 result

end Sys2Proof.Safety
end

