-- ==== Sys2Proof/WellFormed.lean ====
section
/-! DEFINITION. Which operands a command can have: what a cell, a message or a register access can carry. The meanings are
total on any operands; statements about the outside world's commands may ask for this form. -/
namespace Sys2Proof

/-- A chassis time fits 64 bits (R13). -/
def isTime (t : Nat) : Bool := decide (t < 2 ^ 64)

/-- An offset inside a window: the global map of 1 MiB, or the 64 KiB of a mailbox (R58, R666). -/
def winSpan : Win → Nat → Bool
  | .bar2, off => decide (off < 0x100000)
  | .vi _, off => decide (off < 0x10000)
  | .af, off => decide (off < 0x10000)

/-- A lane set of 1, 2, 4 or 8 lanes (R138). -/
def laneCount (l : BitVec 8) : Bool :=
  [1, 2, 4, 8].contains ((List.range 8).filter (fun i => l.getLsbD i)).length

/-- A reading fits THM_TEMP (R11, R479). -/
def readingFits : Option Int → Bool
  | some t => decide (-32768 ≤ t ∧ t ≤ 32767)
  | none => true

/-- An effect message carries a payload of a command slot, an entry number of R123, a cycle number (R97, R500). -/
def Effect.wellFormed : Effect → Bool
  | .skeinCommand _ op p c => decide (op < 65536) && decide (p.length = 240) && decide (c < 65536)
  | .command _ op p => decide (op < 65536) && decide (p.length ≤ 240)
  | .intent _ c _ => decide (c < 65536)
  | .ephPost _ n p => decide (n < 2 ^ 32) && decide (p.length = 256)
  | .ephCancel n => decide (n < 2 ^ 32)
  | .epoch _ e t => decide (e ≠ 0) && isTime t
  | .mgmtSlot _ _ _ b => decide (b.length = 256)
  | .mgmtStatus _ _ st info res => decide (st < 65536) && decide (info < 65536) && isTime res
  | .mgmtDone _ _ => true
  | .pattern b _ l => decide (b.length ≤ 8388608) &&
    l.all (fun x => decide (x.1 < 40960) && decide (x.2.length ≤ 240) && x.2.all (fun v => decide (0 ≤ v ∧ v < 256)))
  | .contain _ _ => true

/-- A claim record's effect time (R509). -/
def ClaimRec.wellFormed : ClaimRec → Bool
  | .claim _ _ t => isTime t
  | .yield _ => true

/-- The form of every command. -/
def Instr.wellFormed : Instr → Bool
  | .fabricCycle => true
  | .ctLoRead => true
  | .loHiReadLatch w off => winSpan w off && decide (off % 4 = 0)
  | .loWriteHeld w off _ => winSpan w off && decide (off % 4 = 0)
  | .unmappedAccess _ off _ => decide (off % 4 = 0)
  | .unsupportedAccess _ off bytes _ => !(decide (off % 4 = 0) && (decide (bytes = 4) || decide (bytes = 8)))
  | .debugLock => true
  | .registerWrite w off _ be => winSpan w off && decide (off % 4 = 0) && decide (be ≠ 0)
  | .doorbell _ _ _ => true
  | .mgmtSegment _ _ _ _ seg data => decide (seg.val ≤ 12) && decide (data.length = 20)
  | .mgmtSegmentTimeout _ _ => true
  | .mgmtWindowAccess _ _ _ off _ _ => decide (off.toNat % 4 = 0)
  | .cqConsWrite _ _ => true
  | .irqCtrlWrite _ _ => true
  | .coalTimerExpire _ => true
  | .tokenRefill _ => true
  | .merSourceTick _ => true
  | .merCfgWrite _ _ => true
  | .merValWrite _ _ _ => true
  | .carrierRefRx _ _ _ reload _ => isTime reload
  | .carrierHoldover _ => true
  | .merPinHoldover _ => true
  | .mainsPllHoldover => true
  | .debugHalt => true
  | .debugHaltEnd => true
  | .compareMatch _ => true
  | .cmpArm _ _ => true
  | .fanPwmReload _ => true
  | .ephCommit _ => true
  | .ephTrigger _ => true
  | .ephPost _ _ => true
  | .ephCancel _ _ => true
  | .ephQuery _ _ => true
  | .portTrainComplete _ _ => true
  | .portTrainFail _ _ => true
  | .portTrainRetry _ => true
  | .portRetrain _ _ => true
  | .laneFail _ _ => true
  | .widthChangeRx _ lanes _ => laneCount lanes
  | .widthChangeTimeout _ => true
  | .widthChangeApply _ => true
  | .laneRejoin _ _ => true
  | .widerWidthTimer _ => true
  | .fecUncorrectable _ _ _ => true
  | .cellCrcFail _ _ => true
  | .badTypeCellRx _ _ _ => true
  | .staleEpochCellRx _ _ => true
  | .ackRx _ _ _ _ => true
  | .reliableRetxTimeout _ _ => true
  | .syncTimeTx _ => true
  | .echoRx _ _ t1 t2 t3 t4 _ => isTime t1 && isTime t2 && isTime t3 && isTime t4
  | .epochChange _ => true
  | .bulkCellRx _ _ _ _ _ data => decide (data.length ≤ 20)
  | .svcLaneDown _ => true
  | .svcLaneRetry _ => true
  | .svcRetrain _ _ => true
  | .rendezvous _ => true
  | .beaconRx _ _ _ _ => true
  | .rendezvousMiss _ => true
  | .sampleCellRx _ _ c => decide (c.samples.length = 16)
  | .trailerRx _ _ _ _ _ _ held => decide (held.toNat ≤ 64)
  | .windowDeadline _ => true
  | .stitchSampleLoss _ => true
  | .intentCellRx _ _ _ _ _ _ _ => true
  | .stitchLate _ _ _ _ => true
  | .cmdReject _ _ _ => true
  | .senseOpen _ _ _ => true
  | .ocHiccup _ _ _ _ => true
  | .ocResume _ _ _ => true
  | .stageOt _ _ _ _ => true
  | .driverFault _ _ _ => true
  | .bindReq _ _ => true
  | .hubFwVersion _ _ _ => true
  | .unknownEventRx _ _ _ => true
  | .skeinStep _ batch => !batch.isEmpty && decide batch.Nodup
  | .adoptTimeout _ => true
  | .trailerLoss _ => true
  | .senseOpenClear _ => true
  | .noFeedbackRelease _ => true
  | .feedbackReturn _ => true
  | .jobCopyDone _ => true
  | .engineFault _ => true
  | .jobPlaceRetry _ => true
  | .engDisable _ _ => true
  | .engSelfTestDone _ _ => true
  | .arbPostRetry _ => true
  | .arbGrant _ => true
  | .arbExpire _ => true
  | .lockDrop _ => true
  | .skeinPgTimeout _ => true
  | .skeinOvTrip _ => true
  | .skeinUv _ => true
  | .ilimTimeout _ => true
  | .shareLimitCount _ => true
  | .restoreHoldEnd _ => true
  | .skeinLoadGaintab _ _ => true
  | .skeinLoadSchedule _ _ => true
  | .skeinLoadLaw _ _ => true
  | .engTraceArm _ _ => true
  | .engTraceRead _ _ => true
  | .engJobQuery _ _ => true
  | .engJobMove _ _ => true
  | .engReset _ _ => true
  | .skeinPower _ _ => true
  | .skeinSetLimits _ _ => true
  | .skeinSetTarget _ _ => true
  | .skeinSetShed _ _ => true
  | .skeinQuery _ _ => true
  | .skeinClear _ _ => true
  | .stitchQuery _ _ => true
  | .stitchClear _ _ => true
  | .loadIntentPost _ _ => true
  | .redSnap _ _ => true
  | .redSnapDone _ => true
  | .redClearAcc _ _ => true
  | .lossRead _ _ => true
  | .telemetryRound => true
  | .twTransactionDone _ _ => true
  | .smbalert _ => true
  | .acOkFilterExpire _ => true
  | .acOkRestore _ => true
  | .rectStartTimeout _ => true
  | .rectDrainTimeout _ => true
  | .busVUpdate => true
  | .busLimitTimer _ => true
  | .optTick => true
  | .optProbe _ => true
  | .emergencyAdd => true
  | .rectQuery _ _ => true
  | .rectCtrl _ _ => true
  | .optCtrl _ _ => true
  | .optSkeinPolicy _ _ => true
  | .energyRead _ _ => true
  | .battStatusPoll _ => true
  | .busSagTimer => true
  | .holdupBudget => true
  | .holdupExhausted => true
  | .holdupReturn => true
  | .holdupNormal => true
  | .battSample _ => true
  | .battModeTimer _ => true
  | .fullChargeCorrect _ => true
  | .restCorrect _ => true
  | .learnInterrupt _ => true
  | .chargeControl => true
  | .holdupQuery _ _ => true
  | .holdupCtrl _ _ => true
  | .battQuery _ _ => true
  | .battCtrl _ _ => true
  | .slotInterval _ => true
  | .slotMeasLoss _ => true
  | .workerSampleRx _ _ c => decide (c.cur.length = 8) && decide (c.vol.length = 8)
  | .svcCommandTx _ => true
  | .workerTrip _ _ _ => true
  | .gateRiseTimeout _ => true
  | .slotPresent _ => true
  | .slotSurprise _ => true
  | .castOnResume _ => true
  | .castOnStepTimeout _ => true
  | .unbindTimeout _ => true
  | .capCompute => true
  | .capJudge _ => true
  | .capGraceExpire _ => true
  | .capEnfExpire _ => true
  | .cutLeadExpire _ => true
  | .slotCtrl _ _ => true
  | .slotQuery _ _ => true
  | .slotSetBreaker _ _ => true
  | .budgetCapAck _ _ => true
  | .budgetSet _ _ => true
  | .budgetQuery _ _ => true
  | .budgetPolicy _ _ => true
  | .seqSlotTimer _ => true
  | .railSdTimer _ => true
  | .railCntCheckpoint => true
  | .buttonPress _ => true
  | .buttonForceOff => true
  | .manualReset _ => true
  | .resetOutputRelease _ => true
  | .seqSetRail _ _ => true
  | .seqSetSlot _ _ => true
  | .seqCtrl _ _ => true
  | .seqQuery _ _ => true
  | .seqLogRead _ _ => true
  | .adcSlot _ _ => true
  | .adcStart _ _ => true
  | .adcStop _ _ => true
  | .owCheck _ _ => true
  | .owSettleExpire _ _ => true
  | .calCaptureDone _ => true
  | .adcCal _ _ => true
  | .thmSample readings => decide (readings.length = 13) && readings.all readingFits
  | .thmSensorStale _ => true
  | .shedStageTimer => true
  | .shedRestoreTimer => true
  | .fanUpdate => true
  | .dormantThmCheck temp => readingFits (some temp)
  | .thmQuery _ _ => true
  | .heartbeatTx => true
  | .heartbeatRx tTx _ _ _ _ => isTime tTx
  | .heartbeatCheck => true
  | .aliveToggle => true
  | .aliveStop => true
  | .failureNoticeRx _ => true
  | .ownFailure _ => true
  | .digestRound => true
  | .digestRx _ _ _ => true
  | .digestStepTimeout _ => true
  | .stateImageRx _ _ image => decide (image.skeinState ≤ 5) && decide (image.count ≤ 128)
  | .effectMessageRx m => m.wellFormed
  | .claimRecordRx r => r.wellFormed
  | .shelfDigestRx d => decide (d.holdup < 4) && isTime d.enteredAt
  | .portFlightsRx _ _ _ width => [0, 1, 2, 4, 8].contains width
  | .portMoveYield _ => true
  | .transitRx tx => isTime tx
  | .transitTime => true
  | .periodicTransit => true
  | .proveTimer => true
  | .reclaimRequest => true
  | .pcieDownTransit => true
  | .pairQuery _ _ => true
  | .pairTransit _ _ => true
  | .pairCtrl _ _ => true
  | .graceExpire _ _ => true
  | .safeStopRestart => true
  | .faultQuery _ _ => true
  | .faultClear _ _ => true
  | .faultConfig _ _ => true
  | .faultInject _ _ => true
  | .faultLogRead _ _ => true
  | .nvRecordDone _ => true
  | .holdupDieMeasure _ => true
  | .nvBootScanDone => true
  | .nwRead _ _ => true
  | .nwLastFault _ _ => true
  | .nwTrigger _ _ => true
  | .nwCtrlSet _ _ => true
  | .twArbLost _ => true
  | .twStretchTimeout _ _ => true
  | .twSclStuck _ => true
  | .twSdaStuck _ _ => true
  | .twStuckRetry _ _ _ => true
  | .twAttention _ _ => true
  | .twAttnAssert _ => true
  | .twTargetRead _ _ _ => true
  | .twTargetWrite _ _ _ _ => true
  | .twTargetTimeout _ => true
  | .twWake _ _ => true
  | .secureBoot => true
  | .bootRetry => true
  | .entropyTestFail _ _ => true
  | .entropyRetestDone _ => true
  | .drbgInstantiateDone => true
  | .drbgReseed => true
  | .keyParityError _ => true
  | .fwQuery _ _ => true
  | .fwWrite _ _ => true
  | .fwVerify _ _ => true
  | .fwActivate _ _ => true
  | .fwPlanStart => true
  | .fwConfirm => true
  | .fwTrialTimeout => true
  | .fwRevert _ _ => true
  | .fwPinLevel _ _ => true
  | .secRandom _ _ => true
  | .secQuery _ _ => true
  | .hubFwWrite _ _ => true
  | .hubFwActivate _ _ => true
  | .hubFwDelivered _ => true
  | .hubFwReportTimeout _ => true
  | .powerOn => true
  | .sysReset _ => true
  | .resetExit _ => true
  | .mainSupplyLoss _ => true
  | .supplyGood => true
  | .vaonLoss => true
  | .coldStart => true
  | .pairDecision => true
  | .admitComplete => true
  | .startupBind _ => true
  | .mailboxOpen => true
  | .unitRestart _ _ => true
  | .mbxNop _ _ => true
  | .mbxQuery _ _ => true
  | .mbxAbort _ _ => true
  | .viAssign _ _ => true
  | .viRelease _ _ => true
  | .viMap _ _ => true
  | .objAssign _ _ => true
  | .patternWrite _ _ => true
  | .patternCommit _ _ => true
  | .srefLoss _ => true
  | .svcTrainComplete _ => true
  | .partnerLinkUp _ => true
  | .partnerLinkDown => true
  | .partnerTimeRx tTx flight => isTime tTx && decide (flight < 65536)
  | .thermalDormantEntry => true
  | .transitRequestRx => true

end Sys2Proof
end

