-- ==== Sys2Proof/Certificates/Slice0/Obligations.lean ====
section
/-! DEFINITION. The statements for the provers: what a step does, the effect of every command under stated conditions on the
state and the operands, and what every step keeps. -/

open Sys2Proof Sys2Proof.Machine Sys2Proof.Safety

/-- For every command c and state s: a step of s with c at the front of its queue is exec of c on s with the rest of the
queue, and a step on an empty queue leaves the state as it is (the model's choice of log 1). (00_scope.md, assumption
log 1) -/
def Obligations.StepRunsTheFront : Prop :=
  (∀ (c : Instr) (rest : List Instr) (s : State), step { s with pending := c :: rest } = exec c { s with pending := rest }) ∧
  (∀ s : State, s.pending = [] → step s = .next s)

/-- For every state whose mailbox memory, hub staging buffer and two flash devices are in canonical form (addresses
rising, no entry equal to what an unlisted address reads as), a step that answers a next state leaves all four in
canonical form. (23_register_reference.md, 20_trust_and_update.md, 02_virtual_interfaces.md) -/
def Obligations.EveryStepKeepsMemoriesCanonical : Prop :=
  ∀ s t : State, MemWf s → step s = .next t → MemWf t

/-- The state after reset meets the invariant of EveryStepKeepsMemoriesCanonical, its queue is empty, its chassis time is
0 and every meridian is disabled. (R132, R130) -/
def Obligations.ResetMemoriesCanonical : Prop :=
  MemWf State.reset ∧ State.reset.pending = [] ∧ State.reset.ct = 0 ∧
  ∀ m : Fin 64, State.reset.get (MER_CFG_en m) = 0

/-- For every command c and state s: when exec of c answers a next state, the queue there is the queue of s. Only a step
takes a command from the queue. (95_what_each_step_holds.md) -/
def Obligations.CommandsLeaveTheQueueAlone : Prop :=
  ∀ (c : Instr) (s t : State), exec c s = .next t → t.pending = s.pending

/-- For every command and state, when exec answers a next state: a FABRIC_CYCLE leaves chassis time no lower, and one
count higher unless the unit is admitted or standby (where alignment slews it); PARTNER_TIME_RX never lowers it and
changes it only on a booting unit; POWER_ON and RESET_EXIT form the starting value; every other command leaves it as
it was. (03_meridian_timebase.md) -/
def Obligations.ChassisTimeMovesOnlySo : Prop :=
  (∀ (c : Instr) (s t : State), exec c s = .next t → c ≠ .fabricCycle → (∀ x y, c ≠ .partnerTimeRx x y) → c ≠ .powerOn →
    (∀ x, c ≠ .resetExit x) → t.ct = s.ct) ∧
  (∀ s t : State, exec .fabricCycle s = .next t → s.ct ≤ t.ct ∧ (s.unit ≠ 2 → s.unit ≠ 3 → t.ct = s.ct + 1)) ∧
  (∀ (x y : Nat) (s t : State), exec (.partnerTimeRx x y) s = .next t → s.ct ≤ t.ct ∧ (s.unit ≠ 1 → t.ct = s.ct))

/-- Completion of FABRIC_CYCLE. On a unit that is neither admitted nor standby, or that is aligned exactly, chassis time
goes up by one count. On an admitted or standby unit that differs from the active unit it goes up by one count while
fewer than 1,024 cycles have passed since its last slew, and, in a cycle with no rung due, by two when it is behind
and by none when it is ahead in the cycle of a slew; the remaining difference shrinks by one there and the next slew
is 1,024 cycles away. The lock that debug_lock set is in force from the next cycle on. (03_meridian_timebase.md,
23_register_reference.md) -/
def Obligations.FabricCycleCountsOne : Prop :=
  (∀ (s : State),
    (s.unit ≠ 2 ∧ s.unit ≠ 3) ∨ s.pair.partnerDiff = 0 →
    ∃ t, exec (.fabricCycle) s = .next t ∧ t.ct = s.ct + 1) ∧
  (∀ (s : State),
    s.unit = 2 ∨ s.unit = 3 →
    s.pair.partnerDiff ≠ 0 →
    1 < s.pair.slewLeft →
    ∃ t, exec (.fabricCycle) s = .next t ∧ t.ct = s.ct + 1) ∧
  (∀ (s : State),
    Runs s →
    Mild s [.adcOverrun] →
    s.faults.inject = none →
    s.rst.restartAt = none →
    s.unit = 2 ∨ s.unit = 3 →
    0 < s.pair.partnerDiff →
    s.pair.slewLeft ≤ 1 →
    ∃ t, exec (.fabricCycle) s = .next t ∧ t.ct = s.ct + 2 ∧
      t.pair.partnerDiff = s.pair.partnerDiff - 1 ∧
      t.pair.slewLeft = 1024) ∧
  (∀ (s : State),
    Runs s →
    Mild s [.adcOverrun] →
    s.faults.inject = none →
    s.rst.restartAt = none →
    s.unit = 2 ∨ s.unit = 3 →
    s.pair.partnerDiff < 0 →
    s.pair.slewLeft ≤ 1 →
    ∃ t, exec (.fabricCycle) s = .next t ∧ t.ct = s.ct ∧
      t.pair.partnerDiff = s.pair.partnerDiff + 1 ∧
      t.pair.slewLeft = 1024) ∧
  (∀ (s : State),
    Runs s →
    Mild s [.adcOverrun] →
    s.faults.inject = none →
    s.rst.restartAt = none →
    ∃ t, exec (.fabricCycle) s = .next t ∧ t.debugLock = s.is GLB_CTRL_debug_lock ∧
      t.debugHalt = s.debugHalt ∧
      t.hwTouched.all (fun x => decide (x.at_.1 ≠ aGLB_SCRATCH)) = true ∧
      t.swTouched = [])

/-- Completion of CT_LO_READ, LO_HI_READ_LATCH, LO_WRITE_HELD, UNMAPPED_ACCESS and UNSUPPORTED_ACCESS. Reading CT_LO
returns bits [31:0] of chassis time and latches bits [63:32], and a read of CT_HI returns the latched value; reading
LO of any pair that holds one value returns LO and latches HI. A write to LO of a writable pair is held and changes no
register (that of an enabled meridian is ignored). A read off the map returns 0; in BAR2 with ur_unmapped set any such
access is an Unsupported Request; a write off the map is ignored, and in BAR2 sets unmapped_seen. An access that is
misaligned or of another size is an Unsupported Request with no other effect. An access the map lists is not an
UNMAPPED_ACCESS and changes nothing. (03_meridian_timebase.md, 23_register_reference.md) -/
def Obligations.RegisterReadsAndPairs : Prop :=
  (∀ (s : State),
    ∃ t, exec (.ctLoRead) s = .next t ∧ t.out = s.out ++ [.readData (BitVec.ofNat 32 s.ct)] ∧
      (t.readWord aCT_HI).2 = BitVec.ofNat 32 (s.ct / 2 ^ 32) ∧
      t.regs = s.regs ∧
      t.mem = s.mem) ∧
  (∀ (s : State) (w : Win) (off : Nat),
    listed w off = true →
    loOfPair (Win.addr w off) = true →
    off % 4 = 0 →
    ∃ t, exec (.loHiReadLatch w off) s = .next t ∧ t.out = s.out ++ [.readData (s.regShow (Win.addr w off))] ∧
      Tbl.get t.latchHi (Win.addr w off) 0 = s.regShow (Win.addr w off + 4) ∧
      t.regs = s.regs ∧
      t.mem = s.mem) ∧
  (∀ (s : State) (w : Win) (off : Nat) (v : Word),
    Runs s →
    s.discards w = false →
    listed w off = true →
    rwPair (Win.addr w off) = true →
    s.inReset (Win.addr w off) = false →
    off % 4 = 0 →
    Win.addr w off < 0x4100 ∨ 0x4900 ≤ Win.addr w off ∨ s.merEn ((Win.addr w off - 0x4100) / 0x20) = false →
    ∃ t, exec (.loWriteHeld w off v) s = .next t ∧ Tbl.get t.heldLo (Win.addr w off) 0 = v ∧
      t.regs = s.regs ∧
      t.mem = s.mem) ∧
  (∀ (s : State) (w : Win) (off : Nat),
    listed w off = false →
    s.is GLB_CTRL_ur_unmapped = false ∨ w ≠ .bar2 →
    ∃ t, exec (.unmappedAccess w off false) s = .next t ∧ t.out = s.out ++ [.readData 0] ∧
      t.regs = s.regs ∧
      t.mem = s.mem) ∧
  (∀ (s : State) (off : Nat),
    listed .bar2 off = false →
    ∃ t, exec (.unmappedAccess .bar2 off true) s = .next t ∧ t.get GLB_STATUS_unmapped_seen = 1 ∧
      t.mem = s.mem) ∧
  (∀ (s : State) (w : Win) (off : Nat),
    listed w off = false →
    w ≠ .bar2 →
    ∃ t, exec (.unmappedAccess w off true) s = .next t ∧ t = s) ∧
  (∀ (s : State) (off : Nat) (write : Bool),
    listed .bar2 off = false →
    s.is GLB_CTRL_ur_unmapped = true →
    ∃ t, exec (.unmappedAccess .bar2 off write) s = .next t ∧ t.out = s.out ++ [.unsupported] ∧
      t.mem = s.mem) ∧
  (∀ (s : State) (w : Win) (off : Nat) (write : Bool),
    listed w off = true →
    ∃ t, exec (.unmappedAccess w off write) s = .next t ∧ t = s) ∧
  (∀ (s : State) (w : Win) (off bytes : Nat) (write : Bool),
    off % 4 ≠ 0 ∨ (bytes ≠ 4 ∧ bytes ≠ 8) →
    ∃ t, exec (.unsupportedAccess w off bytes write) s = .next t ∧ t = { s with out := s.out ++ [.unsupported] })

/-- For every stored word w, written word v and field f inside the word: an RW or SH field stores the written bits, a W1C
field is cleared where 1 is written and unchanged elsewhere, a W1S field is set where 1 is written, and a WO, RO or
HS/RO field stores nothing; no other bit of the word changes. (00_scope.md, 23_register_reference.md) -/
def Obligations.FieldsTakeWritesByAccessCode : Prop :=
  ∀ (w v : Word) (f : FieldSpec), f.lo ≤ f.hi → f.hi < 32 →
    ((f.acc = .rw ∨ f.acc = .sh) → (fieldAfter w v 0xFFFFFFFF f).bits f.hi f.lo = v.bits f.hi f.lo) ∧
    ((f.acc = .w1c ∨ f.acc = .hsW1c) → (fieldAfter w v 0xFFFFFFFF f).bits f.hi f.lo = (w &&& ~~~v).bits f.hi f.lo) ∧
    (f.acc = .w1s → (fieldAfter w v 0xFFFFFFFF f).bits f.hi f.lo = (w ||| v).bits f.hi f.lo) ∧
    ((f.acc = .wo ∨ f.acc = .ro ∨ f.acc = .hsRo) → fieldAfter w v 0xFFFFFFFF f = w) ∧
    (∀ i : Nat, i < 32 → (i < f.lo ∨ f.hi < i) → (fieldAfter w v 0xFFFFFFFF f).bit i = w.bit i)

/-- Completion of REGISTER_WRITE. For every BAR2 register whose write sets nothing else going (every listed register but
those of meridians, compare channels, fan outputs, converters, ports and engines, FLT_CTRL, the per-kind configuration
and the energy pairs), not updated by hardware in the same cycle: the register takes the value that the access codes
of its fields give under the byte enables; no other register, no byte of any memory, no meridian, skein, stitch, slot
or chassis time changes. A write of all four bytes to a command slot of an enabled virtual function stores them there
and changes no register and no byte elsewhere. A write to the completion or event ring is ignored. (00_scope.md,
23_register_reference.md) -/
def Obligations.RegisterWriteFrame : Prop :=
  (∀ (s : State) (a : Nat) (v : Word) (be : BitVec 4),
    Runs s →
    NoRung s →
    listed .bar2 a = true →
    a % 4 = 0 →
    PlainReg a →
    Untouched s a →
    ∃ t, exec (.registerWrite .bar2 a v be) s = .next t ∧ t.word a = wordAfter (s.word a) v (byteMask be) (((regAt a).map (·.fields)).getD []) ∧
      (∀ b, b ≠ a → t.word b = s.word b) ∧
      t.mem = s.mem ∧
      t.hubStage = s.hubStage ∧
      t.flash0 = s.flash0 ∧
      t.flash1 = s.flash1 ∧
      t.ct = s.ct ∧
      t.mers = s.mers ∧
      t.skeins = s.skeins ∧
      t.stitches = s.stitches ∧
      t.slotx = s.slotx ∧
      t.slots = s.slots ∧
      t.heldLo = s.heldLo) ∧
  (∀ (s : State),
    Runs s →
    NoRung s →
    Untouched s aGLB_STATUS →
    ∃ t, exec (.registerWrite .bar2 0x24 4 0xF) s = .next t ∧ t.get GLB_STATUS_unmapped_seen = 0 ∧
      t.get GLB_STATUS_halt = s.get GLB_STATUS_halt) ∧
  (∀ (s : State) (mb : Mb) (o : Nat) (v : Word),
    Runs s →
    NoRung s →
    MemWf s →
    s.discards (winOf mb) = false →
    0x4000 ≤ o →
    o < 0x8000 →
    o % 4 = 0 →
    ∃ t, exec (.registerWrite (winOf mb) o v 0xF) s = .next t ∧ Mem.readBytes Mem.blank t.mem (winBase mb + o) 4 = leBytes 4 v.toNat ∧
      (∀ b, b < winBase mb + o ∨ winBase mb + o + 4 ≤ b → Mem.read Mem.blank t.mem b = Mem.read Mem.blank s.mem b) ∧
      t.regs = s.regs ∧
      t.slots = s.slots) ∧
  (∀ (s : State) (mb : Mb) (o : Nat) (v : Word) (be : BitVec 4),
    Runs s →
    NoRung s →
    0x1000 ≤ o →
    o < 0x3000 →
    o % 4 = 0 →
    ∃ t, exec (.registerWrite (winOf mb) o v be) s = .next t ∧ t = s)

/-- Completion of DEBUG_LOCK, DEBUG_HALT and DEBUG_HALT_END on a unit out of reset. A write of 1 to debug_lock sets it,
and the lock in force stays that of the cycle, so a halt of the same cycle is still taken. A halt that no lock in
force forbids is asserted and shown; a lock in force forbids it, and a core already halted stays halted. The end of a
halt ends it. None of them changes a meridian value or a byte of memory. (R678) -/
def Obligations.DebugLockAndHalt : Prop :=
  (∀ (s : State),
    Runs s →
    Untouched s aGLB_CTRL →
    ∃ t, exec (.debugLock) s = .next t ∧ t.get GLB_CTRL_debug_lock = 1 ∧
      t.debugLock = s.debugLock ∧
      t.debugHalt = s.debugHalt ∧
      t.mem = s.mem ∧
      t.mers = s.mers) ∧
  (∀ (s : State),
    Runs s →
    s.debugLock = false →
    ∃ t, exec (.debugHalt) s = .next t ∧ t.debugHalt = true ∧
      t.get GLB_STATUS_halt = 1 ∧
      t.mem = s.mem ∧
      t.mers = s.mers) ∧
  (∀ (s : State),
    s.debugLock = true →
    ∃ t, exec (.debugHalt) s = .next t ∧ t = s) ∧
  (∀ (s : State),
    Runs s →
    ∃ t, exec (.debugHaltEnd) s = .next t ∧ t.debugHalt = false ∧
      t.mem = s.mem ∧
      (∀ m, (t.mer m).value = (s.mer m).value))

/-- Completion of MER_SOURCE_TICK, for every source 0 to 4 (of source 4, an edge of its pin outside holdover). A running
meridian adds 1.0 to its accumulator; when the accumulator reaches the ratio in force (1.0 at least), the ratio is
subtracted and the meridian clock adds the written step and fraction to the 48-bit value, modulo 2^48, with 16
fraction bits kept below bit 0, and takes the written step, fraction and ratio. A meridian that is disabled, or held
in debug halt, keeps value, fraction and accumulator. No other meridian, no register and no memory changes. The
reserved sources have no tick. (03_meridian_timebase.md) -/
def Obligations.SourceTicksTurnMeridians : Prop :=
  (∀ (s : State) (m : Fin 64),
    s.merEn m = true →
    s.merHeld m = false →
    s.get (MER_CFG_src m) < 4 ∨ (s.get (MER_CFG_src m) = 4 ∧ s.is (MER_STATUS_holdover m) = false) →
    (s.mer m).acc + 65536 < (s.mer m).ratioEff →
    ∃ t, exec (.merSourceTick m) s = .next t ∧ (t.mer m).acc = (s.mer m).acc + 65536 ∧
      (t.mer m).value = (s.mer m).value ∧
      (t.mer m).frac = (s.mer m).frac ∧
      (t.mer m).ratio = (s.mer m).ratio ∧
      (∀ k, k ≠ m.val → t.mer k = s.mer k) ∧
      t.regs = s.regs ∧
      t.mem = s.mem) ∧
  (∀ (s : State) (m : Fin 64),
    s.merEn m = true →
    s.merHeld m = false →
    s.get (MER_CFG_src m) < 4 ∨ (s.get (MER_CFG_src m) = 4 ∧ s.is (MER_STATUS_holdover m) = false) →
    (s.mer m).ratioEff ≤ (s.mer m).acc + 65536 →
    ∃ t, exec (.merSourceTick m) s = .next t ∧ (t.mer m).acc = (s.mer m).acc + 65536 - (s.mer m).ratioEff ∧
      (t.mer m).value * 65536 + (t.mer m).frac = ((s.mer m).value * 65536 + (s.mer m).frac + s.get (MER_STEP_step m) * 65536 + s.get (MER_STEP_FRAC_frac m)) % 2 ^ 64 ∧
      (t.mer m).step = s.get (MER_STEP_step m) ∧
      (t.mer m).stepFrac = s.get (MER_STEP_FRAC_frac m) ∧
      (t.mer m).ratio = s.get (MER_PRESCALE_ratio m) ∧
      (∀ k, k ≠ m.val → t.mer k = s.mer k) ∧
      t.regs = s.regs ∧
      t.mem = s.mem) ∧
  (∀ (s : State) (m : Fin 64),
    s.merEn m = false ∨ s.merHeld m = true →
    ∃ t, exec (.merSourceTick m) s = .next t ∧ (t.mer m).value = (s.mer m).value ∧
      (t.mer m).frac = (s.mer m).frac ∧
      (t.mer m).acc = (s.mer m).acc ∧
      (∀ k, k ≠ m.val → t.mer k = s.mer k) ∧
      t.regs = s.regs ∧
      t.mem = s.mem) ∧
  (∀ (s : State) (m : Fin 64),
    5 ≤ s.get (MER_CFG_src m) →
    ∃ t, exec (.merSourceTick m) s = .next t ∧ t = s)

/-- Completion of MER_CFG_WRITE and MER_VAL_WRITE. A LO write to a disabled meridian waits; the HI write then holds both
as one 48-bit value and changes nothing that runs. A LO or HI write to an enabled meridian is ignored. The write of
MER_CFG that sets en loads the held value with its step fraction at 0, or keeps the value the meridian stopped at when
none was written; it takes the written step, step fraction, ratio and offset, and sets the accumulator to 0. A write
that leaves a disabled meridian disabled starts nothing. No byte of memory changes. (R96) -/
def Obligations.MeridianEnableLoadsTheHeldValue : Prop :=
  (∀ (s : State) (m : Fin 64) (v : Word),
    Runs s →
    s.merEn m = false →
    v.bit 3 = true →
    s.carries m = false →
    Untouched s (aMER_CFG m) →
    ∃ t, exec (.merCfgWrite m v) s = .next t ∧ t.get (MER_CFG_en m) = 1 ∧
      t.get (MER_CFG_src m) = v.bits 2 0 ∧
      (t.mer m).acc = 0 ∧
      (t.mer m).value = (s.mer m).held.getD (s.mer m).value ∧
      (t.mer m).frac = (if (s.mer m).held.isSome then 0 else (s.mer m).frac) ∧
      (t.mer m).held = none ∧
      (t.mer m).ratio = s.get (MER_PRESCALE_ratio m) ∧
      (t.mer m).step = s.get (MER_STEP_step m) ∧
      (t.mer m).stepFrac = s.get (MER_STEP_FRAC_frac m) ∧
      (t.mer m).offset = s.get (MER_OFFSET_offset m) ∧
      (∀ k, k ≠ m.val → t.mer k = s.mer k) ∧
      t.mem = s.mem) ∧
  (∀ (s : State) (m : Fin 64) (v : Word),
    Runs s →
    s.merEn m = false →
    v.bit 3 = false →
    s.carries m = false →
    Untouched s (aMER_CFG m) →
    ∃ t, exec (.merCfgWrite m v) s = .next t ∧ t.get (MER_CFG_en m) = 0 ∧
      t.mers = s.mers ∧
      t.mem = s.mem) ∧
  (∀ (s : State) (m : Fin 64) (lo hi : Word),
    Runs s →
    s.merEn m = false →
    Tbl.find? s.heldLo (aMER_VAL_LO m) = some lo →
    ∃ t, exec (.merValWrite m true hi) s = .next t ∧ (t.mer m).held = some (hi.bits 15 0 * 2 ^ 32 + lo.toNat) ∧
      (t.mer m).value = (s.mer m).value ∧
      (t.mer m).acc = (s.mer m).acc ∧
      (∀ k, k ≠ m.val → t.mer k = s.mer k) ∧
      t.regs = s.regs ∧
      t.mem = s.mem) ∧
  (∀ (s : State) (m : Fin 64) (v : Word),
    Runs s →
    s.merEn m = false →
    ∃ t, exec (.merValWrite m false v) s = .next t ∧ Tbl.get t.heldLo (aMER_VAL_LO m) 0 = v ∧
      t.mers = s.mers ∧
      t.regs = s.regs ∧
      t.mem = s.mem) ∧
  (∀ (s : State) (m : Fin 64) (hi : Bool) (v : Word),
    Runs s →
    s.merEn m = true →
    ∃ t, exec (.merValWrite m hi v) s = .next t ∧ t.mers = s.mers ∧
      t.regs = s.regs ∧
      t.mem = s.mem)

/-- Completion of CARRIER_REF_RX, CARRIER_HOLDOVER, MER_PIN_HOLDOVER, MAINS_PLL_HOLDOVER and of MER_SOURCE_TICK of a pin
in holdover. A reference of a running src 3 meridian, from one of the 8 stitches its port carries, is recorded, ends
holdover and moves the value by no more than 2^20 counts; the fourth successive one with an error above 2^26 counts
clears locked and sets unlock_seen; the 64th small one sets locked. A reference the port does not carry moves no
meridian. No reference for 8 expected cycles sets holdover, as does no pin edge for 16 expected periods; the value
does not step there. A pin edge in holdover corrects by no more than 2^20 counts or ends holdover. No L1 crossing for
2 expected cycles, or none yet, sets the PLL and every src 2 meridian in holdover. (03_meridian_timebase.md,
04_fliral_link.md) -/
def Obligations.MeridianLockAndHoldover : Prop :=
  (∀ (s : State) (p : Fin 64) (h : UpHdr) (j : Fin 128) (m : Fin 64) (reload : Nat) (cycle : BitVec 16),
    Runs s →
    s.faults.inject = none →
    NoRung s →
    ∀ n : Fin 64, (s.mer n).bad < 3 →
    s.get (MER_CFG_src m) = 3 →
    s.get (MER_CFG_port m) = p.val →
    s.get (MER_CFG_stitch m) = j.val →
    j.val ∈ s.portRefs p →
    s.merEn m = true →
    (s.mer m).value < 2 ^ 48 →
    ∃ t, exec (.carrierRefRx p h j reload cycle) s = .next t ∧ (∃ c : Int, c.natAbs ≤ 2 ^ 20 ∧ (t.mer m).value = toField 48 ((s.mer m).value - c)) ∧
      (t.mer m).lastRef = reload ∧
      t.get (MER_STATUS_holdover m) = 0) ∧
  (∀ (s : State) (p : Fin 64) (h : UpHdr) (j : Fin 128) (m : Fin 64) (reload : Nat) (cycle : BitVec 16),
    Runs s →
    s.faults.inject = none →
    Mild s [.merUnlock] →
    s.get (MER_CFG_src m) = 3 →
    s.get (MER_CFG_port m) = p.val →
    s.get (MER_CFG_stitch m) = j.val →
    j.val ∈ s.portRefs p →
    s.merEn m = true →
    s.is (MER_STATUS_locked m) = true →
    (s.mer m).bad = 3 →
    2 ^ 26 < (fromField 32 (toField 32 (((s.mer m).value : Int) - ((s.ct : Int) - reload) * (s.mer m).stepx / (s.mer m).ratioEff - s.refOffset (128 * p + j)))).natAbs →
    ∃ t, exec (.carrierRefRx p h j reload cycle) s = .next t ∧ t.get (MER_STATUS_locked m) = 0 ∧
      t.get (MER_STATUS_unlock_seen m) = 1) ∧
  (∀ (s : State) (p : Fin 64) (h : UpHdr) (j : Fin 128) (m : Fin 64) (reload : Nat) (cycle : BitVec 16),
    Runs s →
    s.faults.inject = none →
    Mild s [.merUnlock] →
    s.get (MER_CFG_src m) = 3 →
    s.get (MER_CFG_port m) = p.val →
    s.get (MER_CFG_stitch m) = j.val →
    j.val ∈ s.portRefs p →
    s.merEn m = true →
    63 ≤ (s.mer m).good →
    (fromField 32 (toField 32 (((s.mer m).value : Int) - ((s.ct : Int) - reload) * (s.mer m).stepx / (s.mer m).ratioEff - s.refOffset (128 * p + j)))).natAbs ≤ 2 ^ 22 →
    ∃ t, exec (.carrierRefRx p h j reload cycle) s = .next t ∧ t.get (MER_STATUS_locked m) = 1) ∧
  (∀ (s : State) (p : Fin 64) (h : UpHdr) (j : Fin 128) (reload : Nat) (cycle : BitVec 16),
    Runs s →
    s.faults.inject = none →
    NoRung s →
    j.val ∉ s.portRefs p →
    ∃ t, exec (.carrierRefRx p h j reload cycle) s = .next t ∧ t.mers = s.mers) ∧
  (∀ (s : State) (m : Fin 64),
    s.get (MER_CFG_src m) = 3 →
    s.merEn m = true →
    (s.mer m).lastRef + (s.mer m).ticksFor (8 * 2 ^ 32) ≤ s.ct →
    ∃ t, exec (.carrierHoldover m) s = .next t ∧ t.get (MER_STATUS_holdover m) = 1 ∧
      t.mers = s.mers ∧
      t.mem = s.mem) ∧
  (∀ (s : State) (m : Fin 64) (e : Nat),
    s.get (MER_CFG_src m) = 4 →
    s.merEn m = true →
    (s.mer m).edgeGap ≠ 0 →
    (s.mer m).lastEdge = some e →
    e + 16 * (s.mer m).edgeGap ≤ s.ct →
    ∃ t, exec (.merPinHoldover m) s = .next t ∧ t.get (MER_STATUS_holdover m) = 1 ∧
      t.mers = s.mers ∧
      t.mem = s.mem) ∧
  (∀ (s : State) (m : Fin 64),
    s.get (MER_CFG_src m) = 4 →
    s.merEn m = true →
    s.is (MER_STATUS_holdover m) = true →
    ∃ t, exec (.merSourceTick m) s = .next t ∧ (t.mer m).lastEdge = some s.ct ∧
      (t.get (MER_STATUS_holdover m) = 0 ∨ ∃ c : Int, c.natAbs ≤ 2 ^ 20 ∧ (t.mer m).value = toField 48 ((s.mer m).value - c)) ∧
      t.mem = s.mem) ∧
  (∀ (s : State) (m : Fin 64),
    Runs s →
    Mild s [.huEntry] →
    (s.ph 0).lastCross.all (fun t => decide (t + 2 * s.shelf.pllPeriod ≤ s.ct)) = true →
    s.get (MER_CFG_src m) = 2 →
    ∃ t, exec (.mainsPllHoldover) s = .next t ∧ t.shelf.pllHoldover = true ∧
      t.get (MER_STATUS_holdover m) = 1 ∧
      t.get (MER_STATUS_locked m) = 0 ∧
      t.mers = s.mers)

/-- Completion of COMPARE_MATCH, CMP_ARM and FAN_PWM_RELOAD. A channel that matches in a cycle in which no lower channel
does, and that software has not written in it, sets matched: one-shot, it clears arm and keeps its value; periodic, it
stays armed and its value moves on by its period, a full turn for 0. A GPIO action drives a GPIO only when it is given
to the timebase. A channel does not match twice in one cycle. A write that arms a channel whose value is already
matched sets late; one whose action is above 5 does not arm. At the end of its period a fan output reloads period and
duty together. (R108) -/
def Obligations.CompareChannelsMatch : Prop :=
  (∀ (s : State) (k : Fin 512),
    s.cmpDue k = true →
    s.swTouched = [] →
    s.cmpOld = [] →
    NoRung s →
    (s.cmpSet.filter (fun j => decide (j < k.val) && s.cmpDue j)) = [] →
    s.is (CMP_CTRL_periodic k) = false →
    s.get (CMP_CTRL_action k) = 0 ∨ 6 ≤ s.get (CMP_CTRL_action k) →
    ∃ t, exec (.compareMatch k) s = .next t ∧ t.get (CMP_CTRL_matched k) = 1 ∧
      t.get (CMP_CTRL_arm k) = 0 ∧
      t.cmpVal k = s.cmpVal k ∧
      t.gpio = s.gpio ∧
      t.mem = s.mem) ∧
  (∀ (s : State) (k : Fin 512),
    s.cmpDue k = true →
    s.swTouched = [] →
    s.cmpOld = [] →
    NoRung s →
    (s.cmpSet.filter (fun j => decide (j < k.val) && s.cmpDue j)) = [] →
    s.is (CMP_CTRL_periodic k) = true →
    s.get (CMP_CTRL_action k) = 0 ∨ 6 ≤ s.get (CMP_CTRL_action k) →
    ∃ t, exec (.compareMatch k) s = .next t ∧ t.get (CMP_CTRL_matched k) = 1 ∧
      t.get (CMP_CTRL_arm k) = 1 ∧
      t.cmpVal k = (s.cmpVal k + (if s.get (CMP_PERIOD_period k) = 0 then 2 ^ 32 else s.get (CMP_PERIOD_period k))) % 2 ^ 48 ∧
      t.mem = s.mem) ∧
  (∀ (s : State) (k : Fin 512),
    s.cmpDue k = true →
    s.swTouched = [] →
    s.cmpOld = [] →
    NoRung s →
    (s.cmpSet.filter (fun j => decide (j < k.val) && s.cmpDue j)) = [] →
    s.get (CMP_CTRL_action k) = 2 →
    s.get (CMP_CTRL_arg k) < 64 →
    ∃ t, exec (.compareMatch k) s = .next t ∧ t.get (CMP_CTRL_matched k) = 1 ∧
      t.gpio = (if s.is ⟨aMER_GPIO (s.get (CMP_CTRL_arg k) / 32), s.get (CMP_CTRL_arg k) % 32, s.get (CMP_CTRL_arg k) % 32⟩ then s.gpio ||| BitVec.ofNat 64 (2 ^ s.get (CMP_CTRL_arg k)) else s.gpio) ∧
      t.mem = s.mem) ∧
  (∀ (s : State) (k : Fin 512),
    s.cmpDone.contains k.val = true →
    ∃ t, exec (.compareMatch k) s = .next t ∧ t = s) ∧
  (∀ (s : State) (k : Fin 512) (v : Word),
    Runs s →
    Untouched s (aCMP_CTRL k) →
    v.bit 0 = true →
    v.bits 7 4 ≤ 5 →
    s.merLive (s.cmpMer k) = true →
    merMatched (s.mer (s.cmpMer k)).visible (s.cmpVal k) = true →
    ∃ t, exec (.cmpArm k v) s = .next t ∧ t.get (CMP_CTRL_arm k) = 1 ∧
      t.get (CMP_CTRL_late k) = 1 ∧
      t.get (CMP_CTRL_action k) = v.bits 7 4 ∧
      t.mem = s.mem ∧
      t.gpio = s.gpio) ∧
  (∀ (s : State) (k : Fin 512) (v : Word),
    Runs s →
    Untouched s (aCMP_CTRL k) →
    6 ≤ v.bits 7 4 →
    ∃ t, exec (.cmpArm k v) s = .next t ∧ t.get (CMP_CTRL_arm k) = 0 ∧
      t.mem = s.mem ∧
      t.gpio = s.gpio) ∧
  (∀ (s : State) (n : Fin 16),
    (s.fan n).startedAt + 64 * Nat.max 1 (s.fan n).period ≤ s.ct →
    s.swTouched = [] →
    ∃ t, exec (.fanPwmReload n) s = .next t ∧ (t.fan n).period = s.get (FAN_PWM_period n) ∧
      (t.fan n).duty = s.get (FAN_PWM_duty n) ∧
      (t.fan n).startedAt = s.ct ∧
      (∀ j, j ≠ n.val → t.fan j = s.fan j) ∧
      t.regs = s.regs ∧
      t.mem = s.mem) ∧
  (∀ (s : State) (n : Fin 16),
    s.ct < (s.fan n).startedAt + 64 * Nat.max 1 (s.fan n).period →
    ∃ t, exec (.fanPwmReload n) s = .next t ∧ t = s)

/-- Completion of EPH_COMMIT and EPH_TRIGGER. At the commit point of a pending entry: when every action passes its check
the entry becomes committed with its actions, and a target set for a skein whose job runs reaches that skein for the
cycle it applies at; when any action fails, the whole entry becomes aborted, the abort is counted, and no skein takes
any of its actions. At the trigger of a committed entry, with no earlier entry due, the entry becomes applied with the
chassis time of application; a register write action writes a plain register under its mask. No other entry changes.
Before its commit point, or its trigger, an entry does not change. (03_meridian_timebase.md, assumption log 157) -/
def Obligations.EphemerisEntriesCommitAndApply : Prop :=
  (∀ (s : State) (i : Fin 4096),
    s.commitDue (s.ephE i) = true →
    (s.ephE i).acts.all (fun a => s.actOk (s.ephE i).issuer a) = true →
    NoRung s →
    ∃ t, exec (.ephCommit i) s = .next t ∧ (t.ephE i).st = .committed ∧
      (t.ephE i).acts = (s.ephE i).acts ∧
      (∀ j, j ≠ i.val → t.ephE j = s.ephE j) ∧
      t.mem = s.mem ∧
      t.regs = s.regs) ∧
  (∀ (s : State) (i : Fin 4096) (q mv slew : Nat),
    s.commitDue (s.ephE i) = true →
    (s.ephE i).acts.all (fun a => s.actOk (s.ephE i).issuer a) = true →
    NoRung s →
    (s.ephE i).acts.contains (.target q mv slew) = true →
    (s.sk q).engine.isSome = true →
    ∃ t, exec (.ephCommit i) s = .next t ∧ (t.sk q).acts.contains (Tbl.get (s.replan (s.ephE i)).cycles q 0, SkAct.target mv slew) = true) ∧
  (∀ (s : State) (i : Fin 4096),
    s.commitDue (s.ephE i) = true →
    (s.ephE i).acts.all (fun a => s.actOk (s.ephE i).issuer a) = false →
    Mild s [.ephAbort] →
    s.swTouched = [] →
    ∃ t, exec (.ephCommit i) s = .next t ∧ (t.ephE i).st = .aborted ∧
      (t.ephE i).endedAt = s.ct ∧
      (∀ j, j ≠ i.val → t.ephE j = s.ephE j) ∧
      t.skeins = s.skeins ∧
      Counted s t EPH_STATUS_aborted) ∧
  (∀ (s : State) (i : Fin 4096),
    s.commitDue (s.ephE i) = false →
    ∃ t, exec (.ephCommit i) s = .next t ∧ t = s) ∧
  (∀ (s : State) (i : Fin 4096),
    (s.ephE i).st = .committed →
    s.trigDue (s.ephE i).trig = true →
    NoRung s →
    (s.eph.filter (fun x => x.2.live && decide (x.2.ord < (s.ephE i).ord) && s.trigDue x.2.trig)) = [] →
    (s.ephE i).holdupStep = none →
    (s.ephE i).acts.all (fun (a : EphAct) => a.skein?.any (fun (q : Nat) => (s.sk q).engine.isSome) && (match a with | .command _ _ => false | _ => true)) = true →
    ∃ t, exec (.ephTrigger i) s = .next t ∧ (t.ephE i).st = .applied ∧
      (t.ephE i).endedAt = s.ct ∧
      (∀ j, j ≠ i.val → t.ephE j = s.ephE j)) ∧
  (∀ (s : State) (i : Fin 4096) (a : Nat) (v m : Word),
    Runs s →
    Untouched s a →
    PlainReg a →
    listed .bar2 a = true →
    a % 4 = 0 →
    a ≠ aEPH_STATUS →
    a ≠ aOPT_CNT →
    (s.ephE i).st = .committed →
    s.trigDue (s.ephE i).trig = true →
    NoRung s →
    (s.eph.filter (fun x => x.2.live && decide (x.2.ord < (s.ephE i).ord) && s.trigDue x.2.trig)) = [] →
    (s.ephE i).holdupStep = none →
    (s.ephE i).acts = [.regWrite a v m] →
    ∃ t, exec (.ephTrigger i) s = .next t ∧ (t.ephE i).st = .applied ∧
      (t.ephE i).endedAt = s.ct ∧
      t.word a = wordAfter (s.word a) v m (((regAt a).map (·.fields)).getD [])) ∧
  (∀ (s : State) (i : Fin 4096),
    s.trigDue (s.ephE i).trig = false →
    ∃ t, exec (.ephTrigger i) s = .next t ∧ t = s)

/-- Completion of EPH_POST, EPH_CANCEL and EPH_QUERY of a command at its turn that passes its checks. A post without a
rate raise, on a unit whose partner link is down, takes the first free index after the last one taken and completes
with ST_QUEUED and the entry number. A pending entry before its commit point is cancelled with ST_OK and none of its
actions used; a committed one completes with ST_STALE, info 1; an entry number that is not current, or of an entry
that ended, with ST_STALE, info 0, and nothing changes. A query answers info 0 for an entry not yet ended, and 1, 2 or
3 with the time in result for one applied, aborted or cancelled. A VI that names an entry it did not create completes
with ST_RANGE, info 0. (03_meridian_timebase.md, 22_mailbox_commands.md) -/
def Obligations.EphemerisCommandsComplete : Prop :=
  (∀ (s : State) (mb : Mb) (k : Fin 64) (i : Nat),
    NoRung s →
    Ready s mb k 0x310 →
    Passes s (ephPostChecks s mb (payloadOf s mb k)) →
    s.raisesOf (postActs (payloadOf s mb k)) = [] →
    s.is PAIR_STATUS_link_up = false →
    s.ephFree 4096 (s.ephLast + 1) = some i →
    (s.ephE i).st = .free →
    ∃ t, exec (.ephPost mb k) s = .next t ∧ (t.ephE i).st = .pending ∧
      (t.ephE i).issuer = mb.val ∧
      (t.ephE i).acts = postActs (payloadOf s mb k) ∧
      (t.ephE i).trig = s.postTrig (payloadOf s mb k) ∧
      t.ephLast = i ∧
      t.skeins = s.skeins ∧
      Done t mb k (cmdOf s mb k) 1 0 (i + 4096 * (s.ephE i).gen)) ∧
  (∀ (s : State) (mb : Mb) (k : Fin 64) (i : Nat),
    NoRung s →
    Ready s mb k 0x311 →
    s.entryOf (u32 (payloadOf s mb k) 0) = some i →
    mb.val = afMb ∨ (s.ephE i).issuer = mb.val →
    CancelHere s i →
    (s.ephE i).st = .pending →
    s.commitDue (s.ephE i) = false →
    ∃ t, exec (.ephCancel mb k) s = .next t ∧ (t.ephE i).st = .cancelled ∧
      (t.ephE i).endedAt = s.ct ∧
      (∀ j, j ≠ i → t.ephE j = s.ephE j) ∧
      t.skeins = s.skeins ∧
      Done t mb k (cmdOf s mb k) 0 0 0) ∧
  (∀ (s : State) (mb : Mb) (k : Fin 64) (i : Nat),
    NoRung s →
    Ready s mb k 0x311 →
    s.entryOf (u32 (payloadOf s mb k) 0) = some i →
    mb.val = afMb ∨ (s.ephE i).issuer = mb.val →
    CancelHere s i →
    (s.ephE i).st = .committed →
    Tail s mb k →
    ∃ t, exec (.ephCancel mb k) s = .next t ∧ t.eph = s.eph ∧
      t.skeins = s.skeins ∧
      Done t mb k (cmdOf s mb k) 5 1 0) ∧
  (∀ (s : State) (mb : Mb) (k : Fin 64),
    NoRung s →
    Ready s mb k 0x311 →
    s.entryOf (u32 (payloadOf s mb k) 0) = none →
    Tail s mb k →
    ∃ t, exec (.ephCancel mb k) s = .next t ∧ t.eph = s.eph ∧
      t.skeins = s.skeins ∧
      Done t mb k (cmdOf s mb k) 5 0 0) ∧
  (∀ (s : State) (mb : Mb) (k : Fin 64) (i : Nat),
    NoRung s →
    Ready s mb k 0x311 →
    s.entryOf (u32 (payloadOf s mb k) 0) = some i →
    mb.val = afMb ∨ (s.ephE i).issuer = mb.val →
    CancelHere s i →
    (s.ephE i).live = false →
    Tail s mb k →
    ∃ t, exec (.ephCancel mb k) s = .next t ∧ t.eph = s.eph ∧
      t.skeins = s.skeins ∧
      Done t mb k (cmdOf s mb k) 5 0 0) ∧
  (∀ (s : State) (mb : Mb) (k : Fin 64) (i : Nat),
    NoRung s →
    Ready s mb k 0x311 →
    s.entryOf (u32 (payloadOf s mb k) 0) = some i →
    mb.val ≠ afMb →
    (s.ephE i).issuer ≠ mb.val →
    Tail s mb k →
    ∃ t, exec (.ephCancel mb k) s = .next t ∧ t.eph = s.eph ∧
      t.skeins = s.skeins ∧
      Done t mb k (cmdOf s mb k) 4 0 0) ∧
  (∀ (s : State) (mb : Mb) (k : Fin 64) (i : Nat),
    Ready s mb k 0x312 →
    s.entryOf (u32 (payloadOf s mb k) 0) = some i →
    mb.val = afMb ∨ (s.ephE i).issuer = mb.val →
    ∃ t, exec (.ephQuery mb k) s = .next t ∧ t.eph = s.eph ∧
      t.skeins = s.skeins ∧
      Done t mb k (cmdOf s mb k) 0 (match (s.ephE i).st with | .applied => 1 | .aborted => 2 | .cancelled => 3 | _ => 0) (match (s.ephE i).st with | .applied => (s.ephE i).endedAt | .aborted => (s.ephE i).endedAt | .cancelled => (s.ephE i).endedAt | _ => 0)) ∧
  (∀ (s : State) (mb : Mb) (k : Fin 64),
    Ready s mb k 0x312 →
    s.entryOf (u32 (payloadOf s mb k) 0) = none →
    Tail s mb k →
    ∃ t, exec (.ephQuery mb k) s = .next t ∧ t.eph = s.eph ∧
      Done t mb k (cmdOf s mb k) 5 0 0)

/-- Completion of PORT_TRAIN_COMPLETE, PORT_TRAIN_FAIL, PORT_TRAIN_RETRY and PORT_RETRAIN. A training with its 16
exchanges measured, a valid lane set and both flights at 100 ns or less brings the port Up at the widest valid set
under its cap, with the flights rounded from the exchanges and an empty sequence space; on an adopted slot that is
empty or asleep with sleep_en set it leads to Beacon with the first rendezvous 1 s away (log 174). No valid lane set,
or a failed step, is one more failed attempt: the first two count PORT_CNT_RETRAIN and leave the port in Detect; the
third raises PORT_TRAIN and starts the wait of 100 ms. A flight above 100 ns raises PORT_FLIGHT, with the flights
shown. After the wait training starts again. A write of retrain to an enabled port leaves it in Detect with width 0
and an empty sequence space. (04_fliral_link.md, assumption log 174) -/
def Obligations.PortTrainsAndRetrains : Prop :=
  (∀ (s : State) (p : Fin 64) (lanes : BitVec 8) (up down w : Nat) (set : BitVec 8),
    Runs s →
    s.mayTrain p = true →
    16 ≤ (s.port p).echoes.length →
    (s.port p).sleepTrain = false →
    pickLanes lanes (s.portCap p) = some (w, set) →
    flightNs (s.port p).echoes (·.1) = up →
    flightNs (s.port p).echoes (·.2) = down →
    up ≤ 100 →
    down ≤ 100 →
    s.slSt p ≠ 0 →
    s.slSt p ≠ 6 →
    ∃ t, exec (.portTrainComplete p lanes) s = .next t ∧ t.get (PORT_STATUS_link_state p) = 3 ∧
      t.get (PORT_STATUS_width p) = w ∧
      t.get (PORT_STATUS_lanes_ok p) = lanes.toNat ∧
      t.get (PORT_FLIGHT_up_ns p) = up ∧
      t.get (PORT_FLIGHT_down_ns p) = down ∧
      (t.port p).laneSet = set ∧
      (t.port p).rel = {} ∧
      (t.port p).attempts = 0) ∧
  (∀ (s : State) (p : Fin 64) (lanes : BitVec 8) (w : Nat) (set : BitVec 8),
    Runs s →
    s.mayTrain p = true →
    16 ≤ (s.port p).echoes.length →
    pickLanes (if (s.port p).sleepTrain then lanes &&& 1 else lanes) (s.portCap p) = some (w, set) →
    flightNs (s.port p).echoes (·.1) ≤ 100 →
    flightNs (s.port p).echoes (·.2) ≤ 100 →
    s.slSt p = 0 ∨ s.slSt p = 6 →
    (s.slot p).adopted = true →
    s.is (PORT_CTRL_sleep_en p) = true →
    ∃ t, exec (.portTrainComplete p lanes) s = .next t ∧ t.get (PORT_STATUS_link_state p) = 4 ∧
      (t.port p).rendezvousAt = s.ct + sec 1 ∧
      t.get (PORT_SLEEP_guard_us p) = 50 ∧
      t.slSt p = s.slSt p) ∧
  (∀ (s : State) (p : Fin 64) (lanes : BitVec 8),
    Runs s →
    s.mayTrain p = true →
    16 ≤ (s.port p).echoes.length →
    (s.port p).sleepTrain = false →
    pickLanes lanes (s.portCap p) = none →
    (s.port p).attempts < 2 →
    NoRung s →
    ∃ t, exec (.portTrainComplete p lanes) s = .next t ∧ t.get (PORT_STATUS_link_state p) = 1 ∧
      (t.port p).attempts = (s.port p).attempts + 1 ∧
      (t.port p).echoes = [] ∧
      Counted s t (PORT_CNT_RETRAIN_v p) ∧
      t.mem = s.mem) ∧
  (∀ (s : State) (p : Fin 64) (lanes : BitVec 8) (w : Nat) (set : BitVec 8),
    Runs s →
    s.mayTrain p = true →
    16 ≤ (s.port p).echoes.length →
    pickLanes (if (s.port p).sleepTrain then lanes &&& 1 else lanes) (s.portCap p) = some (w, set) →
    100 < flightNs (s.port p).echoes (·.1) ∨ 100 < flightNs (s.port p).echoes (·.2) →
    MayRaise s .portFlight p →
    (s.port p).attempts < 2 →
    ∃ t, exec (.portTrainComplete p lanes) s = .next t ∧ t.get (PORT_STATUS_link_state p) = 1 ∧
      t.get (PORT_FLIGHT_up_ns p) = Nat.min (flightNs (s.port p).echoes (·.1)) 255 ∧
      t.get (PORT_FLIGHT_down_ns p) = Nat.min (flightNs (s.port p).echoes (·.2)) 255 ∧
      t.raised .portFlight p = true ∧
      (t.port p).attempts = (s.port p).attempts + 1) ∧
  (∀ (s : State) (p : Fin 64) (lanes : BitVec 8),
    (s.port p).echoes.length < 16 ∨ s.mayTrain p = false →
    ∃ t, exec (.portTrainComplete p lanes) s = .next t ∧ t = s) ∧
  (∀ (s : State) (p : Fin 64) (k : Fin 7),
    Runs s →
    s.mayTrain p = true →
    (s.port p).attempts < 2 →
    NoRung s →
    ∃ t, exec (.portTrainFail p k) s = .next t ∧ t.get (PORT_STATUS_link_state p) = 1 ∧
      (t.port p).attempts = (s.port p).attempts + 1 ∧
      Counted s t (PORT_CNT_RETRAIN_v p) ∧
      t.mem = s.mem) ∧
  (∀ (s : State) (p : Fin 64) (k : Fin 7),
    Runs s →
    s.mayTrain p = true →
    2 ≤ (s.port p).attempts →
    (s.port p).sleepTrain = false →
    MayRaise s .portTrain p →
    ∃ t, exec (.portTrainFail p k) s = .next t ∧ (t.port p).retryAt = some (s.ct + ms 100) ∧
      t.raised .portTrain p = true ∧
      t.get (PORT_STATUS_link_state p) = 1) ∧
  (∀ (s : State) (p : Fin 64) (w : Nat),
    (s.port p).retryAt = some w →
    w ≤ s.ct →
    s.is (PORT_CTRL_en p) = true →
    ∃ t, exec (.portTrainRetry p) s = .next t ∧ t.get (PORT_STATUS_link_state p) = 1 ∧
      (t.port p).retryAt = none ∧
      (t.port p).attempts = 0 ∧
      Counted s t (PORT_CNT_RETRAIN_v p) ∧
      t.mem = s.mem) ∧
  (∀ (s : State) (p : Fin 64) (v : Word),
    Runs s →
    NoRung s →
    s.hwTouched = [] →
    v.bit 0 = true →
    v.bit 1 = true →
    ∃ t, exec (.portRetrain p v) s = .next t ∧ t.get (PORT_STATUS_link_state p) = 1 ∧
      t.get (PORT_STATUS_width p) = 0 ∧
      (t.port p).rel.unacked = [] ∧
      t.mem = s.mem)

/-- Completion of LANE_FAIL, WIDTH_CHANGE_RX, WIDTH_CHANGE_TIMEOUT, WIDTH_CHANGE_APPLY, LANE_REJOIN, WIDER_WIDTH_TIMER and
FEC_UNCORRECTABLE. A failed lane of the set in use leads to a proposal of the widest valid set of healthy lanes 16
frames ahead; where there is none the port retrains. The answer to the own proposal agrees it, another proposal at the
same time is no answer (log 169), and a proposal of the other end is agreed and answered. Without an answer within 8
frames the port retrains. At the agreed frame the port runs on the set; fewer lanes, or other lanes of the same
number, count as a drop and set lane_dropped. A healthy lane outside the set leads to a proposal where that widens the
port. After 1 s at a wider width the firmware enters a constellation with the plan 1 ms ahead. Symbol errors up to 4
are counted as corrected; a frame with more is counted, and the fourth of a lane within 100 us fails the lane.
(04_fliral_link.md, assumption log 169) -/
def Obligations.LanesDropAndRejoin : Prop :=
  (∀ (s : State) (p : Fin 64) (l : Fin 8) (w : Nat) (set : BitVec 8),
    s.get (PORT_STATUS_link_state p) = 3 →
    (s.get (PORT_STATUS_lanes_ok p)).testBit l = true →
    (s.port p).laneSet.getLsbD l = true →
    NoRung s →
    pickLanes (BitVec.ofNat 8 (s.get (PORT_STATUS_lanes_ok p)) &&& ~~~(BitVec.ofNat 8 (2 ^ l.val))) (s.portCap p) = some (w, set) →
    ∃ t, exec (.laneFail p l) s = .next t ∧ (t.port p).wchg = some (set, frameAt s.ct + 16, s.ct, false) ∧
      t.out = s.out ++ [.widthSet p set (frameAt s.ct + 16)] ∧
      t.get (PORT_STATUS_width p) = s.get (PORT_STATUS_width p) ∧
      (t.get (PORT_STATUS_lanes_ok p)).testBit l = false ∧
      t.mem = s.mem) ∧
  (∀ (s : State) (p : Fin 64) (l : Fin 8),
    s.get (PORT_STATUS_link_state p) = 3 →
    (s.get (PORT_STATUS_lanes_ok p)).testBit l = true →
    (s.port p).laneSet.getLsbD l = true →
    NoRung s →
    s.is (PORT_CTRL_en p) = true →
    pickLanes (BitVec.ofNat 8 (s.get (PORT_STATUS_lanes_ok p)) &&& ~~~(BitVec.ofNat 8 (2 ^ l.val))) (s.portCap p) = none →
    ∃ t, exec (.laneFail p l) s = .next t ∧ t.get (PORT_STATUS_link_state p) = 1 ∧
      t.get (PORT_STATUS_width p) = 0 ∧
      Counted s t (PORT_CNT_RETRAIN_v p)) ∧
  (∀ (s : State) (p : Fin 64) (set : BitVec 8) (f w : Nat),
    Runs s →
    s.faults.inject = none →
    s.get (PORT_STATUS_link_state p) = 3 →
    (s.port p).wchg = some (set, f, w, false) →
    ∃ t, exec (.widthChangeRx p set f) s = .next t ∧ (t.port p).wchg = some (set, f, w, true) ∧
      t.regs = s.regs ∧
      t.mem = s.mem) ∧
  (∀ (s : State) (p : Fin 64) (set own : BitVec 8) (f g w : Nat),
    s.faults.inject = none →
    (s.port p).wchg = some (own, g, w, false) →
    set ≠ own ∨ f ≠ g →
    ∃ t, exec (.widthChangeRx p set f) s = .next t ∧ t = s) ∧
  (∀ (s : State) (p : Fin 64) (set : BitVec 8) (f : Nat),
    Runs s →
    s.faults.inject = none →
    s.get (PORT_STATUS_link_state p) = 3 →
    (s.port p).wchg = none →
    laneSets.any (fun x => x.2 == set) = true →
    ∃ t, exec (.widthChangeRx p set f) s = .next t ∧ (t.port p).wchg = some (set, f, s.ct, true) ∧
      t.out = s.out ++ [.widthSet p set f] ∧
      t.regs = s.regs ∧
      t.mem = s.mem) ∧
  (∀ (s : State) (p : Fin 64) (set : BitVec 8) (f w : Nat),
    (s.port p).wchg = some (set, f, w, false) →
    w * 1000 + 8 * 65536 ≤ s.ct * 1000 →
    s.is (PORT_CTRL_en p) = true →
    NoRung s →
    ∃ t, exec (.widthChangeTimeout p) s = .next t ∧ t.get (PORT_STATUS_link_state p) = 1 ∧
      (t.port p).wchg = none) ∧
  (∀ (s : State) (p : Fin 64) (set : BitVec 8) (f w : Nat),
    (s.port p).wchg = some (set, f, w, true) →
    f ≤ frameAt s.ct →
    laneWidth set < s.get (PORT_STATUS_width p) ∨ (laneWidth set = s.get (PORT_STATUS_width p) ∧ set ≠ (s.port p).laneSet) →
    s.swTouched = [] →
    ∃ t, exec (.widthChangeApply p) s = .next t ∧ t.get (PORT_STATUS_width p) = laneWidth set ∧
      (t.port p).laneSet = set ∧
      (t.port p).wchg = none ∧
      t.get (PORT_STATUS_lane_dropped p) = 1 ∧
      Counted s t (PORT_CNT_LANE_DROP_v p)) ∧
  (∀ (s : State) (p : Fin 64) (set : BitVec 8) (f w : Nat),
    (s.port p).wchg = some (set, f, w, true) →
    f ≤ frameAt s.ct →
    s.get (PORT_STATUS_width p) < laneWidth set →
    ∃ t, exec (.widthChangeApply p) s = .next t ∧ t.get (PORT_STATUS_width p) = laneWidth set ∧
      (t.port p).laneSet = set ∧
      (t.port p).wchg = none ∧
      t.get (PORT_STATUS_lane_dropped p) = s.get (PORT_STATUS_lane_dropped p) ∧
      ((s.port p).planWidth < laneWidth set → (t.port p).widerSince = some s.ct)) ∧
  (∀ (s : State) (p : Fin 64) (l : Fin 8) (w : Nat) (set : BitVec 8),
    s.get (PORT_STATUS_link_state p) = 3 →
    s.is (PORT_CTRL_rejoin_en p) = true →
    (s.port p).laneSet.getLsbD l = false →
    pickLanes (BitVec.ofNat 8 (s.get (PORT_STATUS_lanes_ok p)) ||| BitVec.ofNat 8 (2 ^ l.val)) (s.portCap p) = some (w, set) →
    s.get (PORT_STATUS_width p) < w →
    ∃ t, exec (.laneRejoin p l) s = .next t ∧ (t.port p).wchg = some (set, frameAt s.ct + 16, s.ct, false) ∧
      (t.get (PORT_STATUS_lanes_ok p)).testBit l = true ∧
      t.mem = s.mem) ∧
  (∀ (s : State) (p : Fin 64) (w i : Nat),
    (s.port p).widerSince = some w →
    w + sec 1 ≤ s.ct →
    s.ephRoom fwIssuer = true →
    s.ephFree 4096 (s.ephLast + 1) = some i →
    ∃ t, exec (.widerWidthTimer p) s = .next t ∧ (t.port p).widerSince = none ∧
      (t.ephE i).st = .pending ∧
      (t.ephE i).issuer = fwIssuer ∧
      (t.ephE i).trig = .time (s.ct + ms 1) ∧
      (t.ephE i).acts.contains (.plan p (s.get (PORT_STATUS_width p))) = true ∧
      t.mem = s.mem) ∧
  (∀ (s : State) (p : Fin 64) (l : Fin 8) (n : Nat),
    Runs s →
    n ≤ 4 →
    ∃ t, exec (.fecUncorrectable p l n) s = .next t ∧ t.get (PORT_CNT_FEC_CORR_v p) = satCount 32 (s.get (PORT_CNT_FEC_CORR_v p)) n ∧
      t.ports = s.ports ∧
      t.mem = s.mem) ∧
  (∀ (s : State) (p : Fin 64) (l : Fin 8) (n : Nat),
    Runs s →
    4 < n →
    ((s.port p).uncorr.filter (fun x => decide (s.ct < x.2 + us 100 ∧ x.1 = l.val))).length < 3 →
    ∃ t, exec (.fecUncorrectable p l n) s = .next t ∧ Counted s t (PORT_CNT_FEC_UNCORR_v p) ∧
      (t.port p).uncorr.contains (l.val, s.ct) = true ∧
      t.get (PORT_STATUS_lanes_ok p) = s.get (PORT_STATUS_lanes_ok p) ∧
      t.mem = s.mem) ∧
  (∀ (s : State) (p : Fin 64) (l : Fin 8) (n : Nat),
    Runs s →
    4 < n →
    3 ≤ ((s.port p).uncorr.filter (fun x => decide (s.ct < x.2 + us 100 ∧ x.1 = l.val))).length →
    s.get (PORT_STATUS_link_state p) = 3 →
    NoRung s →
    ∃ t, exec (.fecUncorrectable p l n) s = .next t ∧ Counted s t (PORT_CNT_FEC_UNCORR_v p) ∧
      (t.get (PORT_STATUS_lanes_ok p)).testBit l = false)

/-- Completion of CELL_CRC_FAIL, BAD_TYPE_CELL_RX, STALE_EPOCH_CELL_RX, ACK_RX, RELIABLE_RETX_TIMEOUT and BULK_CELL_RX. A
cell whose CRC-16 does not match, whose type is reserved or whose epoch is another is counted and changes no stitch,
port, lane or memory; one whose CRC matches, whose type is not reserved or whose epoch is in force is not counted. An
ACK removes the cells it acknowledges and no other, and takes the xoff it shows. A cell not acknowledged for 2 us on a
port is counted in PORT_CNT_RETX, and is sent again with retx set when a cell slot is free and nothing precedes it;
after the eighth time PORT_RETRY is raised and the port retrains. The 8 bytes of a descriptor of a worker on stream 3,
in sequence, are taken; a cell ahead of its turn is held, and a duplicate is not taken again. (04_fliral_link.md,
12_slots_and_capping.md) -/
def Obligations.CellsAreCheckedAndAcknowledged : Prop :=
  (∀ (s : State) (p : Fin 64) (c : BitVec 256),
    Runs s →
    s.swTouched = [] →
    cellCrc c ≠ c.setWidth 16 →
    ∃ t, exec (.cellCrcFail (.port p) c) s = .next t ∧ Counted s t (PORT_CNT_CRC_v p) ∧
      (∀ a, a ≠ aPORT_CNT_CRC p → t.word a = s.word a) ∧
      t.stitches = s.stitches ∧
      t.ports = s.ports ∧
      t.mem = s.mem) ∧
  (∀ (s : State) (n : Fin 64) (c : BitVec 256),
    Runs s →
    s.swTouched = [] →
    cellCrc c ≠ c.setWidth 16 →
    ∃ t, exec (.cellCrcFail (.svc n) c) s = .next t ∧ Counted s t (SVC_CNT_CRC_v n) ∧
      t.svcs = s.svcs ∧
      t.mem = s.mem) ∧
  (∀ (s : State) (l : LinkId) (c : BitVec 256),
    cellCrc c = c.setWidth 16 →
    ∃ t, exec (.cellCrcFail l c) s = .next t ∧ t = s) ∧
  (∀ (s : State) (p : Fin 64) (ty sub : BitVec 4),
    Runs s →
    s.swTouched = [] →
    s.faults.inject = none →
    reservedType (.port p) ty.toNat sub.toNat = true →
    ∃ t, exec (.badTypeCellRx (.port p) ty sub) s = .next t ∧ Counted s t (PORT_CNT_BAD_TYPE_v p) ∧
      t.stitches = s.stitches ∧
      t.ports = s.ports ∧
      t.mem = s.mem) ∧
  (∀ (s : State) (p : Fin 64) (ty sub : BitVec 4),
    s.faults.inject = none →
    reservedType (.port p) ty.toNat sub.toNat = false →
    ∃ t, exec (.badTypeCellRx (.port p) ty sub) s = .next t ∧ t = s) ∧
  (∀ (s : State) (p : Fin 64) (e : BitVec 8),
    Runs s →
    s.swTouched = [] →
    s.faults.inject = none →
    e.toNat ≠ s.get (PORT_EPOCH_epoch p) →
    ∃ t, exec (.staleEpochCellRx (.port p) e) s = .next t ∧ Counted s t (PORT_CNT_STALE_v p) ∧
      t.stitches = s.stitches ∧
      t.ports = s.ports ∧
      t.mem = s.mem) ∧
  (∀ (s : State) (n : Fin 64) (e : BitVec 8),
    Runs s →
    s.swTouched = [] →
    e.toNat ≠ s.get (SVC_EPOCH_epoch n) →
    ∃ t, exec (.staleEpochCellRx (.svc n) e) s = .next t ∧ Counted s t (SVC_CNT_STALE_v n) ∧
      t.svcs = s.svcs ∧
      t.mem = s.mem) ∧
  (∀ (s : State) (p : Fin 64) (e : BitVec 8),
    s.faults.inject = none →
    e.toNat = s.get (PORT_EPOCH_epoch p) →
    ∃ t, exec (.staleEpochCellRx (.port p) e) s = .next t ∧ t = s) ∧
  (∀ (s : State) (p : Fin 64) (h : UpHdr) (next : BitVec 7) (sack : BitVec 31),
    Runs s →
    s.faults.inject = none →
    (s.port p).rel.backlog = [] →
    (s.port p).rel.again = [] →
    (s.port p).rel.unacked.all (fun c => decide (c.what = 0)) = true →
    h.owner.toNat = s.get (PORT_EPOCH_owner p) →
    s.is (PAIR_TERM_claim_pending p) = false →
    s.entering = [] →
    ∃ t, exec (.ackRx (.port p) h next sack) s = .next t ∧ (t.port p).rel.unacked = (s.port p).rel.unacked.filter (fun c => !acked next.toNat sack c.seq) ∧
      (t.port p).rel.xoff = h.xoff ∧
      (∀ q, q ≠ p.val → t.port q = s.port q) ∧
      t.regs = s.regs ∧
      t.mem = s.mem) ∧
  (∀ (s : State) (p : Fin 64) (h : UpHdr) (next : BitVec 7) (sack : BitVec 31),
    Runs s →
    s.faults.inject = none →
    h.owner.toNat ≠ s.get (PORT_EPOCH_owner p) →
    s.swTouched = [] →
    (s.port p).namedOther < 7 →
    ∃ t, exec (.ackRx (.port p) h next sack) s = .next t ∧ Counted s t (PORT_CNT_OWNER_v p)) ∧
  (∀ (s : State) (p : Fin 64) (q : BitVec 7) (c : RelCell),
    (s.port p).rel.unacked.find? (fun y => decide (y.seq = q.toNat)) = some c →
    (s.port p).rel.again = [] →
    (s.port p).rel.backlog.all (fun x => decide (x.2.prio ≠ 1 ∧ x.2.prio ≠ 2 ∧ x.2.prio ≠ 3)) = true →
    s.slotFree (.port p) = true →
    c.cell.cell.any (fun k => decide (k.link = .port p)) = true →
    c.sentAt + us 2 ≤ s.ct →
    c.tries < 7 →
    s.swTouched = [] →
    ∃ t, exec (.reliableRetxTimeout (.port p) q) s = .next t ∧ Counted s t (PORT_CNT_RETX_v p) ∧
      t.out.contains (s.stamp c.cell) = true ∧
      (t.hdrs.any (fun h => h.retx && decide (h.seq = c.seq ∧ h.link = .port p)) = true) ∧
      ((t.port p).rel.unacked.any (fun d => decide (d.seq = c.seq ∧ d.sentAt = s.ct ∧ d.tries = c.tries + 1)) = true) ∧
      t.mem = s.mem) ∧
  (∀ (s : State) (p : Fin 64) (q : BitVec 7) (c : RelCell),
    (s.port p).rel.unacked.find? (fun y => decide (y.seq = q.toNat)) = some c →
    (s.port p).rel.again = [] →
    c.sentAt + us 2 ≤ s.ct →
    7 ≤ c.tries →
    MayRaise s .portRetry p →
    s.is (PORT_CTRL_en p) = true →
    ∃ t, exec (.reliableRetxTimeout (.port p) q) s = .next t ∧ t.raised .portRetry p = true ∧
      t.get (PORT_STATUS_link_state p) = 1 ∧
      (t.port p).rel = {}) ∧
  (∀ (s : State) (n : Fin 64) (h : UpHdr) (seg : BitVec 16) (data : List Byte),
    InOrder s (.svc n) h →
    NoRung s →
    (s.svc n).rel.rxData = [] →
    8 ≤ data.length →
    ∃ t, exec (.bulkCellRx (.svc n) h true 3 seg data) s = .next t ∧ (t.slot n).haveDesc = true ∧
      (t.slot n).iLsb = u16 data 0 ∧
      (t.slot n).vLsb = u16 data 2 ∧
      (t.slot n).iZero = u16 data 4 ∧
      (t.slot n).tripMaxA = u16 data 6 ∧
      (t.svc n).rel.rxNext = (h.seq.toNat + 1) % 128 ∧
      t.regs = s.regs ∧
      t.mem = s.mem) ∧
  (∀ (s : State) (p : Fin 64) (h : UpHdr) (last : Bool) (stream : BitVec 8) (seg : BitVec 16) (data : List Byte),
    Plain s (.port p) h →
    NoRung s →
    ((h.seq.toNat + 128 - (s.port p).rel.rxNext % 128) % 128) ≠ 0 →
    ((h.seq.toNat + 128 - (s.port p).rel.rxNext % 128) % 128) < 32 →
    (s.port p).rel.rxHeld = [] →
    ∃ t, exec (.bulkCellRx (.port p) h last stream seg data) s = .next t ∧ (t.port p).rel.rxHeld = [(h.seq.toNat, .bulkCellRx (.port p) h last stream seg data)] ∧
      (t.port p).rel.rxNext = (s.port p).rel.rxNext ∧
      (t.port p).rel.rxData = (s.port p).rel.rxData ∧
      t.stitches = s.stitches ∧
      t.regs = s.regs ∧
      t.mem = s.mem) ∧
  (∀ (s : State) (p : Fin 64) (h : UpHdr) (last : Bool) (stream : BitVec 8) (seg : BitVec 16) (data : List Byte),
    Plain s (.port p) h →
    NoRung s →
    32 ≤ ((h.seq.toNat + 128 - (s.port p).rel.rxNext % 128) % 128) →
    ∃ t, exec (.bulkCellRx (.port p) h last stream seg data) s = .next t ∧ (t.port p).rel.rxHeld = (s.port p).rel.rxHeld ∧
      (t.port p).rel.rxNext = (s.port p).rel.rxNext ∧
      (t.port p).rel.rxData = (s.port p).rel.rxData ∧
      t.stitches = s.stitches ∧
      t.slots = s.slots ∧
      t.regs = s.regs ∧
      t.mem = s.mem)

/-- Completion of SYNC_TIME_TX, ECHO_RX, EPOCH_CHANGE, SVC_LANE_DOWN, SVC_LANE_RETRY, SVC_RETRAIN, SVC_TRAIN_COMPLETE and
SREF_LOSS. A TIME cell is due 1 us after the last one and carries chassis time, the epoch announced (none pending:
that in force with time 0, log 170) and echo_req where 64 us have passed; before it is due nothing changes. An ECHO
shows the epoch of the hub; on a port that trains it is recorded as an exchange; on a port that is Up the mean of the
last 16 moves a shown flight that is off by 2 ns or more, and a flight above 100 ns raises PORT_FLIGHT and retrains.
The announced epoch comes into force at its time with an empty sequence space, and the old one is retired. A lane that
goes down sets down_seen, restarts delivery and waits 10 ms for its retry; neither it nor a retrain or a completed
training changes the slot state outside a cast-on. A lost reference is recorded and raised. (04_fliral_link.md,
assumption log 170, assumption log 173) -/
def Obligations.TimeEpochsAndServiceLanes : Prop :=
  (∀ (s : State) (p : Fin 64),
    s.get (PORT_STATUS_link_state p) = 3 →
    s.unit ≠ 0 →
    s.pair.outputsOff = false →
    (s.port p).timeAt.all (fun w => decide (w + us 1 ≤ s.ct)) = true →
    s.slotFree (.port p) = true →
    (s.port p).rel.backlog.all (fun x => decide (x.2.prio ≠ 1 ∧ x.2.prio ≠ 2)) = true →
    ∃ t, exec (.syncTimeTx (.port p)) s = .next t ∧ (t.out.any (fun o => match o with | .time l x _ e w r => decide (l = .port p ∧ x = s.ct ∧ e = ((s.port p).epochNext.getD (s.get (PORT_EPOCH_epoch p), 0)).1 ∧ w = ((s.port p).epochNext.getD (s.get (PORT_EPOCH_epoch p), 0)).2 ∧ r = decide ((s.port p).echoReqAt + us 64 ≤ s.ct)) | _ => false) = true) ∧
      (t.port p).timeAt = some s.ct ∧
      t.regs = s.regs ∧
      t.mem = s.mem) ∧
  (∀ (s : State) (n : Fin 64),
    s.get (SVC_STATUS_link_state n) = 2 →
    s.unit ≠ 0 →
    s.pair.outputsOff = false →
    (s.svc n).timeAt.all (fun w => decide (w + us 1 ≤ s.ct)) = true →
    (s.svc n).rel.backlog.all (fun x => decide (x.2.prio ≠ 1 ∧ x.2.prio ≠ 2)) = true →
    ∃ t, exec (.syncTimeTx (.svc n)) s = .next t ∧ (t.out.any (fun o => match o with | .time l x _ e w r => decide (l = .svc n ∧ x = s.ct ∧ e = ((s.svc n).epochNext.getD (s.get (SVC_EPOCH_epoch n), 0)).1 ∧ w = ((s.svc n).epochNext.getD (s.get (SVC_EPOCH_epoch n), 0)).2 ∧ r = decide ((s.svc n).echoReqAt + us 64 ≤ s.ct)) | _ => false) = true) ∧
      (t.svc n).timeAt = some s.ct ∧
      t.regs = s.regs ∧
      t.mem = s.mem) ∧
  (∀ (s : State) (p : Fin 64) (w : Nat),
    (s.port p).timeAt = some w →
    s.ct < w + us 1 →
    ∃ t, exec (.syncTimeTx (.port p)) s = .next t ∧ t = s) ∧
  (∀ (s : State) (p : Fin 64) (h : UpHdr) (t1 t2 t3 t4 : Nat) (e : BitVec 8),
    Runs s →
    s.faults.inject = none →
    s.get (PORT_STATUS_link_state p) ≠ 3 →
    s.mayTrain p = true →
    s.get (PORT_STATUS_link_state p) ≠ 4 →
    ∃ t, exec (.echoRx (.port p) h t1 t2 t3 t4 e) s = .next t ∧ t.get (PORT_EPOCH_hub_epoch p) = e.toNat ∧
      t.get (PORT_EPOCH_epoch p) = s.get (PORT_EPOCH_epoch p) ∧
      t.get (PORT_FLIGHT_up_ns p) = s.get (PORT_FLIGHT_up_ns p) ∧
      t.get (PORT_STATUS_link_state p) = 2 ∧
      (t.port p).echoes = lastN 16 ((s.port p).echoes ++ [echoFlights t1 t2 t3 t4 (fromField 8 (s.get (PORT_ASYM_asym_ns p)))])) ∧
  (∀ (s : State) (p : Fin 64) (h : UpHdr) (t1 t2 t3 t4 : Nat) (e : BitVec 8) (l : List (Int × Int)),
    Runs s →
    s.faults.inject = none →
    NoRung s →
    s.get (PORT_STATUS_link_state p) = 3 →
    l = lastN 16 ((s.port p).echoes ++ [echoFlights t1 t2 t3 t4 (fromField 8 (s.get (PORT_ASYM_asym_ns p)))]) →
    s.get (PORT_FLIGHT_up_ns p) ≤ 100 →
    s.get (PORT_FLIGHT_down_ns p) ≤ 100 →
    flightNs l (·.1) ≤ 100 →
    flightNs l (·.2) ≤ 100 →
    ∃ t, exec (.echoRx (.port p) h t1 t2 t3 t4 e) s = .next t ∧ t.get (PORT_EPOCH_hub_epoch p) = e.toNat ∧
      (t.port p).echoes = l ∧
      (t.get (PORT_FLIGHT_up_ns p) = (if s.get (PORT_FLIGHT_up_ns p) + 2 ≤ flightNs l (·.1) ∨ flightNs l (·.1) + 2 ≤ s.get (PORT_FLIGHT_up_ns p) then flightNs l (·.1) else s.get (PORT_FLIGHT_up_ns p))) ∧
      (t.get (PORT_FLIGHT_down_ns p) = (if s.get (PORT_FLIGHT_down_ns p) + 2 ≤ flightNs l (·.2) ∨ flightNs l (·.2) + 2 ≤ s.get (PORT_FLIGHT_down_ns p) then flightNs l (·.2) else s.get (PORT_FLIGHT_down_ns p))) ∧
      t.get (PORT_STATUS_link_state p) = 3) ∧
  (∀ (s : State) (p : Fin 64) (h : UpHdr) (t1 t2 t3 t4 : Nat) (e : BitVec 8) (l : List (Int × Int)),
    Runs s →
    s.faults.inject = none →
    MayRaise s .portFlight p →
    s.get (PORT_STATUS_link_state p) = 3 →
    s.is (PORT_CTRL_en p) = true →
    l = lastN 16 ((s.port p).echoes ++ [echoFlights t1 t2 t3 t4 (fromField 8 (s.get (PORT_ASYM_asym_ns p)))]) →
    100 < flightNs l (·.1) →
    s.get (PORT_FLIGHT_up_ns p) + 2 ≤ flightNs l (·.1) →
    h.owner.toNat = s.get (PORT_EPOCH_owner p) →
    s.is (PAIR_TERM_claim_pending p) = false →
    ∃ t, exec (.echoRx (.port p) h t1 t2 t3 t4 e) s = .next t ∧ t.raised .portFlight p = true ∧
      t.get (PORT_STATUS_link_state p) = 1 ∧
      t.get (PORT_FLIGHT_up_ns p) = Nat.min (flightNs l (·.1)) 255) ∧
  (∀ (s : State) (p : Fin 64) (e w : Nat),
    (s.port p).epochNext = some (e, w) →
    w ≤ s.ct →
    e < 256 →
    (s.port p).rel.backlog = [] →
    ∃ t, exec (.epochChange (.port p)) s = .next t ∧ t.get (PORT_EPOCH_epoch p) = e ∧
      (t.port p).epochNext = none ∧
      (t.port p).rel.txNext = 0 ∧
      (t.port p).rel.unacked = [] ∧
      (t.port p).rel.rxNext = 0 ∧
      (s.get (PORT_EPOCH_epoch p) = 0 ∨ Tbl.get (t.port p).retired (s.get (PORT_EPOCH_epoch p)) 0 = s.ct) ∧
      t.mem = s.mem) ∧
  (∀ (s : State) (n : Fin 64) (e w : Nat),
    (s.svc n).epochNext = some (e, w) →
    w ≤ s.ct →
    e < 256 →
    (s.svc n).rel.backlog = [] →
    ∃ t, exec (.epochChange (.svc n)) s = .next t ∧ t.get (SVC_EPOCH_epoch n) = e ∧
      (t.svc n).epochNext = none ∧
      (t.svc n).rel.unacked = [] ∧
      t.mem = s.mem) ∧
  (∀ (s : State) (n : Fin 64),
    s.get (SVC_STATUS_link_state n) = 2 →
    s.slSt n ≠ 2 →
    NoRung s →
    s.is (SVC_CTRL_en n) = true →
    ∃ t, exec (.svcLaneDown n) s = .next t ∧ t.get (SVC_STATUS_link_state n) = 1 ∧
      t.get (SVC_STATUS_down_seen n) = 1 ∧
      (t.svc n).rel = {} ∧
      (t.svc n).retryAt = some (s.ct + ms 10) ∧
      t.slSt n = s.slSt n ∧
      t.get (PORT_STATUS_link_state n) = s.get (PORT_STATUS_link_state n) ∧
      t.mem = s.mem) ∧
  (∀ (s : State) (n : Fin 64) (w : Nat),
    (s.svc n).retryAt = some w →
    w ≤ s.ct →
    s.get (SVC_STATUS_link_state n) ≠ 2 →
    s.is (SVC_CTRL_en n) = true →
    ∃ t, exec (.svcLaneRetry n) s = .next t ∧ t.get (SVC_STATUS_link_state n) = 1 ∧
      (t.svc n).retryAt = some (s.ct + ms 10) ∧
      t.mem = s.mem) ∧
  (∀ (s : State) (n : Fin 64) (v : Word),
    Runs s →
    NoRung s →
    s.hwTouched = [] →
    v.bit 0 = true →
    v.bit 1 = true →
    s.slSt n ≠ 2 →
    ∃ t, exec (.svcRetrain n v) s = .next t ∧ t.get (SVC_STATUS_link_state n) = 1 ∧
      (t.svc n).rel = {} ∧
      t.slSt n = s.slSt n ∧
      t.mem = s.mem) ∧
  (∀ (s : State) (n : Fin 64),
    Runs s →
    s.is (SVC_CTRL_en n) = true →
    s.get (SVC_STATUS_link_state n) ≠ 2 →
    2 ≤ s.unit →
    ∃ t, exec (.svcTrainComplete n) s = .next t ∧ t.get (SVC_STATUS_link_state n) = 2 ∧
      (t.svc n).retryAt = none ∧
      (t.svc n).rel = {} ∧
      t.slSt n = s.slSt n ∧
      t.mem = s.mem) ∧
  (∀ (s : State) (b : Bool),
    Runs s →
    MayRaise s .clockRef b.toNat →
    s.rst.sref = 3 →
    ∃ t, exec (.srefLoss b) s = .next t ∧ t.rst.sref = (if b then 1 else 2) ∧
      t.raised .clockRef b.toNat = true)

/-- Completion of RENDEZVOUS, BEACON_RX and RENDEZVOUS_MISS. The owner of a port in Beacon, within the guard of the
rendezvous time and 10 us or more after its last burst, gives 4 BEACON cells of the next rendezvous time, 1 s on, and
of wake: the first leaves at once where a cell slot is free and nothing else waits, the others follow. An answer with
the epoch in force inside the window restores the guard of 50 us, moves the schedule on by 1 s and leaves the slot
state unless it asks for a wake of an asleep slot that this unit owns, which starts casting-on at step 5. A miss of a
slot that is not empty is counted and widens the guard; the ninth in a row sets sleep_lost and leaves the port in
Detect to train; a miss never changes the slot state. (04_fliral_link.md) -/
def Obligations.DormantSlotsKeepRendezvous : Prop :=
  (∀ (s : State) (p : Fin 64),
    s.get (PORT_STATUS_link_state p) = 4 →
    s.get (PORT_STATUS_width p) = 0 →
    s.ownsPort p = true →
    (s.port p).rendezvousAt ≤ s.ct + us (s.get (PORT_SLEEP_guard_us p)) →
    s.ct ≤ (s.port p).rendezvousAt + us (s.get (PORT_SLEEP_guard_us p)) →
    (s.port p).burstAt.all (fun w => decide (w + us 10 ≤ s.ct)) = true →
    (s.port p).rel.backlog = [] →
    s.slotFree (.port p) = true →
    ∃ t, exec (.rendezvous p) s = .next t ∧ t.out = s.out ++ [.beacon p s.ct ((s.port p).rendezvousAt + sec 1) (decide (s.slSt p = 2))] ∧
      (t.port p).rel.backlog = List.replicate 3 (0, .beacon p s.ct ((s.port p).rendezvousAt + sec 1) (decide (s.slSt p = 2))) ∧
      (t.port p).burstAt = some s.ct ∧
      t.regs = s.regs ∧
      t.mem = s.mem) ∧
  (∀ (s : State) (p : Fin 64),
    s.ownsPort p = false ∨ s.ct + us (s.get (PORT_SLEEP_guard_us p)) < (s.port p).rendezvousAt ∨ (s.port p).rendezvousAt + us (s.get (PORT_SLEEP_guard_us p)) < s.ct →
    ∃ t, exec (.rendezvous p) s = .next t ∧ t = s) ∧
  (∀ (s : State) (p : Fin 64) (h : UpHdr) (e : BitVec 8),
    Runs s →
    s.faults.inject = none →
    s.get (PORT_STATUS_link_state p) = 4 →
    e.toNat = s.get (PORT_EPOCH_epoch p) →
    (s.port p).rendezvousAt ≤ s.ct + us (s.get (PORT_SLEEP_guard_us p)) →
    s.ct ≤ (s.port p).rendezvousAt + us (s.get (PORT_SLEEP_guard_us p)) →
    ∃ t, exec (.beaconRx p h e false) s = .next t ∧ t.get (PORT_SLEEP_guard_us p) = 50 ∧
      t.get (PORT_SLEEP_widened p) = 0 ∧
      (t.port p).rendezvousAt = (s.port p).rendezvousAt + sec 1 ∧
      t.slSt p = s.slSt p) ∧
  (∀ (s : State) (p : Fin 64) (h : UpHdr) (e : BitVec 8),
    Plain s (.port p) h →
    s.get (PORT_STATUS_link_state p) = 4 →
    e.toNat = s.get (PORT_EPOCH_epoch p) →
    (s.port p).rendezvousAt ≤ s.ct + us (s.get (PORT_SLEEP_guard_us p)) →
    s.ct ≤ (s.port p).rendezvousAt + us (s.get (PORT_SLEEP_guard_us p)) →
    s.slSt p = 6 →
    s.ownsPort p = true →
    ∃ t, exec (.beaconRx p h e true) s = .next t ∧ t.get (PORT_SLEEP_guard_us p) = 50 ∧
      t.slSt p = 2 ∧
      (t.slot p).step = 5 ∧
      t.get (PORT_STATUS_link_state p) = 1) ∧
  (∀ (s : State) (p : Fin 64),
    s.get (PORT_STATUS_link_state p) = 4 →
    (s.port p).rendezvousAt + us (s.get (PORT_SLEEP_guard_us p)) < s.ct →
    s.slSt p ≠ 0 →
    s.get (PORT_SLEEP_widened p) < 8 →
    s.swTouched = [] →
    ∃ t, exec (.rendezvousMiss p) s = .next t ∧ t.get (PORT_SLEEP_widened p) = s.get (PORT_SLEEP_widened p) + 1 ∧
      t.get (PORT_SLEEP_guard_us p) = guardOf (s.get (PORT_SLEEP_widened p) + 1) ∧
      (t.port p).rendezvousAt = (s.port p).rendezvousAt + sec 1 ∧
      Counted s t (PORT_CNT_SLEEP_MISS_v p) ∧
      t.slSt p = s.slSt p ∧
      t.mem = s.mem) ∧
  (∀ (s : State) (p : Fin 64),
    s.get (PORT_STATUS_link_state p) = 4 →
    (s.port p).rendezvousAt + us (s.get (PORT_SLEEP_guard_us p)) < s.ct →
    s.slSt p ≠ 0 →
    8 ≤ s.get (PORT_SLEEP_widened p) →
    s.swTouched = [] →
    ∃ t, exec (.rendezvousMiss p) s = .next t ∧ t.get (PORT_STATUS_sleep_lost p) = 1 ∧
      t.get (PORT_STATUS_link_state p) = 1 ∧
      (t.port p).sleepTrain = true ∧
      t.slSt p = s.slSt p) ∧
  (∀ (s : State) (p : Fin 64),
    s.get (PORT_STATUS_link_state p) = 4 →
    (s.port p).rendezvousAt + us (s.get (PORT_SLEEP_guard_us p)) < s.ct →
    s.slSt p = 0 →
    ∃ t, exec (.rendezvousMiss p) s = .next t ∧ t.regs = s.regs ∧
      (t.port p).rendezvousAt = (s.port p).rendezvousAt + sec 1 ∧
      t.mem = s.mem)

/-- Completion of STITCH_LATE, CMD_REJECT, SENSE_OPEN, OC_HICCUP, OC_RESUME, STAGE_OT, DRIVER_FAULT, BIND_REQ,
HUB_FW_VERSION and UNKNOWN_EVENT_RX, each the next reliable cell of its port. Late and rejected counts are added to
the port; the count of late stitches goes to the one named, or 1 to each of several. SENSE_OPEN classes a bound stitch
sense-open, raises STITCH_SENSE and leaves its state. OC_HICCUP makes a bound stitch faulted and is counted; one with
two others in the last 1 s latches it. OC_RESUME ends the hiccup and returns a faulted stitch to controlled unless it
is latched. STAGE_OT and DRIVER_FAULT make a bound stitch faulted, latch it and raise STITCH_FAULT. SENSE_OPEN and
DRIVER_FAULT of an unbound stitch change no stitch and raise nothing. BIND_REQ starts a bind-off of a live slot of
this unit with its sequence stopping. HUB_FW_VERSION records the version and ends the mask of the slot. An unknown
code is counted. (05_workers_and_stitches.md, 12_slots_and_capping.md, 20_trust_and_update.md) -/
def Obligations.HubEventsMoveStitches : Prop :=
  (∀ (s : State) (p : Fin 64) (h : UpHdr) (mask : BitVec 128) (count : Word) (j : Fin 128),
    InOrder s (.port p) h →
    NoRung s →
    maskStitches mask = [j.val] →
    ∃ t, exec (.stitchLate p h mask count) s = .next t ∧ t.get (PORT_CNT_LATE_v p) = satCount ((PORT_CNT_LATE_v p).hi + 1 - (PORT_CNT_LATE_v p).lo) (s.get (PORT_CNT_LATE_v p)) count.toNat ∧
      (t.st (128 * p.val + j.val)).late = satCount 32 (s.st (128 * p.val + j.val)).late count.toNat ∧
      (t.st (128 * p.val + j.val)).state = (s.st (128 * p.val + j.val)).state) ∧
  (∀ (s : State) (p : Fin 64) (h : UpHdr) (mask : BitVec 128) (count : Word) (j : Fin 128),
    InOrder s (.port p) h →
    NoRung s →
    mask.getLsbD j = true →
    1 < (maskStitches mask).length →
    ∃ t, exec (.stitchLate p h mask count) s = .next t ∧ (t.st (128 * p.val + j.val)).late = satCount 32 (s.st (128 * p.val + j.val)).late 1) ∧
  (∀ (s : State) (p : Fin 64) (h : UpHdr) (count : Word),
    InOrder s (.port p) h →
    NoRung s →
    ∃ t, exec (.cmdReject p h count) s = .next t ∧ t.get (PORT_CNT_CMD_REJECT_v p) = satCount ((PORT_CNT_CMD_REJECT_v p).hi + 1 - (PORT_CNT_CMD_REJECT_v p).lo) (s.get (PORT_CNT_CMD_REJECT_v p)) count.toNat ∧
      t.stitches = s.stitches) ∧
  (∀ (s : State) (p : Fin 64) (h : UpHdr) (j : Fin 128),
    InOrder s (.port p) h →
    NoRung s →
    (s.st (128 * p.val + j.val)).skein.isSome = true →
    MayRaise s .stitchSense (128 * p.val + j.val) →
    ∃ t, exec (.senseOpen p h j) s = .next t ∧ (t.st (128 * p.val + j.val)).senseOpen = true ∧
      (t.st (128 * p.val + j.val)).state = (s.st (128 * p.val + j.val)).state ∧
      t.raised .stitchSense (128 * p.val + j.val) = true ∧
      t.get (STITCH_STATE_open p j) = 1) ∧
  (∀ (s : State) (p : Fin 64) (h : UpHdr) (j : Fin 128) (cycles : BitVec 16),
    InOrder s (.port p) h →
    NoRung s →
    (s.st (128 * p.val + j.val)).skein.isSome = true →
    ((s.st (128 * p.val + j.val)).hiccups.filter (fun x => decide (s.ct < x + sec 1))).length < 2 →
    (s.st (128 * p.val + j.val)).latched = false →
    ∃ t, exec (.ocHiccup p h j cycles) s = .next t ∧ (t.st (128 * p.val + j.val)).state = 5 ∧
      (t.st (128 * p.val + j.val)).hiccup = true ∧
      (t.st (128 * p.val + j.val)).latched = false ∧
      Counted s t (PORT_CNT_HICCUP_v p)) ∧
  (∀ (s : State) (p : Fin 64) (h : UpHdr) (j : Fin 128) (cycles : BitVec 16),
    InOrder s (.port p) h →
    NoRung s →
    (s.st (128 * p.val + j.val)).skein.isSome = true →
    2 ≤ ((s.st (128 * p.val + j.val)).hiccups.filter (fun x => decide (s.ct < x + sec 1))).length →
    ∃ t, exec (.ocHiccup p h j cycles) s = .next t ∧ (t.st (128 * p.val + j.val)).state = 5 ∧
      (t.st (128 * p.val + j.val)).latched = true ∧
      t.get (STITCH_FLT_bit p j) = 1) ∧
  (∀ (s : State) (p : Fin 64) (h : UpHdr) (j : Fin 128),
    InOrder s (.port p) h →
    NoRung s →
    (s.st (128 * p.val + j.val)).state = 5 →
    ∃ t, exec (.ocResume p h j) s = .next t ∧ (t.st (128 * p.val + j.val)).hiccup = false ∧
      (t.st (128 * p.val + j.val)).state = (if (s.st (128 * p.val + j.val)).latched then 5 else 2)) ∧
  (∀ (s : State) (p : Fin 64) (h : UpHdr) (j : Fin 128) (temp : BitVec 16),
    InOrder s (.port p) h →
    NoRung s →
    (s.st (128 * p.val + j.val)).skein.isSome = true →
    MayRaise s .stitchFault (128 * p.val + j.val) →
    ∃ t, exec (.stageOt p h j temp) s = .next t ∧ (t.st (128 * p.val + j.val)).state = 5 ∧
      (t.st (128 * p.val + j.val)).latched = true ∧
      t.raised .stitchFault (128 * p.val + j.val) = true) ∧
  (∀ (s : State) (p : Fin 64) (h : UpHdr) (j : Fin 128),
    InOrder s (.port p) h →
    NoRung s →
    (s.st (128 * p.val + j.val)).skein.isSome = true →
    MayRaise s .stitchFault (128 * p.val + j.val) →
    ∃ t, exec (.driverFault p h j) s = .next t ∧ (t.st (128 * p.val + j.val)).state = 5 ∧
      (t.st (128 * p.val + j.val)).latched = true ∧
      t.raised .stitchFault (128 * p.val + j.val) = true) ∧
  (∀ (s : State) (p : Fin 64) (h : UpHdr),
    InOrder s (.port p) h →
    NoRung s →
    s.slSt p = 3 →
    s.ownsPort p = true →
    s.seqSt p = 2 →
    ∃ t, exec (.bindReq p h) s = .next t ∧ t.slSt p = 4 ∧
      t.seqSt p = 3) ∧
  (∀ (s : State) (p : Fin 64) (h : UpHdr) (version : Word),
    InOrder s (.port p) h →
    NoRung s →
    ∃ t, exec (.hubFwVersion p h version) s = .next t ∧ (t.port p).hubVersion = version.toNat ∧
      t.trust.hubMask.getLsbD p = false ∧
      t.stitches = s.stitches) ∧
  (∀ (s : State) (p : Fin 64) (h : UpHdr) (code : BitVec 16),
    InOrder s (.port p) h →
    NoRung s →
    s.swTouched = [] →
    ∃ t, exec (.unknownEventRx (.port p) h code) s = .next t ∧ Counted s t (PORT_CNT_BAD_TYPE_v p) ∧
      t.stitches = s.stitches ∧
      t.mem = s.mem) ∧
  (∀ (s : State) (p : Fin 64) (h : UpHdr) (j : Fin 128),
    InOrder s (.port p) h →
    NoRung s →
    (s.st (128 * p.val + j.val)).skein = none →
    ∃ t, exec (.driverFault p h j) s = .next t ∧ t.stitches = s.stitches ∧
      t.faults = s.faults) ∧
  (∀ (s : State) (p : Fin 64) (h : UpHdr) (j : Fin 128),
    InOrder s (.port p) h →
    NoRung s →
    (s.st (128 * p.val + j.val)).skein = none →
    ∃ t, exec (.senseOpen p h j) s = .next t ∧ t.stitches = s.stitches ∧
      t.faults = s.faults)

/-- Completion of SAMPLE_CELL_RX, TRAILER_RX, WINDOW_DEADLINE and STITCH_SAMPLE_LOSS on a bound stitch. A cell of the
resolution in force with a number not yet there joins the window its tag names when it comes by the deadline; the last
one of the window that is next reduces it at once. A cell of another resolution counts PORT_CNT_CMD_REJECT, a repeated
one RED_CNT_DUP, one past its deadline RED_CNT_LATE, one with no place in the window RED_CNT_BAD_SEQ, and none of
these joins a window. A cell with hub_state 1 takes a controlled stitch to held, one with 0 takes it back. A trailer
of an adopted stitch is kept with its duty and cycle and joins no window. Past its deadline the next window is reduced
to its record, counted, and added to the accumulators only when loss_ok is set and acc_en is 1; before that nothing
changes. Eight windows in a row with a quantity missing raise STITCH_SAMPLE_LOSS. (05_workers_and_stitches.md,
06_sample_reduction.md) -/
def Obligations.SampleCellsFillWindows : Prop :=
  (∀ (s : State) (p : Fin 64) (h : UpHdr) (c : SampleCell) (k : Nat),
    Plain s (.port p) h →
    NoRung s →
    (s.st (128 * p.val + c.stitch.val)).skein = some k →
    (s.st (128 * p.val + c.stitch.val)).state = 2 →
    c.hub = 0 →
    c.res.toNat = s.resOfWin (128 * p.val + c.stitch.val) (nearCycle c.tag.toNat (s.cycleNow k)) →
    ((s.st (128 * p.val + c.stitch.val)).winOf (nearCycle c.tag.toNat (s.cycleNow k))).cells = [] →
    (s.st (128 * p.val + c.stitch.val)).reduced = some (((nearCycle c.tag.toNat (s.cycleNow k)) + 65535) % 65536) →
    (s.ct : Int) ≤ s.winDeadline (128 * p.val + c.stitch.val) k (nearCycle c.tag.toNat (s.cycleNow k)) →
    1 < cellCount (if (s.st (128 * p.val + c.stitch.val)).desc.iinSensed then 4 else 3) (resSamples c.res.toNat) →
    h.seq.toNat < cellCount (if (s.st (128 * p.val + c.stitch.val)).desc.iinSensed then 4 else 3) (resSamples c.res.toNat) →
    ∃ t, exec (.sampleCellRx p h c) s = .next t ∧ ((t.st (128 * p.val + c.stitch.val)).winOf (nearCycle c.tag.toNat (s.cycleNow k))).cells = [(h.seq.toNat, c.samples.map (·.toNat))] ∧
      (t.st (128 * p.val + c.stitch.val)).state = 2 ∧
      (t.st (128 * p.val + c.stitch.val)).last = (s.st (128 * p.val + c.stitch.val)).last ∧
      (t.st (128 * p.val + c.stitch.val)).reduced = (s.st (128 * p.val + c.stitch.val)).reduced ∧
      t.regs = s.regs ∧
      t.mem = s.mem) ∧
  (∀ (s : State) (p : Fin 64) (h : UpHdr) (c : SampleCell) (k : Nat),
    Plain s (.port p) h →
    NoRung s →
    (s.st (128 * p.val + c.stitch.val)).skein = some k →
    (s.st (128 * p.val + c.stitch.val)).state = 2 →
    c.hub = 0 →
    c.res.toNat = s.resOfWin (128 * p.val + c.stitch.val) (nearCycle c.tag.toNat (s.cycleNow k)) →
    ((s.st (128 * p.val + c.stitch.val)).winOf (nearCycle c.tag.toNat (s.cycleNow k))).cells.length + 1 = cellCount (if (s.st (128 * p.val + c.stitch.val)).desc.iinSensed then 4 else 3) (resSamples c.res.toNat) →
    ((s.st (128 * p.val + c.stitch.val)).winOf (nearCycle c.tag.toNat (s.cycleNow k))).cells.any (fun d => decide (d.1 = h.seq.toNat)) = false →
    (s.st (128 * p.val + c.stitch.val)).reduced = some (((nearCycle c.tag.toNat (s.cycleNow k)) + 65535) % 65536) →
    (s.ct : Int) ≤ s.winDeadline (128 * p.val + c.stitch.val) k (nearCycle c.tag.toNat (s.cycleNow k)) →
    h.seq.toNat < cellCount (if (s.st (128 * p.val + c.stitch.val)).desc.iinSensed then 4 else 3) (resSamples c.res.toNat) →
    Mild s [] →
    s.swTouched = [] →
    s.nv.caps = [] →
    ∃ t, exec (.sampleCellRx p h c) s = .next t ∧ (t.st (128 * p.val + c.stitch.val)).reduced = some (nearCycle c.tag.toNat (s.cycleNow k)) ∧
      (t.st (128 * p.val + c.stitch.val)).due = true ∧
      (t.st (128 * p.val + c.stitch.val)).last.cycle = (nearCycle c.tag.toNat (s.cycleNow k)) ∧
      (t.st (128 * p.val + c.stitch.val)).last.incomplete = false ∧
      Counted s t (RED_CNT_WINDOWS_v p)) ∧
  (∀ (s : State) (p : Fin 64) (h : UpHdr) (c : SampleCell) (k : Nat),
    Plain s (.port p) h →
    NoRung s →
    (s.st (128 * p.val + c.stitch.val)).skein = some k →
    (s.st (128 * p.val + c.stitch.val)).state = 2 →
    c.hub = 0 →
    c.res.toNat ≠ s.resOfWin (128 * p.val + c.stitch.val) (nearCycle c.tag.toNat (s.cycleNow k)) →
    s.swTouched = [] →
    ∃ t, exec (.sampleCellRx p h c) s = .next t ∧ (t.st (128 * p.val + c.stitch.val)).wins = (s.st (128 * p.val + c.stitch.val)).wins ∧
      Counted s t (PORT_CNT_CMD_REJECT_v p) ∧
      t.mem = s.mem) ∧
  (∀ (s : State) (p : Fin 64) (h : UpHdr) (c : SampleCell) (k : Nat),
    Plain s (.port p) h →
    NoRung s →
    (s.st (128 * p.val + c.stitch.val)).skein = some k →
    (s.st (128 * p.val + c.stitch.val)).state = 2 →
    c.hub = 0 →
    c.res.toNat = s.resOfWin (128 * p.val + c.stitch.val) (nearCycle c.tag.toNat (s.cycleNow k)) →
    ((s.st (128 * p.val + c.stitch.val)).winOf (nearCycle c.tag.toNat (s.cycleNow k))).cells.any (fun d => decide (d.1 = h.seq.toNat)) = true →
    s.swTouched = [] →
    ∃ t, exec (.sampleCellRx p h c) s = .next t ∧ (t.st (128 * p.val + c.stitch.val)).wins = (s.st (128 * p.val + c.stitch.val)).wins ∧
      Counted s t (RED_CNT_DUP_v p) ∧
      t.mem = s.mem) ∧
  (∀ (s : State) (p : Fin 64) (h : UpHdr) (c : SampleCell) (k : Nat),
    Plain s (.port p) h →
    NoRung s →
    (s.st (128 * p.val + c.stitch.val)).skein = some k →
    (s.st (128 * p.val + c.stitch.val)).state = 2 →
    c.hub = 0 →
    c.res.toNat = s.resOfWin (128 * p.val + c.stitch.val) (nearCycle c.tag.toNat (s.cycleNow k)) →
    ((s.st (128 * p.val + c.stitch.val)).winOf (nearCycle c.tag.toNat (s.cycleNow k))).cells = [] →
    s.winDeadline (128 * p.val + c.stitch.val) k (nearCycle c.tag.toNat (s.cycleNow k)) < (s.ct : Int) →
    s.swTouched = [] →
    ∃ t, exec (.sampleCellRx p h c) s = .next t ∧ (t.st (128 * p.val + c.stitch.val)).wins = (s.st (128 * p.val + c.stitch.val)).wins ∧
      Counted s t (RED_CNT_LATE_v p) ∧
      t.mem = s.mem) ∧
  (∀ (s : State) (p : Fin 64) (h : UpHdr) (c : SampleCell) (k : Nat),
    Plain s (.port p) h →
    NoRung s →
    (s.st (128 * p.val + c.stitch.val)).skein = some k →
    (s.st (128 * p.val + c.stitch.val)).state = 2 →
    c.hub = 0 →
    c.res.toNat = s.resOfWin (128 * p.val + c.stitch.val) (nearCycle c.tag.toNat (s.cycleNow k)) →
    ((s.st (128 * p.val + c.stitch.val)).winOf (nearCycle c.tag.toNat (s.cycleNow k))).cells = [] →
    (s.st (128 * p.val + c.stitch.val)).reduced = some (((nearCycle c.tag.toNat (s.cycleNow k)) + 65535) % 65536) →
    (s.ct : Int) ≤ s.winDeadline (128 * p.val + c.stitch.val) k (nearCycle c.tag.toNat (s.cycleNow k)) →
    cellCount (if (s.st (128 * p.val + c.stitch.val)).desc.iinSensed then 4 else 3) (resSamples c.res.toNat) ≤ h.seq.toNat →
    s.swTouched = [] →
    ∃ t, exec (.sampleCellRx p h c) s = .next t ∧ (t.st (128 * p.val + c.stitch.val)).wins = (s.st (128 * p.val + c.stitch.val)).wins ∧
      Counted s t (RED_CNT_BAD_SEQ_v p) ∧
      t.mem = s.mem) ∧
  (∀ (s : State) (p : Fin 64) (h : UpHdr) (c : SampleCell) (k : Nat),
    Plain s (.port p) h →
    NoRung s →
    (s.st (128 * p.val + c.stitch.val)).skein = some k →
    (s.st (128 * p.val + c.stitch.val)).state = 2 →
    c.hub = 1 →
    c.res.toNat ≠ s.resOfWin (128 * p.val + c.stitch.val) (nearCycle c.tag.toNat (s.cycleNow k)) →
    ∃ t, exec (.sampleCellRx p h c) s = .next t ∧ (t.st (128 * p.val + c.stitch.val)).state = 3 ∧
      (t.st (128 * p.val + c.stitch.val)).wins = (s.st (128 * p.val + c.stitch.val)).wins) ∧
  (∀ (s : State) (p : Fin 64) (h : UpHdr) (c : SampleCell) (k : Nat),
    Plain s (.port p) h →
    NoRung s →
    (s.st (128 * p.val + c.stitch.val)).skein = some k →
    (s.st (128 * p.val + c.stitch.val)).state = 3 →
    c.hub = 0 →
    c.res.toNat ≠ s.resOfWin (128 * p.val + c.stitch.val) (nearCycle c.tag.toNat (s.cycleNow k)) →
    ∃ t, exec (.sampleCellRx p h c) s = .next t ∧ (t.st (128 * p.val + c.stitch.val)).state = 2 ∧
      (t.st (128 * p.val + c.stitch.val)).wins = (s.st (128 * p.val + c.stitch.val)).wins) ∧
  (∀ (s : State) (p : Fin 64) (h : UpHdr) (j : Fin 128) (duty cycle : BitVec 16) (held : BitVec 7),
    Plain s (.port p) h →
    NoRung s →
    (s.st (128 * p.val + j.val)).state = 1 →
    ∃ t, exec (.trailerRx p h j 2 duty cycle held) s = .next t ∧ (t.st (128 * p.val + j.val)).trailers.getLast? = some (duty.toNat, cycle.toNat) ∧
      (t.st (128 * p.val + j.val)).trailerGap = 0 ∧
      (t.st (128 * p.val + j.val)).duty = duty.toNat ∧
      (t.st (128 * p.val + j.val)).wins = (s.st (128 * p.val + j.val)).wins ∧
      (t.st (128 * p.val + j.val)).state = 1 ∧
      t.regs = s.regs ∧
      t.mem = s.mem) ∧
  (∀ (s : State) (g : Fin 8192) (k m : Nat),
    NoRung s →
    (s.st g).skein = some k →
    (s.st g).reduced = some m →
    m < 65536 →
    s.winDeadline g k ((m + 1) % 65536) < (s.ct : Int) →
    (s.port (g.val / 128)).snapAt = none →
    s.nv.caps = [] →
    (s.st g).noHub2 < 63 →
    s.faults.insts.any (fun (x : Inst) => decide (x.kind = .stitchSampleLoss)) = false →
    ∃ t, exec (.windowDeadline g) s = .next t ∧ (t.st g).reduced = some ((m + 1) % 65536) ∧
      (t.st g).last = s.winRec g k ((s.st g).winOf ((m + 1) % 65536)) ∧
      (t.st g).due = true ∧
      (t.st g).acc = (if (s.winRec g k ((s.st g).winOf ((m + 1) % 65536))).lossOk && s.is (RED_CTRL_acc_en (g.val / 128)) then (s.st g).acc.join (s.winRec g k ((s.st g).winOf ((m + 1) % 65536))) else (s.st g).acc) ∧
      Counted s t (RED_CNT_WINDOWS_v (g.val / 128)) ∧
      t.mem = s.mem) ∧
  (∀ (s : State) (g : Fin 8192) (k m : Nat),
    (s.st g).skein = some k →
    (s.st g).reduced = some m →
    (s.ct : Int) ≤ s.winDeadline g k ((m + 1) % 65536) →
    ∃ t, exec (.windowDeadline g) s = .next t ∧ t = s) ∧
  (∀ (s : State) (g : Fin 8192),
    8 ≤ (s.st g).missing →
    MayRaise s .stitchSampleLoss g →
    ∃ t, exec (.stitchSampleLoss g) s = .next t ∧ t.raised .stitchSampleLoss g = true ∧
      t.stitches = s.stitches)

/-- Completion of RED_SNAP, RED_SNAP_DONE, RED_CLEAR_ACC and LOSS_READ. A write of 1 to snap takes a snapshot of every
accumulator of the port and marks it pending with its time; a snap while one is pending is ignored. The snapshot
completes, after its own cycle and once every window that closed before its time is reduced, with snap_done set and
the sequence number one higher; before that it stays pending. A clear sets the live accumulators to 0, but for the
windows added in its own cycle, and leaves the snapshots. A read of a stitch gives the selected value of the latest
complete snapshot, saturated, and the sequence number; before the first snapshot it gives 0. (06_sample_reduction.md) -/
def Obligations.SnapshotsAndClears : Prop :=
  (∀ (s : State) (p : Fin 64) (v : Word),
    Runs s →
    s.hwTouched = [] →
    v.bit 2 = true →
    v.bit 3 = false →
    s.is (RED_STATUS_snap_pending p) = false →
    ∃ t, exec (.redSnap p v) s = .next t ∧ t.get (RED_STATUS_snap_pending p) = 1 ∧
      (t.port p).snapAt = some s.ct ∧
      (∀ g ∈ s.portStitches p, (t.st g).snap = (s.st g).acc ∧ (t.st g).acc = (s.st g).acc) ∧
      t.mem = s.mem) ∧
  (∀ (s : State) (p : Fin 64) (v : Word),
    Runs s →
    s.hwTouched = [] →
    v.bit 2 = true →
    v.bit 3 = false →
    s.is (RED_STATUS_snap_pending p) = true →
    ∃ t, exec (.redSnap p v) s = .next t ∧ t.stitches = s.stitches ∧
      (t.port p).snapAt = (s.port p).snapAt ∧
      t.mem = s.mem) ∧
  (∀ (s : State) (p : Fin 64) (w : Nat),
    (s.port p).snapAt = some w →
    w < s.ct →
    s.reducedTo p w = true →
    s.get (RED_SNAP_SEQ_seq p) + 1 < 2 ^ 32 →
    ∃ t, exec (.redSnapDone p) s = .next t ∧ t.get (RED_STATUS_snap_pending p) = 0 ∧
      t.get (RED_STATUS_snap_done p) = 1 ∧
      t.get (RED_SNAP_SEQ_seq p) = s.get (RED_SNAP_SEQ_seq p) + 1 ∧
      t.stitches = s.stitches ∧
      t.mem = s.mem) ∧
  (∀ (s : State) (p : Fin 64) (w : Nat),
    (s.port p).snapAt = some w →
    s.ct ≤ w ∨ s.reducedTo p w = false →
    ∃ t, exec (.redSnapDone p) s = .next t ∧ t = s) ∧
  (∀ (s : State) (p : Fin 64) (v : Word),
    Runs s →
    s.hwTouched = [] →
    v.bit 2 = false →
    v.bit 3 = true →
    ∃ t, exec (.redClearAcc p v) s = .next t ∧ (∀ g ∈ s.portStitches p, (t.st g).acc = (if (s.st g).added.1 = s.ct then (s.st g).added.2.foldl (fun a r => a.join r) {} else {}) ∧ (t.st g).snap = (s.st g).snap) ∧
      (∀ g, g / 128 ≠ p.val → t.st g = s.st g) ∧
      t.mem = s.mem) ∧
  (∀ (s : State) (mb : Mb) (k : Fin 64),
    Ready s mb k 0x541 →
    u8 (payloadOf s mb k) 2 = 0 →
    u8 (payloadOf s mb k) 3 ≤ 4 →
    (resv (payloadOf s mb k) 4 16).2 = false →
    s.stitchBad mb (u16 (payloadOf s mb k) 0) = false →
    (s.port (u16 (payloadOf s mb k) 0 / 128)).snapAt = none →
    (s.port (u16 (payloadOf s mb k) 0 / 128)).snapSeen = true →
    ∃ t, exec (.lossRead mb k) s = .next t ∧ Done t mb k (cmdOf s mb k) 0 (s.get (RED_SNAP_SEQ_seq (u16 (payloadOf s mb k) 0 / 128)) % 65536) ((if 3 ≤ u8 (payloadOf s mb k) 3 then (clampI 0 (2 ^ 64 - 1) ((s.st (u16 (payloadOf s mb k) 0)).snap.sel (u8 (payloadOf s mb k) 3))).toNat else toField 64 (sat64 ((s.st (u16 (payloadOf s mb k) 0)).snap.sel (u8 (payloadOf s mb k) 3))))) ∧
      t.stitches = s.stitches) ∧
  (∀ (s : State) (mb : Mb) (k : Fin 64),
    Ready s mb k 0x541 →
    u8 (payloadOf s mb k) 2 = 0 →
    u8 (payloadOf s mb k) 3 ≤ 4 →
    (resv (payloadOf s mb k) 4 16).2 = false →
    s.stitchBad mb (u16 (payloadOf s mb k) 0) = false →
    (s.port (u16 (payloadOf s mb k) 0 / 128)).snapSeen = false →
    ∃ t, exec (.lossRead mb k) s = .next t ∧ Done t mb k (cmdOf s mb k) 0 0 0 ∧
      t.stitches = s.stitches)

/-- Completion of SKEIN_STEP on a skein whose job runs on an engine: the delivered results of the batch are taken, none
stays due; the step of an off skein of one stitch, with nothing loaded or planned, posts an OFF command of duty 0 for
cycle n + D, n being the window of its result; a batch without delivered results, or of a job without engine, changes
nothing. One step of the law with an error moves the error history; without feedback du is 0 and e1 and e2 hold; at
the current limit du is never positive; u becomes the old u with du and the step term added, clamped to u_min to
u_max; every duty keeps dmin to dmax. (05_workers_and_stitches.md, 07_loop_engines.md, 08_skein_regulation.md) -/
def Obligations.LoopStepKeepsTheLaw : Prop :=
  (∀ (s : State) (q : Fin 2048) (batch : List (Fin 128)) (e : Nat),
    (s.sk q).engine = some e →
    ∃ t, exec (.skeinStep q batch) s = .next t ∧ (∀ g, (s.bound q).contains g && batch.any (fun j => decide (128 * (s.sk q).slot + j.val = g)) → (t.st g).due = false)) ∧
  (∀ (s : State) (q : Fin 2048) (j : Fin 128) (e p n : Nat),
    (s.sk q).engine = some e →
    e < 128 →
    p = (s.sk q).slot →
    p < 64 →
    s.bound q = [128 * p + j.val] →
    (s.st (128 * p + j.val)).due = true →
    n = (s.st (128 * p + j.val)).last.cycle →
    cycLe n (s.sk q).stepped = false →
    s.skSt q = 0 →
    (s.sk q).wantStart = false →
    (s.sk q).running = [] →
    (s.sk q).nextRunning = [] →
    (s.sk q).leads = [] →
    (s.sk q).loads = [] →
    (s.sk q).acts = [] →
    (s.sk q).countAt = none →
    (s.sk q).moved = none →
    (s.sk q).offAt = none →
    (s.sk q).moveTo = none →
    (s.sk q).shadow = none →
    (s.sk q).overruns = 0 →
    (s.st (128 * p + j.val)).postedTo = none →
    s.is (ARB_MASK_bit p (e % 32)) = false →
    (s.port p).queue = [] →
    (s.port p).held = [] →
    (s.port p).locksDropped = [] →
    Tbl.find? (s.port p).lastGrant j.val = none →
    s.bufferOf e < 16 →
    Mild s [.engOverrun, .skeinDegraded, .skeinUv, .stitchSense] →
    s.railSkeins p = [] →
    s.slSt p ≠ 4 →
    (s.sk q).waitDigest = none →
    ∃ t, exec (.skeinStep q [j]) s = .next t ∧ (t.sk q).stepped = n ∧
      ((t.port p).queue.any (fun c => decide (c.stitch = j.val ∧ c.cycle = (n + s.delayAt q n) % 65536 ∧ c.mode = 0 ∧ c.duty = 0 ∧ c.engine = e)) = true)) ∧
  (∀ (s : State) (q : Fin 2048) (batch : List (Fin 128)),
    (s.sk q).engine = none ∨ (s.bound q).all (fun g => !(s.st g).due) = true →
    ∃ t, exec (.skeinStep q batch) s = .next t ∧ t = s) ∧
  (∀ (x : Skein) (c : Nat) (e : Int) (ilim : Bool),
    (x.lawStep c (some e) ilim).job.e1 = e ∧
      (x.lawStep c (some e) ilim).job.e2 = x.job.e1) ∧
  (∀ (x : Skein) (c : Nat) (ilim : Bool),
    (x.lawStep c none ilim).job.e1 = x.job.e1 ∧
      (x.lawStep c none ilim).job.e2 = x.job.e2 ∧
      (x.lawStep c none ilim).lastDu = 0) ∧
  (∀ (x : Skein) (c : Nat) (e : Option Int),
    (x.lawStep c e true).lastDu ≤ 0) ∧
  (∀ (x : Skein) (c : Nat) (e : Option Int) (ilim : Bool),
    x.law.uMin ≤ x.law.uMax →
    (x.law.uMin : Int) * 32768 ≤ (x.lawStep c e ilim).job.u ∧
      (x.lawStep c e ilim).job.u ≤ (x.law.uMax : Int) * 32768) ∧
  (∀ (x : Skein) (c : Nat) (e : Option Int),
    (x.lawStep c e false).job.u = clampI (x.law.uMin * 32768) (x.law.uMax * 32768) (x.job.u + (x.lawStep c e false).lastDu + (shl (x.law.kstep * (x.lawStep c e false).lastDelta) x.law.kstepExp).1)) ∧
  (∀ (x : Skein) (r share : Int),
    x.lim.dmin ≤ x.lim.dmax →
    (x.lim.dmin : Int) ≤ (x.dutyOf r share).1 ∧
      (x.dutyOf r share).1 ≤ (x.lim.dmax : Int))

/-- Completion of JOB_COPY_DONE, ENGINE_FAULT, JOB_PLACE_RETRY, ENG_DISABLE, ENG_SELF_TEST_DONE, ENG_RESET and
ENG_JOB_MOVE. A copy completes the shadow and changes nothing else of the job. An engine without jobs or shadows that
faults shows state 3, is masked in every arbiter of its quadrant and raises ENG_FAULT. An unplaced job is placed on
the engine R278 picks with the shares of its checkpoint, and stays unplaced where there is none. en written 0 masks
the engine. A reset of an engine without jobs shows state 2 with the engine masked and leaves the command started; a
passed self-test completes it with ST_OK in state 0, slow cleared, the ENG_FAULT cause gone and an enabled engine
unmasked; a failed one with ST_FAULT and the state as it was. A planned move to an engine with room notes its target
and leaves the command started and the job where it is. (07_loop_engines.md, 09_command_arbiter.md) -/
def Obligations.EnginesFaultRestartAndReset : Prop :=
  (∀ (s : State) (q : Fin 2048),
    ∃ t, exec (.jobCopyDone q) s = .next t ∧ (t.sk q).shadow = (s.sk q).shadow.map (fun (x : Nat × Bool × Nat) => (x.1, true, x.2.2)) ∧
      (t.sk q).job = (s.sk q).job ∧
      t.stitches = s.stitches ∧
      t.regs = s.regs ∧
      t.mem = s.mem) ∧
  (∀ (s : State) (e : Fin 128),
    Runs s →
    s.get (ENG_STATUS_state e) ≠ 3 →
    s.jobs e = [] →
    s.skeins.all (fun (x : Nat × Skein) => decide (x.2.shadow = none) && decide (x.2.moveTo = none)) = true →
    MayRaise s .engFault e →
    ∃ t, exec (.engineFault e) s = .next t ∧ t.get (ENG_STATUS_state e) = 3 ∧
      (∀ i : Fin 16, t.is (ARB_MASK_bit (16 * (e.val / 32) + i.val) (e.val % 32)) = true) ∧
      t.raised .engFault e = true ∧
      t.stitches = s.stitches) ∧
  (∀ (s : State) (q : Fin 2048),
    NoRung s →
    (s.sk q).unplaced = true →
    s.restartEngine q = none →
    (s.sk q).engine = none →
    (s.sk q).moveFor = none →
    ∃ t, exec (.jobPlaceRetry q) s = .next t ∧ (t.sk q).unplaced = true ∧
      (t.sk q).engine = none ∧
      t.regs = s.regs ∧
      t.stitches = s.stitches ∧
      t.mem = s.mem) ∧
  (∀ (s : State) (q : Fin 2048) (e : Nat),
    NoRung s →
    (s.sk q).unplaced = true →
    s.restartEngine q = some e →
    (s.sk q).engine = none →
    (s.sk q).moveFor = none →
    (s.sk q).kept = [] →
    s.bound q = [] →
    ∃ t, exec (.jobPlaceRetry q) s = .next t ∧ (t.sk q).unplaced = false ∧
      (t.sk q).engine = some e ∧
      (t.sk q).job = { (s.sk q).job with shares := (s.sk q).check.shares }) ∧
  (∀ (s : State) (e : Fin 128) (v : Word),
    Runs s →
    NoRung s →
    s.hwTouched = [] →
    s.get (ENG_STATUS_state e) ≠ 2 →
    s.is (ENG_CTRL_en e) = true →
    s.jobs e = [] →
    s.skeins.all (fun (x : Nat × Skein) => decide (x.2.shadow = none) && decide (x.2.moveTo = none)) = true →
    v.bit 0 = false →
    ∃ t, exec (.engDisable e v) s = .next t ∧ t.get (ENG_CTRL_en e) = 0 ∧
      (∀ i : Fin 16, t.is (ARB_MASK_bit (16 * (e.val / 32) + i.val) (e.val % 32)) = true) ∧
      t.mem = s.mem) ∧
  (∀ (s : State) (e : Fin 128) (mb : Mb) (k : Fin 64),
    NoRung s →
    (s.eng e).testFor = some (mb.val, k.val) →
    MemWf s →
    s.ringFull mb = false →
    (s.mbx mb).cqWait = [] →
    s.jobs e = [] →
    ∃ t, exec (.engSelfTestDone e true) s = .next t ∧ (t.eng e).testFor = none ∧
      t.get (ENG_STATUS_state e) = 0 ∧
      t.is (ENG_STATUS_slow e) = false ∧
      t.raised .engFault e = false ∧
      (s.is (ENG_CTRL_en e) = true → ∀ i : Fin 16, t.is (ARB_MASK_bit (16 * (e.val / 32) + i.val) (e.val % 32)) = false) ∧
      Done t mb k (cmdOf s mb k) 0 0 0) ∧
  (∀ (s : State) (e : Fin 128) (mb : Mb) (k : Fin 64),
    NoRung s →
    MemWf s →
    (s.eng e).testFor = some (mb.val, k.val) →
    s.ringFull mb = false →
    (s.mbx mb).cqWait = [] →
    Tail s mb k →
    ∃ t, exec (.engSelfTestDone e false) s = .next t ∧ (t.eng e).testFor = none ∧
      t.get (ENG_STATUS_state e) = s.get (ENG_STATUS_state e) ∧
      Done t mb k (cmdOf s mb k) 9 0 0) ∧
  (∀ (s : State) (mb : Mb) (k : Fin 64),
    Ready s mb k 0x606 →
    u8 (payloadOf s mb k) 0 < 128 →
    s.jobs (u8 (payloadOf s mb k) 0) = [] →
    s.get (ENG_STATUS_state (u8 (payloadOf s mb k) 0)) ≠ 2 →
    s.skeins.all (fun (x : Nat × Skein) => decide (x.2.shadow = none) && decide (x.2.moveTo = none)) = true →
    ∃ t, exec (.engReset mb k) s = .next t ∧ t.get (ENG_STATUS_state (u8 (payloadOf s mb k) 0)) = 2 ∧
      (t.eng (u8 (payloadOf s mb k) 0)).testFor = some (mb.val, k.val) ∧
      (∀ i : Fin 16, t.is (ARB_MASK_bit (16 * (u8 (payloadOf s mb k) 0 / 32) + i.val) (u8 (payloadOf s mb k) 0 % 32)) = true) ∧
      (cmdOf t mb k).phase = .started ∧
      t.stitches = s.stitches) ∧
  (∀ (s : State) (mb : Mb) (k : Fin 64) (e : Nat),
    Ready s mb k 0x605 →
    s.skeinBad mb (u16 (payloadOf s mb k) 0) = false →
    s.ownsPort (s.sk (u16 (payloadOf s mb k) 0)).slot = true →
    (s.sk (u16 (payloadOf s mb k) 0)).engine = some e →
    u8 (payloadOf s mb k) 2 ≠ e →
    u8 (payloadOf s mb k) 2 / 32 = (s.sk (u16 (payloadOf s mb k) 0)).slot / 16 →
    s.roomFor (u8 (payloadOf s mb k) 2) (u16 (payloadOf s mb k) 0) = true →
    (s.sk (u16 (payloadOf s mb k) 0)).moveTo = none →
    ∃ t, exec (.engJobMove mb k) s = .next t ∧ (t.sk (u16 (payloadOf s mb k) 0)).moveTo = some (u8 (payloadOf s mb k) 2) ∧
      (t.sk (u16 (payloadOf s mb k) 0)).moveFor = some (mb.val, k.val) ∧
      (t.sk (u16 (payloadOf s mb k) 0)).engine = some e ∧
      (cmdOf t mb k).phase = .started ∧
      t.stitches = s.stitches)

/-- Completion of SKEIN_LOAD_GAINTAB, SKEIN_LOAD_SCHEDULE, SKEIN_LOAD_LAW, ENG_TRACE_ARM, ENG_TRACE_READ and ENG_JOB_QUERY
of a command at its turn that passes its checks. A load of a skein that runs on an engine joins its waiting loads
whole, with the command still started and the law in force unchanged; a load that is applied sets its own part of the
law and no other. An arm of one node puts the trace of its payload in the engine and completes with ST_OK. A read
gives record size, records held and state, and zeros where no engine holds a trace of the skein; a job query gives
engine, shadow, overruns, budget, cycles, region and index, and ST_FAULT, info 1, result 0 for a job without engine.
(07_loop_engines.md, 22_mailbox_commands.md) -/
def Obligations.LawLoadsTakeEffectAtAStep : Prop :=
  (∀ (s : State) (mb : Mb) (k : Fin 64),
    Ready s mb k 0x421 →
    NoRung s →
    Passes s (gaintabChecks s mb (payloadOf s mb k)) →
    (s.sk (u16 (payloadOf s mb k) 0)).engine.isSome = true →
    ∃ t, exec (.skeinLoadGaintab mb k) s = .next t ∧ (t.sk (u16 (payloadOf s mb k) 0)).loads = (s.sk (u16 (payloadOf s mb k) 0)).loads ++ [(gaintabOf (payloadOf s mb k), some (mb.val, k.val))] ∧
      (t.sk (u16 (payloadOf s mb k) 0)).gtab = (s.sk (u16 (payloadOf s mb k) 0)).gtab ∧
      (cmdOf t mb k).phase = .started ∧
      t.stitches = s.stitches ∧
      t.mem = s.mem) ∧
  (∀ (s : State) (mb : Mb) (k : Fin 64),
    Ready s mb k 0x422 →
    NoRung s →
    Passes s (schedChecks s mb (payloadOf s mb k)) →
    (s.sk (u16 (payloadOf s mb k) 0)).engine.isSome = true →
    ∃ t, exec (.skeinLoadSchedule mb k) s = .next t ∧ (t.sk (u16 (payloadOf s mb k) 0)).loads = (s.sk (u16 (payloadOf s mb k) 0)).loads ++ [(schedOf (payloadOf s mb k), some (mb.val, k.val))] ∧
      (t.sk (u16 (payloadOf s mb k) 0)).sched = (s.sk (u16 (payloadOf s mb k) 0)).sched ∧
      (cmdOf t mb k).phase = .started ∧
      t.stitches = s.stitches ∧
      t.mem = s.mem) ∧
  (∀ (s : State) (mb : Mb) (k : Fin 64),
    Ready s mb k 0x423 →
    NoRung s →
    Passes s (lawChecks s mb (payloadOf s mb k)) →
    (s.sk (u16 (payloadOf s mb k) 0)).engine.isSome = true →
    ∃ t, exec (.skeinLoadLaw mb k) s = .next t ∧ (t.sk (u16 (payloadOf s mb k) 0)).loads = (s.sk (u16 (payloadOf s mb k) 0)).loads ++ [(lawOf (payloadOf s mb k), some (mb.val, k.val))] ∧
      (t.sk (u16 (payloadOf s mb k) 0)).law = (s.sk (u16 (payloadOf s mb k) 0)).law ∧
      (cmdOf t mb k).phase = .started ∧
      t.stitches = s.stitches ∧
      t.mem = s.mem) ∧
  (∀ (s : State) (q sh : Nat) (es : List Nat) (lw : Law) (sc : Sched),
    q < 2048 →
    ((s.applyLoad q (.gaintab sh es)).sk q).gtab = es ∧
      ((s.applyLoad q (.gaintab sh es)).sk q).idxShift = sh ∧
      ((s.applyLoad q (.gaintab sh es)).sk q).law = (s.sk q).law ∧
      ((s.applyLoad q (.law lw)).sk q).law = lw ∧
      ((s.applyLoad q (.law lw)).sk q).sched = (s.sk q).sched ∧
      ((s.applyLoad q (.schedule sc)).sk q).sched = sc ∧
      ((s.applyLoad q (.schedule sc)).sk q).gtab = (s.sk q).gtab) ∧
  (∀ (s : State) (mb : Mb) (k : Fin 64) (e : Nat),
    Ready s mb k 0x601 →
    NoRung s →
    s.level_ ≥ 2 →
    s.skeinBad mb (u16 (payloadOf s mb k) 0) = false →
    s.ownsPort (s.sk (u16 (payloadOf s mb k) 0)).slot = true →
    s.get THM_STATUS_stage = 0 →
    (s.sk (u16 (payloadOf s mb k) 0)).engine = some e →
    (s.eng e).trace.skein = (u16 (payloadOf s mb k) 0) ∨ (s.eng e).trace.state = 0 ∨ (s.eng e).trace.state = 3 →
    u8 (payloadOf s mb k) 2 = 1 →
    u8 (payloadOf s mb k) 3 = 0 →
    u8 (payloadOf s mb k) 4 ≤ 5 →
    (resv (payloadOf s mb k) 5 12).2 = false →
    u8 (payloadOf s mb k) 12 < 128 →
    u8 (payloadOf s mb k) 13 = 0 →
    1 ≤ u16 (payloadOf s mb k) 14 ∧ u16 (payloadOf s mb k) 14 ≤ 256 →
    u8 (payloadOf s mb k) 16 ≤ 4 →
    u8 (payloadOf s mb k) 17 = 0 →
    (resv (payloadOf s mb k) 22 24).2 = false →
    ∃ t, exec (.engTraceArm mb k) s = .next t ∧ (t.eng e).trace = traceOf (payloadOf s mb k) (s.skOwner (u16 (payloadOf s mb k) 0)) ∧
      t.get (TRC_STATUS_state e) = (if u8 (payloadOf s mb k) 16 = 0 then 2 else 1) ∧
      t.get (TRC_STATUS_records e) = 0 ∧
      Done t mb k (cmdOf s mb k) 0 0 0 ∧
      t.skeins = s.skeins ∧
      t.stitches = s.stitches) ∧
  (∀ (s : State) (mb : Mb) (k : Fin 64) (e : Nat),
    Ready s mb k 0x602 →
    s.skeinBad mb (u16 (payloadOf s mb k) 0) = false →
    mb.val = afMb →
    s.traceEngine (u16 (payloadOf s mb k) 0) = some e →
    (s.eng e).trace.records = [] →
    ∃ t, exec (.engTraceRead mb k) s = .next t ∧ Done t mb k (cmdOf s mb k) 0 (s.eng e).trace.size ((s.eng e).trace.state * 2 ^ 32) ∧
      t.engines = s.engines ∧
      t.skeins = s.skeins) ∧
  (∀ (s : State) (mb : Mb) (k : Fin 64),
    Ready s mb k 0x602 →
    s.skeinBad mb (u16 (payloadOf s mb k) 0) = false →
    s.traceEngine (u16 (payloadOf s mb k) 0) = none →
    ∃ t, exec (.engTraceRead mb k) s = .next t ∧ Done t mb k (cmdOf s mb k) 0 0 0 ∧
      t.engines = s.engines ∧
      t.skeins = s.skeins) ∧
  (∀ (s : State) (mb : Mb) (k : Fin 64) (e : Nat),
    Ready s mb k 0x604 →
    s.skeinBad mb (u16 (payloadOf s mb k) 0) = false →
    (s.sk (u16 (payloadOf s mb k) 0)).engine = some e →
    ∃ t, exec (.engJobQuery mb k) s = .next t ∧ Done t mb k (cmdOf s mb k) 0 0 (e + (s.sk (u16 (payloadOf s mb k) 0)).shadow.isSome.toNat * 2 ^ 7 + Nat.min (s.sk (u16 (payloadOf s mb k) 0)).overruns 255 * 2 ^ 8 + (8 + 12 * (s.bound (u16 (payloadOf s mb k) 0)).length) * 2 ^ 16 + Nat.min (s.sk (u16 (payloadOf s mb k) 0)).spent 65535 * 2 ^ 32 + (s.sk (u16 (payloadOf s mb k) 0)).job.region * 2 ^ 48 + (s.sk (u16 (payloadOf s mb k) 0)).lastIdx * 2 ^ 51) ∧
      t.engines = s.engines ∧
      t.skeins = s.skeins) ∧
  (∀ (s : State) (mb : Mb) (k : Fin 64),
    Ready s mb k 0x604 →
    s.skeinBad mb (u16 (payloadOf s mb k) 0) = false →
    (s.sk (u16 (payloadOf s mb k) 0)).engine = none →
    Tail s mb k →
    ∃ t, exec (.engJobQuery mb k) s = .next t ∧ Done t mb k (cmdOf s mb k) 9 1 0 ∧
      t.engines = s.engines ∧
      t.skeins = s.skeins)

/-- Completion of ADOPT_TIMEOUT, TRAILER_LOSS, SENSE_OPEN_CLEAR, NO_FEEDBACK_RELEASE and FEEDBACK_RETURN. 64 windows
without R209 force the adoption; fewer change nothing. An adopted stitch whose trailers have been missing for 8m
windows raises STITCH_AUTO. 64 clear windows end a sense-open class and its cause, without changing the state of the
stitch, and let a released skein return. 64 cycles without feedback enter a RELEASE for the next cycle of a starting,
regulating or stopping skein and raise SKEIN_NO_FB. 16 cycles with feedback end that cause and let a released skein
return. (05_workers_and_stitches.md, 07_loop_engines.md, 08_skein_regulation.md) -/
def Obligations.FeedbackLossAndReturn : Prop :=
  (∀ (s : State) (q : Fin 2048),
    64 ≤ (s.sk q).adoptWin →
    ∃ t, exec (.adoptTimeout q) s = .next t ∧ (t.sk q).forceAdopt = true ∧
      (t.sk q).job = (s.sk q).job ∧
      t.stitches = s.stitches ∧
      t.regs = s.regs ∧
      t.mem = s.mem) ∧
  (∀ (s : State) (q : Fin 2048),
    (s.sk q).adoptWin < 64 →
    ∃ t, exec (.adoptTimeout q) s = .next t ∧ t = s) ∧
  (∀ (s : State) (g : Fin 8192) (q : Nat),
    (s.st g).skein = some q →
    (s.st g).state = 1 →
    8 * (s.sk q).trailerM ≤ (s.st g).trailerGap →
    MayRaise s .stitchAuto g →
    ∃ t, exec (.trailerLoss g) s = .next t ∧ t.raised .stitchAuto g = true ∧
      t.stitches = s.stitches ∧
      t.skeins = s.skeins) ∧
  (∀ (s : State) (g : Fin 8192),
    NoRung s →
    (s.st g).senseOpen = true →
    64 ≤ (s.st g).senseClear →
    ∃ t, exec (.senseOpenClear g) s = .next t ∧ (t.st g).senseOpen = false ∧
      t.is (STITCH_STATE_open (g / 128) (g % 128)) = false ∧
      t.raised .stitchSense g = false ∧
      (t.st g).state = (s.st g).state ∧
      t.mem = s.mem) ∧
  (∀ (s : State) (g : Fin 8192) (q : Nat),
    NoRung s →
    (s.st g).senseOpen = true →
    64 ≤ (s.st g).senseClear →
    (s.st g).skein = some q →
    s.skSt q = 4 →
    q < 2048 →
    ∃ t, exec (.senseOpenClear g) s = .next t ∧ (t.st g).senseOpen = false ∧
      (t.sk q).mayReturn = true ∧
      s.skSt q = 4) ∧
  (∀ (s : State) (q : Fin 2048),
    64 ≤ (s.sk q).noFb →
    s.skSt q = 1 ∨ s.skSt q = 2 ∨ s.skSt q = 3 →
    (s.sk q).acts = [] →
    MayRaise s .skeinNoFb q →
    ∃ t, exec (.noFeedbackRelease q) s = .next t ∧ t.raised .skeinNoFb q = true ∧
      (t.sk q).acts = [(s.nextCycle q, .releaseAll)] ∧
      t.skSt q = s.skSt q ∧
      t.stitches = s.stitches) ∧
  (∀ (s : State) (q : Fin 2048),
    NoRung s →
    16 ≤ (s.sk q).fbBack →
    s.skSt q = 4 →
    ∃ t, exec (.feedbackReturn q) s = .next t ∧ (t.sk q).mayReturn = true ∧
      t.skSt q = 4 ∧
      t.raised .skeinNoFb q = false ∧
      t.stitches = s.stitches ∧
      t.mem = s.mem)

/-- Completion of INTENT_CELL_RX and LOAD_INTENT_POST. An INTENT cell, next in sequence, that meets the four conditions of
R220 joins the skein of its stitch at the first cycle with its tag that has not begun; one that names an unbound
stitch, or fails a condition, is counted as dropped and changes no skein. A post at its turn whose time lies 10 us to
200 us ahead joins the skein at the cycle of that time and completes with ST_OK and the cycle; with four intents held
it completes with ST_BUSY, info 2, and changes no skein. (05_workers_and_stitches.md) -/
def Obligations.IntentsAreHeldByTheirSkein : Prop :=
  (∀ (s : State) (p : Fin 64) (h : UpHdr) (j : Fin 128) (tag : BitVec 12) (fn : Fin 4) (delta : BitVec 32) (id : BitVec 8) (q : Nat),
    InOrder s (.port p) h →
    NoRung s →
    (s.st (128 * p.val + j.val)).skein = some q →
    s.intentFails p fn q (s.tagCycle q tag.toNat) = 0 →
    ∃ t, exec (.intentCellRx p h j tag fn delta id) s = .next t ∧ t.sk q = { s.sk q with job := { (s.sk q).job with intents := (s.sk q).job.intents ++ [⟨s.tagCycle q tag.toNat, delta.toInt⟩] } } ∧
      t.stitches = s.stitches ∧
      t.regs = s.regs ∧
      t.mem = s.mem) ∧
  (∀ (s : State) (p : Fin 64) (h : UpHdr) (j : Fin 128) (tag : BitVec 12) (fn : Fin 4) (delta : BitVec 32) (id : BitVec 8),
    InOrder s (.port p) h →
    NoRung s →
    s.swTouched = [] →
    (s.st (128 * p.val + j.val)).skein = none →
    ∃ t, exec (.intentCellRx p h j tag fn delta id) s = .next t ∧ Counted s t (PORT_CNT_INTENT_DROP_v p) ∧
      t.skeins = s.skeins ∧
      t.stitches = s.stitches) ∧
  (∀ (s : State) (p : Fin 64) (h : UpHdr) (j : Fin 128) (tag : BitVec 12) (fn : Fin 4) (delta : BitVec 32) (id : BitVec 8) (q : Nat),
    InOrder s (.port p) h →
    NoRung s →
    s.swTouched = [] →
    (s.st (128 * p.val + j.val)).skein = some q →
    s.intentFails p fn q (s.tagCycle q tag.toNat) ≠ 0 →
    ∃ t, exec (.intentCellRx p h j tag fn delta id) s = .next t ∧ Counted s t (PORT_CNT_INTENT_DROP_v p) ∧
      t.skeins = s.skeins ∧
      t.stitches = s.stitches) ∧
  (∀ (s : State) (mb : Mb) (k : Fin 64),
    Ready s mb k 0x530 →
    s.skeinBad mb (u16 (payloadOf s mb k) 0) = false →
    s.ownsPort (s.sk (u16 (payloadOf s mb k) 0)).slot = true →
    (resv (payloadOf s mb k) 2 4).2 = false →
    s.ct + us 10 ≤ u64 (payloadOf s mb k) 8 ∧ u64 (payloadOf s mb k) 8 ≤ s.ct + us 200 →
    (s.sk (u16 (payloadOf s mb k) 0)).job.intents.length < 4 →
    ∃ t, exec (.loadIntentPost mb k) s = .next t ∧ (t.sk (u16 (payloadOf s mb k) 0)).job.intents = (s.sk (u16 (payloadOf s mb k) 0)).job.intents ++ [⟨s.cycleFor (u16 (payloadOf s mb k) 0) (u64 (payloadOf s mb k) 8) s.ct, i32 (payloadOf s mb k) 4⟩] ∧
      Done t mb k (cmdOf s mb k) 0 0 (s.cycleFor (u16 (payloadOf s mb k) 0) (u64 (payloadOf s mb k) 8) s.ct) ∧
      t.stitches = s.stitches) ∧
  (∀ (s : State) (mb : Mb) (k : Fin 64),
    Ready s mb k 0x530 →
    s.skeinBad mb (u16 (payloadOf s mb k) 0) = false →
    s.ownsPort (s.sk (u16 (payloadOf s mb k) 0)).slot = true →
    (resv (payloadOf s mb k) 2 4).2 = false →
    s.ct + us 10 ≤ u64 (payloadOf s mb k) 8 ∧ u64 (payloadOf s mb k) 8 ≤ s.ct + us 200 →
    4 ≤ (s.sk (u16 (payloadOf s mb k) 0)).job.intents.length →
    Tail s mb k →
    ∃ t, exec (.loadIntentPost mb k) s = .next t ∧ Done t mb k (cmdOf s mb k) 2 2 0 ∧
      t.skeins = s.skeins ∧
      t.stitches = s.stitches)

/-- Completion of SKEIN_PG_TIMEOUT, SKEIN_OV_TRIP, SKEIN_UV, ILIM_TIMEOUT, SHARE_LIMIT_COUNT and RESTORE_HOLD_END. A start
without power good in its time returns the skein to off, raises SKEIN_START_FAIL and completes its SKEIN_POWER with
ST_FAULT, info 2. A trip that is due latches the skein, drops its intents and kicks, and raises SKEIN_OV with ov_seen,
or SKEIN_ILIM. A run of uv_windows under-voltage windows raises SKEIN_UV and sets uv_seen while the skein keeps its
state. A stitch at its share limit for 4,096 cycles raises SKEIN_SHARE and sets share_seen and no skein or stitch
changes. A restore hold ends at its time and not before. Each trip and timeout changes no stitch.
(08_skein_regulation.md) -/
def Obligations.SkeinProtectionTimers : Prop :=
  (∀ (s : State) (q : Fin 2048) (at_ : Nat),
    (s.sk q).pgAt = some at_ →
    at_ ≤ s.ct →
    s.skSt q = 1 →
    (s.sk q).powerCmd = none →
    s.raised .skeinUv q = false →
    MayRaise s .skeinStartFail q →
    ∃ t, exec (.skeinPgTimeout q) s = .next t ∧ t.skSt q = 0 ∧
      t.get (SKN_STATE_state q) = 0 ∧
      t.raised .skeinStartFail q = true ∧
      t.stitches = s.stitches) ∧
  (∀ (s : State) (q : Fin 2048) (mb : Mb) (k : Fin 64) (op : Nat),
    (s.sk q).pgAt = some 0 →
    s.skSt q = 1 →
    (s.sk q).powerCmd = some (mb.val, k.val, op) →
    s.ringFull mb = false →
    (s.mbx mb).cqWait = [] →
    (s.kindCfg .skeinStartFail q).1 < 2 →
    s.raised .skeinUv q = false →
    MayRaise s .skeinStartFail q →
    Tail s mb k →
    ∃ t, exec (.skeinPgTimeout q) s = .next t ∧ t.skSt q = 0 ∧
      Done t mb k (cmdOf s mb k) 9 2 0 ∧
      (t.sk q).powerCmd = none) ∧
  (∀ (s : State) (q : Fin 2048),
    s.ovDue q = true →
    s.skSt q = 2 →
    (s.sk q).powerCmd = none →
    s.swTouched = [] →
    s.seqSt (s.sk q).slot ≠ 2 →
    MayRaise s .skeinOv q →
    ∃ t, exec (.skeinOvTrip q) s = .next t ∧ t.skSt q = 5 ∧
      t.get (SKN_STATE_state q) = 5 ∧
      t.get (SKN_STATE_ov_seen q) = 1 ∧
      (t.sk q).job.intents = [] ∧
      (t.sk q).job.kicks = [] ∧
      t.raised .skeinOv q = true ∧
      t.stitches = s.stitches) ∧
  (∀ (s : State) (q : Fin 2048),
    s.skSt q = 2 ∨ s.skSt q = 4 →
    (s.sk q).lim.uvWin ≤ (s.sk q).job.uvRun →
    0 < (s.sk q).job.uvRun →
    s.railOf q = none →
    s.swTouched = [] →
    MayRaise s .skeinUv q →
    ∃ t, exec (.skeinUv q) s = .next t ∧ t.skSt q = s.skSt q ∧
      t.get (SKN_STATE_uv_seen q) = 1 ∧
      t.raised .skeinUv q = true ∧
      t.stitches = s.stitches) ∧
  (∀ (s : State) (q : Fin 2048),
    s.ilimDue q = true →
    (s.sk q).powerCmd = none →
    s.seqSt (s.sk q).slot ≠ 2 →
    MayRaise s .skeinIlim q →
    ∃ t, exec (.ilimTimeout q) s = .next t ∧ t.skSt q = 5 ∧
      t.get (SKN_STATE_state q) = 5 ∧
      (t.sk q).job.intents = [] ∧
      (t.sk q).job.kicks = [] ∧
      t.raised .skeinIlim q = true ∧
      t.stitches = s.stitches) ∧
  (∀ (s : State) (g : Fin 8192) (q : Nat),
    (s.st g).skein = some q →
    4096 ≤ (s.st g).shareRun →
    s.swTouched = [] →
    MayRaise s .skeinShare q →
    q < 2048 →
    ∃ t, exec (.shareLimitCount g) s = .next t ∧ t.get (SKN_STATE_share_seen q) = 1 ∧
      t.raised .skeinShare q = true ∧
      t.stitches = s.stitches ∧
      t.skeins = s.skeins) ∧
  (∀ (s : State) (q : Fin 2048) (u : Nat),
    (s.sk q).restoreUntil = some u →
    u ≤ s.ct →
    ∃ t, exec (.restoreHoldEnd q) s = .next t ∧ (t.sk q).restoreUntil = none ∧
      t.get (SKN_STATE_restore_hold q) = 0 ∧
      (t.sk q).job = (s.sk q).job ∧
      t.stitches = s.stitches ∧
      t.mem = s.mem) ∧
  (∀ (s : State) (q : Fin 2048) (u : Nat),
    (s.sk q).restoreUntil = some u →
    s.ct < u →
    ∃ t, exec (.restoreHoldEnd q) s = .next t ∧ t = s)

/-- Completion of SKEIN_POWER, SKEIN_SET_LIMITS, SKEIN_SET_TARGET, SKEIN_SET_SHED, SKEIN_QUERY, SKEIN_CLEAR, STITCH_QUERY
and STITCH_CLEAR of a command at its turn that passes its checks. Op 1 on an off skein and op 0 on a regulating one
wait for its next step and stay in flight; op 1 on a latched skein completes with ST_FAULT, info 5; op 2 of a skein
neither starting nor regulating completes with ST_OK; none of these changes the state of the skein. Limits and a shed
order wait for the step. A target is the skein's at once, with its own rate or the default one. A clear of a latched
skein whose last feedback is below ov_thr gives state off; at or above it ST_FAULT with the latch kept. A clear of a
faulted stitch gives controlled and ends its latch; of one in hiccup ST_FAULT. The queries answer the fields of their
tables and change no skein or stitch. (08_skein_regulation.md, 05_workers_and_stitches.md, 22_mailbox_commands.md) -/
def Obligations.SkeinAndStitchCommands : Prop :=
  (∀ (s : State) (mb : Mb) (k : Fin 64),
    Ready s mb k 0x410 →
    NoRung s →
    s.skeinBad mb (u16 (payloadOf s mb k) 0) = false →
    s.ownsPort (s.sk (u16 (payloadOf s mb k) 0)).slot = true →
    u8 (payloadOf s mb k) 2 = 1 →
    (resv (payloadOf s mb k) 3 8).2 = false →
    (s.sk (u16 (payloadOf s mb k) 0)).powerCmd = none →
    s.railOf (u16 (payloadOf s mb k) 0) = none →
    s.railSkeins (s.sk (u16 (payloadOf s mb k) 0)).slot = [] →
    s.seqSt (s.sk (u16 (payloadOf s mb k) 0)).slot = 0 →
    s.skSt (u16 (payloadOf s mb k) 0) = 0 →
    (s.sk (u16 (payloadOf s mb k) 0)).loads = [] →
    (s.sk (u16 (payloadOf s mb k) 0)).engine.isSome = true →
    s.raised .skeinStartFail (u16 (payloadOf s mb k) 0) = false →
    ∃ t, exec (.skeinPower mb k) s = .next t ∧ (t.sk (u16 (payloadOf s mb k) 0)).loads = [(.power 1, none)] ∧
      (t.sk (u16 (payloadOf s mb k) 0)).powerCmd = some (mb.val, k.val, 1) ∧
      t.skSt (u16 (payloadOf s mb k) 0) = 0 ∧
      (cmdOf t mb k).phase = .started ∧
      t.stitches = s.stitches ∧
      t.mem = s.mem) ∧
  (∀ (s : State) (mb : Mb) (k : Fin 64),
    Ready s mb k 0x410 →
    NoRung s →
    s.skeinBad mb (u16 (payloadOf s mb k) 0) = false →
    s.ownsPort (s.sk (u16 (payloadOf s mb k) 0)).slot = true →
    u8 (payloadOf s mb k) 2 = 1 →
    (resv (payloadOf s mb k) 3 8).2 = false →
    (s.sk (u16 (payloadOf s mb k) 0)).powerCmd = none →
    s.seqSt (s.sk (u16 (payloadOf s mb k) 0)).slot = 0 →
    s.skSt (u16 (payloadOf s mb k) 0) = 5 →
    Tail s mb k →
    ∃ t, exec (.skeinPower mb k) s = .next t ∧ Done t mb k (cmdOf s mb k) 9 5 0 ∧
      t.skSt (u16 (payloadOf s mb k) 0) = 5 ∧
      t.stitches = s.stitches) ∧
  (∀ (s : State) (mb : Mb) (k : Fin 64),
    Ready s mb k 0x410 →
    NoRung s →
    s.level_ ≥ 3 →
    s.skeinBad mb (u16 (payloadOf s mb k) 0) = false →
    s.ownsPort (s.sk (u16 (payloadOf s mb k) 0)).slot = true →
    u8 (payloadOf s mb k) 2 = 2 →
    (resv (payloadOf s mb k) 3 8).2 = false →
    (s.sk (u16 (payloadOf s mb k) 0)).powerCmd = none →
    s.seqSt (s.sk (u16 (payloadOf s mb k) 0)).slot = 0 →
    s.skSt (u16 (payloadOf s mb k) 0) ≠ 1 ∧ s.skSt (u16 (payloadOf s mb k) 0) ≠ 2 →
    ∃ t, exec (.skeinPower mb k) s = .next t ∧ Done t mb k (cmdOf s mb k) 0 0 0 ∧
      t.skSt (u16 (payloadOf s mb k) 0) = s.skSt (u16 (payloadOf s mb k) 0) ∧
      t.stitches = s.stitches) ∧
  (∀ (s : State) (mb : Mb) (k : Fin 64),
    Ready s mb k 0x410 →
    NoRung s →
    s.skeinBad mb (u16 (payloadOf s mb k) 0) = false →
    s.ownsPort (s.sk (u16 (payloadOf s mb k) 0)).slot = true →
    u8 (payloadOf s mb k) 2 = 0 →
    (resv (payloadOf s mb k) 3 8).2 = false →
    (s.sk (u16 (payloadOf s mb k) 0)).powerCmd = none →
    s.railOf (u16 (payloadOf s mb k) 0) = none →
    s.seqSt (s.sk (u16 (payloadOf s mb k) 0)).slot = 0 →
    s.skSt (u16 (payloadOf s mb k) 0) = 2 →
    (s.sk (u16 (payloadOf s mb k) 0)).loads = [] →
    (s.sk (u16 (payloadOf s mb k) 0)).engine.isSome = true →
    ∃ t, exec (.skeinPower mb k) s = .next t ∧ (t.sk (u16 (payloadOf s mb k) 0)).loads = [(.power 0, none)] ∧
      (t.sk (u16 (payloadOf s mb k) 0)).powerCmd = some (mb.val, k.val, 0) ∧
      t.skSt (u16 (payloadOf s mb k) 0) = 2 ∧
      (cmdOf t mb k).phase = .started ∧
      t.stitches = s.stitches ∧
      t.mem = s.mem) ∧
  (∀ (s : State) (mb : Mb) (k : Fin 64),
    Ready s mb k 0x411 →
    NoRung s →
    Passes s (limitsChecks s mb (payloadOf s mb k)) →
    (s.sk (u16 (payloadOf s mb k) 0)).engine.isSome = true →
    ∃ t, exec (.skeinSetLimits mb k) s = .next t ∧ (t.sk (u16 (payloadOf s mb k) 0)).loads = (s.sk (u16 (payloadOf s mb k) 0)).loads ++ [(limitsOf (payloadOf s mb k), some (mb.val, k.val))] ∧
      (t.sk (u16 (payloadOf s mb k) 0)).lim = (s.sk (u16 (payloadOf s mb k) 0)).lim ∧
      (cmdOf t mb k).phase = .started ∧
      t.stitches = s.stitches ∧
      t.mem = s.mem) ∧
  (∀ (s : State) (mb : Mb) (k : Fin 64),
    Ready s mb k 0x412 →
    s.level_ ≥ 3 →
    s.skeinBad mb (u16 (payloadOf s mb k) 0) = false →
    s.ownsPort (s.sk (u16 (payloadOf s mb k) 0)).slot = true →
    (resv (payloadOf s mb k) 2 4).2 = false →
    (s.sk (u16 (payloadOf s mb k) 0)).lim.tgtMin ≤ u32 (payloadOf s mb k) 4 ∧ u32 (payloadOf s mb k) 4 ≤ (s.sk (u16 (payloadOf s mb k) 0)).lim.tgtMax →
    u32 (payloadOf s mb k) 8 ≤ 1000000 →
    ∃ t, exec (.skeinSetTarget mb k) s = .next t ∧ (t.sk (u16 (payloadOf s mb k) 0)).target = u32 (payloadOf s mb k) 4 ∧
      (t.sk (u16 (payloadOf s mb k) 0)).slew = (if u32 (payloadOf s mb k) 8 = 0 then (s.sk (u16 (payloadOf s mb k) 0)).lim.slew else u32 (payloadOf s mb k) 8) ∧
      (t.sk (u16 (payloadOf s mb k) 0)).job = (s.sk (u16 (payloadOf s mb k) 0)).job ∧
      Done t mb k (cmdOf s mb k) 0 0 0 ∧
      t.stitches = s.stitches) ∧
  (∀ (s : State) (mb : Mb) (k : Fin 64),
    Ready s mb k 0x413 →
    NoRung s →
    s.skeinBad mb (u16 (payloadOf s mb k) 0) = false →
    s.ownsPort (s.sk (u16 (payloadOf s mb k) 0)).slot = true →
    u8 (payloadOf s mb k) 2 = 1 →
    (s.bound (u16 (payloadOf s mb k) 0)).map (· % 128) = [u8 (payloadOf s mb k) 4] →
    (s.sk (u16 (payloadOf s mb k) 0)).engine.isSome = true →
    ∃ t, exec (.skeinSetShed mb k) s = .next t ∧ (t.sk (u16 (payloadOf s mb k) 0)).loads = (s.sk (u16 (payloadOf s mb k) 0)).loads ++ [(.shed [u8 (payloadOf s mb k) 4], some (mb.val, k.val))] ∧
      (t.sk (u16 (payloadOf s mb k) 0)).order = (s.sk (u16 (payloadOf s mb k) 0)).order ∧
      (cmdOf t mb k).phase = .started ∧
      t.stitches = s.stitches ∧
      t.mem = s.mem) ∧
  (∀ (s : State) (mb : Mb) (k : Fin 64),
    Ready s mb k 0x414 →
    s.skeinBad mb (u16 (payloadOf s mb k) 0) = false →
    ∃ t, exec (.skeinQuery mb k) s = .next t ∧ Done t mb k (cmdOf s mb k) 0 (clampI 0 65535 ((s.sk (u16 (payloadOf s mb k) 0)).lastFb.getD 0)).toNat (s.skSt (u16 (payloadOf s mb k) 0) + (s.sk (u16 (payloadOf s mb k) 0)).job.count * 2 ^ 3 + (s.sk (u16 (payloadOf s mb k) 0)).job.region * 2 ^ 11 + (s.sk (u16 (payloadOf s mb k) 0)).restoreUntil.isSome.toNat * 2 ^ 14 + (decide (s.skSt (u16 (payloadOf s mb k) 0) = 4)).toNat * 2 ^ 15 + Nat.min (divRound (s.sk (u16 (payloadOf s mb k) 0)).job.refQ16 65536).toNat 65535 * 2 ^ 16 + Nat.min (s.sk (u16 (payloadOf s mb k) 0)).target 65535 * 2 ^ 32 + (s.healthy (u16 (payloadOf s mb k) 0)).length * 2 ^ 48) ∧
      t.skeins = s.skeins ∧
      t.stitches = s.stitches) ∧
  (∀ (s : State) (mb : Mb) (k : Fin 64) (v : Int),
    Ready s mb k 0x415 →
    NoRung s →
    s.skeinBad mb (u16 (payloadOf s mb k) 0) = false →
    s.ownsPort (s.sk (u16 (payloadOf s mb k) 0)).slot = true →
    s.skSt (u16 (payloadOf s mb k) 0) = 5 →
    (s.sk (u16 (payloadOf s mb k) 0)).lastFb = some v →
    v * 65536 < (s.sk (u16 (payloadOf s mb k) 0)).ovThr →
    ∃ t, exec (.skeinClear mb k) s = .next t ∧ t.skSt (u16 (payloadOf s mb k) 0) = 0 ∧
      t.get (SKN_STATE_state (u16 (payloadOf s mb k) 0)) = 0 ∧
      Done t mb k (cmdOf s mb k) 0 0 0 ∧
      t.stitches = s.stitches) ∧
  (∀ (s : State) (mb : Mb) (k : Fin 64) (v : Int),
    Ready s mb k 0x415 →
    NoRung s →
    s.skeinBad mb (u16 (payloadOf s mb k) 0) = false →
    s.ownsPort (s.sk (u16 (payloadOf s mb k) 0)).slot = true →
    s.skSt (u16 (payloadOf s mb k) 0) = 5 →
    (s.sk (u16 (payloadOf s mb k) 0)).lastFb = some v →
    (s.sk (u16 (payloadOf s mb k) 0)).ovThr ≤ v * 65536 →
    Tail s mb k →
    ∃ t, exec (.skeinClear mb k) s = .next t ∧ t.skSt (u16 (payloadOf s mb k) 0) = 5 ∧
      Done t mb k (cmdOf s mb k) 9 0 0 ∧
      t.skeins = s.skeins ∧
      t.stitches = s.stitches) ∧
  (∀ (s : State) (mb : Mb) (k : Fin 64),
    Ready s mb k 0x501 →
    s.stitchBad mb (u16 (payloadOf s mb k) 0) = false →
    ∃ t, exec (.stitchQuery mb k) s = .next t ∧ Done t mb k (cmdOf s mb k) 0 0 ((s.st (u16 (payloadOf s mb k) 0)).state + (s.st (u16 (payloadOf s mb k) 0)).hub * 2 ^ 8 + s.shownDuty (u16 (payloadOf s mb k) 0) % 65536 * 2 ^ 16 + Nat.min (s.st (u16 (payloadOf s mb k) 0)).late (2 ^ 32 - 1) * 2 ^ 32) ∧
      t.stitches = s.stitches ∧
      t.skeins = s.skeins) ∧
  (∀ (s : State) (mb : Mb) (k : Fin 64),
    Ready s mb k 0x502 →
    NoRung s →
    s.stitchBad mb (u16 (payloadOf s mb k) 0) = false →
    s.ownsPort ((u16 (payloadOf s mb k) 0) / 128) = true →
    (s.st (u16 (payloadOf s mb k) 0)).hiccup = false →
    (s.st (u16 (payloadOf s mb k) 0)).state = 5 →
    ∃ t, exec (.stitchClear mb k) s = .next t ∧ (t.st (u16 (payloadOf s mb k) 0)).state = 2 ∧
      (t.st (u16 (payloadOf s mb k) 0)).latched = false ∧
      t.get (STITCH_STATE_state ((u16 (payloadOf s mb k) 0) / 128) ((u16 (payloadOf s mb k) 0) % 128)) = 2 ∧
      Done t mb k (cmdOf s mb k) 0 0 0 ∧
      t.skeins = s.skeins) ∧
  (∀ (s : State) (mb : Mb) (k : Fin 64),
    Ready s mb k 0x502 →
    NoRung s →
    s.stitchBad mb (u16 (payloadOf s mb k) 0) = false →
    s.ownsPort ((u16 (payloadOf s mb k) 0) / 128) = true →
    (s.st (u16 (payloadOf s mb k) 0)).hiccup = true →
    Tail s mb k →
    ∃ t, exec (.stitchClear mb k) s = .next t ∧ Done t mb k (cmdOf s mb k) 9 0 0 ∧
      t.stitches = s.stitches ∧
      t.skeins = s.skeins)

/-- Completion of ARB_GRANT, ARB_EXPIRE, LOCK_DROP and ARB_POST_RETRY. On a port that is Up a free cell slot grants the
one eligible cell, which leaves the queue, is noted as the last grant of its stitch and counted, and enters the PHY on
the owner or is discarded and counted on a unit that does not own the port; of a locked sequence of two it grants the
cell of the lower stitch and notes the sequence as in progress; with no COMMAND cell a waiting reliable cell takes it,
and an OWNER_CLAIM with effect on receipt comes before a queued COMMAND cell. A port that is not Up, or without a free
slot, changes nothing. An entry whose deadline is earlier than the cycle is removed, counted, sets expired_seen and
raises ARB_DEADLINE; one whose deadline is the cycle stays. A sequence whose deadline has passed is dropped whole and
counted once. A held cell that finds room is queued. (09_command_arbiter.md, 04_fliral_link.md, 16_controller_pair.md) -/
def Obligations.ArbiterGrantsByDeadline : Prop :=
  (∀ (s : State) (p : Fin 64) (c : CmdCell),
    NoRung s →
    s.get (PORT_STATUS_link_state p) = 3 →
    (s.port p).queue = [c] →
    (s.port p).held = [] →
    (s.port p).granting = none →
    c.lock = none →
    s.ct ≤ c.deadline →
    (s.port p).claim = none →
    (s.port p).yieldAt = none →
    s.slotNow p = true →
    s.swTouched = [] →
    s.ownsPort p = true →
    ∃ t, exec (.arbGrant p) s = .next t ∧ (t.port p).queue = [] ∧
      Tbl.find? (t.port p).lastGrant c.stitch = some c.cycle ∧
      Counted s t (ARB_CNT_GRANT_v p) ∧
      t.get (ARB_STATUS_depth p) = 0 ∧
      t.out = s.out ++ [.command p c.stitch c.cycle c.duty c.mode c.res c.hold c.period c.nextOffset c.target] ∧
      t.skeins = s.skeins ∧
      t.mem = s.mem) ∧
  (∀ (s : State) (p : Fin 64) (c : CmdCell),
    NoRung s →
    s.get (PORT_STATUS_link_state p) = 3 →
    (s.port p).queue = [c] →
    (s.port p).held = [] →
    (s.port p).granting = none →
    c.lock = none →
    s.ct ≤ c.deadline →
    (s.port p).claim = none →
    (s.port p).yieldAt = none →
    s.slotNow p = true →
    s.swTouched = [] →
    s.ownsPort p = false →
    (s.port p).rel.backlog = [] →
    (s.port p).rel.again = [] →
    ∃ t, exec (.arbGrant p) s = .next t ∧ (t.port p).queue = [] ∧
      Tbl.find? (t.port p).lastGrant c.stitch = some c.cycle ∧
      Counted s t (ARB_CNT_GRANT_v p) ∧
      Counted s t (ARB_CNT_SUPPRESSED_v p) ∧
      t.out = s.out ∧
      t.skeins = s.skeins ∧
      t.mem = s.mem) ∧
  (∀ (s : State) (p : Fin 64) (c d : CmdCell) (l : Nat × Nat),
    NoRung s →
    s.get (PORT_STATUS_link_state p) = 3 →
    s.slotNow p = true →
    (s.port p).queue = [c, d] →
    (s.port p).held = [] →
    (s.port p).granting = none →
    c.lock = some l →
    d.lock = some l →
    c.stitch < d.stitch →
    s.ct ≤ c.deadline →
    s.ct ≤ d.deadline →
    s.mustDrop p l = false →
    (s.port p).claim = none →
    (s.port p).yieldAt = none →
    s.ownsPort p = true →
    s.swTouched = [] →
    ∃ t, exec (.arbGrant p) s = .next t ∧ (t.port p).queue = [d] ∧
      (t.port p).granting = some l ∧
      Counted s t (ARB_CNT_LOCK_v p) ∧
      t.out = s.out ++ [.command p c.stitch c.cycle c.duty c.mode c.res c.hold c.period c.nextOffset c.target]) ∧
  (∀ (s : State) (p : Fin 64) (code det : Nat),
    NoRung s →
    s.get (PORT_STATUS_link_state p) = 3 →
    s.slotFree (.port p) = true →
    (s.port p).queue = [] →
    (s.port p).held = [] →
    (s.port p).granting = none →
    (s.port p).rel.backlog = [(0, .event (.port p) code det)] →
    (s.port p).rel.again = [] →
    (s.port p).rel.mayStart = true →
    ∃ t, exec (.arbGrant p) s = .next t ∧ t.out = s.out ++ [.event (.port p) code det] ∧
      (t.port p).rel.backlog = [] ∧
      (t.port p).rel.unacked = (s.port p).rel.unacked ++ [⟨(s.port p).rel.txNext, s.ct, 0, 0, .event (.port p) code det⟩] ∧
      t.regs = s.regs ∧
      t.mem = s.mem) ∧
  (∀ (s : State) (p : Fin 64) (c : CmdCell) (n det : Nat),
    NoRung s →
    s.get (PORT_STATUS_link_state p) = 3 →
    s.slotNow p = true →
    (s.port p).queue = [c] →
    (s.port p).held = [] →
    (s.port p).granting = none →
    c.lock = none →
    s.ct ≤ c.deadline →
    (s.port p).claim = some (n, 0) →
    (s.port p).rel.backlog = [(1, .event (.port p) 0x400 det)] →
    (s.port p).rel.again = [] →
    (s.port p).rel.mayStart = true →
    ∃ t, exec (.arbGrant p) s = .next t ∧ t.out = s.out ++ [.event (.port p) 0x400 det] ∧
      (t.port p).rel.backlog = [] ∧
      (t.port p).queue = [c] ∧
      t.regs = s.regs ∧
      t.mem = s.mem) ∧
  (∀ (s : State) (p : Fin 64),
    s.get (PORT_STATUS_link_state p) ≠ 3 ∨ s.slotNow p = false →
    ∃ t, exec (.arbGrant p) s = .next t ∧ t = s) ∧
  (∀ (s : State) (p : Fin 64) (c : CmdCell),
    (s.port p).queue = [c] →
    (s.port p).held = [] →
    c.lock = none →
    c.deadline < s.ct →
    s.swTouched = [] →
    (s.port p).granting = none →
    MayRaise s .arbDeadline p →
    ∃ t, exec (.arbExpire p) s = .next t ∧ (t.port p).queue = [] ∧
      Counted s t (ARB_CNT_EXPIRED_v p) ∧
      t.get (ARB_STATUS_expired_seen p) = 1 ∧
      t.get (ARB_STATUS_depth p) = 0 ∧
      t.raised .arbDeadline p = true ∧
      t.stitches = s.stitches ∧
      t.skeins = s.skeins) ∧
  (∀ (s : State) (p : Fin 64) (c : CmdCell),
    NoRung s →
    (s.port p).queue = [c] →
    (s.port p).held = [] →
    c.lock = none →
    s.ct ≤ c.deadline →
    ∃ t, exec (.arbExpire p) s = .next t ∧ (t.port p).queue = [c] ∧
      t.regs = s.regs ∧
      t.mem = s.mem) ∧
  (∀ (s : State) (p : Fin 64) (c d : CmdCell) (l : Nat × Nat),
    (s.port p).queue = [c, d] →
    (s.port p).held = [] →
    c.lock = some l →
    d.lock = some l →
    (s.port p).granting = none →
    c.deadline < s.ct →
    s.swTouched = [] →
    MayRaise s .arbDeadline p →
    ∃ t, exec (.lockDrop p) s = .next t ∧ (t.port p).queue = [] ∧
      Counted s t (ARB_CNT_LOCK_DROP_v p) ∧
      t.get (ARB_STATUS_lock_drop_seen p) = 1 ∧
      t.get (ARB_STATUS_depth p) = 0 ∧
      t.raised .arbDeadline p = true ∧
      t.stitches = s.stitches ∧
      t.skeins = s.skeins) ∧
  (∀ (s : State) (p : Fin 64),
    NoRung s →
    (s.port p).queue = [] →
    (s.port p).held = [] →
    ∃ t, exec (.lockDrop p) s = .next t ∧ t = s) ∧
  (∀ (s : State) (e : Fin 128) (p : Nat) (c : CmdCell),
    NoRung s →
    p / 16 = e.val / 32 →
    p < 64 →
    c.engine = e.val →
    (s.port p).held = [c] →
    (s.port p).queue = [] →
    ∀ i : Fin 16, 16 * (e.val / 32) + i.val = p ∨ ((s.port (16 * (e.val / 32) + i.val)).held = [] ∧ (s.port (16 * (e.val / 32) + i.val)).queue = []) →
    s.is (ARB_MASK_bit p (e.val % 32)) = false →
    c.lock = none →
    Tbl.find? (s.port p).lastGrant c.stitch ≠ some c.cycle →
    ∃ t, exec (.arbPostRetry e) s = .next t ∧ (t.port p).held = [] ∧
      (t.port p).queue = [{ c with postAt := s.ct }] ∧
      t.get (ARB_STATUS_depth p) = 1 ∧
      t.stitches = s.stitches ∧
      t.skeins = s.skeins ∧
      t.mem = s.mem)

/-- Completion of TELEMETRY_ROUND, SMBALERT, AC_OK_FILTER_EXPIRE, AC_OK_RESTORE, RECT_START_TIMEOUT, RECT_DRAIN_TIMEOUT,
EMERGENCY_ADD, BUS_V_UPDATE and BUS_LIMIT_TIMER, where hold-up is active or its causes cannot act. A round queues the
poll of the one rectifier that is off, starting, online or draining. An alert of a GPIO of one rectifier is recorded
and its STATUS_WORD read goes behind the transaction that runs. AC_OK deasserted for its filter gives AC lost;
asserted again, offline. A start not done in its time gives failed with RECT_FAIL. A drain not done in 500 ms gives
online with the trim of before and VOUT_COMMAND written. An emergency add starts an offline rectifier while the
capacity falls short and sets its flag. The bus voltage is that of the one valid input. 100 us above bus_ov sets
ov_seen and raises BUS_OV, 100 us below bus_uv uv_seen and BUS_UV; a shorter time changes nothing.
(10_shelf_energy.md, 11_holdup_and_battery.md) -/
def Obligations.RectifiersFollowTheirTransitions : Prop :=
  (∀ (s : State) (r : Nat),
    s.shelfOn = true →
    s.onlineRects = [] →
    s.rectsIn (fun v => decide (1 ≤ v ∧ v ≤ 4)) = [r] →
    ∃ t, exec (.telemetryRound) s = .next t ∧ (t.tw (s.rect r).tw).jobs = (s.tw (s.rect r).tw).jobs ++ pollCodes.map (fun c => (r, c, 0)) ∧
      (t.rect r).polled = false ∧
      (t.rect r).state = (s.rect r).state ∧
      t.regs = s.regs ∧
      t.mem = s.mem) ∧
  (∀ (s : State) (g : Fin 64) (r : Nat),
    s.shelfOn = true →
    (s.rects.filter (fun (x : Nat × Rect) => decide (x.2.state ≠ 0 ∧ x.2.alertGpio = g.val))).map (·.1) = [r] →
    r < 48 →
    ∃ t, exec (.smbalert g) s = .next t ∧ t.get (RECT_ALERT_bit r) = 1 ∧
      (t.tw (s.rect r).tw).jobs = (s.tw (s.rect r).tw).jobs.take 1 ++ [(r, 0x79, 1)] ++ (s.tw (s.rect r).tw).jobs.drop 1 ∧
      t.rects = s.rects ∧
      t.mem = s.mem) ∧
  (∀ (s : State) (r : Fin 48),
    NoRung s →
    (s.rect r).state ≠ 0 ∧ (s.rect r).state ≠ 5 ∧ (s.rect r).state ≠ 7 →
    (s.rect r).ctrlFor = none →
    s.get HU_STATUS_state = 1 ∨ s.shelfOn = false →
    ∃ t, exec (.acOkFilterExpire r) s = .next t ∧ (t.rect r).state = 5 ∧
      t.get (RECT_STATE_state r) = 5 ∧
      (t.rect r).acOk = false ∧
      t.stitches = s.stitches ∧
      t.mem = s.mem) ∧
  (∀ (s : State) (r : Fin 48),
    (s.rect r).state = 5 →
    ∃ t, exec (.acOkRestore r) s = .next t ∧ (t.rect r).state = 1 ∧
      t.get (RECT_STATE_state r) = 1 ∧
      (t.rect r).acOk = true ∧
      t.stitches = s.stitches ∧
      t.mem = s.mem) ∧
  (∀ (s : State) (r : Fin 48),
    (s.rect r).state = 2 →
    (s.rect r).startAt + ms s.pattern.tStartMs ≤ s.ct →
    (s.rect r).ctrlFor = none →
    s.get HU_STATUS_state = 1 ∨ s.shelfOn = false →
    MayRaise s .rectFail r →
    ∃ t, exec (.rectStartTimeout r) s = .next t ∧ (t.rect r).state = 6 ∧
      t.get (RECT_STATE_state r) = 6 ∧
      t.raised .rectFail r = true ∧
      t.stitches = s.stitches) ∧
  (∀ (s : State) (r : Fin 48),
    (s.rect r).state = 4 →
    (s.rect r).drainAt + ms 500 ≤ s.ct →
    (s.rect r).ctrlFor = none →
    s.is (RECT_STATE_lost r) = false →
    ∃ t, exec (.rectDrainTimeout r) s = .next t ∧ (t.rect r).state = 3 ∧
      t.get (RECT_STATE_state r) = 3 ∧
      (t.rect r).trim = (s.rect r).trimWas ∧
      t.out = s.out ++ [.pmbus (s.rect r).tw (s.rect r).addr 0x21 (voutRaw (s.rect r).voutExp ((s.get BUS_SETPOINT_setpoint_mv : Int) + (s.rect r).trimWas))] ∧
      t.stitches = s.stitches ∧
      t.mem = s.mem) ∧
  (∀ (s : State) (r : Nat),
    s.shelfOn = true →
    s.shelf.emergencyWas = true →
    s.eph = [] →
    s.rectsIn (fun v => decide (v = 4)) = [] →
    s.rectsIn (fun v => decide (v = 1)) = [r] →
    s.capEnough (s.rectsIn (fun v => decide (v = 2 ∨ v = 3 ∨ v = 4))) = false →
    ∃ t, exec (.emergencyAdd) s = .next t ∧ (t.rect r).state = 2 ∧
      t.get OPT_STATUS_emergency = 1 ∧
      t.shelf.emergencyWas = false ∧
      t.out = s.out ++ [.pmbus (s.rect r).tw (s.rect r).addr 0x01 0x80] ∧
      t.stitches = s.stitches ∧
      t.mem = s.mem) ∧
  (∀ (s : State) (v : Int),
    Runs s →
    NoRung s →
    s.active = true →
    s.busInputs.filterMap id = [v] →
    s.get HU_STATUS_state = 1 ∨ s.shelfOn = false →
    ∃ t, exec (.busVUpdate) s = .next t ∧ t.get BUS_V_bus_mv = toField 32 v ∧
      t.stitches = s.stitches ∧
      t.skeins = s.skeins ∧
      t.rects = s.rects ∧
      t.mem = s.mem) ∧
  (∀ (s : State) (u : Nat),
    s.shelf.ovSince = some u →
    u + us 100 ≤ s.ct →
    MayRaise s .busOv 0 →
    ∃ t, exec (.busLimitTimer true) s = .next t ∧ t.get BUS_STATUS_ov_seen = 1 ∧
      t.raised .busOv 0 = true ∧
      t.rects = s.rects ∧
      t.stitches = s.stitches) ∧
  (∀ (s : State) (u : Nat),
    s.shelf.uvSince = some u →
    u + us 100 ≤ s.ct →
    MayRaise s .busUv 0 →
    s.get HU_STATUS_state = 0 →
    ∃ t, exec (.busLimitTimer false) s = .next t ∧ t.get BUS_STATUS_uv_seen = 1 ∧
      t.raised .busUv 0 = true ∧
      t.rects = s.rects ∧
      t.stitches = s.stitches) ∧
  (∀ (s : State) (u : Nat),
    s.shelf.ovSince = some u →
    s.ct < u + us 100 →
    ∃ t, exec (.busLimitTimer true) s = .next t ∧ t = s)

/-- Completion of OPT_TICK, OPT_PROBE, RECT_QUERY, RECT_CTRL, OPT_CTRL, OPT_SKEIN_POLICY and ENERGY_READ of commands at
their turn that pass their checks. A tick that is due counts and sets the next one 10 ms on, 100 ms in shed stage 2
and above; one that is not due changes nothing. A probe of a skein without a usable fit for 60 s, where limits allow,
enters a constellation that lowers its count by one and starts its dwell, the count in force unchanged. A query gives
state, comm_lost, output, trim and temperature. Op 2 includes an excluded rectifier, op 1 drains an online one, op 0
reads STATUS_WORD of a failed one, the latter two staying in flight. Settings, run and pause are taken, a run with the
freeze condition as frozen. A policy of a skein without engine sets its flags and rate list. The energy counter of a
component is read with the tick count: from a VI its own, from the AF that of the holder named. (10_shelf_energy.md,
22_mailbox_commands.md) -/
def Obligations.OptimiserAndShelfCommands : Prop :=
  (∀ (s : State),
    s.shelfOn = true →
    s.shelf.tickAt ≤ s.ct →
    ∃ t, exec (.optTick) s = .next t ∧ t.shelf.ticks = s.shelf.ticks + 1 ∧
      t.shelf.tickAt = s.ct + (if 2 ≤ s.get THM_STATUS_stage then ms 100 else ms 10) ∧
      t.stitches.map (·.1) = s.stitches.map (·.1)) ∧
  (∀ (s : State),
    s.ct < s.shelf.tickAt →
    ∃ t, exec (.optTick) s = .next t ∧ t = s) ∧
  (∀ (s : State) (q : Fin 2048) (u i : Nat),
    s.shelfOn = true →
    s.get OPT_STATUS_state = 1 →
    (s.sk q).optCount = true →
    (s.sk q).unusableSince = some u →
    u + sec 60 ≤ s.ct →
    (s.sk q).settle = 0 →
    s.shelf.busSettle = 0 →
    (s.sk q).dwellUntil ≤ s.ct →
    (s.sk q).probeAt = 0 →
    (s.sk q).lim.nMin < (s.sk q).job.count →
    s.countAllowed q ((s.sk q).job.count - 1) = true →
    s.ephRoom fwIssuer = true →
    s.ephFree 4096 (s.ephLast + 1) = some i →
    ∃ t, exec (.optProbe q) s = .next t ∧ (t.sk q).probeAt = s.ct ∧
      (t.sk q).dwellUntil = s.ct + ms 100 ∧
      (t.sk q).settle = 3 ∧
      (t.sk q).job = (s.sk q).job ∧
      (t.ephE i).st = .pending ∧
      (t.ephE i).acts = [.count q ((s.sk q).job.count - 1)] ∧
      (t.ephE i).trig = .time (s.ct + ms 1) ∧
      t.stitches = s.stitches ∧
      t.mem = s.mem) ∧
  (∀ (s : State) (mb : Mb) (k : Fin 64),
    Ready s mb k 0x801 →
    (u8 (payloadOf s mb k) 0) < 48 →
    ∃ t, exec (.rectQuery mb k) s = .next t ∧ Done t mb k (cmdOf s mb k) 0 ((s.rect (u8 (payloadOf s mb k) 0)).state + 8 * s.get (RECT_STATE_lost (u8 (payloadOf s mb k) 0))) (toField 32 (s.rect (u8 (payloadOf s mb k) 0)).poutMw + toField 16 (s.rect (u8 (payloadOf s mb k) 0)).trim * 2 ^ 32 + toField 16 (s.rect (u8 (payloadOf s mb k) 0)).temp * 2 ^ 48) ∧
      t.rects = s.rects ∧
      t.stitches = s.stitches) ∧
  (∀ (s : State) (mb : Mb) (k : Fin 64),
    Ready s mb k 0x802 →
    (u8 (payloadOf s mb k) 0) < 48 →
    u8 (payloadOf s mb k) 1 = 2 →
    (s.rect (u8 (payloadOf s mb k) 0)).state = 7 →
    ∃ t, exec (.rectCtrl mb k) s = .next t ∧ (t.rect (u8 (payloadOf s mb k) 0)).state = 1 ∧
      t.get (RECT_STATE_state (u8 (payloadOf s mb k) 0)) = 1 ∧
      Done t mb k (cmdOf s mb k) 0 0 0 ∧
      t.stitches = s.stitches) ∧
  (∀ (s : State) (mb : Mb) (k : Fin 64),
    Ready s mb k 0x802 →
    (u8 (payloadOf s mb k) 0) < 48 →
    u8 (payloadOf s mb k) 1 = 1 →
    (s.rect (u8 (payloadOf s mb k) 0)).state = 3 →
    s.mayRemove (u8 (payloadOf s mb k) 0) = true →
    ∃ t, exec (.rectCtrl mb k) s = .next t ∧ (t.rect (u8 (payloadOf s mb k) 0)).state = 4 ∧
      (t.rect (u8 (payloadOf s mb k) 0)).exclude = true ∧
      (t.rect (u8 (payloadOf s mb k) 0)).trim = -s.shelf.trimLim ∧
      (t.rect (u8 (payloadOf s mb k) 0)).ctrlFor = some (mb.val, k.val) ∧
      (cmdOf t mb k).phase = .started) ∧
  (∀ (s : State) (mb : Mb) (k : Fin 64),
    Ready s mb k 0x802 →
    (u8 (payloadOf s mb k) 0) < 48 →
    u8 (payloadOf s mb k) 1 = 0 →
    (s.rect (u8 (payloadOf s mb k) 0)).state = 6 →
    (s.rect (u8 (payloadOf s mb k) 0)).ctrlFor = none →
    ∃ t, exec (.rectCtrl mb k) s = .next t ∧ (t.rect (u8 (payloadOf s mb k) 0)).state = 6 ∧
      (t.tw (s.rect (u8 (payloadOf s mb k) 0)).tw).jobs = (s.tw (s.rect (u8 (payloadOf s mb k) 0)).tw).jobs ++ [((u8 (payloadOf s mb k) 0), 0x79, 4)] ∧
      (cmdOf t mb k).phase = .started) ∧
  (∀ (s : State) (mb : Mb) (k : Fin 64),
    Ready s mb k 0x810 →
    Passes s (optChecks (payloadOf s mb k)) →
    (u8 (payloadOf s mb k) 0).testBit 0 = true →
    ∃ t, exec (.optCtrl mb k) s = .next t ∧ t.shelf.nRed = u8 (payloadOf s mb k) 1 ∧
      (t.shelf.busMin = u32 (payloadOf s mb k) 4 ∧ t.shelf.busMax = u32 (payloadOf s mb k) 8) ∧
      (t.shelf.busOv = u32 (payloadOf s mb k) 16 ∧ t.shelf.busUv = u32 (payloadOf s mb k) 20) ∧
      t.get OPT_STATUS_state = (if s.optFrozen then 2 else 1) ∧
      Done t mb k (cmdOf s mb k) 0 0 0 ∧
      t.stitches = s.stitches) ∧
  (∀ (s : State) (mb : Mb) (k : Fin 64),
    Ready s mb k 0x810 →
    Passes s (optChecks (payloadOf s mb k)) →
    (u8 (payloadOf s mb k) 0).testBit 0 = false →
    s.eph = [] →
    ∃ t, exec (.optCtrl mb k) s = .next t ∧ t.get OPT_STATUS_state = 3 ∧
      t.shelf.nRed = u8 (payloadOf s mb k) 1 ∧
      Done t mb k (cmdOf s mb k) 0 0 0 ∧
      t.stitches = s.stitches) ∧
  (∀ (s : State) (mb : Mb) (k : Fin 64),
    Ready s mb k 0x811 →
    Passes s (policyChecks s mb (payloadOf s mb k)) →
    (s.sk (u16 (payloadOf s mb k) 0)).engine = none →
    ∃ t, exec (.optSkeinPolicy mb k) s = .next t ∧ (t.sk (u16 (payloadOf s mb k) 0)).optCount = (u8 (payloadOf s mb k) 2).testBit 0 ∧
      (t.sk (u16 (payloadOf s mb k) 0)).optRate = (u8 (payloadOf s mb k) 2).testBit 1 ∧
      (t.sk (u16 (payloadOf s mb k) 0)).rates = policyRates (payloadOf s mb k) ∧
      (t.sk (u16 (payloadOf s mb k) 0)).job = (s.sk (u16 (payloadOf s mb k) 0)).job ∧
      Done t mb k (cmdOf s mb k) 0 0 0 ∧
      t.stitches = s.stitches) ∧
  (∀ (s : State) (mb : Mb) (k : Fin 64),
    Ready s mb k 0x820 →
    mb.val ≠ 256 →
    u8 (payloadOf s mb k) 2 ≤ 4 →
    ∃ t, exec (.energyRead mb k) s = .next t ∧ Done t mb k (cmdOf s mb k) 0 (s.shelf.ticks % 65536) (Tbl.get s.shelf.energy (8 * mb.val + u8 (payloadOf s mb k) 2) 0) ∧
      t.shelf = s.shelf) ∧
  (∀ (s : State) (mb : Mb) (k : Fin 64),
    Ready s mb k 0x820 →
    mb.val = 256 →
    (u16 (payloadOf s mb k) 0) ≤ 256 →
    u8 (payloadOf s mb k) 2 ≤ 4 →
    ∃ t, exec (.energyRead mb k) s = .next t ∧ Done t mb k (cmdOf s mb k) 0 (s.shelf.ticks % 65536) (Tbl.get s.shelf.energy (8 * (u16 (payloadOf s mb k) 0) + u8 (payloadOf s mb k) 2) 0) ∧
      t.shelf = s.shelf)

/-- Completion of BUS_SAG_TIMER, HOLDUP_BUDGET, HOLDUP_EXHAUSTED, HOLDUP_RETURN, HOLDUP_NORMAL, HOLDUP_QUERY and
HOLDUP_CTRL. Causes that hold in normal enter hold-up with them, entry_seen, PFW_N driven, every string in active
mode, the optimiser frozen and HU_ENTRY raised; without a cause nothing changes. With no string the budget allows what
the rectifiers give and the next one is 10 ms on; before it is due nothing changes. 1 ms at the shutdown voltage gives
exhausted, HU_EXHAUSTED and the chassis shutdown. The return conditions give returning, and a cause that holds in that
cycle keeps it active with the stable time started again. A settled second gives normal with PFW_N released and
HU_ENTRY gone. The query gives the fields of its table. Settings are held with ST_OK and are in force from the next
budget that is due. (11_holdup_and_battery.md, 22_mailbox_commands.md) -/
def Obligations.HoldupEntersAndReturns : Prop :=
  (∀ (s : State) (c : Nat),
    s.shelfOn = true →
    s.get HU_STATUS_state = 0 →
    s.holdupCauses = c →
    c ≠ 0 →
    ∀ i ∈ s.strIds, i < 16 →
    MayRaise s .huEntry 0 →
    ∃ t, exec (.busSagTimer) s = .next t ∧ t.get HU_STATUS_state = 1 ∧
      t.get HU_STATUS_cause = c ∧
      t.get HU_STATUS_entry_seen = 1 ∧
      t.get HU_STATUS_pfw = 1 ∧
      t.get OPT_STATUS_state = 2 ∧
      (∀ i ∈ s.strIds, t.get (BAT_STATE_mode i) = 0) ∧
      t.raised .huEntry 0 = true ∧
      t.shelf.enteredAt = s.ct) ∧
  (∀ (s : State),
    NoRung s →
    s.holdupCauses = 0 →
    ∃ t, exec (.busSagTimer) s = .next t ∧ t = s) ∧
  (∀ (s : State),
    NoRung s →
    s.shelfOn = true →
    s.shelf.budgetAt ≤ s.ct →
    s.get HU_STATUS_state = 0 →
    s.strIds = [] →
    s.shelf.pLoad ≠ 0 →
    s.pRect < 2 ^ 32 →
    s.get BATT_CHASSIS_level = 0 →
    ∃ t, exec (.holdupBudget) s = .next t ∧ t.get HU_ALLOW_v = s.pRect ∧
      t.get HU_RIDE_v = 0 ∧
      t.shelf.budgetAt = s.ct + ms 10 ∧
      t.stitches = s.stitches ∧
      t.mem = s.mem) ∧
  (∀ (s : State) (b : List Byte),
    Mild s [.battLevel] →
    s.shelfOn = true →
    s.shelf.budgetAt ≤ s.ct →
    s.shelf.huNext = some b →
    ∃ t, exec (.holdupBudget) s = .next t ∧ t.shelf.vShut = u32 b 0 ∧
      (t.shelf.targetS = u16 b 4 ∧ t.shelf.sag = u16 b 6) ∧
      (t.shelf.stableMs = u32 b 8 ∧ t.shelf.minMs = u32 b 12) ∧
      (t.shelf.warn = u16 b 16 ∧ t.shelf.low = u16 b 18 ∧ t.shelf.crit = u16 b 20) ∧
      (t.shelf.chgMin = i16 b 22 ∧ t.shelf.chgMax = i16 b 24) ∧
      t.shelf.huNext = none) ∧
  (∀ (s : State),
    s.ct < s.shelf.budgetAt →
    ∃ t, exec (.holdupBudget) s = .next t ∧ t = s) ∧
  (∀ (s : State) (u : Nat),
    s.shelfOn = true →
    s.get HU_STATUS_state = 1 →
    s.shelf.shutSince = some u →
    u + ms 1 ≤ s.ct →
    s.get CHASSIS_PWR_state = 0 →
    ∀ n : Fin 64, s.seqSt n = 0 ∧ s.slSt n ≤ 1 →
    MayRaise s .huExhausted 0 →
    ∃ t, exec (.holdupExhausted) s = .next t ∧ t.get HU_STATUS_state = 3 ∧
      t.get HU_STATUS_exhausted_seen = 1 ∧
      t.raised .huExhausted 0 = true ∧
      t.get CHASSIS_PWR_state = 2 ∧
      t.skeins = s.skeins) ∧
  (∀ (s : State) (u : Nat),
    s.shelfOn = true →
    s.get HU_STATUS_state = 1 →
    s.get HU_STATUS_phase_lost = 0 →
    s.shelf.coverSince = some u →
    u + ms s.shelf.stableMs ≤ s.ct →
    s.shelf.enteredAt + ms s.shelf.minMs ≤ s.ct →
    s.holdupCauses = 0 →
    s.shelf.applied = [] →
    s.shelf.posted = [] →
    ∃ t, exec (.holdupReturn) s = .next t ∧ t.get HU_STATUS_state = 2 ∧
      t.get HU_STATUS_pfw = s.get HU_STATUS_pfw ∧
      t.shelf.settledSince = none ∧
      t.eph = s.eph ∧
      t.mem = s.mem) ∧
  (∀ (s : State) (u : Nat),
    s.shelfOn = true →
    s.get HU_STATUS_state = 1 →
    s.get HU_STATUS_phase_lost = 0 →
    s.shelf.coverSince = some u →
    u + ms s.shelf.stableMs ≤ s.ct →
    s.shelf.enteredAt + ms s.shelf.minMs ≤ s.ct →
    s.holdupCauses ≠ 0 →
    ∃ t, exec (.holdupReturn) s = .next t ∧ t.get HU_STATUS_state = 1 ∧
      t.shelf.coverSince = some s.ct ∧
      t.regs = s.regs ∧
      t.eph = s.eph ∧
      t.mem = s.mem) ∧
  (∀ (s : State) (u : Nat),
    s.shelfOn = true →
    s.get HU_STATUS_state = 2 →
    s.shelf.settledSince = some u →
    u + sec 1 ≤ s.ct →
    s.liveSlots = [] →
    ∃ t, exec (.holdupNormal) s = .next t ∧ t.get HU_STATUS_state = 0 ∧
      t.get HU_STATUS_pfw = 0 ∧
      t.raised .huEntry 0 = false ∧
      t.stitches = s.stitches ∧
      t.mem = s.mem) ∧
  (∀ (s : State) (mb : Mb) (k : Fin 64),
    Ready s mb k 0x901 →
    ∃ t, exec (.holdupQuery mb k) s = .next t ∧ Done t mb k (cmdOf s mb k) 0 (s.get HU_STATUS_state + 4 * s.get HU_STATUS_mains + 16 * s.get HU_STATUS_pfw + 32 * s.get HU_STATUS_phase_lost + 256 * s.get HU_STATUS_cause) (s.get BATT_CHASSIS_soc + 2 ^ 16 * Nat.min 65535 (s.get HU_RIDE_v) + 2 ^ 32 * s.get HU_ALLOW_v) ∧
      t.shelf = s.shelf) ∧
  (∀ (s : State) (mb : Mb) (k : Fin 64),
    Ready s mb k 0x902 →
    30000 ≤ u32 (payloadOf s mb k) 0 ∧ u32 (payloadOf s mb k) 0 ≤ s.shelf.busUv →
    u16 (payloadOf s mb k) 4 ≤ 3600 →
    500 ≤ u16 (payloadOf s mb k) 6 ∧ u16 (payloadOf s mb k) 6 ≤ 10000 →
    1000 ≤ u32 (payloadOf s mb k) 8 ∧ u32 (payloadOf s mb k) 8 ≤ 600000 →
    100 ≤ u32 (payloadOf s mb k) 12 ∧ u32 (payloadOf s mb k) 12 ≤ 60000 →
    u16 (payloadOf s mb k) 20 < u16 (payloadOf s mb k) 18 ∧ u16 (payloadOf s mb k) 18 < u16 (payloadOf s mb k) 16 ∧ u16 (payloadOf s mb k) 16 < 32768 →
    (resv (payloadOf s mb k) 26 32).2 = false →
    ∃ t, exec (.holdupCtrl mb k) s = .next t ∧ t.shelf.huNext = some (payloadOf s mb k) ∧
      t.shelf.vShut = s.shelf.vShut ∧
      Done t mb k (cmdOf s mb k) 0 0 0 ∧
      t.strs = s.strs)

/-- Completion of BATT_STATUS_POLL, BATT_SAMPLE, BATT_MODE_TIMER, FULL_CHARGE_CORRECT, REST_CORRECT, LEARN_INTERRUPT,
CHARGE_CONTROL, BATT_QUERY and BATT_CTRL. A poll queues a STATUS_WORD read. A sample in active mode writes voltage and
current and adds its current times the ticks since the last one to q_s, limited to 0 to qfull_s. Low current for 1 s
gives reduced mode. The full-charge correction sets q_s to qfull_s, turns the charge path off and arms learning. The
rest correction moves q_s halfway to the charge of the table. An interruption of more than 60 s ends and disqualifies
the run. The charge path of the one eligible string is turned on and the next turn is 1 s away; one that may not
charge is turned off. An inhibit turns it off; a test discharge is shown and ends charging. The query gives the fields
of its table. (11_holdup_and_battery.md, 22_mailbox_commands.md) -/
def Obligations.BatteryStringsAreEstimated : Prop :=
  (∀ (s : State) (i : Fin 16),
    s.shelfOn = true →
    s.strIds.contains i.val = true →
    ∃ t, exec (.battStatusPoll i) s = .next t ∧ (t.tw (s.str i).tw).jobs = (s.tw (s.str i).tw).jobs ++ [(64 + i.val, 0x79, 3)] ∧
      t.strs = s.strs ∧
      t.regs = s.regs ∧
      t.mem = s.mem) ∧
  (∀ (s : State) (i : Fin 16) (v a : Int),
    s.faults.insts = [] →
    (s.kindCfg .battTemp i).1 ≠ 3 →
    (s.kindCfg .battLevel i).1 ≠ 3 →
    s.active = true →
    s.strIds.contains i.val = true →
    s.get (BAT_STATE_mode i) = 0 →
    s.get (BAT_STATE_learn i) = 0 →
    (s.str i).sampledAt + us 10 ≤ s.ct →
    s.ainOk (s.str i).ainV = true →
    s.ainOk (s.str i).ainI = true →
    (s.str i).prevI.isSome = true →
    s.ainVal (s.str i).ainV 1 (s.str i).scV = v →
    s.ainVal (s.str i).ainI 1 (s.str i).scI = a →
    ∃ t, exec (.battSample i) s = .next t ∧ (t.str i).q = clampI 0 ((s.str i).qfull * mcTicks) ((s.str i).q + a * (s.ct - (s.str i).sampledAt : Nat)) ∧
      t.get (BAT_V_v i) = toField 32 v ∧
      t.get (BAT_I_v i) = toField 32 a ∧
      (t.str i).sampledAt = s.ct ∧
      t.stitches = s.stitches) ∧
  (∀ (s : State) (i : Fin 16) (u : Nat),
    s.strIds.contains i.val = true →
    s.get (BAT_STATE_mode i) = 0 →
    (s.str i).lowSince = some u →
    u + sec 1 ≤ s.ct →
    (s.str i).idleSince = none →
    ∃ t, exec (.battModeTimer i) s = .next t ∧ t.get (BAT_STATE_mode i) = 1 ∧
      t.strs = s.strs ∧
      t.mem = s.mem) ∧
  (∀ (s : State) (i : Fin 16) (u : Nat),
    s.faults.insts = [] →
    (s.kindCfg .battLevel i).1 ≠ 3 →
    (s.str i).fullSince = some u →
    u + sec 60 ≤ s.ct →
    s.is (BAT_STATE_chg_on i) = true →
    ∃ t, exec (.fullChargeCorrect i) s = .next t ∧ (t.str i).q = (s.str i).qfull * mcTicks ∧
      t.get (BAT_STATE_chg_on i) = 0 ∧
      t.get (BAT_STATE_learn i) = 1 ∧
      (t.str i).fullSeen = true ∧
      t.stitches = s.stitches) ∧
  (∀ (s : State) (i : Fin 16) (u : Nat),
    s.faults.insts = [] →
    (s.kindCfg .battLevel i).1 ≠ 3 →
    (s.str i).hibSince = some u →
    u + sec 1800 ≤ s.ct →
    (s.str i).restDone = false →
    s.get (BAT_STATE_mode i) = 2 →
    s.is (BAT_STATE_chg_on i) = false →
    20 ≤ (s.str i).ocv.getD (ocvIndex (fromField 32 (s.get (BAT_V_v i))) (s.str i).ocv 0 + 1) 0 - (s.str i).ocv.getD (ocvIndex (fromField 32 (s.get (BAT_V_v i))) (s.str i).ocv 0) 0 →
    ∃ t, exec (.restCorrect i) s = .next t ∧ (t.str i).q = clampI 0 ((s.str i).qfull * mcTicks) ((s.str i).q + divRound ((s.str i).ocvInv (fromField 32 (s.get (BAT_V_v i))) ((s.str i).qfull * mcTicks) - (s.str i).q) 2) ∧
      (t.str i).restDone = true ∧
      t.stitches = s.stitches) ∧
  (∀ (s : State) (i : Fin 16) (u : Nat),
    s.get (BAT_STATE_learn i) = 2 →
    (s.str i).interruptAt = some u →
    u ≤ (s.str i).sampledAt →
    u + sec 60 < s.ct →
    ∃ t, exec (.learnInterrupt i) s = .next t ∧ t.get (BAT_STATE_learn i) = 0 ∧
      t.get (BAT_STATE_learn_disq i) = 1 ∧
      t.strs = s.strs ∧
      t.mem = s.mem) ∧
  (∀ (s : State) (i : Nat),
    s.shelfOn = true →
    s.hupNormal = true →
    s.strIds = [i] →
    i < 16 →
    s.shelf.chgAt ≤ s.ct →
    s.is (BAT_STATE_chg_on i) = false →
    s.is (BAT_STATE_chg_inhibit i) = false →
    (s.str i).inhibitCmd = false →
    s.is (BAT_STATE_test i) = false →
    s.get (BAT_SOC_rescaled i) < 31130 →
    s.chargeRoom [i] = true →
    ∃ t, exec (.chargeControl) s = .next t ∧ t.get (BAT_STATE_chg_on i) = 1 ∧
      t.out = s.out ++ [.pmbus (s.str i).tw (s.str i).addr 0x01 0x80] ∧
      t.shelf.chgAt = s.ct + sec 1 ∧
      t.stitches = s.stitches ∧
      t.mem = s.mem) ∧
  (∀ (s : State) (i : Nat),
    s.shelfOn = true →
    s.strIds = [i] →
    i < 16 →
    s.is (BAT_STATE_chg_on i) = true →
    s.hupNormal = false ∨ s.is (BAT_STATE_chg_inhibit i) = true ∨ (s.str i).inhibitCmd = true →
    ∃ t, exec (.chargeControl) s = .next t ∧ t.get (BAT_STATE_chg_on i) = 0 ∧
      t.out = s.out ++ [.pmbus (s.str i).tw (s.str i).addr 0x01 0] ∧
      t.stitches = s.stitches ∧
      t.mem = s.mem) ∧
  (∀ (s : State) (mb : Mb) (k : Fin 64),
    Ready s mb k 0x910 →
    (u8 (payloadOf s mb k) 0) < 16 →
    ∃ t, exec (.battQuery mb k) s = .next t ∧ Done t mb k (cmdOf s mb k) 0 (s.get (BAT_STATE_mode (u8 (payloadOf s mb k) 0)) + 4 * s.get (BAT_STATE_level (u8 (payloadOf s mb k) 0)) + 16 * s.get (BAT_STATE_learn (u8 (payloadOf s mb k) 0)) + 64 * s.get (BAT_STATE_chg_on (u8 (payloadOf s mb k) 0)) + 128 * s.get (BAT_STATE_chg_inhibit (u8 (payloadOf s mb k) 0))) (s.get (BAT_Q_v (u8 (payloadOf s mb k) 0)) + 2 ^ 32 * s.get (BAT_SOC_rescaled (u8 (payloadOf s mb k) 0)) + 2 ^ 48 * s.get (BAT_SOC_raw (u8 (payloadOf s mb k) 0))) ∧
      t.strs = s.strs) ∧
  (∀ (s : State) (mb : Mb) (k : Fin 64),
    Ready s mb k 0x911 →
    NoRung s →
    (u8 (payloadOf s mb k) 0) < 16 →
    s.strIds.contains (u8 (payloadOf s mb k) 0) = true →
    u8 (payloadOf s mb k) 1 = 0 →
    ∃ t, exec (.battCtrl mb k) s = .next t ∧ (t.str (u8 (payloadOf s mb k) 0)).inhibitCmd = true ∧
      t.get (BAT_STATE_chg_on (u8 (payloadOf s mb k) 0)) = 0 ∧
      Done t mb k (cmdOf s mb k) 0 0 0 ∧
      t.stitches = s.stitches) ∧
  (∀ (s : State) (mb : Mb) (k : Fin 64),
    Ready s mb k 0x911 →
    NoRung s →
    (u8 (payloadOf s mb k) 0) < 16 →
    s.strIds.contains (u8 (payloadOf s mb k) 0) = true →
    u8 (payloadOf s mb k) 1 = 2 →
    s.hupNormal = true →
    s.strIds.all (fun i => !s.is (BAT_STATE_test i)) = true →
    ∃ t, exec (.battCtrl mb k) s = .next t ∧ t.get (BAT_STATE_test (u8 (payloadOf s mb k) 0)) = 1 ∧
      t.get (BAT_STATE_chg_on (u8 (payloadOf s mb k) 0)) = 0 ∧
      Done t mb k (cmdOf s mb k) 0 0 0 ∧
      (t.str (u8 (payloadOf s mb k) 0)).q = (s.str (u8 (payloadOf s mb k) 0)).q ∧
      t.stitches = s.stitches)

/-- Completion of SLOT_INTERVAL, SLOT_MEAS_LOSS, WORKER_SAMPLE_RX, WORKER_TRIP, GATE_RISE_TIMEOUT, SVC_COMMAND_TX,
SLOT_PRESENT, SLOT_SURPRISE, CAST_ON_RESUME, CAST_ON_STEP_TIMEOUT and UNBIND_TIMEOUT. An interval of a live slot with
its gate high, within its limits, writes the rounded mean current, voltage and product, adds the energy with its
remainder carried, and zeroes the breaker timers; an interval without samples is counted, and when the last current
has stood above st_ma for st_us it fences the slot with reason 3, gate 0, warn 1 and SLOT_BREAKER. 10 missing
intervals raise SLOT_MEAS_LOSS, fewer do nothing. A worker cell writes its samples, bits and presence; the first one
from a live worker on an active unit adopts the slot at step 5. A trip fences with reason 9 and SLOT_FAST_TRIP; a gate
that has not risen in time with reason 1 and SLOT_GATE. A COMMAND cell that is due leaves with the five values of the
slot, on a unit that owns it; a unit that does not own it sends none. Present for 100 ms gives present, or casting-on
at step 1 with auto_cast; absent for 1 ms gives empty with gate, warn and epoch 0 and SLOT_SURPRISE. Cast-on steps 1,
2 and 3 advance when their conditions hold; step 2 not done in 10 ms fences with reason 10. A skein not off in time
receives op 0. Every fence leaves the shelf and the ephemeris as they are. (12_slots_and_capping.md,
05_workers_and_stitches.md, 04_fliral_link.md) -/
def Obligations.SlotsAreMeasuredAndProtected : Prop :=
  (∀ (s : State) (n : Fin 64) (cur vol : List Nat) (si sv sp i v : Int),
    NoRung s →
    s.faults.insts = [] →
    s.slSt n = 3 →
    s.get (SLOT_STATE_gate n) = 1 →
    (s.slot n).haveDesc = true →
    (s.slot n).cell = some (cur, vol) →
    cur.length = 8 →
    slotSums cur vol (s.slot n).iZero = (si, sv, sp) →
    divRound (si * (s.slot n).iLsb) 2048 = i →
    divRound (sv * (s.slot n).vLsb) 2048 = v →
    -2147483648 ≤ i ∧ i ≤ (s.slot n).ltMa ∧ (s.slot n).ltMa < (s.slot n).stMa ∧ i < 2147483648 →
    -2147483648 ≤ v ∧ v < 2147483648 →
    (s.slot n).gateHigh = true →
    (s.slot n).tripped = false →
    fromField 32 (s.get BUS_V_bus_mv) - v ≤ (s.slot n).dropMax →
    ∃ t, exec (.slotInterval n) s = .next t ∧ t.get (SLOT_I_v n) = toField 32 i ∧
      t.get (SLOT_V_v n) = toField 32 v ∧
      t.get (SLOT_P_v n) = toField 32 (divRound (sp * (s.slot n).iLsb * (s.slot n).vLsb) 524288000) ∧
      (t.slot n).eRem = ((s.slot n).eRem + divRound (sp * (s.slot n).iLsb * (s.slot n).vLsb * 80) 8) % 524288000000000 ∧
      t.pairVal (aSLOT_E_LO n) (aSLOT_E_HI n) = toField 64 ((s.pairVal (aSLOT_E_LO n) (aSLOT_E_HI n) : Nat) + ((s.slot n).eRem + divRound (sp * (s.slot n).iLsb * (s.slot n).vLsb * 80) 8) / 524288000000000) ∧
      ((t.slot n).stRun = 0 ∧ (t.slot n).ltRun = 0 ∧ (t.slot n).missed = 0) ∧
      t.slSt n = 3 ∧
      t.faults.insts = [] ∧
      t.stitches = s.stitches ∧
      t.mem = s.mem) ∧
  (∀ (s : State) (n : Fin 64),
    MayRaise s .slotBreaker n →
    s.swTouched = [] →
    s.faults.insts.length < 2047 →
    (s.kindCfg .seqStartFail n).1 ≠ 3 →
    s.slSt n = 3 →
    s.get (SLOT_STATE_gate n) = 1 →
    (s.slot n).haveDesc = true →
    (s.slot n).cell = none →
    (s.slot n).gateHigh = true →
    (s.slot n).stMa < fromField 32 (s.get (SLOT_I_v n)) →
    (s.slot n).stUs ≤ 10 * ((s.slot n).stRun + 1) →
    fromField 32 (s.get BUS_V_bus_mv) - fromField 32 (s.get (SLOT_V_v n)) ≤ (s.slot n).dropMax →
    ∃ t, exec (.slotInterval n) s = .next t ∧ t.slSt n = 5 ∧
      t.get (SLOT_STATE_reason n) = 3 ∧
      t.get (SLOT_STATE_gate n) = 0 ∧
      t.get (SLOT_STATE_warn n) = 1 ∧
      t.get (SLOT_STATE_fence_seen n) = 1 ∧
      t.get (PORT_EPOCH_epoch n) = 0 ∧
      t.shelf = s.shelf ∧
      t.eph = s.eph ∧
      t.raised .slotBreaker n = true ∧
      Counted s t (SLOT_CNT_missed n) ∧
      Counted s t (SLOT_CNT_timed n)) ∧
  (∀ (s : State) (n : Fin 64),
    (s.slot n).haveDesc = false →
    ∃ t, exec (.slotInterval n) s = .next t ∧ t = s) ∧
  (∀ (s : State) (n : Fin 64),
    10 ≤ (s.slot n).missed →
    MayRaise s .slotMeasLoss n →
    ∃ t, exec (.slotMeasLoss n) s = .next t ∧ t.raised .slotMeasLoss n = true ∧
      t.slSt n = s.slSt n ∧
      t.slotx = s.slotx ∧
      t.stitches = s.stitches) ∧
  (∀ (s : State) (n : Fin 64),
    NoRung s →
    (s.slot n).missed < 10 →
    ∃ t, exec (.slotMeasLoss n) s = .next t ∧ t = s) ∧
  (∀ (s : State) (n : Fin 64) (h : UpHdr) (c : WorkerCell),
    Plain s (.svc n) h →
    s.faults.insts = [] →
    (s.slot n).adopted = true →
    c.tripped = false →
    ∃ t, exec (.workerSampleRx n h c) s = .next t ∧ (t.slot n).cell = some (c.cur.map (·.toNat), c.vol.map (·.toNat)) ∧
      ((t.slot n).gateOn = c.gateOn ∧ (t.slot n).gateHigh = c.gateHigh ∧ (t.slot n).present = c.present) ∧
      (t.slot n).presentSince = (if c.present then some ((s.slot n).presentSince.getD s.ct) else none) ∧
      (t.slot n).absentSince = (if c.present then none else some ((s.slot n).absentSince.getD s.ct)) ∧
      t.regs = s.regs ∧
      t.stitches = s.stitches ∧
      t.mem = s.mem) ∧
  (∀ (s : State) (n : Fin 64) (h : UpHdr) (c : WorkerCell),
    Plain s (.svc n) h →
    s.faults.insts = [] →
    s.swTouched = [] →
    s.active = true →
    (s.slot n).adopted = false →
    c.present = true ∧ c.tripped = false ∧ c.gateOn = true →
    ∃ t, exec (.workerSampleRx n h c) s = .next t ∧ t.slSt n = 2 ∧
      ((t.slot n).step = 5 ∧ (t.slot n).startupBound = true) ∧
      t.get (SLOT_STATE_gate n) = 1 ∧
      Counted s t RST_CNT_adopted ∧
      t.stitches = s.stitches ∧
      t.mem = s.mem) ∧
  (∀ (s : State) (n : Fin 64) (h : UpHdr) (a : Word),
    InOrder s (.svc n) h →
    MayRaise s .slotFastTrip n →
    s.swTouched = [] →
    s.faults.insts.length < 2047 →
    (s.kindCfg .seqStartFail n).1 ≠ 3 →
    s.slSt n = 2 ∨ s.slSt n = 3 ∨ s.slSt n = 4 ∨ s.slSt n = 6 →
    ∃ t, exec (.workerTrip n h a) s = .next t ∧ t.slSt n = 5 ∧
      t.get (SLOT_STATE_reason n) = 9 ∧
      t.get (SLOT_STATE_gate n) = 0 ∧
      t.get (SLOT_STATE_warn n) = 1 ∧
      t.get (SLOT_STATE_fence_seen n) = 1 ∧
      t.get (PORT_EPOCH_epoch n) = 0 ∧
      t.shelf = s.shelf ∧
      t.eph = s.eph ∧
      t.raised .slotFastTrip n = true ∧
      (t.slot n).tripped = true ∧
      Counted s t (SLOT_CNT_fast n)) ∧
  (∀ (s : State) (n : Fin 64),
    MayRaise s .slotGate n →
    s.faults.insts.length < 2047 →
    (s.kindCfg .seqStartFail n).1 ≠ 3 →
    s.slSt n = 2 ∨ s.slSt n = 3 ∨ s.slSt n = 4 ∨ s.slSt n = 6 →
    s.get (SLOT_STATE_gate n) = 1 →
    (s.slot n).gateHigh = false →
    (s.slot n).gateSince + ms (s.slot n).gateRiseMs ≤ s.ct →
    ∃ t, exec (.gateRiseTimeout n) s = .next t ∧ t.slSt n = 5 ∧
      t.get (SLOT_STATE_reason n) = 1 ∧
      t.get (SLOT_STATE_gate n) = 0 ∧
      t.get (SLOT_STATE_warn n) = 1 ∧
      t.get (SLOT_STATE_fence_seen n) = 1 ∧
      t.get (PORT_EPOCH_epoch n) = 0 ∧
      t.shelf = s.shelf ∧
      t.eph = s.eph ∧
      t.raised .slotGate n = true) ∧
  (∀ (s : State) (n : Fin 64),
    s.ownsPort n = true →
    s.get (SVC_STATUS_link_state n) = 2 →
    s.pair.outputsOff = false →
    (s.slot n).changed = true ∨ (s.svc n).sentAt + us 10 ≤ s.ct →
    (s.svc n).rel.backlog = [] →
    ∃ t, exec (.svcCommandTx n) s = .next t ∧ t.out = s.out ++ [.svcCommand n (s.is (SLOT_STATE_gate n)) (s.is (SLOT_STATE_warn n)) (s.is (SLOT_STATE_throttle n)) (s.slot n).clearTrip (s.slot n).tripMa] ∧
      ((t.slot n).changed = false ∧ (t.slot n).clearTrip = false) ∧
      t.regs = s.regs ∧
      t.mem = s.mem) ∧
  (∀ (s : State) (n : Fin 64),
    s.ownsPort n = false →
    ∃ t, exec (.svcCommandTx n) s = .next t ∧ t = s) ∧
  (∀ (s : State) (n : Fin 64) (u : Nat),
    (s.slot n).presentSince = some u →
    u + ms 100 ≤ s.ct →
    s.slSt n = 0 →
    s.pattern.autoCast.getLsbD n = false →
    ∃ t, exec (.slotPresent n) s = .next t ∧ t.slSt n = 1 ∧
      t.get (SLOT_STATE_reason n) = 0 ∧
      t.stitches = s.stitches ∧
      t.mem = s.mem) ∧
  (∀ (s : State) (n : Fin 64) (u : Nat),
    (s.slot n).presentSince = some u →
    u + ms 100 ≤ s.ct →
    s.slSt n = 0 →
    s.pattern.autoCast.getLsbD n = true →
    s.get CHASSIS_PWR_state = 0 →
    s.ownsPort n = true →
    ∃ t, exec (.slotPresent n) s = .next t ∧ t.slSt n = 2 ∧
      (t.slot n).step = 1 ∧
      t.stitches = s.stitches ∧
      t.mem = s.mem) ∧
  (∀ (s : State) (n : Fin 64) (u : Nat),
    (s.slot n).absentSince = some u →
    u + ms 1 ≤ s.ct →
    s.slSt n = 2 ∨ s.slSt n = 3 ∨ s.slSt n = 4 →
    MayRaise s .slotSurprise n →
    s.faults.insts.length < 2047 →
    (s.kindCfg .seqStartFail n).1 ≠ 3 →
    ∃ t, exec (.slotSurprise n) s = .next t ∧ t.slSt n = 0 ∧
      (t.get (SLOT_STATE_gate n) = 0 ∧ t.get (SLOT_STATE_warn n) = 0) ∧
      t.get (PORT_EPOCH_epoch n) = 0 ∧
      t.raised .slotSurprise n = true ∧
      t.shelf = s.shelf ∧
      t.eph = s.eph) ∧
  (∀ (s : State) (n : Fin 64),
    NoRung s →
    s.slSt n = 2 →
    s.ownsPort n = true →
    (s.slot n).step = 1 →
    Tbl.get s.pattern.rated n 0 ≠ 0 →
    s.hupNormal = true →
    s.get HU_LOAD_v + Tbl.get s.pattern.rated n 0 ≤ s.get HU_ALLOW_v →
    s.retiredNow (s.svc n).retired (s.get (SVC_EPOCH_epoch n) % 255 + 1) (s.get (SVC_EPOCH_epoch n)) = false →
    ∃ t, exec (.castOnResume n) s = .next t ∧ ((t.slot n).step = 2 ∧ (t.slot n).stepAt = s.ct) ∧
      (t.svc n).epochNext = some (s.get (SVC_EPOCH_epoch n) % 255 + 1, s.ct + us 20) ∧
      t.regs = s.regs ∧
      t.stitches = s.stitches ∧
      t.mem = s.mem) ∧
  (∀ (s : State) (n : Fin 64),
    NoRung s →
    s.slSt n = 2 →
    s.ownsPort n = true →
    (s.slot n).step = 2 →
    s.hupNormal = true →
    s.get (SVC_STATUS_link_state n) = 2 →
    (s.svc n).epochNext = none →
    (s.slot n).haveDesc = true →
    ∃ t, exec (.castOnResume n) s = .next t ∧ (t.slot n).step = 3 ∧
      t.get (SLOT_STATE_gate n) = 1 ∧
      ((t.slot n).gateSince = s.ct ∧ (t.slot n).changed = true) ∧
      t.stitches = s.stitches ∧
      t.mem = s.mem) ∧
  (∀ (s : State) (n : Fin 64),
    NoRung s →
    s.slSt n = 2 →
    s.ownsPort n = true →
    (s.slot n).step = 3 →
    (s.slot n).gateHigh = true →
    ∃ t, exec (.castOnResume n) s = .next t ∧ (t.slot n).step = 4 ∧
      t.regs = s.regs ∧
      t.stitches = s.stitches ∧
      t.mem = s.mem) ∧
  (∀ (s : State) (n : Fin 64),
    NoRung s →
    s.faults.insts.length < 2047 →
    (s.kindCfg .seqStartFail n).1 ≠ 3 →
    s.slSt n = 2 →
    (s.slot n).step = 2 →
    (s.slot n).stepAt + ms 10 ≤ s.ct →
    s.hupNormal = true →
    ∃ t, exec (.castOnStepTimeout n) s = .next t ∧ t.slSt n = 5 ∧
      t.get (SLOT_STATE_reason n) = 10 ∧
      t.get (SLOT_STATE_gate n) = 0 ∧
      t.get (SLOT_STATE_warn n) = 1 ∧
      t.get (SLOT_STATE_fence_seen n) = 1 ∧
      t.get (PORT_EPOCH_epoch n) = 0 ∧
      t.shelf = s.shelf ∧
      t.eph = s.eph) ∧
  (∀ (s : State) (k : Fin 2048),
    NoRung s →
    (s.sk k).known = true →
    s.slSt (s.sk k).slot = 4 →
    (s.slot (s.sk k).slot).unbindAt ≤ s.ct →
    s.skSt k = 1 ∨ s.skSt k = 2 ∨ s.skSt k = 3 →
    (s.sk k).engine.isSome = true →
    (s.sk k).powerCmd = none →
    ∃ t, exec (.unbindTimeout k) s = .next t ∧ (t.sk k).loads = (s.sk k).loads ++ [(.power 0, none)] ∧
      t.regs = s.regs ∧
      t.stitches = s.stitches ∧
      t.mem = s.mem)

/-- Completion of SLOT_CTRL, SLOT_QUERY and SLOT_SET_BREAKER. Cast-on of a present slot while the chassis is on gives
casting-on at step 1, and the slot holds the command. Bind-off of a live slot whose skeins run gives binding-off with
the warning, its sequence stopping, the time by which its skeins must be off, and the held command. Clear of a fenced
slot whose worker reports no trip and no high gate gives present with reason 0 and no warning, ST_OK; while the worker
reports a trip it ends with ST_FAULT and the reason, and the slot stays fenced. Wake of a slot that is not asleep ends
with ST_OK and changes no slot. The query ends with state, reason, power and current. Breaker limits in range and in
order replace those in force, ST_OK. No stitch changes. (12_slots_and_capping.md, 22_mailbox_commands.md) -/
def Obligations.SlotCommandsTakeEffect : Prop :=
  (∀ (s : State) (mb : Mb) (k : Fin 64),
    Ready s mb k 0xC01 →
    (u8 (payloadOf s mb k) 0) < 64 →
    u8 (payloadOf s mb k) 1 = 0 →
    s.ownsPort (u8 (payloadOf s mb k) 0) = true →
    (s.slot (u8 (payloadOf s mb k) 0)).ctrl = none →
    s.slSt (u8 (payloadOf s mb k) 0) = 1 →
    s.get CHASSIS_PWR_state = 0 →
    ∃ t, exec (.slotCtrl mb k) s = .next t ∧ t.slSt (u8 (payloadOf s mb k) 0) = 2 ∧
      (t.slot (u8 (payloadOf s mb k) 0)).step = 1 ∧
      (t.slot (u8 (payloadOf s mb k) 0)).ctrl = some (mb.val, k.val, 0) ∧
      t.stitches = s.stitches ∧
      t.mem = s.mem) ∧
  (∀ (s : State) (mb : Mb) (k : Fin 64),
    Ready s mb k 0xC01 →
    (u8 (payloadOf s mb k) 0) < 64 →
    u8 (payloadOf s mb k) 1 = 1 →
    s.ownsPort (u8 (payloadOf s mb k) 0) = true →
    (s.slot (u8 (payloadOf s mb k) 0)).ctrl = none →
    s.slSt (u8 (payloadOf s mb k) 0) = 3 →
    s.seqSt (u8 (payloadOf s mb k) 0) = 2 →
    ∃ t, exec (.slotCtrl mb k) s = .next t ∧ t.slSt (u8 (payloadOf s mb k) 0) = 4 ∧
      t.seqSt (u8 (payloadOf s mb k) 0) = 3 ∧
      t.get (SLOT_STATE_warn (u8 (payloadOf s mb k) 0)) = 1 ∧
      ((t.slot (u8 (payloadOf s mb k) 0)).ctrl = some (mb.val, k.val, 1) ∧ (t.slot (u8 (payloadOf s mb k) 0)).unbindAt = s.ct + ms s.pattern.unbindMs) ∧
      t.stitches = s.stitches ∧
      t.mem = s.mem) ∧
  (∀ (s : State) (mb : Mb) (k : Fin 64),
    Ready s mb k 0xC01 →
    (u8 (payloadOf s mb k) 0) < 64 →
    u8 (payloadOf s mb k) 1 = 4 →
    s.ownsPort (u8 (payloadOf s mb k) 0) = true →
    s.slSt (u8 (payloadOf s mb k) 0) = 5 →
    (s.slot (u8 (payloadOf s mb k) 0)).tripped = false →
    (s.slot (u8 (payloadOf s mb k) 0)).gateHigh = false →
    ∃ t, exec (.slotCtrl mb k) s = .next t ∧ t.slSt (u8 (payloadOf s mb k) 0) = 1 ∧
      t.get (SLOT_STATE_reason (u8 (payloadOf s mb k) 0)) = 0 ∧
      t.get (SLOT_STATE_warn (u8 (payloadOf s mb k) 0)) = 0 ∧
      Done t mb k (cmdOf s mb k) 0 0 0 ∧
      t.stitches = s.stitches) ∧
  (∀ (s : State) (mb : Mb) (k : Fin 64),
    Ready s mb k 0xC01 →
    (u8 (payloadOf s mb k) 0) < 64 →
    u8 (payloadOf s mb k) 1 = 4 →
    s.ownsPort (u8 (payloadOf s mb k) 0) = true →
    s.slSt (u8 (payloadOf s mb k) 0) = 5 →
    (s.slot (u8 (payloadOf s mb k) 0)).tripped = true →
    Tail s mb k →
    ∃ t, exec (.slotCtrl mb k) s = .next t ∧ t.slSt (u8 (payloadOf s mb k) 0) = 5 ∧
      Done t mb k (cmdOf s mb k) 9 (s.get (SLOT_STATE_reason (u8 (payloadOf s mb k) 0))) 0 ∧
      t.stitches = s.stitches) ∧
  (∀ (s : State) (mb : Mb) (k : Fin 64),
    Ready s mb k 0xC01 →
    (u8 (payloadOf s mb k) 0) < 64 →
    u8 (payloadOf s mb k) 1 = 3 →
    s.ownsPort (u8 (payloadOf s mb k) 0) = true →
    (s.slot (u8 (payloadOf s mb k) 0)).ctrl = none →
    s.slSt (u8 (payloadOf s mb k) 0) ≠ 6 →
    ∃ t, exec (.slotCtrl mb k) s = .next t ∧ Done t mb k (cmdOf s mb k) 0 0 0 ∧
      t.slotx = s.slotx ∧
      t.stitches = s.stitches) ∧
  (∀ (s : State) (mb : Mb) (k : Fin 64),
    Ready s mb k 0xC02 →
    s.slotBad mb (u8 (payloadOf s mb k) 0) = false →
    ∃ t, exec (.slotQuery mb k) s = .next t ∧ Done t mb k (cmdOf s mb k) 0 (s.slSt (u8 (payloadOf s mb k) 0) + 8 * s.get (SLOT_STATE_reason (u8 (payloadOf s mb k) 0))) (s.get (SLOT_P_v (u8 (payloadOf s mb k) 0)) + 2 ^ 32 * s.get (SLOT_I_v (u8 (payloadOf s mb k) 0))) ∧
      t.slotx = s.slotx ∧
      t.stitches = s.stitches) ∧
  (∀ (s : State) (mb : Mb) (k : Fin 64) (x : Slot),
    Ready s mb k 0xC03 →
    (u8 (payloadOf s mb k) 0) < 64 →
    s.ownsPort (u8 (payloadOf s mb k) 0) = true →
    s.slot (u8 (payloadOf s mb k) 0) = x →
    u32 (payloadOf s mb k) 4 < u32 (payloadOf s mb k) 12 ∧ u32 (payloadOf s mb k) 12 < u32 (payloadOf s mb k) 20 ∧ u32 (payloadOf s mb k) 20 ≤ x.tripMaxA * 1000 →
    1 ≤ u32 (payloadOf s mb k) 8 ∧ u32 (payloadOf s mb k) 8 ≤ 10000 →
    10 ≤ u32 (payloadOf s mb k) 16 ∧ u32 (payloadOf s mb k) 16 ≤ 10000 ∧ u32 (payloadOf s mb k) 16 % 10 = 0 →
    0 < i32 (payloadOf s mb k) 24 →
    1 ≤ u16 (payloadOf s mb k) 28 ∧ u16 (payloadOf s mb k) 28 ≤ 5000 →
    1 ≤ u8 (payloadOf s mb k) 30 ∧ u8 (payloadOf s mb k) 30 ≤ 50 →
    (resv (payloadOf s mb k) 1 4).2 = false ∧ (resv (payloadOf s mb k) 31 32).2 = false →
    ∃ t, exec (.slotSetBreaker mb k) s = .next t ∧ t.slot (u8 (payloadOf s mb k) 0) = { x with ltMa := u32 (payloadOf s mb k) 4, ltMs := u32 (payloadOf s mb k) 8, stMa := u32 (payloadOf s mb k) 12, stUs := u32 (payloadOf s mb k) 16, tripMa := u32 (payloadOf s mb k) 20, inrushMa := u32 (payloadOf s mb k) 24, dropMax := u16 (payloadOf s mb k) 28, gateRiseMs := u8 (payloadOf s mb k) 30, changed := true } ∧
      Done t mb k (cmdOf s mb k) 0 0 0 ∧
      t.stitches = s.stitches)

/-- Completion of CAP_COMPUTE, CAP_JUDGE, CAP_GRACE_EXPIRE, CAP_ENF_EXPIRE, CUT_LEAD_EXPIRE, BUDGET_CAP_ACK, BUDGET_SET,
BUDGET_QUERY and BUDGET_POLICY. When the ceilings sum to no more than the allowed power, with every holder free and no
fault, the stage is 0 and each cap its ceiling; on a unit that does not drive the shelf nothing changes. A judgement
writes the 1 ms mean; a free budget with a mean more than 1 % above its cap becomes requested, with the next req_id,
its deadline, VI_CAP_REQ and MSI-X vector 2. At the deadline still above, it becomes throttled with CAP_ENFORCE, its
cap noted, every slot of the holder throttled; no longer above, it becomes free. enf_ms later, still above, with no
slot it may cut CAP_NONCOMPLY is raised; with one that it may, the budget becomes cut and the slot warned with its
lead. When the lead has passed the slot is fenced with reason 11. BUDGET_CAP_ACK of the current request ends with
ST_OK and the promise noted, of another with ST_STALE. BUDGET_SET and BUDGET_POLICY take their fields, ST_OK.
BUDGET_QUERY ends with state, class, stage, cap and power of the budget: for a VI its own. (12_slots_and_capping.md,
22_mailbox_commands.md) -/
def Obligations.BudgetsAreJudgedAndEnforced : Prop :=
  (∀ (s : State) (v : Mb),
    s.shelfOn = true →
    NoRung s →
    s.faults.insts = [] →
    sumInt (s.holders.map (fun h => (s.ceilOf h : Int))) ≤ s.get HU_ALLOW_v →
    (v : Nat) ∈ s.holders →
    s.ceilOf v < 2 ^ 32 →
    ∀ h ∈ s.holders, (s.bgt h).floor ≤ s.ceilOf h ∧ s.get (BGT_STATE_cap_state h) = 0 →
    ∀ n : Fin 64, (s.slot n).cutAt = none →
    ∃ t, exec (.capCompute) s = .next t ∧ t.get CAP_STATUS_stage = 0 ∧
      t.get (BGT_CAP_cap_mw v) = s.ceilOf v ∧
      t.get (BGT_STATE_cap_state v) = 0 ∧
      t.faults.insts = [] ∧
      t.stitches = s.stitches ∧
      t.mem = s.mem) ∧
  (∀ (s : State),
    s.shelfOn = false →
    ∃ t, exec (.capCompute) s = .next t ∧ t = s) ∧
  (∀ (s : State) (h : Mb),
    s.shelfOn = true →
    s.assigned h = true →
    s.get (BGT_STATE_cap_state h) = 0 →
    0 ≤ s.power1ms h ∧ s.power1ms h < 2 ^ 32 →
    (101 * s.get (BGT_CAP_cap_mw h) : Int) < 100 * s.power1ms h →
    ∃ t, exec (.capJudge h) s = .next t ∧ t.get (BGT_POWER_power_mw h) = (s.power1ms h).toNat ∧
      t.get (BGT_STATE_cap_state h) = 1 ∧
      ((t.bgt h).reqId = ((s.bgt h).reqId + 1) % 2 ^ 32 ∧ (t.bgt h).deadline = s.ct + us (s.bgt h).graceUs) ∧
      t.get (VI_CAP_REQ_v h) = ((s.bgt h).reqId + 1) % 2 ^ 32 ∧
      t.out = s.out ++ [.msix h 2] ∧
      t.slotx = s.slotx ∧
      t.mem = s.mem) ∧
  (∀ (s : State) (h : Mb),
    s.shelfOn = true →
    s.assigned h = true →
    s.get (BGT_STATE_cap_state h) = 0 →
    0 ≤ s.power1ms h ∧ s.power1ms h < 2 ^ 32 →
    100 * s.power1ms h ≤ (101 * s.get (BGT_CAP_cap_mw h) : Int) →
    ∃ t, exec (.capJudge h) s = .next t ∧ t.get (BGT_POWER_power_mw h) = (s.power1ms h).toNat ∧
      t.get (BGT_STATE_cap_state h) = 0 ∧
      t.budgets = s.budgets ∧
      t.out = s.out ∧
      t.mem = s.mem) ∧
  (∀ (s : State) (h : Mb),
    s.shelfOn = true →
    s.get (BGT_STATE_cap_state h) = 1 →
    (s.bgt h).deadline ≤ s.ct →
    s.overCap h = true →
    MayRaise s .capEnforce h →
    ∃ t, exec (.capGraceExpire h) s = .next t ∧ t.get (BGT_STATE_cap_state h) = 2 ∧
      t.get (BGT_STATE_enforced_seen h) = 1 ∧
      ((t.bgt h).throttledAt = s.ct ∧ (t.bgt h).capAtThrottle = s.get (BGT_CAP_cap_mw h)) ∧
      (∀ n ∈ s.holderSlots h, t.get (SLOT_STATE_throttle n) = 1) ∧
      t.raised .capEnforce h = true ∧
      t.stitches = s.stitches) ∧
  (∀ (s : State) (h : Mb),
    s.shelfOn = true →
    s.get (BGT_STATE_cap_state h) = 1 →
    (s.bgt h).deadline ≤ s.ct →
    s.overCap h = false →
    ∃ t, exec (.capGraceExpire h) s = .next t ∧ t.get (BGT_STATE_cap_state h) = 0 ∧
      t.budgets = s.budgets ∧
      t.slotx = s.slotx ∧
      t.faults = s.faults ∧
      t.mem = s.mem) ∧
  (∀ (s : State) (h : Mb),
    s.shelfOn = true →
    s.get (BGT_STATE_cap_state h) = 2 →
    (s.bgt h).throttledAt + ms (s.bgt h).enfMs ≤ s.ct →
    s.overCap h = true →
    ∀ n ∈ s.holderSlots h, s.pattern.cutEn.getLsbD n = false →
    MayRaise s .capNoncomply h →
    ∃ t, exec (.capEnfExpire h) s = .next t ∧ t.get (BGT_STATE_cap_state h) = 2 ∧
      t.raised .capNoncomply h = true ∧
      t.slotx = s.slotx ∧
      t.stitches = s.stitches) ∧
  (∀ (s : State) (h : Mb) (n : Fin 64),
    s.shelfOn = true →
    s.get (BGT_STATE_cap_state h) = 2 →
    (s.bgt h).throttledAt + ms (s.bgt h).enfMs ≤ s.ct →
    s.overCap h = true →
    ∀ j ∈ s.holderSlots h, s.pattern.cutEn.getLsbD j = decide (j = n.val) →
    n.val ∈ s.holderSlots h →
    s.slSt n = 3 →
    ∃ t, exec (.capEnfExpire h) s = .next t ∧ t.get (BGT_STATE_cap_state h) = 3 ∧
      t.get (BGT_STATE_enforced_seen h) = 1 ∧
      (t.slot n).cutAt = some (s.ct + us s.shelf.warnLead) ∧
      t.get (SLOT_STATE_warn n) = 1 ∧
      t.slSt n = 3 ∧
      t.faults = s.faults ∧
      t.mem = s.mem) ∧
  (∀ (s : State) (n : Fin 64) (u : Nat),
    NoRung s →
    s.faults.insts.length < 2047 →
    (s.kindCfg .seqStartFail n).1 ≠ 3 →
    s.slSt n = 2 ∨ s.slSt n = 3 ∨ s.slSt n = 4 ∨ s.slSt n = 6 →
    (s.slot n).cutAt = some u →
    u ≤ s.ct →
    ∃ t, exec (.cutLeadExpire n) s = .next t ∧ t.slSt n = 5 ∧
      t.get (SLOT_STATE_reason n) = 11 ∧
      t.get (SLOT_STATE_gate n) = 0 ∧
      t.get (SLOT_STATE_warn n) = 1 ∧
      t.get (SLOT_STATE_fence_seen n) = 1 ∧
      t.get (PORT_EPOCH_epoch n) = 0 ∧
      t.shelf = s.shelf ∧
      t.eph = s.eph ∧
      (t.slot n).cutAt = none) ∧
  (∀ (s : State) (mb : Mb) (k : Fin 64),
    Ready s mb k 0xC10 →
    u8 (payloadOf s mb k) 4 = 0 →
    (resv (payloadOf s mb k) 5 8).2 = false →
    (s.bgt mb).reqId = u32 (payloadOf s mb k) 0 →
    s.get (BGT_STATE_cap_state mb) ≠ 0 →
    ∃ t, exec (.budgetCapAck mb k) s = .next t ∧ (t.bgt mb).promise = true ∧
      (t.bgt mb).deadline = (s.bgt mb).deadline ∧
      Done t mb k (cmdOf s mb k) 0 0 0 ∧
      t.slotx = s.slotx) ∧
  (∀ (s : State) (mb : Mb) (k : Fin 64),
    Ready s mb k 0xC10 →
    u8 (payloadOf s mb k) 4 = 0 →
    (resv (payloadOf s mb k) 5 8).2 = false →
    (s.bgt mb).reqId ≠ u32 (payloadOf s mb k) 0 →
    Tail s mb k →
    ∃ t, exec (.budgetCapAck mb k) s = .next t ∧ Done t mb k (cmdOf s mb k) 5 0 0 ∧
      t.budgets = s.budgets ∧
      t.slotx = s.slotx) ∧
  (∀ (s : State) (mb : Mb) (k : Fin 64),
    Ready s mb k 0xC11 →
    (u16 (payloadOf s mb k) 0) ≤ 256 →
    u8 (payloadOf s mb k) 2 ≤ 7 →
    u32 (payloadOf s mb k) 4 ≤ u32 (payloadOf s mb k) 8 ∧ u32 (payloadOf s mb k) 8 ≤ 2147483647 →
    100 ≤ u32 (payloadOf s mb k) 12 ∧ u32 (payloadOf s mb k) 12 ≤ 100000 →
    1 ≤ u16 (payloadOf s mb k) 16 ∧ u16 (payloadOf s mb k) 16 ≤ 1000 →
    (resv (payloadOf s mb k) 3 4).2 = false ∧ (resv (payloadOf s mb k) 18 20).2 = false →
    ∃ t, exec (.budgetSet mb k) s = .next t ∧ t.bgt (u16 (payloadOf s mb k) 0) = { s.bgt (u16 (payloadOf s mb k) 0) with cls := u8 (payloadOf s mb k) 2, floor := u32 (payloadOf s mb k) 4, ceil := u32 (payloadOf s mb k) 8, graceUs := u32 (payloadOf s mb k) 12, enfMs := u16 (payloadOf s mb k) 16 } ∧
      t.get (BGT_STATE_class (u16 (payloadOf s mb k) 0)) = u8 (payloadOf s mb k) 2 ∧
      Done t mb k (cmdOf s mb k) 0 0 0 ∧
      t.slotx = s.slotx) ∧
  (∀ (s : State) (mb : Mb) (k : Fin 64) (h : Nat),
    Ready s mb k 0xC12 →
    h = (if mb.val = 256 then (u16 (payloadOf s mb k) 0) else mb.val) →
    h ≤ 256 →
    ∃ t, exec (.budgetQuery mb k) s = .next t ∧ Done t mb k (cmdOf s mb k) 0 (s.get (BGT_STATE_cap_state h) + 4 * (s.bgt h).cls + 32 * s.get CAP_STATUS_stage) (s.get (BGT_CAP_cap_mw h) + 2 ^ 32 * s.get (BGT_POWER_power_mw h)) ∧
      t.budgets = s.budgets) ∧
  (∀ (s : State) (mb : Mb) (k : Fin 64),
    Ready s mb k 0xC13 →
    u8 (payloadOf s mb k) 0 ≤ 7 →
    10 ≤ u16 (payloadOf s mb k) 2 ∧ u16 (payloadOf s mb k) 2 ≤ 10000 →
    ∃ t, exec (.budgetPolicy mb k) s = .next t ∧ t.get CAP_STATUS_rank = u8 (payloadOf s mb k) 0 ∧
      t.shelf.warnLead = u16 (payloadOf s mb k) 2 ∧
      Done t mb k (cmdOf s mb k) 0 0 0 ∧
      t.budgets = s.budgets)

/-- Completion of SEQ_SLOT_TIMER, RAIL_SD_TIMER, RAIL_CNT_CHECKPOINT, BUTTON_PRESS, BUTTON_FORCE_OFF, MANUAL_RESET and
RESET_OUTPUT_RELEASE. In starting, an idle skein whose time has come, with every skein of lower time slots good, is
issued op 1 and its starts are counted; in stopping, a running skein whose time has come, with every started skein of
higher time slots off, is issued its off mode. A supervised condition that has lasted sd_ms in an up sequence takes
the entry's action with SEQ_TIMED_OFF: action 1 issues the skein its off mode and counts it, action 2 begins the stop
with fail_skein and the reset output. A checkpoint records the changed counter pair of a skein in region 2. A press of
50 ms to 8 s is noted and told to the AF where the chassis is on and btn_action 0, and gives on where it is off or
forced off; a shorter one changes no state. Force-off leaves every slot empty or present, gate 0 on the slots the unit
owns, forced off, with CHASSIS_FORCE_OFF. MR_N low for 1 ms or more asserts the output of a slot that has one for
rst_ms; a shorter one changes nothing. The output of an up sequence is released once its delay has passed with no
manual reset; of another sequence it stays. (13_sequencing_supervision.md) -/
def Obligations.SequencesRunAndAreSupervised : Prop :=
  (∀ (s : State) (k : Fin 2048) (n : Fin 64) (r : Rail),
    NoRung s →
    s.faults.insts = [] →
    s.swTouched = [] →
    s.railOf k = some r →
    (s.sk k).known = true →
    (s.sk k).slot = n.val →
    s.seqSt n = 1 →
    (s.rrun k).issued = false ∧ (s.rrun k).good = false →
    (s.seq n).t0 + us ((s.seq n).widthUs * r.tslot + 10 * r.onDelay) ≤ s.ct →
    ∀ j ∈ s.railSkeins n, r.tslot ≤ s.tslotOf j ∨ (s.rrun j).good = true →
    s.skSt k = 0 →
    (s.sk k).engine.isSome = true →
    (s.sk k).loads = [] →
    ∃ t, exec (.seqSlotTimer k) s = .next t ∧ (t.sk k).loads = [(.power 1, none)] ∧
      (t.sk k).powerCmd = some (257, k.val, 1) ∧
      (t.rrun k).issued = true ∧
      t.get (SEQ_STATE_tslot n) = r.tslot % 256 ∧
      Counted s t (RAIL_CNT0_starts k) ∧
      t.seqSt n = 1 ∧
      t.stitches = s.stitches ∧
      t.mem = s.mem) ∧
  (∀ (s : State) (k : Fin 2048) (n : Fin 64) (r : Rail),
    NoRung s →
    s.railOf k = some r →
    (s.sk k).known = true →
    (s.sk k).slot = n.val →
    s.seqSt n = 3 →
    (s.rrun k).issued = true ∧ (s.rrun k).stopped = false →
    (s.seq n).t0 + us ((s.seq n).widthUs * ((s.seq n).tTop - r.tslot) + 10 * r.offDelay) ≤ s.ct →
    ∀ j ∈ s.railSkeins n, s.tslotOf j ≤ r.tslot ∨ (s.rrun j).issued = false ∨ s.skOff j = true →
    s.skSt k = 2 →
    (s.sk k).engine.isSome = true →
    (s.sk k).powerCmd = none →
    ∃ t, exec (.seqSlotTimer k) s = .next t ∧ (t.sk k).loads = (s.sk k).loads ++ [(.power (if r.immediate then 0 else 2), none)] ∧
      ((t.rrun k).stopped = true ∧ (t.rrun k).stopAt = s.ct) ∧
      t.get (SEQ_STATE_tslot n) = r.tslot % 256 ∧
      t.seqSt n = 3 ∧
      t.stitches = s.stitches ∧
      t.mem = s.mem) ∧
  (∀ (s : State) (k : Fin 2048) (n : Fin 64) (r : Rail),
    MayRaise s .seqTimedOff n →
    s.swTouched = [] →
    s.railOf k = some r →
    (s.sk k).known = true →
    (s.sk k).slot = n.val →
    s.seqSt n = 2 →
    r.action = 1 →
    (s.rrun k).acted = false →
    (s.rrun k).conds.any (fun c => decide (c.2 + ms r.sdMs ≤ s.ct)) = true →
    s.skSt k = 2 →
    (s.sk k).engine.isSome = true →
    ∃ t, exec (.railSdTimer k) s = .next t ∧ (t.sk k).loads = (s.sk k).loads ++ [(.power (if r.immediate then 0 else 2), none)] ∧
      t.raised .seqTimedOff n = true ∧
      Counted s t (RAIL_CNT1_timed_off k) ∧
      t.seqSt n = 2 ∧
      t.stitches = s.stitches) ∧
  (∀ (s : State) (k : Fin 2048) (n : Fin 64) (r : Rail),
    MayRaise s .seqTimedOff n →
    s.railOf k = some r →
    (s.sk k).known = true →
    (s.sk k).slot = n.val →
    s.seqSt n = 2 →
    r.action = 2 →
    (s.seq n).fail = false →
    (s.rrun k).issued = true →
    (s.rrun k).acted = false →
    (s.rrun k).conds.any (fun c => decide (c.2 + ms r.sdMs ≤ s.ct)) = true →
    s.skSt k = 2 →
    (s.sk k).engine.isSome = true →
    ∃ t, exec (.railSdTimer k) s = .next t ∧ t.seqSt n = 3 ∧
      t.get (SEQ_STATE_fail_skein n) = k.val ∧
      ((t.seq n).fail = true ∧ (t.seq n).t0 = s.ct) ∧
      t.get (SEQ_STATE_rst n) = 1 ∧
      t.raised .seqTimedOff n = true ∧
      t.stitches = s.stitches) ∧
  (∀ (s : State) (k : Fin 2048) (x : RailRun),
    s.active = false →
    s.railRuns = [(k.val, x)] →
    x.cntChanged = true →
    ∃ t, exec (.railCntCheckpoint) s = .next t ∧ (t.rrun k).cntChanged = false ∧
      (t.nv.queue.any (fun w => decide (w.region = 2 ∧ w.copy.holder = s.slotOwner (s.sk k).slot ∧ w.copy.data = .seqRec s.ct k (s.sk k).slot 12 0 (s.tslotOf k) (s.word (aRAIL_CNT0 k)).toNat (s.word (aRAIL_CNT1 k)).toNat)) = true) ∧
      t.skeins = s.skeins ∧
      t.mem = s.mem) ∧
  (∀ (s : State) (h : Nat),
    NoRung s →
    s.swTouched = [] →
    ms 50 ≤ h ∧ h < ms 8000 →
    s.unit ≠ 0 →
    s.get CHASSIS_PWR_state = 0 →
    s.get CHASSIS_PWR_btn_action = 0 →
    (s.get (VI_EV_PROD_index 256) + 256 - s.get (VI_EV_CONS_index 256)) % 256 < 128 →
    ∃ t, exec (.buttonPress h) s = .next t ∧ t.get CHASSIS_PWR_press_seen = 1 ∧
      (t.get CHASSIS_PWR_pressed = 0 ∧ t.get CHASSIS_PWR_state = 0) ∧
      t.get (VI_EV_PROD_index 256) = (s.get (VI_EV_PROD_index 256) + 1) % 256 ∧
      .msix 256 1 ∈ t.out ∧
      t.slotx = s.slotx ∧
      t.stitches = s.stitches) ∧
  (∀ (s : State) (h : Nat),
    ms 50 ≤ h ∧ h < ms 8000 →
    s.unit ≠ 0 →
    s.get CHASSIS_PWR_state = 2 ∨ s.get CHASSIS_PWR_state = 3 →
    s.pattern.autoCast = 0 →
    ∃ t, exec (.buttonPress h) s = .next t ∧ t.get CHASSIS_PWR_state = 0 ∧
      t.get CHASSIS_PWR_press_seen = 1 ∧
      t.slotx = s.slotx ∧
      t.stitches = s.stitches ∧
      t.mem = s.mem) ∧
  (∀ (s : State) (h : Nat),
    h < ms 50 →
    ∃ t, exec (.buttonPress h) s = .next t ∧ t.get CHASSIS_PWR_pressed = 0 ∧
      t.get CHASSIS_PWR_state = s.get CHASSIS_PWR_state ∧
      t.nv = s.nv ∧
      t.slotx = s.slotx ∧
      t.mem = s.mem) ∧
  (∀ (s : State),
    Runs s →
    MayRaise s .chassisForceOff 0 →
    s.faults.insts.length < 1900 →
    (s.kindCfg .seqStartFail 0).1 ≠ 3 →
    ∃ t, exec (.buttonForceOff) s = .next t ∧ t.get CHASSIS_PWR_state = 3 ∧
      t.get CHASSIS_PWR_force_seen = 1 ∧
      (∀ n : Fin 64, t.slSt n ≤ 1 ∧ (s.ownsPort n = true → t.get (SLOT_STATE_gate n) = 0)) ∧
      t.raised .chassisForceOff 0 = true ∧
      t.shelf = s.shelf ∧
      t.eph = s.eph) ∧
  (∀ (s : State) (l : Nat) (n : Fin 64),
    Runs s →
    ms 1 ≤ l →
    (s.seq n).rstGpio.isSome = true →
    ∃ t, exec (.manualReset l) s = .next t ∧ t.get CHASSIS_PWR_mr_seen = 1 ∧
      (t.seq n).mrUntil = some (s.ct + ms s.pattern.rstMs) ∧
      t.get (SEQ_STATE_rst n) = 1 ∧
      t.seqSt n = s.seqSt n ∧
      t.skeins = s.skeins ∧
      t.stitches = s.stitches ∧
      t.mem = s.mem) ∧
  (∀ (s : State) (l : Nat),
    l < ms 1 →
    ∃ t, exec (.manualReset l) s = .next t ∧ t = s) ∧
  (∀ (s : State) (n : Fin 64) (g u : Nat),
    s.seqSt n = 2 →
    (s.seq n).releaseAt = some u →
    u ≤ s.ct →
    (s.seq n).mrUntil = none →
    (s.seq n).rstGpio = some g →
    g < 64 →
    ∃ t, exec (.resetOutputRelease n) s = .next t ∧ t.get (SEQ_STATE_rst n) = 0 ∧
      (t.gpio.getLsbD g = true ∧ t.gpioDriven.getLsbD g = true) ∧
      t.skeins = s.skeins ∧
      t.stitches = s.stitches ∧
      t.mem = s.mem) ∧
  (∀ (s : State) (n : Fin 64),
    s.seqSt n ≠ 2 →
    ∃ t, exec (.resetOutputRelease n) s = .next t ∧ t = s)

/-- Completion of SEQ_SET_RAIL, SEQ_SET_SLOT, SEQ_CTRL, SEQ_QUERY and SEQ_LOG_READ. An entry in range is set, ST_OK, while
the sequence neither starts nor stops; while it does the command ends with ST_BUSY, info 2, and no entry changes. The
width, reset output and delay of a slot are set, ST_OK. Op 0 of an off sequence, the chassis on, gives starting from
now with the reset output asserted and the command held; op 1 of an up sequence with a running skein gives stopping
likewise; op 2 of a latched one whose failed skein is not latched gives off, ST_OK. The query ends with SEQ_STATE.
SEQ_LOG_READ of a good record the issuer may read writes it into the slot payload and ends with count 1. No skein
changes. (13_sequencing_supervision.md, 22_mailbox_commands.md) -/
def Obligations.SequenceCommandsTakeEffect : Prop :=
  (∀ (s : State) (mb : Mb) (k : Fin 64) (q n : Nat),
    Ready s mb k 0xD01 →
    q = u16 (payloadOf s mb k) 0 →
    n = (s.sk q).slot →
    s.skeinBad mb q = false →
    s.ownsPort n = true →
    s.seqSt n = 0 ∨ s.seqSt n = 2 ∨ s.seqSt n = 4 →
    u8 (payloadOf s mb k) 3 < 6 →
    u16 (payloadOf s mb k) 4 ≤ (s.seq n).widthUs / 10 - 1 ∧ u16 (payloadOf s mb k) 6 ≤ (s.seq n).widthUs / 10 - 1 →
    1 ≤ u16 (payloadOf s mb k) 8 ∧ u16 (payloadOf s mb k) 8 ≤ 10000 →
    u8 (payloadOf s mb k) 10 = 0 →
    ∃ t, exec (.seqSetRail mb k) s = .next t ∧ t.railOf q = some { tslot := u8 (payloadOf s mb k) 2, immediate := (u8 (payloadOf s mb k) 3).testBit 0, action := u8 (payloadOf s mb k) 3 / 2 % 4, onDelay := u16 (payloadOf s mb k) 4, offDelay := u16 (payloadOf s mb k) 6, sdMs := u16 (payloadOf s mb k) 8 } ∧
      Done t mb k (cmdOf s mb k) 0 0 0 ∧
      t.skeins = s.skeins ∧
      t.stitches = s.stitches) ∧
  (∀ (s : State) (mb : Mb) (k : Fin 64) (q n : Nat),
    Ready s mb k 0xD01 →
    q = u16 (payloadOf s mb k) 0 →
    n = (s.sk q).slot →
    s.skeinBad mb q = false →
    s.ownsPort n = true →
    s.seqSt n = 1 ∨ s.seqSt n = 3 →
    u8 (payloadOf s mb k) 3 < 6 →
    u8 (payloadOf s mb k) 10 = 1 →
    Tail s mb k →
    ∃ t, exec (.seqSetRail mb k) s = .next t ∧ Done t mb k (cmdOf s mb k) 2 2 0 ∧
      t.rails = s.rails ∧
      t.skeins = s.skeins) ∧
  (∀ (s : State) (mb : Mb) (k : Fin 64),
    Ready s mb k 0xD02 →
    (u8 (payloadOf s mb k) 0) < 64 →
    s.ownsPort (u8 (payloadOf s mb k) 0) = true →
    s.seqSt (u8 (payloadOf s mb k) 0) = 0 ∨ s.seqSt (u8 (payloadOf s mb k) 0) = 2 ∨ s.seqSt (u8 (payloadOf s mb k) 0) = 4 →
    u8 (payloadOf s mb k) 1 < 64 →
    100 ≤ u32 (payloadOf s mb k) 4 ∧ u32 (payloadOf s mb k) 4 ≤ 100000 →
    u32 (payloadOf s mb k) 8 ≤ 100000 →
    ∃ t, exec (.seqSetSlot mb k) s = .next t ∧ ((t.seq (u8 (payloadOf s mb k) 0)).rstGpio = some (u8 (payloadOf s mb k) 1) ∧ (t.seq (u8 (payloadOf s mb k) 0)).widthUs = u32 (payloadOf s mb k) 4 ∧ (t.seq (u8 (payloadOf s mb k) 0)).rstDelayUs = u32 (payloadOf s mb k) 8) ∧
      Done t mb k (cmdOf s mb k) 0 0 0 ∧
      t.skeins = s.skeins ∧
      t.stitches = s.stitches) ∧
  (∀ (s : State) (mb : Mb) (k : Fin 64),
    Ready s mb k 0xD03 →
    NoRung s →
    s.slotBad mb (u8 (payloadOf s mb k) 0) = false →
    u8 (payloadOf s mb k) 1 = 0 →
    s.ownsPort (u8 (payloadOf s mb k) 0) = true →
    s.seqSt (u8 (payloadOf s mb k) 0) = 0 →
    s.get CHASSIS_PWR_state = 0 →
    s.railSkeins (u8 (payloadOf s mb k) 0) ≠ [] →
    ∃ t, exec (.seqCtrl mb k) s = .next t ∧ t.seqSt (u8 (payloadOf s mb k) 0) = 1 ∧
      ((t.seq (u8 (payloadOf s mb k) 0)).t0 = s.ct ∧ (t.seq (u8 (payloadOf s mb k) 0)).ctrl = some (mb.val, k.val, 0)) ∧
      t.get (SEQ_STATE_rst (u8 (payloadOf s mb k) 0)) = 1 ∧
      t.skeins = s.skeins ∧
      t.stitches = s.stitches ∧
      t.mem = s.mem) ∧
  (∀ (s : State) (mb : Mb) (k : Fin 64) (q : Fin 2048),
    Ready s mb k 0xD03 →
    NoRung s →
    s.slotBad mb (u8 (payloadOf s mb k) 0) = false →
    u8 (payloadOf s mb k) 1 = 1 →
    s.ownsPort (u8 (payloadOf s mb k) 0) = true →
    s.seqSt (u8 (payloadOf s mb k) 0) = 2 →
    (s.seq (u8 (payloadOf s mb k) 0)).ctrl = none →
    q.val ∈ s.railSkeins (u8 (payloadOf s mb k) 0) →
    s.skSt q = 2 →
    ∃ t, exec (.seqCtrl mb k) s = .next t ∧ t.seqSt (u8 (payloadOf s mb k) 0) = 3 ∧
      ((t.seq (u8 (payloadOf s mb k) 0)).t0 = s.ct ∧ (t.seq (u8 (payloadOf s mb k) 0)).ctrl = some (mb.val, k.val, 1)) ∧
      t.get (SEQ_STATE_rst (u8 (payloadOf s mb k) 0)) = 1 ∧
      t.skeins = s.skeins ∧
      t.stitches = s.stitches ∧
      t.mem = s.mem) ∧
  (∀ (s : State) (mb : Mb) (k : Fin 64),
    Ready s mb k 0xD03 →
    s.slotBad mb (u8 (payloadOf s mb k) 0) = false →
    u8 (payloadOf s mb k) 1 = 2 →
    s.ownsPort (u8 (payloadOf s mb k) 0) = true →
    s.seqSt (u8 (payloadOf s mb k) 0) = 4 →
    s.skSt (s.get (SEQ_STATE_fail_skein (u8 (payloadOf s mb k) 0))) ≠ 5 →
    ∃ t, exec (.seqCtrl mb k) s = .next t ∧ t.seqSt (u8 (payloadOf s mb k) 0) = 0 ∧
      Done t mb k (cmdOf s mb k) 0 0 0 ∧
      t.skeins = s.skeins ∧
      t.stitches = s.stitches) ∧
  (∀ (s : State) (mb : Mb) (k : Fin 64),
    Ready s mb k 0xD04 →
    s.slotBad mb (u8 (payloadOf s mb k) 0) = false →
    ∃ t, exec (.seqQuery mb k) s = .next t ∧ Done t mb k (cmdOf s mb k) 0 0 (s.word (aSEQ_STATE (u8 (payloadOf s mb k) 0))).toNat ∧
      t.seqs = s.seqs ∧
      t.skeins = s.skeins) ∧
  (∀ (s : State) (mb : Mb) (k : Fin 64) (key : Nat) (c : NvCopy),
    Ready s mb k 0xD05 →
    s.nv.queue = [] →
    s.get NW_STATUS_scan_done = 1 →
    s.get NV_STATUS_nv0_lost = 0 ∧ s.get NV_STATUS_nv1_lost = 1 →
    s.nv.die0 = [(key, c)] ∧ s.nv.die1 = [] →
    key / 65536 = 2 →
    s.goodCopy c = true →
    mb.val = 256 ∨ c.holder = mb.val →
    u32 (payloadOf s mb k) 0 = 0xFFFFFFFF ∨ newer c.seq (u32 (payloadOf s mb k) 0) = true →
    s.faults.inject = none →
    c.bytes.length = 32 →
    ∃ t, exec (.seqLogRead mb k) s = .next t ∧ Mem.readBytes Mem.blank t.mem (winBase mb + 0x4000 + 256 * k + 16) 32 = c.bytes ∧
      Done t mb k (cmdOf s mb k) 0 0 1 ∧
      t.nv = s.nv ∧
      t.skeins = s.skeins)

/-- Completion of ADC_SLOT, ADC_START, ADC_STOP, OW_CHECK, OW_SETTLE_EXPIRE, CAL_CAPTURE_DONE, ADC_CAL and
MAINS_PLL_HOLDOVER, and of FABRIC_CYCLE where a start met a run. The one conversion of a one-entry run writes the
result adcResult gives, clamped, with sat, valid and the next seq, sets done, ends the run and is counted; a slot a
capture takes adds its code to the capture; a slot that nothing wants changes nothing. A start on an idle converter
makes it busy from this cycle; one that meets a run leaves the run and is noted, and the next fabric cycle counts it,
sets overrun_seen and raises ADC_OVERRUN. A stop ends the run. A due check of the lowest due input keeps its code and
time; a second open finding sets open and ow_seen, raises ADC_OPEN_WIRE and holds the input for the settling time;
without a first conversion nothing changes. A zero capture in range sets z16 and state 2, one out of range gives state
3, no coefficient changed and ST_FAULT, info 1; a gain in range is set with state 1. ADC_CAL op 0 begins a capture, op
2 sets the factory coefficients and state 0, op 3 without a capture ends with ST_STALE. No crossing of L1 for two
periods puts every src 2 meridian in holdover, unlocked; a crossing within two periods changes nothing.
(14_shelf_adc.md, 03_meridian_timebase.md, 22_mailbox_commands.md) -/
def Obligations.ConvertersSampleAndCalibrate : Prop :=
  (∀ (s : State) (c : Fin 4) (code : BitVec 12) (i sh : Nat) (r : Int),
    NoRung s →
    s.swTouched = [] →
    s.mainsSlot c = none →
    s.slotGone c = false →
    s.capInput c = none →
    (s.adc c).trigAt ≠ some s.ct →
    (s.adc c).running = true →
    (s.adc c).startAt < s.ct / 800 * 800 →
    (s.adc c).entry = 0 ∧ (s.adc c).conv = 0 ∧ (s.adc c).sum = 0 →
    s.get (ADC_CTRL_last c) = 0 →
    s.get (ADC_CTRL_continuous c) = 0 →
    s.get (ADC_SEQ_a c 0) = 0 →
    s.get (ADC_SEQ_input c 0) = i →
    s.get (ADC_SEQ_shift c 0) = sh →
    sh ≤ 8 →
    (s.ain (32 * c + i)).owBase = none →
    (s.ain (32 * c + i)).holdUntil ≤ s.ct →
    r = adcResult code.toNat 1 (s.adcZero c i) (s.adcGain c i) sh →
    ∃ t, exec (.adcSlot c code) s = .next t ∧ t.get (ADC_RES_value c i) = (clampI 0 65535 r).toNat ∧
      t.get (ADC_RES_sat c i) = (if clampI 0 65535 r = r then 0 else 1) ∧
      (t.get (ADC_RES_valid c i) = (if s.get (ADC_RES_open c i) = 0 ∧ s.get (ADC_INCFG_cal_state c i) < 2 then 1 else 0)) ∧
      t.get (ADC_RES_seq c i) = (s.get (ADC_RES_seq c i) + 1) % 4096 ∧
      (t.get (ADC_STATUS_done c) = 1 ∧ t.get (ADC_STATUS_busy c) = 0) ∧
      (t.adc c).running = false ∧
      Counted s t (ADC_CNT_CONV_v c) ∧
      t.stitches = s.stitches ∧
      t.mem = s.mem) ∧
  (∀ (s : State) (c : Fin 4) (code : BitVec 12) (i n m f op : Nat),
    s.mainsSlot c = none →
    s.slotGone c = false →
    s.checkShare c = true →
    s.capInput c = some i →
    (s.ain i).cap = some (op, n, m, f) →
    ∃ t, exec (.adcSlot c code) s = .next t ∧ (t.ain i).cap = some (op, n + 1, m + code.toNat, f) ∧
      (t.adc c).running = (s.adc c).running ∧
      t.stitches = s.stitches ∧
      t.mem = s.mem) ∧
  (∀ (s : State) (c : Fin 4) (code : BitVec 12),
    s.mainsSlot c = none →
    s.capInput c = none →
    (s.adc c).running = false →
    ∃ t, exec (.adcSlot c code) s = .next t ∧ t = s) ∧
  (∀ (s : State) (c : Fin 4) (v : Word),
    Runs s →
    NoRung s →
    s.faults.insts = [] →
    s.hwTouched = [] →
    v.bit 0 = true →
    v.bit 2 = true →
    v.bit 3 = false →
    (s.adc c).running = false →
    (s.adc c).stopAt ≠ some s.ct →
    ∃ t, exec (.adcStart c v) s = .next t ∧ ((t.adc c).running = true ∧ (t.adc c).startAt = s.ct) ∧
      t.get (ADC_STATUS_busy c) = 1 ∧
      t.ains = s.ains ∧
      t.mem = s.mem) ∧
  (∀ (s : State) (c : Fin 4) (v : Word),
    Runs s →
    NoRung s →
    s.hwTouched = [] →
    v.bit 0 = true →
    v.bit 2 = true →
    v.bit 3 = false →
    (s.adc c).running = true →
    (s.adc c).startAt ≠ s.ct →
    (s.adc c).stopAt ≠ some s.ct →
    ∃ t, exec (.adcStart c v) s = .next t ∧ (t.adc c).trigAt = some s.ct ∧
      ((t.adc c).running = true ∧ (t.adc c).startAt = (s.adc c).startAt) ∧
      t.get (ADC_CNT_OVERRUN_v c) = s.get (ADC_CNT_OVERRUN_v c) ∧
      t.ains = s.ains ∧
      t.mem = s.mem) ∧
  (∀ (s : State) (c : Fin 4),
    Runs s →
    MayRaise s .adcOverrun c →
    s.faults.insts = [] →
    s.faults.inject = none →
    s.rst.restartAt = none →
    s.ports = [] ∧ s.mers = [] →
    (s.adc c).trigAt.isSome = true →
    ∀ j : Fin 4, j ≠ c → (s.adc j).trigAt = none →
    ∃ t, exec (.fabricCycle) s = .next t ∧ t.get (ADC_STATUS_overrun_seen c) = 1 ∧
      Counted s t (ADC_CNT_OVERRUN_v c) ∧
      t.raised .adcOverrun c = true ∧
      (t.adc c).trigAt = none ∧
      (t.adc c).running = (s.adc c).running ∧
      t.ains = s.ains) ∧
  (∀ (s : State) (c : Fin 4) (v : Word),
    Runs s →
    NoRung s →
    s.hwTouched = [] →
    v.bit 3 = true →
    ∃ t, exec (.adcStop c v) s = .next t ∧ (t.adc c).running = false ∧
      t.get (ADC_STATUS_busy c) = 0 ∧
      t.ains = s.ains ∧
      t.mem = s.mem) ∧
  (∀ (s : State) (i : Fin 128) (code : BitVec 12),
    s.get (ADC_INCFG_ow_en (i / 32) (i % 32)) = 1 →
    s.get THM_STATUS_stage = 0 →
    ∀ j < i.val % 32, s.owDue (32 * (i.val / 32) + j) = false →
    ∀ x ∈ s.ains, x.1 / 32 = i.val / 32 → x.2.owBase = none →
    (s.ain i).owAt + ms (s.get (ADC_OW_CFG_period_ms (i / 32))) ≤ s.ct →
    (s.ain i).cap = none →
    s.checkSlot (i / 32) = true →
    ∃ t, exec (.owCheck i code) s = .next t ∧ ((t.ain i).owBase = some code.toNat ∧ (t.ain i).owAt = s.ct) ∧
      t.get (ADC_RES_value (i / 32) (i % 32)) = s.get (ADC_RES_value (i / 32) (i % 32)) ∧
      t.stitches = s.stitches ∧
      t.mem = s.mem) ∧
  (∀ (s : State) (i : Fin 128) (code : BitVec 12) (b : Nat),
    MayRaise s .adcOpenWire i →
    (s.ain i).owBase = some b →
    (s.ain i).owAt + us (s.get (ADC_OW_CFG_settle_us (i / 32))) ≤ s.ct →
    s.checkSlot (i / 32) = true →
    b + s.get (ADC_OW_CFG_thr (i / 32)) < code.toNat →
    1 ≤ (s.ain i).openRun →
    s.get (ADC_RES_open (i / 32) (i % 32)) = 0 →
    ∃ t, exec (.owSettleExpire i code) s = .next t ∧ t.get (ADC_RES_open (i / 32) (i % 32)) = 1 ∧
      t.get (ADC_STATUS_ow_seen (i / 32)) = 1 ∧
      t.raised .adcOpenWire i = true ∧
      ((t.ain i).owBase = none ∧ (t.ain i).holdUntil = s.ct + us (s.get (ADC_OW_CFG_settle_us (i / 32)))) ∧
      t.stitches = s.stitches) ∧
  (∀ (s : State) (i : Fin 128) (code : BitVec 12),
    (s.ain i).owBase = none →
    ∃ t, exec (.owSettleExpire i code) s = .next t ∧ t = s) ∧
  (∀ (s : State) (i : Fin 128) (m f : Nat),
    (s.ain i).cap = some (0, 256, m, f) →
    (s.ain i).capFor = none →
    (divRound m 16).natAbs ≤ 2048 →
    ∃ t, exec (.calCaptureDone i) s = .next t ∧ t.get (ADC_CAL_z16 (i / 32) (i % 32)) = toField 16 (divRound m 16) ∧
      t.get (ADC_INCFG_cal_state (i / 32) (i % 32)) = 2 ∧
      (t.ain i).cap = none ∧
      t.faults = s.faults ∧
      t.mem = s.mem) ∧
  (∀ (s : State) (i : Fin 128) (m f : Nat) (mb : Mb) (k : Fin 64),
    (s.ain i).cap = some (0, 256, m, f) →
    (s.ain i).capFor = some (mb.val, k.val) →
    2048 < (divRound m 16).natAbs →
    (cmdOf s mb k).phase = .started →
    s.ringFull mb = false ∧ (s.mbx mb).cqWait = [] →
    (cmdOf s mb k).mirrored = false →
    Tail s mb k →
    ∃ t, exec (.calCaptureDone i) s = .next t ∧ t.get (ADC_INCFG_cal_state (i / 32) (i % 32)) = 3 ∧
      t.word (aADC_CAL (i / 32) (i % 32)) = s.word (aADC_CAL (i / 32) (i % 32)) ∧
      Done t mb k (cmdOf s mb k) 9 1 0 ∧
      (t.ain i).cap = none) ∧
  (∀ (s : State) (i : Fin 128) (m f g : Nat),
    s.faults.insts = [] →
    (s.ain i).cap = some (1, 256, m, f) →
    (s.ain i).capFor = none →
    divRound m 16 ≠ s.adcZero (i / 32) (i % 32) →
    divRound ((f * 16 * 32768 : Nat) : Int) (divRound m 16 - s.adcZero (i / 32) (i % 32)) = g →
    24576 ≤ g ∧ g ≤ 40960 →
    ∃ t, exec (.calCaptureDone i) s = .next t ∧ t.get (ADC_CAL_gain (i / 32) (i % 32)) = g ∧
      t.get (ADC_INCFG_cal_state (i / 32) (i % 32)) = 1 ∧
      (t.ain i).cap = none ∧
      t.mem = s.mem) ∧
  (∀ (s : State) (mb : Mb) (k : Fin 64),
    Ready s mb k 0xE01 →
    NoRung s →
    (u16 (payloadOf s mb k) 0) < 128 →
    u8 (payloadOf s mb k) 2 = 0 →
    (s.ain (u16 (payloadOf s mb k) 0)).cap = none →
    ∃ t, exec (.adcCal mb k) s = .next t ∧ (t.ain (u16 (payloadOf s mb k) 0)).cap = some (0, 0, 0, 0) ∧
      (t.ain (u16 (payloadOf s mb k) 0)).capFor = some (mb.val, k.val) ∧
      t.get (ADC_STATUS_cal_busy ((u16 (payloadOf s mb k) 0) / 32)) = 1 ∧
      t.stitches = s.stitches ∧
      t.mem = s.mem) ∧
  (∀ (s : State) (mb : Mb) (k : Fin 64),
    Ready s mb k 0xE01 →
    NoRung s →
    (u16 (payloadOf s mb k) 0) < 128 →
    u8 (payloadOf s mb k) 2 = 2 →
    (s.ain (u16 (payloadOf s mb k) 0)).cap = none →
    ∃ t, exec (.adcCal mb k) s = .next t ∧ t.word (aADC_CAL ((u16 (payloadOf s mb k) 0) / 32) ((u16 (payloadOf s mb k) 0) % 32)) = 0x80000000 ∧
      t.get (ADC_INCFG_cal_state ((u16 (payloadOf s mb k) 0) / 32) ((u16 (payloadOf s mb k) 0) % 32)) = 0 ∧
      Done t mb k (cmdOf s mb k) 0 0 (65536 * 32768) ∧
      t.stitches = s.stitches) ∧
  (∀ (s : State) (mb : Mb) (k : Fin 64),
    Ready s mb k 0xE01 →
    NoRung s →
    (u16 (payloadOf s mb k) 0) < 128 →
    u8 (payloadOf s mb k) 2 = 3 →
    (s.ain (u16 (payloadOf s mb k) 0)).cap = none →
    Tail s mb k →
    ∃ t, exec (.adcCal mb k) s = .next t ∧ Done t mb k (cmdOf s mb k) 5 0 0 ∧
      t.ains = s.ains) ∧
  (∀ (s : State) (m : Fin 64),
    Runs s →
    NoRung s →
    (s.ph 0).lastCross.all (fun u => decide (u + 2 * s.shelf.pllPeriod ≤ s.ct)) = true →
    s.shelfOn = false ∨ s.get HU_STATUS_state = 1 ∨ s.get HU_STATUS_state = 3 →
    s.get (MER_CFG_src m) = 2 →
    ∃ t, exec (.mainsPllHoldover) s = .next t ∧ t.shelf.pllHoldover = true ∧
      (t.get (MER_STATUS_holdover m) = 1 ∧ t.get (MER_STATUS_locked m) = 0) ∧
      t.mers = s.mers ∧
      t.stitches = s.stitches ∧
      t.mem = s.mem) ∧
  (∀ (s : State) (u : Nat),
    (s.ph 0).lastCross = some u →
    s.ct < u + 2 * s.shelf.pllPeriod →
    ∃ t, exec (.mainsPllHoldover) s = .next t ∧ t = s)

/-- Completion of THM_SAMPLE, THM_SENSOR_STALE, SHED_STAGE_TIMER, SHED_RESTORE_TIMER, FAN_UPDATE, THERMAL_DORMANT_ENTRY,
DORMANT_THM_CHECK and THM_QUERY. A reading of -40 to under 125 degrees in a sample that is due is written with valid
set; a second sample in which the junction is at or above the warning threshold and below the others enters the
warning level with warn_seen and THM_WARN; a die sensor at 125 degrees in a second sample makes the unit dormant with
last_cause 2, the flash as it was. A sensor without an update for 3 ms is invalid with sensor_fault and THM_SENSOR.
One second at throttle without a fall of 1 degree takes stage 1 to stage 2; with such a fall the stage stays and the
second starts again; a restore that is due takes stage 2 back to stage 1 and the next follows in 10 s. A due fan
update gives an automatic fan the duty of fanDuty with its period kept, 100 ms to the next one; one that is not due
changes nothing; fanDuty is 720 for the settings of the example. An orderly shutdown with no transit ends dormant. In
dormancy the sixty-first cool second holds the wake cause 10, a warm one restarts the count. The query ends with the
reading, its validity and its level. (15_thermal.md, 21_startup_and_reset.md, 22_mailbox_commands.md) -/
def Obligations.TemperaturesAreReadAndActedOn : Prop :=
  (∀ (s : State) (l : List (Option Int)) (k : Fin 13) (v : Int),
    Runs s →
    s.unit ≠ 0 →
    s.thm.sampleAt ≤ s.ct →
    NoRung s →
    s.faults.insts = [] →
    s.thm.levels = [false, false, false] →
    s.thm.enterRun = [0, 0, 0, 0] →
    (s.kindCfg .thmSensor 0).1 ≠ 3 ∧ (s.kindCfg .thmWarn 0).1 ≠ 3 ∧ (s.kindCfg .thmThrottle 0).1 ≠ 3 ∧ (s.kindCfg .thmShutdown 0).1 ≠ 3 →
    ∀ c : Fin 5, (s.sens c).critRun < 2 →
    ∀ x ∈ l, ∀ w ∈ x.toList, w < 2000 →
    l[k.val]? = some (some v) →
    -640 ≤ v →
    ∃ t, exec (.thmSample l) s = .next t ∧ t.get (THM_TEMP_temp k) = toField 16 v ∧
      t.get (THM_TEMP_valid k) = 1 ∧
      (t.sens k).sampledAt = s.ct ∧
      t.thm.sampleAt = s.ct + ms 1 ∧
      t.unit = s.unit ∧
      t.slotx = s.slotx ∧
      t.rects = s.rects) ∧
  (∀ (s : State) (l : List (Option Int)) (j : Int),
    Runs s →
    s.unit ≠ 0 →
    s.thm.sampleAt ≤ s.ct →
    MayRaise s .thmWarn 0 →
    ∀ c : Fin 5, (s.sens c).critRun < 2 →
    ∀ x ∈ l, x = none →
    s.junction = some j →
    s.get (THM_LVLR_rate_mode 0) = 0 ∧ s.get (THM_LVLR_rate_mode 1) = 0 ∧ s.get (THM_LVLR_rate_mode 2) = 0 →
    fromField 16 (s.get (THM_LVL_thr 0)) ≤ j ∧ j < fromField 16 (s.get (THM_LVL_thr 1)) ∧ j < fromField 16 (s.get (THM_LVL_thr 2)) →
    s.thm.levels = [false, false, false] →
    s.thm.enterRun = [1, 0, 0, 0] →
    s.thm.leaveRun.length = 3 →
    ∃ t, exec (.thmSample l) s = .next t ∧ t.get THM_STATUS_level = 1 ∧
      t.get THM_STATUS_warn_seen = 1 ∧
      t.raised .thmWarn 0 = true ∧
      t.thm.levels = [true, false, false] ∧
      t.thm.hist.head? = some (some j) ∧
      t.stitches = s.stitches) ∧
  (∀ (s : State) (l : List (Option Int)) (k : Fin 5) (v : Int),
    Runs s →
    s.unit ≠ 0 →
    s.thm.sampleAt ≤ s.ct →
    s.pair.failed = false →
    s.faults.insts = [] →
    l[k.val]? = some (some v) →
    2000 ≤ v →
    1 ≤ (s.sens k).critRun →
    ∃ t, exec (.thmSample l) s = .next t ∧ t.unit = 0 ∧
      t.get THM_STATUS_last_cause = 2 ∧
      (t.rst.dormantWhy = 1 ∧ t.rst.thermDormant = true) ∧
      (t.flash0 = s.flash0 ∧ t.flash1 = s.flash1)) ∧
  (∀ (s : State) (k : Fin 13),
    Runs s →
    s.unit ≠ 0 →
    (s.sens k).sampledAt + ms 3 ≤ s.ct →
    MayRaise s .thmSensor k →
    ∃ t, exec (.thmSensorStale k) s = .next t ∧ t.get (THM_TEMP_valid k) = 0 ∧
      t.get THM_STATUS_sensor_fault = 1 ∧
      t.raised .thmSensor k = true ∧
      t.thm = s.thm ∧
      t.stitches = s.stitches) ∧
  (∀ (s : State) (u : Nat),
    s.thm.stageAt = some u →
    u + sec 1 ≤ s.ct →
    s.rst.shutdownAt = none →
    s.thm.stageTemp.any (fun a => s.junction.any (fun b => decide (16 ≤ a - b))) = false →
    s.get THM_STATUS_stage = 1 →
    ∃ t, exec (.shedStageTimer) s = .next t ∧ t.get THM_STATUS_stage = 2 ∧
      (t.thm.stageAt = some s.ct ∧ t.thm.stageTemp = s.junction) ∧
      t.eph = s.eph ∧
      t.skeins = s.skeins ∧
      t.mem = s.mem) ∧
  (∀ (s : State) (u : Nat),
    s.thm.stageAt = some u →
    u + sec 1 ≤ s.ct →
    s.rst.shutdownAt = none →
    s.thm.stageTemp.any (fun a => s.junction.any (fun b => decide (16 ≤ a - b))) = true →
    ∃ t, exec (.shedStageTimer) s = .next t ∧ t.get THM_STATUS_stage = s.get THM_STATUS_stage ∧
      (t.thm.stageAt = some s.ct ∧ t.thm.stageTemp = s.junction) ∧
      t.eph = s.eph ∧
      t.skeins = s.skeins ∧
      t.mem = s.mem) ∧
  (∀ (s : State) (u : Nat),
    s.thm.restoreAt = some u →
    u ≤ s.ct →
    s.get THM_STATUS_stage = 2 →
    ∃ t, exec (.shedRestoreTimer) s = .next t ∧ t.get THM_STATUS_stage = 1 ∧
      t.thm.restoreAt = some (s.ct + sec 10) ∧
      t.eph = s.eph ∧
      t.skeins = s.skeins ∧
      t.mem = s.mem) ∧
  (∀ (s : State) (n : Fin 16),
    s.thm.fanAt ≤ s.ct →
    s.get (THM_FAN2_auto n) = 1 →
    s.swTouched = [] →
    ∃ t, exec (.fanUpdate) s = .next t ∧ t.get (FAN_PWM_duty n) = s.fanDuty n % 65536 ∧
      t.get (FAN_PWM_period n) = s.get (FAN_PWM_period n) ∧
      t.thm.fanAt = s.ct + ms 100 ∧
      t.stitches = s.stitches ∧
      t.mem = s.mem) ∧
  (∀ (s : State),
    s.ct < s.thm.fanAt →
    ∃ t, exec (.fanUpdate) s = .next t ∧ t = s) ∧
  (∀ (s : State) (u : Nat),
    s.rst.shutdownAt = some u →
    s.pair.transitAt = none →
    ∃ t, exec (.thermalDormantEntry) s = .next t ∧ t.unit = 0 ∧
      (t.rst.dormantWhy = 1 ∧ t.rst.thermDormant = true) ∧
      t.get THM_STATUS_last_cause = s.get THM_STATUS_last_cause ∧
      (t.flash0 = s.flash0 ∧ t.flash1 = s.flash1)) ∧
  (∀ (s : State) (v : Int),
    s.unit = 0 →
    s.rst.thermDormant = true →
    v ≤ s.rst.coolThr →
    s.rst.cool = 60 →
    s.rst.restartEn = true →
    s.rst.wakeHeld = none →
    ∃ t, exec (.dormantThmCheck v) s = .next t ∧ t.rst.wakeHeld = some 10 ∧
      t.rst.cool = 61 ∧
      t.regs = s.regs ∧
      t.mem = s.mem) ∧
  (∀ (s : State) (v : Int),
    s.unit = 0 →
    s.rst.thermDormant = true →
    s.rst.coolThr < v →
    ∃ t, exec (.dormantThmCheck v) s = .next t ∧ t.rst.cool = 0 ∧
      t.rst.wakeHeld = s.rst.wakeHeld ∧
      t.regs = s.regs ∧
      t.mem = s.mem) ∧
  (∀ (s : State) (mb : Mb) (k : Fin 64),
    Ready s mb k 0xE10 →
    NoRung s →
    (u8 (payloadOf s mb k) 0) ≤ 12 →
    ∃ t, exec (.thmQuery mb k) s = .next t ∧ Done t mb k (cmdOf s mb k) 0 (s.get (THM_TEMP_valid (u8 (payloadOf s mb k) 0)) + 2 * (if (u8 (payloadOf s mb k) 0) < 5 then s.get THM_STATUS_level else (s.sens (u8 (payloadOf s mb k) 0)).lvl)) (s.get (THM_TEMP_temp (u8 (payloadOf s mb k) 0))) ∧
      t.thm = s.thm ∧
      t.stitches = s.stitches) ∧
  (∀ (s : State),
    s.get (FAN_PWM_period 0) = 1000 →
    s.get (THM_FAN0_t_lo 0) = 960 ∧ s.get (THM_FAN0_t_hi 0) = 1440 →
    s.get (THM_FAN1_duty_min 0) = 9830 ∧ s.get (THM_FAN1_duty_max 0) = 32767 →
    s.get (THM_FAN2_sensors 0) = 1 →
    s.get (THM_TEMP_temp 0) = 1248 ∧ s.get (THM_TEMP_valid 0) = 1 →
    s.get THM_STATUS_level < 2 →
    s.fanDuty 0 = 720)

/-- Completion of HEARTBEAT_TX, HEARTBEAT_RX, HEARTBEAT_CHECK, ALIVE_TOGGLE, ALIVE_STOP, FAILURE_NOTICE_RX, OWN_FAILURE,
PARTNER_LINK_UP and PARTNER_LINK_DOWN. At a whole microsecond of a unit in the pair a heartbeat leaves with chassis
time, state, home and owned ports; a booting unit sends none. One received shows the partner's state and zeroes the
misses; one of the same position sets pos_conflict with PAIR_CONFIG. Half a microsecond after, a heartbeat that did
not come is counted; the third miss with the alive line toggling raises PAIR_LINK and keeps the partner; with the line
stopped, or at a failure notice, a standby unit becomes active, owns every port, and sets lost_seen with PAIR_LOST,
the time of the swap noted and no transit pending. The alive output toggles 250 ns after its last edge. A line that
stops while heartbeats arrive clears alive_in and raises PAIR_ALIVE; without a partner it only clears alive_in. An own
failure sends its notice: causes 1 and 2 restart, cause 3 is dormant, the flash as it was. The link that comes up sets
link_up and alive_in and notes its lanes; one that goes down clears coverage and keeps every port's owner.
(16_controller_pair.md, 21_startup_and_reset.md) -/
def Obligations.PairWatchesItsPartner : Prop :=
  (∀ (s : State),
    2 ≤ s.unit →
    s.pair.failed = false →
    s.get PAIR_STATUS_link_up = 1 →
    s.ct % 1600 < 2 →
    s.pair.hbTx ≠ some (s.ct / 1600) →
    s.partnerRel.backlog = [] →
    ∃ t, exec (.heartbeatTx) s = .next t ∧ t.out = s.out ++ [.heartbeat s.ct s.unit s.isHome s.ownMask] ∧
      t.pair.hbTx = some (s.ct / 1600) ∧
      t.regs = s.regs ∧
      t.mem = s.mem) ∧
  (∀ (s : State),
    s.unit < 2 →
    ∃ t, exec (.heartbeatTx) s = .next t ∧ t = s) ∧
  (∀ (s : State) (x : Nat) (f : Fin 8) (h p : Bool) (o : BitVec 64),
    s.get PAIR_STATUS_link_up = 1 →
    s.pair.lostAt ≠ some s.ct →
    s.pair.partner = true →
    s.pair.alvStopped = false →
    s.faults.insts = [] →
    NoRung s →
    f.val ≠ 2 →
    p.toNat ≠ s.pos →
    s.pinServed = true →
    ∃ t, exec (.heartbeatRx x f h o p) s = .next t ∧ (t.pair.hbAt = some s.ct ∧ t.pair.misses = 0) ∧
      t.get PAIR_STATUS_partner_state = f.val ∧
      t.get PAIR_STATUS_pos_conflict = 0 ∧
      t.unit = s.unit ∧
      t.stitches = s.stitches ∧
      t.mem = s.mem) ∧
  (∀ (s : State) (x : Nat) (f : Fin 8) (h p : Bool) (o : BitVec 64),
    s.get PAIR_STATUS_link_up = 1 →
    s.pair.lostAt ≠ some s.ct →
    s.pair.partner = true →
    s.pair.alvStopped = false →
    s.faults.insts = [] →
    NoRung s →
    (s.kindCfg .pairConfig 0).1 ≠ 3 →
    p.toNat = s.pos →
    ∃ t, exec (.heartbeatRx x f h o p) s = .next t ∧ t.get PAIR_STATUS_pos_conflict = 1 ∧
      t.raised .pairConfig 0 = true ∧
      t.unit = s.unit ∧
      t.stitches = s.stitches) ∧
  (∀ (s : State),
    2 ≤ s.unit →
    s.pair.failed = false →
    s.pair.partner = true →
    (s.ct + 800) % 1600 < 2 →
    s.pair.hbChk ≠ some ((s.ct + 800) / 1600) →
    s.pair.hbAt = none →
    s.pair.misses < 2 →
    s.faults.insts = [] →
    s.swTouched = [] →
    ∃ t, exec (.heartbeatCheck) s = .next t ∧ Counted s t PAIR_CNT_HB_MISS_v ∧
      t.pair.misses = s.pair.misses + 1 ∧
      t.pair.partner = true ∧
      t.unit = s.unit ∧
      t.stitches = s.stitches ∧
      t.mem = s.mem) ∧
  (∀ (s : State),
    2 ≤ s.unit →
    s.pair.failed = false →
    s.pair.partner = true →
    (s.ct + 800) % 1600 < 2 →
    s.pair.hbChk ≠ some ((s.ct + 800) / 1600) →
    s.pair.hbAt = none →
    s.pair.misses = 2 →
    s.pair.alvStopped = false →
    MayRaise s .pairLink 0 →
    ∃ t, exec (.heartbeatCheck) s = .next t ∧ t.raised .pairLink 0 = true ∧
      t.pair.partner = true ∧
      t.unit = s.unit ∧
      t.stitches = s.stitches) ∧
  (∀ (s : State),
    NoRung s →
    s.unit = 3 →
    s.entering = [] →
    s.pair.partner = true →
    s.faults.insts = [] →
    (s.kindCfg .pairLost 0).1 ≠ 3 →
    s.get PAIR_STATUS_pos_conflict = 0 →
    s.pair.mirror = [] →
    s.pair.failed = false →
    (s.ct + 800) % 1600 < 2 →
    s.pair.hbChk ≠ some ((s.ct + 800) / 1600) →
    s.pair.hbAt = none →
    s.pair.misses = 2 →
    s.pair.alvStopped = true →
    ∃ t, exec (.heartbeatCheck) s = .next t ∧ t.unit = 4 ∧
      t.pair.partner = false ∧
      t.get PAIR_STATUS_lost_seen = 1 ∧
      t.raised .pairLost 0 = true ∧
      (∀ p : Fin 64, t.ownsPort p = true) ∧
      t.pair.lastSwap = s.ct ∧
      t.get PAIR_STATUS_transit_pending = 0) ∧
  (∀ (s : State),
    2 ≤ s.unit →
    s.pair.failed = false →
    s.pair.alvAt + 400 ≤ s.ct →
    ∃ t, exec (.aliveToggle) s = .next t ∧ t.pair.alvOut = !s.pair.alvOut ∧
      t.pair.alvAt = s.ct ∧
      t.regs = s.regs ∧
      t.stitches = s.stitches ∧
      t.mem = s.mem) ∧
  (∀ (s : State),
    2 ≤ s.unit →
    s.pair.failed = false →
    s.pair.partner = true →
    s.pair.misses = 0 →
    MayRaise s .pairAlive 0 →
    ∃ t, exec (.aliveStop) s = .next t ∧ t.get PAIR_STATUS_alive_in = 0 ∧
      t.pair.alvStopped = true ∧
      t.raised .pairAlive 0 = true ∧
      t.pair.partner = true ∧
      t.unit = s.unit ∧
      t.stitches = s.stitches) ∧
  (∀ (s : State),
    s.pair.partner = false →
    ∃ t, exec (.aliveStop) s = .next t ∧ t.get PAIR_STATUS_alive_in = 0 ∧
      t.pair.alvStopped = true ∧
      t.unit = s.unit ∧
      t.mem = s.mem) ∧
  (∀ (s : State) (c : Fin 5),
    NoRung s →
    s.unit = 3 →
    s.entering = [] →
    s.pair.partner = true →
    s.faults.insts = [] →
    (s.kindCfg .pairLost 0).1 ≠ 3 →
    s.get PAIR_STATUS_pos_conflict = 0 →
    s.pair.mirror = [] →
    ∃ t, exec (.failureNoticeRx c) s = .next t ∧ t.unit = 4 ∧
      t.pair.partner = false ∧
      t.get PAIR_STATUS_lost_seen = 1 ∧
      t.raised .pairLost 0 = true ∧
      (∀ p : Fin 64, t.ownsPort p = true) ∧
      t.pair.lastSwap = s.ct ∧
      t.get PAIR_STATUS_transit_pending = 0) ∧
  (∀ (s : State) (c : Fin 5),
    Runs s →
    s.get PAIR_STATUS_link_up = 1 →
    s.partnerRel.xoff = false ∧ s.partnerRel.backlog = [] ∧ s.partnerRel.again = [] ∧ s.partnerRel.unacked.length < 32 →
    c.val = 1 ∨ c.val = 2 →
    s.pair.failed = false →
    ∃ t, exec (.ownFailure c) s = .next t ∧ t.rst.held = true ∧
      (t.get RST_STATUS_kind = 2 ∧ t.get RST_STATUS_cause = 4) ∧
      t.out = s.out ++ [.failureNotice c.val] ∧
      t.rst.storedCt = some s.ct ∧
      (t.flash0 = s.flash0 ∧ t.flash1 = s.flash1)) ∧
  (∀ (s : State) (c : Fin 5),
    Runs s →
    s.get PAIR_STATUS_link_up = 1 →
    s.partnerRel.xoff = false ∧ s.partnerRel.backlog = [] ∧ s.partnerRel.again = [] ∧ s.partnerRel.unacked.length < 32 →
    c.val = 3 →
    s.pair.failed = false →
    ∃ t, exec (.ownFailure c) s = .next t ∧ t.unit = 0 ∧
      t.rst.dormantWhy = 4 ∧
      t.out = s.out ++ [.failureNotice 3] ∧
      (t.flash0 = s.flash0 ∧ t.flash1 = s.flash1)) ∧
  (∀ (s : State) (lanes : Fin 4),
    Runs s →
    s.entering = [] →
    ∃ t, exec (.partnerLinkUp lanes) s = .next t ∧ t.pair.linkLanes = lanes.val ∧
      (t.get PAIR_STATUS_link_up = 1 ∧ t.get PAIR_STATUS_alive_in = 1) ∧
      t.pair.alvStopped = false ∧
      t.unit = s.unit ∧
      t.stitches = s.stitches ∧
      t.mem = s.mem) ∧
  (∀ (s : State) (p : Fin 64),
    Runs s →
    s.entering = [] →
    ∃ t, exec (.partnerLinkDown) s = .next t ∧ t.get PAIR_STATUS_link_up = 0 ∧
      t.partnerRel = {} ∧
      t.get (PAIR_COVER_bit p) = 0 ∧
      t.get PAIR_STATUS_covered_all = 0 ∧
      (t.unit = s.unit ∧ t.ownsPort p = s.ownsPort p) ∧
      t.stitches = s.stitches ∧
      t.mem = s.mem)

/-- Completion of DIGEST_ROUND, DIGEST_RX, DIGEST_STEP_TIMEOUT, STATE_IMAGE_RX, EFFECT_MESSAGE_RX, CLAIM_RECORD_RX,
SHELF_DIGEST_RX, PORT_FLIGHTS_RX and PORT_MOVE_YIELD. A round sends the newest digest of a skein of an owned port that
stepped, and restarts its count. An equal digest is counted and joins the matched ones, up to 16; a different one is
counted as a mismatch and puts the skein out of step with an image wanted, as does a digest whose step does not follow
in 4 microseconds. An image of the last step replaces the job, is counted, and puts the skein in step. Of the effect
messages: BUDGET_POLICY of the partner takes its rank and lead; a mirrored slot is held; a pattern with no bank gives
an admitted unit the empty pattern and the pinned level, and a unit that is not admitted nothing. A newer claim takes
the port with its term, an older one changes nothing; a yield is claimed with the next term, claim_pending and a
count. The shelf digest gives a unit that is not active the hold-up state, its time and the energy; to an active one
it gives nothing. The pair's flights are the greater of both units' flights. A covered port down for 2 microseconds is
yielded in its record; a port not covered stays. (16_controller_pair.md, 01_one_plant.md) -/
def Obligations.ShadowIsKeptInStep : Prop :=
  (∀ (s : State) (k : Fin 2048) (x : Skein) (c : Nat) (d : Word),
    s.get PAIR_STATUS_link_up = 1 →
    s.partnerRel.xoff = false ∧ s.partnerRel.backlog = [] ∧ s.partnerRel.again = [] ∧ s.partnerRel.unacked.length < 32 →
    2 ≤ s.unit →
    s.pair.failed = false →
    s.pair.digestAt + us (8 / 2 ^ s.pair.linkLanes) ≤ s.ct →
    s.skeins = [(k.val, x)] →
    0 < x.stepsIn →
    x.ownDigest.getLast? = some (c, d) →
    s.ownsPort x.slot = true →
    ∃ t, exec (.digestRound) s = .next t ∧ t.out = s.out ++ [.digest k c d] ∧
      (t.sk k).stepsIn = 0 ∧
      t.pair.digestAt = s.ct ∧
      t.regs = s.regs ∧
      t.stitches = s.stitches ∧
      t.mem = s.mem) ∧
  (∀ (s : State) (k : Fin 2048) (c : BitVec 16) (d : Word),
    2 ≤ s.unit →
    s.pair.failed = false →
    s.swTouched = [] →
    s.ownsPort (s.sk k).slot = false →
    (s.sk k).ownDigest.find? (fun x => decide (x.1 = c.toNat)) = some (c.toNat, d) →
    ∃ t, exec (.digestRx k c d) s = .next t ∧ Counted s t PAIR_CNT_DIGEST_v ∧
      t.get PAIR_CNT_MISMATCH_v = s.get PAIR_CNT_MISMATCH_v ∧
      (t.sk k).matched = Nat.min 16 ((s.sk k).matched + 1) ∧
      (t.sk k).inStep = (s.sk k).inStep ∧
      t.stitches = s.stitches ∧
      t.mem = s.mem) ∧
  (∀ (s : State) (k : Fin 2048) (c : BitVec 16) (d own : Word),
    2 ≤ s.unit →
    s.pair.failed = false →
    s.swTouched = [] →
    s.ownsPort (s.sk k).slot = false →
    (s.sk k).ownDigest.find? (fun x => decide (x.1 = c.toNat)) = some (c.toNat, own) →
    own ≠ d →
    ∃ t, exec (.digestRx k c d) s = .next t ∧ Counted s t PAIR_CNT_DIGEST_v ∧
      Counted s t PAIR_CNT_MISMATCH_v ∧
      ((t.sk k).matched = 0 ∧ (t.sk k).inStep = false ∧ (t.sk k).wantImage = true) ∧
      t.stitches = s.stitches ∧
      t.mem = s.mem) ∧
  (∀ (s : State) (k : Fin 2048) (x : Nat × Nat × Word),
    (s.sk k).waitDigest = some x →
    x.2.1 + us 4 ≤ s.ct →
    ∃ t, exec (.digestStepTimeout k) s = .next t ∧ ((t.sk k).inStep = false ∧ (t.sk k).matched = 0 ∧ (t.sk k).waitDigest = none ∧ (t.sk k).wantImage = true) ∧
      t.stitches = s.stitches ∧
      t.mem = s.mem) ∧
  (∀ (s : State) (k : Fin 2048) (c : BitVec 16) (j : Job),
    Runs s →
    NoRung s →
    s.swTouched = [] →
    s.ownsPort (s.sk k).slot = false →
    (s.sk k).stepped = c.toNat →
    ∃ t, exec (.stateImageRx k c j) s = .next t ∧ (t.sk k).job = j ∧
      ((t.sk k).inStep = true ∧ (t.sk k).matched = 0 ∧ (t.sk k).wantImage = false) ∧
      Counted s t PAIR_CNT_IMAGE_v ∧
      t.stitches = s.stitches ∧
      t.mem = s.mem) ∧
  (∀ (s : State) (h : Mb) (p : List Byte),
    Runs s →
    NoRung s →
    u8 p 0 ≤ 7 →
    ∃ t, exec (.effectMessageRx (.command h 0xC13 p)) s = .next t ∧ t.get CAP_STATUS_rank = u8 p 0 ∧
      t.shelf.warnLead = u16 p 2 ∧
      t.skeins = s.skeins ∧
      t.stitches = s.stitches ∧
      t.mem = s.mem) ∧
  (∀ (s : State) (m : Mb) (k p : Fin 64) (b : List Byte),
    Runs s →
    s.pair.mirror = [] →
    ∃ t, exec (.effectMessageRx (.mgmtSlot m k p b)) s = .next t ∧ t.pair.mirror = [{ mb := m.val, slot := k.val, port := p.val, bytes := b }] ∧
      t.regs = s.regs ∧
      t.slots = s.slots ∧
      t.mem = s.mem) ∧
  (∀ (s : State) (pin : Fin 4),
    Runs s →
    MayRaise s .pairConfig 0 →
    s.unit = 2 →
    s.nv.settings = [] →
    ∃ t, exec (.effectMessageRx (.pattern [] pin [])) s = .next t ∧ (t.trust.pinned = pin.val ∧ t.trust.pinNext = pin.val) ∧
      t.pattern = {} ∧
      t.unit = 2 ∧
      t.stitches = s.stitches) ∧
  (∀ (s : State) (b : List Byte) (pin : Fin 4) (l : List (Nat × List Int)),
    Runs s →
    NoRung s →
    s.unit ≠ 2 →
    ∃ t, exec (.effectMessageRx (.pattern b pin l)) s = .next t ∧ t = s) ∧
  (∀ (s : State) (p : Fin 64) (x : BitVec 16),
    Runs s →
    termNewer (s.get (PAIR_TERM_term p)) x.toNat = true →
    ∃ t, exec (.claimRecordRx (.claim p x 0)) s = .next t ∧ t.ownsPort p = false ∧
      t.get (PAIR_TERM_term p) = x.toNat ∧
      t.unit = s.unit ∧
      t.stitches = s.stitches ∧
      t.mem = s.mem) ∧
  (∀ (s : State) (p : Fin 64) (x : BitVec 16) (e : Nat),
    termNewer (s.get (PAIR_TERM_term p)) x.toNat = false →
    ∃ t, exec (.claimRecordRx (.claim p x e)) s = .next t ∧ t = s) ∧
  (∀ (s : State) (n : Fin 64),
    Runs s →
    NoRung s →
    s.swTouched = [] →
    s.get PAIR_STATUS_pos_conflict = 0 →
    s.pair.mirror = [] →
    ∃ t, exec (.claimRecordRx (.yield n)) s = .next t ∧ t.ownsPort n = true ∧
      (t.get (PAIR_TERM_term n) = (s.get (PAIR_TERM_term n) + 1) % 65536 ∧ t.get (PAIR_TERM_claim_pending n) = 1) ∧
      Counted s t PAIR_CNT_CLAIM_v ∧
      t.unit = s.unit ∧
      t.stitches = s.stitches ∧
      t.mem = s.mem) ∧
  (∀ (s : State) (d : ShelfDigest),
    Runs s →
    s.active = false →
    d.holdup < 4 ∧ d.cause < 8 →
    ∃ t, exec (.shelfDigestRx d) s = .next t ∧ (t.get HU_STATUS_state = d.holdup ∧ t.get HU_STATUS_cause = d.cause ∧ t.get HU_STATUS_pfw = d.pfw.toNat) ∧
      (t.shelf.enteredAt = d.enteredAt ∧ t.shelf.energy = d.energy) ∧
      t.pair.shelfDigest = some d ∧
      t.unit = s.unit ∧
      t.mem = s.mem) ∧
  (∀ (s : State) (d : ShelfDigest),
    s.active = true →
    ∃ t, exec (.shelfDigestRx d) s = .next t ∧ t = s) ∧
  (∀ (s : State) (p : Fin 64) (u d w : Nat),
    Runs s →
    s.pair.partner = true →
    u ≤ 255 ∧ d ≤ 255 →
    ∃ t, exec (.portFlightsRx p u d w) s = .next t ∧ t.get (PORT_FLIGHT_pair_up_ns p) = Nat.max u (s.get (PORT_FLIGHT_up_ns p)) ∧
      t.get (PORT_FLIGHT_pair_down_ns p) = Nat.max d (s.get (PORT_FLIGHT_down_ns p)) ∧
      (t.port p).pairWidth = w ∧
      t.unit = s.unit ∧
      t.mem = s.mem) ∧
  (∀ (s : State) (n : Fin 64) (u : Nat),
    s.get PAIR_STATUS_link_up = 1 →
    s.partnerRel.xoff = false ∧ s.partnerRel.backlog = [] ∧ s.partnerRel.again = [] ∧ s.partnerRel.unacked.length < 32 →
    (s.port n).downSince = some u →
    u + us 2 ≤ s.ct →
    s.ownsPort n = true →
    s.get (PAIR_COVER_bit n) = 1 →
    ∃ t, exec (.portMoveYield n) s = .next t ∧ t.out = s.out ++ [.claimRec (.yield n)] ∧
      t.ownsPort n = false ∧
      t.unit = s.unit ∧
      t.slSt n = s.slSt n ∧
      t.stitches = s.stitches ∧
      t.mem = s.mem) ∧
  (∀ (s : State) (n : Fin 64),
    s.get (PAIR_COVER_bit n) = 0 →
    ∃ t, exec (.portMoveYield n) s = .next t ∧ t = s)

/-- Completion of TRANSIT_RX, TRANSIT_TIME, PERIODIC_TRANSIT, PROVE_TIMER, RECLAIM_REQUEST, PCIE_DOWN_TRANSIT,
TRANSIT_REQUEST_RX, PAIR_QUERY, PAIR_TRANSIT and PAIR_CTRL. A standby unit that receives a transit record claims every
port for T_x, the next term and claim_pending on each, and owns none before; another unit does nothing. At T_x the
outgoing unit owns no port and its shelf path stops; 20 microseconds later it is standby with PFW_N released, the
incoming unit active with hu_status.pfw as it was, the transit counted and no longer pending; before T_x nothing
changes. A transit is started 100 microseconds ahead, with its record sent, where the partner is standby and covers
every port: by the home unit when transit_h hours have passed, with auto_transit after the PCIe link was down, and at
the partner's request; without coverage a request starts none. A home unit on standby sends a request after prove_s of
proving, and after reclaim_s of coverage with reclaim_en. PAIR_TRANSIT with T_x 0 starts one and is held for it; it
ends with ST_BUSY, info 5, where none may start, and with ST_RANGE, info 0, where T_x is less than 100 microseconds
ahead. PAIR_CTRL sets its fields; PAIR_QUERY ends with the states, home and the owned ports. (16_controller_pair.md,
22_mailbox_commands.md) -/
def Obligations.TransitsSwapTheRoles : Prop :=
  (∀ (s : State) (x : Nat) (p : Fin 64),
    s.unit = 3 →
    s.pair.transitAt = none →
    s.pair.proving = none →
    s.get PAIR_STATUS_pos_conflict = 0 →
    x ≠ 0 →
    s.ownsPort p = false →
    ∃ t, exec (.transitRx x) s = .next t ∧ (t.pair.transitAt = some x ∧ t.pair.transitIn = true) ∧
      t.get PAIR_STATUS_transit_pending = 1 ∧
      (t.get (PAIR_TERM_term p) = (s.get (PAIR_TERM_term p) + 1) % 65536 ∧ t.get (PAIR_TERM_claim_pending p) = 1) ∧
      t.ownsPort p = false ∧
      t.unit = 3 ∧
      t.stitches = s.stitches ∧
      t.mem = s.mem) ∧
  (∀ (s : State) (x : Nat),
    s.unit ≠ 3 →
    ∃ t, exec (.transitRx x) s = .next t ∧ t = s) ∧
  (∀ (s : State) (x : Nat) (p : Fin 64),
    s.pair.transitAt = some x →
    x ≤ s.ct ∧ s.ct < x + us 20 →
    s.pair.transitIn = false ∧ s.pair.transitMid = false →
    ∃ t, exec (.transitTime) s = .next t ∧ t.ownsPort p = false ∧
      t.pair.transitMid = true ∧
      t.shelfOn = false ∧
      t.unit = s.unit ∧
      t.stitches = s.stitches ∧
      t.mem = s.mem) ∧
  (∀ (s : State) (x : Nat),
    NoRung s →
    s.swTouched = [] →
    s.pair.transitAt = some x →
    x + us 20 ≤ s.ct →
    s.pair.transitIn = false ∧ s.pair.transitMid = true ∧ s.pair.transitFor = none →
    ∃ t, exec (.transitTime) s = .next t ∧ t.unit = 3 ∧
      t.get HU_STATUS_pfw = 0 ∧
      Counted s t PAIR_CNT_TRANSIT_v ∧
      t.get PAIR_STATUS_transit_pending = 0 ∧
      (t.pair.transitAt = none ∧ t.pair.transitMid = false ∧ t.pair.lastSwap = x) ∧
      t.stitches = s.stitches ∧
      t.mem = s.mem) ∧
  (∀ (s : State) (x : Nat),
    NoRung s →
    s.swTouched = [] →
    s.pair.transitAt = some x →
    x + us 20 ≤ s.ct →
    s.pair.transitIn = true ∧ s.pair.transitMid = true ∧ s.pair.transitFor = none →
    ∃ t, exec (.transitTime) s = .next t ∧ t.unit = 4 ∧
      t.get HU_STATUS_pfw = s.get HU_STATUS_pfw ∧
      Counted s t PAIR_CNT_TRANSIT_v ∧
      (t.pair.transitAt = none ∧ t.pair.transitMid = false ∧ t.pair.lastSwap = x) ∧
      t.stitches = s.stitches ∧
      t.mem = s.mem) ∧
  (∀ (s : State) (x : Nat),
    s.pair.transitAt = some x →
    s.ct < x →
    ∃ t, exec (.transitTime) s = .next t ∧ t = s) ∧
  (∀ (s : State),
    s.active = true →
    s.get PAIR_STATUS_covered_all = 1 →
    s.get PAIR_STATUS_partner_state = 3 →
    s.get HU_STATUS_state ≠ 3 →
    s.pair.transitAt = none →
    s.get PAIR_STATUS_link_up = 1 →
    s.partnerRel.xoff = false ∧ s.partnerRel.backlog = [] ∧ s.partnerRel.again = [] ∧ s.partnerRel.unacked.length < 32 →
    s.isHome = true →
    s.pair.transitIn = false ∧ s.pair.periodicOff = false →
    s.get PAIR_CFG_transit_h ≠ 0 →
    s.pair.lastSwap + sec (3600 * s.get PAIR_CFG_transit_h) ≤ s.ct →
    ∃ t, exec (.periodicTransit) s = .next t ∧ t.pair.transitAt = some (s.ct + us 100) ∧
      t.get PAIR_STATUS_transit_pending = 1 ∧
      t.out = s.out ++ [.transitRec (s.ct + us 100)] ∧
      t.unit = 4 ∧
      t.stitches = s.stitches ∧
      t.mem = s.mem) ∧
  (∀ (s : State),
    s.get PAIR_CFG_transit_h = 0 →
    ∃ t, exec (.periodicTransit) s = .next t ∧ t = s) ∧
  (∀ (s : State) (u : Nat),
    s.get PAIR_STATUS_link_up = 1 →
    s.partnerRel.xoff = false ∧ s.partnerRel.backlog = [] ∧ s.partnerRel.again = [] ∧ s.partnerRel.unacked.length < 32 →
    s.pair.proving = some u →
    s.unit = 3 →
    s.isHome = true →
    u + sec (s.get PAIR_TIMING_prove_s) ≤ s.ct →
    ∃ t, exec (.proveTimer) s = .next t ∧ t.out = s.out ++ [.transitReq] ∧
      t.pair.proving = none ∧
      t.regs = s.regs ∧
      t.mem = s.mem) ∧
  (∀ (s : State),
    s.pair.proving = none →
    ∃ t, exec (.proveTimer) s = .next t ∧ t = s) ∧
  (∀ (s : State) (u : Nat),
    s.get PAIR_STATUS_link_up = 1 →
    s.partnerRel.xoff = false ∧ s.partnerRel.backlog = [] ∧ s.partnerRel.again = [] ∧ s.partnerRel.unacked.length < 32 →
    s.unit = 3 →
    s.isHome = true →
    s.get PAIR_CFG_reclaim_en = 1 →
    s.pair.coveringSince = some u →
    u + sec (s.get PAIR_TIMING_reclaim_s) ≤ s.ct →
    ∃ t, exec (.reclaimRequest) s = .next t ∧ t.out = s.out ++ [.transitReq] ∧
      t.regs = s.regs ∧
      t.pair = s.pair ∧
      t.mem = s.mem) ∧
  (∀ (s : State),
    s.active = true →
    s.get PAIR_STATUS_covered_all = 1 →
    s.get PAIR_STATUS_partner_state = 3 →
    s.get HU_STATUS_state ≠ 3 →
    s.pair.transitAt = none →
    s.get PAIR_STATUS_link_up = 1 →
    s.partnerRel.xoff = false ∧ s.partnerRel.backlog = [] ∧ s.partnerRel.again = [] ∧ s.partnerRel.unacked.length < 32 →
    s.get PAIR_CFG_auto_transit = 1 →
    ∃ t, exec (.pcieDownTransit) s = .next t ∧ t.pair.transitAt = some (s.ct + us 100) ∧
      t.get PAIR_STATUS_transit_pending = 1 ∧
      t.out = s.out ++ [.transitRec (s.ct + us 100)] ∧
      t.unit = 4 ∧
      t.stitches = s.stitches ∧
      t.mem = s.mem) ∧
  (∀ (s : State),
    s.active = true →
    s.get PAIR_STATUS_covered_all = 1 →
    s.get PAIR_STATUS_partner_state = 3 →
    s.get HU_STATUS_state ≠ 3 →
    s.pair.transitAt = none →
    s.get PAIR_STATUS_link_up = 1 →
    s.partnerRel.xoff = false ∧ s.partnerRel.backlog = [] ∧ s.partnerRel.again = [] ∧ s.partnerRel.unacked.length < 32 →
    ∃ t, exec (.transitRequestRx) s = .next t ∧ t.pair.transitAt = some (s.ct + us 100) ∧
      t.get PAIR_STATUS_transit_pending = 1 ∧
      t.out = s.out ++ [.transitRec (s.ct + us 100)] ∧
      t.unit = 4 ∧
      t.stitches = s.stitches ∧
      t.mem = s.mem) ∧
  (∀ (s : State),
    s.get PAIR_STATUS_covered_all = 0 →
    ∃ t, exec (.transitRequestRx) s = .next t ∧ t = s) ∧
  (∀ (s : State) (mb : Mb) (k : Fin 64),
    Ready s mb k 0xB01 →
    NoRung s →
    ∃ t, exec (.pairQuery mb k) s = .next t ∧ Done t mb k (cmdOf s mb k) 0 (s.unit + 8 * s.get PAIR_STATUS_partner_state + 64 * s.get PAIR_CFG_home) s.ownMask.toNat ∧
      t.pair = s.pair ∧
      t.stitches = s.stitches) ∧
  (∀ (s : State) (mb : Mb) (k : Fin 64),
    Ready s mb k 0xB02 →
    NoRung s →
    s.active = true →
    s.get PAIR_STATUS_covered_all = 1 →
    s.get PAIR_STATUS_partner_state = 3 →
    s.get HU_STATUS_state ≠ 3 →
    s.pair.transitAt = none →
    s.get PAIR_STATUS_link_up = 1 →
    s.partnerRel.xoff = false ∧ s.partnerRel.backlog = [] ∧ s.partnerRel.again = [] ∧ s.partnerRel.unacked.length < 32 →
    u64 (payloadOf s mb k) 0 = 0 →
    ∃ t, exec (.pairTransit mb k) s = .next t ∧ t.pair.transitAt = some (s.ct + us 100) ∧
      t.pair.transitFor = some (mb.val, k.val) ∧
      t.get PAIR_STATUS_transit_pending = 1 ∧
      t.unit = 4 ∧
      t.stitches = s.stitches) ∧
  (∀ (s : State) (mb : Mb) (k : Fin 64),
    Ready s mb k 0xB02 →
    NoRung s →
    s.get PAIR_STATUS_covered_all = 0 →
    u64 (payloadOf s mb k) 0 = 0 →
    Tail s mb k →
    ∃ t, exec (.pairTransit mb k) s = .next t ∧ Done t mb k (cmdOf s mb k) 2 5 0 ∧
      t.pair = s.pair ∧
      t.stitches = s.stitches) ∧
  (∀ (s : State) (mb : Mb) (k : Fin 64),
    Ready s mb k 0xB02 →
    NoRung s →
    u64 (payloadOf s mb k) 0 ≠ 0 ∧ u64 (payloadOf s mb k) 0 < s.ct + us 100 →
    Tail s mb k →
    ∃ t, exec (.pairTransit mb k) s = .next t ∧ Done t mb k (cmdOf s mb k) 4 0 0 ∧
      t.pair = s.pair ∧
      t.stitches = s.stitches) ∧
  (∀ (s : State) (mb : Mb) (k : Fin 64),
    Ready s mb k 0xB03 →
    NoRung s →
    u8 (payloadOf s mb k) 0 ≤ 1 ∧ u8 (payloadOf s mb k) 1 ≤ 3 →
    u16 (payloadOf s mb k) 2 ≤ 8760 →
    10 ≤ u16 (payloadOf s mb k) 4 ∧ u16 (payloadOf s mb k) 4 ≤ 3600 →
    60 ≤ u16 (payloadOf s mb k) 6 →
    ∃ t, exec (.pairCtrl mb k) s = .next t ∧ t.get PAIR_CFG_home = u8 (payloadOf s mb k) 0 ∧
      (t.get PAIR_CFG_reclaim_en = u8 (payloadOf s mb k) 1 % 2 ∧ t.get PAIR_CFG_auto_transit = u8 (payloadOf s mb k) 1 / 2) ∧
      t.get PAIR_CFG_transit_h = u16 (payloadOf s mb k) 2 ∧
      (t.get PAIR_TIMING_prove_s = u16 (payloadOf s mb k) 4 ∧ t.get PAIR_TIMING_reclaim_s = u16 (payloadOf s mb k) 6) ∧
      t.pair.periodicOff = false ∧
      Done t mb k (cmdOf s mb k) 0 0 0 ∧
      t.stitches = s.stitches)

/-- A raise of a kind whose class is not 3 is tracked, counted, marked seen and numbered in the log, and changes no
stitch, skein or unit state. Completion of GRACE_EXPIRE, SAFE_STOP_RESTART, FAULT_QUERY, FAULT_CLEAR, FAULT_CONFIG,
FAULT_INJECT and FAULT_LOG_READ. A due STITCH_SAMPLE_LOSS at its first and top rung 1 latches its stitch, with
last_rung 1, and its ladder is at its end; one on a port the unit does not own waits and no rung acts; an instance
that is absent, held or not due changes nothing. A safe stop 50 ms old restarts the unit with safe_stop_seen; the
third in an hour makes it dormant; the flash stays. A query ends with state, last rung, class and time. A clear of a
held instance ends its tracking, ST_OK; of a raised one it ends with ST_FAULT, info 1, is counted as premature and
changes no instance; of an idle one it ends with ST_OK and no effect. A configuration in range is set and changes no
tracked instance; of a fixed kind it ends with ST_RANGE, info 0. An injection in range is armed; while one is armed it
ends with ST_BUSY, info 2. A log read of the AF writes up to 15 records from the one asked for and ends with their
count. (17_fault_reaction.md, 22_mailbox_commands.md, 21_startup_and_reset.md) -/
def Obligations.FaultsAreCollectedAndCleared : Prop :=
  (∀ (s : State) (k : Kind) (i : Nat),
    MayRaise s k i →
    s.swTouched = [] →
    (s.raise k i).raised k i = true ∧
      Counted s (s.raise k i) (FLT_KCNT_raises k.code) ∧
      (s.raise k i).get (FLT_KSTAT_seen k.code) = 1 ∧
      (s.raise k i).get FLT_LOG_SEQ_v = (s.get FLT_LOG_SEQ_v + 1) % 2 ^ 32 ∧
      (s.raise k i).stitches = s.stitches ∧
      (s.raise k i).skeins = s.skeins ∧
      (s.raise k i).unit = s.unit) ∧
  (∀ (s : State) (g : BitVec 16) (x : Inst) (u c gr : Nat),
    s.faults.insts = [x] →
    s.faults.atOnce = [] →
    s.faults.kindOld = [] →
    x.kind = .stitchSampleLoss ∧ x.inst = g.toNat ∧ x.held = false ∧ x.last = 0 →
    x.graceAt = some u ∧ u ≤ s.ct →
    s.kindCfg .stitchSampleLoss g.toNat = (c, 1, 1, gr) →
    s.is (FLT_KIND_fixed 0x33) = false →
    s.is FLT_CTRL_ladder_en = true ∧ 1 ≤ s.get FLT_CTRL_max_rung →
    g.toNat < 8192 ∧ s.ownsPort (g.toNat / 128) = true →
    (s.st g.toNat).skein.isSome = true →
    ∃ t, exec (.graceExpire 0x33 g) s = .next t ∧ ((t.st g.toNat).latched = true ∧ (t.st g.toNat).state = 5) ∧
      t.get (STITCH_FLT_bit (g.toNat / 128) (g.toNat % 128)) = 1 ∧
      t.get FLT_STATUS_last_rung = 1 ∧
      t.faults.insts = [{ x with last := 1, graceAt := none, done := true, waits := false }] ∧
      t.skeins = s.skeins ∧
      t.ports = s.ports ∧
      t.rects = s.rects) ∧
  (∀ (s : State) (kind : Byte) (i : BitVec 16),
    ∀ y ∈ s.faults.insts, y.kind.code ≠ kind.toNat ∨ y.inst ≠ i.toNat ∨ y.held = true ∨ y.graceAt.all (fun u => decide (s.ct < u)) = true →
    ∃ t, exec (.graceExpire kind i) s = .next t ∧ t = s) ∧
  (∀ (s : State) (g : BitVec 16) (x : Inst) (u : Nat),
    s.faults.insts = [x] →
    s.faults.atOnce = [] →
    x.kind = .stitchSampleLoss ∧ x.inst = g.toNat ∧ x.held = false ∧ x.last = 0 ∧ x.waits = false ∧ x.cls = 2 →
    x.graceAt = some u ∧ u ≤ s.ct →
    s.faults.kindOld = [] →
    1 ≤ (s.kindCfg .stitchSampleLoss g.toNat).2.1 ∧ (s.kindCfg .stitchSampleLoss g.toNat).2.1 ≤ 3 ∧ (s.kindCfg .stitchSampleLoss g.toNat).2.1 ≤ Nat.min (s.kindCfg .stitchSampleLoss g.toNat).2.2.1 (s.get FLT_CTRL_max_rung) →
    s.is (FLT_KIND_fixed 0x33) = false →
    s.is FLT_CTRL_ladder_en = true →
    s.ownsPort (g.toNat / 128) = false →
    ∃ t, exec (.graceExpire 0x33 g) s = .next t ∧ t.faults.insts = [{ x with waits := true }] ∧
      t.stitches = s.stitches ∧
      t.skeins = s.skeins ∧
      t.ports = s.ports) ∧
  (∀ (s : State) (u : Nat),
    s.faults.safeStopAt = some u →
    u + ms 50 ≤ s.ct →
    (s.faults.safeStops.filter (fun v => decide (s.ct < v + sec 3600))).length < 3 →
    ∃ t, exec (.safeStopRestart) s = .next t ∧ (t.get RST_STATUS_kind = 2 ∧ t.get RST_STATUS_cause = 3) ∧
      t.get FLT_STATUS_safe_stop_seen = 1 ∧
      t.rst.held = true ∧
      t.rst.storedCt = some s.ct ∧
      (t.gpio = s.gpio ∧ t.gpioDriven = s.gpioDriven) ∧
      (t.flash0 = s.flash0 ∧ t.flash1 = s.flash1) ∧
      (t.nv.die0 = s.nv.die0 ∧ t.nv.die1 = s.nv.die1) ∧
      t.stitches = []) ∧
  (∀ (s : State) (u : Nat),
    s.faults.safeStopAt = some u →
    u + ms 50 ≤ s.ct →
    3 ≤ (s.faults.safeStops.filter (fun v => decide (s.ct < v + sec 3600))).length →
    ∃ t, exec (.safeStopRestart) s = .next t ∧ t.unit = 0 ∧
      t.rst.dormantWhy = 2 ∧
      (t.flash0 = s.flash0 ∧ t.flash1 = s.flash1) ∧
      t.stitches = []) ∧
  (∀ (s : State) (mb : Mb) (k : Fin 64) (kd : Kind),
    Ready s mb k 0x701 →
    NoRung s →
    Passes s (s.instChecks mb (payloadOf s mb k)) →
    Kind.ofCode (u8 (payloadOf s mb k) 0) = some kd →
    ∃ t, exec (.faultQuery mb k) s = .next t ∧ Done t mb k (cmdOf s mb k) 0 ((s.instState kd (u16 (payloadOf s mb k) 2)).1 + 4 * (s.instState kd (u16 (payloadOf s mb k) 2)).2.1 + 32 * (s.instState kd (u16 (payloadOf s mb k) 2)).2.2.1) (s.instState kd (u16 (payloadOf s mb k) 2)).2.2.2 ∧
      t.faults = s.faults ∧
      t.stitches = s.stitches) ∧
  (∀ (s : State) (mb : Mb) (k : Fin 64) (kd : Kind) (x : Inst),
    Ready s mb k 0x702 →
    NoRung s →
    Passes s (s.instChecks mb (payloadOf s mb k)) →
    Kind.ofCode (u8 (payloadOf s mb k) 0) = some kd →
    s.instOf kd (u16 (payloadOf s mb k) 2) = some x →
    x.held = true →
    ∃ t, exec (.faultClear mb k) s = .next t ∧ Done t mb k (cmdOf s mb k) 0 0 0 ∧
      t.instOf kd (u16 (payloadOf s mb k) 2) = none ∧
      t.get FLT_LOG_SEQ_v = (s.get FLT_LOG_SEQ_v + 1) % 2 ^ 32 ∧
      t.get FLT_PREMATURE_v = s.get FLT_PREMATURE_v ∧
      t.stitches = s.stitches) ∧
  (∀ (s : State) (mb : Mb) (k : Fin 64) (kd : Kind) (x : Inst),
    Ready s mb k 0x702 →
    NoRung s →
    s.swTouched = [] →
    Passes s (s.instChecks mb (payloadOf s mb k)) →
    Kind.ofCode (u8 (payloadOf s mb k) 0) = some kd →
    s.instOf kd (u16 (payloadOf s mb k) 2) = some x →
    x.held = false →
    Tail s mb k →
    ∃ t, exec (.faultClear mb k) s = .next t ∧ Done t mb k (cmdOf s mb k) 9 1 0 ∧
      Counted s t FLT_PREMATURE_v ∧
      t.faults.insts = s.faults.insts ∧
      t.get FLT_LOG_SEQ_v = (s.get FLT_LOG_SEQ_v + 1) % 2 ^ 32 ∧
      t.stitches = s.stitches) ∧
  (∀ (s : State) (mb : Mb) (k : Fin 64) (kd : Kind),
    Ready s mb k 0x702 →
    NoRung s →
    Passes s (s.instChecks mb (payloadOf s mb k)) →
    Kind.ofCode (u8 (payloadOf s mb k) 0) = some kd →
    s.instOf kd (u16 (payloadOf s mb k) 2) = none →
    ∃ t, exec (.faultClear mb k) s = .next t ∧ Done t mb k (cmdOf s mb k) 0 0 0 ∧
      t.faults = s.faults ∧
      t.stitches = s.stitches) ∧
  (∀ (s : State) (mb : Mb) (k : Fin 64) (c : Nat),
    Ready s mb k 0x703 →
    NoRung s →
    s.swTouched = [] →
    u8 (payloadOf s mb k) 0 = c →
    kindListed c = true ∧ s.is (FLT_KIND_fixed c) = false →
    u8 (payloadOf s mb k) 1 ≤ 3 ∧ u8 (payloadOf s mb k) 2 ≤ u8 (payloadOf s mb k) 3 ∧ u8 (payloadOf s mb k) 3 ≤ 4 ∧ 1 ≤ u16 (payloadOf s mb k) 4 ∧ u16 (payloadOf s mb k) 4 ≤ 10000 ∧ u8 (payloadOf s mb k) 6 ≤ 1 →
    ∃ t, exec (.faultConfig mb k) s = .next t ∧ Done t mb k (cmdOf s mb k) 0 0 0 ∧
      (t.get (FLT_KIND_class c) = u8 (payloadOf s mb k) 1 ∧ t.get (FLT_KIND_rung_first c) = u8 (payloadOf s mb k) 2 ∧ t.get (FLT_KIND_rung_max c) = u8 (payloadOf s mb k) 3) ∧
      (t.get (FLT_KIND_grace_val c) = u16 (payloadOf s mb k) 4 ∧ t.get (FLT_KIND_grace_unit c) = u8 (payloadOf s mb k) 6) ∧
      t.faults.insts = s.faults.insts ∧
      t.stitches = s.stitches) ∧
  (∀ (s : State) (mb : Mb) (k : Fin 64) (c : Nat),
    Ready s mb k 0x703 →
    NoRung s →
    u8 (payloadOf s mb k) 0 = c →
    s.is (FLT_KIND_fixed c) = true →
    Tail s mb k →
    ∃ t, exec (.faultConfig mb k) s = .next t ∧ Done t mb k (cmdOf s mb k) 4 0 0 ∧
      t.faults = s.faults ∧
      t.get (FLT_KIND_class c) = s.get (FLT_KIND_class c) ∧
      t.stitches = s.stitches) ∧
  (∀ (s : State) (mb : Mb) (k : Fin 64),
    Ready s mb k 0x704 →
    NoRung s →
    u8 (payloadOf s mb k) 0 ≤ 6 ∧ 1 ≤ u8 (payloadOf s mb k) 1 ∧ u8 (payloadOf s mb k) 1 ≤ (if u8 (payloadOf s mb k) 0 < 2 then 2 else 1) ∧ 1 ≤ u8 (payloadOf s mb k) 2 ∧ u8 (payloadOf s mb k) 2 ≤ 16 →
    injectBad (u8 (payloadOf s mb k) 0) (u16 (payloadOf s mb k) 4) = false →
    s.pair.transitAt = none ∧ s.faults.inject = none ∧ s.hupNormal = true →
    u8 (payloadOf s mb k) 0 ≠ 5 ∨ s.partnerReady = true →
    ∃ t, exec (.faultInject mb k) s = .next t ∧ Done t mb k (cmdOf s mb k) 0 0 0 ∧
      t.faults.inject = some (u8 (payloadOf s mb k) 0, u8 (payloadOf s mb k) 1, u8 (payloadOf s mb k) 2, u16 (payloadOf s mb k) 4) ∧
      t.get FLT_STATUS_inject_armed = 1 ∧
      t.faults.insts = s.faults.insts ∧
      t.stitches = s.stitches) ∧
  (∀ (s : State) (mb : Mb) (k : Fin 64),
    Ready s mb k 0x704 →
    NoRung s →
    u8 (payloadOf s mb k) 0 ≤ 6 ∧ 1 ≤ u8 (payloadOf s mb k) 1 ∧ u8 (payloadOf s mb k) 1 ≤ (if u8 (payloadOf s mb k) 0 < 2 then 2 else 1) ∧ 1 ≤ u8 (payloadOf s mb k) 2 ∧ u8 (payloadOf s mb k) 2 ≤ 16 →
    injectBad (u8 (payloadOf s mb k) 0) (u16 (payloadOf s mb k) 4) = false →
    s.pair.transitAt = none ∧ s.faults.inject.isSome = true →
    Tail s mb k →
    ∃ t, exec (.faultInject mb k) s = .next t ∧ Done t mb k (cmdOf s mb k) 2 2 0 ∧
      t.faults = s.faults ∧
      t.stitches = s.stitches) ∧
  (∀ (s : State) (mb : Mb) (k : Fin 64) (l : List LogRec),
    Ready s mb k 0x705 →
    NoRung s →
    mb.val = 256 →
    (s.faults.log.filter (fun r => decide ((r.seq + 2 ^ 32 - u32 (payloadOf s mb k) 0) % 2 ^ 32 < 2 ^ 31))).take 15 = l →
    ∃ t, exec (.faultLogRead mb k) s = .next t ∧ Done t mb k (cmdOf s mb k) 0 0 l.length ∧
      Mem.readBytes Mem.blank t.mem (winBase mb + 0x4000 + 256 * k + 16) (16 * l.length) = l.flatMap LogRec.bytes ∧
      t.faults = s.faults ∧
      t.stitches = s.stitches)

/-- Completion of NV_RECORD_DONE, HOLDUP_DIE_MEASURE, NV_BOOT_SCAN_DONE, NW_READ, NW_LAST_FAULT, NW_TRIGGER and
NW_CTRL_SET. A copy verified on NV0 is stored there and its write to NV1 follows; one verified on NV1 is stored there
and, the last of the queue, ends the writing. A differing read-back with fewer than 3 rewrites is written again and
counted, nothing stored; after 3 it raises NV_WRITE and both dies stay in service; at the third such record of a die
it is lost, in NV_STATUS and ID_DIES, with NV_WRITE and NV_COPY_LOST. With nothing to write nothing changes. The
measurement of the hold-up die sets holdup_ok, or clears it and raises HOLDUP_DIE. The boot scan takes a last-fault
record whose second copy is torn from the good one, counts it with torn_seen, and resumes the sequence of region 4
after it; a second scan changes nothing. NW_READ delivers the one good fault record that the reader may read and ends
with count 1 and the next sequence number; a record of another holder is not delivered; another region than 3 and 5
ends with ST_RANGE, info 0. NW_LAST_FAULT of the unit delivers the record, ends with die 0, repaired, and rewrites the
torn copy; without a record it ends with ST_FAULT, info 4. NW_TRIGGER starts a capture of the stitch with the next id;
with 4 in progress it is skipped and counted, id 0; with capture_en clear it ends with id 0. NW_CTRL_SET sets its
fields. (18_nightwatch_recorder.md, 22_mailbox_commands.md, 01_one_plant.md) -/
def Obligations.RecordsAreWrittenReadAndRepaired : Prop :=
  (∀ (s : State) (w : NvWrite) (l : List NvWrite),
    s.nv.queue = w :: l →
    w.die = 0 →
    s.nvLost 0 = false ∧ s.nvLost 1 = false →
    s.raised .nvWrite 5 = false →
    ∃ t, exec (.nvRecordDone true) s = .next t ∧ Tbl.find? t.nv.die0 (nvKey w.region w.index) = some { w.copy with torn := false } ∧
      t.nv.queue = { w with die := 1, tries := 0, started := true } :: l ∧
      t.nv.die1 = s.nv.die1 ∧
      t.get NV_STATUS_writing = s.get NV_STATUS_writing ∧
      t.mem = s.mem ∧
      t.stitches = s.stitches ∧
      t.skeins = s.skeins) ∧
  (∀ (s : State) (w : NvWrite),
    s.nv.queue = [w] →
    w.die = 1 →
    s.nvLost 0 = false ∧ s.nvLost 1 = false →
    s.raised .nvWrite 6 = false →
    ∃ t, exec (.nvRecordDone true) s = .next t ∧ Tbl.find? t.nv.die1 (nvKey w.region w.index) = some { w.copy with torn := false } ∧
      t.nv.queue = [] ∧
      t.get NV_STATUS_writing = 0 ∧
      t.nv.die0 = s.nv.die0 ∧
      t.mem = s.mem ∧
      t.stitches = s.stitches ∧
      t.skeins = s.skeins) ∧
  (∀ (s : State) (w : NvWrite) (l : List NvWrite),
    s.swTouched = [] →
    s.nv.queue = w :: l →
    w.die = 0 →
    w.tries < 3 →
    s.nvLost 0 = false ∧ s.nvLost 1 = false →
    ∃ t, exec (.nvRecordDone false) s = .next t ∧ Counted s t NW_CNT_REWRITE_v ∧
      t.nv.queue = { w with tries := w.tries + 1, started := true } :: l ∧
      (t.nv.die0 = s.nv.die0 ∧ t.nv.die1 = s.nv.die1) ∧
      t.faults = s.faults ∧
      t.mem = s.mem ∧
      t.stitches = s.stitches ∧
      t.skeins = s.skeins) ∧
  (∀ (s : State) (w : NvWrite) (l : List NvWrite),
    s.nv.queue = w :: l →
    w.die = 0 →
    3 ≤ w.tries →
    s.nv.fails = [0, 0] →
    MayRaise s .nvWrite 5 →
    s.nvLost 0 = false ∧ s.nvLost 1 = false →
    ∃ t, exec (.nvRecordDone false) s = .next t ∧ t.raised .nvWrite 5 = true ∧
      t.nv.fails = [1, 0] ∧
      (t.nvLost 0 = false ∧ t.nvLost 1 = false) ∧
      t.nv.die1 = s.nv.die1 ∧
      t.stitches = s.stitches ∧
      t.skeins = s.skeins) ∧
  (∀ (s : State) (w : NvWrite) (l : List NvWrite),
    s.nv.queue = w :: l →
    w.die = 0 →
    3 ≤ w.tries →
    s.nv.fails = [2, 0] →
    NoRung s →
    s.faults.insts = [] →
    (s.kindCfg .nvWrite 5).1 ≠ 3 ∧ (s.kindCfg .nvCopyLost 5).1 ≠ 3 →
    s.nvLost 0 = false ∧ s.nvLost 1 = false →
    ∃ t, exec (.nvRecordDone false) s = .next t ∧ t.get NV_STATUS_nv0_lost = 1 ∧
      t.get ID_DIES_lost = s.get ID_DIES_lost ||| 32 ∧
      (t.raised .nvWrite 5 = true ∧ t.raised .nvCopyLost 5 = true) ∧
      t.nvLost 1 = false ∧
      t.nv.die1 = s.nv.die1 ∧
      t.stitches = s.stitches ∧
      t.skeins = s.skeins) ∧
  (∀ (s : State) (b : Bool),
    s.nv.queue = [] →
    ∃ t, exec (.nvRecordDone b) s = .next t ∧ t = s) ∧
  (∀ (s : State),
    Runs s →
    NoRung s →
    s.raised .holdupDie 7 = false →
    ∃ t, exec (.holdupDieMeasure true) s = .next t ∧ t.get NV_STATUS_holdup_ok = 1 ∧
      t.faults = s.faults ∧
      t.nv = s.nv ∧
      t.mem = s.mem ∧
      t.stitches = s.stitches ∧
      t.skeins = s.skeins) ∧
  (∀ (s : State),
    Runs s →
    MayRaise s .holdupDie 7 →
    ∃ t, exec (.holdupDieMeasure false) s = .next t ∧ t.get NV_STATUS_holdup_ok = 0 ∧
      t.raised .holdupDie 7 = true ∧
      (t.nv.die0 = s.nv.die0 ∧ t.nv.die1 = s.nv.die1) ∧
      t.stitches = s.stitches ∧
      t.skeins = s.skeins) ∧
  (∀ (s : State),
    s.get NW_STATUS_scan_done = 1 →
    ∃ t, exec (.nvBootScanDone) s = .next t ∧ t = s) ∧
  (∀ (s : State) (p : Fin 3584) (x y : NvCopy),
    Runs s →
    s.get NW_STATUS_scan_done = 0 →
    NoRung s →
    s.swTouched = [] →
    s.faults.inject = none →
    s.nv.die0 = [(nvKey 4 (4608 + p), x)] ∧ s.nv.die1 = [(nvKey 4 (4608 + p), y)] →
    s.goodCopy x = true →
    s.readable y = true ∧ s.garbled y = true ∧ y.uncorr = false →
    newer x.seq (Tbl.get s.nv.seqs 4 0) = true →
    s.raised .nvRead 6 = false →
    s.nvLost 0 = false ∧ s.nvLost 1 = false →
    ∃ t, exec (.nvBootScanDone) s = .next t ∧ (t.get NW_STATUS_scan_done = 1 ∧ t.get NW_STATUS_torn_seen = 1) ∧
      (t.nv.die0 = s.nv.die0 ∧ t.nv.die1 = s.nv.die0) ∧
      Counted s t NW_CNT_TORN_v ∧
      Tbl.get t.nv.seqs 4 0 = (x.seq + 1) % 2 ^ 32 ∧
      t.faults = s.faults ∧
      t.mem = s.mem ∧
      t.stitches = s.stitches ∧
      t.skeins = s.skeins) ∧
  (∀ (s : State) (mb : Mb) (k : Fin 64) (key : Nat) (x : NvCopy),
    Ready s mb k 0xA01 →
    NoRung s →
    u8 (payloadOf s mb k) 0 = 3 ∧ u32 (payloadOf s mb k) 4 = 0xFFFFFFFF →
    s.get NW_STATUS_scan_done = 1 →
    s.nv.queue = [] →
    s.faults.inject = none →
    s.nv.die0 = [(key, x)] ∧ s.nv.die1 = [(key, x)] →
    key / 65536 = 3 →
    s.goodCopy x = true →
    mb.val = 256 ∨ x.holder = mb.val →
    s.nvLost 0 = false ∧ s.nvLost 1 = false →
    ∃ t, exec (.nwRead mb k) s = .next t ∧ Done t mb k (cmdOf s mb k) 0 0 (1 + 2 ^ 32 * Tbl.get s.nv.seqs 3 0) ∧
      Mem.readBytes Mem.blank t.mem (winBase mb + 0x4000 + 256 * k + 16) x.bytes.length = x.bytes ∧
      t.nv = s.nv ∧
      t.stitches = s.stitches ∧
      t.skeins = s.skeins) ∧
  (∀ (s : State) (mb : Mb) (k : Fin 64) (key : Nat) (x : NvCopy),
    Ready s mb k 0xA01 →
    NoRung s →
    u8 (payloadOf s mb k) 0 = 3 →
    s.get NW_STATUS_scan_done = 1 →
    s.nv.queue = [] →
    s.nv.die0 = [(key, x)] ∧ s.nv.die1 = [(key, x)] →
    x.holder ≠ mb.val ∧ mb.val ≠ 256 →
    ∃ t, exec (.nwRead mb k) s = .next t ∧ Done t mb k (cmdOf s mb k) 0 0 (2 ^ 32 * Tbl.get s.nv.seqs 3 0) ∧
      t.nv = s.nv ∧
      t.stitches = s.stitches ∧
      t.skeins = s.skeins) ∧
  (∀ (s : State) (mb : Mb) (k : Fin 64),
    Ready s mb k 0xA01 →
    NoRung s →
    u8 (payloadOf s mb k) 0 ≠ 3 ∧ u8 (payloadOf s mb k) 0 ≠ 5 →
    s.nv.queue = [] →
    Tail s mb k →
    ∃ t, exec (.nwRead mb k) s = .next t ∧ Done t mb k (cmdOf s mb k) 4 0 0 ∧
      t.nv = s.nv ∧
      t.stitches = s.stitches ∧
      t.skeins = s.skeins) ∧
  (∀ (s : State) (mb : Mb) (k : Fin 64) (x y : NvCopy),
    Ready s mb k 0xA02 →
    NoRung s →
    s.swTouched = [] →
    mb.val = 256 →
    u8 (payloadOf s mb k) 0 = 2 →
    s.get NW_STATUS_scan_done = 1 →
    s.nv.queue = [] →
    s.faults.inject = none →
    Tbl.find? s.nv.die0 (nvKey 4 6720) = some x ∧ Tbl.find? s.nv.die1 (nvKey 4 6720) = some y →
    s.goodCopy x = true →
    s.readable y = true ∧ s.garbled y = true ∧ y.uncorr = false →
    s.raised .nvRead 6 = false →
    s.nvLost 0 = false ∧ s.nvLost 1 = false →
    ∃ t, exec (.nwLastFault mb k) s = .next t ∧ Done t mb k (cmdOf s mb k) 0 2 0 ∧
      Tbl.find? t.nv.die1 (nvKey 4 6720) = some x ∧
      Counted s t NW_CNT_TORN_v ∧
      t.nv.die0 = s.nv.die0 ∧
      t.stitches = s.stitches ∧
      t.skeins = s.skeins) ∧
  (∀ (s : State) (mb : Mb) (k : Fin 64),
    Ready s mb k 0xA02 →
    NoRung s →
    mb.val = 256 →
    u8 (payloadOf s mb k) 0 = 2 →
    s.get NW_STATUS_scan_done = 1 →
    s.nv.queue = [] →
    Tbl.find? s.nv.die0 (nvKey 4 6720) = none ∧ Tbl.find? s.nv.die1 (nvKey 4 6720) = none →
    Tail s mb k →
    ∃ t, exec (.nwLastFault mb k) s = .next t ∧ Done t mb k (cmdOf s mb k) 9 4 0 ∧
      (t.nv.die0 = s.nv.die0 ∧ t.nv.die1 = s.nv.die1) ∧
      t.stitches = s.stitches ∧
      t.skeins = s.skeins) ∧
  (∀ (s : State) (mb : Mb) (k : Fin 64) (g : Nat),
    Ready s mb k 0xA03 →
    NoRung s →
    u8 (payloadOf s mb k) 0 = 0 ∧ u16 (payloadOf s mb k) 2 = g ∧ 1 ≤ u8 (payloadOf s mb k) 4 ∧ u8 (payloadOf s mb k) 4 ≤ 48 →
    s.stitchBad mb g = false →
    (s.st g).skein.isSome = true →
    s.get NW_CTRL_capture_en = 1 →
    s.nv.caps = [] →
    ∀ c ∈ s.nv.capLog, c.1 ≠ g →
    s.get NW_CAP_ID_id < 1000000 →
    ∃ t, exec (.nwTrigger mb k) s = .next t ∧ Done t mb k (cmdOf s mb k) 0 0 (s.get NW_CAP_ID_id + 1) ∧
      t.get NW_CAP_ID_id = s.get NW_CAP_ID_id + 1 ∧
      t.nv.caps = [{ id := s.get NW_CAP_ID_id + 1, kind := 0xFF, startedAt := s.ct, post := u8 (payloadOf s mb k) 4, left := [(g, u8 (payloadOf s mb k) 4)], staged := [(g, (s.st g).ring.map (·.2))], pre := [(g, (s.st g).ring.length)] }] ∧
      t.get NW_STATUS_in_progress = 1 ∧
      t.nv.queue = s.nv.queue ∧
      t.stitches = s.stitches ∧
      t.skeins = s.skeins) ∧
  (∀ (s : State) (mb : Mb) (k : Fin 64) (g : Nat),
    Ready s mb k 0xA03 →
    NoRung s →
    s.swTouched = [] →
    u8 (payloadOf s mb k) 0 = 0 ∧ u16 (payloadOf s mb k) 2 = g ∧ u8 (payloadOf s mb k) 4 ≤ 48 →
    s.stitchBad mb g = false →
    s.get NW_CTRL_capture_en = 1 →
    4 ≤ s.nv.caps.length →
    ∃ t, exec (.nwTrigger mb k) s = .next t ∧ Done t mb k (cmdOf s mb k) 0 0 0 ∧
      Counted s t NW_CNT_SKIP_v ∧
      t.get NW_STATUS_skip_seen = 1 ∧
      t.nv = s.nv ∧
      t.stitches = s.stitches ∧
      t.skeins = s.skeins) ∧
  (∀ (s : State) (mb : Mb) (k : Fin 64) (g : Nat),
    Ready s mb k 0xA03 →
    NoRung s →
    u8 (payloadOf s mb k) 0 = 0 ∧ u16 (payloadOf s mb k) 2 = g ∧ u8 (payloadOf s mb k) 4 ≤ 48 →
    s.stitchBad mb g = false →
    s.get NW_CTRL_capture_en = 0 →
    ∃ t, exec (.nwTrigger mb k) s = .next t ∧ Done t mb k (cmdOf s mb k) 0 0 0 ∧
      t.nv = s.nv ∧
      t.stitches = s.stitches ∧
      t.skeins = s.skeins) ∧
  (∀ (s : State) (mb : Mb) (k : Fin 64),
    Ready s mb k 0xA04 →
    NoRung s →
    s.swTouched = [] →
    u8 (payloadOf s mb k) 0 ≤ 3 ∧ u8 (payloadOf s mb k) 1 ≤ 48 →
    ∃ t, exec (.nwCtrlSet mb k) s = .next t ∧ Done t mb k (cmdOf s mb k) 0 0 0 ∧
      (t.get NW_CTRL_capture_en = u8 (payloadOf s mb k) 0 % 2 ∧ t.get NW_CTRL_freeze = u8 (payloadOf s mb k) 0 / 2 ∧ t.get NW_CTRL_post = u8 (payloadOf s mb k) 1) ∧
      t.nv = s.nv ∧
      t.stitches = s.stitches ∧
      t.skeins = s.skeins)

/-- Completion of TW_TRANSACTION_DONE, TW_ARB_LOST, TW_STRETCH_TIMEOUT, TW_SCL_STUCK, TW_SDA_STUCK, TW_STUCK_RETRY,
TW_ATTENTION, TW_ATTN_ASSERT, TW_TARGET_READ, TW_TARGET_WRITE, TW_TARGET_TIMEOUT and TW_WAKE. A NACK is counted and is
a failed attempt; a PEC mismatch is counted and, the third failed attempt of an alert read, removes it; a good end
removes the transaction with its tries and losses. A loss is counted with arb_lost_seen; the eighth in a row is a
failed attempt. A stretch timeout of a controller port without transactions raises TW_STRETCH with stretch_seen and a
count, and with SDA low leaves the bus recovering, due at once; in the cycle of a loss it changes nothing. A stuck SCL
raises TW_STUCK with a test in 100 ms, the transactions kept. A recovery is counted and sends its pulses: SDA free,
the bus is idle; else it is stuck with stuck_seen and TW_STUCK. A retry with SCL low comes again in 100 ms; with SCL
high and SDA free it ends TW_STUCK. An attention records the address, is counted with attn_seen, and tells the AF of
an unknown device or reads the status word of a rectifier next. A served port asserts a due attention, again in 1 s;
answers a read of a recognised address with the word of the target map, 0 from code 9 on; NACKs a write, no port
changed; and counts a timeout. Another address changes nothing. A dormant unit with wake_en NACKs and holds wake cause
9; without it nothing changes. (19_two_wire_ports.md, 10_shelf_energy.md, 21_startup_and_reset.md) -/
def Obligations.TwoWirePortsServeBothRoles : Prop :=
  (∀ (s : State) (p : Fin 8) (j : Nat × Nat × Nat) (l : List (Nat × Nat × Nat)),
    NoRung s →
    s.swTouched = [] →
    s.twBusy p = true →
    (s.tw p).jobs = j :: l →
    (s.tw p).tries < 2 →
    ∃ t, exec (.twTransactionDone p .nack) s = .next t ∧ Counted s t (TW_CNT_NACK_v p) ∧
      ((t.tw p).jobs = j :: l ∧ (t.tw p).tries = (s.tw p).tries + 1) ∧
      t.rects = s.rects ∧
      t.mem = s.mem ∧
      t.stitches = s.stitches ∧
      t.skeins = s.skeins) ∧
  (∀ (s : State) (p : Fin 8) (j : Nat × Nat × Nat) (l : List (Nat × Nat × Nat)),
    NoRung s →
    s.swTouched = [] →
    s.twBusy p = true →
    (s.tw p).jobs = j :: l →
    2 ≤ (s.tw p).tries →
    j.1 = 255 →
    ∃ t, exec (.twTransactionDone p .pec) s = .next t ∧ Counted s t (TW_CNT_PEC_v p) ∧
      ((t.tw p).jobs = l ∧ (t.tw p).tries = 0) ∧
      t.rects = s.rects ∧
      t.mem = s.mem ∧
      t.stitches = s.stitches ∧
      t.skeins = s.skeins) ∧
  (∀ (s : State) (p : Fin 8) (d : BitVec 16) (l : List (Nat × Nat × Nat)),
    NoRung s →
    s.holdupCauses = 0 →
    s.twBusy p = true →
    (s.tw p).jobs = (255, 0x0C, 1) :: l →
    s.twRect p (d.toNat % 128) = none ∧ s.twStr p (d.toNat % 128) = none →
    s.raised .twStretch p = false →
    ∃ t, exec (.twTransactionDone p (.ok d)) s = .next t ∧ ((t.tw p).jobs = l ∧ (t.tw p).tries = 0 ∧ (t.tw p).losses = 0) ∧
      t.regs = s.regs ∧
      t.rects = s.rects ∧
      t.mem = s.mem ∧
      t.stitches = s.stitches ∧
      t.skeins = s.skeins) ∧
  (∀ (s : State) (p : Fin 8),
    NoRung s →
    s.swTouched = [] →
    s.twBusy p = true →
    (s.tw p).losses < 7 →
    ∃ t, exec (.twArbLost p) s = .next t ∧ Counted s t (TW_CNT_ARB_v p) ∧
      t.get (TW_STATUS_arb_lost_seen p) = 1 ∧
      (t.tw p).losses = (s.tw p).losses + 1 ∧
      ((t.tw p).jobs = (s.tw p).jobs ∧ (t.tw p).tries = (s.tw p).tries) ∧
      t.faults = s.faults ∧
      t.mem = s.mem ∧
      t.stitches = s.stitches ∧
      t.skeins = s.skeins) ∧
  (∀ (s : State) (p : Fin 8) (j : Nat × Nat × Nat) (l : List (Nat × Nat × Nat)),
    NoRung s →
    s.swTouched = [] →
    s.twBusy p = true →
    (s.tw p).losses = 7 →
    (s.tw p).jobs = j :: l →
    (s.tw p).tries < 2 →
    ∃ t, exec (.twArbLost p) s = .next t ∧ Counted s t (TW_CNT_ARB_v p) ∧
      ((t.tw p).losses = 0 ∧ (t.tw p).tries = (s.tw p).tries + 1 ∧ (t.tw p).jobs = j :: l) ∧
      t.mem = s.mem ∧
      t.stitches = s.stitches ∧
      t.skeins = s.skeins) ∧
  (∀ (s : State) (p : Fin 8) (b : Bool),
    MayRaise s .twStretch p →
    s.swTouched = [] →
    s.twCtl p = true →
    (s.tw p).lostAt = none →
    (s.tw p).jobs = [] →
    ∃ t, exec (.twStretchTimeout p b) s = .next t ∧ t.raised .twStretch p = true ∧
      t.get (TW_STATUS_stretch_seen p) = 1 ∧
      Counted s t (TW_CNT_STRETCH_v p) ∧
      (b = true → t.get (TW_STATUS_bus p) = 2 ∧ (t.tw p).retryAt = some s.ct) ∧
      t.stitches = s.stitches ∧
      t.skeins = s.skeins) ∧
  (∀ (s : State) (p : Fin 8) (b : Bool),
    (s.tw p).lostAt = some s.ct →
    ∃ t, exec (.twStretchTimeout p b) s = .next t ∧ t = s) ∧
  (∀ (s : State) (p : Fin 8),
    MayRaise s .twStuck p →
    s.twCtl p = true →
    ∃ t, exec (.twSclStuck p) s = .next t ∧ t.raised .twStuck p = true ∧
      t.get (TW_STATUS_bus p) = 3 ∧
      ((t.tw p).retryAt = some (s.ct + ms 100) ∧ (t.tw p).jobs = (s.tw p).jobs ∧ (t.tw p).tries = (s.tw p).tries) ∧
      t.stitches = s.stitches ∧
      t.skeins = s.skeins) ∧
  (∀ (s : State) (p : Fin 8) (n : Fin 9),
    NoRung s →
    s.swTouched = [] →
    s.twCtl p = true →
    s.get (TW_STATUS_bus p) < 2 →
    s.raised .twStuck p = false →
    ∃ t, exec (.twSdaStuck p (some n)) s = .next t ∧ t.out = s.out ++ [.twRecover p (n + 1)] ∧
      Counted s t (TW_CNT_RECOVER_v p) ∧
      t.get (TW_STATUS_bus p) = 0 ∧
      t.faults = s.faults ∧
      ((t.tw p).jobs = (s.tw p).jobs ∧ (t.tw p).tries = (s.tw p).tries) ∧
      t.mem = s.mem ∧
      t.stitches = s.stitches ∧
      t.skeins = s.skeins) ∧
  (∀ (s : State) (p : Fin 8),
    MayRaise s .twStuck p →
    s.swTouched = [] →
    s.twCtl p = true →
    s.get (TW_STATUS_bus p) < 2 →
    ∃ t, exec (.twSdaStuck p none) s = .next t ∧ Counted s t (TW_CNT_RECOVER_v p) ∧
      (t.get (TW_STATUS_bus p) = 3 ∧ t.get (TW_STATUS_stuck_seen p) = 1) ∧
      t.raised .twStuck p = true ∧
      (t.tw p).retryAt = some (s.ct + ms 100) ∧
      t.stitches = s.stitches ∧
      t.skeins = s.skeins) ∧
  (∀ (s : State) (p : Fin 8) (u : Nat) (o : Option (Fin 9)),
    (s.tw p).retryAt = some u →
    u ≤ s.ct →
    s.twCtl p = true →
    ∃ t, exec (.twStuckRetry p false o) s = .next t ∧ (t.tw p).retryAt = some (s.ct + ms 100) ∧
      t.regs = s.regs ∧
      t.faults = s.faults ∧
      t.out = s.out ∧
      t.mem = s.mem ∧
      t.stitches = s.stitches ∧
      t.skeins = s.skeins) ∧
  (∀ (s : State) (p : Fin 8) (u : Nat) (n : Fin 9) (x : Inst),
    s.swTouched = [] →
    (s.tw p).retryAt = some u →
    u ≤ s.ct →
    s.twCtl p = true →
    s.faults.insts = [x] ∧ s.faults.atOnce = [] →
    x.kind = .twStuck ∧ x.inst = p.val ∧ x.cls = 1 ∧ x.held = false →
    ∃ t, exec (.twStuckRetry p true (some n)) s = .next t ∧ (t.tw p).retryAt = none ∧
      t.get (TW_STATUS_bus p) = 0 ∧
      t.faults.insts = [] ∧
      Counted s t (TW_CNT_RECOVER_v p) ∧
      t.out = s.out ++ [.twRecover p (n + 1)] ∧
      t.mem = s.mem ∧
      t.stitches = s.stitches ∧
      t.skeins = s.skeins) ∧
  (∀ (s : State) (p : Fin 8) (a : BitVec 7),
    s.swTouched = [] →
    s.twCtl p = true →
    s.is (TW_CTRL_attn_det p) = true →
    s.get (TW_STATUS_bus p) < 2 →
    (s.tw p).recAt = none →
    s.twRect p a.toNat = none ∧ s.twStr p a.toNat = none →
    (s.get (VI_EV_PROD_index 256) + 256 - s.get (VI_EV_CONS_index 256)) % 256 < 128 →
    ∃ t, exec (.twAttention p (some a)) s = .next t ∧ t.get (TW_ATTN_addr p) = a.toNat ∧
      Counted s t (TW_CNT_ATTN_v p) ∧
      t.get (TW_STATUS_attn_seen p) = 1 ∧
      t.get (VI_EV_PROD_index 256) = (s.get (VI_EV_PROD_index 256) + 1) % 256 ∧
      .msix 256 1 ∈ t.out ∧
      t.faults = s.faults ∧
      t.stitches = s.stitches ∧
      t.skeins = s.skeins) ∧
  (∀ (s : State) (p : Fin 8) (a : BitVec 7) (r : Nat),
    s.swTouched = [] →
    s.twCtl p = true →
    s.is (TW_CTRL_attn_det p) = true →
    s.get (TW_STATUS_bus p) < 2 →
    (s.tw p).recAt = none ∧ (s.tw p).alertAt = none →
    s.twRect p a.toNat = some r ∧ r < 64 →
    s.shelfOn = true →
    ∃ t, exec (.twAttention p (some a)) s = .next t ∧ t.get (TW_ATTN_addr p) = a.toNat ∧
      (t.tw p).jobs = (s.tw p).jobs.take 1 ++ [(r, 0x79, 1)] ++ (s.tw p).jobs.drop 1 ∧
      Counted s t (TW_CNT_ATTN_v p) ∧
      t.get (TW_STATUS_attn_seen p) = 1 ∧
      t.out = s.out ∧
      t.mem = s.mem ∧
      t.stitches = s.stitches ∧
      t.skeins = s.skeins) ∧
  (∀ (s : State) (p : Fin 8),
    s.twServes p = true →
    s.is (TW_CTRL_attn_en p) = true →
    (s.tw p).attnPending = true →
    (s.tw p).attnAt ≤ s.ct →
    ∃ t, exec (.twAttnAssert p) s = .next t ∧ t.out = s.out ++ [.twAttention p] ∧
      ((t.tw p).attnAt = s.ct + sec 1 ∧ (t.tw p).attnPending = true) ∧
      t.regs = s.regs ∧
      t.faults = s.faults ∧
      t.mem = s.mem ∧
      t.stitches = s.stitches ∧
      t.skeins = s.skeins) ∧
  (∀ (s : State) (p : Fin 8) (a : BitVec 7) (c : Byte),
    s.twServes p = true →
    s.recognised p a = true →
    ∃ t, exec (.twTargetRead p a c) s = .next t ∧ t.out = s.out ++ [.twData p (s.targetMap c.toNat)] ∧
      t.get (TW_STATUS_last_addr p) = a.toNat ∧
      (c.toNat = 6 → (t.tw p).attnPending = false) ∧
      t.faults = s.faults ∧
      t.mem = s.mem ∧
      t.stitches = s.stitches ∧
      t.skeins = s.skeins) ∧
  (∀ (s : State) (p : Fin 8) (a : BitVec 7) (c : Byte),
    s.recognised p a = false →
    ∃ t, exec (.twTargetRead p a c) s = .next t ∧ t = s) ∧
  (∀ (s : State) (c : Nat),
    9 ≤ c →
    s.targetMap c = 0) ∧
  (∀ (s : State) (p : Fin 8) (a : BitVec 7) (c d : Byte),
    s.twServes p = true →
    s.recognised p a = true →
    ∃ t, exec (.twTargetWrite p a c d) s = .next t ∧ t.out = s.out ++ [.twNack p] ∧
      t.get (TW_STATUS_last_addr p) = a.toNat ∧
      t.tws = s.tws ∧
      t.faults = s.faults ∧
      t.mem = s.mem ∧
      t.stitches = s.stitches ∧
      t.skeins = s.skeins) ∧
  (∀ (s : State) (p : Fin 8),
    s.twServes p = true →
    s.swTouched = [] →
    ∃ t, exec (.twTargetTimeout p) s = .next t ∧ Counted s t (TW_CNT_STRETCH_v p) ∧
      t.get (TW_STATUS_stretch_seen p) = 1 ∧
      t.faults = s.faults ∧
      t.tws = s.tws ∧
      t.mem = s.mem ∧
      t.stitches = s.stitches ∧
      t.skeins = s.skeins) ∧
  (∀ (s : State) (p : Fin 8) (a : BitVec 7),
    s.unit = 0 ∧ s.rst.dormantWhy ≠ 0 ∧ s.rst.dormantWhy ≠ 2 →
    s.twRole p = 2 →
    s.is (TW_CTRL_wake_en p) = true →
    s.recognised p a = true →
    (s.tw p).roleWait = false →
    s.rst.wakeHeld = none →
    ∃ t, exec (.twWake p a) s = .next t ∧ t.rst.wakeHeld = some 9 ∧
      t.out = s.out ++ [.twNack p] ∧
      t.get (TW_STATUS_wake_seen p) = 1 ∧
      t.mem = s.mem ∧
      t.stitches = s.stitches ∧
      t.skeins = s.skeins) ∧
  (∀ (s : State) (p : Fin 8) (a : BitVec 7),
    s.is (TW_CTRL_wake_en p) = false →
    ∃ t, exec (.twWake p a) s = .next t ∧ t = s)

/-- Completion of ENTROPY_TEST_FAIL, ENTROPY_RETEST_DONE, DRBG_INSTANTIATE_DONE, DRBG_RESEED, KEY_PARITY_ERROR, SEC_RANDOM
and SEC_QUERY. A failing test of a healthy DRBG is counted, withholds its output with entropy_seen and SEC_ENTROPY,
and starts a re-test of 10.24 ms. A pass of the only failing source ends the re-tests and starts a new instantiation;
a failed re-test is counted and followed by another; the third ends a waiting SEC_RANDOM with ST_ENTROPY, counted, the
DRBG failed. 1,024 microseconds after its start the instantiation makes the DRBG healthy with a reseed in 1 s, and
serves a waiting SEC_RANDOM its bytes. A due reseed starts the second and the requests again; one of a DRBG that is
not healthy changes nothing. A parity error sets key_seen with SEC_KEY; with a wrapped copy the key comes back from it
in the same generation, without one a new key has the next generation. SEC_RANDOM delivers the next bytes of the DRBG
and ends with their count; while the output is withheld it waits in the queue; of a failed DRBG it ends with
ST_ENTROPY, counted. SEC_QUERY ends with SEC_STATUS. No stitch and no skein changes. (20_trust_and_update.md,
02_virtual_interfaces.md, 22_mailbox_commands.md) -/
def Obligations.EntropyAndKeysServeTheirConsumers : Prop :=
  (∀ (s : State) (c : Fin 2) (b : Bool),
    Runs s →
    MayRaise s .secEntropy 0 →
    s.swTouched = [] →
    s.get SEC_STATUS_drbg = 1 →
    s.trust.retestAt = none →
    ∃ t, exec (.entropyTestFail c b) s = .next t ∧ t.get SEC_STATUS_drbg = 2 ∧
      t.get SEC_STATUS_entropy_seen = 1 ∧
      t.raised .secEntropy 0 = true ∧
      t.trust.retestAt = some (c.val, s.ct + us 10240) ∧
      Counted s t (if b then SEC_CNT_APT_v else SEC_CNT_RCT_v) ∧
      t.get SEC_STATUS_retest_fail = 0 ∧
      t.trust.queue = s.trust.queue ∧
      t.stitches = s.stitches ∧
      t.skeins = s.skeins) ∧
  (∀ (s : State) (c u : Nat),
    s.trust.retestAt = some (c, u) →
    u ≤ s.ct →
    s.trust.failing = [c] →
    s.raised .secEntropy 0 = false →
    ∃ t, exec (.entropyRetestDone true) s = .next t ∧ (t.trust.retestAt = none ∧ t.trust.instAt = some s.ct) ∧
      t.get SEC_STATUS_retest_fail = 0 ∧
      t.get SEC_STATUS_drbg = s.get SEC_STATUS_drbg ∧
      t.trust.queue = s.trust.queue ∧
      t.faults = s.faults ∧
      t.stitches = s.stitches ∧
      t.skeins = s.skeins) ∧
  (∀ (s : State) (c u : Nat),
    s.swTouched = [] →
    s.trust.retestAt = some (c, u) →
    u ≤ s.ct →
    s.get SEC_STATUS_retest_fail < 2 →
    ∃ t, exec (.entropyRetestDone false) s = .next t ∧ t.get SEC_STATUS_retest_fail = s.get SEC_STATUS_retest_fail + 1 ∧
      Counted s t SEC_CNT_RETEST_v ∧
      t.trust.retestAt = some (c, s.ct + us 10240) ∧
      t.get SEC_STATUS_drbg = s.get SEC_STATUS_drbg ∧
      t.trust.queue = s.trust.queue ∧
      t.faults = s.faults ∧
      t.stitches = s.stitches ∧
      t.skeins = s.skeins) ∧
  (∀ (s : State) (mb : Mb) (k : Fin 64) (c u n : Nat),
    s.swTouched = [] →
    s.trust.retestAt = some (c, u) →
    u ≤ s.ct →
    s.get SEC_STATUS_retest_fail = 2 →
    s.get SEC_STATUS_drbg = 2 →
    s.trust.queue = [.random mb k n] →
    s.ringFull mb = false ∧ (s.mbx mb).cqWait = [] ∧ (cmdOf s mb k).mirrored = false →
    Tail s mb k →
    ∃ t, exec (.entropyRetestDone false) s = .next t ∧ Done t mb k (cmdOf s mb k) 8 0 0 ∧
      (t.get SEC_STATUS_drbg = 3 ∧ t.get SEC_STATUS_retest_fail = 3) ∧
      (t.trust.queue = [] ∧ t.get SEC_STATUS_queue = 0) ∧
      Counted s t SEC_CNT_ENTROPY_v ∧
      t.stitches = s.stitches ∧
      t.skeins = s.skeins) ∧
  (∀ (s : State) (u : Nat),
    s.trust.instAt = some u →
    u + us 1024 ≤ s.ct →
    s.trust.queue = [] ∧ s.trust.keyBad = [] →
    ∃ t, exec (.drbgInstantiateDone) s = .next t ∧ (t.get SEC_STATUS_drbg = 1 ∧ t.get SEC_STATUS_src_ok = 3) ∧
      (t.trust.reseedAt = s.ct + sec 1 ∧ t.trust.requests = 0 ∧ t.trust.instAt = none) ∧
      t.mbxs = s.mbxs ∧
      t.mem = s.mem ∧
      t.stitches = s.stitches ∧
      t.skeins = s.skeins) ∧
  (∀ (s : State) (mb : Mb) (k : Fin 64) (n u : Nat),
    s.trust.instAt = some u →
    u + us 1024 ≤ s.ct →
    s.trust.queue = [.random mb k n] ∧ s.trust.keyBad = [] →
    n ≤ 32 →
    s.ringFull mb = false ∧ (s.mbx mb).cqWait = [] ∧ (cmdOf s mb k).mirrored = false →
    ∃ t, exec (.drbgInstantiateDone) s = .next t ∧ Done t mb k (cmdOf s mb k) 0 0 n ∧
      t.get SEC_STATUS_drbg = 1 ∧
      t.trust.queue = [] ∧
      Mem.readBytes Mem.blank t.mem (winBase mb + 0x4000 + 256 * k + 16) n = (List.range n).map (fun i => Config.drbgByte (s.trust.drbgN + i)) ∧
      t.stitches = s.stitches ∧
      t.skeins = s.skeins) ∧
  (∀ (s : State),
    s.get SEC_STATUS_drbg = 1 →
    s.trust.reseedAt ≤ s.ct ∨ 65536 ≤ s.trust.requests →
    ∃ t, exec (.drbgReseed) s = .next t ∧ (t.trust.reseedAt = s.ct + sec 1 ∧ t.trust.requests = 0) ∧
      t.regs = s.regs ∧
      t.mem = s.mem ∧
      t.stitches = s.stitches ∧
      t.skeins = s.skeins) ∧
  (∀ (s : State),
    s.get SEC_STATUS_drbg ≠ 1 →
    ∃ t, exec (.drbgReseed) s = .next t ∧ t = s) ∧
  (∀ (s : State) (h : Mb) (n : Nat),
    Runs s →
    MayRaise s .secKey 0 →
    (s.mbx h).keyGen.isSome = true →
    s.wrapped h = some n →
    ∃ t, exec (.keyParityError h) s = .next t ∧ t.get SEC_STATUS_key_seen = 1 ∧
      t.raised .secKey 0 = true ∧
      (t.mbx h).key = some n ∧
      (t.mbx h).keyGen = (s.mbx h).keyGen ∧
      t.trust.keyBad = s.trust.keyBad ∧
      t.stitches = s.stitches ∧
      t.skeins = s.skeins) ∧
  (∀ (s : State) (h : Mb),
    Runs s →
    MayRaise s .secKey 0 →
    (s.mbx h).keyGen.isSome = true →
    s.wrapped h = none →
    s.get SEC_STATUS_drbg = 1 →
    s.trust.keyBad = [] →
    ∃ t, exec (.keyParityError h) s = .next t ∧ t.get SEC_STATUS_key_seen = 1 ∧
      t.raised .secKey 0 = true ∧
      ((t.mbx h).keyGen = some (((s.mbx h).keyCount + 1) % 65536) ∧ (t.mbx h).key = some s.trust.drbgN) ∧
      t.trust.keyBad = [] ∧
      t.stitches = s.stitches ∧
      t.skeins = s.skeins) ∧
  (∀ (s : State) (mb : Mb) (k : Fin 64) (n : Nat),
    Ready s mb k 0xF10 →
    u8 (payloadOf s mb k) 0 = n ∧ 1 ≤ n ∧ n ≤ 32 →
    s.get SEC_STATUS_drbg = 1 →
    ∃ t, exec (.secRandom mb k) s = .next t ∧ Done t mb k (cmdOf s mb k) 0 0 n ∧
      Mem.readBytes Mem.blank t.mem (winBase mb + 0x4000 + 256 * k + 16) n = (List.range n).map (fun i => Config.drbgByte (s.trust.drbgN + i)) ∧
      (t.trust.drbgN = s.trust.drbgN + n ∧ t.trust.requests = s.trust.requests + 1) ∧
      t.stitches = s.stitches ∧
      t.skeins = s.skeins) ∧
  (∀ (s : State) (mb : Mb) (k : Fin 64) (n : Nat),
    Ready s mb k 0xF10 →
    u8 (payloadOf s mb k) 0 = n ∧ 1 ≤ n ∧ n ≤ 32 →
    s.get SEC_STATUS_drbg = 2 →
    s.trust.queue.length < 512 →
    ∃ t, exec (.secRandom mb k) s = .next t ∧ (t.slotC (slotKey mb k)).phase = .started ∧
      t.trust.queue = s.trust.queue ++ [.random mb k n] ∧
      t.get SEC_STATUS_queue = s.trust.queue.length + 1 ∧
      t.mem = s.mem ∧
      t.stitches = s.stitches ∧
      t.skeins = s.skeins) ∧
  (∀ (s : State) (mb : Mb) (k : Fin 64) (n : Nat),
    Ready s mb k 0xF10 →
    s.swTouched = [] →
    u8 (payloadOf s mb k) 0 = n ∧ 1 ≤ n ∧ n ≤ 32 →
    s.get SEC_STATUS_drbg = 3 →
    s.trust.instAt = none →
    Tail s mb k →
    ∃ t, exec (.secRandom mb k) s = .next t ∧ Done t mb k (cmdOf s mb k) 8 0 0 ∧
      Counted s t SEC_CNT_ENTROPY_v ∧
      t.trust.drbgN = s.trust.drbgN ∧
      t.stitches = s.stitches ∧
      t.skeins = s.skeins) ∧
  (∀ (s : State) (mb : Mb) (k : Fin 64),
    Ready s mb k 0xF11 →
    ∃ t, exec (.secQuery mb k) s = .next t ∧ Done t mb k (cmdOf s mb k) 0 0 (s.word aSEC_STATUS).toNat ∧
      t.trust = s.trust ∧
      t.stitches = s.stitches ∧
      t.skeins = s.skeins)

/-- Completion of SECURE_BOOT, BOOT_RETRY, FW_QUERY, FW_WRITE, FW_VERIFY, FW_ACTIVATE, FW_PLAN_START, FW_CONFIRM,
FW_TRIAL_TIMEOUT, FW_REVERT, FW_PIN_LEVEL, HUB_FW_WRITE, HUB_FW_ACTIVATE, HUB_FW_DELIVERED and HUB_FW_REPORT_TIMEOUT.
At boot and at a due retry the selected slot runs when it passes, else the other when that passes; when both fail both
are marked, FAULT_N is low and the next try is in 10 s; without a retry nothing changes. A write at offset 0 erases
the inactive slot, stages it and writes the bytes; at another offset it writes them; past the slot it ends with
ST_RANGE, info 0. A check ends with ST_OK and a staged slot verified, or with ST_FAULT and what fails. An activation
of one unit enters force for T_a; T_a less than 1 s ahead ends with ST_RANGE, info 0. A due plan of one unit restarts
it with cause 5 into the other slot on trial; of the pair it waits on the active unit; before T_a nothing changes. A
confirmation that may be made takes the slot and raises the fuse; else nothing changes. A trial of 900 s unconfirmed
restarts with cause 6 into the previous slot, the trial slot rejected. FW_REVERT of a trial ends with ST_OK and
restarts likewise, without one with ST_BUSY, info 6. The pin is noted for the next restart. A hub image is staged; its
activation notes the slots and T_h, and ends with ST_BUSY, info 2, while one is; a delivered image sends the event
with T_h; a slot that does not report in 10 s is told to the AF. FW_QUERY ends with status and versions.
(20_trust_and_update.md, 21_startup_and_reset.md, 22_mailbox_commands.md) -/
def Obligations.ImagesAreCheckedTriedAndConfirmed : Prop :=
  (∀ (s : State),
    Runs s →
    s.unit = 1 →
    s.get RST_STATUS_phase = 0 →
    s.trust.bootRetryAt = none →
    NoRung s →
    s.faults.insts = [] →
    s.rst.bootCause = 0 ∧ s.trust.fellBack = false →
    (s.trust.trialSlot.getD s.trust.selector) ≤ 1 →
    ∃ t, exec (.secureBoot) s = .next t ∧ (((s.imgFails (s.trust.trialSlot.getD s.trust.selector) = none → t.trust.image = (s.trust.trialSlot.getD s.trust.selector) ∧ t.get RST_STATUS_phase = 1 ∧ t.trust.bootRetryAt = none) ∧ ((s.imgFails (s.trust.trialSlot.getD s.trust.selector)).isSome = true ∧ s.imgFails (1 - (s.trust.trialSlot.getD s.trust.selector)) = none → t.trust.image = 1 - (s.trust.trialSlot.getD s.trust.selector) ∧ t.get RST_STATUS_phase = 1) ∧ ((s.imgFails 0).isSome = true ∧ (s.imgFails 1).isSome = true → t.get FW_STATUS_boot_fail_a = 1 ∧ t.get FW_STATUS_boot_fail_b = 1 ∧ t.get FLT_STATUS_fault_n = 1 ∧ t.trust.bootRetryAt = some (s.ct + sec 10) ∧ t.get RST_STATUS_phase = s.get RST_STATUS_phase))) ∧
      t.unit = 1 ∧
      (t.flash0 = s.flash0 ∧ t.flash1 = s.flash1)) ∧
  (∀ (s : State) (u : Nat),
    Runs s →
    s.unit = 1 →
    s.trust.bootRetryAt = some u →
    u ≤ s.ct →
    NoRung s →
    s.faults.insts = [] →
    s.rst.bootCause = 0 ∧ s.trust.fellBack = false →
    (s.trust.trialSlot.getD s.trust.selector) ≤ 1 →
    ∃ t, exec (.bootRetry) s = .next t ∧ (((s.imgFails (s.trust.trialSlot.getD s.trust.selector) = none → t.trust.image = (s.trust.trialSlot.getD s.trust.selector) ∧ t.get RST_STATUS_phase = 1 ∧ t.trust.bootRetryAt = none) ∧ ((s.imgFails (s.trust.trialSlot.getD s.trust.selector)).isSome = true ∧ s.imgFails (1 - (s.trust.trialSlot.getD s.trust.selector)) = none → t.trust.image = 1 - (s.trust.trialSlot.getD s.trust.selector) ∧ t.get RST_STATUS_phase = 1) ∧ ((s.imgFails 0).isSome = true ∧ (s.imgFails 1).isSome = true → t.get FW_STATUS_boot_fail_a = 1 ∧ t.get FW_STATUS_boot_fail_b = 1 ∧ t.get FLT_STATUS_fault_n = 1 ∧ t.trust.bootRetryAt = some (s.ct + sec 10) ∧ t.get RST_STATUS_phase = s.get RST_STATUS_phase))) ∧
      t.unit = 1 ∧
      (t.flash0 = s.flash0 ∧ t.flash1 = s.flash1)) ∧
  (∀ (s : State),
    s.trust.bootRetryAt = none →
    ∃ t, exec (.bootRetry) s = .next t ∧ t = s) ∧
  (∀ (s : State) (mb : Mb) (k : Fin 64),
    Ready s mb k 0xF01 →
    ∃ t, exec (.fwQuery mb k) s = .next t ∧ Done t mb k (cmdOf s mb k) 0 (s.fwStatus.bits 15 0) ((s.word aFW_VER_RUN).toNat + 2 ^ 32 * (s.word aFW_VER_OTHER).toNat) ∧
      t.trust = s.trust ∧
      t.stitches = s.stitches ∧
      t.skeins = s.skeins) ∧
  (∀ (s : State) (mb : Mb) (k : Fin 64) (n : Nat),
    Ready s mb k 0xF02 →
    u32 (payloadOf s mb k) 0 = 0 ∧ u16 (payloadOf s mb k) 4 = n ∧ 1 ≤ n ∧ n ≤ 224 →
    s.trust.planAt = none ∧ s.onTrial = false →
    s.trust.image ≤ 1 →
    ∃ t, exec (.fwWrite mb k) s = .next t ∧ Done t mb k (cmdOf s mb k) 0 0 0 ∧
      t.flashRead (1 - s.trust.image) 0 n = ((payloadOf s mb k).drop 16).take n ∧
      t.slotState (1 - s.trust.image) = 1 ∧
      t.flash s.trust.image = s.flash s.trust.image ∧
      (∀ a, n ≤ a → a < slotBytes → Mem.read flashBlank (t.flash (1 - s.trust.image)) a = flashBlank) ∧
      t.stitches = s.stitches ∧
      t.skeins = s.skeins) ∧
  (∀ (s : State) (mb : Mb) (k : Fin 64) (n : Nat),
    Ready s mb k 0xF02 →
    16 ≤ u32 (payloadOf s mb k) 0 ∧ u32 (payloadOf s mb k) 0 % 16 = 0 ∧ u16 (payloadOf s mb k) 4 = n ∧ 1 ≤ n ∧ n ≤ 224 ∧ u32 (payloadOf s mb k) 0 + n ≤ slotBytes →
    s.trust.planAt = none ∧ s.onTrial = false →
    s.trust.image ≤ 1 →
    ∃ t, exec (.fwWrite mb k) s = .next t ∧ Done t mb k (cmdOf s mb k) 0 0 0 ∧
      t.flashRead (1 - s.trust.image) (u32 (payloadOf s mb k) 0) n = ((payloadOf s mb k).drop 16).take n ∧
      t.slotState (1 - s.trust.image) = s.slotState (1 - s.trust.image) ∧
      t.flash s.trust.image = s.flash s.trust.image ∧
      t.stitches = s.stitches ∧
      t.skeins = s.skeins) ∧
  (∀ (s : State) (mb : Mb) (k : Fin 64),
    Ready s mb k 0xF02 →
    slotBytes < u32 (payloadOf s mb k) 0 + u16 (payloadOf s mb k) 4 →
    Tail s mb k →
    ∃ t, exec (.fwWrite mb k) s = .next t ∧ Done t mb k (cmdOf s mb k) 4 0 0 ∧
      (t.flash0 = s.flash0 ∧ t.flash1 = s.flash1) ∧
      t.trust = s.trust ∧
      t.stitches = s.stitches ∧
      t.skeins = s.skeins) ∧
  (∀ (s : State) (mb : Mb) (k : Fin 64),
    Ready s mb k 0xF03 →
    Tail s mb k →
    s.trust.planAt = none ∧ s.onTrial = false →
    ∃ t, exec (.fwVerify mb k) s = .next t ∧ (s.imgFails (1 - s.trust.image) = none → Done t mb k (cmdOf s mb k) 0 0 0 ∧ (s.slotState (1 - s.trust.image) = 1 → t.slotState (1 - s.trust.image) = 2)) ∧
      ((s.imgFails (1 - s.trust.image)).isSome = true → Done t mb k (cmdOf s mb k) 9 ((s.imgFails (1 - s.trust.image)).getD 0) 0 ∧ t.slotState (1 - s.trust.image) = s.slotState (1 - s.trust.image)) ∧
      (t.flash0 = s.flash0 ∧ t.flash1 = s.flash1) ∧
      t.stitches = s.stitches ∧
      t.skeins = s.skeins) ∧
  (∀ (s : State) (mb : Mb) (k : Fin 64),
    Ready s mb k 0xF04 →
    u64 (payloadOf s mb k) 0 = 0 ∧ u8 (payloadOf s mb k) 8 = 1 →
    s.trust.planAt = none ∧ s.pair.transitAt = none →
    ∃ t, exec (.fwActivate mb k) s = .next t ∧ Done t mb k (cmdOf s mb k) 0 0 0 ∧
      (t.trust.planAt = some (s.ct + sec 1) ∧ t.trust.planScope = 1 ∧ t.trust.planStep = 0) ∧
      t.get FW_STATUS_plan = 1 ∧
      t.stitches = s.stitches ∧
      t.skeins = s.skeins) ∧
  (∀ (s : State) (mb : Mb) (k : Fin 64),
    Ready s mb k 0xF04 →
    u64 (payloadOf s mb k) 0 ≠ 0 ∧ u64 (payloadOf s mb k) 0 < s.ct + sec 1 →
    Tail s mb k →
    ∃ t, exec (.fwActivate mb k) s = .next t ∧ Done t mb k (cmdOf s mb k) 4 0 0 ∧
      t.trust = s.trust ∧
      t.stitches = s.stitches ∧
      t.skeins = s.skeins) ∧
  (∀ (s : State) (u : Nat),
    s.trust.planAt = some u →
    u ≤ s.ct →
    s.trust.planStep = 0 →
    s.pair.transitAt = none →
    s.trust.planScope = 1 ∨ s.pair.partner = false →
    ∃ t, exec (.fwPlanStart) s = .next t ∧ t.rst.held = true ∧
      (t.get RST_STATUS_kind = 2 ∧ t.get RST_STATUS_cause = 5) ∧
      (t.trust.trialSlot = some (1 - s.trust.image) ∧ t.trust.trialAt = some s.ct) ∧
      t.trust.planAt = none ∧
      (t.flash0 = s.flash0 ∧ t.flash1 = s.flash1)) ∧
  (∀ (s : State) (u : Nat),
    s.trust.planAt = some u →
    u ≤ s.ct →
    s.trust.planStep = 0 →
    s.pair.transitAt = none →
    s.trust.planScope = 0 ∧ s.pair.partner = true ∧ s.active = true →
    ∃ t, exec (.fwPlanStart) s = .next t ∧ (t.trust.planStep = 1 ∧ t.trust.planAt = some s.ct) ∧
      t.pair = s.pair ∧
      t.stitches = s.stitches ∧
      t.skeins = s.skeins) ∧
  (∀ (s : State) (u : Nat),
    s.trust.planAt = some u →
    s.ct < u →
    s.trust.planStep = 0 →
    ∃ t, exec (.fwPlanStart) s = .next t ∧ t = s) ∧
  (∀ (s : State),
    s.swTouched = [] →
    s.mayConfirm = true →
    ∃ t, exec (.fwConfirm) s = .next t ∧ (t.trust.selector = s.trust.image ∧ t.trust.trialSlot = none ∧ t.trust.trialAt = none) ∧
      t.trust.fusedSec = Nat.max s.trust.fusedSec (u8 (s.imgHeader s.trust.image) 8 % 64) ∧
      (t.get FW_STATUS_trial = 0 ∧ t.get FW_STATUS_confirm_seen = 1) ∧
      t.stitches = s.stitches ∧
      t.skeins = s.skeins) ∧
  (∀ (s : State),
    s.mayConfirm = false →
    ∃ t, exec (.fwConfirm) s = .next t ∧ t = s) ∧
  (∀ (s : State) (u : Nat),
    s.onTrial = true →
    s.trust.trialAt = some u →
    u + sec 900 ≤ s.ct →
    s.mayConfirm = false →
    ∃ t, exec (.fwTrialTimeout) s = .next t ∧ t.rst.held = true ∧
      (t.get RST_STATUS_kind = 2 ∧ t.get RST_STATUS_cause = 6) ∧
      (t.trust.selector = 1 - s.trust.image ∧ t.trust.trialSlot = none ∧ t.trust.fellBack = true) ∧
      t.trust.rejected.contains s.trust.image = true ∧
      (t.flash0 = s.flash0 ∧ t.flash1 = s.flash1)) ∧
  (∀ (s : State) (mb : Mb) (k : Fin 64),
    Ready s mb k 0xF05 →
    s.onTrial = true →
    ∃ t, exec (.fwRevert mb k) s = .next t ∧ Done t mb k (cmdOf s mb k) 0 0 0 ∧
      (t.trust.selector = 1 - s.trust.image ∧ t.trust.trialSlot = none ∧ t.trust.fellBack = true) ∧
      t.rst.restartAt = some (s.ct, 6) ∧
      t.stitches = s.stitches ∧
      t.skeins = s.skeins) ∧
  (∀ (s : State) (mb : Mb) (k : Fin 64),
    Ready s mb k 0xF05 →
    s.onTrial = false →
    Tail s mb k →
    ∃ t, exec (.fwRevert mb k) s = .next t ∧ Done t mb k (cmdOf s mb k) 2 6 0 ∧
      t.trust = s.trust ∧
      t.stitches = s.stitches ∧
      t.skeins = s.skeins) ∧
  (∀ (s : State) (mb : Mb) (k : Fin 64) (l : Nat),
    Ready s mb k 0xF06 →
    u8 (payloadOf s mb k) 0 = l →
    l = 0 ∨ s.trust.ifMin ≤ l ∧ l ≤ s.trust.ifMax ∧ l ≤ 3 →
    ∃ t, exec (.fwPinLevel mb k) s = .next t ∧ Done t mb k (cmdOf s mb k) 0 0 0 ∧
      (t.trust.pinNext = l ∧ t.trust.pinned = s.trust.pinned) ∧
      t.get FW_SLOTS_pin_next = l ∧
      t.get ID_IF_if_level = s.get ID_IF_if_level ∧
      t.stitches = s.stitches ∧
      t.skeins = s.skeins) ∧
  (∀ (s : State) (mb : Mb) (k : Fin 64) (n : Nat),
    Ready s mb k 0xF20 →
    u32 (payloadOf s mb k) 0 = 0 ∧ u16 (payloadOf s mb k) 4 = n ∧ 1 ≤ n ∧ n ≤ 224 →
    ∃ t, exec (.hubFwWrite mb k) s = .next t ∧ Done t mb k (cmdOf s mb k) 0 0 0 ∧
      Mem.readBytes Mem.blank t.hubStage 0 n = ((payloadOf s mb k).drop 16).take n ∧
      t.trust.hubLen = n ∧
      (t.flash0 = s.flash0 ∧ t.flash1 = s.flash1) ∧
      t.stitches = s.stitches ∧
      t.skeins = s.skeins) ∧
  (∀ (s : State) (mb : Mb) (k : Fin 64),
    Ready s mb k 0xF21 →
    s.ct + sec 1 ≤ u64 (payloadOf s mb k) 8 →
    s.trust.hubMask = 0 ∧ s.trust.hubLeft = [] →
    ∃ t, exec (.hubFwActivate mb k) s = .next t ∧ Done t mb k (cmdOf s mb k) 0 0 0 ∧
      (t.trust.hubMask = BitVec.ofNat 64 (u64 (payloadOf s mb k) 0) ∧ t.trust.hubAt = u64 (payloadOf s mb k) 8) ∧
      t.trust.hubLeft = (List.range 64).filter (fun n => (u64 (payloadOf s mb k) 0).testBit n) ∧
      t.stitches = s.stitches ∧
      t.skeins = s.skeins) ∧
  (∀ (s : State) (mb : Mb) (k : Fin 64),
    Ready s mb k 0xF21 →
    s.ct + sec 1 ≤ u64 (payloadOf s mb k) 8 →
    s.trust.hubMask ≠ 0 →
    Tail s mb k →
    ∃ t, exec (.hubFwActivate mb k) s = .next t ∧ Done t mb k (cmdOf s mb k) 2 2 0 ∧
      t.trust = s.trust ∧
      t.stitches = s.stitches ∧
      t.skeins = s.skeins) ∧
  (∀ (s : State) (n : Fin 64),
    s.trust.hubLeft.contains n.val = true →
    (s.port n).rel.sendsImage = false →
    ∃ t, exec (.hubFwDelivered n) s = .next t ∧ t.out = (s.emit (.event (.port n) 0x0600 (evAt (s.trust.hubAt % 2 ^ 64) 128))).out ∧
      t.trust.hubLeft = s.trust.hubLeft.filter (· ≠ n.val) ∧
      t.trust.hubMask = s.trust.hubMask ∧
      t.mem = s.mem ∧
      t.stitches = s.stitches ∧
      t.skeins = s.skeins) ∧
  (∀ (s : State) (n : Fin 64),
    s.trust.hubMask.getLsbD n = true →
    s.trust.hubAt + sec 10 ≤ s.ct →
    (s.get (VI_EV_PROD_index 256) + 256 - s.get (VI_EV_CONS_index 256)) % 256 < 128 →
    ∃ t, exec (.hubFwReportTimeout n) s = .next t ∧ t.trust.hubMask.getLsbD n = false ∧
      t.get (VI_EV_PROD_index 256) = (s.get (VI_EV_PROD_index 256) + 1) % 256 ∧
      .msix 256 1 ∈ t.out ∧
      t.stitches = s.stitches ∧
      t.skeins = s.skeins) ∧
  (∀ (s : State) (n : Fin 64),
    s.trust.hubMask.getLsbD n = false →
    ∃ t, exec (.hubFwReportTimeout n) s = .next t ∧ t = s)

/-- Completion of SYS_RESET, MAIN_SUPPLY_LOSS, SUPPLY_GOOD, VAON_LOSS, COLD_START, PAIR_DECISION, ADMIT_COMPLETE,
STARTUP_BIND, MAILBOX_OPEN and UNIT_RESTART, and of POWER_ON, RESET_EXIT and PARTNER_TIME_RX. Power-on leaves the unit
in reset, kind and counts 0, no stored time, chassis time 0. The exit from reset with good supplies and a reference
boots it: chassis time is the stored time and the slow ticks made up, rounded, at least one more than stored (ct_src
1, MKUP_SLOW written), or 0 without a stored time (ct_src 2). A booting unit takes a later partner time (ct_src 0) and
never an earlier one; an admitted or standby one notes the difference. A low of 1 microsecond or more restarts a unit
that runs with cause 1, counted, chassis time stored, the GPIO, both MRAM dies and the flash kept, no command, skein
or stitch left; a shorter one changes nothing. A supply lost for 2 microseconds makes the unit dormant, after its
notice where it is in the pair; a shorter loss changes nothing. Supplies that return hold wake cause 7 for a unit
dormant for them, and nothing for another. VAON loss leaves kind 0, no counts and no stored time, the flash kept. A
cold start with a wake cause and the supplies good holds reset with that cause, counted, stored time, last_cause, MRAM
and flash kept; without the supplies nothing changes. 50 ms after the image runs, a partner that serves admits the
unit; none, with its line stopped, makes it active, alone, owner of every port; the alive line without heartbeats
keeps it booting with PAIR_LINK. An admitted unit whose skeins have matched 16 rounds and whose shelf digest is loaded
becomes standby; without a digest nothing changes. A start binds an adopted stitch, sets the cycle base from its
trailer, releases its skein, and its sequence is up; without a first TIME cell nothing changes. The mailbox opens 1 s
after the exit, not before. UNIT_RESTART ends with ST_OK and sets the restart or dormancy; during a transit it ends
with ST_BUSY, info 5. (21_startup_and_reset.md, 16_controller_pair.md, 24_package_and_electrical.md,
05_workers_and_stitches.md) -/
def Obligations.ResetsAndStartsLeaveWhatIsKept : Prop :=
  (∀ (s : State),
    ∃ t, exec (.powerOn) s = .next t ∧ t.ct = 0 ∧
      (t.rst.held = true ∧ t.rst.supplyGood = false ∧ t.rst.storedCt = none) ∧
      (t.get RST_STATUS_kind = 0 ∧ t.get RST_STATUS_cause = 0 ∧ t.get RST_CNT_restarts = 0) ∧
      (t.stitches = [] ∧ t.skeins = [] ∧ t.slots = []) ∧
      (t.gpio = 0 ∧ t.gpioDriven = 0) ∧
      (t.nv.die0 = s.nv.die0 ∧ t.nv.die1 = s.nv.die1) ∧
      (t.flash0 = s.flash0 ∧ t.flash1 = s.flash1)) ∧
  (∀ (s : State) (n : BitVec 48) (c : Nat),
    s.rst.held = true ∧ s.rst.supplyGood = true ∧ s.rst.sref ≠ 0 →
    s.rst.storedCt = some c →
    ∃ t, exec (.resetExit n) s = .next t ∧ t.ct = max (c + 1) (c + (divRound (n.toNat * 390625) 8).toNat) ∧
      t.get CT_STATUS_ct_src = 1 ∧
      (t.unit = 1 ∧ t.rst.held = false ∧ t.rst.exitAt = t.ct ∧ t.rst.mbxOpen = false) ∧
      (t.get MKUP_SLOW_LO_slow = n.toNat % 2 ^ 32 ∧ t.get MKUP_SLOW_HI_slow = n.toNat / 2 ^ 32) ∧
      t.mem = s.mem ∧
      t.nv = s.nv ∧
      t.stitches = s.stitches ∧
      t.skeins = s.skeins ∧
      (t.flash0 = s.flash0 ∧ t.flash1 = s.flash1)) ∧
  (∀ (s : State) (n : BitVec 48),
    s.rst.held = true ∧ s.rst.supplyGood = true ∧ s.rst.sref ≠ 0 →
    s.rst.storedCt = none →
    ∃ t, exec (.resetExit n) s = .next t ∧ t.ct = 0 ∧
      t.get CT_STATUS_ct_src = 2 ∧
      (t.unit = 1 ∧ t.rst.held = false ∧ t.rst.exitAt = 0 ∧ t.rst.retiredAll = some 0) ∧
      t.mem = s.mem ∧
      t.nv = s.nv ∧
      t.stitches = s.stitches ∧
      t.skeins = s.skeins ∧
      (t.flash0 = s.flash0 ∧ t.flash1 = s.flash1)) ∧
  (∀ (s : State) (n : BitVec 48),
    s.rst.held = false ∨ s.rst.supplyGood = false ∨ s.rst.sref = 0 →
    ∃ t, exec (.resetExit n) s = .next t ∧ t = s) ∧
  (∀ (s : State) (x f : Nat),
    Runs s →
    s.awake = true ∧ s.unit = 1 →
    s.ct < x + 96 + (divRound f 10).toNat →
    ∃ t, exec (.partnerTimeRx x f) s = .next t ∧ t.ct = x + 96 + (divRound f 10).toNat ∧
      t.get CT_STATUS_ct_src = 0 ∧
      t.unit = 1 ∧
      t.rst = s.rst ∧
      t.mem = s.mem ∧
      t.stitches = s.stitches ∧
      t.skeins = s.skeins ∧
      (t.flash0 = s.flash0 ∧ t.flash1 = s.flash1)) ∧
  (∀ (s : State) (x f : Nat),
    s.awake = true ∧ s.unit = 1 →
    x + 96 + (divRound f 10).toNat ≤ s.ct →
    ∃ t, exec (.partnerTimeRx x f) s = .next t ∧ t = s) ∧
  (∀ (s : State) (x f : Nat),
    Runs s →
    s.awake = true →
    s.unit = 2 ∨ s.unit = 3 →
    ∃ t, exec (.partnerTimeRx x f) s = .next t ∧ t.pair = { s.pair with partnerDiff := ((x + 96 : Nat) : Int) + divRound f 10 - s.ct } ∧
      t.is CT_STATUS_slewing = decide (((x + 96 : Nat) : Int) + divRound f 10 ≠ s.ct) ∧
      t.is CT_STATUS_aligned = decide ((((x + 96 : Nat) : Int) + divRound f 10 - s.ct).natAbs ≤ 2) ∧
      t.ct = s.ct ∧
      t.mem = s.mem ∧
      t.stitches = s.stitches ∧
      t.skeins = s.skeins ∧
      (t.flash0 = s.flash0 ∧ t.flash1 = s.flash1)) ∧
  (∀ (s : State) (n : Nat),
    Runs s →
    us 1 ≤ n →
    ∃ t, exec (.sysReset n) s = .next t ∧ t.rst.held = true ∧
      (t.get RST_STATUS_kind = 2 ∧ t.get RST_STATUS_cause = 1) ∧
      t.get RST_CNT_restarts = satCount 16 (s.get RST_CNT_restarts) 1 ∧
      t.rst.storedCt = some s.ct ∧
      (t.gpio = s.gpio ∧ t.gpioDriven = s.gpioDriven) ∧
      (t.stitches = [] ∧ t.skeins = [] ∧ t.slots = []) ∧
      (t.nv.die0 = s.nv.die0 ∧ t.nv.die1 = s.nv.die1) ∧
      (t.flash0 = s.flash0 ∧ t.flash1 = s.flash1)) ∧
  (∀ (s : State) (n : Nat),
    n < us 1 →
    ∃ t, exec (.sysReset n) s = .next t ∧ t = s) ∧
  (∀ (s : State) (n : Nat),
    us 2 ≤ n →
    2 ≤ s.unit →
    s.pair.failed = false →
    s.partnerRel.backlog = [] →
    ∃ t, exec (.mainSupplyLoss n) s = .next t ∧ (t.unit = 0 ∧ t.rst.dormantWhy = 4) ∧
      t.rst.supplyGood = false ∧
      t.rst.storedCt = some s.ct ∧
      t.out = s.out ++ [.failureNotice 3] ∧
      t.get RST_CNT_restarts = s.get RST_CNT_restarts ∧
      (t.flash0 = s.flash0 ∧ t.flash1 = s.flash1)) ∧
  (∀ (s : State) (n : Nat),
    us 2 ≤ n →
    s.unit = 1 →
    ∃ t, exec (.mainSupplyLoss n) s = .next t ∧ (t.unit = 0 ∧ t.rst.dormantWhy = 4) ∧
      t.rst.supplyGood = false ∧
      t.out = s.out ∧
      (t.flash0 = s.flash0 ∧ t.flash1 = s.flash1)) ∧
  (∀ (s : State) (n : Nat),
    n < us 2 →
    ∃ t, exec (.mainSupplyLoss n) s = .next t ∧ t = s) ∧
  (∀ (s : State),
    s.unit = 0 ∧ s.rst.dormantWhy = 4 →
    s.rst.wakeHeld = none →
    ∃ t, exec (.supplyGood) s = .next t ∧ (t.rst.supplyGood = true ∧ t.rst.wakeHeld = some 7) ∧
      t.regs = s.regs ∧
      t.nv = s.nv ∧
      (t.flash0 = s.flash0 ∧ t.flash1 = s.flash1)) ∧
  (∀ (s : State),
    s.rst.dormantWhy ≠ 4 →
    ∃ t, exec (.supplyGood) s = .next t ∧ (t.rst.supplyGood = true ∧ t.rst.wakeHeld = s.rst.wakeHeld) ∧
      t.regs = s.regs ∧
      t.nv = s.nv ∧
      (t.flash0 = s.flash0 ∧ t.flash1 = s.flash1)) ∧
  (∀ (s : State),
    ∃ t, exec (.vaonLoss) s = .next t ∧ (t.rst.held = true ∧ t.rst.supplyGood = false) ∧
      (t.get RST_STATUS_kind = 0 ∧ t.get RST_STATUS_cause = 0) ∧
      (t.get RST_CNT_restarts = 0 ∧ t.get THM_STATUS_last_cause = 0) ∧
      t.rst.storedCt = none ∧
      t.stitches = [] ∧
      (t.flash0 = s.flash0 ∧ t.flash1 = s.flash1)) ∧
  (∀ (s : State) (c : Nat),
    s.rst.wakeHeld = some c →
    7 ≤ c ∧ c ≤ 10 →
    s.unit = 0 ∧ s.rst.dormantWhy ≠ 0 →
    s.rst.supplyGood = true →
    ∃ t, exec (.coldStart) s = .next t ∧ (t.rst.held = true ∧ t.rst.dormantWhy = 0) ∧
      (t.get RST_STATUS_kind = 1 ∧ t.get RST_STATUS_cause = c) ∧
      t.get RST_CNT_restarts = satCount 16 (s.get RST_CNT_restarts) 1 ∧
      t.rst.storedCt = s.rst.storedCt ∧
      t.get THM_STATUS_last_cause = s.get THM_STATUS_last_cause ∧
      (t.nv.die0 = s.nv.die0 ∧ t.nv.die1 = s.nv.die1) ∧
      (t.flash0 = s.flash0 ∧ t.flash1 = s.flash1)) ∧
  (∀ (s : State),
    s.rst.supplyGood = false →
    ∃ t, exec (.coldStart) s = .next t ∧ t = s) ∧
  (∀ (s : State),
    Runs s →
    NoRung s →
    s.unit = 1 →
    s.get RST_STATUS_phase = 3 →
    s.rst.imageAt + ms 50 ≤ s.ct →
    s.get PAIR_STATUS_pos_conflict = 0 →
    s.pair.partner = true ∧ 2 ≤ s.get PAIR_STATUS_partner_state →
    ∃ t, exec (.pairDecision) s = .next t ∧ t.unit = 2 ∧
      t.get RST_STATUS_phase = 4 ∧
      t.get RST_TIME_LO_time = s.ct % 2 ^ 32 ∧
      t.nv = s.nv ∧
      t.mem = s.mem ∧
      t.stitches = s.stitches ∧
      t.skeins = s.skeins ∧
      (t.flash0 = s.flash0 ∧ t.flash1 = s.flash1)) ∧
  (∀ (s : State),
    Runs s →
    NoRung s →
    s.unit = 1 →
    s.get RST_STATUS_phase = 3 →
    s.rst.imageAt + ms 50 ≤ s.ct →
    s.get PAIR_STATUS_pos_conflict = 0 →
    s.pair.partner = false ∧ s.pair.alvStopped = true →
    ∃ t, exec (.pairDecision) s = .next t ∧ t.unit = 4 ∧
      t.get RST_STATUS_alone = 1 ∧
      t.get RST_STATUS_phase = 4 ∧
      (∀ p : Fin 64, t.ownsPort p = true) ∧
      (t.flash0 = s.flash0 ∧ t.flash1 = s.flash1)) ∧
  (∀ (s : State),
    Runs s →
    MayRaise s .pairLink 0 →
    s.unit = 1 →
    s.get RST_STATUS_phase = 3 →
    s.rst.imageAt + ms 50 ≤ s.ct →
    s.get PAIR_STATUS_pos_conflict = 0 →
    s.pair.partner = false ∧ s.pair.alvStopped = false →
    ∃ t, exec (.pairDecision) s = .next t ∧ t.unit = 1 ∧
      t.get RST_STATUS_phase = 3 ∧
      t.raised .pairLink 0 = true ∧
      t.ports = s.ports ∧
      t.stitches = s.stitches ∧
      t.skeins = s.skeins ∧
      (t.flash0 = s.flash0 ∧ t.flash1 = s.flash1)) ∧
  (∀ (s : State),
    s.unit = 2 →
    s.pair.shelfDigest.isSome = true →
    s.get PAIR_STATUS_pos_conflict = 0 →
    s.pinServed = true →
    ∀ x ∈ s.skeins, x.2.inStep = true ∧ 16 ≤ x.2.matched →
    ∃ t, exec (.admitComplete) s = .next t ∧ t.unit = 3 ∧
      t.get RST_STATUS_phase = 5 ∧
      t.mem = s.mem ∧
      t.stitches = s.stitches ∧
      t.skeins = s.skeins) ∧
  (∀ (s : State),
    s.pair.shelfDigest = none →
    ∃ t, exec (.admitComplete) s = .next t ∧ t = s) ∧
  (∀ (s : State) (p : Fin 64) (k : Fin 2048) (x : Skein) (j : Fin 128) (u a c : Nat),
    MayRaise s .stitchAuto (128 * p + j) →
    s.active = true →
    s.skeins = [(k.val, x)] →
    x.known = true ∧ x.slot = p.val ∧ x.stitches = [j.val] ∧ x.engine.isSome = true →
    s.get (MER_CFG_src x.carrier) ≠ 3 →
    s.slSt p = 2 ∧ (s.slot p).startupBound = true ∧ (s.slot p).step = 9 ∧ (s.slot p).baseSet = false →
    (s.port p).firstTimeAt = some u ∧ u + ms 1 ≤ s.ct →
    (s.st (128 * p + j)).skein = none ∧ (s.st (128 * p + j)).desc.storedLoop = true ∧ (s.st (128 * p + j)).hub = 2 →
    (s.st (128 * p + j)).trailers = [(a, c)] →
    s.rails = [] →
    ∃ t, exec (.startupBind p) s = .next t ∧ ((t.st (128 * p + j)).skein = some k.val ∧ (t.st (128 * p + j)).state = 1) ∧
      (t.sk k).base = toField 16 ((c : Int) - s.closedTurn k (128 * p + j) (s.st (128 * p + j)).trailAt) ∧
      t.skSt k = 4 ∧
      (t.slot p).baseSet = true ∧
      t.seqSt p = 2 ∧
      t.rects = s.rects) ∧
  (∀ (s : State) (p : Fin 64),
    (s.port p).firstTimeAt = none →
    ∃ t, exec (.startupBind p) s = .next t ∧ t = s) ∧
  (∀ (s : State),
    Runs s →
    s.rst.exitAt + sec 1 ≤ s.ct →
    ∃ t, exec (.mailboxOpen) s = .next t ∧ t.rst.mbxOpen = true ∧
      t.get RST_STATUS_phase = (if s.get RST_STATUS_phase = 4 then 5 else s.get RST_STATUS_phase) ∧
      t.mem = s.mem ∧
      t.stitches = s.stitches ∧
      t.skeins = s.skeins) ∧
  (∀ (s : State),
    s.ct < s.rst.exitAt + sec 1 →
    ∃ t, exec (.mailboxOpen) s = .next t ∧ t = s) ∧
  (∀ (s : State) (mb : Mb) (k : Fin 64),
    Ready s mb k 0x104 →
    NoRung s →
    u8 (payloadOf s mb k) 0 ≤ 1 →
    s.pair.transitAt = none ∧ s.trust.planAt = none ∧ s.trust.planStep = 0 →
    s.transitOk = false →
    ∃ t, exec (.unitRestart mb k) s = .next t ∧ Done t mb k (cmdOf s mb k) 0 0 0 ∧
      t.rst.restartAt = some (s.ct, if u8 (payloadOf s mb k) 0 = 1 then 16 else 2) ∧
      t.stitches = s.stitches ∧
      t.skeins = s.skeins) ∧
  (∀ (s : State) (mb : Mb) (k : Fin 64),
    Ready s mb k 0x104 →
    NoRung s →
    u8 (payloadOf s mb k) 0 ≤ 1 →
    s.pair.transitAt.isSome = true →
    Tail s mb k →
    ∃ t, exec (.unitRestart mb k) s = .next t ∧ Done t mb k (cmdOf s mb k) 2 5 0 ∧
      t.rst = s.rst ∧
      t.stitches = s.stitches ∧
      t.skeins = s.skeins)

/-- Completion of DOORBELL for a write that rings one slot of a unit that is past reset, no field of which an earlier
command of the cycle changed: a free slot of an open mailbox, not freed in this cycle, whose handle names the mailbox,
the slot and its generation and which holds no generation back, is waiting with the bytes it holds, accepted now, last
in the mailbox's order, its busy bit set and no drop counted; with another handle, an empty order and room in the ring
the command completes with ST_STALE, info 0xFFFF; where the only generation held back is the next and was left less
than 1 s before, it completes with ST_BUSY, info 1; a slot that is busy or was freed in this cycle sets dup_doorbell
and counts a drop, and no slot changes; a mailbox not open submits nothing, sets nothing and counts nothing. Stitches,
skeins and flash are unchanged; a byte of memory changes only where a completion is written.
(02_virtual_interfaces.md, 22_mailbox_commands.md) -/
def Obligations.DoorbellsSubmitFreeSlots : Prop :=
  (∀ (s : State) (mb : Mb) (k : Fin 64),
    Runs s →
    s.hwTouched = [] →
    s.mailboxOpen mb = true →
    (cmdOf s mb k).phase = .free ∧ (cmdOf s mb k).freedAt ≠ some s.ct →
    ({ bytes := s.slotBytes mb k } : CmdSlot).handle = mb.val % 256 * 2 ^ 24 + k.val * 2 ^ 18 + (cmdOf s mb k).gen ∧ (cmdOf s mb k).gen < 2 ^ 18 →
    (cmdOf s mb k).left = [] →
    ∃ t, exec (.doorbell mb (decide (32 ≤ k.val)) (BitVec.ofNat 32 (2 ^ (k.val % 32)))) s = .next t ∧ ((cmdOf t mb k).phase = .waiting ∧ (cmdOf t mb k).bytes = s.slotBytes mb k ∧ (cmdOf t mb k).acceptedAt = s.ct ∧ (cmdOf t mb k).gen = (cmdOf s mb k).gen) ∧
      (t.mbx mb).order = (s.mbx mb).order ++ [k.val] ∧
      t.get (VI_SLOT_BUSY_bit mb k) = 1 ∧
      t.get (VI_DOORBELL_DROP_CNT_count mb) = s.get (VI_DOORBELL_DROP_CNT_count mb) ∧
      t.get (VI_CQ_PROD_prod mb) = s.get (VI_CQ_PROD_prod mb) ∧
      t.mem = s.mem ∧
      t.stitches = s.stitches ∧
      t.skeins = s.skeins ∧
      (t.flash0 = s.flash0 ∧ t.flash1 = s.flash1)) ∧
  (∀ (s : State) (mb : Mb) (k : Fin 64),
    Runs s →
    s.hwTouched = [] →
    s.mailboxOpen mb = true →
    (cmdOf s mb k).phase = .free ∧ (cmdOf s mb k).freedAt ≠ some s.ct →
    (cmdOf s mb k).gen < 2 ^ 18 →
    ¬(({ bytes := s.slotBytes mb k } : CmdSlot).handle = mb.val % 256 * 2 ^ 24 + k.val * 2 ^ 18 + (cmdOf s mb k).gen ∧ (cmdOf s mb k).gen < 2 ^ 18) →
    s.ringFull mb = false ∧ (s.mbx mb).cqWait = [] →
    (s.mbx mb).order = [] →
    ∃ t, exec (.doorbell mb (decide (32 ≤ k.val)) (BitVec.ofNat 32 (2 ^ (k.val % 32)))) s = .next t ∧ Done t mb k { bytes := s.slotBytes mb k } 5 0xFFFF 0 ∧
      (cmdOf t mb k).gen = (cmdOf s mb k).gen ∧
      t.get (VI_DOORBELL_DROP_CNT_count mb) = s.get (VI_DOORBELL_DROP_CNT_count mb) ∧
      t.stitches = s.stitches ∧
      t.skeins = s.skeins ∧
      (t.flash0 = s.flash0 ∧ t.flash1 = s.flash1)) ∧
  (∀ (s : State) (mb : Mb) (k : Fin 64) (g : Nat),
    Runs s →
    s.hwTouched = [] →
    s.mailboxOpen mb = true →
    (cmdOf s mb k).phase = .free ∧ (cmdOf s mb k).freedAt ≠ some s.ct →
    ({ bytes := s.slotBytes mb k } : CmdSlot).handle = mb.val % 256 * 2 ^ 24 + k.val * 2 ^ 18 + (cmdOf s mb k).gen ∧ (cmdOf s mb k).gen < 2 ^ 18 →
    s.ringFull mb = false ∧ (s.mbx mb).cqWait = [] →
    (s.mbx mb).order = [] →
    (cmdOf s mb k).left = [(((cmdOf s mb k).gen + 1) % 2 ^ 18, g)] →
    s.ct < g + sec 1 →
    ∃ t, exec (.doorbell mb (decide (32 ≤ k.val)) (BitVec.ofNat 32 (2 ^ (k.val % 32)))) s = .next t ∧ Done t mb k { bytes := s.slotBytes mb k } 2 1 0 ∧
      (cmdOf t mb k).gen = (cmdOf s mb k).gen ∧
      t.stitches = s.stitches ∧
      t.skeins = s.skeins ∧
      (t.flash0 = s.flash0 ∧ t.flash1 = s.flash1)) ∧
  (∀ (s : State) (mb : Mb) (k : Fin 64),
    Runs s →
    s.hwTouched = [] →
    s.mailboxOpen mb = true →
    (cmdOf s mb k).phase ≠ .free ∨ (cmdOf s mb k).freedAt = some s.ct →
    ∃ t, exec (.doorbell mb (decide (32 ≤ k.val)) (BitVec.ofNat 32 (2 ^ (k.val % 32)))) s = .next t ∧ t.get (VI_STATUS_dup_doorbell mb) = 1 ∧
      Counted s t (VI_DOORBELL_DROP_CNT_count mb) ∧
      t.slots = s.slots ∧
      ((t.mbx mb).order = (s.mbx mb).order ∧ (t.mbx mb).cqWait = (s.mbx mb).cqWait) ∧
      t.mem = s.mem ∧
      t.stitches = s.stitches ∧
      t.skeins = s.skeins ∧
      (t.flash0 = s.flash0 ∧ t.flash1 = s.flash1)) ∧
  (∀ (s : State) (mb : Mb) (k : Fin 64),
    Runs s →
    s.hwTouched = [] →
    s.mailboxOpen mb = false →
    ∃ t, exec (.doorbell mb (decide (32 ≤ k.val)) (BitVec.ofNat 32 (2 ^ (k.val % 32)))) s = .next t ∧ t.slots = s.slots ∧
      t.mbxs = s.mbxs ∧
      t.get (VI_STATUS_dup_doorbell mb) = s.get (VI_STATUS_dup_doorbell mb) ∧
      t.get (VI_DOORBELL_DROP_CNT_count mb) = s.get (VI_DOORBELL_DROP_CNT_count mb) ∧
      t.mem = s.mem ∧
      t.stitches = s.stitches ∧
      t.skeins = s.skeins ∧
      (t.flash0 = s.flash0 ∧ t.flash1 = s.flash1))

/-- Completion of MGMT_SEGMENT, MGMT_SEGMENT_TIMEOUT and MGMT_WINDOW_ACCESS for a cell taken in order from a port that
this unit owns, by a unit on no rung of its ladder: a segment other than 12 of a free slot is stored at 20 times its
number, its number is noted and the time of the first; the thirteenth number submits a slot whose handle is right and
which holds no generation back, with its completion owed to the port; a busy slot drops the segment, sets dup_doorbell
and counts it; a closed mailbox or a port this unit does not own takes none; 100 us after the first segment an
unfinished slot loses its segments and counts a drop, and before it nothing changes; over an Up port an access below
0x1000 to a whole word is answered with the word's value, a write of word 8 sets the drop count to its low 16 bits,
and any other offset is answered with 0. Only the stored bytes of memory change; stitches, skeins and flash are
unchanged. That a reply of a first segment below 12 is the form stated is the statement's limit: segment 12's 16 bytes
are in the submitting clause. (02_virtual_interfaces.md, 04_fliral_link.md, 22_mailbox_commands.md) -/
def Obligations.ManagementCellsReachTheWindow : Prop :=
  (∀ (s : State) (p : Fin 64) (h : UpHdr) (fn : Fin 4) (k : Fin 64) (seg : Fin 16) (data : List Byte) (v : Nat),
    InOrder s (.port p) h →
    NoRung s →
    s.mapped p fn = some v →
    s.ownsPort p = true ∧ s.mailboxOpen v = true →
    seg.val ≤ 12 →
    data.length = 20 →
    seg.val < 12 →
    v < 256 →
    (cmdOf s v k).phase = .free →
    ((cmdOf s v k).segs.filter (· ≠ seg.val)).length < 12 →
    ∃ t, exec (.mgmtSegment p h fn k seg data) s = .next t ∧ Mem.readBytes Mem.blank t.mem (winBase v + 0x4000 + 256 * k.val + 20 * seg.val) 20 = data ∧
      (∀ a, (a < winBase v + 0x4000 + 256 * k.val + 20 * seg.val ∨ winBase v + 0x4000 + 256 * k.val + 20 * seg.val + 20 ≤ a) → Mem.read Mem.blank t.mem a = Mem.read Mem.blank s.mem a) ∧
      (cmdOf t v k).segs = (cmdOf s v k).segs.filter (· ≠ seg.val) ++ [seg.val] ∧
      (cmdOf t v k).segsAt = (if (cmdOf s v k).segs = [] then s.ct else (cmdOf s v k).segsAt) ∧
      (cmdOf t v k).phase = .free ∧
      t.regs = s.regs ∧
      t.mbxs = s.mbxs ∧
      t.stitches = s.stitches ∧
      t.skeins = s.skeins ∧
      (t.flash0 = s.flash0 ∧ t.flash1 = s.flash1)) ∧
  (∀ (s : State) (p : Fin 64) (h : UpHdr) (fn : Fin 4) (k : Fin 64) (seg : Fin 16) (data : List Byte) (v : Nat),
    InOrder s (.port p) h →
    NoRung s →
    s.mapped p fn = some v →
    s.ownsPort p = true ∧ s.mailboxOpen v = true →
    seg.val ≤ 12 →
    data.length = 20 →
    1 ≤ seg.val →
    v < 256 →
    (cmdOf s v k).phase = .free →
    ((cmdOf s v k).segs.filter (· ≠ seg.val)).length = 12 →
    ({ bytes := s.slotBytes v k } : CmdSlot).handle = v * 2 ^ 24 + k.val * 2 ^ 18 + (cmdOf s v k).gen ∧ (cmdOf s v k).gen < 2 ^ 18 →
    (cmdOf s v k).left = [] →
    ∃ t, exec (.mgmtSegment p h fn k seg data) s = .next t ∧ ((cmdOf t v k).phase = .waiting ∧ (cmdOf t v k).viaPort = some p.val ∧ (cmdOf t v k).segs = [] ∧ (cmdOf t v k).acceptedAt = s.ct) ∧
      (cmdOf t v k).bytes = t.slotBytes v k ∧
      Mem.readBytes Mem.blank t.mem (winBase v + 0x4000 + 256 * k.val + 20 * seg.val) (if seg.val = 12 then 16 else 20) = data.take (if seg.val = 12 then 16 else 20) ∧
      (t.mbx v).order = (s.mbx v).order ++ [k.val] ∧
      t.get (VI_SLOT_BUSY_bit v k) = 1 ∧
      t.stitches = s.stitches ∧
      t.skeins = s.skeins ∧
      (t.flash0 = s.flash0 ∧ t.flash1 = s.flash1)) ∧
  (∀ (s : State) (p : Fin 64) (h : UpHdr) (fn : Fin 4) (k : Fin 64) (seg : Fin 16) (data : List Byte) (v : Nat),
    InOrder s (.port p) h →
    NoRung s →
    s.mapped p fn = some v →
    s.ownsPort p = true ∧ s.mailboxOpen v = true →
    seg.val ≤ 12 →
    (cmdOf s v k).phase ≠ .free →
    ∃ t, exec (.mgmtSegment p h fn k seg data) s = .next t ∧ t.get (VI_STATUS_dup_doorbell v) = 1 ∧
      Counted s t (VI_DOORBELL_DROP_CNT_count v) ∧
      t.mem = s.mem ∧
      t.slots = s.slots ∧
      ((t.mbx v).order = (s.mbx v).order ∧ (t.mbx v).cqWait = (s.mbx v).cqWait) ∧
      t.stitches = s.stitches ∧
      t.skeins = s.skeins ∧
      (t.flash0 = s.flash0 ∧ t.flash1 = s.flash1)) ∧
  (∀ (s : State) (p : Fin 64) (h : UpHdr) (fn : Fin 4) (k : Fin 64) (seg : Fin 16) (data : List Byte) (v : Nat),
    InOrder s (.port p) h →
    NoRung s →
    s.mapped p fn = some v →
    s.ownsPort p = false ∨ s.mailboxOpen v = false →
    ∃ t, exec (.mgmtSegment p h fn k seg data) s = .next t ∧ t.slots = s.slots ∧
      t.mbxs = s.mbxs ∧
      t.regs = s.regs ∧
      t.mem = s.mem ∧
      t.stitches = s.stitches ∧
      t.skeins = s.skeins ∧
      (t.flash0 = s.flash0 ∧ t.flash1 = s.flash1)) ∧
  (∀ (s : State) (mb : Mb) (k : Fin 64),
    (cmdOf s mb k).segs ≠ [] →
    (cmdOf s mb k).segsAt + us 100 ≤ s.ct →
    ∃ t, exec (.mgmtSegmentTimeout mb k) s = .next t ∧ (cmdOf t mb k).segs = [] ∧
      Counted s t (VI_DOORBELL_DROP_CNT_count mb) ∧
      (cmdOf t mb k).phase = (cmdOf s mb k).phase ∧
      t.mem = s.mem ∧
      t.mbxs = s.mbxs ∧
      t.stitches = s.stitches ∧
      t.skeins = s.skeins ∧
      (t.flash0 = s.flash0 ∧ t.flash1 = s.flash1)) ∧
  (∀ (s : State) (mb : Mb) (k : Fin 64),
    (cmdOf s mb k).segs = [] ∨ s.ct < (cmdOf s mb k).segsAt + us 100 →
    ∃ t, exec (.mgmtSegmentTimeout mb k) s = .next t ∧ t = s) ∧
  (∀ (s : State) (p : Fin 64) (h : UpHdr) (fn : Fin 4) (off : BitVec 16) (w : Word) (v : Nat),
    InOrder s (.port p) h →
    NoRung s →
    s.get (PORT_STATUS_link_state p) = 3 →
    s.mapped p fn = some v →
    s.ownsPort p = true →
    off.toNat % 4 = 0 ∧ off.toNat < 0x1000 →
    ∃ t, exec (.mgmtWindowAccess p h fn off false w) s = .next t ∧ (t.out ++ (t.port p).rel.backlog.map (·.2)).contains (.mgmt p fn 2 0 (leBytes 2 off.toNat ++ [0] ++ [0] ++ leBytes 4 (s.readWord (winBase v + off.toNat)).2.toNat)) = true ∧
      t.regs = s.regs ∧
      t.mem = s.mem ∧
      t.slots = s.slots ∧
      t.stitches = s.stitches ∧
      t.skeins = s.skeins ∧
      (t.flash0 = s.flash0 ∧ t.flash1 = s.flash1)) ∧
  (∀ (s : State) (p : Fin 64) (h : UpHdr) (fn : Fin 4) (w : Word) (v : Nat),
    InOrder s (.port p) h →
    NoRung s →
    s.get (PORT_STATUS_link_state p) = 3 →
    s.mapped p fn = some v →
    s.ownsPort p = true →
    s.hwTouched = [] →
    v < 256 →
    ∃ t, exec (.mgmtWindowAccess p h fn 8 true w) s = .next t ∧ t.get (VI_DOORBELL_DROP_CNT_count v) = w.bits 15 0 ∧
      (t.out ++ (t.port p).rel.backlog.map (·.2)).contains (.mgmt p fn 2 0 (leBytes 2 8 ++ [1] ++ [0] ++ leBytes 4 (w.bits 15 0))) = true ∧
      t.mem = s.mem ∧
      t.slots = s.slots ∧
      t.stitches = s.stitches ∧
      t.skeins = s.skeins ∧
      (t.flash0 = s.flash0 ∧ t.flash1 = s.flash1)) ∧
  (∀ (s : State) (p : Fin 64) (h : UpHdr) (fn : Fin 4) (off : BitVec 16) (write : Bool) (w : Word) (v : Nat),
    InOrder s (.port p) h →
    NoRung s →
    s.get (PORT_STATUS_link_state p) = 3 →
    s.mapped p fn = some v →
    s.ownsPort p = true →
    off.toNat % 4 ≠ 0 ∨ 0x1000 ≤ off.toNat →
    ∃ t, exec (.mgmtWindowAccess p h fn off write w) s = .next t ∧ (t.out ++ (t.port p).rel.backlog.map (·.2)).contains (.mgmt p fn 2 0 (leBytes 2 off.toNat ++ leBytes 1 write.toNat ++ [0] ++ leBytes 4 0)) = true ∧
      t.regs = s.regs ∧
      t.mem = s.mem ∧
      t.slots = s.slots ∧
      t.stitches = s.stitches ∧
      t.skeins = s.skeins ∧
      (t.flash0 = s.flash0 ∧ t.flash1 = s.flash1))

/-- Completion of CQ_CONS_WRITE, IRQ_CTRL_WRITE, COAL_TIMER_EXPIRE and TOKEN_REFILL, the writes to an interface that PCIe
has not disabled, of a unit past reset and no field of which an earlier command of the cycle changed: a consumer index
at most 256 behind the producer is taken and one further behind is ignored; one that makes room for the one waiting
completion writes it, advances prod and frees its slot; clearing cq_en forgets what was gathered; while enabled,
lowering coal_count to what was gathered raises vector 0 once, and a count above it raises nothing; the timer raises
vector 0 coal_us after the first gathered completion and does nothing without one or with coal_us 0; a bucket of fewer
than 4 tokens gains one 10 us after its refill time, which moves on by 10 us (when that period starts is the model's
choice, log 154), and otherwise nothing changes. (02_virtual_interfaces.md) -/
def Obligations.CompletionsArePacedAndWaitForRoom : Prop :=
  (∀ (s : State) (mb : Mb) (v : Word),
    Runs s →
    NoRung s →
    s.hwTouched = [] ∧ s.vfOff.contains mb = false →
    (s.get (VI_CQ_PROD_prod mb) + 512 - v.bits 8 0) % 512 ≤ 256 →
    (s.mbx mb).cqWait = [] →
    ∃ t, exec (.cqConsWrite mb v) s = .next t ∧ t.get (VI_CQ_CONS_cons mb) = v.bits 8 0 ∧
      t.get (VI_CQ_PROD_prod mb) = s.get (VI_CQ_PROD_prod mb) ∧
      t.mem = s.mem ∧
      t.slots = s.slots ∧
      t.mbxs = s.mbxs ∧
      t.stitches = s.stitches ∧
      t.skeins = s.skeins ∧
      (t.flash0 = s.flash0 ∧ t.flash1 = s.flash1)) ∧
  (∀ (s : State) (mb : Mb) (v : Word),
    Runs s →
    NoRung s →
    s.hwTouched = [] ∧ s.vfOff.contains mb = false →
    256 < (s.get (VI_CQ_PROD_prod mb) + 512 - v.bits 8 0) % 512 →
    (s.mbx mb).cqWait = [] →
    ∃ t, exec (.cqConsWrite mb v) s = .next t ∧ t.get (VI_CQ_CONS_cons mb) = s.get (VI_CQ_CONS_cons mb) ∧
      t.get (VI_CQ_PROD_prod mb) = s.get (VI_CQ_PROD_prod mb) ∧
      t.mem = s.mem ∧
      t.slots = s.slots ∧
      t.mbxs = s.mbxs ∧
      t.stitches = s.stitches ∧
      t.skeins = s.skeins ∧
      (t.flash0 = s.flash0 ∧ t.flash1 = s.flash1)) ∧
  (∀ (s : State) (mb : Mb) (v : Word) (c : Compl),
    Runs s →
    NoRung s →
    s.hwTouched = [] ∧ s.vfOff.contains mb = false →
    (s.get (VI_CQ_PROD_prod mb) + 512 - v.bits 8 0) % 512 < 256 →
    (s.mbx mb).cqWait = [c] →
    c.slot < 64 →
    Tail s mb c.slot →
    ∃ t, exec (.cqConsWrite mb v) s = .next t ∧ Done t mb c.slot (cmdOf s mb c.slot) c.status c.info c.result ∧
      t.get (VI_CQ_PROD_prod mb) = (s.get (VI_CQ_PROD_prod mb) + 1) % 512 ∧
      (t.mbx mb).cqWait = [] ∧
      t.stitches = s.stitches ∧
      t.skeins = s.skeins ∧
      (t.flash0 = s.flash0 ∧ t.flash1 = s.flash1)) ∧
  (∀ (s : State) (mb : Mb) (v : Word),
    Runs s →
    s.hwTouched = [] ∧ s.vfOff.contains mb = false →
    v.bit 0 = false →
    ∃ t, exec (.irqCtrlWrite mb v) s = .next t ∧ (t.get (VI_IRQ_CTRL_cq_en mb) = 0 ∧ t.get (VI_IRQ_CTRL_coal_count mb) = v.bits 15 8 ∧ t.get (VI_IRQ_CTRL_coal_us mb) = v.bits 31 16) ∧
      ((t.mbx mb).gathered = 0 ∧ (t.mbx mb).firstAt = none) ∧
      t.out = s.out ∧
      t.mem = s.mem ∧
      t.slots = s.slots ∧
      t.stitches = s.stitches ∧
      t.skeins = s.skeins ∧
      (t.flash0 = s.flash0 ∧ t.flash1 = s.flash1)) ∧
  (∀ (s : State) (mb : Mb) (v : Word),
    Runs s →
    s.hwTouched = [] ∧ s.vfOff.contains mb = false →
    v.bit 0 = true →
    s.get (VI_IRQ_CTRL_cq_en mb) = 1 →
    (s.mbx mb).gathered ≠ 0 ∧ Nat.max 1 (v.bits 15 8) ≤ (s.mbx mb).gathered →
    ∃ t, exec (.irqCtrlWrite mb v) s = .next t ∧ t.out = s.out ++ [.msix mb 0] ∧
      ((t.mbx mb).gathered = 0 ∧ (t.mbx mb).firstAt = none) ∧
      t.get (VI_IRQ_CTRL_coal_count mb) = v.bits 15 8 ∧
      t.mem = s.mem ∧
      t.slots = s.slots ∧
      t.stitches = s.stitches ∧
      t.skeins = s.skeins ∧
      (t.flash0 = s.flash0 ∧ t.flash1 = s.flash1)) ∧
  (∀ (s : State) (mb : Mb) (v : Word),
    Runs s →
    s.hwTouched = [] ∧ s.vfOff.contains mb = false →
    v.bit 0 = true →
    s.get (VI_IRQ_CTRL_cq_en mb) = 1 →
    (s.mbx mb).gathered < Nat.max 1 (v.bits 15 8) →
    ∃ t, exec (.irqCtrlWrite mb v) s = .next t ∧ t.out = s.out ∧
      t.mbxs = s.mbxs ∧
      t.get (VI_IRQ_CTRL_coal_count mb) = v.bits 15 8 ∧
      t.mem = s.mem ∧
      t.slots = s.slots ∧
      t.stitches = s.stitches ∧
      t.skeins = s.skeins ∧
      (t.flash0 = s.flash0 ∧ t.flash1 = s.flash1)) ∧
  (∀ (s : State) (mb : Mb) (f : Nat),
    (s.mbx mb).firstAt = some f →
    s.get (VI_IRQ_CTRL_coal_us mb) ≠ 0 ∧ f + us (s.get (VI_IRQ_CTRL_coal_us mb)) ≤ s.ct →
    ∃ t, exec (.coalTimerExpire mb) s = .next t ∧ t.out = s.out ++ [.msix mb 0] ∧
      ((t.mbx mb).gathered = 0 ∧ (t.mbx mb).firstAt = none) ∧
      t.regs = s.regs ∧
      t.mem = s.mem ∧
      t.slots = s.slots ∧
      t.stitches = s.stitches ∧
      t.skeins = s.skeins ∧
      (t.flash0 = s.flash0 ∧ t.flash1 = s.flash1)) ∧
  (∀ (s : State) (mb : Mb),
    (s.mbx mb).firstAt = none ∨ s.get (VI_IRQ_CTRL_coal_us mb) = 0 →
    ∃ t, exec (.coalTimerExpire mb) s = .next t ∧ t = s) ∧
  (∀ (s : State) (mb : Mb),
    (s.mbx mb).tokens < 4 →
    (s.mbx mb).tokenAt + us 10 ≤ s.ct →
    ∃ t, exec (.tokenRefill mb) s = .next t ∧ t.mbx mb = { s.mbx mb with tokens := (s.mbx mb).tokens + 1, tokenAt := (s.mbx mb).tokenAt + us 10 } ∧
      t.regs = s.regs ∧
      t.mem = s.mem ∧
      t.slots = s.slots ∧
      t.stitches = s.stitches ∧
      t.skeins = s.skeins ∧
      (t.flash0 = s.flash0 ∧ t.flash1 = s.flash1)) ∧
  (∀ (s : State) (mb : Mb),
    4 ≤ (s.mbx mb).tokens ∨ s.ct < (s.mbx mb).tokenAt + us 10 →
    ∃ t, exec (.tokenRefill mb) s = .next t ∧ t = s)

/-- Completion of MBX_NOP, MBX_QUERY and MBX_ABORT at their turn: NOP completes with ST_OK, and an opcode that the command
index does not have with ST_RANGE, info 0xFFFE; QUERY answers whether the named command of another slot is held by its
fence, waiting or started, its opcode and the time it was accepted, and changes nothing of it; ABORT ends a waiting
command, which completes first with ST_FENCED, info 1, and then completes with ST_OK; a started one is left and
answers ST_BUSY, info 2, the command's own slot ST_RANGE, info 0, and a handle not current ST_STALE, info 0. The abort
that frees a slot is stated for an order of the two commands alone, without fences. (22_mailbox_commands.md,
02_virtual_interfaces.md) -/
def Obligations.MailboxCommandsComplete : Prop :=
  (∀ (s : State) (mb : Mb) (k : Fin 64),
    Ready s mb k 0 →
    ∃ t, exec (.mbxNop mb k) s = .next t ∧ Done t mb k (cmdOf s mb k) 0 0 0 ∧
      t.stitches = s.stitches ∧
      t.skeins = s.skeins ∧
      (t.flash0 = s.flash0 ∧ t.flash1 = s.flash1)) ∧
  (∀ (s : State) (mb : Mb) (k : Fin 64),
    (cmdOf s mb k).phase = .waiting ∧ (cmdOf s mb k).opcode = 0x200 →
    s.assigned mb = true ∧ s.heldBack mb k = false →
    s.ringFull mb = false ∧ (s.mbx mb).cqWait = [] →
    Tail s mb k →
    ∃ t, exec (.mbxNop mb k) s = .next t ∧ Done t mb k (cmdOf s mb k) 4 0xFFFE 0 ∧
      t.stitches = s.stitches ∧
      t.skeins = s.skeins ∧
      (t.flash0 = s.flash0 ∧ t.flash1 = s.flash1)) ∧
  (∀ (s : State) (mb : Mb) (k : Fin 64) (j : Nat),
    Ready s mb k 0x101 →
    s.handleSlot mb (u32 (payloadOf s mb k) 0) = some j →
    j ≠ k.val →
    ∃ t, exec (.mbxQuery mb k) s = .next t ∧ Done t mb k (cmdOf s mb k) 0 (if (cmdOf s mb j).phase = .started then 2 else if s.heldBack mb j then 0 else 1) ((cmdOf s mb j).opcode + 2 ^ 16 * ((cmdOf s mb j).acceptedAt % 2 ^ 48)) ∧
      cmdOf t mb j = cmdOf s mb j ∧
      t.stitches = s.stitches ∧
      t.skeins = s.skeins ∧
      (t.flash0 = s.flash0 ∧ t.flash1 = s.flash1)) ∧
  (∀ (s : State) (mb : Mb) (k : Fin 64),
    Ready s mb k 0x101 →
    s.handleSlot mb (u32 (payloadOf s mb k) 0) = none →
    Tail s mb k →
    ∃ t, exec (.mbxQuery mb k) s = .next t ∧ Done t mb k (cmdOf s mb k) 5 0 0 ∧
      t.stitches = s.stitches ∧
      t.skeins = s.skeins ∧
      (t.flash0 = s.flash0 ∧ t.flash1 = s.flash1)) ∧
  (∀ (s : State) (mb : Mb) (k : Fin 64) (j : Nat),
    Ready s mb k 0x102 →
    s.handleSlot mb (u32 (payloadOf s mb k) 0) = some j →
    j ≠ k.val →
    (cmdOf s mb j).phase = .waiting →
    (s.mbx mb).order = [j, k.val] →
    flagBit (cmdOf s mb k) 0 = false ∧ flagBit (cmdOf s mb k) 2 = false →
    s.get (VI_CQ_CONS_cons mb) = s.get (VI_CQ_PROD_prod mb) →
    ∃ t, exec (.mbxAbort mb k) s = .next t ∧ Done t mb k (cmdOf s mb k) 0 0 0 ∧
      (cmdOf t mb j).phase = .free ∧
      Mem.readBytes Mem.blank t.mem (winBase mb + 0x1000 + 16 * (s.get (VI_CQ_PROD_prod mb) % 256)) 16 = leBytes 4 (cmdOf s mb j).handle ++ leBytes 2 6 ++ leBytes 2 1 ++ leBytes 8 0 ∧
      t.get (VI_CQ_PROD_prod mb) = (s.get (VI_CQ_PROD_prod mb) + 2) % 512 ∧
      (t.mbx mb).order = [] ∧
      t.stitches = s.stitches ∧
      t.skeins = s.skeins ∧
      (t.flash0 = s.flash0 ∧ t.flash1 = s.flash1)) ∧
  (∀ (s : State) (mb : Mb) (k : Fin 64) (j : Nat),
    Ready s mb k 0x102 →
    s.handleSlot mb (u32 (payloadOf s mb k) 0) = some j →
    j ≠ k.val →
    (cmdOf s mb j).phase = .started →
    Tail s mb k →
    ∃ t, exec (.mbxAbort mb k) s = .next t ∧ Done t mb k (cmdOf s mb k) 2 2 0 ∧
      cmdOf t mb j = cmdOf s mb j ∧
      t.stitches = s.stitches ∧
      t.skeins = s.skeins ∧
      (t.flash0 = s.flash0 ∧ t.flash1 = s.flash1)) ∧
  (∀ (s : State) (mb : Mb) (k : Fin 64),
    Ready s mb k 0x102 →
    u32 (payloadOf s mb k) 0 / 2 ^ 18 % 64 = k.val ∧ u32 (payloadOf s mb k) 0 / 2 ^ 24 = mb.val % 256 →
    Tail s mb k →
    ∃ t, exec (.mbxAbort mb k) s = .next t ∧ Done t mb k (cmdOf s mb k) 4 0 0 ∧
      t.stitches = s.stitches ∧
      t.skeins = s.skeins ∧
      (t.flash0 = s.flash0 ∧ t.flash1 = s.flash1)) ∧
  (∀ (s : State) (mb : Mb) (k : Fin 64),
    Ready s mb k 0x102 →
    s.handleSlot mb (u32 (payloadOf s mb k) 0) = none →
    u32 (payloadOf s mb k) 0 / 2 ^ 18 % 64 ≠ k.val →
    Tail s mb k →
    ∃ t, exec (.mbxAbort mb k) s = .next t ∧ Done t mb k (cmdOf s mb k) 5 0 0 ∧
      t.stitches = s.stitches ∧
      t.skeins = s.skeins ∧
      (t.flash0 = s.flash0 ∧ t.flash1 = s.flash1))

/-- Completion of VI_ASSIGN, VI_RELEASE, VI_MAP and OBJ_ASSIGN at their turn: with no service waiting for the DRBG, an
assignment makes the key of the next generation, counts vi_gen and answers both; it stays started and queued while the
DRBG withholds output, completes with ST_ENTROPY when the DRBG has failed, and with ST_BUSY, info 2, for an assigned
VI, whose key stays; a release of an unassigned VI completes and changes neither the trust block nor the scheduled
entries; of an assigned one with one command it destroys the key with the window records written under it, empties its
order and its deficit and leaves it unassigned, its count of keys kept; a waiting command leaves without a completion,
its slot at the next generation, and a started one completes with ST_FENCED, info 2; a map waits for the next cast-on
and a VI mapped elsewhere is ST_RANGE, info 2; an object goes to the VI of the named function of its port, and a
function without a mapped and assigned VI is ST_RANGE, info 2. (02_virtual_interfaces.md, 20_trust_and_update.md,
22_mailbox_commands.md) -/
def Obligations.InterfacesAreAssignedAndReleased : Prop :=
  (∀ (s : State) (mb : Mb) (k : Fin 64),
    Ready s mb k 0x110 →
    NoRung s →
    (u16 (payloadOf s mb k) 0) < 256 →
    s.assigned (u16 (payloadOf s mb k) 0) = false →
    s.trust.queue = [] →
    s.get SEC_STATUS_drbg = 1 →
    ∃ t, exec (.viAssign mb k) s = .next t ∧ Done t mb k (cmdOf s mb k) 0 0 (((s.mbx (u16 (payloadOf s mb k) 0)).viGen + 1) % 65536 + 65536 * (((s.mbx (u16 (payloadOf s mb k) 0)).keyCount + 1) % 65536)) ∧
      t.assigned (u16 (payloadOf s mb k) 0) = true ∧
      (t.mbx (u16 (payloadOf s mb k) 0)).keyGen = some (((s.mbx (u16 (payloadOf s mb k) 0)).keyCount + 1) % 65536) ∧
      t.get (VI_ID_vi_gen (u16 (payloadOf s mb k) 0)) = ((s.mbx (u16 (payloadOf s mb k) 0)).viGen + 1) % 65536 ∧
      t.stitches = s.stitches ∧
      t.skeins = s.skeins ∧
      (t.flash0 = s.flash0 ∧ t.flash1 = s.flash1)) ∧
  (∀ (s : State) (mb : Mb) (k : Fin 64),
    Ready s mb k 0x110 →
    NoRung s →
    (u16 (payloadOf s mb k) 0) < 256 →
    s.assigned (u16 (payloadOf s mb k) 0) = false →
    s.trust.queue = [] →
    s.get SEC_STATUS_drbg = 2 →
    ∃ t, exec (.viAssign mb k) s = .next t ∧ (cmdOf t mb k).phase = .started ∧
      t.trust.queue = [.viKey mb k (u16 (payloadOf s mb k) 0)] ∧
      t.get SEC_STATUS_queue = 1 ∧
      t.assigned (u16 (payloadOf s mb k) 0) = false ∧
      t.mem = s.mem ∧
      t.stitches = s.stitches ∧
      t.skeins = s.skeins ∧
      (t.flash0 = s.flash0 ∧ t.flash1 = s.flash1)) ∧
  (∀ (s : State) (mb : Mb) (k : Fin 64),
    Ready s mb k 0x110 →
    NoRung s →
    (u16 (payloadOf s mb k) 0) < 256 →
    s.assigned (u16 (payloadOf s mb k) 0) = false →
    s.trust.queue = [] →
    s.get SEC_STATUS_drbg = 3 ∧ s.trust.instAt = none →
    Tail s mb k →
    ∃ t, exec (.viAssign mb k) s = .next t ∧ Done t mb k (cmdOf s mb k) 8 0 0 ∧
      t.assigned (u16 (payloadOf s mb k) 0) = false ∧
      t.stitches = s.stitches ∧
      t.skeins = s.skeins ∧
      (t.flash0 = s.flash0 ∧ t.flash1 = s.flash1)) ∧
  (∀ (s : State) (mb : Mb) (k : Fin 64),
    Ready s mb k 0x110 →
    NoRung s →
    (u16 (payloadOf s mb k) 0) < 256 →
    s.assigned (u16 (payloadOf s mb k) 0) = true →
    Tail s mb k →
    ∃ t, exec (.viAssign mb k) s = .next t ∧ Done t mb k (cmdOf s mb k) 2 2 0 ∧
      (t.mbx (u16 (payloadOf s mb k) 0)).keyGen = (s.mbx (u16 (payloadOf s mb k) 0)).keyGen ∧
      t.stitches = s.stitches ∧
      t.skeins = s.skeins ∧
      (t.flash0 = s.flash0 ∧ t.flash1 = s.flash1)) ∧
  (∀ (s : State) (mb : Mb) (k : Fin 64),
    Ready s mb k 0x111 →
    NoRung s →
    (u16 (payloadOf s mb k) 0) < 256 →
    s.assigned (u16 (payloadOf s mb k) 0) = false →
    ∃ t, exec (.viRelease mb k) s = .next t ∧ Done t mb k (cmdOf s mb k) 0 0 0 ∧
      t.assigned (u16 (payloadOf s mb k) 0) = false ∧
      t.trust = s.trust ∧
      t.eph = s.eph ∧
      t.stitches = s.stitches ∧
      t.skeins = s.skeins ∧
      (t.flash0 = s.flash0 ∧ t.flash1 = s.flash1)) ∧
  (∀ (s : State) (mb : Mb) (k : Fin 64) (j : Fin 64),
    Ready s mb k 0x111 →
    NoRung s →
    (u16 (payloadOf s mb k) 0) < 256 →
    s.assigned (u16 (payloadOf s mb k) 0) = true →
    (s.mbx (u16 (payloadOf s mb k) 0)).order = [j.val] →
    (cmdOf s (u16 (payloadOf s mb k) 0) j).phase = .waiting ∧ (cmdOf s (u16 (payloadOf s mb k) 0) j).acceptedAt ≠ s.ct →
    ∃ t, exec (.viRelease mb k) s = .next t ∧ Done t mb k (cmdOf s mb k) 0 0 0 ∧
      (t.assigned (u16 (payloadOf s mb k) 0) = false ∧ t.get (VI_STATUS_assigned (u16 (payloadOf s mb k) 0)) = 0) ∧
      ((t.mbx (u16 (payloadOf s mb k) 0)).keyGen = none ∧ (t.mbx (u16 (payloadOf s mb k) 0)).order = [] ∧ (t.mbx (u16 (payloadOf s mb k) 0)).key = none ∧ (t.mbx (u16 (payloadOf s mb k) 0)).deficit = 0) ∧
      (t.mbx (u16 (payloadOf s mb k) 0)).keyCount = (s.mbx (u16 (payloadOf s mb k) 0)).keyCount ∧
      ((cmdOf t (u16 (payloadOf s mb k) 0) j).phase = .free ∧ (cmdOf t (u16 (payloadOf s mb k) 0) j).gen = ((cmdOf s (u16 (payloadOf s mb k) 0) j).gen + 1) % 2 ^ 18) ∧
      t.get (VI_CQ_PROD_prod (u16 (payloadOf s mb k) 0)) = s.get (VI_CQ_PROD_prod (u16 (payloadOf s mb k) 0)) ∧
      t.stitches = s.stitches.map (fun (x : Nat × Stitch) => (x.1, { x.2 with ring := x.2.ring.filter (fun r => decide (r.1 ≠ (u16 (payloadOf s mb k) 0))) })) ∧
      (t.flash0 = s.flash0 ∧ t.flash1 = s.flash1)) ∧
  (∀ (s : State) (mb : Mb) (k : Fin 64) (j : Fin 64),
    Ready s mb k 0x111 →
    NoRung s →
    (u16 (payloadOf s mb k) 0) < 256 →
    s.assigned (u16 (payloadOf s mb k) 0) = true →
    (s.mbx (u16 (payloadOf s mb k) 0)).order = [j.val] →
    (cmdOf s (u16 (payloadOf s mb k) 0) j).phase = .started →
    s.ringFull (u16 (payloadOf s mb k) 0) = false ∧ (s.mbx (u16 (payloadOf s mb k) 0)).cqWait = [] →
    ∃ t, exec (.viRelease mb k) s = .next t ∧ Done t mb k (cmdOf s mb k) 0 0 0 ∧
      (t.assigned (u16 (payloadOf s mb k) 0) = false ∧ t.get (VI_STATUS_assigned (u16 (payloadOf s mb k) 0)) = 0) ∧
      ((t.mbx (u16 (payloadOf s mb k) 0)).keyGen = none ∧ (t.mbx (u16 (payloadOf s mb k) 0)).order = [] ∧ (t.mbx (u16 (payloadOf s mb k) 0)).key = none ∧ (t.mbx (u16 (payloadOf s mb k) 0)).deficit = 0) ∧
      (t.mbx (u16 (payloadOf s mb k) 0)).keyCount = (s.mbx (u16 (payloadOf s mb k) 0)).keyCount ∧
      Done t (u16 (payloadOf s mb k) 0) j (cmdOf s (u16 (payloadOf s mb k) 0) j) 6 2 0 ∧
      t.stitches = s.stitches.map (fun (x : Nat × Stitch) => (x.1, { x.2 with ring := x.2.ring.filter (fun r => decide (r.1 ≠ (u16 (payloadOf s mb k) 0))) })) ∧
      (t.flash0 = s.flash0 ∧ t.flash1 = s.flash1)) ∧
  (∀ (s : State) (mb : Mb) (k : Fin 64),
    Ready s mb k 0x112 →
    u8 (payloadOf s mb k) 0 < 64 ∧ u8 (payloadOf s mb k) 1 < 4 →
    u16 (payloadOf s mb k) 2 < 256 ∨ u16 (payloadOf s mb k) 2 = 0xFFFF →
    (List.range 256).all (fun i => decide (i = 4 * u8 (payloadOf s mb k) 0 + u8 (payloadOf s mb k) 1 ∨ s.mappedNext i ≠ some (u16 (payloadOf s mb k) 2))) = true →
    ∃ t, exec (.viMap mb k) s = .next t ∧ Done t mb k (cmdOf s mb k) 0 0 0 ∧
      t.mappedNext (4 * u8 (payloadOf s mb k) 0 + u8 (payloadOf s mb k) 1) = (if u16 (payloadOf s mb k) 2 = 0xFFFF then none else some (u16 (payloadOf s mb k) 2)) ∧
      t.viMap = s.viMap ∧
      t.stitches = s.stitches ∧
      t.skeins = s.skeins ∧
      (t.flash0 = s.flash0 ∧ t.flash1 = s.flash1)) ∧
  (∀ (s : State) (mb : Mb) (k : Fin 64) (i : Nat),
    Ready s mb k 0x112 →
    u8 (payloadOf s mb k) 0 < 64 ∧ u8 (payloadOf s mb k) 1 < 4 →
    i < 256 ∧ i ≠ 4 * u8 (payloadOf s mb k) 0 + u8 (payloadOf s mb k) 1 →
    s.mappedNext i = some (u16 (payloadOf s mb k) 2) →
    Tail s mb k →
    ∃ t, exec (.viMap mb k) s = .next t ∧ Done t mb k (cmdOf s mb k) 4 2 0 ∧
      t.viMapNext = s.viMapNext ∧
      t.stitches = s.stitches ∧
      t.skeins = s.skeins ∧
      (t.flash0 = s.flash0 ∧ t.flash1 = s.flash1)) ∧
  (∀ (s : State) (mb : Mb) (k : Fin 64) (v : Nat),
    Ready s mb k 0x113 →
    s.skeinBad mb (u16 (payloadOf s mb k) 0) = false →
    u8 (payloadOf s mb k) 2 < 4 →
    s.mapped (s.sk (u16 (payloadOf s mb k) 0)).slot (u8 (payloadOf s mb k) 2) = some v →
    s.assigned v = true →
    s.ownsPort (s.sk (u16 (payloadOf s mb k) 0)).slot = true →
    s.traceEngine (u16 (payloadOf s mb k) 0) = none →
    ∃ t, exec (.objAssign mb k) s = .next t ∧ Done t mb k (cmdOf s mb k) 0 0 0 ∧
      t.sk (u16 (payloadOf s mb k) 0) = { s.sk (u16 (payloadOf s mb k) 0) with fn := u8 (payloadOf s mb k) 2 } ∧
      t.skOwner (u16 (payloadOf s mb k) 0) = v ∧
      t.stitches = s.stitches ∧
      (t.flash0 = s.flash0 ∧ t.flash1 = s.flash1)) ∧
  (∀ (s : State) (mb : Mb) (k : Fin 64),
    Ready s mb k 0x113 →
    s.skeinBad mb (u16 (payloadOf s mb k) 0) = false →
    s.mapped (s.sk (u16 (payloadOf s mb k) 0)).slot (u8 (payloadOf s mb k) 2) = none ∨ u8 (payloadOf s mb k) 2 = 1 ∧ s.assigned ((s.mapped (s.sk (u16 (payloadOf s mb k) 0)).slot 1).getD 0) = false →
    Tail s mb k →
    ∃ t, exec (.objAssign mb k) s = .next t ∧ Done t mb k (cmdOf s mb k) 4 2 0 ∧
      t.stitches = s.stitches ∧
      t.skeins = s.skeins ∧
      (t.flash0 = s.flash0 ∧ t.flash1 = s.flash1))

/-- Completion of PATTERN_WRITE and PATTERN_COMMIT at their turn: a write of 1 to 224 bytes stores its data in the bank
not in use on both flash devices, erasing the 8 MiB bank first at offset 0, and an offset that is no multiple of 16 or
data past 8 MiB completes with ST_RANGE, info 0, and writes nothing; a commit completes with ST_FAULT, info 1, when no
copy of the written bank is good, and with ST_FAULT, info 2, when the bank's format is above the running image's, both
leaving the flash as it is, and otherwise writes a trailer with a sequence one above the other bank's on both devices,
keeps no setting of region 0 that overrides the pattern and forgets the written bank; both complete with ST_BUSY, info
5, under an update plan. (22_mailbox_commands.md, 20_trust_and_update.md, 18_nightwatch_recorder.md) -/
def Obligations.PatternBanksAreWrittenAndCommitted : Prop :=
  (∀ (s : State) (mb : Mb) (k : Fin 64),
    Ready s mb k 0x120 →
    1 ≤ u16 (payloadOf s mb k) 4 ∧ u16 (payloadOf s mb k) 4 ≤ 224 →
    s.trust.planAt = none →
    u32 (payloadOf s mb k) 0 ≠ 0 ∧ u32 (payloadOf s mb k) 0 % 16 = 0 ∧ u32 (payloadOf s mb k) 0 + u16 (payloadOf s mb k) 4 ≤ 8388608 →
    ∃ t, exec (.patternWrite mb k) s = .next t ∧ Done t mb k (cmdOf s mb k) 0 0 0 ∧
      t.flash0 = (s.flashWrite 0 (bankBase s.writeBank + u32 (payloadOf s mb k) 0) (((payloadOf s mb k).drop 16).take (u16 (payloadOf s mb k) 4))).flash0 ∧
      t.flash1 = (s.flashWrite 1 (bankBase s.writeBank + u32 (payloadOf s mb k) 0) (((payloadOf s mb k).drop 16).take (u16 (payloadOf s mb k) 4))).flash1 ∧
      t.trust.wbank = some s.writeBank ∧
      t.stitches = s.stitches ∧
      t.skeins = s.skeins) ∧
  (∀ (s : State) (mb : Mb) (k : Fin 64),
    Ready s mb k 0x120 →
    1 ≤ u16 (payloadOf s mb k) 4 ∧ u16 (payloadOf s mb k) 4 ≤ 224 →
    s.trust.planAt = none →
    u32 (payloadOf s mb k) 0 = 0 →
    ∃ t, exec (.patternWrite mb k) s = .next t ∧ Done t mb k (cmdOf s mb k) 0 0 0 ∧
      t.flash0 = ((s.flashErase 0 (bankBase s.writeBank) 8388608).flashWrite 0 (bankBase s.writeBank) (((payloadOf s mb k).drop 16).take (u16 (payloadOf s mb k) 4))).flash0 ∧
      t.flash1 = ((s.flashErase 1 (bankBase s.writeBank) 8388608).flashWrite 1 (bankBase s.writeBank) (((payloadOf s mb k).drop 16).take (u16 (payloadOf s mb k) 4))).flash1 ∧
      t.trust.wbank = some s.writeBank ∧
      t.stitches = s.stitches ∧
      t.skeins = s.skeins) ∧
  (∀ (s : State) (mb : Mb) (k : Fin 64),
    Ready s mb k 0x120 →
    u32 (payloadOf s mb k) 0 % 16 ≠ 0 ∨ 8388608 < u32 (payloadOf s mb k) 0 + u16 (payloadOf s mb k) 4 →
    Tail s mb k →
    ∃ t, exec (.patternWrite mb k) s = .next t ∧ Done t mb k (cmdOf s mb k) 4 0 0 ∧
      t.stitches = s.stitches ∧
      t.skeins = s.skeins ∧
      (t.flash0 = s.flash0 ∧ t.flash1 = s.flash1)) ∧
  (∀ (s : State) (mb : Mb) (k : Fin 64),
    Ready s mb k 0x120 →
    1 ≤ u16 (payloadOf s mb k) 4 ∧ u16 (payloadOf s mb k) 4 ≤ 224 →
    s.trust.planAt.isSome = true →
    u32 (payloadOf s mb k) 0 = 0 →
    Tail s mb k →
    ∃ t, exec (.patternWrite mb k) s = .next t ∧ Done t mb k (cmdOf s mb k) 2 5 0 ∧
      t.stitches = s.stitches ∧
      t.skeins = s.skeins ∧
      (t.flash0 = s.flash0 ∧ t.flash1 = s.flash1)) ∧
  (∀ (s : State) (mb : Mb) (k : Fin 64),
    Ready s mb k 0x121 →
    s.trust.planAt = none →
    Tail s mb k →
    ∃ t, exec (.patternCommit mb k) s = .next t ∧ (s.bankOn s.writeBank = none → Done t mb k (cmdOf s mb k) 9 1 0 ∧ t.flash0 = s.flash0 ∧ t.flash1 = s.flash1 ∧ t.trust.wbank = s.trust.wbank) ∧
      (∀ d, s.bankOn s.writeBank = some d → u16 (s.imgHeader s.trust.image) 12 < u16 (s.bankTrailer d s.writeBank) 0 → Done t mb k (cmdOf s mb k) 9 2 0 ∧ t.flash0 = s.flash0 ∧ t.flash1 = s.flash1 ∧ t.trust.wbank = s.trust.wbank) ∧
      (∀ d, s.bankOn s.writeBank = some d → u16 (s.bankTrailer d s.writeBank) 0 ≤ u16 (s.imgHeader s.trust.image) 12 → Done t mb k (cmdOf s mb k) 0 0 0 ∧ t.trust.wbank = none ∧ (∀ x ∈ t.nv.settings, 10 < x.1 / 4096) ∧ u32 (t.bankTrailer 0 s.writeBank) 4 = (s.bankSeq (1 - s.writeBank) + 1) % 2 ^ 32 ∧ u32 (t.bankTrailer 1 s.writeBank) 4 = (s.bankSeq (1 - s.writeBank) + 1) % 2 ^ 32) ∧
      t.stitches = s.stitches ∧
      t.skeins = s.skeins) ∧
  (∀ (s : State) (mb : Mb) (k : Fin 64),
    Ready s mb k 0x121 →
    s.trust.planAt.isSome = true →
    Tail s mb k →
    ∃ t, exec (.patternCommit mb k) s = .next t ∧ Done t mb k (cmdOf s mb k) 2 5 0 ∧
      t.stitches = s.stitches ∧
      t.skeins = s.skeins ∧
      (t.flash0 = s.flash0 ∧ t.flash1 = s.flash1))
end

