-- ==== Sys2Proof/Laws/State.lean ====
section
/-! SUPPORT. What each field of the state reads after each update of one object or register: one lemma for each, true by
computation, so that no proof unfolds a record update. -/
namespace Sys2Proof.Machine

section
variable (s : State) (i : Nat) (f : CmdSlot → CmdSlot)
@[simp] theorem State.updSlotC_pending : (s.updSlotC i f).pending = s.pending := rfl
@[simp] theorem State.updSlotC_ct : (s.updSlotC i f).ct = s.ct := rfl
@[simp] theorem State.updSlotC_regs : (s.updSlotC i f).regs = s.regs := rfl
@[simp] theorem State.updSlotC_latchHi : (s.updSlotC i f).latchHi = s.latchHi := rfl
@[simp] theorem State.updSlotC_heldLo : (s.updSlotC i f).heldLo = s.heldLo := rfl
@[simp] theorem State.updSlotC_hwTouched : (s.updSlotC i f).hwTouched = s.hwTouched := rfl
@[simp] theorem State.updSlotC_swTouched : (s.updSlotC i f).swTouched = s.swTouched := rfl
@[simp] theorem State.updSlotC_collided : (s.updSlotC i f).collided = s.collided := rfl
@[simp] theorem State.updSlotC_cmpOld : (s.updSlotC i f).cmpOld = s.cmpOld := rfl
@[simp] theorem State.updSlotC_cmpDone : (s.updSlotC i f).cmpDone = s.cmpDone := rfl
@[simp] theorem State.updSlotC_out : (s.updSlotC i f).out = s.out := rfl
@[simp] theorem State.updSlotC_hdrs : (s.updSlotC i f).hdrs = s.hdrs := rfl
@[simp] theorem State.updSlotC_mem : (s.updSlotC i f).mem = s.mem := rfl
@[simp] theorem State.updSlotC_flash0 : (s.updSlotC i f).flash0 = s.flash0 := rfl
@[simp] theorem State.updSlotC_flash1 : (s.updSlotC i f).flash1 = s.flash1 := rfl
@[simp] theorem State.updSlotC_hubStage : (s.updSlotC i f).hubStage = s.hubStage := rfl
@[simp] theorem State.updSlotC_mbxs : (s.updSlotC i f).mbxs = s.mbxs := rfl
@[simp] theorem State.updSlotC_ctrlTurn : (s.updSlotC i f).ctrlTurn = s.ctrlTurn := rfl
@[simp] theorem State.updSlotC_bulkTurn : (s.updSlotC i f).bulkTurn = s.bulkTurn := rfl
@[simp] theorem State.updSlotC_entering : (s.updSlotC i f).entering = s.entering := rfl
@[simp] theorem State.updSlotC_vfOff : (s.updSlotC i f).vfOff = s.vfOff := rfl
@[simp] theorem State.updSlotC_viMap : (s.updSlotC i f).viMap = s.viMap := rfl
@[simp] theorem State.updSlotC_viMapNext : (s.updSlotC i f).viMapNext = s.viMapNext := rfl
@[simp] theorem State.updSlotC_mers : (s.updSlotC i f).mers = s.mers := rfl
@[simp] theorem State.updSlotC_fans : (s.updSlotC i f).fans = s.fans := rfl
@[simp] theorem State.updSlotC_gpio : (s.updSlotC i f).gpio = s.gpio := rfl
@[simp] theorem State.updSlotC_gpioDriven : (s.updSlotC i f).gpioDriven = s.gpioDriven := rfl
@[simp] theorem State.updSlotC_debugHalt : (s.updSlotC i f).debugHalt = s.debugHalt := rfl
@[simp] theorem State.updSlotC_debugLock : (s.updSlotC i f).debugLock = s.debugLock := rfl
@[simp] theorem State.updSlotC_eph : (s.updSlotC i f).eph = s.eph := rfl
@[simp] theorem State.updSlotC_ephLast : (s.updSlotC i f).ephLast = s.ephLast := rfl
@[simp] theorem State.updSlotC_ephCount : (s.updSlotC i f).ephCount = s.ephCount := rfl
@[simp] theorem State.updSlotC_posts : (s.updSlotC i f).posts = s.posts := rfl
@[simp] theorem State.updSlotC_ports : (s.updSlotC i f).ports = s.ports := rfl
@[simp] theorem State.updSlotC_svcs : (s.updSlotC i f).svcs = s.svcs := rfl
@[simp] theorem State.updSlotC_partnerRel : (s.updSlotC i f).partnerRel = s.partnerRel := rfl
@[simp] theorem State.updSlotC_stitches : (s.updSlotC i f).stitches = s.stitches := rfl
@[simp] theorem State.updSlotC_skeins : (s.updSlotC i f).skeins = s.skeins := rfl
@[simp] theorem State.updSlotC_engines : (s.updSlotC i f).engines = s.engines := rfl
@[simp] theorem State.updSlotC_rects : (s.updSlotC i f).rects = s.rects := rfl
@[simp] theorem State.updSlotC_strs : (s.updSlotC i f).strs = s.strs := rfl
@[simp] theorem State.updSlotC_slotx : (s.updSlotC i f).slotx = s.slotx := rfl
@[simp] theorem State.updSlotC_budgets : (s.updSlotC i f).budgets = s.budgets := rfl
@[simp] theorem State.updSlotC_rails : (s.updSlotC i f).rails = s.rails := rfl
@[simp] theorem State.updSlotC_railRuns : (s.updSlotC i f).railRuns = s.railRuns := rfl
@[simp] theorem State.updSlotC_seqs : (s.updSlotC i f).seqs = s.seqs := rfl
@[simp] theorem State.updSlotC_adcs : (s.updSlotC i f).adcs = s.adcs := rfl
@[simp] theorem State.updSlotC_ains : (s.updSlotC i f).ains = s.ains := rfl
@[simp] theorem State.updSlotC_phases : (s.updSlotC i f).phases = s.phases := rfl
@[simp] theorem State.updSlotC_sensors : (s.updSlotC i f).sensors = s.sensors := rfl
@[simp] theorem State.updSlotC_tws : (s.updSlotC i f).tws = s.tws := rfl
@[simp] theorem State.updSlotC_shelf : (s.updSlotC i f).shelf = s.shelf := rfl
@[simp] theorem State.updSlotC_pair : (s.updSlotC i f).pair = s.pair := rfl
@[simp] theorem State.updSlotC_faults : (s.updSlotC i f).faults = s.faults := rfl
@[simp] theorem State.updSlotC_nv : (s.updSlotC i f).nv = s.nv := rfl
@[simp] theorem State.updSlotC_trust : (s.updSlotC i f).trust = s.trust := rfl
@[simp] theorem State.updSlotC_rst : (s.updSlotC i f).rst = s.rst := rfl
@[simp] theorem State.updSlotC_thm : (s.updSlotC i f).thm = s.thm := rfl
@[simp] theorem State.updSlotC_pattern : (s.updSlotC i f).pattern = s.pattern := rfl
@[simp] theorem State.updSlotC_fresh : (s.updSlotC i f).fresh = s.fresh := rfl
end

section
variable (s : State) (i : Nat) (f : Mailbox → Mailbox)
@[simp] theorem State.updMbx_pending : (s.updMbx i f).pending = s.pending := rfl
@[simp] theorem State.updMbx_ct : (s.updMbx i f).ct = s.ct := rfl
@[simp] theorem State.updMbx_regs : (s.updMbx i f).regs = s.regs := rfl
@[simp] theorem State.updMbx_latchHi : (s.updMbx i f).latchHi = s.latchHi := rfl
@[simp] theorem State.updMbx_heldLo : (s.updMbx i f).heldLo = s.heldLo := rfl
@[simp] theorem State.updMbx_hwTouched : (s.updMbx i f).hwTouched = s.hwTouched := rfl
@[simp] theorem State.updMbx_swTouched : (s.updMbx i f).swTouched = s.swTouched := rfl
@[simp] theorem State.updMbx_collided : (s.updMbx i f).collided = s.collided := rfl
@[simp] theorem State.updMbx_cmpOld : (s.updMbx i f).cmpOld = s.cmpOld := rfl
@[simp] theorem State.updMbx_cmpDone : (s.updMbx i f).cmpDone = s.cmpDone := rfl
@[simp] theorem State.updMbx_out : (s.updMbx i f).out = s.out := rfl
@[simp] theorem State.updMbx_hdrs : (s.updMbx i f).hdrs = s.hdrs := rfl
@[simp] theorem State.updMbx_mem : (s.updMbx i f).mem = s.mem := rfl
@[simp] theorem State.updMbx_flash0 : (s.updMbx i f).flash0 = s.flash0 := rfl
@[simp] theorem State.updMbx_flash1 : (s.updMbx i f).flash1 = s.flash1 := rfl
@[simp] theorem State.updMbx_hubStage : (s.updMbx i f).hubStage = s.hubStage := rfl
@[simp] theorem State.updMbx_slots : (s.updMbx i f).slots = s.slots := rfl
@[simp] theorem State.updMbx_ctrlTurn : (s.updMbx i f).ctrlTurn = s.ctrlTurn := rfl
@[simp] theorem State.updMbx_bulkTurn : (s.updMbx i f).bulkTurn = s.bulkTurn := rfl
@[simp] theorem State.updMbx_entering : (s.updMbx i f).entering = s.entering := rfl
@[simp] theorem State.updMbx_vfOff : (s.updMbx i f).vfOff = s.vfOff := rfl
@[simp] theorem State.updMbx_viMap : (s.updMbx i f).viMap = s.viMap := rfl
@[simp] theorem State.updMbx_viMapNext : (s.updMbx i f).viMapNext = s.viMapNext := rfl
@[simp] theorem State.updMbx_mers : (s.updMbx i f).mers = s.mers := rfl
@[simp] theorem State.updMbx_fans : (s.updMbx i f).fans = s.fans := rfl
@[simp] theorem State.updMbx_gpio : (s.updMbx i f).gpio = s.gpio := rfl
@[simp] theorem State.updMbx_gpioDriven : (s.updMbx i f).gpioDriven = s.gpioDriven := rfl
@[simp] theorem State.updMbx_debugHalt : (s.updMbx i f).debugHalt = s.debugHalt := rfl
@[simp] theorem State.updMbx_debugLock : (s.updMbx i f).debugLock = s.debugLock := rfl
@[simp] theorem State.updMbx_eph : (s.updMbx i f).eph = s.eph := rfl
@[simp] theorem State.updMbx_ephLast : (s.updMbx i f).ephLast = s.ephLast := rfl
@[simp] theorem State.updMbx_ephCount : (s.updMbx i f).ephCount = s.ephCount := rfl
@[simp] theorem State.updMbx_posts : (s.updMbx i f).posts = s.posts := rfl
@[simp] theorem State.updMbx_ports : (s.updMbx i f).ports = s.ports := rfl
@[simp] theorem State.updMbx_svcs : (s.updMbx i f).svcs = s.svcs := rfl
@[simp] theorem State.updMbx_partnerRel : (s.updMbx i f).partnerRel = s.partnerRel := rfl
@[simp] theorem State.updMbx_stitches : (s.updMbx i f).stitches = s.stitches := rfl
@[simp] theorem State.updMbx_skeins : (s.updMbx i f).skeins = s.skeins := rfl
@[simp] theorem State.updMbx_engines : (s.updMbx i f).engines = s.engines := rfl
@[simp] theorem State.updMbx_rects : (s.updMbx i f).rects = s.rects := rfl
@[simp] theorem State.updMbx_strs : (s.updMbx i f).strs = s.strs := rfl
@[simp] theorem State.updMbx_slotx : (s.updMbx i f).slotx = s.slotx := rfl
@[simp] theorem State.updMbx_budgets : (s.updMbx i f).budgets = s.budgets := rfl
@[simp] theorem State.updMbx_rails : (s.updMbx i f).rails = s.rails := rfl
@[simp] theorem State.updMbx_railRuns : (s.updMbx i f).railRuns = s.railRuns := rfl
@[simp] theorem State.updMbx_seqs : (s.updMbx i f).seqs = s.seqs := rfl
@[simp] theorem State.updMbx_adcs : (s.updMbx i f).adcs = s.adcs := rfl
@[simp] theorem State.updMbx_ains : (s.updMbx i f).ains = s.ains := rfl
@[simp] theorem State.updMbx_phases : (s.updMbx i f).phases = s.phases := rfl
@[simp] theorem State.updMbx_sensors : (s.updMbx i f).sensors = s.sensors := rfl
@[simp] theorem State.updMbx_tws : (s.updMbx i f).tws = s.tws := rfl
@[simp] theorem State.updMbx_shelf : (s.updMbx i f).shelf = s.shelf := rfl
@[simp] theorem State.updMbx_pair : (s.updMbx i f).pair = s.pair := rfl
@[simp] theorem State.updMbx_faults : (s.updMbx i f).faults = s.faults := rfl
@[simp] theorem State.updMbx_nv : (s.updMbx i f).nv = s.nv := rfl
@[simp] theorem State.updMbx_trust : (s.updMbx i f).trust = s.trust := rfl
@[simp] theorem State.updMbx_rst : (s.updMbx i f).rst = s.rst := rfl
@[simp] theorem State.updMbx_thm : (s.updMbx i f).thm = s.thm := rfl
@[simp] theorem State.updMbx_pattern : (s.updMbx i f).pattern = s.pattern := rfl
@[simp] theorem State.updMbx_fresh : (s.updMbx i f).fresh = s.fresh := rfl
end

section
variable (s : State) (i : Nat) (f : Meridian → Meridian)
@[simp] theorem State.updMer_pending : (s.updMer i f).pending = s.pending := rfl
@[simp] theorem State.updMer_ct : (s.updMer i f).ct = s.ct := rfl
@[simp] theorem State.updMer_regs : (s.updMer i f).regs = s.regs := rfl
@[simp] theorem State.updMer_latchHi : (s.updMer i f).latchHi = s.latchHi := rfl
@[simp] theorem State.updMer_heldLo : (s.updMer i f).heldLo = s.heldLo := rfl
@[simp] theorem State.updMer_hwTouched : (s.updMer i f).hwTouched = s.hwTouched := rfl
@[simp] theorem State.updMer_swTouched : (s.updMer i f).swTouched = s.swTouched := rfl
@[simp] theorem State.updMer_collided : (s.updMer i f).collided = s.collided := rfl
@[simp] theorem State.updMer_cmpOld : (s.updMer i f).cmpOld = s.cmpOld := rfl
@[simp] theorem State.updMer_cmpDone : (s.updMer i f).cmpDone = s.cmpDone := rfl
@[simp] theorem State.updMer_out : (s.updMer i f).out = s.out := rfl
@[simp] theorem State.updMer_hdrs : (s.updMer i f).hdrs = s.hdrs := rfl
@[simp] theorem State.updMer_mem : (s.updMer i f).mem = s.mem := rfl
@[simp] theorem State.updMer_flash0 : (s.updMer i f).flash0 = s.flash0 := rfl
@[simp] theorem State.updMer_flash1 : (s.updMer i f).flash1 = s.flash1 := rfl
@[simp] theorem State.updMer_hubStage : (s.updMer i f).hubStage = s.hubStage := rfl
@[simp] theorem State.updMer_slots : (s.updMer i f).slots = s.slots := rfl
@[simp] theorem State.updMer_mbxs : (s.updMer i f).mbxs = s.mbxs := rfl
@[simp] theorem State.updMer_ctrlTurn : (s.updMer i f).ctrlTurn = s.ctrlTurn := rfl
@[simp] theorem State.updMer_bulkTurn : (s.updMer i f).bulkTurn = s.bulkTurn := rfl
@[simp] theorem State.updMer_entering : (s.updMer i f).entering = s.entering := rfl
@[simp] theorem State.updMer_vfOff : (s.updMer i f).vfOff = s.vfOff := rfl
@[simp] theorem State.updMer_viMap : (s.updMer i f).viMap = s.viMap := rfl
@[simp] theorem State.updMer_viMapNext : (s.updMer i f).viMapNext = s.viMapNext := rfl
@[simp] theorem State.updMer_fans : (s.updMer i f).fans = s.fans := rfl
@[simp] theorem State.updMer_gpio : (s.updMer i f).gpio = s.gpio := rfl
@[simp] theorem State.updMer_gpioDriven : (s.updMer i f).gpioDriven = s.gpioDriven := rfl
@[simp] theorem State.updMer_debugHalt : (s.updMer i f).debugHalt = s.debugHalt := rfl
@[simp] theorem State.updMer_debugLock : (s.updMer i f).debugLock = s.debugLock := rfl
@[simp] theorem State.updMer_eph : (s.updMer i f).eph = s.eph := rfl
@[simp] theorem State.updMer_ephLast : (s.updMer i f).ephLast = s.ephLast := rfl
@[simp] theorem State.updMer_ephCount : (s.updMer i f).ephCount = s.ephCount := rfl
@[simp] theorem State.updMer_posts : (s.updMer i f).posts = s.posts := rfl
@[simp] theorem State.updMer_ports : (s.updMer i f).ports = s.ports := rfl
@[simp] theorem State.updMer_svcs : (s.updMer i f).svcs = s.svcs := rfl
@[simp] theorem State.updMer_partnerRel : (s.updMer i f).partnerRel = s.partnerRel := rfl
@[simp] theorem State.updMer_stitches : (s.updMer i f).stitches = s.stitches := rfl
@[simp] theorem State.updMer_skeins : (s.updMer i f).skeins = s.skeins := rfl
@[simp] theorem State.updMer_engines : (s.updMer i f).engines = s.engines := rfl
@[simp] theorem State.updMer_rects : (s.updMer i f).rects = s.rects := rfl
@[simp] theorem State.updMer_strs : (s.updMer i f).strs = s.strs := rfl
@[simp] theorem State.updMer_slotx : (s.updMer i f).slotx = s.slotx := rfl
@[simp] theorem State.updMer_budgets : (s.updMer i f).budgets = s.budgets := rfl
@[simp] theorem State.updMer_rails : (s.updMer i f).rails = s.rails := rfl
@[simp] theorem State.updMer_railRuns : (s.updMer i f).railRuns = s.railRuns := rfl
@[simp] theorem State.updMer_seqs : (s.updMer i f).seqs = s.seqs := rfl
@[simp] theorem State.updMer_adcs : (s.updMer i f).adcs = s.adcs := rfl
@[simp] theorem State.updMer_ains : (s.updMer i f).ains = s.ains := rfl
@[simp] theorem State.updMer_phases : (s.updMer i f).phases = s.phases := rfl
@[simp] theorem State.updMer_sensors : (s.updMer i f).sensors = s.sensors := rfl
@[simp] theorem State.updMer_tws : (s.updMer i f).tws = s.tws := rfl
@[simp] theorem State.updMer_shelf : (s.updMer i f).shelf = s.shelf := rfl
@[simp] theorem State.updMer_pair : (s.updMer i f).pair = s.pair := rfl
@[simp] theorem State.updMer_faults : (s.updMer i f).faults = s.faults := rfl
@[simp] theorem State.updMer_nv : (s.updMer i f).nv = s.nv := rfl
@[simp] theorem State.updMer_trust : (s.updMer i f).trust = s.trust := rfl
@[simp] theorem State.updMer_rst : (s.updMer i f).rst = s.rst := rfl
@[simp] theorem State.updMer_thm : (s.updMer i f).thm = s.thm := rfl
@[simp] theorem State.updMer_pattern : (s.updMer i f).pattern = s.pattern := rfl
@[simp] theorem State.updMer_fresh : (s.updMer i f).fresh = s.fresh := rfl
end

section
variable (s : State) (i : Nat) (f : Fan → Fan)
@[simp] theorem State.updFan_pending : (s.updFan i f).pending = s.pending := rfl
@[simp] theorem State.updFan_ct : (s.updFan i f).ct = s.ct := rfl
@[simp] theorem State.updFan_regs : (s.updFan i f).regs = s.regs := rfl
@[simp] theorem State.updFan_latchHi : (s.updFan i f).latchHi = s.latchHi := rfl
@[simp] theorem State.updFan_heldLo : (s.updFan i f).heldLo = s.heldLo := rfl
@[simp] theorem State.updFan_hwTouched : (s.updFan i f).hwTouched = s.hwTouched := rfl
@[simp] theorem State.updFan_swTouched : (s.updFan i f).swTouched = s.swTouched := rfl
@[simp] theorem State.updFan_collided : (s.updFan i f).collided = s.collided := rfl
@[simp] theorem State.updFan_cmpOld : (s.updFan i f).cmpOld = s.cmpOld := rfl
@[simp] theorem State.updFan_cmpDone : (s.updFan i f).cmpDone = s.cmpDone := rfl
@[simp] theorem State.updFan_out : (s.updFan i f).out = s.out := rfl
@[simp] theorem State.updFan_hdrs : (s.updFan i f).hdrs = s.hdrs := rfl
@[simp] theorem State.updFan_mem : (s.updFan i f).mem = s.mem := rfl
@[simp] theorem State.updFan_flash0 : (s.updFan i f).flash0 = s.flash0 := rfl
@[simp] theorem State.updFan_flash1 : (s.updFan i f).flash1 = s.flash1 := rfl
@[simp] theorem State.updFan_hubStage : (s.updFan i f).hubStage = s.hubStage := rfl
@[simp] theorem State.updFan_slots : (s.updFan i f).slots = s.slots := rfl
@[simp] theorem State.updFan_mbxs : (s.updFan i f).mbxs = s.mbxs := rfl
@[simp] theorem State.updFan_ctrlTurn : (s.updFan i f).ctrlTurn = s.ctrlTurn := rfl
@[simp] theorem State.updFan_bulkTurn : (s.updFan i f).bulkTurn = s.bulkTurn := rfl
@[simp] theorem State.updFan_entering : (s.updFan i f).entering = s.entering := rfl
@[simp] theorem State.updFan_vfOff : (s.updFan i f).vfOff = s.vfOff := rfl
@[simp] theorem State.updFan_viMap : (s.updFan i f).viMap = s.viMap := rfl
@[simp] theorem State.updFan_viMapNext : (s.updFan i f).viMapNext = s.viMapNext := rfl
@[simp] theorem State.updFan_mers : (s.updFan i f).mers = s.mers := rfl
@[simp] theorem State.updFan_gpio : (s.updFan i f).gpio = s.gpio := rfl
@[simp] theorem State.updFan_gpioDriven : (s.updFan i f).gpioDriven = s.gpioDriven := rfl
@[simp] theorem State.updFan_debugHalt : (s.updFan i f).debugHalt = s.debugHalt := rfl
@[simp] theorem State.updFan_debugLock : (s.updFan i f).debugLock = s.debugLock := rfl
@[simp] theorem State.updFan_eph : (s.updFan i f).eph = s.eph := rfl
@[simp] theorem State.updFan_ephLast : (s.updFan i f).ephLast = s.ephLast := rfl
@[simp] theorem State.updFan_ephCount : (s.updFan i f).ephCount = s.ephCount := rfl
@[simp] theorem State.updFan_posts : (s.updFan i f).posts = s.posts := rfl
@[simp] theorem State.updFan_ports : (s.updFan i f).ports = s.ports := rfl
@[simp] theorem State.updFan_svcs : (s.updFan i f).svcs = s.svcs := rfl
@[simp] theorem State.updFan_partnerRel : (s.updFan i f).partnerRel = s.partnerRel := rfl
@[simp] theorem State.updFan_stitches : (s.updFan i f).stitches = s.stitches := rfl
@[simp] theorem State.updFan_skeins : (s.updFan i f).skeins = s.skeins := rfl
@[simp] theorem State.updFan_engines : (s.updFan i f).engines = s.engines := rfl
@[simp] theorem State.updFan_rects : (s.updFan i f).rects = s.rects := rfl
@[simp] theorem State.updFan_strs : (s.updFan i f).strs = s.strs := rfl
@[simp] theorem State.updFan_slotx : (s.updFan i f).slotx = s.slotx := rfl
@[simp] theorem State.updFan_budgets : (s.updFan i f).budgets = s.budgets := rfl
@[simp] theorem State.updFan_rails : (s.updFan i f).rails = s.rails := rfl
@[simp] theorem State.updFan_railRuns : (s.updFan i f).railRuns = s.railRuns := rfl
@[simp] theorem State.updFan_seqs : (s.updFan i f).seqs = s.seqs := rfl
@[simp] theorem State.updFan_adcs : (s.updFan i f).adcs = s.adcs := rfl
@[simp] theorem State.updFan_ains : (s.updFan i f).ains = s.ains := rfl
@[simp] theorem State.updFan_phases : (s.updFan i f).phases = s.phases := rfl
@[simp] theorem State.updFan_sensors : (s.updFan i f).sensors = s.sensors := rfl
@[simp] theorem State.updFan_tws : (s.updFan i f).tws = s.tws := rfl
@[simp] theorem State.updFan_shelf : (s.updFan i f).shelf = s.shelf := rfl
@[simp] theorem State.updFan_pair : (s.updFan i f).pair = s.pair := rfl
@[simp] theorem State.updFan_faults : (s.updFan i f).faults = s.faults := rfl
@[simp] theorem State.updFan_nv : (s.updFan i f).nv = s.nv := rfl
@[simp] theorem State.updFan_trust : (s.updFan i f).trust = s.trust := rfl
@[simp] theorem State.updFan_rst : (s.updFan i f).rst = s.rst := rfl
@[simp] theorem State.updFan_thm : (s.updFan i f).thm = s.thm := rfl
@[simp] theorem State.updFan_pattern : (s.updFan i f).pattern = s.pattern := rfl
@[simp] theorem State.updFan_fresh : (s.updFan i f).fresh = s.fresh := rfl
end

section
variable (s : State) (i : Nat) (f : EphEntry → EphEntry)
@[simp] theorem State.updEphE_pending : (s.updEphE i f).pending = s.pending := rfl
@[simp] theorem State.updEphE_ct : (s.updEphE i f).ct = s.ct := rfl
@[simp] theorem State.updEphE_regs : (s.updEphE i f).regs = s.regs := rfl
@[simp] theorem State.updEphE_latchHi : (s.updEphE i f).latchHi = s.latchHi := rfl
@[simp] theorem State.updEphE_heldLo : (s.updEphE i f).heldLo = s.heldLo := rfl
@[simp] theorem State.updEphE_hwTouched : (s.updEphE i f).hwTouched = s.hwTouched := rfl
@[simp] theorem State.updEphE_swTouched : (s.updEphE i f).swTouched = s.swTouched := rfl
@[simp] theorem State.updEphE_collided : (s.updEphE i f).collided = s.collided := rfl
@[simp] theorem State.updEphE_cmpOld : (s.updEphE i f).cmpOld = s.cmpOld := rfl
@[simp] theorem State.updEphE_cmpDone : (s.updEphE i f).cmpDone = s.cmpDone := rfl
@[simp] theorem State.updEphE_out : (s.updEphE i f).out = s.out := rfl
@[simp] theorem State.updEphE_hdrs : (s.updEphE i f).hdrs = s.hdrs := rfl
@[simp] theorem State.updEphE_mem : (s.updEphE i f).mem = s.mem := rfl
@[simp] theorem State.updEphE_flash0 : (s.updEphE i f).flash0 = s.flash0 := rfl
@[simp] theorem State.updEphE_flash1 : (s.updEphE i f).flash1 = s.flash1 := rfl
@[simp] theorem State.updEphE_hubStage : (s.updEphE i f).hubStage = s.hubStage := rfl
@[simp] theorem State.updEphE_slots : (s.updEphE i f).slots = s.slots := rfl
@[simp] theorem State.updEphE_mbxs : (s.updEphE i f).mbxs = s.mbxs := rfl
@[simp] theorem State.updEphE_ctrlTurn : (s.updEphE i f).ctrlTurn = s.ctrlTurn := rfl
@[simp] theorem State.updEphE_bulkTurn : (s.updEphE i f).bulkTurn = s.bulkTurn := rfl
@[simp] theorem State.updEphE_entering : (s.updEphE i f).entering = s.entering := rfl
@[simp] theorem State.updEphE_vfOff : (s.updEphE i f).vfOff = s.vfOff := rfl
@[simp] theorem State.updEphE_viMap : (s.updEphE i f).viMap = s.viMap := rfl
@[simp] theorem State.updEphE_viMapNext : (s.updEphE i f).viMapNext = s.viMapNext := rfl
@[simp] theorem State.updEphE_mers : (s.updEphE i f).mers = s.mers := rfl
@[simp] theorem State.updEphE_fans : (s.updEphE i f).fans = s.fans := rfl
@[simp] theorem State.updEphE_gpio : (s.updEphE i f).gpio = s.gpio := rfl
@[simp] theorem State.updEphE_gpioDriven : (s.updEphE i f).gpioDriven = s.gpioDriven := rfl
@[simp] theorem State.updEphE_debugHalt : (s.updEphE i f).debugHalt = s.debugHalt := rfl
@[simp] theorem State.updEphE_debugLock : (s.updEphE i f).debugLock = s.debugLock := rfl
@[simp] theorem State.updEphE_ephLast : (s.updEphE i f).ephLast = s.ephLast := rfl
@[simp] theorem State.updEphE_ephCount : (s.updEphE i f).ephCount = s.ephCount := rfl
@[simp] theorem State.updEphE_posts : (s.updEphE i f).posts = s.posts := rfl
@[simp] theorem State.updEphE_ports : (s.updEphE i f).ports = s.ports := rfl
@[simp] theorem State.updEphE_svcs : (s.updEphE i f).svcs = s.svcs := rfl
@[simp] theorem State.updEphE_partnerRel : (s.updEphE i f).partnerRel = s.partnerRel := rfl
@[simp] theorem State.updEphE_stitches : (s.updEphE i f).stitches = s.stitches := rfl
@[simp] theorem State.updEphE_skeins : (s.updEphE i f).skeins = s.skeins := rfl
@[simp] theorem State.updEphE_engines : (s.updEphE i f).engines = s.engines := rfl
@[simp] theorem State.updEphE_rects : (s.updEphE i f).rects = s.rects := rfl
@[simp] theorem State.updEphE_strs : (s.updEphE i f).strs = s.strs := rfl
@[simp] theorem State.updEphE_slotx : (s.updEphE i f).slotx = s.slotx := rfl
@[simp] theorem State.updEphE_budgets : (s.updEphE i f).budgets = s.budgets := rfl
@[simp] theorem State.updEphE_rails : (s.updEphE i f).rails = s.rails := rfl
@[simp] theorem State.updEphE_railRuns : (s.updEphE i f).railRuns = s.railRuns := rfl
@[simp] theorem State.updEphE_seqs : (s.updEphE i f).seqs = s.seqs := rfl
@[simp] theorem State.updEphE_adcs : (s.updEphE i f).adcs = s.adcs := rfl
@[simp] theorem State.updEphE_ains : (s.updEphE i f).ains = s.ains := rfl
@[simp] theorem State.updEphE_phases : (s.updEphE i f).phases = s.phases := rfl
@[simp] theorem State.updEphE_sensors : (s.updEphE i f).sensors = s.sensors := rfl
@[simp] theorem State.updEphE_tws : (s.updEphE i f).tws = s.tws := rfl
@[simp] theorem State.updEphE_shelf : (s.updEphE i f).shelf = s.shelf := rfl
@[simp] theorem State.updEphE_pair : (s.updEphE i f).pair = s.pair := rfl
@[simp] theorem State.updEphE_faults : (s.updEphE i f).faults = s.faults := rfl
@[simp] theorem State.updEphE_nv : (s.updEphE i f).nv = s.nv := rfl
@[simp] theorem State.updEphE_trust : (s.updEphE i f).trust = s.trust := rfl
@[simp] theorem State.updEphE_rst : (s.updEphE i f).rst = s.rst := rfl
@[simp] theorem State.updEphE_thm : (s.updEphE i f).thm = s.thm := rfl
@[simp] theorem State.updEphE_pattern : (s.updEphE i f).pattern = s.pattern := rfl
@[simp] theorem State.updEphE_fresh : (s.updEphE i f).fresh = s.fresh := rfl
end

section
variable (s : State) (i : Nat) (f : Port → Port)
@[simp] theorem State.updPort_pending : (s.updPort i f).pending = s.pending := rfl
@[simp] theorem State.updPort_ct : (s.updPort i f).ct = s.ct := rfl
@[simp] theorem State.updPort_regs : (s.updPort i f).regs = s.regs := rfl
@[simp] theorem State.updPort_latchHi : (s.updPort i f).latchHi = s.latchHi := rfl
@[simp] theorem State.updPort_heldLo : (s.updPort i f).heldLo = s.heldLo := rfl
@[simp] theorem State.updPort_hwTouched : (s.updPort i f).hwTouched = s.hwTouched := rfl
@[simp] theorem State.updPort_swTouched : (s.updPort i f).swTouched = s.swTouched := rfl
@[simp] theorem State.updPort_collided : (s.updPort i f).collided = s.collided := rfl
@[simp] theorem State.updPort_cmpOld : (s.updPort i f).cmpOld = s.cmpOld := rfl
@[simp] theorem State.updPort_cmpDone : (s.updPort i f).cmpDone = s.cmpDone := rfl
@[simp] theorem State.updPort_out : (s.updPort i f).out = s.out := rfl
@[simp] theorem State.updPort_hdrs : (s.updPort i f).hdrs = s.hdrs := rfl
@[simp] theorem State.updPort_mem : (s.updPort i f).mem = s.mem := rfl
@[simp] theorem State.updPort_flash0 : (s.updPort i f).flash0 = s.flash0 := rfl
@[simp] theorem State.updPort_flash1 : (s.updPort i f).flash1 = s.flash1 := rfl
@[simp] theorem State.updPort_hubStage : (s.updPort i f).hubStage = s.hubStage := rfl
@[simp] theorem State.updPort_slots : (s.updPort i f).slots = s.slots := rfl
@[simp] theorem State.updPort_mbxs : (s.updPort i f).mbxs = s.mbxs := rfl
@[simp] theorem State.updPort_ctrlTurn : (s.updPort i f).ctrlTurn = s.ctrlTurn := rfl
@[simp] theorem State.updPort_bulkTurn : (s.updPort i f).bulkTurn = s.bulkTurn := rfl
@[simp] theorem State.updPort_entering : (s.updPort i f).entering = s.entering := rfl
@[simp] theorem State.updPort_vfOff : (s.updPort i f).vfOff = s.vfOff := rfl
@[simp] theorem State.updPort_viMap : (s.updPort i f).viMap = s.viMap := rfl
@[simp] theorem State.updPort_viMapNext : (s.updPort i f).viMapNext = s.viMapNext := rfl
@[simp] theorem State.updPort_mers : (s.updPort i f).mers = s.mers := rfl
@[simp] theorem State.updPort_fans : (s.updPort i f).fans = s.fans := rfl
@[simp] theorem State.updPort_gpio : (s.updPort i f).gpio = s.gpio := rfl
@[simp] theorem State.updPort_gpioDriven : (s.updPort i f).gpioDriven = s.gpioDriven := rfl
@[simp] theorem State.updPort_debugHalt : (s.updPort i f).debugHalt = s.debugHalt := rfl
@[simp] theorem State.updPort_debugLock : (s.updPort i f).debugLock = s.debugLock := rfl
@[simp] theorem State.updPort_eph : (s.updPort i f).eph = s.eph := rfl
@[simp] theorem State.updPort_ephLast : (s.updPort i f).ephLast = s.ephLast := rfl
@[simp] theorem State.updPort_ephCount : (s.updPort i f).ephCount = s.ephCount := rfl
@[simp] theorem State.updPort_posts : (s.updPort i f).posts = s.posts := rfl
@[simp] theorem State.updPort_svcs : (s.updPort i f).svcs = s.svcs := rfl
@[simp] theorem State.updPort_partnerRel : (s.updPort i f).partnerRel = s.partnerRel := rfl
@[simp] theorem State.updPort_stitches : (s.updPort i f).stitches = s.stitches := rfl
@[simp] theorem State.updPort_skeins : (s.updPort i f).skeins = s.skeins := rfl
@[simp] theorem State.updPort_engines : (s.updPort i f).engines = s.engines := rfl
@[simp] theorem State.updPort_rects : (s.updPort i f).rects = s.rects := rfl
@[simp] theorem State.updPort_strs : (s.updPort i f).strs = s.strs := rfl
@[simp] theorem State.updPort_slotx : (s.updPort i f).slotx = s.slotx := rfl
@[simp] theorem State.updPort_budgets : (s.updPort i f).budgets = s.budgets := rfl
@[simp] theorem State.updPort_rails : (s.updPort i f).rails = s.rails := rfl
@[simp] theorem State.updPort_railRuns : (s.updPort i f).railRuns = s.railRuns := rfl
@[simp] theorem State.updPort_seqs : (s.updPort i f).seqs = s.seqs := rfl
@[simp] theorem State.updPort_adcs : (s.updPort i f).adcs = s.adcs := rfl
@[simp] theorem State.updPort_ains : (s.updPort i f).ains = s.ains := rfl
@[simp] theorem State.updPort_phases : (s.updPort i f).phases = s.phases := rfl
@[simp] theorem State.updPort_sensors : (s.updPort i f).sensors = s.sensors := rfl
@[simp] theorem State.updPort_tws : (s.updPort i f).tws = s.tws := rfl
@[simp] theorem State.updPort_shelf : (s.updPort i f).shelf = s.shelf := rfl
@[simp] theorem State.updPort_pair : (s.updPort i f).pair = s.pair := rfl
@[simp] theorem State.updPort_faults : (s.updPort i f).faults = s.faults := rfl
@[simp] theorem State.updPort_nv : (s.updPort i f).nv = s.nv := rfl
@[simp] theorem State.updPort_trust : (s.updPort i f).trust = s.trust := rfl
@[simp] theorem State.updPort_rst : (s.updPort i f).rst = s.rst := rfl
@[simp] theorem State.updPort_thm : (s.updPort i f).thm = s.thm := rfl
@[simp] theorem State.updPort_pattern : (s.updPort i f).pattern = s.pattern := rfl
@[simp] theorem State.updPort_fresh : (s.updPort i f).fresh = s.fresh := rfl
end

section
variable (s : State) (i : Nat) (f : Svc → Svc)
@[simp] theorem State.updSvc_pending : (s.updSvc i f).pending = s.pending := rfl
@[simp] theorem State.updSvc_ct : (s.updSvc i f).ct = s.ct := rfl
@[simp] theorem State.updSvc_regs : (s.updSvc i f).regs = s.regs := rfl
@[simp] theorem State.updSvc_latchHi : (s.updSvc i f).latchHi = s.latchHi := rfl
@[simp] theorem State.updSvc_heldLo : (s.updSvc i f).heldLo = s.heldLo := rfl
@[simp] theorem State.updSvc_hwTouched : (s.updSvc i f).hwTouched = s.hwTouched := rfl
@[simp] theorem State.updSvc_swTouched : (s.updSvc i f).swTouched = s.swTouched := rfl
@[simp] theorem State.updSvc_collided : (s.updSvc i f).collided = s.collided := rfl
@[simp] theorem State.updSvc_cmpOld : (s.updSvc i f).cmpOld = s.cmpOld := rfl
@[simp] theorem State.updSvc_cmpDone : (s.updSvc i f).cmpDone = s.cmpDone := rfl
@[simp] theorem State.updSvc_out : (s.updSvc i f).out = s.out := rfl
@[simp] theorem State.updSvc_hdrs : (s.updSvc i f).hdrs = s.hdrs := rfl
@[simp] theorem State.updSvc_mem : (s.updSvc i f).mem = s.mem := rfl
@[simp] theorem State.updSvc_flash0 : (s.updSvc i f).flash0 = s.flash0 := rfl
@[simp] theorem State.updSvc_flash1 : (s.updSvc i f).flash1 = s.flash1 := rfl
@[simp] theorem State.updSvc_hubStage : (s.updSvc i f).hubStage = s.hubStage := rfl
@[simp] theorem State.updSvc_slots : (s.updSvc i f).slots = s.slots := rfl
@[simp] theorem State.updSvc_mbxs : (s.updSvc i f).mbxs = s.mbxs := rfl
@[simp] theorem State.updSvc_ctrlTurn : (s.updSvc i f).ctrlTurn = s.ctrlTurn := rfl
@[simp] theorem State.updSvc_bulkTurn : (s.updSvc i f).bulkTurn = s.bulkTurn := rfl
@[simp] theorem State.updSvc_entering : (s.updSvc i f).entering = s.entering := rfl
@[simp] theorem State.updSvc_vfOff : (s.updSvc i f).vfOff = s.vfOff := rfl
@[simp] theorem State.updSvc_viMap : (s.updSvc i f).viMap = s.viMap := rfl
@[simp] theorem State.updSvc_viMapNext : (s.updSvc i f).viMapNext = s.viMapNext := rfl
@[simp] theorem State.updSvc_mers : (s.updSvc i f).mers = s.mers := rfl
@[simp] theorem State.updSvc_fans : (s.updSvc i f).fans = s.fans := rfl
@[simp] theorem State.updSvc_gpio : (s.updSvc i f).gpio = s.gpio := rfl
@[simp] theorem State.updSvc_gpioDriven : (s.updSvc i f).gpioDriven = s.gpioDriven := rfl
@[simp] theorem State.updSvc_debugHalt : (s.updSvc i f).debugHalt = s.debugHalt := rfl
@[simp] theorem State.updSvc_debugLock : (s.updSvc i f).debugLock = s.debugLock := rfl
@[simp] theorem State.updSvc_eph : (s.updSvc i f).eph = s.eph := rfl
@[simp] theorem State.updSvc_ephLast : (s.updSvc i f).ephLast = s.ephLast := rfl
@[simp] theorem State.updSvc_ephCount : (s.updSvc i f).ephCount = s.ephCount := rfl
@[simp] theorem State.updSvc_posts : (s.updSvc i f).posts = s.posts := rfl
@[simp] theorem State.updSvc_ports : (s.updSvc i f).ports = s.ports := rfl
@[simp] theorem State.updSvc_partnerRel : (s.updSvc i f).partnerRel = s.partnerRel := rfl
@[simp] theorem State.updSvc_stitches : (s.updSvc i f).stitches = s.stitches := rfl
@[simp] theorem State.updSvc_skeins : (s.updSvc i f).skeins = s.skeins := rfl
@[simp] theorem State.updSvc_engines : (s.updSvc i f).engines = s.engines := rfl
@[simp] theorem State.updSvc_rects : (s.updSvc i f).rects = s.rects := rfl
@[simp] theorem State.updSvc_strs : (s.updSvc i f).strs = s.strs := rfl
@[simp] theorem State.updSvc_slotx : (s.updSvc i f).slotx = s.slotx := rfl
@[simp] theorem State.updSvc_budgets : (s.updSvc i f).budgets = s.budgets := rfl
@[simp] theorem State.updSvc_rails : (s.updSvc i f).rails = s.rails := rfl
@[simp] theorem State.updSvc_railRuns : (s.updSvc i f).railRuns = s.railRuns := rfl
@[simp] theorem State.updSvc_seqs : (s.updSvc i f).seqs = s.seqs := rfl
@[simp] theorem State.updSvc_adcs : (s.updSvc i f).adcs = s.adcs := rfl
@[simp] theorem State.updSvc_ains : (s.updSvc i f).ains = s.ains := rfl
@[simp] theorem State.updSvc_phases : (s.updSvc i f).phases = s.phases := rfl
@[simp] theorem State.updSvc_sensors : (s.updSvc i f).sensors = s.sensors := rfl
@[simp] theorem State.updSvc_tws : (s.updSvc i f).tws = s.tws := rfl
@[simp] theorem State.updSvc_shelf : (s.updSvc i f).shelf = s.shelf := rfl
@[simp] theorem State.updSvc_pair : (s.updSvc i f).pair = s.pair := rfl
@[simp] theorem State.updSvc_faults : (s.updSvc i f).faults = s.faults := rfl
@[simp] theorem State.updSvc_nv : (s.updSvc i f).nv = s.nv := rfl
@[simp] theorem State.updSvc_trust : (s.updSvc i f).trust = s.trust := rfl
@[simp] theorem State.updSvc_rst : (s.updSvc i f).rst = s.rst := rfl
@[simp] theorem State.updSvc_thm : (s.updSvc i f).thm = s.thm := rfl
@[simp] theorem State.updSvc_pattern : (s.updSvc i f).pattern = s.pattern := rfl
@[simp] theorem State.updSvc_fresh : (s.updSvc i f).fresh = s.fresh := rfl
end

section
variable (s : State) (i : Nat) (f : Stitch → Stitch)
@[simp] theorem State.updSt_pending : (s.updSt i f).pending = s.pending := rfl
@[simp] theorem State.updSt_ct : (s.updSt i f).ct = s.ct := rfl
@[simp] theorem State.updSt_regs : (s.updSt i f).regs = s.regs := rfl
@[simp] theorem State.updSt_latchHi : (s.updSt i f).latchHi = s.latchHi := rfl
@[simp] theorem State.updSt_heldLo : (s.updSt i f).heldLo = s.heldLo := rfl
@[simp] theorem State.updSt_hwTouched : (s.updSt i f).hwTouched = s.hwTouched := rfl
@[simp] theorem State.updSt_swTouched : (s.updSt i f).swTouched = s.swTouched := rfl
@[simp] theorem State.updSt_collided : (s.updSt i f).collided = s.collided := rfl
@[simp] theorem State.updSt_cmpOld : (s.updSt i f).cmpOld = s.cmpOld := rfl
@[simp] theorem State.updSt_cmpDone : (s.updSt i f).cmpDone = s.cmpDone := rfl
@[simp] theorem State.updSt_out : (s.updSt i f).out = s.out := rfl
@[simp] theorem State.updSt_hdrs : (s.updSt i f).hdrs = s.hdrs := rfl
@[simp] theorem State.updSt_mem : (s.updSt i f).mem = s.mem := rfl
@[simp] theorem State.updSt_flash0 : (s.updSt i f).flash0 = s.flash0 := rfl
@[simp] theorem State.updSt_flash1 : (s.updSt i f).flash1 = s.flash1 := rfl
@[simp] theorem State.updSt_hubStage : (s.updSt i f).hubStage = s.hubStage := rfl
@[simp] theorem State.updSt_slots : (s.updSt i f).slots = s.slots := rfl
@[simp] theorem State.updSt_mbxs : (s.updSt i f).mbxs = s.mbxs := rfl
@[simp] theorem State.updSt_ctrlTurn : (s.updSt i f).ctrlTurn = s.ctrlTurn := rfl
@[simp] theorem State.updSt_bulkTurn : (s.updSt i f).bulkTurn = s.bulkTurn := rfl
@[simp] theorem State.updSt_entering : (s.updSt i f).entering = s.entering := rfl
@[simp] theorem State.updSt_vfOff : (s.updSt i f).vfOff = s.vfOff := rfl
@[simp] theorem State.updSt_viMap : (s.updSt i f).viMap = s.viMap := rfl
@[simp] theorem State.updSt_viMapNext : (s.updSt i f).viMapNext = s.viMapNext := rfl
@[simp] theorem State.updSt_mers : (s.updSt i f).mers = s.mers := rfl
@[simp] theorem State.updSt_fans : (s.updSt i f).fans = s.fans := rfl
@[simp] theorem State.updSt_gpio : (s.updSt i f).gpio = s.gpio := rfl
@[simp] theorem State.updSt_gpioDriven : (s.updSt i f).gpioDriven = s.gpioDriven := rfl
@[simp] theorem State.updSt_debugHalt : (s.updSt i f).debugHalt = s.debugHalt := rfl
@[simp] theorem State.updSt_debugLock : (s.updSt i f).debugLock = s.debugLock := rfl
@[simp] theorem State.updSt_eph : (s.updSt i f).eph = s.eph := rfl
@[simp] theorem State.updSt_ephLast : (s.updSt i f).ephLast = s.ephLast := rfl
@[simp] theorem State.updSt_ephCount : (s.updSt i f).ephCount = s.ephCount := rfl
@[simp] theorem State.updSt_posts : (s.updSt i f).posts = s.posts := rfl
@[simp] theorem State.updSt_ports : (s.updSt i f).ports = s.ports := rfl
@[simp] theorem State.updSt_svcs : (s.updSt i f).svcs = s.svcs := rfl
@[simp] theorem State.updSt_partnerRel : (s.updSt i f).partnerRel = s.partnerRel := rfl
@[simp] theorem State.updSt_skeins : (s.updSt i f).skeins = s.skeins := rfl
@[simp] theorem State.updSt_engines : (s.updSt i f).engines = s.engines := rfl
@[simp] theorem State.updSt_rects : (s.updSt i f).rects = s.rects := rfl
@[simp] theorem State.updSt_strs : (s.updSt i f).strs = s.strs := rfl
@[simp] theorem State.updSt_slotx : (s.updSt i f).slotx = s.slotx := rfl
@[simp] theorem State.updSt_budgets : (s.updSt i f).budgets = s.budgets := rfl
@[simp] theorem State.updSt_rails : (s.updSt i f).rails = s.rails := rfl
@[simp] theorem State.updSt_railRuns : (s.updSt i f).railRuns = s.railRuns := rfl
@[simp] theorem State.updSt_seqs : (s.updSt i f).seqs = s.seqs := rfl
@[simp] theorem State.updSt_adcs : (s.updSt i f).adcs = s.adcs := rfl
@[simp] theorem State.updSt_ains : (s.updSt i f).ains = s.ains := rfl
@[simp] theorem State.updSt_phases : (s.updSt i f).phases = s.phases := rfl
@[simp] theorem State.updSt_sensors : (s.updSt i f).sensors = s.sensors := rfl
@[simp] theorem State.updSt_tws : (s.updSt i f).tws = s.tws := rfl
@[simp] theorem State.updSt_shelf : (s.updSt i f).shelf = s.shelf := rfl
@[simp] theorem State.updSt_pair : (s.updSt i f).pair = s.pair := rfl
@[simp] theorem State.updSt_faults : (s.updSt i f).faults = s.faults := rfl
@[simp] theorem State.updSt_nv : (s.updSt i f).nv = s.nv := rfl
@[simp] theorem State.updSt_trust : (s.updSt i f).trust = s.trust := rfl
@[simp] theorem State.updSt_rst : (s.updSt i f).rst = s.rst := rfl
@[simp] theorem State.updSt_thm : (s.updSt i f).thm = s.thm := rfl
@[simp] theorem State.updSt_pattern : (s.updSt i f).pattern = s.pattern := rfl
@[simp] theorem State.updSt_fresh : (s.updSt i f).fresh = s.fresh := rfl
end

section
variable (s : State) (i : Nat) (f : Skein → Skein)
@[simp] theorem State.updSk_pending : (s.updSk i f).pending = s.pending := rfl
@[simp] theorem State.updSk_ct : (s.updSk i f).ct = s.ct := rfl
@[simp] theorem State.updSk_regs : (s.updSk i f).regs = s.regs := rfl
@[simp] theorem State.updSk_latchHi : (s.updSk i f).latchHi = s.latchHi := rfl
@[simp] theorem State.updSk_heldLo : (s.updSk i f).heldLo = s.heldLo := rfl
@[simp] theorem State.updSk_hwTouched : (s.updSk i f).hwTouched = s.hwTouched := rfl
@[simp] theorem State.updSk_swTouched : (s.updSk i f).swTouched = s.swTouched := rfl
@[simp] theorem State.updSk_collided : (s.updSk i f).collided = s.collided := rfl
@[simp] theorem State.updSk_cmpOld : (s.updSk i f).cmpOld = s.cmpOld := rfl
@[simp] theorem State.updSk_cmpDone : (s.updSk i f).cmpDone = s.cmpDone := rfl
@[simp] theorem State.updSk_out : (s.updSk i f).out = s.out := rfl
@[simp] theorem State.updSk_hdrs : (s.updSk i f).hdrs = s.hdrs := rfl
@[simp] theorem State.updSk_mem : (s.updSk i f).mem = s.mem := rfl
@[simp] theorem State.updSk_flash0 : (s.updSk i f).flash0 = s.flash0 := rfl
@[simp] theorem State.updSk_flash1 : (s.updSk i f).flash1 = s.flash1 := rfl
@[simp] theorem State.updSk_hubStage : (s.updSk i f).hubStage = s.hubStage := rfl
@[simp] theorem State.updSk_slots : (s.updSk i f).slots = s.slots := rfl
@[simp] theorem State.updSk_mbxs : (s.updSk i f).mbxs = s.mbxs := rfl
@[simp] theorem State.updSk_ctrlTurn : (s.updSk i f).ctrlTurn = s.ctrlTurn := rfl
@[simp] theorem State.updSk_bulkTurn : (s.updSk i f).bulkTurn = s.bulkTurn := rfl
@[simp] theorem State.updSk_entering : (s.updSk i f).entering = s.entering := rfl
@[simp] theorem State.updSk_vfOff : (s.updSk i f).vfOff = s.vfOff := rfl
@[simp] theorem State.updSk_viMap : (s.updSk i f).viMap = s.viMap := rfl
@[simp] theorem State.updSk_viMapNext : (s.updSk i f).viMapNext = s.viMapNext := rfl
@[simp] theorem State.updSk_mers : (s.updSk i f).mers = s.mers := rfl
@[simp] theorem State.updSk_fans : (s.updSk i f).fans = s.fans := rfl
@[simp] theorem State.updSk_gpio : (s.updSk i f).gpio = s.gpio := rfl
@[simp] theorem State.updSk_gpioDriven : (s.updSk i f).gpioDriven = s.gpioDriven := rfl
@[simp] theorem State.updSk_debugHalt : (s.updSk i f).debugHalt = s.debugHalt := rfl
@[simp] theorem State.updSk_debugLock : (s.updSk i f).debugLock = s.debugLock := rfl
@[simp] theorem State.updSk_eph : (s.updSk i f).eph = s.eph := rfl
@[simp] theorem State.updSk_ephLast : (s.updSk i f).ephLast = s.ephLast := rfl
@[simp] theorem State.updSk_ephCount : (s.updSk i f).ephCount = s.ephCount := rfl
@[simp] theorem State.updSk_posts : (s.updSk i f).posts = s.posts := rfl
@[simp] theorem State.updSk_ports : (s.updSk i f).ports = s.ports := rfl
@[simp] theorem State.updSk_svcs : (s.updSk i f).svcs = s.svcs := rfl
@[simp] theorem State.updSk_partnerRel : (s.updSk i f).partnerRel = s.partnerRel := rfl
@[simp] theorem State.updSk_stitches : (s.updSk i f).stitches = s.stitches := rfl
@[simp] theorem State.updSk_engines : (s.updSk i f).engines = s.engines := rfl
@[simp] theorem State.updSk_rects : (s.updSk i f).rects = s.rects := rfl
@[simp] theorem State.updSk_strs : (s.updSk i f).strs = s.strs := rfl
@[simp] theorem State.updSk_slotx : (s.updSk i f).slotx = s.slotx := rfl
@[simp] theorem State.updSk_budgets : (s.updSk i f).budgets = s.budgets := rfl
@[simp] theorem State.updSk_rails : (s.updSk i f).rails = s.rails := rfl
@[simp] theorem State.updSk_railRuns : (s.updSk i f).railRuns = s.railRuns := rfl
@[simp] theorem State.updSk_seqs : (s.updSk i f).seqs = s.seqs := rfl
@[simp] theorem State.updSk_adcs : (s.updSk i f).adcs = s.adcs := rfl
@[simp] theorem State.updSk_ains : (s.updSk i f).ains = s.ains := rfl
@[simp] theorem State.updSk_phases : (s.updSk i f).phases = s.phases := rfl
@[simp] theorem State.updSk_sensors : (s.updSk i f).sensors = s.sensors := rfl
@[simp] theorem State.updSk_tws : (s.updSk i f).tws = s.tws := rfl
@[simp] theorem State.updSk_shelf : (s.updSk i f).shelf = s.shelf := rfl
@[simp] theorem State.updSk_pair : (s.updSk i f).pair = s.pair := rfl
@[simp] theorem State.updSk_faults : (s.updSk i f).faults = s.faults := rfl
@[simp] theorem State.updSk_nv : (s.updSk i f).nv = s.nv := rfl
@[simp] theorem State.updSk_trust : (s.updSk i f).trust = s.trust := rfl
@[simp] theorem State.updSk_rst : (s.updSk i f).rst = s.rst := rfl
@[simp] theorem State.updSk_thm : (s.updSk i f).thm = s.thm := rfl
@[simp] theorem State.updSk_pattern : (s.updSk i f).pattern = s.pattern := rfl
@[simp] theorem State.updSk_fresh : (s.updSk i f).fresh = s.fresh := rfl
end

section
variable (s : State) (i : Nat) (f : Engine → Engine)
@[simp] theorem State.updEng_pending : (s.updEng i f).pending = s.pending := rfl
@[simp] theorem State.updEng_ct : (s.updEng i f).ct = s.ct := rfl
@[simp] theorem State.updEng_regs : (s.updEng i f).regs = s.regs := rfl
@[simp] theorem State.updEng_latchHi : (s.updEng i f).latchHi = s.latchHi := rfl
@[simp] theorem State.updEng_heldLo : (s.updEng i f).heldLo = s.heldLo := rfl
@[simp] theorem State.updEng_hwTouched : (s.updEng i f).hwTouched = s.hwTouched := rfl
@[simp] theorem State.updEng_swTouched : (s.updEng i f).swTouched = s.swTouched := rfl
@[simp] theorem State.updEng_collided : (s.updEng i f).collided = s.collided := rfl
@[simp] theorem State.updEng_cmpOld : (s.updEng i f).cmpOld = s.cmpOld := rfl
@[simp] theorem State.updEng_cmpDone : (s.updEng i f).cmpDone = s.cmpDone := rfl
@[simp] theorem State.updEng_out : (s.updEng i f).out = s.out := rfl
@[simp] theorem State.updEng_hdrs : (s.updEng i f).hdrs = s.hdrs := rfl
@[simp] theorem State.updEng_mem : (s.updEng i f).mem = s.mem := rfl
@[simp] theorem State.updEng_flash0 : (s.updEng i f).flash0 = s.flash0 := rfl
@[simp] theorem State.updEng_flash1 : (s.updEng i f).flash1 = s.flash1 := rfl
@[simp] theorem State.updEng_hubStage : (s.updEng i f).hubStage = s.hubStage := rfl
@[simp] theorem State.updEng_slots : (s.updEng i f).slots = s.slots := rfl
@[simp] theorem State.updEng_mbxs : (s.updEng i f).mbxs = s.mbxs := rfl
@[simp] theorem State.updEng_ctrlTurn : (s.updEng i f).ctrlTurn = s.ctrlTurn := rfl
@[simp] theorem State.updEng_bulkTurn : (s.updEng i f).bulkTurn = s.bulkTurn := rfl
@[simp] theorem State.updEng_entering : (s.updEng i f).entering = s.entering := rfl
@[simp] theorem State.updEng_vfOff : (s.updEng i f).vfOff = s.vfOff := rfl
@[simp] theorem State.updEng_viMap : (s.updEng i f).viMap = s.viMap := rfl
@[simp] theorem State.updEng_viMapNext : (s.updEng i f).viMapNext = s.viMapNext := rfl
@[simp] theorem State.updEng_mers : (s.updEng i f).mers = s.mers := rfl
@[simp] theorem State.updEng_fans : (s.updEng i f).fans = s.fans := rfl
@[simp] theorem State.updEng_gpio : (s.updEng i f).gpio = s.gpio := rfl
@[simp] theorem State.updEng_gpioDriven : (s.updEng i f).gpioDriven = s.gpioDriven := rfl
@[simp] theorem State.updEng_debugHalt : (s.updEng i f).debugHalt = s.debugHalt := rfl
@[simp] theorem State.updEng_debugLock : (s.updEng i f).debugLock = s.debugLock := rfl
@[simp] theorem State.updEng_eph : (s.updEng i f).eph = s.eph := rfl
@[simp] theorem State.updEng_ephLast : (s.updEng i f).ephLast = s.ephLast := rfl
@[simp] theorem State.updEng_ephCount : (s.updEng i f).ephCount = s.ephCount := rfl
@[simp] theorem State.updEng_posts : (s.updEng i f).posts = s.posts := rfl
@[simp] theorem State.updEng_ports : (s.updEng i f).ports = s.ports := rfl
@[simp] theorem State.updEng_svcs : (s.updEng i f).svcs = s.svcs := rfl
@[simp] theorem State.updEng_partnerRel : (s.updEng i f).partnerRel = s.partnerRel := rfl
@[simp] theorem State.updEng_stitches : (s.updEng i f).stitches = s.stitches := rfl
@[simp] theorem State.updEng_skeins : (s.updEng i f).skeins = s.skeins := rfl
@[simp] theorem State.updEng_rects : (s.updEng i f).rects = s.rects := rfl
@[simp] theorem State.updEng_strs : (s.updEng i f).strs = s.strs := rfl
@[simp] theorem State.updEng_slotx : (s.updEng i f).slotx = s.slotx := rfl
@[simp] theorem State.updEng_budgets : (s.updEng i f).budgets = s.budgets := rfl
@[simp] theorem State.updEng_rails : (s.updEng i f).rails = s.rails := rfl
@[simp] theorem State.updEng_railRuns : (s.updEng i f).railRuns = s.railRuns := rfl
@[simp] theorem State.updEng_seqs : (s.updEng i f).seqs = s.seqs := rfl
@[simp] theorem State.updEng_adcs : (s.updEng i f).adcs = s.adcs := rfl
@[simp] theorem State.updEng_ains : (s.updEng i f).ains = s.ains := rfl
@[simp] theorem State.updEng_phases : (s.updEng i f).phases = s.phases := rfl
@[simp] theorem State.updEng_sensors : (s.updEng i f).sensors = s.sensors := rfl
@[simp] theorem State.updEng_tws : (s.updEng i f).tws = s.tws := rfl
@[simp] theorem State.updEng_shelf : (s.updEng i f).shelf = s.shelf := rfl
@[simp] theorem State.updEng_pair : (s.updEng i f).pair = s.pair := rfl
@[simp] theorem State.updEng_faults : (s.updEng i f).faults = s.faults := rfl
@[simp] theorem State.updEng_nv : (s.updEng i f).nv = s.nv := rfl
@[simp] theorem State.updEng_trust : (s.updEng i f).trust = s.trust := rfl
@[simp] theorem State.updEng_rst : (s.updEng i f).rst = s.rst := rfl
@[simp] theorem State.updEng_thm : (s.updEng i f).thm = s.thm := rfl
@[simp] theorem State.updEng_pattern : (s.updEng i f).pattern = s.pattern := rfl
@[simp] theorem State.updEng_fresh : (s.updEng i f).fresh = s.fresh := rfl
end

section
variable (s : State) (i : Nat) (f : Rect → Rect)
@[simp] theorem State.updRect_pending : (s.updRect i f).pending = s.pending := rfl
@[simp] theorem State.updRect_ct : (s.updRect i f).ct = s.ct := rfl
@[simp] theorem State.updRect_regs : (s.updRect i f).regs = s.regs := rfl
@[simp] theorem State.updRect_latchHi : (s.updRect i f).latchHi = s.latchHi := rfl
@[simp] theorem State.updRect_heldLo : (s.updRect i f).heldLo = s.heldLo := rfl
@[simp] theorem State.updRect_hwTouched : (s.updRect i f).hwTouched = s.hwTouched := rfl
@[simp] theorem State.updRect_swTouched : (s.updRect i f).swTouched = s.swTouched := rfl
@[simp] theorem State.updRect_collided : (s.updRect i f).collided = s.collided := rfl
@[simp] theorem State.updRect_cmpOld : (s.updRect i f).cmpOld = s.cmpOld := rfl
@[simp] theorem State.updRect_cmpDone : (s.updRect i f).cmpDone = s.cmpDone := rfl
@[simp] theorem State.updRect_out : (s.updRect i f).out = s.out := rfl
@[simp] theorem State.updRect_hdrs : (s.updRect i f).hdrs = s.hdrs := rfl
@[simp] theorem State.updRect_mem : (s.updRect i f).mem = s.mem := rfl
@[simp] theorem State.updRect_flash0 : (s.updRect i f).flash0 = s.flash0 := rfl
@[simp] theorem State.updRect_flash1 : (s.updRect i f).flash1 = s.flash1 := rfl
@[simp] theorem State.updRect_hubStage : (s.updRect i f).hubStage = s.hubStage := rfl
@[simp] theorem State.updRect_slots : (s.updRect i f).slots = s.slots := rfl
@[simp] theorem State.updRect_mbxs : (s.updRect i f).mbxs = s.mbxs := rfl
@[simp] theorem State.updRect_ctrlTurn : (s.updRect i f).ctrlTurn = s.ctrlTurn := rfl
@[simp] theorem State.updRect_bulkTurn : (s.updRect i f).bulkTurn = s.bulkTurn := rfl
@[simp] theorem State.updRect_entering : (s.updRect i f).entering = s.entering := rfl
@[simp] theorem State.updRect_vfOff : (s.updRect i f).vfOff = s.vfOff := rfl
@[simp] theorem State.updRect_viMap : (s.updRect i f).viMap = s.viMap := rfl
@[simp] theorem State.updRect_viMapNext : (s.updRect i f).viMapNext = s.viMapNext := rfl
@[simp] theorem State.updRect_mers : (s.updRect i f).mers = s.mers := rfl
@[simp] theorem State.updRect_fans : (s.updRect i f).fans = s.fans := rfl
@[simp] theorem State.updRect_gpio : (s.updRect i f).gpio = s.gpio := rfl
@[simp] theorem State.updRect_gpioDriven : (s.updRect i f).gpioDriven = s.gpioDriven := rfl
@[simp] theorem State.updRect_debugHalt : (s.updRect i f).debugHalt = s.debugHalt := rfl
@[simp] theorem State.updRect_debugLock : (s.updRect i f).debugLock = s.debugLock := rfl
@[simp] theorem State.updRect_eph : (s.updRect i f).eph = s.eph := rfl
@[simp] theorem State.updRect_ephLast : (s.updRect i f).ephLast = s.ephLast := rfl
@[simp] theorem State.updRect_ephCount : (s.updRect i f).ephCount = s.ephCount := rfl
@[simp] theorem State.updRect_posts : (s.updRect i f).posts = s.posts := rfl
@[simp] theorem State.updRect_ports : (s.updRect i f).ports = s.ports := rfl
@[simp] theorem State.updRect_svcs : (s.updRect i f).svcs = s.svcs := rfl
@[simp] theorem State.updRect_partnerRel : (s.updRect i f).partnerRel = s.partnerRel := rfl
@[simp] theorem State.updRect_stitches : (s.updRect i f).stitches = s.stitches := rfl
@[simp] theorem State.updRect_skeins : (s.updRect i f).skeins = s.skeins := rfl
@[simp] theorem State.updRect_engines : (s.updRect i f).engines = s.engines := rfl
@[simp] theorem State.updRect_strs : (s.updRect i f).strs = s.strs := rfl
@[simp] theorem State.updRect_slotx : (s.updRect i f).slotx = s.slotx := rfl
@[simp] theorem State.updRect_budgets : (s.updRect i f).budgets = s.budgets := rfl
@[simp] theorem State.updRect_rails : (s.updRect i f).rails = s.rails := rfl
@[simp] theorem State.updRect_railRuns : (s.updRect i f).railRuns = s.railRuns := rfl
@[simp] theorem State.updRect_seqs : (s.updRect i f).seqs = s.seqs := rfl
@[simp] theorem State.updRect_adcs : (s.updRect i f).adcs = s.adcs := rfl
@[simp] theorem State.updRect_ains : (s.updRect i f).ains = s.ains := rfl
@[simp] theorem State.updRect_phases : (s.updRect i f).phases = s.phases := rfl
@[simp] theorem State.updRect_sensors : (s.updRect i f).sensors = s.sensors := rfl
@[simp] theorem State.updRect_tws : (s.updRect i f).tws = s.tws := rfl
@[simp] theorem State.updRect_shelf : (s.updRect i f).shelf = s.shelf := rfl
@[simp] theorem State.updRect_pair : (s.updRect i f).pair = s.pair := rfl
@[simp] theorem State.updRect_faults : (s.updRect i f).faults = s.faults := rfl
@[simp] theorem State.updRect_nv : (s.updRect i f).nv = s.nv := rfl
@[simp] theorem State.updRect_trust : (s.updRect i f).trust = s.trust := rfl
@[simp] theorem State.updRect_rst : (s.updRect i f).rst = s.rst := rfl
@[simp] theorem State.updRect_thm : (s.updRect i f).thm = s.thm := rfl
@[simp] theorem State.updRect_pattern : (s.updRect i f).pattern = s.pattern := rfl
@[simp] theorem State.updRect_fresh : (s.updRect i f).fresh = s.fresh := rfl
end

section
variable (s : State) (i : Nat) (f : Str → Str)
@[simp] theorem State.updStr_pending : (s.updStr i f).pending = s.pending := rfl
@[simp] theorem State.updStr_ct : (s.updStr i f).ct = s.ct := rfl
@[simp] theorem State.updStr_regs : (s.updStr i f).regs = s.regs := rfl
@[simp] theorem State.updStr_latchHi : (s.updStr i f).latchHi = s.latchHi := rfl
@[simp] theorem State.updStr_heldLo : (s.updStr i f).heldLo = s.heldLo := rfl
@[simp] theorem State.updStr_hwTouched : (s.updStr i f).hwTouched = s.hwTouched := rfl
@[simp] theorem State.updStr_swTouched : (s.updStr i f).swTouched = s.swTouched := rfl
@[simp] theorem State.updStr_collided : (s.updStr i f).collided = s.collided := rfl
@[simp] theorem State.updStr_cmpOld : (s.updStr i f).cmpOld = s.cmpOld := rfl
@[simp] theorem State.updStr_cmpDone : (s.updStr i f).cmpDone = s.cmpDone := rfl
@[simp] theorem State.updStr_out : (s.updStr i f).out = s.out := rfl
@[simp] theorem State.updStr_hdrs : (s.updStr i f).hdrs = s.hdrs := rfl
@[simp] theorem State.updStr_mem : (s.updStr i f).mem = s.mem := rfl
@[simp] theorem State.updStr_flash0 : (s.updStr i f).flash0 = s.flash0 := rfl
@[simp] theorem State.updStr_flash1 : (s.updStr i f).flash1 = s.flash1 := rfl
@[simp] theorem State.updStr_hubStage : (s.updStr i f).hubStage = s.hubStage := rfl
@[simp] theorem State.updStr_slots : (s.updStr i f).slots = s.slots := rfl
@[simp] theorem State.updStr_mbxs : (s.updStr i f).mbxs = s.mbxs := rfl
@[simp] theorem State.updStr_ctrlTurn : (s.updStr i f).ctrlTurn = s.ctrlTurn := rfl
@[simp] theorem State.updStr_bulkTurn : (s.updStr i f).bulkTurn = s.bulkTurn := rfl
@[simp] theorem State.updStr_entering : (s.updStr i f).entering = s.entering := rfl
@[simp] theorem State.updStr_vfOff : (s.updStr i f).vfOff = s.vfOff := rfl
@[simp] theorem State.updStr_viMap : (s.updStr i f).viMap = s.viMap := rfl
@[simp] theorem State.updStr_viMapNext : (s.updStr i f).viMapNext = s.viMapNext := rfl
@[simp] theorem State.updStr_mers : (s.updStr i f).mers = s.mers := rfl
@[simp] theorem State.updStr_fans : (s.updStr i f).fans = s.fans := rfl
@[simp] theorem State.updStr_gpio : (s.updStr i f).gpio = s.gpio := rfl
@[simp] theorem State.updStr_gpioDriven : (s.updStr i f).gpioDriven = s.gpioDriven := rfl
@[simp] theorem State.updStr_debugHalt : (s.updStr i f).debugHalt = s.debugHalt := rfl
@[simp] theorem State.updStr_debugLock : (s.updStr i f).debugLock = s.debugLock := rfl
@[simp] theorem State.updStr_eph : (s.updStr i f).eph = s.eph := rfl
@[simp] theorem State.updStr_ephLast : (s.updStr i f).ephLast = s.ephLast := rfl
@[simp] theorem State.updStr_ephCount : (s.updStr i f).ephCount = s.ephCount := rfl
@[simp] theorem State.updStr_posts : (s.updStr i f).posts = s.posts := rfl
@[simp] theorem State.updStr_ports : (s.updStr i f).ports = s.ports := rfl
@[simp] theorem State.updStr_svcs : (s.updStr i f).svcs = s.svcs := rfl
@[simp] theorem State.updStr_partnerRel : (s.updStr i f).partnerRel = s.partnerRel := rfl
@[simp] theorem State.updStr_stitches : (s.updStr i f).stitches = s.stitches := rfl
@[simp] theorem State.updStr_skeins : (s.updStr i f).skeins = s.skeins := rfl
@[simp] theorem State.updStr_engines : (s.updStr i f).engines = s.engines := rfl
@[simp] theorem State.updStr_rects : (s.updStr i f).rects = s.rects := rfl
@[simp] theorem State.updStr_slotx : (s.updStr i f).slotx = s.slotx := rfl
@[simp] theorem State.updStr_budgets : (s.updStr i f).budgets = s.budgets := rfl
@[simp] theorem State.updStr_rails : (s.updStr i f).rails = s.rails := rfl
@[simp] theorem State.updStr_railRuns : (s.updStr i f).railRuns = s.railRuns := rfl
@[simp] theorem State.updStr_seqs : (s.updStr i f).seqs = s.seqs := rfl
@[simp] theorem State.updStr_adcs : (s.updStr i f).adcs = s.adcs := rfl
@[simp] theorem State.updStr_ains : (s.updStr i f).ains = s.ains := rfl
@[simp] theorem State.updStr_phases : (s.updStr i f).phases = s.phases := rfl
@[simp] theorem State.updStr_sensors : (s.updStr i f).sensors = s.sensors := rfl
@[simp] theorem State.updStr_tws : (s.updStr i f).tws = s.tws := rfl
@[simp] theorem State.updStr_shelf : (s.updStr i f).shelf = s.shelf := rfl
@[simp] theorem State.updStr_pair : (s.updStr i f).pair = s.pair := rfl
@[simp] theorem State.updStr_faults : (s.updStr i f).faults = s.faults := rfl
@[simp] theorem State.updStr_nv : (s.updStr i f).nv = s.nv := rfl
@[simp] theorem State.updStr_trust : (s.updStr i f).trust = s.trust := rfl
@[simp] theorem State.updStr_rst : (s.updStr i f).rst = s.rst := rfl
@[simp] theorem State.updStr_thm : (s.updStr i f).thm = s.thm := rfl
@[simp] theorem State.updStr_pattern : (s.updStr i f).pattern = s.pattern := rfl
@[simp] theorem State.updStr_fresh : (s.updStr i f).fresh = s.fresh := rfl
end

section
variable (s : State) (i : Nat) (f : Slot → Slot)
@[simp] theorem State.updSlot_pending : (s.updSlot i f).pending = s.pending := rfl
@[simp] theorem State.updSlot_ct : (s.updSlot i f).ct = s.ct := rfl
@[simp] theorem State.updSlot_regs : (s.updSlot i f).regs = s.regs := rfl
@[simp] theorem State.updSlot_latchHi : (s.updSlot i f).latchHi = s.latchHi := rfl
@[simp] theorem State.updSlot_heldLo : (s.updSlot i f).heldLo = s.heldLo := rfl
@[simp] theorem State.updSlot_hwTouched : (s.updSlot i f).hwTouched = s.hwTouched := rfl
@[simp] theorem State.updSlot_swTouched : (s.updSlot i f).swTouched = s.swTouched := rfl
@[simp] theorem State.updSlot_collided : (s.updSlot i f).collided = s.collided := rfl
@[simp] theorem State.updSlot_cmpOld : (s.updSlot i f).cmpOld = s.cmpOld := rfl
@[simp] theorem State.updSlot_cmpDone : (s.updSlot i f).cmpDone = s.cmpDone := rfl
@[simp] theorem State.updSlot_out : (s.updSlot i f).out = s.out := rfl
@[simp] theorem State.updSlot_hdrs : (s.updSlot i f).hdrs = s.hdrs := rfl
@[simp] theorem State.updSlot_mem : (s.updSlot i f).mem = s.mem := rfl
@[simp] theorem State.updSlot_flash0 : (s.updSlot i f).flash0 = s.flash0 := rfl
@[simp] theorem State.updSlot_flash1 : (s.updSlot i f).flash1 = s.flash1 := rfl
@[simp] theorem State.updSlot_hubStage : (s.updSlot i f).hubStage = s.hubStage := rfl
@[simp] theorem State.updSlot_slots : (s.updSlot i f).slots = s.slots := rfl
@[simp] theorem State.updSlot_mbxs : (s.updSlot i f).mbxs = s.mbxs := rfl
@[simp] theorem State.updSlot_ctrlTurn : (s.updSlot i f).ctrlTurn = s.ctrlTurn := rfl
@[simp] theorem State.updSlot_bulkTurn : (s.updSlot i f).bulkTurn = s.bulkTurn := rfl
@[simp] theorem State.updSlot_entering : (s.updSlot i f).entering = s.entering := rfl
@[simp] theorem State.updSlot_vfOff : (s.updSlot i f).vfOff = s.vfOff := rfl
@[simp] theorem State.updSlot_viMap : (s.updSlot i f).viMap = s.viMap := rfl
@[simp] theorem State.updSlot_viMapNext : (s.updSlot i f).viMapNext = s.viMapNext := rfl
@[simp] theorem State.updSlot_mers : (s.updSlot i f).mers = s.mers := rfl
@[simp] theorem State.updSlot_fans : (s.updSlot i f).fans = s.fans := rfl
@[simp] theorem State.updSlot_gpio : (s.updSlot i f).gpio = s.gpio := rfl
@[simp] theorem State.updSlot_gpioDriven : (s.updSlot i f).gpioDriven = s.gpioDriven := rfl
@[simp] theorem State.updSlot_debugHalt : (s.updSlot i f).debugHalt = s.debugHalt := rfl
@[simp] theorem State.updSlot_debugLock : (s.updSlot i f).debugLock = s.debugLock := rfl
@[simp] theorem State.updSlot_eph : (s.updSlot i f).eph = s.eph := rfl
@[simp] theorem State.updSlot_ephLast : (s.updSlot i f).ephLast = s.ephLast := rfl
@[simp] theorem State.updSlot_ephCount : (s.updSlot i f).ephCount = s.ephCount := rfl
@[simp] theorem State.updSlot_posts : (s.updSlot i f).posts = s.posts := rfl
@[simp] theorem State.updSlot_ports : (s.updSlot i f).ports = s.ports := rfl
@[simp] theorem State.updSlot_svcs : (s.updSlot i f).svcs = s.svcs := rfl
@[simp] theorem State.updSlot_partnerRel : (s.updSlot i f).partnerRel = s.partnerRel := rfl
@[simp] theorem State.updSlot_stitches : (s.updSlot i f).stitches = s.stitches := rfl
@[simp] theorem State.updSlot_skeins : (s.updSlot i f).skeins = s.skeins := rfl
@[simp] theorem State.updSlot_engines : (s.updSlot i f).engines = s.engines := rfl
@[simp] theorem State.updSlot_rects : (s.updSlot i f).rects = s.rects := rfl
@[simp] theorem State.updSlot_strs : (s.updSlot i f).strs = s.strs := rfl
@[simp] theorem State.updSlot_budgets : (s.updSlot i f).budgets = s.budgets := rfl
@[simp] theorem State.updSlot_rails : (s.updSlot i f).rails = s.rails := rfl
@[simp] theorem State.updSlot_railRuns : (s.updSlot i f).railRuns = s.railRuns := rfl
@[simp] theorem State.updSlot_seqs : (s.updSlot i f).seqs = s.seqs := rfl
@[simp] theorem State.updSlot_adcs : (s.updSlot i f).adcs = s.adcs := rfl
@[simp] theorem State.updSlot_ains : (s.updSlot i f).ains = s.ains := rfl
@[simp] theorem State.updSlot_phases : (s.updSlot i f).phases = s.phases := rfl
@[simp] theorem State.updSlot_sensors : (s.updSlot i f).sensors = s.sensors := rfl
@[simp] theorem State.updSlot_tws : (s.updSlot i f).tws = s.tws := rfl
@[simp] theorem State.updSlot_shelf : (s.updSlot i f).shelf = s.shelf := rfl
@[simp] theorem State.updSlot_pair : (s.updSlot i f).pair = s.pair := rfl
@[simp] theorem State.updSlot_faults : (s.updSlot i f).faults = s.faults := rfl
@[simp] theorem State.updSlot_nv : (s.updSlot i f).nv = s.nv := rfl
@[simp] theorem State.updSlot_trust : (s.updSlot i f).trust = s.trust := rfl
@[simp] theorem State.updSlot_rst : (s.updSlot i f).rst = s.rst := rfl
@[simp] theorem State.updSlot_thm : (s.updSlot i f).thm = s.thm := rfl
@[simp] theorem State.updSlot_pattern : (s.updSlot i f).pattern = s.pattern := rfl
@[simp] theorem State.updSlot_fresh : (s.updSlot i f).fresh = s.fresh := rfl
end

section
variable (s : State) (i : Nat) (f : Budget → Budget)
@[simp] theorem State.updBgt_pending : (s.updBgt i f).pending = s.pending := rfl
@[simp] theorem State.updBgt_ct : (s.updBgt i f).ct = s.ct := rfl
@[simp] theorem State.updBgt_regs : (s.updBgt i f).regs = s.regs := rfl
@[simp] theorem State.updBgt_latchHi : (s.updBgt i f).latchHi = s.latchHi := rfl
@[simp] theorem State.updBgt_heldLo : (s.updBgt i f).heldLo = s.heldLo := rfl
@[simp] theorem State.updBgt_hwTouched : (s.updBgt i f).hwTouched = s.hwTouched := rfl
@[simp] theorem State.updBgt_swTouched : (s.updBgt i f).swTouched = s.swTouched := rfl
@[simp] theorem State.updBgt_collided : (s.updBgt i f).collided = s.collided := rfl
@[simp] theorem State.updBgt_cmpOld : (s.updBgt i f).cmpOld = s.cmpOld := rfl
@[simp] theorem State.updBgt_cmpDone : (s.updBgt i f).cmpDone = s.cmpDone := rfl
@[simp] theorem State.updBgt_out : (s.updBgt i f).out = s.out := rfl
@[simp] theorem State.updBgt_hdrs : (s.updBgt i f).hdrs = s.hdrs := rfl
@[simp] theorem State.updBgt_mem : (s.updBgt i f).mem = s.mem := rfl
@[simp] theorem State.updBgt_flash0 : (s.updBgt i f).flash0 = s.flash0 := rfl
@[simp] theorem State.updBgt_flash1 : (s.updBgt i f).flash1 = s.flash1 := rfl
@[simp] theorem State.updBgt_hubStage : (s.updBgt i f).hubStage = s.hubStage := rfl
@[simp] theorem State.updBgt_slots : (s.updBgt i f).slots = s.slots := rfl
@[simp] theorem State.updBgt_mbxs : (s.updBgt i f).mbxs = s.mbxs := rfl
@[simp] theorem State.updBgt_ctrlTurn : (s.updBgt i f).ctrlTurn = s.ctrlTurn := rfl
@[simp] theorem State.updBgt_bulkTurn : (s.updBgt i f).bulkTurn = s.bulkTurn := rfl
@[simp] theorem State.updBgt_entering : (s.updBgt i f).entering = s.entering := rfl
@[simp] theorem State.updBgt_vfOff : (s.updBgt i f).vfOff = s.vfOff := rfl
@[simp] theorem State.updBgt_viMap : (s.updBgt i f).viMap = s.viMap := rfl
@[simp] theorem State.updBgt_viMapNext : (s.updBgt i f).viMapNext = s.viMapNext := rfl
@[simp] theorem State.updBgt_mers : (s.updBgt i f).mers = s.mers := rfl
@[simp] theorem State.updBgt_fans : (s.updBgt i f).fans = s.fans := rfl
@[simp] theorem State.updBgt_gpio : (s.updBgt i f).gpio = s.gpio := rfl
@[simp] theorem State.updBgt_gpioDriven : (s.updBgt i f).gpioDriven = s.gpioDriven := rfl
@[simp] theorem State.updBgt_debugHalt : (s.updBgt i f).debugHalt = s.debugHalt := rfl
@[simp] theorem State.updBgt_debugLock : (s.updBgt i f).debugLock = s.debugLock := rfl
@[simp] theorem State.updBgt_eph : (s.updBgt i f).eph = s.eph := rfl
@[simp] theorem State.updBgt_ephLast : (s.updBgt i f).ephLast = s.ephLast := rfl
@[simp] theorem State.updBgt_ephCount : (s.updBgt i f).ephCount = s.ephCount := rfl
@[simp] theorem State.updBgt_posts : (s.updBgt i f).posts = s.posts := rfl
@[simp] theorem State.updBgt_ports : (s.updBgt i f).ports = s.ports := rfl
@[simp] theorem State.updBgt_svcs : (s.updBgt i f).svcs = s.svcs := rfl
@[simp] theorem State.updBgt_partnerRel : (s.updBgt i f).partnerRel = s.partnerRel := rfl
@[simp] theorem State.updBgt_stitches : (s.updBgt i f).stitches = s.stitches := rfl
@[simp] theorem State.updBgt_skeins : (s.updBgt i f).skeins = s.skeins := rfl
@[simp] theorem State.updBgt_engines : (s.updBgt i f).engines = s.engines := rfl
@[simp] theorem State.updBgt_rects : (s.updBgt i f).rects = s.rects := rfl
@[simp] theorem State.updBgt_strs : (s.updBgt i f).strs = s.strs := rfl
@[simp] theorem State.updBgt_slotx : (s.updBgt i f).slotx = s.slotx := rfl
@[simp] theorem State.updBgt_rails : (s.updBgt i f).rails = s.rails := rfl
@[simp] theorem State.updBgt_railRuns : (s.updBgt i f).railRuns = s.railRuns := rfl
@[simp] theorem State.updBgt_seqs : (s.updBgt i f).seqs = s.seqs := rfl
@[simp] theorem State.updBgt_adcs : (s.updBgt i f).adcs = s.adcs := rfl
@[simp] theorem State.updBgt_ains : (s.updBgt i f).ains = s.ains := rfl
@[simp] theorem State.updBgt_phases : (s.updBgt i f).phases = s.phases := rfl
@[simp] theorem State.updBgt_sensors : (s.updBgt i f).sensors = s.sensors := rfl
@[simp] theorem State.updBgt_tws : (s.updBgt i f).tws = s.tws := rfl
@[simp] theorem State.updBgt_shelf : (s.updBgt i f).shelf = s.shelf := rfl
@[simp] theorem State.updBgt_pair : (s.updBgt i f).pair = s.pair := rfl
@[simp] theorem State.updBgt_faults : (s.updBgt i f).faults = s.faults := rfl
@[simp] theorem State.updBgt_nv : (s.updBgt i f).nv = s.nv := rfl
@[simp] theorem State.updBgt_trust : (s.updBgt i f).trust = s.trust := rfl
@[simp] theorem State.updBgt_rst : (s.updBgt i f).rst = s.rst := rfl
@[simp] theorem State.updBgt_thm : (s.updBgt i f).thm = s.thm := rfl
@[simp] theorem State.updBgt_pattern : (s.updBgt i f).pattern = s.pattern := rfl
@[simp] theorem State.updBgt_fresh : (s.updBgt i f).fresh = s.fresh := rfl
end

section
variable (s : State) (i : Nat) (f : RailRun → RailRun)
@[simp] theorem State.updRrun_pending : (s.updRrun i f).pending = s.pending := rfl
@[simp] theorem State.updRrun_ct : (s.updRrun i f).ct = s.ct := rfl
@[simp] theorem State.updRrun_regs : (s.updRrun i f).regs = s.regs := rfl
@[simp] theorem State.updRrun_latchHi : (s.updRrun i f).latchHi = s.latchHi := rfl
@[simp] theorem State.updRrun_heldLo : (s.updRrun i f).heldLo = s.heldLo := rfl
@[simp] theorem State.updRrun_hwTouched : (s.updRrun i f).hwTouched = s.hwTouched := rfl
@[simp] theorem State.updRrun_swTouched : (s.updRrun i f).swTouched = s.swTouched := rfl
@[simp] theorem State.updRrun_collided : (s.updRrun i f).collided = s.collided := rfl
@[simp] theorem State.updRrun_cmpOld : (s.updRrun i f).cmpOld = s.cmpOld := rfl
@[simp] theorem State.updRrun_cmpDone : (s.updRrun i f).cmpDone = s.cmpDone := rfl
@[simp] theorem State.updRrun_out : (s.updRrun i f).out = s.out := rfl
@[simp] theorem State.updRrun_hdrs : (s.updRrun i f).hdrs = s.hdrs := rfl
@[simp] theorem State.updRrun_mem : (s.updRrun i f).mem = s.mem := rfl
@[simp] theorem State.updRrun_flash0 : (s.updRrun i f).flash0 = s.flash0 := rfl
@[simp] theorem State.updRrun_flash1 : (s.updRrun i f).flash1 = s.flash1 := rfl
@[simp] theorem State.updRrun_hubStage : (s.updRrun i f).hubStage = s.hubStage := rfl
@[simp] theorem State.updRrun_slots : (s.updRrun i f).slots = s.slots := rfl
@[simp] theorem State.updRrun_mbxs : (s.updRrun i f).mbxs = s.mbxs := rfl
@[simp] theorem State.updRrun_ctrlTurn : (s.updRrun i f).ctrlTurn = s.ctrlTurn := rfl
@[simp] theorem State.updRrun_bulkTurn : (s.updRrun i f).bulkTurn = s.bulkTurn := rfl
@[simp] theorem State.updRrun_entering : (s.updRrun i f).entering = s.entering := rfl
@[simp] theorem State.updRrun_vfOff : (s.updRrun i f).vfOff = s.vfOff := rfl
@[simp] theorem State.updRrun_viMap : (s.updRrun i f).viMap = s.viMap := rfl
@[simp] theorem State.updRrun_viMapNext : (s.updRrun i f).viMapNext = s.viMapNext := rfl
@[simp] theorem State.updRrun_mers : (s.updRrun i f).mers = s.mers := rfl
@[simp] theorem State.updRrun_fans : (s.updRrun i f).fans = s.fans := rfl
@[simp] theorem State.updRrun_gpio : (s.updRrun i f).gpio = s.gpio := rfl
@[simp] theorem State.updRrun_gpioDriven : (s.updRrun i f).gpioDriven = s.gpioDriven := rfl
@[simp] theorem State.updRrun_debugHalt : (s.updRrun i f).debugHalt = s.debugHalt := rfl
@[simp] theorem State.updRrun_debugLock : (s.updRrun i f).debugLock = s.debugLock := rfl
@[simp] theorem State.updRrun_eph : (s.updRrun i f).eph = s.eph := rfl
@[simp] theorem State.updRrun_ephLast : (s.updRrun i f).ephLast = s.ephLast := rfl
@[simp] theorem State.updRrun_ephCount : (s.updRrun i f).ephCount = s.ephCount := rfl
@[simp] theorem State.updRrun_posts : (s.updRrun i f).posts = s.posts := rfl
@[simp] theorem State.updRrun_ports : (s.updRrun i f).ports = s.ports := rfl
@[simp] theorem State.updRrun_svcs : (s.updRrun i f).svcs = s.svcs := rfl
@[simp] theorem State.updRrun_partnerRel : (s.updRrun i f).partnerRel = s.partnerRel := rfl
@[simp] theorem State.updRrun_stitches : (s.updRrun i f).stitches = s.stitches := rfl
@[simp] theorem State.updRrun_skeins : (s.updRrun i f).skeins = s.skeins := rfl
@[simp] theorem State.updRrun_engines : (s.updRrun i f).engines = s.engines := rfl
@[simp] theorem State.updRrun_rects : (s.updRrun i f).rects = s.rects := rfl
@[simp] theorem State.updRrun_strs : (s.updRrun i f).strs = s.strs := rfl
@[simp] theorem State.updRrun_slotx : (s.updRrun i f).slotx = s.slotx := rfl
@[simp] theorem State.updRrun_budgets : (s.updRrun i f).budgets = s.budgets := rfl
@[simp] theorem State.updRrun_rails : (s.updRrun i f).rails = s.rails := rfl
@[simp] theorem State.updRrun_seqs : (s.updRrun i f).seqs = s.seqs := rfl
@[simp] theorem State.updRrun_adcs : (s.updRrun i f).adcs = s.adcs := rfl
@[simp] theorem State.updRrun_ains : (s.updRrun i f).ains = s.ains := rfl
@[simp] theorem State.updRrun_phases : (s.updRrun i f).phases = s.phases := rfl
@[simp] theorem State.updRrun_sensors : (s.updRrun i f).sensors = s.sensors := rfl
@[simp] theorem State.updRrun_tws : (s.updRrun i f).tws = s.tws := rfl
@[simp] theorem State.updRrun_shelf : (s.updRrun i f).shelf = s.shelf := rfl
@[simp] theorem State.updRrun_pair : (s.updRrun i f).pair = s.pair := rfl
@[simp] theorem State.updRrun_faults : (s.updRrun i f).faults = s.faults := rfl
@[simp] theorem State.updRrun_nv : (s.updRrun i f).nv = s.nv := rfl
@[simp] theorem State.updRrun_trust : (s.updRrun i f).trust = s.trust := rfl
@[simp] theorem State.updRrun_rst : (s.updRrun i f).rst = s.rst := rfl
@[simp] theorem State.updRrun_thm : (s.updRrun i f).thm = s.thm := rfl
@[simp] theorem State.updRrun_pattern : (s.updRrun i f).pattern = s.pattern := rfl
@[simp] theorem State.updRrun_fresh : (s.updRrun i f).fresh = s.fresh := rfl
end

section
variable (s : State) (i : Nat) (f : Seq → Seq)
@[simp] theorem State.updSeq_pending : (s.updSeq i f).pending = s.pending := rfl
@[simp] theorem State.updSeq_ct : (s.updSeq i f).ct = s.ct := rfl
@[simp] theorem State.updSeq_regs : (s.updSeq i f).regs = s.regs := rfl
@[simp] theorem State.updSeq_latchHi : (s.updSeq i f).latchHi = s.latchHi := rfl
@[simp] theorem State.updSeq_heldLo : (s.updSeq i f).heldLo = s.heldLo := rfl
@[simp] theorem State.updSeq_hwTouched : (s.updSeq i f).hwTouched = s.hwTouched := rfl
@[simp] theorem State.updSeq_swTouched : (s.updSeq i f).swTouched = s.swTouched := rfl
@[simp] theorem State.updSeq_collided : (s.updSeq i f).collided = s.collided := rfl
@[simp] theorem State.updSeq_cmpOld : (s.updSeq i f).cmpOld = s.cmpOld := rfl
@[simp] theorem State.updSeq_cmpDone : (s.updSeq i f).cmpDone = s.cmpDone := rfl
@[simp] theorem State.updSeq_out : (s.updSeq i f).out = s.out := rfl
@[simp] theorem State.updSeq_hdrs : (s.updSeq i f).hdrs = s.hdrs := rfl
@[simp] theorem State.updSeq_mem : (s.updSeq i f).mem = s.mem := rfl
@[simp] theorem State.updSeq_flash0 : (s.updSeq i f).flash0 = s.flash0 := rfl
@[simp] theorem State.updSeq_flash1 : (s.updSeq i f).flash1 = s.flash1 := rfl
@[simp] theorem State.updSeq_hubStage : (s.updSeq i f).hubStage = s.hubStage := rfl
@[simp] theorem State.updSeq_slots : (s.updSeq i f).slots = s.slots := rfl
@[simp] theorem State.updSeq_mbxs : (s.updSeq i f).mbxs = s.mbxs := rfl
@[simp] theorem State.updSeq_ctrlTurn : (s.updSeq i f).ctrlTurn = s.ctrlTurn := rfl
@[simp] theorem State.updSeq_bulkTurn : (s.updSeq i f).bulkTurn = s.bulkTurn := rfl
@[simp] theorem State.updSeq_entering : (s.updSeq i f).entering = s.entering := rfl
@[simp] theorem State.updSeq_vfOff : (s.updSeq i f).vfOff = s.vfOff := rfl
@[simp] theorem State.updSeq_viMap : (s.updSeq i f).viMap = s.viMap := rfl
@[simp] theorem State.updSeq_viMapNext : (s.updSeq i f).viMapNext = s.viMapNext := rfl
@[simp] theorem State.updSeq_mers : (s.updSeq i f).mers = s.mers := rfl
@[simp] theorem State.updSeq_fans : (s.updSeq i f).fans = s.fans := rfl
@[simp] theorem State.updSeq_gpio : (s.updSeq i f).gpio = s.gpio := rfl
@[simp] theorem State.updSeq_gpioDriven : (s.updSeq i f).gpioDriven = s.gpioDriven := rfl
@[simp] theorem State.updSeq_debugHalt : (s.updSeq i f).debugHalt = s.debugHalt := rfl
@[simp] theorem State.updSeq_debugLock : (s.updSeq i f).debugLock = s.debugLock := rfl
@[simp] theorem State.updSeq_eph : (s.updSeq i f).eph = s.eph := rfl
@[simp] theorem State.updSeq_ephLast : (s.updSeq i f).ephLast = s.ephLast := rfl
@[simp] theorem State.updSeq_ephCount : (s.updSeq i f).ephCount = s.ephCount := rfl
@[simp] theorem State.updSeq_posts : (s.updSeq i f).posts = s.posts := rfl
@[simp] theorem State.updSeq_ports : (s.updSeq i f).ports = s.ports := rfl
@[simp] theorem State.updSeq_svcs : (s.updSeq i f).svcs = s.svcs := rfl
@[simp] theorem State.updSeq_partnerRel : (s.updSeq i f).partnerRel = s.partnerRel := rfl
@[simp] theorem State.updSeq_stitches : (s.updSeq i f).stitches = s.stitches := rfl
@[simp] theorem State.updSeq_skeins : (s.updSeq i f).skeins = s.skeins := rfl
@[simp] theorem State.updSeq_engines : (s.updSeq i f).engines = s.engines := rfl
@[simp] theorem State.updSeq_rects : (s.updSeq i f).rects = s.rects := rfl
@[simp] theorem State.updSeq_strs : (s.updSeq i f).strs = s.strs := rfl
@[simp] theorem State.updSeq_slotx : (s.updSeq i f).slotx = s.slotx := rfl
@[simp] theorem State.updSeq_budgets : (s.updSeq i f).budgets = s.budgets := rfl
@[simp] theorem State.updSeq_rails : (s.updSeq i f).rails = s.rails := rfl
@[simp] theorem State.updSeq_railRuns : (s.updSeq i f).railRuns = s.railRuns := rfl
@[simp] theorem State.updSeq_adcs : (s.updSeq i f).adcs = s.adcs := rfl
@[simp] theorem State.updSeq_ains : (s.updSeq i f).ains = s.ains := rfl
@[simp] theorem State.updSeq_phases : (s.updSeq i f).phases = s.phases := rfl
@[simp] theorem State.updSeq_sensors : (s.updSeq i f).sensors = s.sensors := rfl
@[simp] theorem State.updSeq_tws : (s.updSeq i f).tws = s.tws := rfl
@[simp] theorem State.updSeq_shelf : (s.updSeq i f).shelf = s.shelf := rfl
@[simp] theorem State.updSeq_pair : (s.updSeq i f).pair = s.pair := rfl
@[simp] theorem State.updSeq_faults : (s.updSeq i f).faults = s.faults := rfl
@[simp] theorem State.updSeq_nv : (s.updSeq i f).nv = s.nv := rfl
@[simp] theorem State.updSeq_trust : (s.updSeq i f).trust = s.trust := rfl
@[simp] theorem State.updSeq_rst : (s.updSeq i f).rst = s.rst := rfl
@[simp] theorem State.updSeq_thm : (s.updSeq i f).thm = s.thm := rfl
@[simp] theorem State.updSeq_pattern : (s.updSeq i f).pattern = s.pattern := rfl
@[simp] theorem State.updSeq_fresh : (s.updSeq i f).fresh = s.fresh := rfl
end

section
variable (s : State) (i : Nat) (f : Adc → Adc)
@[simp] theorem State.updAdc_pending : (s.updAdc i f).pending = s.pending := rfl
@[simp] theorem State.updAdc_ct : (s.updAdc i f).ct = s.ct := rfl
@[simp] theorem State.updAdc_regs : (s.updAdc i f).regs = s.regs := rfl
@[simp] theorem State.updAdc_latchHi : (s.updAdc i f).latchHi = s.latchHi := rfl
@[simp] theorem State.updAdc_heldLo : (s.updAdc i f).heldLo = s.heldLo := rfl
@[simp] theorem State.updAdc_hwTouched : (s.updAdc i f).hwTouched = s.hwTouched := rfl
@[simp] theorem State.updAdc_swTouched : (s.updAdc i f).swTouched = s.swTouched := rfl
@[simp] theorem State.updAdc_collided : (s.updAdc i f).collided = s.collided := rfl
@[simp] theorem State.updAdc_cmpOld : (s.updAdc i f).cmpOld = s.cmpOld := rfl
@[simp] theorem State.updAdc_cmpDone : (s.updAdc i f).cmpDone = s.cmpDone := rfl
@[simp] theorem State.updAdc_out : (s.updAdc i f).out = s.out := rfl
@[simp] theorem State.updAdc_hdrs : (s.updAdc i f).hdrs = s.hdrs := rfl
@[simp] theorem State.updAdc_mem : (s.updAdc i f).mem = s.mem := rfl
@[simp] theorem State.updAdc_flash0 : (s.updAdc i f).flash0 = s.flash0 := rfl
@[simp] theorem State.updAdc_flash1 : (s.updAdc i f).flash1 = s.flash1 := rfl
@[simp] theorem State.updAdc_hubStage : (s.updAdc i f).hubStage = s.hubStage := rfl
@[simp] theorem State.updAdc_slots : (s.updAdc i f).slots = s.slots := rfl
@[simp] theorem State.updAdc_mbxs : (s.updAdc i f).mbxs = s.mbxs := rfl
@[simp] theorem State.updAdc_ctrlTurn : (s.updAdc i f).ctrlTurn = s.ctrlTurn := rfl
@[simp] theorem State.updAdc_bulkTurn : (s.updAdc i f).bulkTurn = s.bulkTurn := rfl
@[simp] theorem State.updAdc_entering : (s.updAdc i f).entering = s.entering := rfl
@[simp] theorem State.updAdc_vfOff : (s.updAdc i f).vfOff = s.vfOff := rfl
@[simp] theorem State.updAdc_viMap : (s.updAdc i f).viMap = s.viMap := rfl
@[simp] theorem State.updAdc_viMapNext : (s.updAdc i f).viMapNext = s.viMapNext := rfl
@[simp] theorem State.updAdc_mers : (s.updAdc i f).mers = s.mers := rfl
@[simp] theorem State.updAdc_fans : (s.updAdc i f).fans = s.fans := rfl
@[simp] theorem State.updAdc_gpio : (s.updAdc i f).gpio = s.gpio := rfl
@[simp] theorem State.updAdc_gpioDriven : (s.updAdc i f).gpioDriven = s.gpioDriven := rfl
@[simp] theorem State.updAdc_debugHalt : (s.updAdc i f).debugHalt = s.debugHalt := rfl
@[simp] theorem State.updAdc_debugLock : (s.updAdc i f).debugLock = s.debugLock := rfl
@[simp] theorem State.updAdc_eph : (s.updAdc i f).eph = s.eph := rfl
@[simp] theorem State.updAdc_ephLast : (s.updAdc i f).ephLast = s.ephLast := rfl
@[simp] theorem State.updAdc_ephCount : (s.updAdc i f).ephCount = s.ephCount := rfl
@[simp] theorem State.updAdc_posts : (s.updAdc i f).posts = s.posts := rfl
@[simp] theorem State.updAdc_ports : (s.updAdc i f).ports = s.ports := rfl
@[simp] theorem State.updAdc_svcs : (s.updAdc i f).svcs = s.svcs := rfl
@[simp] theorem State.updAdc_partnerRel : (s.updAdc i f).partnerRel = s.partnerRel := rfl
@[simp] theorem State.updAdc_stitches : (s.updAdc i f).stitches = s.stitches := rfl
@[simp] theorem State.updAdc_skeins : (s.updAdc i f).skeins = s.skeins := rfl
@[simp] theorem State.updAdc_engines : (s.updAdc i f).engines = s.engines := rfl
@[simp] theorem State.updAdc_rects : (s.updAdc i f).rects = s.rects := rfl
@[simp] theorem State.updAdc_strs : (s.updAdc i f).strs = s.strs := rfl
@[simp] theorem State.updAdc_slotx : (s.updAdc i f).slotx = s.slotx := rfl
@[simp] theorem State.updAdc_budgets : (s.updAdc i f).budgets = s.budgets := rfl
@[simp] theorem State.updAdc_rails : (s.updAdc i f).rails = s.rails := rfl
@[simp] theorem State.updAdc_railRuns : (s.updAdc i f).railRuns = s.railRuns := rfl
@[simp] theorem State.updAdc_seqs : (s.updAdc i f).seqs = s.seqs := rfl
@[simp] theorem State.updAdc_ains : (s.updAdc i f).ains = s.ains := rfl
@[simp] theorem State.updAdc_phases : (s.updAdc i f).phases = s.phases := rfl
@[simp] theorem State.updAdc_sensors : (s.updAdc i f).sensors = s.sensors := rfl
@[simp] theorem State.updAdc_tws : (s.updAdc i f).tws = s.tws := rfl
@[simp] theorem State.updAdc_shelf : (s.updAdc i f).shelf = s.shelf := rfl
@[simp] theorem State.updAdc_pair : (s.updAdc i f).pair = s.pair := rfl
@[simp] theorem State.updAdc_faults : (s.updAdc i f).faults = s.faults := rfl
@[simp] theorem State.updAdc_nv : (s.updAdc i f).nv = s.nv := rfl
@[simp] theorem State.updAdc_trust : (s.updAdc i f).trust = s.trust := rfl
@[simp] theorem State.updAdc_rst : (s.updAdc i f).rst = s.rst := rfl
@[simp] theorem State.updAdc_thm : (s.updAdc i f).thm = s.thm := rfl
@[simp] theorem State.updAdc_pattern : (s.updAdc i f).pattern = s.pattern := rfl
@[simp] theorem State.updAdc_fresh : (s.updAdc i f).fresh = s.fresh := rfl
end

section
variable (s : State) (i : Nat) (f : Ain → Ain)
@[simp] theorem State.updAin_pending : (s.updAin i f).pending = s.pending := rfl
@[simp] theorem State.updAin_ct : (s.updAin i f).ct = s.ct := rfl
@[simp] theorem State.updAin_regs : (s.updAin i f).regs = s.regs := rfl
@[simp] theorem State.updAin_latchHi : (s.updAin i f).latchHi = s.latchHi := rfl
@[simp] theorem State.updAin_heldLo : (s.updAin i f).heldLo = s.heldLo := rfl
@[simp] theorem State.updAin_hwTouched : (s.updAin i f).hwTouched = s.hwTouched := rfl
@[simp] theorem State.updAin_swTouched : (s.updAin i f).swTouched = s.swTouched := rfl
@[simp] theorem State.updAin_collided : (s.updAin i f).collided = s.collided := rfl
@[simp] theorem State.updAin_cmpOld : (s.updAin i f).cmpOld = s.cmpOld := rfl
@[simp] theorem State.updAin_cmpDone : (s.updAin i f).cmpDone = s.cmpDone := rfl
@[simp] theorem State.updAin_out : (s.updAin i f).out = s.out := rfl
@[simp] theorem State.updAin_hdrs : (s.updAin i f).hdrs = s.hdrs := rfl
@[simp] theorem State.updAin_mem : (s.updAin i f).mem = s.mem := rfl
@[simp] theorem State.updAin_flash0 : (s.updAin i f).flash0 = s.flash0 := rfl
@[simp] theorem State.updAin_flash1 : (s.updAin i f).flash1 = s.flash1 := rfl
@[simp] theorem State.updAin_hubStage : (s.updAin i f).hubStage = s.hubStage := rfl
@[simp] theorem State.updAin_slots : (s.updAin i f).slots = s.slots := rfl
@[simp] theorem State.updAin_mbxs : (s.updAin i f).mbxs = s.mbxs := rfl
@[simp] theorem State.updAin_ctrlTurn : (s.updAin i f).ctrlTurn = s.ctrlTurn := rfl
@[simp] theorem State.updAin_bulkTurn : (s.updAin i f).bulkTurn = s.bulkTurn := rfl
@[simp] theorem State.updAin_entering : (s.updAin i f).entering = s.entering := rfl
@[simp] theorem State.updAin_vfOff : (s.updAin i f).vfOff = s.vfOff := rfl
@[simp] theorem State.updAin_viMap : (s.updAin i f).viMap = s.viMap := rfl
@[simp] theorem State.updAin_viMapNext : (s.updAin i f).viMapNext = s.viMapNext := rfl
@[simp] theorem State.updAin_mers : (s.updAin i f).mers = s.mers := rfl
@[simp] theorem State.updAin_fans : (s.updAin i f).fans = s.fans := rfl
@[simp] theorem State.updAin_gpio : (s.updAin i f).gpio = s.gpio := rfl
@[simp] theorem State.updAin_gpioDriven : (s.updAin i f).gpioDriven = s.gpioDriven := rfl
@[simp] theorem State.updAin_debugHalt : (s.updAin i f).debugHalt = s.debugHalt := rfl
@[simp] theorem State.updAin_debugLock : (s.updAin i f).debugLock = s.debugLock := rfl
@[simp] theorem State.updAin_eph : (s.updAin i f).eph = s.eph := rfl
@[simp] theorem State.updAin_ephLast : (s.updAin i f).ephLast = s.ephLast := rfl
@[simp] theorem State.updAin_ephCount : (s.updAin i f).ephCount = s.ephCount := rfl
@[simp] theorem State.updAin_posts : (s.updAin i f).posts = s.posts := rfl
@[simp] theorem State.updAin_ports : (s.updAin i f).ports = s.ports := rfl
@[simp] theorem State.updAin_svcs : (s.updAin i f).svcs = s.svcs := rfl
@[simp] theorem State.updAin_partnerRel : (s.updAin i f).partnerRel = s.partnerRel := rfl
@[simp] theorem State.updAin_stitches : (s.updAin i f).stitches = s.stitches := rfl
@[simp] theorem State.updAin_skeins : (s.updAin i f).skeins = s.skeins := rfl
@[simp] theorem State.updAin_engines : (s.updAin i f).engines = s.engines := rfl
@[simp] theorem State.updAin_rects : (s.updAin i f).rects = s.rects := rfl
@[simp] theorem State.updAin_strs : (s.updAin i f).strs = s.strs := rfl
@[simp] theorem State.updAin_slotx : (s.updAin i f).slotx = s.slotx := rfl
@[simp] theorem State.updAin_budgets : (s.updAin i f).budgets = s.budgets := rfl
@[simp] theorem State.updAin_rails : (s.updAin i f).rails = s.rails := rfl
@[simp] theorem State.updAin_railRuns : (s.updAin i f).railRuns = s.railRuns := rfl
@[simp] theorem State.updAin_seqs : (s.updAin i f).seqs = s.seqs := rfl
@[simp] theorem State.updAin_adcs : (s.updAin i f).adcs = s.adcs := rfl
@[simp] theorem State.updAin_phases : (s.updAin i f).phases = s.phases := rfl
@[simp] theorem State.updAin_sensors : (s.updAin i f).sensors = s.sensors := rfl
@[simp] theorem State.updAin_tws : (s.updAin i f).tws = s.tws := rfl
@[simp] theorem State.updAin_shelf : (s.updAin i f).shelf = s.shelf := rfl
@[simp] theorem State.updAin_pair : (s.updAin i f).pair = s.pair := rfl
@[simp] theorem State.updAin_faults : (s.updAin i f).faults = s.faults := rfl
@[simp] theorem State.updAin_nv : (s.updAin i f).nv = s.nv := rfl
@[simp] theorem State.updAin_trust : (s.updAin i f).trust = s.trust := rfl
@[simp] theorem State.updAin_rst : (s.updAin i f).rst = s.rst := rfl
@[simp] theorem State.updAin_thm : (s.updAin i f).thm = s.thm := rfl
@[simp] theorem State.updAin_pattern : (s.updAin i f).pattern = s.pattern := rfl
@[simp] theorem State.updAin_fresh : (s.updAin i f).fresh = s.fresh := rfl
end

section
variable (s : State) (i : Nat) (f : Phase3 → Phase3)
@[simp] theorem State.updPh_pending : (s.updPh i f).pending = s.pending := rfl
@[simp] theorem State.updPh_ct : (s.updPh i f).ct = s.ct := rfl
@[simp] theorem State.updPh_regs : (s.updPh i f).regs = s.regs := rfl
@[simp] theorem State.updPh_latchHi : (s.updPh i f).latchHi = s.latchHi := rfl
@[simp] theorem State.updPh_heldLo : (s.updPh i f).heldLo = s.heldLo := rfl
@[simp] theorem State.updPh_hwTouched : (s.updPh i f).hwTouched = s.hwTouched := rfl
@[simp] theorem State.updPh_swTouched : (s.updPh i f).swTouched = s.swTouched := rfl
@[simp] theorem State.updPh_collided : (s.updPh i f).collided = s.collided := rfl
@[simp] theorem State.updPh_cmpOld : (s.updPh i f).cmpOld = s.cmpOld := rfl
@[simp] theorem State.updPh_cmpDone : (s.updPh i f).cmpDone = s.cmpDone := rfl
@[simp] theorem State.updPh_out : (s.updPh i f).out = s.out := rfl
@[simp] theorem State.updPh_hdrs : (s.updPh i f).hdrs = s.hdrs := rfl
@[simp] theorem State.updPh_mem : (s.updPh i f).mem = s.mem := rfl
@[simp] theorem State.updPh_flash0 : (s.updPh i f).flash0 = s.flash0 := rfl
@[simp] theorem State.updPh_flash1 : (s.updPh i f).flash1 = s.flash1 := rfl
@[simp] theorem State.updPh_hubStage : (s.updPh i f).hubStage = s.hubStage := rfl
@[simp] theorem State.updPh_slots : (s.updPh i f).slots = s.slots := rfl
@[simp] theorem State.updPh_mbxs : (s.updPh i f).mbxs = s.mbxs := rfl
@[simp] theorem State.updPh_ctrlTurn : (s.updPh i f).ctrlTurn = s.ctrlTurn := rfl
@[simp] theorem State.updPh_bulkTurn : (s.updPh i f).bulkTurn = s.bulkTurn := rfl
@[simp] theorem State.updPh_entering : (s.updPh i f).entering = s.entering := rfl
@[simp] theorem State.updPh_vfOff : (s.updPh i f).vfOff = s.vfOff := rfl
@[simp] theorem State.updPh_viMap : (s.updPh i f).viMap = s.viMap := rfl
@[simp] theorem State.updPh_viMapNext : (s.updPh i f).viMapNext = s.viMapNext := rfl
@[simp] theorem State.updPh_mers : (s.updPh i f).mers = s.mers := rfl
@[simp] theorem State.updPh_fans : (s.updPh i f).fans = s.fans := rfl
@[simp] theorem State.updPh_gpio : (s.updPh i f).gpio = s.gpio := rfl
@[simp] theorem State.updPh_gpioDriven : (s.updPh i f).gpioDriven = s.gpioDriven := rfl
@[simp] theorem State.updPh_debugHalt : (s.updPh i f).debugHalt = s.debugHalt := rfl
@[simp] theorem State.updPh_debugLock : (s.updPh i f).debugLock = s.debugLock := rfl
@[simp] theorem State.updPh_eph : (s.updPh i f).eph = s.eph := rfl
@[simp] theorem State.updPh_ephLast : (s.updPh i f).ephLast = s.ephLast := rfl
@[simp] theorem State.updPh_ephCount : (s.updPh i f).ephCount = s.ephCount := rfl
@[simp] theorem State.updPh_posts : (s.updPh i f).posts = s.posts := rfl
@[simp] theorem State.updPh_ports : (s.updPh i f).ports = s.ports := rfl
@[simp] theorem State.updPh_svcs : (s.updPh i f).svcs = s.svcs := rfl
@[simp] theorem State.updPh_partnerRel : (s.updPh i f).partnerRel = s.partnerRel := rfl
@[simp] theorem State.updPh_stitches : (s.updPh i f).stitches = s.stitches := rfl
@[simp] theorem State.updPh_skeins : (s.updPh i f).skeins = s.skeins := rfl
@[simp] theorem State.updPh_engines : (s.updPh i f).engines = s.engines := rfl
@[simp] theorem State.updPh_rects : (s.updPh i f).rects = s.rects := rfl
@[simp] theorem State.updPh_strs : (s.updPh i f).strs = s.strs := rfl
@[simp] theorem State.updPh_slotx : (s.updPh i f).slotx = s.slotx := rfl
@[simp] theorem State.updPh_budgets : (s.updPh i f).budgets = s.budgets := rfl
@[simp] theorem State.updPh_rails : (s.updPh i f).rails = s.rails := rfl
@[simp] theorem State.updPh_railRuns : (s.updPh i f).railRuns = s.railRuns := rfl
@[simp] theorem State.updPh_seqs : (s.updPh i f).seqs = s.seqs := rfl
@[simp] theorem State.updPh_adcs : (s.updPh i f).adcs = s.adcs := rfl
@[simp] theorem State.updPh_ains : (s.updPh i f).ains = s.ains := rfl
@[simp] theorem State.updPh_sensors : (s.updPh i f).sensors = s.sensors := rfl
@[simp] theorem State.updPh_tws : (s.updPh i f).tws = s.tws := rfl
@[simp] theorem State.updPh_shelf : (s.updPh i f).shelf = s.shelf := rfl
@[simp] theorem State.updPh_pair : (s.updPh i f).pair = s.pair := rfl
@[simp] theorem State.updPh_faults : (s.updPh i f).faults = s.faults := rfl
@[simp] theorem State.updPh_nv : (s.updPh i f).nv = s.nv := rfl
@[simp] theorem State.updPh_trust : (s.updPh i f).trust = s.trust := rfl
@[simp] theorem State.updPh_rst : (s.updPh i f).rst = s.rst := rfl
@[simp] theorem State.updPh_thm : (s.updPh i f).thm = s.thm := rfl
@[simp] theorem State.updPh_pattern : (s.updPh i f).pattern = s.pattern := rfl
@[simp] theorem State.updPh_fresh : (s.updPh i f).fresh = s.fresh := rfl
end

section
variable (s : State) (i : Nat) (f : Sensor → Sensor)
@[simp] theorem State.updSens_pending : (s.updSens i f).pending = s.pending := rfl
@[simp] theorem State.updSens_ct : (s.updSens i f).ct = s.ct := rfl
@[simp] theorem State.updSens_regs : (s.updSens i f).regs = s.regs := rfl
@[simp] theorem State.updSens_latchHi : (s.updSens i f).latchHi = s.latchHi := rfl
@[simp] theorem State.updSens_heldLo : (s.updSens i f).heldLo = s.heldLo := rfl
@[simp] theorem State.updSens_hwTouched : (s.updSens i f).hwTouched = s.hwTouched := rfl
@[simp] theorem State.updSens_swTouched : (s.updSens i f).swTouched = s.swTouched := rfl
@[simp] theorem State.updSens_collided : (s.updSens i f).collided = s.collided := rfl
@[simp] theorem State.updSens_cmpOld : (s.updSens i f).cmpOld = s.cmpOld := rfl
@[simp] theorem State.updSens_cmpDone : (s.updSens i f).cmpDone = s.cmpDone := rfl
@[simp] theorem State.updSens_out : (s.updSens i f).out = s.out := rfl
@[simp] theorem State.updSens_hdrs : (s.updSens i f).hdrs = s.hdrs := rfl
@[simp] theorem State.updSens_mem : (s.updSens i f).mem = s.mem := rfl
@[simp] theorem State.updSens_flash0 : (s.updSens i f).flash0 = s.flash0 := rfl
@[simp] theorem State.updSens_flash1 : (s.updSens i f).flash1 = s.flash1 := rfl
@[simp] theorem State.updSens_hubStage : (s.updSens i f).hubStage = s.hubStage := rfl
@[simp] theorem State.updSens_slots : (s.updSens i f).slots = s.slots := rfl
@[simp] theorem State.updSens_mbxs : (s.updSens i f).mbxs = s.mbxs := rfl
@[simp] theorem State.updSens_ctrlTurn : (s.updSens i f).ctrlTurn = s.ctrlTurn := rfl
@[simp] theorem State.updSens_bulkTurn : (s.updSens i f).bulkTurn = s.bulkTurn := rfl
@[simp] theorem State.updSens_entering : (s.updSens i f).entering = s.entering := rfl
@[simp] theorem State.updSens_vfOff : (s.updSens i f).vfOff = s.vfOff := rfl
@[simp] theorem State.updSens_viMap : (s.updSens i f).viMap = s.viMap := rfl
@[simp] theorem State.updSens_viMapNext : (s.updSens i f).viMapNext = s.viMapNext := rfl
@[simp] theorem State.updSens_mers : (s.updSens i f).mers = s.mers := rfl
@[simp] theorem State.updSens_fans : (s.updSens i f).fans = s.fans := rfl
@[simp] theorem State.updSens_gpio : (s.updSens i f).gpio = s.gpio := rfl
@[simp] theorem State.updSens_gpioDriven : (s.updSens i f).gpioDriven = s.gpioDriven := rfl
@[simp] theorem State.updSens_debugHalt : (s.updSens i f).debugHalt = s.debugHalt := rfl
@[simp] theorem State.updSens_debugLock : (s.updSens i f).debugLock = s.debugLock := rfl
@[simp] theorem State.updSens_eph : (s.updSens i f).eph = s.eph := rfl
@[simp] theorem State.updSens_ephLast : (s.updSens i f).ephLast = s.ephLast := rfl
@[simp] theorem State.updSens_ephCount : (s.updSens i f).ephCount = s.ephCount := rfl
@[simp] theorem State.updSens_posts : (s.updSens i f).posts = s.posts := rfl
@[simp] theorem State.updSens_ports : (s.updSens i f).ports = s.ports := rfl
@[simp] theorem State.updSens_svcs : (s.updSens i f).svcs = s.svcs := rfl
@[simp] theorem State.updSens_partnerRel : (s.updSens i f).partnerRel = s.partnerRel := rfl
@[simp] theorem State.updSens_stitches : (s.updSens i f).stitches = s.stitches := rfl
@[simp] theorem State.updSens_skeins : (s.updSens i f).skeins = s.skeins := rfl
@[simp] theorem State.updSens_engines : (s.updSens i f).engines = s.engines := rfl
@[simp] theorem State.updSens_rects : (s.updSens i f).rects = s.rects := rfl
@[simp] theorem State.updSens_strs : (s.updSens i f).strs = s.strs := rfl
@[simp] theorem State.updSens_slotx : (s.updSens i f).slotx = s.slotx := rfl
@[simp] theorem State.updSens_budgets : (s.updSens i f).budgets = s.budgets := rfl
@[simp] theorem State.updSens_rails : (s.updSens i f).rails = s.rails := rfl
@[simp] theorem State.updSens_railRuns : (s.updSens i f).railRuns = s.railRuns := rfl
@[simp] theorem State.updSens_seqs : (s.updSens i f).seqs = s.seqs := rfl
@[simp] theorem State.updSens_adcs : (s.updSens i f).adcs = s.adcs := rfl
@[simp] theorem State.updSens_ains : (s.updSens i f).ains = s.ains := rfl
@[simp] theorem State.updSens_phases : (s.updSens i f).phases = s.phases := rfl
@[simp] theorem State.updSens_tws : (s.updSens i f).tws = s.tws := rfl
@[simp] theorem State.updSens_shelf : (s.updSens i f).shelf = s.shelf := rfl
@[simp] theorem State.updSens_pair : (s.updSens i f).pair = s.pair := rfl
@[simp] theorem State.updSens_faults : (s.updSens i f).faults = s.faults := rfl
@[simp] theorem State.updSens_nv : (s.updSens i f).nv = s.nv := rfl
@[simp] theorem State.updSens_trust : (s.updSens i f).trust = s.trust := rfl
@[simp] theorem State.updSens_rst : (s.updSens i f).rst = s.rst := rfl
@[simp] theorem State.updSens_thm : (s.updSens i f).thm = s.thm := rfl
@[simp] theorem State.updSens_pattern : (s.updSens i f).pattern = s.pattern := rfl
@[simp] theorem State.updSens_fresh : (s.updSens i f).fresh = s.fresh := rfl
end

section
variable (s : State) (i : Nat) (f : Tw → Tw)
@[simp] theorem State.updTw_pending : (s.updTw i f).pending = s.pending := rfl
@[simp] theorem State.updTw_ct : (s.updTw i f).ct = s.ct := rfl
@[simp] theorem State.updTw_regs : (s.updTw i f).regs = s.regs := rfl
@[simp] theorem State.updTw_latchHi : (s.updTw i f).latchHi = s.latchHi := rfl
@[simp] theorem State.updTw_heldLo : (s.updTw i f).heldLo = s.heldLo := rfl
@[simp] theorem State.updTw_hwTouched : (s.updTw i f).hwTouched = s.hwTouched := rfl
@[simp] theorem State.updTw_swTouched : (s.updTw i f).swTouched = s.swTouched := rfl
@[simp] theorem State.updTw_collided : (s.updTw i f).collided = s.collided := rfl
@[simp] theorem State.updTw_cmpOld : (s.updTw i f).cmpOld = s.cmpOld := rfl
@[simp] theorem State.updTw_cmpDone : (s.updTw i f).cmpDone = s.cmpDone := rfl
@[simp] theorem State.updTw_out : (s.updTw i f).out = s.out := rfl
@[simp] theorem State.updTw_hdrs : (s.updTw i f).hdrs = s.hdrs := rfl
@[simp] theorem State.updTw_mem : (s.updTw i f).mem = s.mem := rfl
@[simp] theorem State.updTw_flash0 : (s.updTw i f).flash0 = s.flash0 := rfl
@[simp] theorem State.updTw_flash1 : (s.updTw i f).flash1 = s.flash1 := rfl
@[simp] theorem State.updTw_hubStage : (s.updTw i f).hubStage = s.hubStage := rfl
@[simp] theorem State.updTw_slots : (s.updTw i f).slots = s.slots := rfl
@[simp] theorem State.updTw_mbxs : (s.updTw i f).mbxs = s.mbxs := rfl
@[simp] theorem State.updTw_ctrlTurn : (s.updTw i f).ctrlTurn = s.ctrlTurn := rfl
@[simp] theorem State.updTw_bulkTurn : (s.updTw i f).bulkTurn = s.bulkTurn := rfl
@[simp] theorem State.updTw_entering : (s.updTw i f).entering = s.entering := rfl
@[simp] theorem State.updTw_vfOff : (s.updTw i f).vfOff = s.vfOff := rfl
@[simp] theorem State.updTw_viMap : (s.updTw i f).viMap = s.viMap := rfl
@[simp] theorem State.updTw_viMapNext : (s.updTw i f).viMapNext = s.viMapNext := rfl
@[simp] theorem State.updTw_mers : (s.updTw i f).mers = s.mers := rfl
@[simp] theorem State.updTw_fans : (s.updTw i f).fans = s.fans := rfl
@[simp] theorem State.updTw_gpio : (s.updTw i f).gpio = s.gpio := rfl
@[simp] theorem State.updTw_gpioDriven : (s.updTw i f).gpioDriven = s.gpioDriven := rfl
@[simp] theorem State.updTw_debugHalt : (s.updTw i f).debugHalt = s.debugHalt := rfl
@[simp] theorem State.updTw_debugLock : (s.updTw i f).debugLock = s.debugLock := rfl
@[simp] theorem State.updTw_eph : (s.updTw i f).eph = s.eph := rfl
@[simp] theorem State.updTw_ephLast : (s.updTw i f).ephLast = s.ephLast := rfl
@[simp] theorem State.updTw_ephCount : (s.updTw i f).ephCount = s.ephCount := rfl
@[simp] theorem State.updTw_posts : (s.updTw i f).posts = s.posts := rfl
@[simp] theorem State.updTw_ports : (s.updTw i f).ports = s.ports := rfl
@[simp] theorem State.updTw_svcs : (s.updTw i f).svcs = s.svcs := rfl
@[simp] theorem State.updTw_partnerRel : (s.updTw i f).partnerRel = s.partnerRel := rfl
@[simp] theorem State.updTw_stitches : (s.updTw i f).stitches = s.stitches := rfl
@[simp] theorem State.updTw_skeins : (s.updTw i f).skeins = s.skeins := rfl
@[simp] theorem State.updTw_engines : (s.updTw i f).engines = s.engines := rfl
@[simp] theorem State.updTw_rects : (s.updTw i f).rects = s.rects := rfl
@[simp] theorem State.updTw_strs : (s.updTw i f).strs = s.strs := rfl
@[simp] theorem State.updTw_slotx : (s.updTw i f).slotx = s.slotx := rfl
@[simp] theorem State.updTw_budgets : (s.updTw i f).budgets = s.budgets := rfl
@[simp] theorem State.updTw_rails : (s.updTw i f).rails = s.rails := rfl
@[simp] theorem State.updTw_railRuns : (s.updTw i f).railRuns = s.railRuns := rfl
@[simp] theorem State.updTw_seqs : (s.updTw i f).seqs = s.seqs := rfl
@[simp] theorem State.updTw_adcs : (s.updTw i f).adcs = s.adcs := rfl
@[simp] theorem State.updTw_ains : (s.updTw i f).ains = s.ains := rfl
@[simp] theorem State.updTw_phases : (s.updTw i f).phases = s.phases := rfl
@[simp] theorem State.updTw_sensors : (s.updTw i f).sensors = s.sensors := rfl
@[simp] theorem State.updTw_shelf : (s.updTw i f).shelf = s.shelf := rfl
@[simp] theorem State.updTw_pair : (s.updTw i f).pair = s.pair := rfl
@[simp] theorem State.updTw_faults : (s.updTw i f).faults = s.faults := rfl
@[simp] theorem State.updTw_nv : (s.updTw i f).nv = s.nv := rfl
@[simp] theorem State.updTw_trust : (s.updTw i f).trust = s.trust := rfl
@[simp] theorem State.updTw_rst : (s.updTw i f).rst = s.rst := rfl
@[simp] theorem State.updTw_thm : (s.updTw i f).thm = s.thm := rfl
@[simp] theorem State.updTw_pattern : (s.updTw i f).pattern = s.pattern := rfl
@[simp] theorem State.updTw_fresh : (s.updTw i f).fresh = s.fresh := rfl
end

section
variable (s : State) (f : Shelf → Shelf)
@[simp] theorem State.updShelf_pending : (s.updShelf f).pending = s.pending := rfl
@[simp] theorem State.updShelf_ct : (s.updShelf f).ct = s.ct := rfl
@[simp] theorem State.updShelf_regs : (s.updShelf f).regs = s.regs := rfl
@[simp] theorem State.updShelf_latchHi : (s.updShelf f).latchHi = s.latchHi := rfl
@[simp] theorem State.updShelf_heldLo : (s.updShelf f).heldLo = s.heldLo := rfl
@[simp] theorem State.updShelf_hwTouched : (s.updShelf f).hwTouched = s.hwTouched := rfl
@[simp] theorem State.updShelf_swTouched : (s.updShelf f).swTouched = s.swTouched := rfl
@[simp] theorem State.updShelf_collided : (s.updShelf f).collided = s.collided := rfl
@[simp] theorem State.updShelf_cmpOld : (s.updShelf f).cmpOld = s.cmpOld := rfl
@[simp] theorem State.updShelf_cmpDone : (s.updShelf f).cmpDone = s.cmpDone := rfl
@[simp] theorem State.updShelf_out : (s.updShelf f).out = s.out := rfl
@[simp] theorem State.updShelf_hdrs : (s.updShelf f).hdrs = s.hdrs := rfl
@[simp] theorem State.updShelf_mem : (s.updShelf f).mem = s.mem := rfl
@[simp] theorem State.updShelf_flash0 : (s.updShelf f).flash0 = s.flash0 := rfl
@[simp] theorem State.updShelf_flash1 : (s.updShelf f).flash1 = s.flash1 := rfl
@[simp] theorem State.updShelf_hubStage : (s.updShelf f).hubStage = s.hubStage := rfl
@[simp] theorem State.updShelf_slots : (s.updShelf f).slots = s.slots := rfl
@[simp] theorem State.updShelf_mbxs : (s.updShelf f).mbxs = s.mbxs := rfl
@[simp] theorem State.updShelf_ctrlTurn : (s.updShelf f).ctrlTurn = s.ctrlTurn := rfl
@[simp] theorem State.updShelf_bulkTurn : (s.updShelf f).bulkTurn = s.bulkTurn := rfl
@[simp] theorem State.updShelf_entering : (s.updShelf f).entering = s.entering := rfl
@[simp] theorem State.updShelf_vfOff : (s.updShelf f).vfOff = s.vfOff := rfl
@[simp] theorem State.updShelf_viMap : (s.updShelf f).viMap = s.viMap := rfl
@[simp] theorem State.updShelf_viMapNext : (s.updShelf f).viMapNext = s.viMapNext := rfl
@[simp] theorem State.updShelf_mers : (s.updShelf f).mers = s.mers := rfl
@[simp] theorem State.updShelf_fans : (s.updShelf f).fans = s.fans := rfl
@[simp] theorem State.updShelf_gpio : (s.updShelf f).gpio = s.gpio := rfl
@[simp] theorem State.updShelf_gpioDriven : (s.updShelf f).gpioDriven = s.gpioDriven := rfl
@[simp] theorem State.updShelf_debugHalt : (s.updShelf f).debugHalt = s.debugHalt := rfl
@[simp] theorem State.updShelf_debugLock : (s.updShelf f).debugLock = s.debugLock := rfl
@[simp] theorem State.updShelf_eph : (s.updShelf f).eph = s.eph := rfl
@[simp] theorem State.updShelf_ephLast : (s.updShelf f).ephLast = s.ephLast := rfl
@[simp] theorem State.updShelf_ephCount : (s.updShelf f).ephCount = s.ephCount := rfl
@[simp] theorem State.updShelf_posts : (s.updShelf f).posts = s.posts := rfl
@[simp] theorem State.updShelf_ports : (s.updShelf f).ports = s.ports := rfl
@[simp] theorem State.updShelf_svcs : (s.updShelf f).svcs = s.svcs := rfl
@[simp] theorem State.updShelf_partnerRel : (s.updShelf f).partnerRel = s.partnerRel := rfl
@[simp] theorem State.updShelf_stitches : (s.updShelf f).stitches = s.stitches := rfl
@[simp] theorem State.updShelf_skeins : (s.updShelf f).skeins = s.skeins := rfl
@[simp] theorem State.updShelf_engines : (s.updShelf f).engines = s.engines := rfl
@[simp] theorem State.updShelf_rects : (s.updShelf f).rects = s.rects := rfl
@[simp] theorem State.updShelf_strs : (s.updShelf f).strs = s.strs := rfl
@[simp] theorem State.updShelf_slotx : (s.updShelf f).slotx = s.slotx := rfl
@[simp] theorem State.updShelf_budgets : (s.updShelf f).budgets = s.budgets := rfl
@[simp] theorem State.updShelf_rails : (s.updShelf f).rails = s.rails := rfl
@[simp] theorem State.updShelf_railRuns : (s.updShelf f).railRuns = s.railRuns := rfl
@[simp] theorem State.updShelf_seqs : (s.updShelf f).seqs = s.seqs := rfl
@[simp] theorem State.updShelf_adcs : (s.updShelf f).adcs = s.adcs := rfl
@[simp] theorem State.updShelf_ains : (s.updShelf f).ains = s.ains := rfl
@[simp] theorem State.updShelf_phases : (s.updShelf f).phases = s.phases := rfl
@[simp] theorem State.updShelf_sensors : (s.updShelf f).sensors = s.sensors := rfl
@[simp] theorem State.updShelf_tws : (s.updShelf f).tws = s.tws := rfl
@[simp] theorem State.updShelf_pair : (s.updShelf f).pair = s.pair := rfl
@[simp] theorem State.updShelf_faults : (s.updShelf f).faults = s.faults := rfl
@[simp] theorem State.updShelf_nv : (s.updShelf f).nv = s.nv := rfl
@[simp] theorem State.updShelf_trust : (s.updShelf f).trust = s.trust := rfl
@[simp] theorem State.updShelf_rst : (s.updShelf f).rst = s.rst := rfl
@[simp] theorem State.updShelf_thm : (s.updShelf f).thm = s.thm := rfl
@[simp] theorem State.updShelf_pattern : (s.updShelf f).pattern = s.pattern := rfl
@[simp] theorem State.updShelf_fresh : (s.updShelf f).fresh = s.fresh := rfl
end

section
variable (s : State) (f : Pair → Pair)
@[simp] theorem State.updPair_pending : (s.updPair f).pending = s.pending := rfl
@[simp] theorem State.updPair_ct : (s.updPair f).ct = s.ct := rfl
@[simp] theorem State.updPair_regs : (s.updPair f).regs = s.regs := rfl
@[simp] theorem State.updPair_latchHi : (s.updPair f).latchHi = s.latchHi := rfl
@[simp] theorem State.updPair_heldLo : (s.updPair f).heldLo = s.heldLo := rfl
@[simp] theorem State.updPair_hwTouched : (s.updPair f).hwTouched = s.hwTouched := rfl
@[simp] theorem State.updPair_swTouched : (s.updPair f).swTouched = s.swTouched := rfl
@[simp] theorem State.updPair_collided : (s.updPair f).collided = s.collided := rfl
@[simp] theorem State.updPair_cmpOld : (s.updPair f).cmpOld = s.cmpOld := rfl
@[simp] theorem State.updPair_cmpDone : (s.updPair f).cmpDone = s.cmpDone := rfl
@[simp] theorem State.updPair_out : (s.updPair f).out = s.out := rfl
@[simp] theorem State.updPair_hdrs : (s.updPair f).hdrs = s.hdrs := rfl
@[simp] theorem State.updPair_mem : (s.updPair f).mem = s.mem := rfl
@[simp] theorem State.updPair_flash0 : (s.updPair f).flash0 = s.flash0 := rfl
@[simp] theorem State.updPair_flash1 : (s.updPair f).flash1 = s.flash1 := rfl
@[simp] theorem State.updPair_hubStage : (s.updPair f).hubStage = s.hubStage := rfl
@[simp] theorem State.updPair_slots : (s.updPair f).slots = s.slots := rfl
@[simp] theorem State.updPair_mbxs : (s.updPair f).mbxs = s.mbxs := rfl
@[simp] theorem State.updPair_ctrlTurn : (s.updPair f).ctrlTurn = s.ctrlTurn := rfl
@[simp] theorem State.updPair_bulkTurn : (s.updPair f).bulkTurn = s.bulkTurn := rfl
@[simp] theorem State.updPair_entering : (s.updPair f).entering = s.entering := rfl
@[simp] theorem State.updPair_vfOff : (s.updPair f).vfOff = s.vfOff := rfl
@[simp] theorem State.updPair_viMap : (s.updPair f).viMap = s.viMap := rfl
@[simp] theorem State.updPair_viMapNext : (s.updPair f).viMapNext = s.viMapNext := rfl
@[simp] theorem State.updPair_mers : (s.updPair f).mers = s.mers := rfl
@[simp] theorem State.updPair_fans : (s.updPair f).fans = s.fans := rfl
@[simp] theorem State.updPair_gpio : (s.updPair f).gpio = s.gpio := rfl
@[simp] theorem State.updPair_gpioDriven : (s.updPair f).gpioDriven = s.gpioDriven := rfl
@[simp] theorem State.updPair_debugHalt : (s.updPair f).debugHalt = s.debugHalt := rfl
@[simp] theorem State.updPair_debugLock : (s.updPair f).debugLock = s.debugLock := rfl
@[simp] theorem State.updPair_eph : (s.updPair f).eph = s.eph := rfl
@[simp] theorem State.updPair_ephLast : (s.updPair f).ephLast = s.ephLast := rfl
@[simp] theorem State.updPair_ephCount : (s.updPair f).ephCount = s.ephCount := rfl
@[simp] theorem State.updPair_posts : (s.updPair f).posts = s.posts := rfl
@[simp] theorem State.updPair_ports : (s.updPair f).ports = s.ports := rfl
@[simp] theorem State.updPair_svcs : (s.updPair f).svcs = s.svcs := rfl
@[simp] theorem State.updPair_partnerRel : (s.updPair f).partnerRel = s.partnerRel := rfl
@[simp] theorem State.updPair_stitches : (s.updPair f).stitches = s.stitches := rfl
@[simp] theorem State.updPair_skeins : (s.updPair f).skeins = s.skeins := rfl
@[simp] theorem State.updPair_engines : (s.updPair f).engines = s.engines := rfl
@[simp] theorem State.updPair_rects : (s.updPair f).rects = s.rects := rfl
@[simp] theorem State.updPair_strs : (s.updPair f).strs = s.strs := rfl
@[simp] theorem State.updPair_slotx : (s.updPair f).slotx = s.slotx := rfl
@[simp] theorem State.updPair_budgets : (s.updPair f).budgets = s.budgets := rfl
@[simp] theorem State.updPair_rails : (s.updPair f).rails = s.rails := rfl
@[simp] theorem State.updPair_railRuns : (s.updPair f).railRuns = s.railRuns := rfl
@[simp] theorem State.updPair_seqs : (s.updPair f).seqs = s.seqs := rfl
@[simp] theorem State.updPair_adcs : (s.updPair f).adcs = s.adcs := rfl
@[simp] theorem State.updPair_ains : (s.updPair f).ains = s.ains := rfl
@[simp] theorem State.updPair_phases : (s.updPair f).phases = s.phases := rfl
@[simp] theorem State.updPair_sensors : (s.updPair f).sensors = s.sensors := rfl
@[simp] theorem State.updPair_tws : (s.updPair f).tws = s.tws := rfl
@[simp] theorem State.updPair_shelf : (s.updPair f).shelf = s.shelf := rfl
@[simp] theorem State.updPair_faults : (s.updPair f).faults = s.faults := rfl
@[simp] theorem State.updPair_nv : (s.updPair f).nv = s.nv := rfl
@[simp] theorem State.updPair_trust : (s.updPair f).trust = s.trust := rfl
@[simp] theorem State.updPair_rst : (s.updPair f).rst = s.rst := rfl
@[simp] theorem State.updPair_thm : (s.updPair f).thm = s.thm := rfl
@[simp] theorem State.updPair_pattern : (s.updPair f).pattern = s.pattern := rfl
@[simp] theorem State.updPair_fresh : (s.updPair f).fresh = s.fresh := rfl
end

section
variable (s : State) (f : Faults → Faults)
@[simp] theorem State.updFaults_pending : (s.updFaults f).pending = s.pending := rfl
@[simp] theorem State.updFaults_ct : (s.updFaults f).ct = s.ct := rfl
@[simp] theorem State.updFaults_regs : (s.updFaults f).regs = s.regs := rfl
@[simp] theorem State.updFaults_latchHi : (s.updFaults f).latchHi = s.latchHi := rfl
@[simp] theorem State.updFaults_heldLo : (s.updFaults f).heldLo = s.heldLo := rfl
@[simp] theorem State.updFaults_hwTouched : (s.updFaults f).hwTouched = s.hwTouched := rfl
@[simp] theorem State.updFaults_swTouched : (s.updFaults f).swTouched = s.swTouched := rfl
@[simp] theorem State.updFaults_collided : (s.updFaults f).collided = s.collided := rfl
@[simp] theorem State.updFaults_cmpOld : (s.updFaults f).cmpOld = s.cmpOld := rfl
@[simp] theorem State.updFaults_cmpDone : (s.updFaults f).cmpDone = s.cmpDone := rfl
@[simp] theorem State.updFaults_out : (s.updFaults f).out = s.out := rfl
@[simp] theorem State.updFaults_hdrs : (s.updFaults f).hdrs = s.hdrs := rfl
@[simp] theorem State.updFaults_mem : (s.updFaults f).mem = s.mem := rfl
@[simp] theorem State.updFaults_flash0 : (s.updFaults f).flash0 = s.flash0 := rfl
@[simp] theorem State.updFaults_flash1 : (s.updFaults f).flash1 = s.flash1 := rfl
@[simp] theorem State.updFaults_hubStage : (s.updFaults f).hubStage = s.hubStage := rfl
@[simp] theorem State.updFaults_slots : (s.updFaults f).slots = s.slots := rfl
@[simp] theorem State.updFaults_mbxs : (s.updFaults f).mbxs = s.mbxs := rfl
@[simp] theorem State.updFaults_ctrlTurn : (s.updFaults f).ctrlTurn = s.ctrlTurn := rfl
@[simp] theorem State.updFaults_bulkTurn : (s.updFaults f).bulkTurn = s.bulkTurn := rfl
@[simp] theorem State.updFaults_entering : (s.updFaults f).entering = s.entering := rfl
@[simp] theorem State.updFaults_vfOff : (s.updFaults f).vfOff = s.vfOff := rfl
@[simp] theorem State.updFaults_viMap : (s.updFaults f).viMap = s.viMap := rfl
@[simp] theorem State.updFaults_viMapNext : (s.updFaults f).viMapNext = s.viMapNext := rfl
@[simp] theorem State.updFaults_mers : (s.updFaults f).mers = s.mers := rfl
@[simp] theorem State.updFaults_fans : (s.updFaults f).fans = s.fans := rfl
@[simp] theorem State.updFaults_gpio : (s.updFaults f).gpio = s.gpio := rfl
@[simp] theorem State.updFaults_gpioDriven : (s.updFaults f).gpioDriven = s.gpioDriven := rfl
@[simp] theorem State.updFaults_debugHalt : (s.updFaults f).debugHalt = s.debugHalt := rfl
@[simp] theorem State.updFaults_debugLock : (s.updFaults f).debugLock = s.debugLock := rfl
@[simp] theorem State.updFaults_eph : (s.updFaults f).eph = s.eph := rfl
@[simp] theorem State.updFaults_ephLast : (s.updFaults f).ephLast = s.ephLast := rfl
@[simp] theorem State.updFaults_ephCount : (s.updFaults f).ephCount = s.ephCount := rfl
@[simp] theorem State.updFaults_posts : (s.updFaults f).posts = s.posts := rfl
@[simp] theorem State.updFaults_ports : (s.updFaults f).ports = s.ports := rfl
@[simp] theorem State.updFaults_svcs : (s.updFaults f).svcs = s.svcs := rfl
@[simp] theorem State.updFaults_partnerRel : (s.updFaults f).partnerRel = s.partnerRel := rfl
@[simp] theorem State.updFaults_stitches : (s.updFaults f).stitches = s.stitches := rfl
@[simp] theorem State.updFaults_skeins : (s.updFaults f).skeins = s.skeins := rfl
@[simp] theorem State.updFaults_engines : (s.updFaults f).engines = s.engines := rfl
@[simp] theorem State.updFaults_rects : (s.updFaults f).rects = s.rects := rfl
@[simp] theorem State.updFaults_strs : (s.updFaults f).strs = s.strs := rfl
@[simp] theorem State.updFaults_slotx : (s.updFaults f).slotx = s.slotx := rfl
@[simp] theorem State.updFaults_budgets : (s.updFaults f).budgets = s.budgets := rfl
@[simp] theorem State.updFaults_rails : (s.updFaults f).rails = s.rails := rfl
@[simp] theorem State.updFaults_railRuns : (s.updFaults f).railRuns = s.railRuns := rfl
@[simp] theorem State.updFaults_seqs : (s.updFaults f).seqs = s.seqs := rfl
@[simp] theorem State.updFaults_adcs : (s.updFaults f).adcs = s.adcs := rfl
@[simp] theorem State.updFaults_ains : (s.updFaults f).ains = s.ains := rfl
@[simp] theorem State.updFaults_phases : (s.updFaults f).phases = s.phases := rfl
@[simp] theorem State.updFaults_sensors : (s.updFaults f).sensors = s.sensors := rfl
@[simp] theorem State.updFaults_tws : (s.updFaults f).tws = s.tws := rfl
@[simp] theorem State.updFaults_shelf : (s.updFaults f).shelf = s.shelf := rfl
@[simp] theorem State.updFaults_pair : (s.updFaults f).pair = s.pair := rfl
@[simp] theorem State.updFaults_nv : (s.updFaults f).nv = s.nv := rfl
@[simp] theorem State.updFaults_trust : (s.updFaults f).trust = s.trust := rfl
@[simp] theorem State.updFaults_rst : (s.updFaults f).rst = s.rst := rfl
@[simp] theorem State.updFaults_thm : (s.updFaults f).thm = s.thm := rfl
@[simp] theorem State.updFaults_pattern : (s.updFaults f).pattern = s.pattern := rfl
@[simp] theorem State.updFaults_fresh : (s.updFaults f).fresh = s.fresh := rfl
end

section
variable (s : State) (f : Nv → Nv)
@[simp] theorem State.updNv_pending : (s.updNv f).pending = s.pending := rfl
@[simp] theorem State.updNv_ct : (s.updNv f).ct = s.ct := rfl
@[simp] theorem State.updNv_regs : (s.updNv f).regs = s.regs := rfl
@[simp] theorem State.updNv_latchHi : (s.updNv f).latchHi = s.latchHi := rfl
@[simp] theorem State.updNv_heldLo : (s.updNv f).heldLo = s.heldLo := rfl
@[simp] theorem State.updNv_hwTouched : (s.updNv f).hwTouched = s.hwTouched := rfl
@[simp] theorem State.updNv_swTouched : (s.updNv f).swTouched = s.swTouched := rfl
@[simp] theorem State.updNv_collided : (s.updNv f).collided = s.collided := rfl
@[simp] theorem State.updNv_cmpOld : (s.updNv f).cmpOld = s.cmpOld := rfl
@[simp] theorem State.updNv_cmpDone : (s.updNv f).cmpDone = s.cmpDone := rfl
@[simp] theorem State.updNv_out : (s.updNv f).out = s.out := rfl
@[simp] theorem State.updNv_hdrs : (s.updNv f).hdrs = s.hdrs := rfl
@[simp] theorem State.updNv_mem : (s.updNv f).mem = s.mem := rfl
@[simp] theorem State.updNv_flash0 : (s.updNv f).flash0 = s.flash0 := rfl
@[simp] theorem State.updNv_flash1 : (s.updNv f).flash1 = s.flash1 := rfl
@[simp] theorem State.updNv_hubStage : (s.updNv f).hubStage = s.hubStage := rfl
@[simp] theorem State.updNv_slots : (s.updNv f).slots = s.slots := rfl
@[simp] theorem State.updNv_mbxs : (s.updNv f).mbxs = s.mbxs := rfl
@[simp] theorem State.updNv_ctrlTurn : (s.updNv f).ctrlTurn = s.ctrlTurn := rfl
@[simp] theorem State.updNv_bulkTurn : (s.updNv f).bulkTurn = s.bulkTurn := rfl
@[simp] theorem State.updNv_entering : (s.updNv f).entering = s.entering := rfl
@[simp] theorem State.updNv_vfOff : (s.updNv f).vfOff = s.vfOff := rfl
@[simp] theorem State.updNv_viMap : (s.updNv f).viMap = s.viMap := rfl
@[simp] theorem State.updNv_viMapNext : (s.updNv f).viMapNext = s.viMapNext := rfl
@[simp] theorem State.updNv_mers : (s.updNv f).mers = s.mers := rfl
@[simp] theorem State.updNv_fans : (s.updNv f).fans = s.fans := rfl
@[simp] theorem State.updNv_gpio : (s.updNv f).gpio = s.gpio := rfl
@[simp] theorem State.updNv_gpioDriven : (s.updNv f).gpioDriven = s.gpioDriven := rfl
@[simp] theorem State.updNv_debugHalt : (s.updNv f).debugHalt = s.debugHalt := rfl
@[simp] theorem State.updNv_debugLock : (s.updNv f).debugLock = s.debugLock := rfl
@[simp] theorem State.updNv_eph : (s.updNv f).eph = s.eph := rfl
@[simp] theorem State.updNv_ephLast : (s.updNv f).ephLast = s.ephLast := rfl
@[simp] theorem State.updNv_ephCount : (s.updNv f).ephCount = s.ephCount := rfl
@[simp] theorem State.updNv_posts : (s.updNv f).posts = s.posts := rfl
@[simp] theorem State.updNv_ports : (s.updNv f).ports = s.ports := rfl
@[simp] theorem State.updNv_svcs : (s.updNv f).svcs = s.svcs := rfl
@[simp] theorem State.updNv_partnerRel : (s.updNv f).partnerRel = s.partnerRel := rfl
@[simp] theorem State.updNv_stitches : (s.updNv f).stitches = s.stitches := rfl
@[simp] theorem State.updNv_skeins : (s.updNv f).skeins = s.skeins := rfl
@[simp] theorem State.updNv_engines : (s.updNv f).engines = s.engines := rfl
@[simp] theorem State.updNv_rects : (s.updNv f).rects = s.rects := rfl
@[simp] theorem State.updNv_strs : (s.updNv f).strs = s.strs := rfl
@[simp] theorem State.updNv_slotx : (s.updNv f).slotx = s.slotx := rfl
@[simp] theorem State.updNv_budgets : (s.updNv f).budgets = s.budgets := rfl
@[simp] theorem State.updNv_rails : (s.updNv f).rails = s.rails := rfl
@[simp] theorem State.updNv_railRuns : (s.updNv f).railRuns = s.railRuns := rfl
@[simp] theorem State.updNv_seqs : (s.updNv f).seqs = s.seqs := rfl
@[simp] theorem State.updNv_adcs : (s.updNv f).adcs = s.adcs := rfl
@[simp] theorem State.updNv_ains : (s.updNv f).ains = s.ains := rfl
@[simp] theorem State.updNv_phases : (s.updNv f).phases = s.phases := rfl
@[simp] theorem State.updNv_sensors : (s.updNv f).sensors = s.sensors := rfl
@[simp] theorem State.updNv_tws : (s.updNv f).tws = s.tws := rfl
@[simp] theorem State.updNv_shelf : (s.updNv f).shelf = s.shelf := rfl
@[simp] theorem State.updNv_pair : (s.updNv f).pair = s.pair := rfl
@[simp] theorem State.updNv_faults : (s.updNv f).faults = s.faults := rfl
@[simp] theorem State.updNv_trust : (s.updNv f).trust = s.trust := rfl
@[simp] theorem State.updNv_rst : (s.updNv f).rst = s.rst := rfl
@[simp] theorem State.updNv_thm : (s.updNv f).thm = s.thm := rfl
@[simp] theorem State.updNv_pattern : (s.updNv f).pattern = s.pattern := rfl
@[simp] theorem State.updNv_fresh : (s.updNv f).fresh = s.fresh := rfl
end

section
variable (s : State) (f : Trust → Trust)
@[simp] theorem State.updTrust_pending : (s.updTrust f).pending = s.pending := rfl
@[simp] theorem State.updTrust_ct : (s.updTrust f).ct = s.ct := rfl
@[simp] theorem State.updTrust_regs : (s.updTrust f).regs = s.regs := rfl
@[simp] theorem State.updTrust_latchHi : (s.updTrust f).latchHi = s.latchHi := rfl
@[simp] theorem State.updTrust_heldLo : (s.updTrust f).heldLo = s.heldLo := rfl
@[simp] theorem State.updTrust_hwTouched : (s.updTrust f).hwTouched = s.hwTouched := rfl
@[simp] theorem State.updTrust_swTouched : (s.updTrust f).swTouched = s.swTouched := rfl
@[simp] theorem State.updTrust_collided : (s.updTrust f).collided = s.collided := rfl
@[simp] theorem State.updTrust_cmpOld : (s.updTrust f).cmpOld = s.cmpOld := rfl
@[simp] theorem State.updTrust_cmpDone : (s.updTrust f).cmpDone = s.cmpDone := rfl
@[simp] theorem State.updTrust_out : (s.updTrust f).out = s.out := rfl
@[simp] theorem State.updTrust_hdrs : (s.updTrust f).hdrs = s.hdrs := rfl
@[simp] theorem State.updTrust_mem : (s.updTrust f).mem = s.mem := rfl
@[simp] theorem State.updTrust_flash0 : (s.updTrust f).flash0 = s.flash0 := rfl
@[simp] theorem State.updTrust_flash1 : (s.updTrust f).flash1 = s.flash1 := rfl
@[simp] theorem State.updTrust_hubStage : (s.updTrust f).hubStage = s.hubStage := rfl
@[simp] theorem State.updTrust_slots : (s.updTrust f).slots = s.slots := rfl
@[simp] theorem State.updTrust_mbxs : (s.updTrust f).mbxs = s.mbxs := rfl
@[simp] theorem State.updTrust_ctrlTurn : (s.updTrust f).ctrlTurn = s.ctrlTurn := rfl
@[simp] theorem State.updTrust_bulkTurn : (s.updTrust f).bulkTurn = s.bulkTurn := rfl
@[simp] theorem State.updTrust_entering : (s.updTrust f).entering = s.entering := rfl
@[simp] theorem State.updTrust_vfOff : (s.updTrust f).vfOff = s.vfOff := rfl
@[simp] theorem State.updTrust_viMap : (s.updTrust f).viMap = s.viMap := rfl
@[simp] theorem State.updTrust_viMapNext : (s.updTrust f).viMapNext = s.viMapNext := rfl
@[simp] theorem State.updTrust_mers : (s.updTrust f).mers = s.mers := rfl
@[simp] theorem State.updTrust_fans : (s.updTrust f).fans = s.fans := rfl
@[simp] theorem State.updTrust_gpio : (s.updTrust f).gpio = s.gpio := rfl
@[simp] theorem State.updTrust_gpioDriven : (s.updTrust f).gpioDriven = s.gpioDriven := rfl
@[simp] theorem State.updTrust_debugHalt : (s.updTrust f).debugHalt = s.debugHalt := rfl
@[simp] theorem State.updTrust_debugLock : (s.updTrust f).debugLock = s.debugLock := rfl
@[simp] theorem State.updTrust_eph : (s.updTrust f).eph = s.eph := rfl
@[simp] theorem State.updTrust_ephLast : (s.updTrust f).ephLast = s.ephLast := rfl
@[simp] theorem State.updTrust_ephCount : (s.updTrust f).ephCount = s.ephCount := rfl
@[simp] theorem State.updTrust_posts : (s.updTrust f).posts = s.posts := rfl
@[simp] theorem State.updTrust_ports : (s.updTrust f).ports = s.ports := rfl
@[simp] theorem State.updTrust_svcs : (s.updTrust f).svcs = s.svcs := rfl
@[simp] theorem State.updTrust_partnerRel : (s.updTrust f).partnerRel = s.partnerRel := rfl
@[simp] theorem State.updTrust_stitches : (s.updTrust f).stitches = s.stitches := rfl
@[simp] theorem State.updTrust_skeins : (s.updTrust f).skeins = s.skeins := rfl
@[simp] theorem State.updTrust_engines : (s.updTrust f).engines = s.engines := rfl
@[simp] theorem State.updTrust_rects : (s.updTrust f).rects = s.rects := rfl
@[simp] theorem State.updTrust_strs : (s.updTrust f).strs = s.strs := rfl
@[simp] theorem State.updTrust_slotx : (s.updTrust f).slotx = s.slotx := rfl
@[simp] theorem State.updTrust_budgets : (s.updTrust f).budgets = s.budgets := rfl
@[simp] theorem State.updTrust_rails : (s.updTrust f).rails = s.rails := rfl
@[simp] theorem State.updTrust_railRuns : (s.updTrust f).railRuns = s.railRuns := rfl
@[simp] theorem State.updTrust_seqs : (s.updTrust f).seqs = s.seqs := rfl
@[simp] theorem State.updTrust_adcs : (s.updTrust f).adcs = s.adcs := rfl
@[simp] theorem State.updTrust_ains : (s.updTrust f).ains = s.ains := rfl
@[simp] theorem State.updTrust_phases : (s.updTrust f).phases = s.phases := rfl
@[simp] theorem State.updTrust_sensors : (s.updTrust f).sensors = s.sensors := rfl
@[simp] theorem State.updTrust_tws : (s.updTrust f).tws = s.tws := rfl
@[simp] theorem State.updTrust_shelf : (s.updTrust f).shelf = s.shelf := rfl
@[simp] theorem State.updTrust_pair : (s.updTrust f).pair = s.pair := rfl
@[simp] theorem State.updTrust_faults : (s.updTrust f).faults = s.faults := rfl
@[simp] theorem State.updTrust_nv : (s.updTrust f).nv = s.nv := rfl
@[simp] theorem State.updTrust_rst : (s.updTrust f).rst = s.rst := rfl
@[simp] theorem State.updTrust_thm : (s.updTrust f).thm = s.thm := rfl
@[simp] theorem State.updTrust_pattern : (s.updTrust f).pattern = s.pattern := rfl
@[simp] theorem State.updTrust_fresh : (s.updTrust f).fresh = s.fresh := rfl
end

section
variable (s : State) (f : Reset → Reset)
@[simp] theorem State.updRst_pending : (s.updRst f).pending = s.pending := rfl
@[simp] theorem State.updRst_ct : (s.updRst f).ct = s.ct := rfl
@[simp] theorem State.updRst_regs : (s.updRst f).regs = s.regs := rfl
@[simp] theorem State.updRst_latchHi : (s.updRst f).latchHi = s.latchHi := rfl
@[simp] theorem State.updRst_heldLo : (s.updRst f).heldLo = s.heldLo := rfl
@[simp] theorem State.updRst_hwTouched : (s.updRst f).hwTouched = s.hwTouched := rfl
@[simp] theorem State.updRst_swTouched : (s.updRst f).swTouched = s.swTouched := rfl
@[simp] theorem State.updRst_collided : (s.updRst f).collided = s.collided := rfl
@[simp] theorem State.updRst_cmpOld : (s.updRst f).cmpOld = s.cmpOld := rfl
@[simp] theorem State.updRst_cmpDone : (s.updRst f).cmpDone = s.cmpDone := rfl
@[simp] theorem State.updRst_out : (s.updRst f).out = s.out := rfl
@[simp] theorem State.updRst_hdrs : (s.updRst f).hdrs = s.hdrs := rfl
@[simp] theorem State.updRst_mem : (s.updRst f).mem = s.mem := rfl
@[simp] theorem State.updRst_flash0 : (s.updRst f).flash0 = s.flash0 := rfl
@[simp] theorem State.updRst_flash1 : (s.updRst f).flash1 = s.flash1 := rfl
@[simp] theorem State.updRst_hubStage : (s.updRst f).hubStage = s.hubStage := rfl
@[simp] theorem State.updRst_slots : (s.updRst f).slots = s.slots := rfl
@[simp] theorem State.updRst_mbxs : (s.updRst f).mbxs = s.mbxs := rfl
@[simp] theorem State.updRst_ctrlTurn : (s.updRst f).ctrlTurn = s.ctrlTurn := rfl
@[simp] theorem State.updRst_bulkTurn : (s.updRst f).bulkTurn = s.bulkTurn := rfl
@[simp] theorem State.updRst_entering : (s.updRst f).entering = s.entering := rfl
@[simp] theorem State.updRst_vfOff : (s.updRst f).vfOff = s.vfOff := rfl
@[simp] theorem State.updRst_viMap : (s.updRst f).viMap = s.viMap := rfl
@[simp] theorem State.updRst_viMapNext : (s.updRst f).viMapNext = s.viMapNext := rfl
@[simp] theorem State.updRst_mers : (s.updRst f).mers = s.mers := rfl
@[simp] theorem State.updRst_fans : (s.updRst f).fans = s.fans := rfl
@[simp] theorem State.updRst_gpio : (s.updRst f).gpio = s.gpio := rfl
@[simp] theorem State.updRst_gpioDriven : (s.updRst f).gpioDriven = s.gpioDriven := rfl
@[simp] theorem State.updRst_debugHalt : (s.updRst f).debugHalt = s.debugHalt := rfl
@[simp] theorem State.updRst_debugLock : (s.updRst f).debugLock = s.debugLock := rfl
@[simp] theorem State.updRst_eph : (s.updRst f).eph = s.eph := rfl
@[simp] theorem State.updRst_ephLast : (s.updRst f).ephLast = s.ephLast := rfl
@[simp] theorem State.updRst_ephCount : (s.updRst f).ephCount = s.ephCount := rfl
@[simp] theorem State.updRst_posts : (s.updRst f).posts = s.posts := rfl
@[simp] theorem State.updRst_ports : (s.updRst f).ports = s.ports := rfl
@[simp] theorem State.updRst_svcs : (s.updRst f).svcs = s.svcs := rfl
@[simp] theorem State.updRst_partnerRel : (s.updRst f).partnerRel = s.partnerRel := rfl
@[simp] theorem State.updRst_stitches : (s.updRst f).stitches = s.stitches := rfl
@[simp] theorem State.updRst_skeins : (s.updRst f).skeins = s.skeins := rfl
@[simp] theorem State.updRst_engines : (s.updRst f).engines = s.engines := rfl
@[simp] theorem State.updRst_rects : (s.updRst f).rects = s.rects := rfl
@[simp] theorem State.updRst_strs : (s.updRst f).strs = s.strs := rfl
@[simp] theorem State.updRst_slotx : (s.updRst f).slotx = s.slotx := rfl
@[simp] theorem State.updRst_budgets : (s.updRst f).budgets = s.budgets := rfl
@[simp] theorem State.updRst_rails : (s.updRst f).rails = s.rails := rfl
@[simp] theorem State.updRst_railRuns : (s.updRst f).railRuns = s.railRuns := rfl
@[simp] theorem State.updRst_seqs : (s.updRst f).seqs = s.seqs := rfl
@[simp] theorem State.updRst_adcs : (s.updRst f).adcs = s.adcs := rfl
@[simp] theorem State.updRst_ains : (s.updRst f).ains = s.ains := rfl
@[simp] theorem State.updRst_phases : (s.updRst f).phases = s.phases := rfl
@[simp] theorem State.updRst_sensors : (s.updRst f).sensors = s.sensors := rfl
@[simp] theorem State.updRst_tws : (s.updRst f).tws = s.tws := rfl
@[simp] theorem State.updRst_shelf : (s.updRst f).shelf = s.shelf := rfl
@[simp] theorem State.updRst_pair : (s.updRst f).pair = s.pair := rfl
@[simp] theorem State.updRst_faults : (s.updRst f).faults = s.faults := rfl
@[simp] theorem State.updRst_nv : (s.updRst f).nv = s.nv := rfl
@[simp] theorem State.updRst_trust : (s.updRst f).trust = s.trust := rfl
@[simp] theorem State.updRst_thm : (s.updRst f).thm = s.thm := rfl
@[simp] theorem State.updRst_pattern : (s.updRst f).pattern = s.pattern := rfl
@[simp] theorem State.updRst_fresh : (s.updRst f).fresh = s.fresh := rfl
end

section
variable (s : State) (f : Thermal → Thermal)
@[simp] theorem State.updThm_pending : (s.updThm f).pending = s.pending := rfl
@[simp] theorem State.updThm_ct : (s.updThm f).ct = s.ct := rfl
@[simp] theorem State.updThm_regs : (s.updThm f).regs = s.regs := rfl
@[simp] theorem State.updThm_latchHi : (s.updThm f).latchHi = s.latchHi := rfl
@[simp] theorem State.updThm_heldLo : (s.updThm f).heldLo = s.heldLo := rfl
@[simp] theorem State.updThm_hwTouched : (s.updThm f).hwTouched = s.hwTouched := rfl
@[simp] theorem State.updThm_swTouched : (s.updThm f).swTouched = s.swTouched := rfl
@[simp] theorem State.updThm_collided : (s.updThm f).collided = s.collided := rfl
@[simp] theorem State.updThm_cmpOld : (s.updThm f).cmpOld = s.cmpOld := rfl
@[simp] theorem State.updThm_cmpDone : (s.updThm f).cmpDone = s.cmpDone := rfl
@[simp] theorem State.updThm_out : (s.updThm f).out = s.out := rfl
@[simp] theorem State.updThm_hdrs : (s.updThm f).hdrs = s.hdrs := rfl
@[simp] theorem State.updThm_mem : (s.updThm f).mem = s.mem := rfl
@[simp] theorem State.updThm_flash0 : (s.updThm f).flash0 = s.flash0 := rfl
@[simp] theorem State.updThm_flash1 : (s.updThm f).flash1 = s.flash1 := rfl
@[simp] theorem State.updThm_hubStage : (s.updThm f).hubStage = s.hubStage := rfl
@[simp] theorem State.updThm_slots : (s.updThm f).slots = s.slots := rfl
@[simp] theorem State.updThm_mbxs : (s.updThm f).mbxs = s.mbxs := rfl
@[simp] theorem State.updThm_ctrlTurn : (s.updThm f).ctrlTurn = s.ctrlTurn := rfl
@[simp] theorem State.updThm_bulkTurn : (s.updThm f).bulkTurn = s.bulkTurn := rfl
@[simp] theorem State.updThm_entering : (s.updThm f).entering = s.entering := rfl
@[simp] theorem State.updThm_vfOff : (s.updThm f).vfOff = s.vfOff := rfl
@[simp] theorem State.updThm_viMap : (s.updThm f).viMap = s.viMap := rfl
@[simp] theorem State.updThm_viMapNext : (s.updThm f).viMapNext = s.viMapNext := rfl
@[simp] theorem State.updThm_mers : (s.updThm f).mers = s.mers := rfl
@[simp] theorem State.updThm_fans : (s.updThm f).fans = s.fans := rfl
@[simp] theorem State.updThm_gpio : (s.updThm f).gpio = s.gpio := rfl
@[simp] theorem State.updThm_gpioDriven : (s.updThm f).gpioDriven = s.gpioDriven := rfl
@[simp] theorem State.updThm_debugHalt : (s.updThm f).debugHalt = s.debugHalt := rfl
@[simp] theorem State.updThm_debugLock : (s.updThm f).debugLock = s.debugLock := rfl
@[simp] theorem State.updThm_eph : (s.updThm f).eph = s.eph := rfl
@[simp] theorem State.updThm_ephLast : (s.updThm f).ephLast = s.ephLast := rfl
@[simp] theorem State.updThm_ephCount : (s.updThm f).ephCount = s.ephCount := rfl
@[simp] theorem State.updThm_posts : (s.updThm f).posts = s.posts := rfl
@[simp] theorem State.updThm_ports : (s.updThm f).ports = s.ports := rfl
@[simp] theorem State.updThm_svcs : (s.updThm f).svcs = s.svcs := rfl
@[simp] theorem State.updThm_partnerRel : (s.updThm f).partnerRel = s.partnerRel := rfl
@[simp] theorem State.updThm_stitches : (s.updThm f).stitches = s.stitches := rfl
@[simp] theorem State.updThm_skeins : (s.updThm f).skeins = s.skeins := rfl
@[simp] theorem State.updThm_engines : (s.updThm f).engines = s.engines := rfl
@[simp] theorem State.updThm_rects : (s.updThm f).rects = s.rects := rfl
@[simp] theorem State.updThm_strs : (s.updThm f).strs = s.strs := rfl
@[simp] theorem State.updThm_slotx : (s.updThm f).slotx = s.slotx := rfl
@[simp] theorem State.updThm_budgets : (s.updThm f).budgets = s.budgets := rfl
@[simp] theorem State.updThm_rails : (s.updThm f).rails = s.rails := rfl
@[simp] theorem State.updThm_railRuns : (s.updThm f).railRuns = s.railRuns := rfl
@[simp] theorem State.updThm_seqs : (s.updThm f).seqs = s.seqs := rfl
@[simp] theorem State.updThm_adcs : (s.updThm f).adcs = s.adcs := rfl
@[simp] theorem State.updThm_ains : (s.updThm f).ains = s.ains := rfl
@[simp] theorem State.updThm_phases : (s.updThm f).phases = s.phases := rfl
@[simp] theorem State.updThm_sensors : (s.updThm f).sensors = s.sensors := rfl
@[simp] theorem State.updThm_tws : (s.updThm f).tws = s.tws := rfl
@[simp] theorem State.updThm_shelf : (s.updThm f).shelf = s.shelf := rfl
@[simp] theorem State.updThm_pair : (s.updThm f).pair = s.pair := rfl
@[simp] theorem State.updThm_faults : (s.updThm f).faults = s.faults := rfl
@[simp] theorem State.updThm_nv : (s.updThm f).nv = s.nv := rfl
@[simp] theorem State.updThm_trust : (s.updThm f).trust = s.trust := rfl
@[simp] theorem State.updThm_rst : (s.updThm f).rst = s.rst := rfl
@[simp] theorem State.updThm_pattern : (s.updThm f).pattern = s.pattern := rfl
@[simp] theorem State.updThm_fresh : (s.updThm f).fresh = s.fresh := rfl
end

section
variable (s : State) (o : Out)
@[simp] theorem State.emitNow_pending : (s.emitNow o).pending = s.pending := rfl
@[simp] theorem State.emitNow_ct : (s.emitNow o).ct = s.ct := rfl
@[simp] theorem State.emitNow_regs : (s.emitNow o).regs = s.regs := rfl
@[simp] theorem State.emitNow_latchHi : (s.emitNow o).latchHi = s.latchHi := rfl
@[simp] theorem State.emitNow_heldLo : (s.emitNow o).heldLo = s.heldLo := rfl
@[simp] theorem State.emitNow_hwTouched : (s.emitNow o).hwTouched = s.hwTouched := rfl
@[simp] theorem State.emitNow_swTouched : (s.emitNow o).swTouched = s.swTouched := rfl
@[simp] theorem State.emitNow_collided : (s.emitNow o).collided = s.collided := rfl
@[simp] theorem State.emitNow_cmpOld : (s.emitNow o).cmpOld = s.cmpOld := rfl
@[simp] theorem State.emitNow_cmpDone : (s.emitNow o).cmpDone = s.cmpDone := rfl
@[simp] theorem State.emitNow_hdrs : (s.emitNow o).hdrs = s.hdrs := rfl
@[simp] theorem State.emitNow_mem : (s.emitNow o).mem = s.mem := rfl
@[simp] theorem State.emitNow_flash0 : (s.emitNow o).flash0 = s.flash0 := rfl
@[simp] theorem State.emitNow_flash1 : (s.emitNow o).flash1 = s.flash1 := rfl
@[simp] theorem State.emitNow_hubStage : (s.emitNow o).hubStage = s.hubStage := rfl
@[simp] theorem State.emitNow_slots : (s.emitNow o).slots = s.slots := rfl
@[simp] theorem State.emitNow_mbxs : (s.emitNow o).mbxs = s.mbxs := rfl
@[simp] theorem State.emitNow_ctrlTurn : (s.emitNow o).ctrlTurn = s.ctrlTurn := rfl
@[simp] theorem State.emitNow_bulkTurn : (s.emitNow o).bulkTurn = s.bulkTurn := rfl
@[simp] theorem State.emitNow_entering : (s.emitNow o).entering = s.entering := rfl
@[simp] theorem State.emitNow_vfOff : (s.emitNow o).vfOff = s.vfOff := rfl
@[simp] theorem State.emitNow_viMap : (s.emitNow o).viMap = s.viMap := rfl
@[simp] theorem State.emitNow_viMapNext : (s.emitNow o).viMapNext = s.viMapNext := rfl
@[simp] theorem State.emitNow_mers : (s.emitNow o).mers = s.mers := rfl
@[simp] theorem State.emitNow_fans : (s.emitNow o).fans = s.fans := rfl
@[simp] theorem State.emitNow_gpio : (s.emitNow o).gpio = s.gpio := rfl
@[simp] theorem State.emitNow_gpioDriven : (s.emitNow o).gpioDriven = s.gpioDriven := rfl
@[simp] theorem State.emitNow_debugHalt : (s.emitNow o).debugHalt = s.debugHalt := rfl
@[simp] theorem State.emitNow_debugLock : (s.emitNow o).debugLock = s.debugLock := rfl
@[simp] theorem State.emitNow_eph : (s.emitNow o).eph = s.eph := rfl
@[simp] theorem State.emitNow_ephLast : (s.emitNow o).ephLast = s.ephLast := rfl
@[simp] theorem State.emitNow_ephCount : (s.emitNow o).ephCount = s.ephCount := rfl
@[simp] theorem State.emitNow_posts : (s.emitNow o).posts = s.posts := rfl
@[simp] theorem State.emitNow_ports : (s.emitNow o).ports = s.ports := rfl
@[simp] theorem State.emitNow_svcs : (s.emitNow o).svcs = s.svcs := rfl
@[simp] theorem State.emitNow_partnerRel : (s.emitNow o).partnerRel = s.partnerRel := rfl
@[simp] theorem State.emitNow_stitches : (s.emitNow o).stitches = s.stitches := rfl
@[simp] theorem State.emitNow_skeins : (s.emitNow o).skeins = s.skeins := rfl
@[simp] theorem State.emitNow_engines : (s.emitNow o).engines = s.engines := rfl
@[simp] theorem State.emitNow_rects : (s.emitNow o).rects = s.rects := rfl
@[simp] theorem State.emitNow_strs : (s.emitNow o).strs = s.strs := rfl
@[simp] theorem State.emitNow_slotx : (s.emitNow o).slotx = s.slotx := rfl
@[simp] theorem State.emitNow_budgets : (s.emitNow o).budgets = s.budgets := rfl
@[simp] theorem State.emitNow_rails : (s.emitNow o).rails = s.rails := rfl
@[simp] theorem State.emitNow_railRuns : (s.emitNow o).railRuns = s.railRuns := rfl
@[simp] theorem State.emitNow_seqs : (s.emitNow o).seqs = s.seqs := rfl
@[simp] theorem State.emitNow_adcs : (s.emitNow o).adcs = s.adcs := rfl
@[simp] theorem State.emitNow_ains : (s.emitNow o).ains = s.ains := rfl
@[simp] theorem State.emitNow_phases : (s.emitNow o).phases = s.phases := rfl
@[simp] theorem State.emitNow_sensors : (s.emitNow o).sensors = s.sensors := rfl
@[simp] theorem State.emitNow_tws : (s.emitNow o).tws = s.tws := rfl
@[simp] theorem State.emitNow_shelf : (s.emitNow o).shelf = s.shelf := rfl
@[simp] theorem State.emitNow_pair : (s.emitNow o).pair = s.pair := rfl
@[simp] theorem State.emitNow_faults : (s.emitNow o).faults = s.faults := rfl
@[simp] theorem State.emitNow_nv : (s.emitNow o).nv = s.nv := rfl
@[simp] theorem State.emitNow_trust : (s.emitNow o).trust = s.trust := rfl
@[simp] theorem State.emitNow_rst : (s.emitNow o).rst = s.rst := rfl
@[simp] theorem State.emitNow_thm : (s.emitNow o).thm = s.thm := rfl
@[simp] theorem State.emitNow_pattern : (s.emitNow o).pattern = s.pattern := rfl
@[simp] theorem State.emitNow_fresh : (s.emitNow o).fresh = s.fresh := rfl
end

section
variable (s : State) (a : Nat) (w : Word)
@[simp] theorem State.putWord_pending : (s.putWord a w).pending = s.pending := rfl
@[simp] theorem State.putWord_ct : (s.putWord a w).ct = s.ct := rfl
@[simp] theorem State.putWord_latchHi : (s.putWord a w).latchHi = s.latchHi := rfl
@[simp] theorem State.putWord_heldLo : (s.putWord a w).heldLo = s.heldLo := rfl
@[simp] theorem State.putWord_hwTouched : (s.putWord a w).hwTouched = s.hwTouched := rfl
@[simp] theorem State.putWord_swTouched : (s.putWord a w).swTouched = s.swTouched := rfl
@[simp] theorem State.putWord_collided : (s.putWord a w).collided = s.collided := rfl
@[simp] theorem State.putWord_cmpOld : (s.putWord a w).cmpOld = s.cmpOld := rfl
@[simp] theorem State.putWord_cmpDone : (s.putWord a w).cmpDone = s.cmpDone := rfl
@[simp] theorem State.putWord_out : (s.putWord a w).out = s.out := rfl
@[simp] theorem State.putWord_hdrs : (s.putWord a w).hdrs = s.hdrs := rfl
@[simp] theorem State.putWord_mem : (s.putWord a w).mem = s.mem := rfl
@[simp] theorem State.putWord_flash0 : (s.putWord a w).flash0 = s.flash0 := rfl
@[simp] theorem State.putWord_flash1 : (s.putWord a w).flash1 = s.flash1 := rfl
@[simp] theorem State.putWord_hubStage : (s.putWord a w).hubStage = s.hubStage := rfl
@[simp] theorem State.putWord_slots : (s.putWord a w).slots = s.slots := rfl
@[simp] theorem State.putWord_mbxs : (s.putWord a w).mbxs = s.mbxs := rfl
@[simp] theorem State.putWord_ctrlTurn : (s.putWord a w).ctrlTurn = s.ctrlTurn := rfl
@[simp] theorem State.putWord_bulkTurn : (s.putWord a w).bulkTurn = s.bulkTurn := rfl
@[simp] theorem State.putWord_entering : (s.putWord a w).entering = s.entering := rfl
@[simp] theorem State.putWord_vfOff : (s.putWord a w).vfOff = s.vfOff := rfl
@[simp] theorem State.putWord_viMap : (s.putWord a w).viMap = s.viMap := rfl
@[simp] theorem State.putWord_viMapNext : (s.putWord a w).viMapNext = s.viMapNext := rfl
@[simp] theorem State.putWord_mers : (s.putWord a w).mers = s.mers := rfl
@[simp] theorem State.putWord_fans : (s.putWord a w).fans = s.fans := rfl
@[simp] theorem State.putWord_gpio : (s.putWord a w).gpio = s.gpio := rfl
@[simp] theorem State.putWord_gpioDriven : (s.putWord a w).gpioDriven = s.gpioDriven := rfl
@[simp] theorem State.putWord_debugHalt : (s.putWord a w).debugHalt = s.debugHalt := rfl
@[simp] theorem State.putWord_debugLock : (s.putWord a w).debugLock = s.debugLock := rfl
@[simp] theorem State.putWord_eph : (s.putWord a w).eph = s.eph := rfl
@[simp] theorem State.putWord_ephLast : (s.putWord a w).ephLast = s.ephLast := rfl
@[simp] theorem State.putWord_ephCount : (s.putWord a w).ephCount = s.ephCount := rfl
@[simp] theorem State.putWord_posts : (s.putWord a w).posts = s.posts := rfl
@[simp] theorem State.putWord_ports : (s.putWord a w).ports = s.ports := rfl
@[simp] theorem State.putWord_svcs : (s.putWord a w).svcs = s.svcs := rfl
@[simp] theorem State.putWord_partnerRel : (s.putWord a w).partnerRel = s.partnerRel := rfl
@[simp] theorem State.putWord_stitches : (s.putWord a w).stitches = s.stitches := rfl
@[simp] theorem State.putWord_skeins : (s.putWord a w).skeins = s.skeins := rfl
@[simp] theorem State.putWord_engines : (s.putWord a w).engines = s.engines := rfl
@[simp] theorem State.putWord_rects : (s.putWord a w).rects = s.rects := rfl
@[simp] theorem State.putWord_strs : (s.putWord a w).strs = s.strs := rfl
@[simp] theorem State.putWord_slotx : (s.putWord a w).slotx = s.slotx := rfl
@[simp] theorem State.putWord_budgets : (s.putWord a w).budgets = s.budgets := rfl
@[simp] theorem State.putWord_rails : (s.putWord a w).rails = s.rails := rfl
@[simp] theorem State.putWord_railRuns : (s.putWord a w).railRuns = s.railRuns := rfl
@[simp] theorem State.putWord_seqs : (s.putWord a w).seqs = s.seqs := rfl
@[simp] theorem State.putWord_adcs : (s.putWord a w).adcs = s.adcs := rfl
@[simp] theorem State.putWord_ains : (s.putWord a w).ains = s.ains := rfl
@[simp] theorem State.putWord_phases : (s.putWord a w).phases = s.phases := rfl
@[simp] theorem State.putWord_sensors : (s.putWord a w).sensors = s.sensors := rfl
@[simp] theorem State.putWord_tws : (s.putWord a w).tws = s.tws := rfl
@[simp] theorem State.putWord_shelf : (s.putWord a w).shelf = s.shelf := rfl
@[simp] theorem State.putWord_pair : (s.putWord a w).pair = s.pair := rfl
@[simp] theorem State.putWord_faults : (s.putWord a w).faults = s.faults := rfl
@[simp] theorem State.putWord_nv : (s.putWord a w).nv = s.nv := rfl
@[simp] theorem State.putWord_trust : (s.putWord a w).trust = s.trust := rfl
@[simp] theorem State.putWord_rst : (s.putWord a w).rst = s.rst := rfl
@[simp] theorem State.putWord_thm : (s.putWord a w).thm = s.thm := rfl
@[simp] theorem State.putWord_pattern : (s.putWord a w).pattern = s.pattern := rfl
@[simp] theorem State.putWord_fresh : (s.putWord a w).fresh = s.fresh := rfl
end

section
variable (s : State) (f : Fld) (v : Nat)
@[simp] theorem State.setF_pending : (s.setF f v).pending = s.pending := rfl
@[simp] theorem State.setF_ct : (s.setF f v).ct = s.ct := rfl
@[simp] theorem State.setF_latchHi : (s.setF f v).latchHi = s.latchHi := rfl
@[simp] theorem State.setF_heldLo : (s.setF f v).heldLo = s.heldLo := rfl
@[simp] theorem State.setF_hwTouched : (s.setF f v).hwTouched = s.hwTouched := rfl
@[simp] theorem State.setF_swTouched : (s.setF f v).swTouched = s.swTouched := rfl
@[simp] theorem State.setF_collided : (s.setF f v).collided = s.collided := rfl
@[simp] theorem State.setF_cmpOld : (s.setF f v).cmpOld = s.cmpOld := rfl
@[simp] theorem State.setF_cmpDone : (s.setF f v).cmpDone = s.cmpDone := rfl
@[simp] theorem State.setF_out : (s.setF f v).out = s.out := rfl
@[simp] theorem State.setF_hdrs : (s.setF f v).hdrs = s.hdrs := rfl
@[simp] theorem State.setF_mem : (s.setF f v).mem = s.mem := rfl
@[simp] theorem State.setF_flash0 : (s.setF f v).flash0 = s.flash0 := rfl
@[simp] theorem State.setF_flash1 : (s.setF f v).flash1 = s.flash1 := rfl
@[simp] theorem State.setF_hubStage : (s.setF f v).hubStage = s.hubStage := rfl
@[simp] theorem State.setF_slots : (s.setF f v).slots = s.slots := rfl
@[simp] theorem State.setF_mbxs : (s.setF f v).mbxs = s.mbxs := rfl
@[simp] theorem State.setF_ctrlTurn : (s.setF f v).ctrlTurn = s.ctrlTurn := rfl
@[simp] theorem State.setF_bulkTurn : (s.setF f v).bulkTurn = s.bulkTurn := rfl
@[simp] theorem State.setF_entering : (s.setF f v).entering = s.entering := rfl
@[simp] theorem State.setF_vfOff : (s.setF f v).vfOff = s.vfOff := rfl
@[simp] theorem State.setF_viMap : (s.setF f v).viMap = s.viMap := rfl
@[simp] theorem State.setF_viMapNext : (s.setF f v).viMapNext = s.viMapNext := rfl
@[simp] theorem State.setF_mers : (s.setF f v).mers = s.mers := rfl
@[simp] theorem State.setF_fans : (s.setF f v).fans = s.fans := rfl
@[simp] theorem State.setF_gpio : (s.setF f v).gpio = s.gpio := rfl
@[simp] theorem State.setF_gpioDriven : (s.setF f v).gpioDriven = s.gpioDriven := rfl
@[simp] theorem State.setF_debugHalt : (s.setF f v).debugHalt = s.debugHalt := rfl
@[simp] theorem State.setF_debugLock : (s.setF f v).debugLock = s.debugLock := rfl
@[simp] theorem State.setF_eph : (s.setF f v).eph = s.eph := rfl
@[simp] theorem State.setF_ephLast : (s.setF f v).ephLast = s.ephLast := rfl
@[simp] theorem State.setF_ephCount : (s.setF f v).ephCount = s.ephCount := rfl
@[simp] theorem State.setF_posts : (s.setF f v).posts = s.posts := rfl
@[simp] theorem State.setF_ports : (s.setF f v).ports = s.ports := rfl
@[simp] theorem State.setF_svcs : (s.setF f v).svcs = s.svcs := rfl
@[simp] theorem State.setF_partnerRel : (s.setF f v).partnerRel = s.partnerRel := rfl
@[simp] theorem State.setF_stitches : (s.setF f v).stitches = s.stitches := rfl
@[simp] theorem State.setF_skeins : (s.setF f v).skeins = s.skeins := rfl
@[simp] theorem State.setF_engines : (s.setF f v).engines = s.engines := rfl
@[simp] theorem State.setF_rects : (s.setF f v).rects = s.rects := rfl
@[simp] theorem State.setF_strs : (s.setF f v).strs = s.strs := rfl
@[simp] theorem State.setF_slotx : (s.setF f v).slotx = s.slotx := rfl
@[simp] theorem State.setF_budgets : (s.setF f v).budgets = s.budgets := rfl
@[simp] theorem State.setF_rails : (s.setF f v).rails = s.rails := rfl
@[simp] theorem State.setF_railRuns : (s.setF f v).railRuns = s.railRuns := rfl
@[simp] theorem State.setF_seqs : (s.setF f v).seqs = s.seqs := rfl
@[simp] theorem State.setF_adcs : (s.setF f v).adcs = s.adcs := rfl
@[simp] theorem State.setF_ains : (s.setF f v).ains = s.ains := rfl
@[simp] theorem State.setF_phases : (s.setF f v).phases = s.phases := rfl
@[simp] theorem State.setF_sensors : (s.setF f v).sensors = s.sensors := rfl
@[simp] theorem State.setF_tws : (s.setF f v).tws = s.tws := rfl
@[simp] theorem State.setF_shelf : (s.setF f v).shelf = s.shelf := rfl
@[simp] theorem State.setF_pair : (s.setF f v).pair = s.pair := rfl
@[simp] theorem State.setF_faults : (s.setF f v).faults = s.faults := rfl
@[simp] theorem State.setF_nv : (s.setF f v).nv = s.nv := rfl
@[simp] theorem State.setF_trust : (s.setF f v).trust = s.trust := rfl
@[simp] theorem State.setF_rst : (s.setF f v).rst = s.rst := rfl
@[simp] theorem State.setF_thm : (s.setF f v).thm = s.thm := rfl
@[simp] theorem State.setF_pattern : (s.setF f v).pattern = s.pattern := rfl
@[simp] theorem State.setF_fresh : (s.setF f v).fresh = s.fresh := rfl
end

section
variable (s : State) (f : Fld) (v : Int)
@[simp] theorem State.setI_pending : (s.setI f v).pending = s.pending := rfl
@[simp] theorem State.setI_ct : (s.setI f v).ct = s.ct := rfl
@[simp] theorem State.setI_latchHi : (s.setI f v).latchHi = s.latchHi := rfl
@[simp] theorem State.setI_heldLo : (s.setI f v).heldLo = s.heldLo := rfl
@[simp] theorem State.setI_hwTouched : (s.setI f v).hwTouched = s.hwTouched := rfl
@[simp] theorem State.setI_swTouched : (s.setI f v).swTouched = s.swTouched := rfl
@[simp] theorem State.setI_collided : (s.setI f v).collided = s.collided := rfl
@[simp] theorem State.setI_cmpOld : (s.setI f v).cmpOld = s.cmpOld := rfl
@[simp] theorem State.setI_cmpDone : (s.setI f v).cmpDone = s.cmpDone := rfl
@[simp] theorem State.setI_out : (s.setI f v).out = s.out := rfl
@[simp] theorem State.setI_hdrs : (s.setI f v).hdrs = s.hdrs := rfl
@[simp] theorem State.setI_mem : (s.setI f v).mem = s.mem := rfl
@[simp] theorem State.setI_flash0 : (s.setI f v).flash0 = s.flash0 := rfl
@[simp] theorem State.setI_flash1 : (s.setI f v).flash1 = s.flash1 := rfl
@[simp] theorem State.setI_hubStage : (s.setI f v).hubStage = s.hubStage := rfl
@[simp] theorem State.setI_slots : (s.setI f v).slots = s.slots := rfl
@[simp] theorem State.setI_mbxs : (s.setI f v).mbxs = s.mbxs := rfl
@[simp] theorem State.setI_ctrlTurn : (s.setI f v).ctrlTurn = s.ctrlTurn := rfl
@[simp] theorem State.setI_bulkTurn : (s.setI f v).bulkTurn = s.bulkTurn := rfl
@[simp] theorem State.setI_entering : (s.setI f v).entering = s.entering := rfl
@[simp] theorem State.setI_vfOff : (s.setI f v).vfOff = s.vfOff := rfl
@[simp] theorem State.setI_viMap : (s.setI f v).viMap = s.viMap := rfl
@[simp] theorem State.setI_viMapNext : (s.setI f v).viMapNext = s.viMapNext := rfl
@[simp] theorem State.setI_mers : (s.setI f v).mers = s.mers := rfl
@[simp] theorem State.setI_fans : (s.setI f v).fans = s.fans := rfl
@[simp] theorem State.setI_gpio : (s.setI f v).gpio = s.gpio := rfl
@[simp] theorem State.setI_gpioDriven : (s.setI f v).gpioDriven = s.gpioDriven := rfl
@[simp] theorem State.setI_debugHalt : (s.setI f v).debugHalt = s.debugHalt := rfl
@[simp] theorem State.setI_debugLock : (s.setI f v).debugLock = s.debugLock := rfl
@[simp] theorem State.setI_eph : (s.setI f v).eph = s.eph := rfl
@[simp] theorem State.setI_ephLast : (s.setI f v).ephLast = s.ephLast := rfl
@[simp] theorem State.setI_ephCount : (s.setI f v).ephCount = s.ephCount := rfl
@[simp] theorem State.setI_posts : (s.setI f v).posts = s.posts := rfl
@[simp] theorem State.setI_ports : (s.setI f v).ports = s.ports := rfl
@[simp] theorem State.setI_svcs : (s.setI f v).svcs = s.svcs := rfl
@[simp] theorem State.setI_partnerRel : (s.setI f v).partnerRel = s.partnerRel := rfl
@[simp] theorem State.setI_stitches : (s.setI f v).stitches = s.stitches := rfl
@[simp] theorem State.setI_skeins : (s.setI f v).skeins = s.skeins := rfl
@[simp] theorem State.setI_engines : (s.setI f v).engines = s.engines := rfl
@[simp] theorem State.setI_rects : (s.setI f v).rects = s.rects := rfl
@[simp] theorem State.setI_strs : (s.setI f v).strs = s.strs := rfl
@[simp] theorem State.setI_slotx : (s.setI f v).slotx = s.slotx := rfl
@[simp] theorem State.setI_budgets : (s.setI f v).budgets = s.budgets := rfl
@[simp] theorem State.setI_rails : (s.setI f v).rails = s.rails := rfl
@[simp] theorem State.setI_railRuns : (s.setI f v).railRuns = s.railRuns := rfl
@[simp] theorem State.setI_seqs : (s.setI f v).seqs = s.seqs := rfl
@[simp] theorem State.setI_adcs : (s.setI f v).adcs = s.adcs := rfl
@[simp] theorem State.setI_ains : (s.setI f v).ains = s.ains := rfl
@[simp] theorem State.setI_phases : (s.setI f v).phases = s.phases := rfl
@[simp] theorem State.setI_sensors : (s.setI f v).sensors = s.sensors := rfl
@[simp] theorem State.setI_tws : (s.setI f v).tws = s.tws := rfl
@[simp] theorem State.setI_shelf : (s.setI f v).shelf = s.shelf := rfl
@[simp] theorem State.setI_pair : (s.setI f v).pair = s.pair := rfl
@[simp] theorem State.setI_faults : (s.setI f v).faults = s.faults := rfl
@[simp] theorem State.setI_nv : (s.setI f v).nv = s.nv := rfl
@[simp] theorem State.setI_trust : (s.setI f v).trust = s.trust := rfl
@[simp] theorem State.setI_rst : (s.setI f v).rst = s.rst := rfl
@[simp] theorem State.setI_thm : (s.setI f v).thm = s.thm := rfl
@[simp] theorem State.setI_pattern : (s.setI f v).pattern = s.pattern := rfl
@[simp] theorem State.setI_fresh : (s.setI f v).fresh = s.fresh := rfl
end

section
variable (s : State) (f : Fld) (b : Bool)
@[simp] theorem State.setB_pending : (s.setB f b).pending = s.pending := rfl
@[simp] theorem State.setB_ct : (s.setB f b).ct = s.ct := rfl
@[simp] theorem State.setB_latchHi : (s.setB f b).latchHi = s.latchHi := rfl
@[simp] theorem State.setB_heldLo : (s.setB f b).heldLo = s.heldLo := rfl
@[simp] theorem State.setB_hwTouched : (s.setB f b).hwTouched = s.hwTouched := rfl
@[simp] theorem State.setB_swTouched : (s.setB f b).swTouched = s.swTouched := rfl
@[simp] theorem State.setB_collided : (s.setB f b).collided = s.collided := rfl
@[simp] theorem State.setB_cmpOld : (s.setB f b).cmpOld = s.cmpOld := rfl
@[simp] theorem State.setB_cmpDone : (s.setB f b).cmpDone = s.cmpDone := rfl
@[simp] theorem State.setB_out : (s.setB f b).out = s.out := rfl
@[simp] theorem State.setB_hdrs : (s.setB f b).hdrs = s.hdrs := rfl
@[simp] theorem State.setB_mem : (s.setB f b).mem = s.mem := rfl
@[simp] theorem State.setB_flash0 : (s.setB f b).flash0 = s.flash0 := rfl
@[simp] theorem State.setB_flash1 : (s.setB f b).flash1 = s.flash1 := rfl
@[simp] theorem State.setB_hubStage : (s.setB f b).hubStage = s.hubStage := rfl
@[simp] theorem State.setB_slots : (s.setB f b).slots = s.slots := rfl
@[simp] theorem State.setB_mbxs : (s.setB f b).mbxs = s.mbxs := rfl
@[simp] theorem State.setB_ctrlTurn : (s.setB f b).ctrlTurn = s.ctrlTurn := rfl
@[simp] theorem State.setB_bulkTurn : (s.setB f b).bulkTurn = s.bulkTurn := rfl
@[simp] theorem State.setB_entering : (s.setB f b).entering = s.entering := rfl
@[simp] theorem State.setB_vfOff : (s.setB f b).vfOff = s.vfOff := rfl
@[simp] theorem State.setB_viMap : (s.setB f b).viMap = s.viMap := rfl
@[simp] theorem State.setB_viMapNext : (s.setB f b).viMapNext = s.viMapNext := rfl
@[simp] theorem State.setB_mers : (s.setB f b).mers = s.mers := rfl
@[simp] theorem State.setB_fans : (s.setB f b).fans = s.fans := rfl
@[simp] theorem State.setB_gpio : (s.setB f b).gpio = s.gpio := rfl
@[simp] theorem State.setB_gpioDriven : (s.setB f b).gpioDriven = s.gpioDriven := rfl
@[simp] theorem State.setB_debugHalt : (s.setB f b).debugHalt = s.debugHalt := rfl
@[simp] theorem State.setB_debugLock : (s.setB f b).debugLock = s.debugLock := rfl
@[simp] theorem State.setB_eph : (s.setB f b).eph = s.eph := rfl
@[simp] theorem State.setB_ephLast : (s.setB f b).ephLast = s.ephLast := rfl
@[simp] theorem State.setB_ephCount : (s.setB f b).ephCount = s.ephCount := rfl
@[simp] theorem State.setB_posts : (s.setB f b).posts = s.posts := rfl
@[simp] theorem State.setB_ports : (s.setB f b).ports = s.ports := rfl
@[simp] theorem State.setB_svcs : (s.setB f b).svcs = s.svcs := rfl
@[simp] theorem State.setB_partnerRel : (s.setB f b).partnerRel = s.partnerRel := rfl
@[simp] theorem State.setB_stitches : (s.setB f b).stitches = s.stitches := rfl
@[simp] theorem State.setB_skeins : (s.setB f b).skeins = s.skeins := rfl
@[simp] theorem State.setB_engines : (s.setB f b).engines = s.engines := rfl
@[simp] theorem State.setB_rects : (s.setB f b).rects = s.rects := rfl
@[simp] theorem State.setB_strs : (s.setB f b).strs = s.strs := rfl
@[simp] theorem State.setB_slotx : (s.setB f b).slotx = s.slotx := rfl
@[simp] theorem State.setB_budgets : (s.setB f b).budgets = s.budgets := rfl
@[simp] theorem State.setB_rails : (s.setB f b).rails = s.rails := rfl
@[simp] theorem State.setB_railRuns : (s.setB f b).railRuns = s.railRuns := rfl
@[simp] theorem State.setB_seqs : (s.setB f b).seqs = s.seqs := rfl
@[simp] theorem State.setB_adcs : (s.setB f b).adcs = s.adcs := rfl
@[simp] theorem State.setB_ains : (s.setB f b).ains = s.ains := rfl
@[simp] theorem State.setB_phases : (s.setB f b).phases = s.phases := rfl
@[simp] theorem State.setB_sensors : (s.setB f b).sensors = s.sensors := rfl
@[simp] theorem State.setB_tws : (s.setB f b).tws = s.tws := rfl
@[simp] theorem State.setB_shelf : (s.setB f b).shelf = s.shelf := rfl
@[simp] theorem State.setB_pair : (s.setB f b).pair = s.pair := rfl
@[simp] theorem State.setB_faults : (s.setB f b).faults = s.faults := rfl
@[simp] theorem State.setB_nv : (s.setB f b).nv = s.nv := rfl
@[simp] theorem State.setB_trust : (s.setB f b).trust = s.trust := rfl
@[simp] theorem State.setB_rst : (s.setB f b).rst = s.rst := rfl
@[simp] theorem State.setB_thm : (s.setB f b).thm = s.thm := rfl
@[simp] theorem State.setB_pattern : (s.setB f b).pattern = s.pattern := rfl
@[simp] theorem State.setB_fresh : (s.setB f b).fresh = s.fresh := rfl
end

section
variable (s : State) (lo hi v : Nat)
@[simp] theorem State.setPair_pending : (s.setPair lo hi v).pending = s.pending := rfl
@[simp] theorem State.setPair_ct : (s.setPair lo hi v).ct = s.ct := rfl
@[simp] theorem State.setPair_latchHi : (s.setPair lo hi v).latchHi = s.latchHi := rfl
@[simp] theorem State.setPair_heldLo : (s.setPair lo hi v).heldLo = s.heldLo := rfl
@[simp] theorem State.setPair_hwTouched : (s.setPair lo hi v).hwTouched = s.hwTouched := rfl
@[simp] theorem State.setPair_swTouched : (s.setPair lo hi v).swTouched = s.swTouched := rfl
@[simp] theorem State.setPair_collided : (s.setPair lo hi v).collided = s.collided := rfl
@[simp] theorem State.setPair_cmpOld : (s.setPair lo hi v).cmpOld = s.cmpOld := rfl
@[simp] theorem State.setPair_cmpDone : (s.setPair lo hi v).cmpDone = s.cmpDone := rfl
@[simp] theorem State.setPair_out : (s.setPair lo hi v).out = s.out := rfl
@[simp] theorem State.setPair_hdrs : (s.setPair lo hi v).hdrs = s.hdrs := rfl
@[simp] theorem State.setPair_mem : (s.setPair lo hi v).mem = s.mem := rfl
@[simp] theorem State.setPair_flash0 : (s.setPair lo hi v).flash0 = s.flash0 := rfl
@[simp] theorem State.setPair_flash1 : (s.setPair lo hi v).flash1 = s.flash1 := rfl
@[simp] theorem State.setPair_hubStage : (s.setPair lo hi v).hubStage = s.hubStage := rfl
@[simp] theorem State.setPair_slots : (s.setPair lo hi v).slots = s.slots := rfl
@[simp] theorem State.setPair_mbxs : (s.setPair lo hi v).mbxs = s.mbxs := rfl
@[simp] theorem State.setPair_ctrlTurn : (s.setPair lo hi v).ctrlTurn = s.ctrlTurn := rfl
@[simp] theorem State.setPair_bulkTurn : (s.setPair lo hi v).bulkTurn = s.bulkTurn := rfl
@[simp] theorem State.setPair_entering : (s.setPair lo hi v).entering = s.entering := rfl
@[simp] theorem State.setPair_vfOff : (s.setPair lo hi v).vfOff = s.vfOff := rfl
@[simp] theorem State.setPair_viMap : (s.setPair lo hi v).viMap = s.viMap := rfl
@[simp] theorem State.setPair_viMapNext : (s.setPair lo hi v).viMapNext = s.viMapNext := rfl
@[simp] theorem State.setPair_mers : (s.setPair lo hi v).mers = s.mers := rfl
@[simp] theorem State.setPair_fans : (s.setPair lo hi v).fans = s.fans := rfl
@[simp] theorem State.setPair_gpio : (s.setPair lo hi v).gpio = s.gpio := rfl
@[simp] theorem State.setPair_gpioDriven : (s.setPair lo hi v).gpioDriven = s.gpioDriven := rfl
@[simp] theorem State.setPair_debugHalt : (s.setPair lo hi v).debugHalt = s.debugHalt := rfl
@[simp] theorem State.setPair_debugLock : (s.setPair lo hi v).debugLock = s.debugLock := rfl
@[simp] theorem State.setPair_eph : (s.setPair lo hi v).eph = s.eph := rfl
@[simp] theorem State.setPair_ephLast : (s.setPair lo hi v).ephLast = s.ephLast := rfl
@[simp] theorem State.setPair_ephCount : (s.setPair lo hi v).ephCount = s.ephCount := rfl
@[simp] theorem State.setPair_posts : (s.setPair lo hi v).posts = s.posts := rfl
@[simp] theorem State.setPair_ports : (s.setPair lo hi v).ports = s.ports := rfl
@[simp] theorem State.setPair_svcs : (s.setPair lo hi v).svcs = s.svcs := rfl
@[simp] theorem State.setPair_partnerRel : (s.setPair lo hi v).partnerRel = s.partnerRel := rfl
@[simp] theorem State.setPair_stitches : (s.setPair lo hi v).stitches = s.stitches := rfl
@[simp] theorem State.setPair_skeins : (s.setPair lo hi v).skeins = s.skeins := rfl
@[simp] theorem State.setPair_engines : (s.setPair lo hi v).engines = s.engines := rfl
@[simp] theorem State.setPair_rects : (s.setPair lo hi v).rects = s.rects := rfl
@[simp] theorem State.setPair_strs : (s.setPair lo hi v).strs = s.strs := rfl
@[simp] theorem State.setPair_slotx : (s.setPair lo hi v).slotx = s.slotx := rfl
@[simp] theorem State.setPair_budgets : (s.setPair lo hi v).budgets = s.budgets := rfl
@[simp] theorem State.setPair_rails : (s.setPair lo hi v).rails = s.rails := rfl
@[simp] theorem State.setPair_railRuns : (s.setPair lo hi v).railRuns = s.railRuns := rfl
@[simp] theorem State.setPair_seqs : (s.setPair lo hi v).seqs = s.seqs := rfl
@[simp] theorem State.setPair_adcs : (s.setPair lo hi v).adcs = s.adcs := rfl
@[simp] theorem State.setPair_ains : (s.setPair lo hi v).ains = s.ains := rfl
@[simp] theorem State.setPair_phases : (s.setPair lo hi v).phases = s.phases := rfl
@[simp] theorem State.setPair_sensors : (s.setPair lo hi v).sensors = s.sensors := rfl
@[simp] theorem State.setPair_tws : (s.setPair lo hi v).tws = s.tws := rfl
@[simp] theorem State.setPair_shelf : (s.setPair lo hi v).shelf = s.shelf := rfl
@[simp] theorem State.setPair_pair : (s.setPair lo hi v).pair = s.pair := rfl
@[simp] theorem State.setPair_faults : (s.setPair lo hi v).faults = s.faults := rfl
@[simp] theorem State.setPair_nv : (s.setPair lo hi v).nv = s.nv := rfl
@[simp] theorem State.setPair_trust : (s.setPair lo hi v).trust = s.trust := rfl
@[simp] theorem State.setPair_rst : (s.setPair lo hi v).rst = s.rst := rfl
@[simp] theorem State.setPair_thm : (s.setPair lo hi v).thm = s.thm := rfl
@[simp] theorem State.setPair_pattern : (s.setPair lo hi v).pattern = s.pattern := rfl
@[simp] theorem State.setPair_fresh : (s.setPair lo hi v).fresh = s.fresh := rfl
end

end Sys2Proof.Machine
end

