-- ==== Sys2Proof/Laws/Table.lean ====
section
/-! SUPPORT. Sparse tables and byte memories: a read after a write, the writes that leave a place alone, and that every
memory operation keeps the canonical form. -/
namespace Sys2Proof.Machine

/-! ### Tables -/

section
variable {α : Type}

@[simp] theorem Tbl.find?_put_self (t : Tbl α) (k : Nat) (v : α) : Tbl.find? (Tbl.put t k v) k = some v := by
  induction t with
  | nil => simp [Tbl.put, Tbl.find?]
  | cons x t ih =>
    obtain ⟨j, w⟩ := x
    simp only [Tbl.put]
    split
    · simp [Tbl.find?]
    · split
      · simp [Tbl.find?]
      · rename_i h _; simp [Tbl.find?, h, ih]

theorem Tbl.find?_put_ne (t : Tbl α) (k j : Nat) (v : α) (h : j ≠ k) : Tbl.find? (Tbl.put t k v) j = Tbl.find? t j := by
  induction t with
  | nil => simp [Tbl.put, Tbl.find?, h]
  | cons x t ih =>
    obtain ⟨i, w⟩ := x
    simp only [Tbl.put]
    split
    · subst_vars; simp [Tbl.find?, h]
    · split
      · simp [Tbl.find?, h]
      · simp only [Tbl.find?, ih]

@[simp] theorem Tbl.get_put_self (t : Tbl α) (k : Nat) (v d : α) : Tbl.get (Tbl.put t k v) k d = v := by simp [Tbl.get]
theorem Tbl.get_put_ne (t : Tbl α) (k j : Nat) (v d : α) (h : j ≠ k) : Tbl.get (Tbl.put t k v) j d = Tbl.get t j d := by
  simp [Tbl.get, Tbl.find?_put_ne t k j v h]
theorem Tbl.get_put (t : Tbl α) (k j : Nat) (v d : α) :
    Tbl.get (Tbl.put t k v) j d = if j = k then v else Tbl.get t j d := by
  split
  · subst_vars; simp
  · rename_i h; exact Tbl.get_put_ne t k j v d h

end

/-! ### Byte memories -/

theorem Mem.above_cons (lo : Nat) (c : Host.Cell) (t : List Host.Cell) :
    Mem.above lo (c :: t) = true ↔ lo < c.1 ∧ Mem.above lo t = true := by
  simp only [Mem.above, List.all_cons, Bool.and_eq_true, decide_eq_true_eq]

theorem Mem.wf_cons (d : Byte) (c : Host.Cell) (t : List Host.Cell) :
    Mem.wf d (c :: t) = true ↔ c.2 ≠ d ∧ Mem.above c.1 t = true ∧ Mem.wf d t = true := by
  simp only [Mem.wf, Bool.and_eq_true, decide_eq_true_eq, and_assoc]

theorem Mem.above_mono (lo hi : Nat) (m : List Host.Cell) (h : Mem.above hi m = true) (hl : lo ≤ hi) : Mem.above lo m = true := by
  simp only [Mem.above, List.all_eq_true, decide_eq_true_eq] at h ⊢
  exact fun x hx => Nat.lt_of_le_of_lt hl (h x hx)

theorem Mem.above_write (d : Byte) (m : List Host.Cell) (n lo : Nat) (v : Byte) (h : Mem.above lo m = true) (hn : lo < n) :
    Mem.above lo (Mem.write d m n v) = true := by
  induction m with
  | nil => simp only [Mem.write]; split <;> simp_all [Mem.above]
  | cons c t ih =>
    obtain ⟨k, w⟩ := c
    rw [Mem.above_cons] at h
    simp only [Mem.write]
    split
    · split
      · exact h.2
      · exact (Mem.above_cons ..).2 ⟨hn, h.2⟩
    · split
      · split
        · exact (Mem.above_cons ..).2 h
        · exact (Mem.above_cons ..).2 ⟨hn, (Mem.above_cons ..).2 h⟩
      · exact (Mem.above_cons ..).2 ⟨h.1, ih h.2⟩

/-- A write keeps the canonical form. -/
theorem Mem.wf_write (d : Byte) (m : List Host.Cell) (n : Nat) (v : Byte) (h : Mem.wf d m = true) :
    Mem.wf d (Mem.write d m n v) = true := by
  induction m with
  | nil => simp only [Mem.write]; split <;> simp_all [Mem.wf, Mem.above]
  | cons c t ih =>
    obtain ⟨k, w⟩ := c
    obtain ⟨h1, h2, h3⟩ := (Mem.wf_cons ..).1 h
    simp only [Mem.write]
    split
    · split
      · exact h3
      · rename_i he hv; subst he; exact (Mem.wf_cons ..).2 ⟨hv, h2, h3⟩
    · split
      · split
        · exact h
        · rename_i hlt hv
          exact (Mem.wf_cons ..).2 ⟨hv, (Mem.above_cons ..).2 ⟨hlt, Mem.above_mono _ _ _ h2 (Nat.le_of_lt hlt)⟩, h⟩
      · exact (Mem.wf_cons ..).2 ⟨h1, Mem.above_write d t n k v h2 (by omega), ih h3⟩

theorem Mem.wf_writeBytes (d : Byte) (bs : List Byte) (m : List Host.Cell) (a : Nat) (h : Mem.wf d m = true) :
    Mem.wf d (Mem.writeBytes d m a bs) = true := by
  induction bs generalizing m a with
  | nil => exact h
  | cons b t ih => exact ih _ _ (Mem.wf_write d m a b h)

theorem Mem.above_filter (m : List Host.Cell) (p : Host.Cell → Bool) (lo : Nat) (h : Mem.above lo m = true) :
    Mem.above lo (m.filter p) = true := by
  simp only [Mem.above, List.all_eq_true, decide_eq_true_eq] at h ⊢
  exact fun x hx => h x (List.mem_filter.1 hx).1

/-- Erasing a range keeps the canonical form. -/
theorem Mem.wf_filter (d : Byte) (m : List Host.Cell) (p : Host.Cell → Bool) (h : Mem.wf d m = true) :
    Mem.wf d (m.filter p) = true := by
  induction m with
  | nil => exact h
  | cons c t ih =>
    obtain ⟨h1, h2, h3⟩ := (Mem.wf_cons ..).1 h
    simp only [List.filter_cons]
    split
    · exact (Mem.wf_cons ..).2 ⟨h1, Mem.above_filter t p c.1 h2, ih h3⟩
    · exact ih h3

theorem Mem.read_cons (d : Byte) (k : Nat) (w : Byte) (t : List Host.Cell) (a : Nat) :
    Mem.read d ((k, w) :: t) a = if a = k then w else Mem.read d t a := by
  simp only [Mem.read, Tbl.get, Tbl.find?]
  split <;> rfl

theorem Mem.read_above (d : Byte) (m : List Host.Cell) (a lo : Nat) (h : Mem.above lo m = true) (ha : a ≤ lo) :
    Mem.read d m a = d := by
  induction m with
  | nil => rfl
  | cons c t ih =>
    obtain ⟨k, w⟩ := c
    obtain ⟨h1, h2⟩ := (Mem.above_cons ..).1 h
    simp only at h1
    rw [Mem.read_cons, if_neg (by omega)]
    exact ih h2

/-- A read after a write to the same place gives the value written, in a memory of canonical form. -/
theorem Mem.read_write_self (d : Byte) (m : List Host.Cell) (a : Nat) (v : Byte) (h : Mem.wf d m = true) :
    Mem.read d (Mem.write d m a v) a = v := by
  induction m with
  | nil =>
    simp only [Mem.write]
    split
    · subst_vars; rfl
    · simp [Mem.read_cons]
  | cons c t ih =>
    obtain ⟨k, w⟩ := c
    obtain ⟨h1, h2, h3⟩ := (Mem.wf_cons ..).1 h
    simp only [Mem.write]
    split
    · rename_i he
      split
      · rename_i hv; rw [hv]; exact Mem.read_above d t a k h2 (by omega)
      · simp [Mem.read_cons]
    · rename_i hne
      split
      · rename_i hlt
        split
        · rename_i hv; rw [hv, Mem.read_cons, if_neg hne]; exact Mem.read_above d t a k h2 (by omega)
        · simp [Mem.read_cons]
      · rw [Mem.read_cons, if_neg hne]; exact ih h3

/-- A write leaves every other place alone. -/
theorem Mem.read_write_ne (d : Byte) (m : List Host.Cell) (a b : Nat) (v : Byte) (h : b ≠ a) :
    Mem.read d (Mem.write d m a v) b = Mem.read d m b := by
  induction m with
  | nil =>
    simp only [Mem.write]
    split
    · rfl
    · simp [Mem.read_cons, h]
  | cons c t ih =>
    obtain ⟨k, w⟩ := c
    simp only [Mem.write]
    split
    · rename_i he
      have hb : b ≠ k := by omega
      split <;> simp [Mem.read_cons, hb, h]
    · split
      · split
        · rfl
        · simp [Mem.read_cons, h]
      · rw [Mem.read_cons, Mem.read_cons, ih]

theorem Mem.read_writeBytes_ne (d : Byte) (bs : List Byte) (m : List Host.Cell) (a b : Nat) (h : b < a ∨ a + bs.length ≤ b) :
    Mem.read d (Mem.writeBytes d m a bs) b = Mem.read d m b := by
  induction bs generalizing m a with
  | nil => rfl
  | cons x t ih =>
    simp only [List.length_cons] at h
    rw [Mem.writeBytes, ih _ _ (by omega), Mem.read_write_ne d m a b x (by omega)]

/-- Bytes read back after they are written. -/
theorem Mem.readBytes_writeBytes (d : Byte) (bs : List Byte) (m : List Host.Cell) (a : Nat) (h : Mem.wf d m = true) :
    Mem.readBytes d (Mem.writeBytes d m a bs) a bs.length = bs := by
  induction bs generalizing m a with
  | nil => rfl
  | cons x t ih =>
    simp only [List.length_cons, Mem.readBytes, Mem.writeBytes]
    rw [ih _ _ (Mem.wf_write d m a x h), Mem.read_writeBytes_ne d t _ (a + 1) a (by omega), Mem.read_write_self d m a x h]

theorem Mem.readBytes_writeBytes_ne (d : Byte) (bs : List Byte) (m : List Host.Cell) (a b n : Nat)
    (h : b + n ≤ a ∨ a + bs.length ≤ b) : Mem.readBytes d (Mem.writeBytes d m a bs) b n = Mem.readBytes d m b n := by
  induction n generalizing b with
  | zero => rfl
  | succ n ih =>
    rw [Mem.readBytes, Mem.readBytes, ih (b + 1) (by omega), Mem.read_writeBytes_ne d bs m a b (by omega)]

@[simp] theorem leBytes_length (n v : Nat) : (leBytes n v).length = n := by
  induction n generalizing v with
  | zero => rfl
  | succ n ih => simp [leBytes, ih]

/-- The bytes of a value give it back, modulo their width. -/
theorem leVal_leBytes (n v : Nat) : leVal (leBytes n v) = v % 256 ^ n := by
  induction n generalizing v with
  | zero => simp [leBytes, leVal, Nat.mod_one]
  | succ n ih =>
    have h : 256 ^ (n + 1) = 256 * 256 ^ n := by rw [Nat.pow_succ, Nat.mul_comm]
    simp only [leBytes, leVal, ih, BitVec.toNat_ofNat, h, Nat.mod_mul]

end Sys2Proof.Machine
end

