-- ==== Sys2Proof/Laws/Fields.lean ====
section
/-! SUPPORT. Objects and register fields read after they are updated: the one updated, and the others. -/
namespace Sys2Proof.Machine

/-! ### Bits of a word -/

theorem Word.testBit_bits (w : Word) (hi lo i : Nat) :
    (w.bits hi lo).testBit i = (decide (i < hi + 1 - lo) && w.toNat.testBit (lo + i)) := by
  simp only [Word.bits, Nat.testBit_mod_two_pow, Nat.testBit_div_two_pow, Nat.add_comm lo i]

theorem Word.toNat_withBits (w : Word) (hi lo v : Nat) (h : lo ≤ hi + 1) (h32 : hi < 32) :
    (w.withBits hi lo v).toNat =
      2 ^ (hi + 1) * (w.toNat / 2 ^ (hi + 1)) + (2 ^ lo * (v % 2 ^ (hi + 1 - lo)) + w.toNat % 2 ^ lo) := by
  have hm : v % 2 ^ (hi + 1 - lo) < 2 ^ (hi + 1 - lo) := Nat.mod_lt _ (Nat.two_pow_pos _)
  have hr : w.toNat % 2 ^ lo < 2 ^ lo := Nat.mod_lt _ (Nat.two_pow_pos _)
  have hp : 2 ^ lo * 2 ^ (hi + 1 - lo) = 2 ^ (hi + 1) := by rw [← Nat.pow_add]; congr 1; omega
  have hs : 2 ^ lo * (v % 2 ^ (hi + 1 - lo)) + w.toNat % 2 ^ lo < 2 ^ (hi + 1) := by
    rw [← hp]
    calc _ < 2 ^ lo * (v % 2 ^ (hi + 1 - lo)) + 2 ^ lo := by omega
      _ = 2 ^ lo * (v % 2 ^ (hi + 1 - lo) + 1) := by rw [Nat.mul_add, Nat.mul_one]
      _ ≤ _ := Nat.mul_le_mul_left _ hm
  have hq : 2 ^ (hi + 1) * 2 ^ (31 - hi) = 2 ^ 32 := by rw [← Nat.pow_add]; congr 1; omega
  have hw : w.toNat / 2 ^ (hi + 1) < 2 ^ (31 - hi) := by
    rw [Nat.div_lt_iff_lt_mul (Nat.two_pow_pos _), Nat.mul_comm, hq]; exact w.isLt
  have ht : 2 ^ (hi + 1) * (w.toNat / 2 ^ (hi + 1)) + 2 ^ (hi + 1) ≤ 2 ^ 32 := by
    rw [← hq]
    calc _ = 2 ^ (hi + 1) * (w.toNat / 2 ^ (hi + 1) + 1) := by rw [Nat.mul_add, Nat.mul_one]
      _ ≤ _ := Nat.mul_le_mul_left _ hw
  simp only [Word.withBits, BitVec.toNat_ofNat]
  rw [Nat.mod_eq_of_lt, Nat.mul_comm (_ / _), Nat.mul_comm (_ % _) (2 ^ lo), Nat.add_assoc]
  rw [Nat.mul_comm (_ / _), Nat.mul_comm (_ % _) (2 ^ lo)]
  omega

theorem Word.testBit_withBits (w : Word) (hi lo v i : Nat) (h : lo ≤ hi + 1) (h32 : hi < 32) :
    (w.withBits hi lo v).toNat.testBit i =
      if lo ≤ i ∧ i ≤ hi then v.testBit (i - lo) else w.toNat.testBit i := by
  have hr : w.toNat % 2 ^ lo < 2 ^ lo := Nat.mod_lt _ (Nat.two_pow_pos _)
  have hm : v % 2 ^ (hi + 1 - lo) < 2 ^ (hi + 1 - lo) := Nat.mod_lt _ (Nat.two_pow_pos _)
  have hp : 2 ^ lo * 2 ^ (hi + 1 - lo) = 2 ^ (hi + 1) := by rw [← Nat.pow_add]; congr 1; omega
  have hs : 2 ^ lo * (v % 2 ^ (hi + 1 - lo)) + w.toNat % 2 ^ lo < 2 ^ (hi + 1) := by
    rw [← hp]
    calc _ < 2 ^ lo * (v % 2 ^ (hi + 1 - lo)) + 2 ^ lo := by omega
      _ = 2 ^ lo * (v % 2 ^ (hi + 1 - lo) + 1) := by rw [Nat.mul_add, Nat.mul_one]
      _ ≤ _ := Nat.mul_le_mul_left _ hm
  rw [Word.toNat_withBits w hi lo v h h32, Nat.testBit_two_pow_mul_add _ hs, Nat.testBit_two_pow_mul_add _ hr]
  simp only [Nat.testBit_mod_two_pow, Nat.testBit_div_two_pow]
  by_cases h1 : i < hi + 1
  · by_cases h2 : i < lo
    · rw [if_pos h1, if_pos h2, if_neg (by omega)]; simp [h2]
    · rw [if_pos h1, if_neg h2, if_pos (by omega)]; simp; omega
  · rw [if_neg h1, if_neg (by omega)]; congr 1; omega

/-- The field that is replaced. -/
theorem Word.bits_withBits_self (w : Word) (hi lo v : Nat) (h : lo ≤ hi) (h32 : hi < 32) :
    (w.withBits hi lo v).bits hi lo = v % 2 ^ (hi + 1 - lo) := by
  apply Nat.eq_of_testBit_eq
  intro i
  rw [Word.testBit_bits, Word.testBit_withBits w hi lo v _ (by omega) h32, Nat.testBit_mod_two_pow]
  by_cases hi' : i < hi + 1 - lo
  · rw [if_pos (by omega)]; simp
  · simp [hi']

/-- Any other field of the word. -/
theorem Word.bits_withBits_other (w : Word) (hi lo v hi' lo' : Nat) (h : lo ≤ hi) (h32 : hi < 32) (hd : hi < lo' ∨ hi' < lo) :
    (w.withBits hi lo v).bits hi' lo' = w.bits hi' lo' := by
  apply Nat.eq_of_testBit_eq
  intro i
  rw [Word.testBit_bits, Word.testBit_bits, Word.testBit_withBits w hi lo v _ (by omega) h32]
  by_cases hi' : i < hi' + 1 - lo'
  · rw [if_neg (by omega)]
  · simp [hi']

/-! ### Register words and fields -/

@[simp] theorem State.word_putWord_self (s : State) (a : Nat) (w : Word) : (s.putWord a w).word a = w := by
  simp [State.word, State.putWord]

theorem State.word_putWord_ne (s : State) (a b : Nat) (w : Word) (h : b ≠ a) : (s.putWord a w).word b = s.word b := by
  simp [State.word, State.putWord, Tbl.find?_put_ne _ _ _ _ h]

/-- A hardware-owned field reads what was set, modulo its width. -/
theorem State.get_setF_self (s : State) (f : Fld) (v : Nat) (h : f.lo ≤ f.hi) (h32 : f.hi < 32) :
    (s.setF f v).get f = v % 2 ^ (f.hi + 1 - f.lo) := by
  simp only [State.get, State.setF, State.word_putWord_self]
  exact Word.bits_withBits_self _ _ _ _ h h32

/-- Fields of other registers, and other fields of the register, keep their values. -/
theorem State.get_setF_ne (s : State) (f g : Fld) (v : Nat) (h : f.lo ≤ f.hi) (h32 : f.hi < 32)
    (hd : g.a ≠ f.a ∨ f.hi < g.lo ∨ g.hi < f.lo) : (s.setF f v).get g = s.get g := by
  by_cases ha : g.a = f.a
  · simp only [State.get, State.setF, ha, State.word_putWord_self]
    exact Word.bits_withBits_other _ _ _ _ _ _ h h32 (by omega)
  · simp only [State.get, State.setF, State.word_putWord_ne _ _ _ _ ha]

theorem State.word_setF_ne (s : State) (f : Fld) (v a : Nat) (h : a ≠ f.a) : (s.setF f v).word a = s.word a :=
  State.word_putWord_ne s f.a a _ h

/-! ### One object after an update -/

section
variable (s : State) (i j : Nat) (f : CmdSlot → CmdSlot)
@[simp] theorem State.slotC_updSlotC_self : (s.updSlotC i f).slotC i = f (s.slotC i) := by simp [State.slotC, State.updSlotC]
theorem State.slotC_updSlotC_ne (h : j ≠ i) : (s.updSlotC i f).slotC j = s.slotC j := by simp [State.slotC, State.updSlotC, Tbl.get_put_ne _ _ _ _ _ h]
end

section
variable (s : State) (i j : Nat) (f : Mailbox → Mailbox)
@[simp] theorem State.mbx_updMbx_self : (s.updMbx i f).mbx i = f (s.mbx i) := by simp [State.mbx, State.updMbx]
theorem State.mbx_updMbx_ne (h : j ≠ i) : (s.updMbx i f).mbx j = s.mbx j := by simp [State.mbx, State.updMbx, Tbl.get_put_ne _ _ _ _ _ h]
end

section
variable (s : State) (i j : Nat) (f : Meridian → Meridian)
@[simp] theorem State.mer_updMer_self : (s.updMer i f).mer i = f (s.mer i) := by simp [State.mer, State.updMer]
theorem State.mer_updMer_ne (h : j ≠ i) : (s.updMer i f).mer j = s.mer j := by simp [State.mer, State.updMer, Tbl.get_put_ne _ _ _ _ _ h]
end

section
variable (s : State) (i j : Nat) (f : Fan → Fan)
@[simp] theorem State.fan_updFan_self : (s.updFan i f).fan i = f (s.fan i) := by simp [State.fan, State.updFan]
theorem State.fan_updFan_ne (h : j ≠ i) : (s.updFan i f).fan j = s.fan j := by simp [State.fan, State.updFan, Tbl.get_put_ne _ _ _ _ _ h]
end

section
variable (s : State) (i j : Nat) (f : EphEntry → EphEntry)
@[simp] theorem State.ephE_updEphE_self : (s.updEphE i f).ephE i = f (s.ephE i) := by simp [State.ephE, State.updEphE]
theorem State.ephE_updEphE_ne (h : j ≠ i) : (s.updEphE i f).ephE j = s.ephE j := by simp [State.ephE, State.updEphE, Tbl.get_put_ne _ _ _ _ _ h]
end

section
variable (s : State) (i j : Nat) (f : Port → Port)
@[simp] theorem State.port_updPort_self : (s.updPort i f).port i = f (s.port i) := by simp [State.port, State.updPort]
theorem State.port_updPort_ne (h : j ≠ i) : (s.updPort i f).port j = s.port j := by simp [State.port, State.updPort, Tbl.get_put_ne _ _ _ _ _ h]
end

section
variable (s : State) (i j : Nat) (f : Svc → Svc)
@[simp] theorem State.svc_updSvc_self : (s.updSvc i f).svc i = f (s.svc i) := by simp [State.svc, State.updSvc]
theorem State.svc_updSvc_ne (h : j ≠ i) : (s.updSvc i f).svc j = s.svc j := by simp [State.svc, State.updSvc, Tbl.get_put_ne _ _ _ _ _ h]
end

section
variable (s : State) (i j : Nat) (f : Stitch → Stitch)
@[simp] theorem State.st_updSt_self : (s.updSt i f).st i = f (s.st i) := by simp [State.st, State.updSt]
theorem State.st_updSt_ne (h : j ≠ i) : (s.updSt i f).st j = s.st j := by simp [State.st, State.updSt, Tbl.get_put_ne _ _ _ _ _ h]
end

section
variable (s : State) (i j : Nat) (f : Skein → Skein)
@[simp] theorem State.sk_updSk_self : (s.updSk i f).sk i = f (s.sk i) := by simp [State.sk, State.updSk]
theorem State.sk_updSk_ne (h : j ≠ i) : (s.updSk i f).sk j = s.sk j := by simp [State.sk, State.updSk, Tbl.get_put_ne _ _ _ _ _ h]
end

section
variable (s : State) (i j : Nat) (f : Engine → Engine)
@[simp] theorem State.eng_updEng_self : (s.updEng i f).eng i = f (s.eng i) := by simp [State.eng, State.updEng]
theorem State.eng_updEng_ne (h : j ≠ i) : (s.updEng i f).eng j = s.eng j := by simp [State.eng, State.updEng, Tbl.get_put_ne _ _ _ _ _ h]
end

section
variable (s : State) (i j : Nat) (f : Rect → Rect)
@[simp] theorem State.rect_updRect_self : (s.updRect i f).rect i = f (s.rect i) := by simp [State.rect, State.updRect]
theorem State.rect_updRect_ne (h : j ≠ i) : (s.updRect i f).rect j = s.rect j := by simp [State.rect, State.updRect, Tbl.get_put_ne _ _ _ _ _ h]
end

section
variable (s : State) (i j : Nat) (f : Str → Str)
@[simp] theorem State.str_updStr_self : (s.updStr i f).str i = f (s.str i) := by simp [State.str, State.updStr]
theorem State.str_updStr_ne (h : j ≠ i) : (s.updStr i f).str j = s.str j := by simp [State.str, State.updStr, Tbl.get_put_ne _ _ _ _ _ h]
end

section
variable (s : State) (i j : Nat) (f : Slot → Slot)
@[simp] theorem State.slot_updSlot_self : (s.updSlot i f).slot i = f (s.slot i) := by simp [State.slot, State.updSlot]
theorem State.slot_updSlot_ne (h : j ≠ i) : (s.updSlot i f).slot j = s.slot j := by simp [State.slot, State.updSlot, Tbl.get_put_ne _ _ _ _ _ h]
end

section
variable (s : State) (i j : Nat) (f : Budget → Budget)
@[simp] theorem State.bgt_updBgt_self : (s.updBgt i f).bgt i = f (s.bgt i) := by simp [State.bgt, State.updBgt]
theorem State.bgt_updBgt_ne (h : j ≠ i) : (s.updBgt i f).bgt j = s.bgt j := by simp [State.bgt, State.updBgt, Tbl.get_put_ne _ _ _ _ _ h]
end

section
variable (s : State) (i j : Nat) (f : RailRun → RailRun)
@[simp] theorem State.rrun_updRrun_self : (s.updRrun i f).rrun i = f (s.rrun i) := by simp [State.rrun, State.updRrun]
theorem State.rrun_updRrun_ne (h : j ≠ i) : (s.updRrun i f).rrun j = s.rrun j := by simp [State.rrun, State.updRrun, Tbl.get_put_ne _ _ _ _ _ h]
end

section
variable (s : State) (i j : Nat) (f : Seq → Seq)
@[simp] theorem State.seq_updSeq_self : (s.updSeq i f).seq i = f (s.seq i) := by simp [State.seq, State.updSeq]
theorem State.seq_updSeq_ne (h : j ≠ i) : (s.updSeq i f).seq j = s.seq j := by simp [State.seq, State.updSeq, Tbl.get_put_ne _ _ _ _ _ h]
end

section
variable (s : State) (i j : Nat) (f : Adc → Adc)
@[simp] theorem State.adc_updAdc_self : (s.updAdc i f).adc i = f (s.adc i) := by simp [State.adc, State.updAdc]
theorem State.adc_updAdc_ne (h : j ≠ i) : (s.updAdc i f).adc j = s.adc j := by simp [State.adc, State.updAdc, Tbl.get_put_ne _ _ _ _ _ h]
end

section
variable (s : State) (i j : Nat) (f : Ain → Ain)
@[simp] theorem State.ain_updAin_self : (s.updAin i f).ain i = f (s.ain i) := by simp [State.ain, State.updAin]
theorem State.ain_updAin_ne (h : j ≠ i) : (s.updAin i f).ain j = s.ain j := by simp [State.ain, State.updAin, Tbl.get_put_ne _ _ _ _ _ h]
end

section
variable (s : State) (i j : Nat) (f : Phase3 → Phase3)
@[simp] theorem State.ph_updPh_self : (s.updPh i f).ph i = f (s.ph i) := by simp [State.ph, State.updPh]
theorem State.ph_updPh_ne (h : j ≠ i) : (s.updPh i f).ph j = s.ph j := by simp [State.ph, State.updPh, Tbl.get_put_ne _ _ _ _ _ h]
end

section
variable (s : State) (i j : Nat) (f : Sensor → Sensor)
@[simp] theorem State.sens_updSens_self : (s.updSens i f).sens i = f (s.sens i) := by simp [State.sens, State.updSens]
theorem State.sens_updSens_ne (h : j ≠ i) : (s.updSens i f).sens j = s.sens j := by simp [State.sens, State.updSens, Tbl.get_put_ne _ _ _ _ _ h]
end

section
variable (s : State) (i j : Nat) (f : Tw → Tw)
@[simp] theorem State.tw_updTw_self : (s.updTw i f).tw i = f (s.tw i) := by simp [State.tw, State.updTw]
theorem State.tw_updTw_ne (h : j ≠ i) : (s.updTw i f).tw j = s.tw j := by simp [State.tw, State.updTw, Tbl.get_put_ne _ _ _ _ _ h]
end

@[simp] theorem State.updShelf_self (s : State) (f : Shelf → Shelf) : (s.updShelf f).shelf = f s.shelf := rfl
@[simp] theorem State.updPair_self (s : State) (f : Pair → Pair) : (s.updPair f).pair = f s.pair := rfl
@[simp] theorem State.updFaults_self (s : State) (f : Faults → Faults) : (s.updFaults f).faults = f s.faults := rfl
@[simp] theorem State.updNv_self (s : State) (f : Nv → Nv) : (s.updNv f).nv = f s.nv := rfl
@[simp] theorem State.updTrust_self (s : State) (f : Trust → Trust) : (s.updTrust f).trust = f s.trust := rfl
@[simp] theorem State.updRst_self (s : State) (f : Reset → Reset) : (s.updRst f).rst = f s.rst := rfl
@[simp] theorem State.updThm_self (s : State) (f : Thermal → Thermal) : (s.updThm f).thm = f s.thm := rfl
@[simp] theorem State.emitNow_out_self (s : State) (o : Out) : (s.emitNow o).out = s.out ++ [o] := rfl

end Sys2Proof.Machine
end

