-- ==== Sys2Proof/Laws/Keeps.lean ====
section
/-! SUPPORT. What every shared operation keeps: the queue, the chassis time and the canonical form of the four memories.
One lemma per operation, so that a proof about a command cites them and unfolds none. -/
namespace Sys2Proof.Machine
set_option Elab.async false

open Sys2Proof.Safety

/-- `t` has the queue and the chassis time of `s`, and its memories are in canonical form if those of `s` are. -/
structure Keeps (s t : State) : Prop where
  pending : t.pending = s.pending
  ct : t.ct = s.ct
  mem : MemWf s → MemWf t

theorem Keeps.rfl' (s : State) : Keeps s s := ⟨rfl, rfl, id⟩

theorem Keeps.trans {r s t : State} (h : Keeps r s) (k : Keeps s t) : Keeps r t :=
  ⟨k.pending.trans h.pending, k.ct.trans h.ct, fun w => k.mem (h.mem w)⟩

theorem Keeps.ite {r a b : State} {c : Prop} [Decidable c] (h : Keeps r a) (k : Keeps r b) : Keeps r (if c then a else b) := by
  split
  · exact h
  · exact k

theorem Keeps.foldl {α : Type} {r : State} {f : State → α → State} {l : List α} {a : State} (h : ∀ x b, Keeps r x → Keeps r (f x b))
    (h0 : Keeps r a) : Keeps r (l.foldl f a) := by
  induction l generalizing a with
  | nil => exact h0
  | cons b l ih => exact ih (h a b h0)

theorem Keeps.forN {r : State} {f : State → Nat → State} {n : Nat} {a : State} (h : ∀ x b, Keeps r x → Keeps r (f x b))
    (h0 : Keeps r a) : Keeps r (forN n a f) := Keeps.foldl h h0

theorem Keeps.when {r s : State} {c : Bool} {f : State → State} (h0 : Keeps r s) (h : ∀ x, Keeps r x → Keeps r (f x)) :
    Keeps r (s.when c f) := by
  unfold State.when
  split
  · exact h s h0
  · exact h0

/-- An update of any of the other fields. -/
theorem Keeps.upd (r s : State) (regs : Tbl Word) (latchHi : Tbl Word) (heldLo : Tbl Word) (hwTouched : List Touch) (swTouched : List (Nat × Nat × Nat)) (collided : List (Nat × Nat × Nat)) (cmpOld : Tbl (Word × Word × Word)) (cmpDone : List Nat) (out : List Out) (hdrs : List CellHdr) (slots : Tbl CmdSlot) (mbxs : Tbl Mailbox) (ctrlTurn : Nat) (bulkTurn : Nat) (entering : List (Nat × Nat × Nat)) (vfOff : List Nat) (viMap : Tbl (Option Nat)) (viMapNext : Tbl (Option Nat)) (mers : Tbl Meridian) (fans : Tbl Fan) (gpio : BitVec 64) (gpioDriven : BitVec 64) (debugHalt : Bool) (debugLock : Bool) (eph : Tbl EphEntry) (ephLast : Nat) (ephCount : Nat) (posts : List MovePost) (ports : Tbl Port) (svcs : Tbl Svc) (partnerRel : Reliable) (stitches : Tbl Stitch) (skeins : Tbl Skein) (engines : Tbl Engine) (rects : Tbl Rect) (strs : Tbl Str) (slotx : Tbl Slot) (budgets : Tbl Budget) (rails : Tbl (Option Rail)) (railRuns : Tbl RailRun) (seqs : Tbl Seq) (adcs : Tbl Adc) (ains : Tbl Ain) (phases : Tbl Phase3) (sensors : Tbl Sensor) (tws : Tbl Tw) (shelf : Shelf) (pair : Pair) (faults : Faults) (nv : Nv) (trust : Trust) (rst : Reset) (thm : Thermal) (pattern : Pattern) (fresh : Nat) :
    Keeps r { pending := s.pending, ct := s.ct, regs := regs, latchHi := latchHi, heldLo := heldLo, hwTouched := hwTouched, swTouched := swTouched, collided := collided, cmpOld := cmpOld, cmpDone := cmpDone, out := out, hdrs := hdrs, mem := s.mem, flash0 := s.flash0, flash1 := s.flash1, hubStage := s.hubStage, slots := slots, mbxs := mbxs, ctrlTurn := ctrlTurn, bulkTurn := bulkTurn, entering := entering, vfOff := vfOff, viMap := viMap, viMapNext := viMapNext, mers := mers, fans := fans, gpio := gpio, gpioDriven := gpioDriven, debugHalt := debugHalt, debugLock := debugLock, eph := eph, ephLast := ephLast, ephCount := ephCount, posts := posts, ports := ports, svcs := svcs, partnerRel := partnerRel, stitches := stitches, skeins := skeins, engines := engines, rects := rects, strs := strs, slotx := slotx, budgets := budgets, rails := rails, railRuns := railRuns, seqs := seqs, adcs := adcs, ains := ains, phases := phases, sensors := sensors, tws := tws, shelf := shelf, pair := pair, faults := faults, nv := nv, trust := trust, rst := rst, thm := thm, pattern := pattern, fresh := fresh } ↔ Keeps r s :=
  ⟨fun h => ⟨h.pending, h.ct, h.mem⟩, fun h => ⟨h.pending, h.ct, h.mem⟩⟩


/-- A write to the mailbox memory. -/
theorem Keeps.memWrite {r s : State} (h : Keeps r s) (a : Nat) (l : List Byte) : Keeps r { s with mem := Mem.writeBytes Mem.blank s.mem a l } :=
  ⟨h.pending, h.ct, fun w => ⟨Mem.wf_writeBytes _ _ _ _ (h.mem w).1, (h.mem w).2⟩⟩

/-- The first component of an answer. -/
theorem Keeps.ofFst {α : Type} {s₀ t : State} {p : State × α} {a : α} (e : p = (t, a)) (h : Keeps s₀ p.1) : Keeps s₀ t := by
  rw [e] at h
  exact h

/-- A reset: the queue, the chassis time and the flash devices stay, the other memories are empty. -/
theorem Keeps.reset {r s : State} (h : Keeps r s) (regs : Tbl Word) (latchHi : Tbl Word) (heldLo : Tbl Word) (hwTouched : List Touch) (swTouched : List (Nat × Nat × Nat)) (collided : List (Nat × Nat × Nat)) (cmpOld : Tbl (Word × Word × Word)) (cmpDone : List Nat) (out : List Out) (hdrs : List CellHdr) (slots : Tbl CmdSlot) (mbxs : Tbl Mailbox) (ctrlTurn : Nat) (bulkTurn : Nat) (entering : List (Nat × Nat × Nat)) (vfOff : List Nat) (viMap : Tbl (Option Nat)) (viMapNext : Tbl (Option Nat)) (mers : Tbl Meridian) (fans : Tbl Fan) (gpio : BitVec 64) (gpioDriven : BitVec 64) (debugHalt : Bool) (debugLock : Bool) (eph : Tbl EphEntry) (ephLast : Nat) (ephCount : Nat) (posts : List MovePost) (ports : Tbl Port) (svcs : Tbl Svc) (partnerRel : Reliable) (stitches : Tbl Stitch) (skeins : Tbl Skein) (engines : Tbl Engine) (rects : Tbl Rect) (strs : Tbl Str) (slotx : Tbl Slot) (budgets : Tbl Budget) (rails : Tbl (Option Rail)) (railRuns : Tbl RailRun) (seqs : Tbl Seq) (adcs : Tbl Adc) (ains : Tbl Ain) (phases : Tbl Phase3) (sensors : Tbl Sensor) (tws : Tbl Tw) (shelf : Shelf) (pair : Pair) (faults : Faults) (nv : Nv) (trust : Trust) (rst : Reset) (thm : Thermal) (pattern : Pattern) (fresh : Nat) :
    Keeps r { pending := s.pending, ct := s.ct, regs := regs, latchHi := latchHi, heldLo := heldLo, hwTouched := hwTouched, swTouched := swTouched, collided := collided, cmpOld := cmpOld, cmpDone := cmpDone, out := out, hdrs := hdrs, mem := State.reset.mem, flash0 := s.flash0, flash1 := s.flash1, hubStage := State.reset.hubStage, slots := slots, mbxs := mbxs, ctrlTurn := ctrlTurn, bulkTurn := bulkTurn, entering := entering, vfOff := vfOff, viMap := viMap, viMapNext := viMapNext, mers := mers, fans := fans, gpio := gpio, gpioDriven := gpioDriven, debugHalt := debugHalt, debugLock := debugLock, eph := eph, ephLast := ephLast, ephCount := ephCount, posts := posts, ports := ports, svcs := svcs, partnerRel := partnerRel, stitches := stitches, skeins := skeins, engines := engines, rects := rects, strs := strs, slotx := slotx, budgets := budgets, rails := rails, railRuns := railRuns, seqs := seqs, adcs := adcs, ains := ains, phases := phases, sensors := sensors, tws := tws, shelf := shelf, pair := pair, faults := faults, nv := nv, trust := trust, rst := rst, thm := thm, pattern := pattern, fresh := fresh } :=
  ⟨h.pending, h.ct, fun w => ⟨rfl, rfl, (h.mem w).2.2⟩⟩

theorem Keeps.foldlFst {α β : Type} {r : State} {f : State × β → α → State × β} {l : List α} {a : State × β}
    (h : ∀ x b, Keeps r x.1 → Keeps r (f x b).1) (h0 : Keeps r a.1) : Keeps r (l.foldl f a).1 := by
  induction l generalizing a with
  | nil => exact h0
  | cons b l ih => exact ih (h a b h0)

theorem Keeps.getD {r a : State} {o : Option State} (h : ∀ t, o = some t → Keeps r t) (k : Keeps r a) : Keeps r (o.getD a) := by
  cases o with
  | none => exact k
  | some t => exact h t rfl


/-! ### Access -/

theorem State.updSlotC_keeps {s₀ s : State} (h : Keeps s₀ s) (i : Nat) (f : CmdSlot → CmdSlot) : Keeps s₀ (s.updSlotC i f) := by
  unfold State.updSlotC
  repeat' (first | with_reducible assumption | simp only [Keeps.upd])

theorem State.updMbx_keeps {s₀ s : State} (h : Keeps s₀ s) (i : Nat) (f : Mailbox → Mailbox) : Keeps s₀ (s.updMbx i f) := by
  unfold State.updMbx
  repeat' (first | with_reducible assumption | simp only [Keeps.upd])

theorem State.updMer_keeps {s₀ s : State} (h : Keeps s₀ s) (i : Nat) (f : Meridian → Meridian) : Keeps s₀ (s.updMer i f) := by
  unfold State.updMer
  repeat' (first | with_reducible assumption | simp only [Keeps.upd])

theorem State.updFan_keeps {s₀ s : State} (h : Keeps s₀ s) (i : Nat) (f : Fan → Fan) : Keeps s₀ (s.updFan i f) := by
  unfold State.updFan
  repeat' (first | with_reducible assumption | simp only [Keeps.upd])

theorem State.updEphE_keeps {s₀ s : State} (h : Keeps s₀ s) (i : Nat) (f : EphEntry → EphEntry) : Keeps s₀ (s.updEphE i f) := by
  unfold State.updEphE
  repeat' (first | with_reducible assumption | simp only [Keeps.upd])

theorem State.updPort_keeps {s₀ s : State} (h : Keeps s₀ s) (i : Nat) (f : Port → Port) : Keeps s₀ (s.updPort i f) := by
  unfold State.updPort
  repeat' (first | with_reducible assumption | simp only [Keeps.upd])

theorem State.updSvc_keeps {s₀ s : State} (h : Keeps s₀ s) (i : Nat) (f : Svc → Svc) : Keeps s₀ (s.updSvc i f) := by
  unfold State.updSvc
  repeat' (first | with_reducible assumption | simp only [Keeps.upd])

theorem State.updSt_keeps {s₀ s : State} (h : Keeps s₀ s) (i : Nat) (f : Stitch → Stitch) : Keeps s₀ (s.updSt i f) := by
  unfold State.updSt
  repeat' (first | with_reducible assumption | simp only [Keeps.upd])

theorem State.updSk_keeps {s₀ s : State} (h : Keeps s₀ s) (i : Nat) (f : Skein → Skein) : Keeps s₀ (s.updSk i f) := by
  unfold State.updSk
  repeat' (first | with_reducible assumption | simp only [Keeps.upd])

theorem State.updEng_keeps {s₀ s : State} (h : Keeps s₀ s) (i : Nat) (f : Engine → Engine) : Keeps s₀ (s.updEng i f) := by
  unfold State.updEng
  repeat' (first | with_reducible assumption | simp only [Keeps.upd])

theorem State.updRect_keeps {s₀ s : State} (h : Keeps s₀ s) (i : Nat) (f : Rect → Rect) : Keeps s₀ (s.updRect i f) := by
  unfold State.updRect
  repeat' (first | with_reducible assumption | simp only [Keeps.upd])

theorem State.updStr_keeps {s₀ s : State} (h : Keeps s₀ s) (i : Nat) (f : Str → Str) : Keeps s₀ (s.updStr i f) := by
  unfold State.updStr
  repeat' (first | with_reducible assumption | simp only [Keeps.upd])

theorem State.updSlot_keeps {s₀ s : State} (h : Keeps s₀ s) (i : Nat) (f : Slot → Slot) : Keeps s₀ (s.updSlot i f) := by
  unfold State.updSlot
  repeat' (first | with_reducible assumption | simp only [Keeps.upd])

theorem State.updBgt_keeps {s₀ s : State} (h : Keeps s₀ s) (i : Nat) (f : Budget → Budget) : Keeps s₀ (s.updBgt i f) := by
  unfold State.updBgt
  repeat' (first | with_reducible assumption | simp only [Keeps.upd])

theorem State.updRrun_keeps {s₀ s : State} (h : Keeps s₀ s) (i : Nat) (f : RailRun → RailRun) : Keeps s₀ (s.updRrun i f) := by
  unfold State.updRrun
  repeat' (first | with_reducible assumption | simp only [Keeps.upd])

theorem State.updSeq_keeps {s₀ s : State} (h : Keeps s₀ s) (i : Nat) (f : Seq → Seq) : Keeps s₀ (s.updSeq i f) := by
  unfold State.updSeq
  repeat' (first | with_reducible assumption | simp only [Keeps.upd])

theorem State.updAdc_keeps {s₀ s : State} (h : Keeps s₀ s) (i : Nat) (f : Adc → Adc) : Keeps s₀ (s.updAdc i f) := by
  unfold State.updAdc
  repeat' (first | with_reducible assumption | simp only [Keeps.upd])

theorem State.updAin_keeps {s₀ s : State} (h : Keeps s₀ s) (i : Nat) (f : Ain → Ain) : Keeps s₀ (s.updAin i f) := by
  unfold State.updAin
  repeat' (first | with_reducible assumption | simp only [Keeps.upd])

theorem State.updPh_keeps {s₀ s : State} (h : Keeps s₀ s) (i : Nat) (f : Phase3 → Phase3) : Keeps s₀ (s.updPh i f) := by
  unfold State.updPh
  repeat' (first | with_reducible assumption | simp only [Keeps.upd])

theorem State.updSens_keeps {s₀ s : State} (h : Keeps s₀ s) (i : Nat) (f : Sensor → Sensor) : Keeps s₀ (s.updSens i f) := by
  unfold State.updSens
  repeat' (first | with_reducible assumption | simp only [Keeps.upd])

theorem State.updTw_keeps {s₀ s : State} (h : Keeps s₀ s) (i : Nat) (f : Tw → Tw) : Keeps s₀ (s.updTw i f) := by
  unfold State.updTw
  repeat' (first | with_reducible assumption | simp only [Keeps.upd])

theorem State.updShelf_keeps {s₀ s : State} (h : Keeps s₀ s) (f : Shelf → Shelf) : Keeps s₀ (s.updShelf f) := by
  unfold State.updShelf
  repeat' (first | with_reducible assumption | simp only [Keeps.upd])

theorem State.updPair_keeps {s₀ s : State} (h : Keeps s₀ s) (f : Pair → Pair) : Keeps s₀ (s.updPair f) := by
  unfold State.updPair
  repeat' (first | with_reducible assumption | simp only [Keeps.upd])

theorem State.updFaults_keeps {s₀ s : State} (h : Keeps s₀ s) (f : Faults → Faults) : Keeps s₀ (s.updFaults f) := by
  unfold State.updFaults
  repeat' (first | with_reducible assumption | simp only [Keeps.upd])

theorem State.updNv_keeps {s₀ s : State} (h : Keeps s₀ s) (f : Nv → Nv) : Keeps s₀ (s.updNv f) := by
  unfold State.updNv
  repeat' (first | with_reducible assumption | simp only [Keeps.upd])

theorem State.updTrust_keeps {s₀ s : State} (h : Keeps s₀ s) (f : Trust → Trust) : Keeps s₀ (s.updTrust f) := by
  unfold State.updTrust
  repeat' (first | with_reducible assumption | simp only [Keeps.upd])

theorem State.updRst_keeps {s₀ s : State} (h : Keeps s₀ s) (f : Reset → Reset) : Keeps s₀ (s.updRst f) := by
  unfold State.updRst
  repeat' (first | with_reducible assumption | simp only [Keeps.upd])

theorem State.updThm_keeps {s₀ s : State} (h : Keeps s₀ s) (f : Thermal → Thermal) : Keeps s₀ (s.updThm f) := by
  unfold State.updThm
  repeat' (first | with_reducible assumption | simp only [Keeps.upd])

theorem State.emitNow_keeps {s₀ s : State} (h : Keeps s₀ s) (o : Out) : Keeps s₀ (s.emitNow o) := by
  unfold State.emitNow
  repeat' (first | with_reducible assumption | simp only [Keeps.upd])


/-! ### Regs -/

theorem State.putWord_keeps {s₀ s : State} (h : Keeps s₀ s) (a : Nat) (w : Word) : Keeps s₀ (s.putWord a w) := by
  unfold State.putWord
  repeat' (first | with_reducible assumption | simp only [Keeps.upd])

theorem State.setF_keeps {s₀ s : State} (h : Keeps s₀ s) (f : Fld) (v : Nat) : Keeps s₀ (s.setF f v) := by
  unfold State.setF
  repeat' (first | with_reducible assumption | with_reducible apply State.putWord_keeps)

theorem State.setI_keeps {s₀ s : State} (h : Keeps s₀ s) (f : Fld) (v : Int) : Keeps s₀ (s.setI f v) := by
  unfold State.setI
  repeat' (first | with_reducible assumption | with_reducible apply State.setF_keeps)

theorem State.setB_keeps {s₀ s : State} (h : Keeps s₀ s) (f : Fld) (b : Bool) : Keeps s₀ (s.setB f b) := by
  unfold State.setB
  repeat' (first | with_reducible assumption | with_reducible apply State.setF_keeps)

theorem State.setPair_keeps {s₀ s : State} (h : Keeps s₀ s) (lo hi : Nat) (v : Nat) : Keeps s₀ (s.setPair lo hi v) := by
  unfold State.setPair
  repeat' (first | with_reducible assumption | with_reducible apply State.putWord_keeps)

theorem State.collide_keeps {s₀ s : State} (h : Keeps s₀ s) (f : Nat × Nat × Nat) : Keeps s₀ (s.collide f) := by
  unfold State.collide
  repeat' (first | with_reducible assumption | with_reducible apply State.setF_keeps | with_reducible apply Keeps.ite | simp only [Keeps.upd])

theorem State.touch_keeps {s₀ s : State} (h : Keeps s₀ s) (f : Fld) (t : Touch) : Keeps s₀ (s.touch f t) := by
  unfold State.touch
  repeat' (first | with_reducible assumption | with_reducible apply State.collide_keeps | simp only [Keeps.upd] | split)

theorem State.flag_keeps {s₀ s : State} (h : Keeps s₀ s) (f : Fld) : Keeps s₀ (s.flag f) := by
  unfold State.flag
  repeat' (first | with_reducible assumption | with_reducible apply State.setF_keeps | with_reducible apply State.touch_keeps)

theorem State.countN_keeps {s₀ s : State} (h : Keeps s₀ s) (f : Fld) (n : Nat) : Keeps s₀ (s.countN f n) := by
  unfold State.countN
  repeat' (first | with_reducible assumption | with_reducible apply State.setF_keeps | with_reducible apply State.touch_keeps)

theorem State.count_keeps {s₀ s : State} (h : Keeps s₀ s) (f : Fld) : Keeps s₀ (s.count f) := by
  unfold State.count
  repeat' (first | with_reducible assumption | with_reducible apply State.countN_keeps)

theorem State.raiseTo_keeps {s₀ s : State} (h : Keeps s₀ s) (f : Fld) (v : Nat) : Keeps s₀ (s.raiseTo f v) := by
  unfold State.raiseTo
  repeat' (first | with_reducible assumption | with_reducible apply State.setF_keeps | with_reducible apply State.touch_keeps | with_reducible apply Keeps.ite)

theorem State.lowerTo_keeps {s₀ s : State} (h : Keeps s₀ s) (f : Fld) (v : Nat) : Keeps s₀ (s.lowerTo f v) := by
  unfold State.lowerTo
  repeat' (first | with_reducible assumption | with_reducible apply State.setF_keeps | with_reducible apply State.touch_keeps | with_reducible apply Keeps.ite)

theorem State.drop_keeps {s₀ s : State} (h : Keeps s₀ s) (f : Fld) : Keeps s₀ (s.drop f) := by
  unfold State.drop
  repeat' (first | with_reducible assumption | with_reducible apply State.setF_keeps | with_reducible apply State.touch_keeps)


/-! ### Transmit -/

theorem State.updRel_keeps {s₀ s : State} (h : Keeps s₀ s) (l : LinkId) (f : Reliable → Reliable) : Keeps s₀ (s.updRel l f) := by
  unfold State.updRel
  repeat' (first | with_reducible assumption | with_reducible apply State.updPort_keeps | with_reducible apply State.updSvc_keeps | simp only [Keeps.upd] | split)

theorem State.slotTaken_keeps {s₀ s : State} (h : Keeps s₀ s) (c : CellKind) : Keeps s₀ (s.slotTaken c) := by
  unfold State.slotTaken
  repeat' (first | with_reducible assumption | with_reducible apply State.updPort_keeps | with_reducible apply Keeps.ite | simp only [Keeps.upd] | split)

theorem State.enterPhy_keeps {s₀ s : State} (h : Keeps s₀ s) (o : Out) (seq : Nat) (retx : Bool) : Keeps s₀ (s.enterPhy o seq retx) := by
  unfold State.enterPhy
  repeat' (first | with_reducible assumption | with_reducible apply State.slotTaken_keeps | simp only [Keeps.upd] | split)

theorem State.sendFresh_keeps {s₀ s : State} (h : Keeps s₀ s) (l : LinkId) (x : Nat × Out) : Keeps s₀ (s.sendFresh l x) := by
  unfold State.sendFresh
  repeat' (first | with_reducible assumption | with_reducible apply State.updRel_keeps | with_reducible apply State.enterPhy_keeps | with_reducible apply Keeps.ite)

theorem State.sendNext_keeps {s₀ s t : State} (h : Keeps s₀ s) (l : LinkId) (e : s.sendNext l = some t) : Keeps s₀ t := by
  unfold State.sendNext at e
  simp only at e
  split at e
  · cases e; exact State.sendFresh_keeps h _ _
  · split at e
    · cases e; exact State.enterPhy_keeps (State.updRel_keeps h _ _) _ _ _
    · split at e
      · rw [Option.map_eq_some_iff] at e
        obtain ⟨x, _, rfl⟩ := e
        exact State.sendFresh_keeps h _ _
      · cases e

theorem State.sendFirst_keeps {s₀ s t : State} (h : Keeps s₀ s) (l : LinkId) (e : s.sendFirst l = some t) : Keeps s₀ t := by
  unfold State.sendFirst at e
  split at e
  · rw [Option.map_eq_some_iff] at e
    obtain ⟨x, _, rfl⟩ := e
    exact State.sendFresh_keeps h _ _
  · exact State.sendNext_keeps h l e

theorem State.pumpGo_keeps {s₀ s : State} (h : Keeps s₀ s) (l : LinkId) (n : Nat) : Keeps s₀ (s.pumpGo l n) := by
  induction n generalizing s with
  | zero => exact h
  | succ n ih =>
    unfold State.pumpGo
    split
    · split
      · rename_i e
        exact ih (State.sendFirst_keeps h l e)
      · exact h
    · exact h

theorem State.pump_keeps {s₀ s : State} (h : Keeps s₀ s) (l : LinkId) : Keeps s₀ (s.pump l) := by
  unfold State.pump
  repeat' (first | with_reducible assumption | with_reducible apply State.pumpGo_keeps)

theorem State.emit_keeps {s₀ s : State} (h : Keeps s₀ s) (o : Out) : Keeps s₀ (s.emit o) := by
  unfold State.emit
  repeat' (first | with_reducible assumption | with_reducible apply State.emitNow_keeps | with_reducible apply State.updRel_keeps | with_reducible apply State.pump_keeps | with_reducible apply Keeps.ite | simp only [Keeps.upd] | split)

theorem State.sawXoff_keeps {s₀ s : State} (h : Keeps s₀ s) (l : LinkId) (b : Bool) : Keeps s₀ (s.sawXoff l b) := by
  unfold State.sawXoff
  repeat' (first | with_reducible assumption | with_reducible apply State.updRel_keeps | with_reducible apply State.pump_keeps | with_reducible apply Keeps.ite)

theorem State.oweAck_keeps {s₀ s : State} (h : Keeps s₀ s) (l : LinkId) : Keeps s₀ (s.oweAck l) := by
  unfold State.oweAck
  repeat' (first | with_reducible assumption | with_reducible apply State.updRel_keeps | with_reducible apply State.emit_keeps | with_reducible apply Keeps.ite)


/-! ### Ops -/

theorem State.setUnit_keeps {s₀ s : State} (h : Keeps s₀ s) (v : Nat) : Keeps s₀ (s.setUnit v) := by
  unfold State.setUnit
  repeat' (first | with_reducible assumption | with_reducible apply State.setF_keeps)

theorem State.msix_keeps {s₀ s : State} (h : Keeps s₀ s) (mb vec : Nat) : Keeps s₀ (s.msix mb vec) := by
  unfold State.msix
  repeat' (first | with_reducible assumption | with_reducible apply State.emit_keeps)

theorem State.ringEvent_keeps {s₀ s : State} (h : Keeps s₀ s) (mb code inst flags die : Nat) (detail : List Byte) : Keeps s₀ (s.ringEvent mb code inst flags die detail) := by
  unfold State.ringEvent
  repeat' (first | with_reducible assumption | with_reducible apply State.flag_keeps | with_reducible apply State.setF_keeps | with_reducible apply State.msix_keeps | with_reducible apply Keeps.ite | with_reducible apply Keeps.memWrite)

theorem State.event_keeps {s₀ s : State} (h : Keeps s₀ s) (mb code : Nat) (detail : List Byte) : Keeps s₀ (s.event mb code detail) := by
  unfold State.event
  repeat' (first | with_reducible assumption | with_reducible apply State.ringEvent_keeps)

theorem State.raiseV0_keeps {s₀ s : State} (h : Keeps s₀ s) (mb : Nat) : Keeps s₀ (s.raiseV0 mb) := by
  unfold State.raiseV0
  repeat' (first | with_reducible assumption | with_reducible apply State.updMbx_keeps | with_reducible apply State.msix_keeps)

theorem State.gather_keeps {s₀ s : State} (h : Keeps s₀ s) (mb : Nat) (noIrq : Bool) : Keeps s₀ (s.gather mb noIrq) := by
  unfold State.gather
  repeat' (first | with_reducible assumption | with_reducible apply State.raiseV0_keeps | with_reducible apply State.updMbx_keeps | with_reducible apply Keeps.ite)

theorem State.writeCompl_keeps {s₀ s : State} (h : Keeps s₀ s) (mb : Nat) (c : Compl) : Keeps s₀ (s.writeCompl mb c) := by
  unfold State.writeCompl
  repeat' (first | with_reducible assumption | with_reducible apply State.setF_keeps | with_reducible apply State.updSlotC_keeps | with_reducible apply State.setB_keeps | with_reducible apply State.updMbx_keeps | with_reducible apply State.emit_keeps | with_reducible apply State.gather_keeps | with_reducible apply Keeps.ite | with_reducible apply Keeps.memWrite | simp only [Keeps.upd] | split)

theorem State.post1_keeps {s₀ s : State} (h : Keeps s₀ s) (mb : Nat) (c : Compl) : Keeps s₀ (s.post1 mb c) := by
  unfold State.post1
  repeat' (first | with_reducible assumption | with_reducible apply State.emit_keeps | with_reducible apply State.flag_keeps | with_reducible apply State.updSlotC_keeps | with_reducible apply State.updMbx_keeps | with_reducible apply State.writeCompl_keeps | with_reducible apply Keeps.ite)

theorem State.finish_keeps {s₀ s : State} (h : Keeps s₀ s) (mb k status info result : Nat) : Keeps s₀ (s.finish mb k status info result) := by
  unfold State.finish
  repeat' (first | with_reducible assumption | with_reducible apply State.count_keeps | with_reducible apply State.post1_keeps | with_reducible apply Keeps.foldl | with_reducible apply Keeps.foldlFst | with_reducible apply Keeps.ite | simp only [Keeps.upd] | (intro _ _ _))

theorem State.finishOpt_keeps {s₀ s : State} (h : Keeps s₀ s) (o : Option (Nat × Nat)) (status info result : Nat) : Keeps s₀ (s.finishOpt o status info result) := by
  unfold State.finishOpt
  repeat' (first | with_reducible assumption | with_reducible apply State.finish_keeps | simp only [Keeps.upd] | split)

theorem State.nvPush_keeps {s₀ s : State} (h : Keeps s₀ s) (region index prio holder : Nat) (data : NvData) : Keeps s₀ (s.nvPush region index prio holder data) := by
  unfold State.nvPush
  repeat' (first | with_reducible assumption | with_reducible apply State.setB_keeps | with_reducible apply State.updNv_keeps)

theorem State.setting_keeps {s₀ s : State} (h : Keeps s₀ s) (key : Nat) (vals : List Int) : Keeps s₀ (s.setting key vals) := by
  unfold State.setting
  repeat' (first | with_reducible assumption | with_reducible apply State.nvPush_keeps)

theorem State.seqRecord_keeps {s₀ s : State} (h : Keeps s₀ s) (holder skein slot kind info tslot d0 d1 : Nat) : Keeps s₀ (s.seqRecord holder skein slot kind info tslot d0 d1) := by
  unfold State.seqRecord
  repeat' (first | with_reducible assumption | with_reducible apply State.nvPush_keeps)

theorem State.log_keeps {s₀ s : State} (h : Keeps s₀ s) (r : LogRec) : Keeps s₀ (s.log r) := by
  unfold State.log
  repeat' (first | with_reducible assumption | with_reducible apply State.updFaults_keeps | with_reducible apply State.setF_keeps)

theorem State.alarms_keeps {s₀ s : State} (h : Keeps s₀ s) (c : Nat) : Keeps s₀ (s.alarms c) := by
  unfold State.alarms
  repeat' (first | with_reducible assumption | with_reducible apply State.setF_keeps | with_reducible apply State.setB_keeps | with_reducible apply State.updTw_keeps | with_reducible apply Keeps.foldl | with_reducible apply Keeps.foldlFst | with_reducible apply Keeps.ite | simp only [Keeps.upd] | (intro _ _ _) | split)

theorem State.segments_keeps {s₀ s : State} (h : Keeps s₀ s) (c : Capture) (g pre n i : Nat) (l : List Rec) :
    Keeps s₀ (s.segments c g pre n i l) := by
  induction n generalizing s i l with
  | zero => exact h
  | succ n ih =>
    unfold State.segments
    repeat' (first | with_reducible assumption | with_reducible apply ih | with_reducible apply State.updNv_keeps | with_reducible apply State.count_keeps | with_reducible apply State.nvPush_keeps | with_reducible apply Keeps.ite)

theorem State.capFlush_keeps {s₀ s : State} (h : Keeps s₀ s)  : Keeps s₀ (s.capFlush) := by
  unfold State.capFlush
  repeat' (first | with_reducible assumption | with_reducible apply State.segments_keeps | with_reducible apply State.updNv_keeps | with_reducible apply State.setF_keeps | with_reducible apply State.setB_keeps | with_reducible apply Keeps.foldl | with_reducible apply Keeps.foldlFst | simp only [Keeps.upd] | (intro _ _ _))

theorem State.capture_keeps {s₀ s : State} (h : Keeps s₀ s) (gs : List Nat) (kind post : Nat) : Keeps s₀ (s.capture gs kind post).1 := by
  unfold State.capture
  repeat' (first | with_reducible assumption | with_reducible apply State.count_keeps | with_reducible apply State.flag_keeps | with_reducible apply State.updNv_keeps | with_reducible apply State.setF_keeps | with_reducible apply State.capFlush_keeps | with_reducible apply Keeps.ite | dsimp only | dsimp only | split)

theorem State.faultRecords_keeps {s₀ s : State} (h : Keeps s₀ s) (k : Kind) (i cls die : Nat) (injected : Bool) : Keeps s₀ (s.faultRecords k i cls die injected) := by
  unfold State.faultRecords
  repeat' (first | with_reducible assumption | with_reducible apply State.capture_keeps | with_reducible apply State.nvPush_keeps | with_reducible apply Keeps.foldl | with_reducible apply Keeps.foldlFst | dsimp only | (intro _ _ _) | split)

theorem State.raiseAs_keeps {s₀ s : State} (h : Keeps s₀ s) (k : Kind) (i die : Nat) (injected : Bool) : Keeps s₀ (s.raiseAs k i die injected) := by
  unfold State.raiseAs
  repeat' (first | with_reducible assumption | with_reducible apply State.count_keeps | with_reducible apply State.flag_keeps | with_reducible apply State.log_keeps | with_reducible apply State.ringEvent_keeps | with_reducible apply State.updFaults_keeps | with_reducible apply State.alarms_keeps | with_reducible apply State.updTrust_keeps | with_reducible apply State.nvPush_keeps | with_reducible apply State.faultRecords_keeps | with_reducible apply Keeps.ite | dsimp only | split)

theorem State.raise_keeps {s₀ s : State} (h : Keeps s₀ s) (k : Kind) (i : Nat) : Keeps s₀ (s.raise k i) := by
  unfold State.raise
  repeat' (first | with_reducible assumption | with_reducible apply State.raiseAs_keeps)

theorem State.gone_keeps {s₀ s : State} (h : Keeps s₀ s) (k : Kind) (i : Nat) : Keeps s₀ (s.gone k i) := by
  unfold State.gone
  repeat' (first | with_reducible assumption | with_reducible apply State.updFaults_keeps | with_reducible apply State.alarms_keeps | with_reducible apply Keeps.ite)

theorem State.level_keeps {s₀ s : State} (h : Keeps s₀ s) (k : Kind) (i : Nat) (cond : Bool) : Keeps s₀ (s.level k i cond) := by
  unfold State.level
  repeat' (first | with_reducible assumption | with_reducible apply State.raise_keeps | with_reducible apply State.gone_keeps | with_reducible apply Keeps.ite)

theorem State.injectUse_keeps {s₀ s : State} (h : Keeps s₀ s)  : Keeps s₀ (s.injectUse) := by
  unfold State.injectUse
  repeat' (first | with_reducible assumption | with_reducible apply State.updFaults_keeps | with_reducible apply State.setB_keeps | with_reducible apply Keeps.ite | dsimp only | split)


/-! ### TimeOps -/

theorem State.ephPublish_keeps {s₀ s : State} (h : Keeps s₀ s)  : Keeps s₀ (s.ephPublish) := by
  unfold State.ephPublish
  repeat' (first | with_reducible assumption | with_reducible apply State.setF_keeps)

theorem State.ephNew_keeps {s₀ s : State} (h : Keeps s₀ s) (h : Nat) (trig : EphTrig) (acts : List EphAct) (opt : Bool) (step : Option Nat) : Keeps s₀ (s.ephNew h trig acts opt step).1 := by
  unfold State.ephNew
  repeat' (first | with_reducible assumption | with_reducible apply State.updEphE_keeps | with_reducible apply State.ephPublish_keeps | with_reducible apply Keeps.ite | simp only [Keeps.upd] | dsimp only | split)

theorem State.fwPost_keeps {s₀ s : State} (h : Keeps s₀ s) (t : Nat) (acts : List EphAct) (opt : Bool) (step : Option Nat) : Keeps s₀ (s.fwPost t acts opt step) := by
  unfold State.fwPost
  repeat' (first | with_reducible assumption | with_reducible apply State.ephNew_keeps)

theorem State.ephEnd_keeps {s₀ s : State} (h : Keeps s₀ s) (i : Nat) (st : EphSt) : Keeps s₀ (s.ephEnd i st) := by
  unfold State.ephEnd
  repeat' (first | with_reducible assumption | with_reducible apply State.updEphE_keeps | with_reducible apply State.ephPublish_keeps | with_reducible apply Keeps.ite)

theorem State.ephEndAll_keeps {s₀ s : State} (h : Keeps s₀ s) (p : EphEntry → Bool) : Keeps s₀ (s.ephEndAll p) := by
  unfold State.ephEndAll
  repeat' (first | with_reducible assumption | with_reducible apply State.ephEnd_keeps | with_reducible apply Keeps.foldl | with_reducible apply Keeps.foldlFst | with_reducible apply Keeps.ite | simp only [Keeps.upd] | (intro _ _ _))

theorem State.skAct_keeps {s₀ s : State} (h : Keeps s₀ s) (k c : Nat) (a : SkAct) : Keeps s₀ (s.skAct k c a) := by
  unfold State.skAct
  repeat' (first | with_reducible assumption | with_reducible apply State.updSk_keeps)


/-! ### UnitOps -/

theorem State.eval_keeps {s₀ s : State} (h : Keeps s₀ s) (k : Kind) (i : Nat) (cond : Bool) : Keeps s₀ (s.eval k i cond) := by
  unfold State.eval
  repeat' (first | with_reducible assumption | with_reducible apply State.updFaults_keeps | with_reducible apply State.raise_keeps | with_reducible apply State.gone_keeps | with_reducible apply Keeps.ite | simp only [Keeps.upd] | split)

theorem State.stSet_keeps {s₀ s : State} (h : Keeps s₀ s) (g v : Nat) : Keeps s₀ (s.stSet g v) := by
  unfold State.stSet
  repeat' (first | with_reducible assumption | with_reducible apply State.updSt_keeps | with_reducible apply State.setF_keeps)

theorem State.senseSet_keeps {s₀ s : State} (h : Keeps s₀ s) (g : Nat) (b : Bool) : Keeps s₀ (s.senseSet g b) := by
  unfold State.senseSet
  repeat' (first | with_reducible assumption | with_reducible apply State.updSt_keeps | with_reducible apply State.setB_keeps | with_reducible apply State.level_keeps)

theorem State.latchStitch_keeps {s₀ s : State} (h : Keeps s₀ s) (g : Nat) : Keeps s₀ (s.latchStitch g) := by
  unfold State.latchStitch
  repeat' (first | with_reducible assumption | with_reducible apply State.updSt_keeps | with_reducible apply State.stSet_keeps | with_reducible apply State.flag_keeps)

theorem State.unbindStitch_keeps {s₀ s : State} (h : Keeps s₀ s) (g : Nat) : Keeps s₀ (s.unbindStitch g) := by
  unfold State.unbindStitch
  repeat' (first | with_reducible assumption | with_reducible apply State.senseSet_keeps | with_reducible apply State.gone_keeps | with_reducible apply State.updSt_keeps | with_reducible apply State.stSet_keeps)

theorem State.skSet_keeps {s₀ s : State} (h : Keeps s₀ s) (k v : Nat) : Keeps s₀ (s.skSet k v) := by
  unfold State.skSet
  repeat' (first | with_reducible assumption | with_reducible apply State.updSk_keeps | with_reducible apply State.setF_keeps)

theorem State.pubSkein_keeps {s₀ s : State} (h : Keeps s₀ s) (k : Nat) : Keeps s₀ (s.pubSkein k) := by
  unfold State.pubSkein
  repeat' (first | with_reducible assumption | with_reducible apply State.setF_keeps | with_reducible apply State.setI_keeps)

theorem State.applyLoad_keeps {s₀ s : State} (h : Keeps s₀ s) (k : Nat) (l : Load) : Keeps s₀ (s.applyLoad k l) := by
  unfold State.applyLoad
  repeat' (first | with_reducible assumption | with_reducible apply State.updSk_keeps | with_reducible apply State.pubSkein_keeps | simp only [Keeps.upd] | split)

theorem State.pubEng_keeps {s₀ s : State} (h : Keeps s₀ s) (e : Nat) : Keeps s₀ (s.pubEng e) := by
  unfold State.pubEng
  repeat' (first | with_reducible assumption | with_reducible apply State.setF_keeps | with_reducible apply State.setB_keeps | with_reducible apply Keeps.ite)

theorem State.stopTrace_keeps {s₀ s : State} (h : Keeps s₀ s) (k e : Nat) : Keeps s₀ (s.stopTrace k e) := by
  unfold State.stopTrace
  repeat' (first | with_reducible assumption | with_reducible apply State.updEng_keeps | with_reducible apply State.setF_keeps | with_reducible apply Keeps.ite)

theorem State.pubArb_keeps {s₀ s : State} (h : Keeps s₀ s) (p : Nat) : Keeps s₀ (s.pubArb p) := by
  unfold State.pubArb
  repeat' (first | with_reducible assumption | with_reducible apply State.setF_keeps | with_reducible apply State.raiseTo_keeps)

theorem State.mirror_keeps {s₀ s : State} (h : Keeps s₀ s) (m : Effect) : Keeps s₀ (s.mirror m) := by
  unfold State.mirror
  repeat' (first | with_reducible assumption | with_reducible apply State.emit_keeps | with_reducible apply Keeps.ite)

theorem State.entered_keeps {s₀ s : State} (h : Keeps s₀ s) (mb k n : Nat) : Keeps s₀ (s.entered mb k n) := by
  unfold State.entered
  repeat' (first | with_reducible assumption | with_reducible apply State.finish_keeps | with_reducible apply Keeps.ite | simp only [Keeps.upd])

theorem State.planMove_keeps {s₀ s : State} (h : Keeps s₀ s) (k t : Nat) (who : Option (Nat × Nat)) : Keeps s₀ (s.planMove k t who) := by
  unfold State.planMove
  repeat' (first | with_reducible assumption | with_reducible apply State.finishOpt_keeps | with_reducible apply State.updSk_keeps | with_reducible apply State.pubEng_keeps | dsimp only | split)

theorem State.postNow_keeps {s₀ s : State} (h : Keeps s₀ s) (x : MovePost) : Keeps s₀ (s.postNow x) := by
  unfold State.postNow
  repeat' (first | with_reducible assumption | with_reducible apply State.fwPost_keeps | with_reducible apply State.ephNew_keeps | with_reducible apply State.mirror_keeps | with_reducible apply State.entered_keeps | with_reducible apply State.finish_keeps | simp only [Keeps.upd] | split | refine Keeps.ofFst (by with_reducible assumption) ?_)

theorem State.startPost_keeps {s₀ s : State} (h : Keeps s₀ s) (x : MovePost) : Keeps s₀ (s.startPost x) := by
  unfold State.startPost
  repeat' (first | with_reducible assumption | with_reducible apply State.finishOpt_keeps | with_reducible apply State.planMove_keeps | with_reducible apply State.postNow_keeps | with_reducible apply Keeps.foldl | with_reducible apply Keeps.foldlFst | with_reducible apply Keeps.ite | simp only [Keeps.upd] | (intro _ _ _) | split)

theorem State.moveEnded_keeps {s₀ s : State} (h : Keeps s₀ s) (k : Nat) : Keeps s₀ (s.moveEnded k) := by
  unfold State.moveEnded
  repeat' (first | with_reducible assumption | with_reducible apply State.startPost_keeps | with_reducible apply Keeps.foldl | with_reducible apply Keeps.foldlFst | simp only [Keeps.upd] | (intro _ _ _))

theorem State.dropMove_keeps {s₀ s : State} (h : Keeps s₀ s) (k status info : Nat) : Keeps s₀ (s.dropMove k status info) := by
  unfold State.dropMove
  repeat' (first | with_reducible assumption | with_reducible apply State.finishOpt_keeps | with_reducible apply State.updSk_keeps | with_reducible apply State.pubEng_keeps | with_reducible apply State.moveEnded_keeps | with_reducible apply Keeps.ite | simp only [Keeps.upd] | split)

theorem State.moveJob_keeps {s₀ s : State} (h : Keeps s₀ s) (k : Nat) (t : Option Nat) (counted : Bool) : Keeps s₀ (s.moveJob k t counted) := by
  unfold State.moveJob
  repeat' (first | with_reducible assumption | with_reducible apply State.finishOpt_keeps | with_reducible apply State.stopTrace_keeps | with_reducible apply State.updSk_keeps | with_reducible apply State.count_keeps | with_reducible apply State.pubEng_keeps | with_reducible apply State.moveEnded_keeps | with_reducible apply Keeps.ite | simp only [Keeps.upd] | split)

theorem State.maskCells_keeps {s₀ s : State} (h : Keeps s₀ s) (p : Nat) (f : CmdCell → Bool) : Keeps s₀ (s.maskCells p f) := by
  unfold State.maskCells
  repeat' (first | with_reducible assumption | with_reducible apply State.updPort_keeps | with_reducible apply State.countN_keeps | with_reducible apply State.pubArb_keeps | with_reducible apply Keeps.ite)

theorem State.maskEngine_keeps {s₀ s : State} (h : Keeps s₀ s) (e : Nat) : Keeps s₀ (s.maskEngine e) := by
  unfold State.maskEngine
  repeat' (first | with_reducible assumption | with_reducible apply State.maskCells_keeps | with_reducible apply State.setB_keeps | with_reducible apply Keeps.foldl | with_reducible apply Keeps.foldlFst | dsimp only | (intro _ _ _))

theorem State.unmaskEngine_keeps {s₀ s : State} (h : Keeps s₀ s) (e : Nat) : Keeps s₀ (s.unmaskEngine e) := by
  unfold State.unmaskEngine
  repeat' (first | with_reducible assumption | with_reducible apply State.setB_keeps | with_reducible apply Keeps.foldl | with_reducible apply Keeps.foldlFst | simp only [Keeps.upd] | (intro _ _ _))

theorem State.rstOut_keeps {s₀ s : State} (h : Keeps s₀ s) (n : Nat) (asserted : Bool) : Keeps s₀ (s.rstOut n asserted) := by
  unfold State.rstOut
  repeat' (first | with_reducible assumption | with_reducible apply State.setB_keeps | with_reducible apply Keeps.ite | simp only [Keeps.upd] | split)

theorem State.seqRec_keeps {s₀ s : State} (h : Keeps s₀ s) (n skein kind info tslot : Nat) : Keeps s₀ (s.seqRec n skein kind info tslot) := by
  unfold State.seqRec
  repeat' (first | with_reducible assumption | with_reducible apply State.seqRecord_keeps)

theorem State.powerLoad_keeps {s₀ s : State} (h : Keeps s₀ s) (k op : Nat) : Keeps s₀ (s.powerLoad k op) := by
  unfold State.powerLoad
  repeat' (first | with_reducible assumption | with_reducible apply State.skSet_keeps | with_reducible apply State.updSk_keeps | with_reducible apply Keeps.ite)

theorem State.seqStart_keeps {s₀ s : State} (h : Keeps s₀ s) (n : Nat) : Keeps s₀ (s.seqStart n) := by
  unfold State.seqStart
  repeat' (first | with_reducible assumption | with_reducible apply State.updRrun_keeps | with_reducible apply State.updSeq_keeps | with_reducible apply State.setF_keeps | with_reducible apply State.rstOut_keeps | with_reducible apply State.seqRec_keeps | with_reducible apply Keeps.foldl | with_reducible apply Keeps.foldlFst | simp only [Keeps.upd] | (intro _ _ _))

theorem State.seqStop_keeps {s₀ s : State} (h : Keeps s₀ s) (n : Nat) : Keeps s₀ (s.seqStop n) := by
  unfold State.seqStop
  repeat' (first | with_reducible assumption | with_reducible apply State.updSeq_keeps | with_reducible apply State.updRrun_keeps | with_reducible apply State.setF_keeps | with_reducible apply State.rstOut_keeps | with_reducible apply Keeps.foldl | with_reducible apply Keeps.foldlFst | with_reducible apply Keeps.ite | simp only [Keeps.upd] | (intro _ _ _))

theorem State.seqLatch_keeps {s₀ s : State} (h : Keeps s₀ s) (n : Nat) : Keeps s₀ (s.seqLatch n) := by
  unfold State.seqLatch
  repeat' (first | with_reducible assumption | with_reducible apply State.setF_keeps | with_reducible apply State.flag_keeps | with_reducible apply State.level_keeps | with_reducible apply State.seqRec_keeps | with_reducible apply Keeps.ite)

theorem State.slSet_keeps {s₀ s : State} (h : Keeps s₀ s) (n v reason : Nat) : Keeps s₀ (s.slSet n v reason) := by
  unfold State.slSet
  repeat' (first | with_reducible assumption | with_reducible apply State.setF_keeps | with_reducible apply State.updSlot_keeps)

theorem State.svcChange_keeps {s₀ s : State} (h : Keeps s₀ s) (n : Nat) : Keeps s₀ (s.svcChange n) := by
  unfold State.svcChange
  repeat' (first | with_reducible assumption | with_reducible apply State.updSlot_keeps)

theorem State.gateSet_keeps {s₀ s : State} (h : Keeps s₀ s) (n : Nat) (b : Bool) : Keeps s₀ (s.gateSet n b) := by
  unfold State.gateSet
  repeat' (first | with_reducible assumption | with_reducible apply State.setB_keeps | with_reducible apply State.updSlot_keeps | with_reducible apply State.svcChange_keeps)

theorem State.warnSlot_keeps {s₀ s : State} (h : Keeps s₀ s) (n reason ms : Nat) : Keeps s₀ (s.warnSlot n reason ms) := by
  unfold State.warnSlot
  repeat' (first | with_reducible assumption | with_reducible apply State.setB_keeps | with_reducible apply State.svcChange_keeps | with_reducible apply State.emit_keeps | with_reducible apply State.event_keeps | with_reducible apply Keeps.when | simp only [Keeps.upd] | (intro _ _))

theorem State.unwarnSlot_keeps {s₀ s : State} (h : Keeps s₀ s) (n : Nat) : Keeps s₀ (s.unwarnSlot n) := by
  unfold State.unwarnSlot
  repeat' (first | with_reducible assumption | with_reducible apply State.setB_keeps | with_reducible apply State.svcChange_keeps | with_reducible apply State.emit_keeps | with_reducible apply State.event_keeps | with_reducible apply Keeps.ite)

theorem State.slotDone_keeps {s₀ s : State} (h : Keeps s₀ s) (n status info : Nat) : Keeps s₀ (s.slotDone n status info) := by
  unfold State.slotDone
  repeat' (first | with_reducible assumption | with_reducible apply State.updSlot_keeps | with_reducible apply State.finish_keeps | simp only [Keeps.upd] | split)

theorem State.powerDone_keeps {s₀ s : State} (h : Keeps s₀ s) (k status info : Nat) : Keeps s₀ (s.powerDone k status info) := by
  unfold State.powerDone
  repeat' (first | with_reducible assumption | with_reducible apply State.updSk_keeps | with_reducible apply State.finish_keeps | with_reducible apply State.updSeq_keeps | with_reducible apply State.setF_keeps | with_reducible apply State.count_keeps | with_reducible apply State.updRrun_keeps | with_reducible apply State.seqRec_keeps | with_reducible apply State.seqStop_keeps | with_reducible apply Keeps.ite | dsimp only | split)

theorem State.flushLoads_keeps {s₀ s : State} (h : Keeps s₀ s) (k : Nat) : Keeps s₀ (s.flushLoads k) := by
  unfold State.flushLoads
  repeat' (first | with_reducible assumption | with_reducible apply State.updSk_keeps | with_reducible apply State.applyLoad_keeps | with_reducible apply State.finishOpt_keeps | with_reducible apply Keeps.foldl | with_reducible apply Keeps.foldlFst | simp only [Keeps.upd] | (intro _ _ _))

theorem State.unbindSlot_keeps {s₀ s : State} (h : Keeps s₀ s) (n : Nat) : Keeps s₀ (s.unbindSlot n) := by
  unfold State.unbindSlot
  repeat' (first | with_reducible assumption | with_reducible apply State.unbindStitch_keeps | with_reducible apply State.updSlot_keeps | with_reducible apply State.maskCells_keeps | with_reducible apply State.gone_keeps | with_reducible apply State.powerDone_keeps | with_reducible apply State.flushLoads_keeps | with_reducible apply State.moveJob_keeps | with_reducible apply State.updSk_keeps | with_reducible apply State.skSet_keeps | with_reducible apply Keeps.foldl | with_reducible apply Keeps.foldlFst | with_reducible apply Keeps.ite | dsimp only | (intro _ _ _))

theorem State.epochZero_keeps {s₀ s : State} (h : Keeps s₀ s) (n : Nat) : Keeps s₀ (s.epochZero n) := by
  unfold State.epochZero
  repeat' (first | with_reducible assumption | with_reducible apply State.updPort_keeps | with_reducible apply State.setF_keeps | with_reducible apply State.setting_keeps)

theorem State.seqDone_keeps {s₀ s : State} (h : Keeps s₀ s) (n status info : Nat) : Keeps s₀ (s.seqDone n status info) := by
  unfold State.seqDone
  repeat' (first | with_reducible assumption | with_reducible apply State.updSeq_keeps | with_reducible apply State.finish_keeps | simp only [Keeps.upd] | split)

theorem State.seqDead_keeps {s₀ s : State} (h : Keeps s₀ s) (n : Nat) : Keeps s₀ (s.seqDead n) := by
  unfold State.seqDead
  repeat' (first | with_reducible assumption | with_reducible apply State.seqLatch_keeps | with_reducible apply State.setF_keeps | with_reducible apply State.rstOut_keeps | with_reducible apply State.updSeq_keeps | with_reducible apply State.seqDone_keeps | with_reducible apply Keeps.ite | dsimp only | split)

theorem State.fence_keeps {s₀ s : State} (h : Keeps s₀ s) (n reason : Nat) : Keeps s₀ (s.fence n reason) := by
  unfold State.fence
  repeat' (first | with_reducible assumption | with_reducible apply State.setF_keeps | with_reducible apply State.slSet_keeps | with_reducible apply State.flag_keeps | with_reducible apply State.gateSet_keeps | with_reducible apply State.setB_keeps | with_reducible apply State.updSlot_keeps | with_reducible apply State.unbindSlot_keeps | with_reducible apply State.epochZero_keeps | with_reducible apply State.seqDead_keeps | with_reducible apply State.slotDone_keeps | with_reducible apply Keeps.ite)

theorem State.retrainPort_keeps {s₀ s : State} (h : Keeps s₀ s) (p : Nat) : Keeps s₀ (s.retrainPort p) := by
  unfold State.retrainPort
  repeat' (first | with_reducible assumption | with_reducible apply State.count_keeps | with_reducible apply State.setF_keeps | with_reducible apply State.updPort_keeps)

theorem State.cover_keeps {s₀ s : State} (h : Keeps s₀ s)  : Keeps s₀ (s.cover) := by
  unfold State.cover
  repeat' (first | with_reducible assumption | with_reducible apply State.setB_keeps | with_reducible apply State.updPair_keeps | with_reducible apply Keeps.foldl | with_reducible apply Keeps.foldlFst | with_reducible apply Keeps.ite | simp only [Keeps.upd] | (intro _ _ _))

theorem State.outOfStep_keeps {s₀ s : State} (h : Keeps s₀ s) (k : Nat) : Keeps s₀ (s.outOfStep k) := by
  unfold State.outOfStep
  repeat' (first | with_reducible assumption | with_reducible apply State.updSk_keeps | with_reducible apply State.emit_keeps | with_reducible apply State.cover_keeps | with_reducible apply Keeps.ite)

theorem State.compareDigest_keeps {s₀ s : State} (h : Keeps s₀ s) (k : Nat) (own crc : Word) : Keeps s₀ (s.compareDigest k own crc) := by
  unfold State.compareDigest
  repeat' (first | with_reducible assumption | with_reducible apply State.count_keeps | with_reducible apply State.updSk_keeps | with_reducible apply State.cover_keeps | with_reducible apply State.outOfStep_keeps | with_reducible apply Keeps.ite)

theorem State.pubDrbg_keeps {s₀ s : State} (h : Keeps s₀ s)  : Keeps s₀ (s.pubDrbg) := by
  unfold State.pubDrbg
  repeat' (first | with_reducible assumption | with_reducible apply State.setF_keeps)

theorem State.forgetWaits_keeps {s₀ s : State} (h : Keeps s₀ s) (p : Nat → Nat → Bool) : Keeps s₀ (s.forgetWaits p) := by
  unfold State.forgetWaits
  repeat' (first | with_reducible assumption | with_reducible apply State.updTrust_keeps | with_reducible apply State.pubDrbg_keeps | simp only [Keeps.upd])

theorem State.dropMirrored_keeps {s₀ s : State} (h : Keeps s₀ s) (p : Nat) : Keeps s₀ (s.dropMirrored p) := by
  unfold State.dropMirrored
  repeat' (first | with_reducible assumption | with_reducible apply State.forgetWaits_keeps | with_reducible apply State.updSlotC_keeps | with_reducible apply State.updMbx_keeps | with_reducible apply State.setB_keeps | with_reducible apply Keeps.foldl | with_reducible apply Keeps.foldlFst | dsimp only | (intro _ _ _))

theorem State.dropSegs_keeps {s₀ s : State} (h : Keeps s₀ s) (p : Nat) : Keeps s₀ (s.dropSegs p) := by
  unfold State.dropSegs
  repeat' (first | with_reducible assumption | with_reducible apply Keeps.ite | simp only [Keeps.upd])

theorem State.setOwn_keeps {s₀ s : State} (h : Keeps s₀ s) (p : Nat) (b : Bool) : Keeps s₀ (s.setOwn p b) := by
  unfold State.setOwn
  repeat' (first | with_reducible assumption | with_reducible apply State.dropSegs_keeps | with_reducible apply State.dropMirrored_keeps | with_reducible apply State.setB_keeps | with_reducible apply State.setF_keeps | with_reducible apply Keeps.when | with_reducible apply Keeps.ite | simp only [Keeps.upd] | (intro _ _))

theorem State.requeue_keeps {s₀ s : State} (h : Keeps s₀ s) (p : Nat) : Keeps s₀ (s.requeue p) := by
  unfold State.requeue
  repeat' (first | with_reducible assumption | with_reducible apply State.updPort_keeps | with_reducible apply State.pubArb_keeps)

theorem State.lastClaim_keeps {s₀ s : State} (h : Keeps s₀ s) (t : Nat) : Keeps s₀ (s.lastClaim t) := by
  unfold State.lastClaim
  repeat' (first | with_reducible assumption | with_reducible apply State.setPair_keeps)

theorem State.claimPort_keeps {s₀ s : State} (h : Keeps s₀ s) (p effectAt : Nat) : Keeps s₀ (s.claimPort p effectAt) := by
  unfold State.claimPort
  repeat' (first | with_reducible assumption | with_reducible apply State.setF_keeps | with_reducible apply State.setB_keeps | with_reducible apply State.emit_keeps | with_reducible apply State.event_keeps | with_reducible apply State.updPort_keeps | with_reducible apply State.count_keeps | with_reducible apply State.lastClaim_keeps | with_reducible apply State.countN_keeps | with_reducible apply State.setOwn_keeps | with_reducible apply State.requeue_keeps | with_reducible apply Keeps.ite)

theorem State.yieldSlot_keeps {s₀ s : State} (h : Keeps s₀ s) (n : Nat) : Keeps s₀ (s.yieldSlot n) := by
  unfold State.yieldSlot
  repeat' (first | with_reducible assumption | with_reducible apply State.emit_keeps | with_reducible apply State.setOwn_keeps)

theorem State.startTransit_keeps {s₀ s : State} (h : Keeps s₀ s) (tx : Nat) : Keeps s₀ (s.startTransit tx) := by
  unfold State.startTransit
  repeat' (first | with_reducible assumption | with_reducible apply State.updPair_keeps | with_reducible apply State.setB_keeps | with_reducible apply State.emit_keeps)

theorem State.enterDone_keeps {s₀ s : State} (h : Keeps s₀ s)  : Keeps s₀ (s.enterDone) := by
  unfold State.enterDone
  repeat' (first | with_reducible assumption | with_reducible apply State.finish_keeps | with_reducible apply Keeps.foldl | with_reducible apply Keeps.foldlFst | with_reducible apply Keeps.ite | simp only [Keeps.upd] | (intro _ _ _))

theorem State.shutdownSweep_keeps {s₀ s : State} (h : Keeps s₀ s)  : Keeps s₀ (s.shutdownSweep) := by
  unfold State.shutdownSweep
  repeat' (first | with_reducible assumption | with_reducible apply State.unbindSlot_keeps | with_reducible apply State.epochZero_keeps | with_reducible apply State.gateSet_keeps | with_reducible apply State.slSet_keeps | with_reducible apply State.updSlot_keeps | with_reducible apply State.slotDone_keeps | with_reducible apply State.setF_keeps | with_reducible apply Keeps.foldl | with_reducible apply Keeps.foldlFst | with_reducible apply Keeps.ite | dsimp only | (intro _ _ _))

theorem State.chassisShutdown_keeps {s₀ s : State} (h : Keeps s₀ s)  : Keeps s₀ (s.chassisShutdown) := by
  unfold State.chassisShutdown
  repeat' (first | with_reducible assumption | with_reducible apply State.setF_keeps | with_reducible apply State.seqStop_keeps | with_reducible apply State.shutdownSweep_keeps | with_reducible apply Keeps.foldl | with_reducible apply Keeps.foldlFst | with_reducible apply Keeps.ite | simp only [Keeps.upd] | (intro _ _ _))


/-! ### Operands -/

theorem State.begin_keeps {s₀ s : State} (h : Keeps s₀ s) (mb k op : Nat) : Keeps s₀ (s.begin mb k op).1 := by
  unfold State.begin
  repeat' (first | with_reducible assumption | with_reducible apply State.flag_keeps | with_reducible apply State.updSlotC_keeps | with_reducible apply State.updMbx_keeps | with_reducible apply Keeps.ite | simp only [Keeps.upd] | dsimp only | split)

theorem State.numberSubs_keeps {s₀ s : State} (h : Keeps s₀ s) (mb : Nat) (l : List Nat) : Keeps s₀ (s.numberSubs mb l) := by
  unfold State.numberSubs
  repeat' (first | with_reducible assumption | with_reducible apply State.updSlotC_keeps | with_reducible apply State.updMbx_keeps | with_reducible apply Keeps.foldl | with_reducible apply Keeps.foldlFst | with_reducible apply Keeps.ite | dsimp only | (intro _ _ _))

theorem State.submit_keeps {s₀ s : State} (h : Keeps s₀ s) (mb k : Nat) (bytes : List Byte) (via : Option Nat) : Keeps s₀ (s.submit mb k bytes via) := by
  unfold State.submit
  repeat' (first | with_reducible assumption | with_reducible apply State.updMbx_keeps | with_reducible apply State.updSlotC_keeps | with_reducible apply State.numberSubs_keeps | with_reducible apply State.setB_keeps | with_reducible apply State.finish_keeps | with_reducible apply Keeps.ite | simp only [Keeps.upd] | split)

theorem State.command_keeps {s₀ s : State} (h : Keeps s₀ s) (mb k op : Nat) (chk : State → List Byte → Checks)
    (eff : State → List Byte → State) (he : ∀ x p, Keeps s₀ x → Keeps s₀ (eff x p)) : Keeps s₀ (s.command mb k op chk eff) := by
  unfold State.command
  split
  · rename_i e
    exact Keeps.ofFst e (State.begin_keeps h mb k op)
  · rename_i e
    have k' := Keeps.ofFst e (State.begin_keeps h mb k op)
    dsimp only
    split
    · exact State.finish_keeps k' _ _ _ _ _
    · split
      · exact State.finish_keeps k' _ _ _ _ _
      · refine Keeps.ite (State.finish_keeps k' _ _ _ _ _) (Keeps.ite ?_ (he _ _ (Keeps.when k' fun _ q => State.mirror_keeps q _)))
        split
        · rename_i f
          have q := Keeps.ofFst f (State.ephNew_keeps k' mb _ _ _ _)
          exact State.entered_keeps (Keeps.when q fun _ z => State.mirror_keeps z _) _ _ _
        · rename_i f
          exact State.finish_keeps (Keeps.ofFst f (State.ephNew_keeps k' mb _ _ _ _)) _ _ _ _ _

theorem State.okay_keeps {s₀ s : State} (h : Keeps s₀ s) (mb k : Nat) : Keeps s₀ (s.okay mb k) := by
  unfold State.okay
  repeat' (first | with_reducible assumption | with_reducible apply State.finish_keeps)


/-! ### ResetOps -/

theorem State.nvDirect_keeps {s₀ s : State} (h : Keeps s₀ s) (region index holder : Nat) (data : NvData) : Keeps s₀ (s.nvDirect region index holder data) := by
  unfold State.nvDirect
  repeat' (first | with_reducible assumption | with_reducible apply State.updNv_keeps | with_reducible apply Keeps.ite)

theorem State.unitRecordNow_keeps {s₀ s : State} (h : Keeps s₀ s) (cause : Nat) (x : Option Inst := none) : Keeps s₀ (s.unitRecordNow cause x) := by
  unfold State.unitRecordNow
  repeat' (first | with_reducible assumption | with_reducible apply State.nvDirect_keeps)

theorem State.nvPut_keeps {s₀ s : State} (h : Keeps s₀ s) (die key : Nat) (c : NvCopy) : Keeps s₀ (s.nvPut die key c) := by
  unfold State.nvPut
  repeat' (first | with_reducible assumption | with_reducible apply State.updNv_keeps)

theorem State.nvStore_keeps {s₀ s : State} (h : Keeps s₀ s) (die : Nat) (w : NvWrite) (torn : Bool) : Keeps s₀ (s.nvStore die w torn) := by
  unfold State.nvStore
  repeat' (first | with_reducible assumption | with_reducible apply State.nvPut_keeps | with_reducible apply State.setting_keeps | with_reducible apply State.updNv_keeps | dsimp only | split)

theorem State.nvTag_keeps {s₀ s : State} (h : Keeps s₀ s) (die : Nat) (w : NvWrite) : Keeps s₀ (s.nvTag die w) := by
  unfold State.nvTag
  repeat' (first | with_reducible assumption | with_reducible apply State.nvPut_keeps | with_reducible apply Keeps.ite | dsimp only | split)

theorem State.nvCut_keeps {s₀ s : State} (h : Keeps s₀ s)  : Keeps s₀ (s.nvCut) := by
  unfold State.nvCut
  repeat' (first | with_reducible assumption | with_reducible apply State.nvTag_keeps | with_reducible apply State.nvStore_keeps | with_reducible apply State.nvPut_keeps | with_reducible apply Keeps.ite | dsimp only | split)

theorem State.nvFinish_keeps {s₀ s : State} (h : Keeps s₀ s)  : Keeps s₀ (s.nvFinish) := by
  unfold State.nvFinish
  repeat' (first | with_reducible assumption | with_reducible apply State.nvStore_keeps | with_reducible apply Keeps.ite | dsimp only | split)

theorem State.nvSupplyLoss_keeps {s₀ s : State} (h : Keeps s₀ s)  : Keeps s₀ (s.nvSupplyLoss) := by
  unfold State.nvSupplyLoss
  repeat' (first | with_reducible assumption | with_reducible apply State.nvFinish_keeps | with_reducible apply State.unitRecordNow_keeps | with_reducible apply State.nvCut_keeps | with_reducible apply Keeps.ite | simp only [Keeps.upd])

theorem State.afterReset_keeps {s₀ s : State} (h : Keeps s₀ s) (kind cause : Nat) (powerOn holdGpio : Bool) : Keeps s₀ (s.afterReset kind cause powerOn holdGpio) := by
  unfold State.afterReset
  repeat' (first | with_reducible assumption | with_reducible apply State.updMbx_keeps | with_reducible apply State.setB_keeps | with_reducible apply State.setF_keeps | with_reducible apply Keeps.foldl | with_reducible apply Keeps.foldlFst | with_reducible apply Keeps.ite | with_reducible apply Keeps.reset | simp only [Keeps.upd] | (intro _ _ _))

theorem State.restart_keeps {s₀ s : State} (h : Keeps s₀ s) (cause : Nat) : Keeps s₀ (s.restart cause) := by
  unfold State.restart
  repeat' (first | with_reducible assumption | with_reducible apply State.afterReset_keeps | simp only [Keeps.upd])

theorem State.goDormant_keeps {s₀ s : State} (h : Keeps s₀ s) (why : Nat) : Keeps s₀ (s.goDormant why) := by
  unfold State.goDormant
  repeat' (first | with_reducible assumption | with_reducible apply State.afterReset_keeps | with_reducible apply State.setF_keeps | with_reducible apply State.setUnit_keeps | simp only [Keeps.upd])

theorem State.wake_keeps {s₀ s : State} (h : Keeps s₀ s) (cause : Nat) : Keeps s₀ (s.wake cause) := by
  unfold State.wake
  repeat' (first | with_reducible assumption | with_reducible apply State.updRst_keeps)

theorem State.ownFail_keeps {s₀ s : State} (h : Keeps s₀ s) (cause : Nat) (x : Option Inst := none) : Keeps s₀ (s.ownFail cause x) := by
  unfold State.ownFail
  repeat' (first | with_reducible assumption | with_reducible apply State.emit_keeps | with_reducible apply State.updPair_keeps | with_reducible apply State.unitRecordNow_keeps | with_reducible apply State.nvSupplyLoss_keeps | with_reducible apply State.goDormant_keeps | with_reducible apply State.restart_keeps | with_reducible apply Keeps.ite)

theorem State.releaseEvery_keeps {s₀ s : State} (h : Keeps s₀ s)  : Keeps s₀ (s.releaseEvery) := by
  unfold State.releaseEvery
  repeat' (first | with_reducible assumption | with_reducible apply State.skAct_keeps | with_reducible apply Keeps.foldl | with_reducible apply Keeps.foldlFst | with_reducible apply Keeps.ite | simp only [Keeps.upd] | (intro _ _ _))

theorem State.safeStop_keeps {s₀ s : State} (h : Keeps s₀ s) (x : Inst) : Keeps s₀ (s.safeStop x) := by
  unfold State.safeStop
  repeat' (first | with_reducible assumption | with_reducible apply State.updFaults_keeps | with_reducible apply State.updPair_keeps | with_reducible apply State.setB_keeps | with_reducible apply State.updTrust_keeps | with_reducible apply State.releaseEvery_keeps | with_reducible apply State.unitRecordNow_keeps | with_reducible apply Keeps.ite)


/-! ### ShelfOps -/

theorem State.pubMains_keeps {s₀ s : State} (h : Keeps s₀ s)  : Keeps s₀ (s.pubMains) := by
  unfold State.pubMains
  repeat' (first | with_reducible assumption | with_reducible apply State.setF_keeps)

theorem State.rectSet_keeps {s₀ s : State} (h : Keeps s₀ s) (r v : Nat) : Keeps s₀ (s.rectSet r v) := by
  unfold State.rectSet
  repeat' (first | with_reducible assumption | with_reducible apply State.updRect_keeps | with_reducible apply State.setF_keeps | with_reducible apply State.pubMains_keeps)

theorem State.rectLost_keeps {s₀ s : State} (h : Keeps s₀ s) (r : Nat) (b : Bool) : Keeps s₀ (s.rectLost r b) := by
  unfold State.rectLost
  repeat' (first | with_reducible assumption | with_reducible apply State.setB_keeps)

theorem State.pmWrite_keeps {s₀ s : State} (h : Keeps s₀ s) (r code v : Nat) : Keeps s₀ (s.pmWrite r code v) := by
  unfold State.pmWrite
  repeat' (first | with_reducible assumption | with_reducible apply State.emit_keeps)

theorem State.rectOper_keeps {s₀ s : State} (h : Keeps s₀ s) (r v : Nat) : Keeps s₀ (s.rectOper r v) := by
  unfold State.rectOper
  repeat' (first | with_reducible assumption | with_reducible apply State.pmWrite_keeps)

theorem State.rectVout_keeps {s₀ s : State} (h : Keeps s₀ s) (r : Nat) : Keeps s₀ (s.rectVout r) := by
  unfold State.rectVout
  repeat' (first | with_reducible assumption | with_reducible apply State.updRect_keeps | with_reducible apply State.pmWrite_keeps | with_reducible apply Keeps.ite)

theorem State.startDrain_keeps {s₀ s : State} (h : Keeps s₀ s) (r : Nat) (ex : Bool) : Keeps s₀ (s.startDrain r ex) := by
  unfold State.startDrain
  repeat' (first | with_reducible assumption | with_reducible apply State.updRect_keeps | with_reducible apply State.rectSet_keeps | with_reducible apply State.rectVout_keeps)

theorem State.stopDrain_keeps {s₀ s : State} (h : Keeps s₀ s) (r : Nat) : Keeps s₀ (s.stopDrain r) := by
  unfold State.stopDrain
  repeat' (first | with_reducible assumption | with_reducible apply State.finishOpt_keeps | with_reducible apply State.updRect_keeps | with_reducible apply State.rectSet_keeps | with_reducible apply State.rectVout_keeps)

theorem State.rectStart_keeps {s₀ s : State} (h : Keeps s₀ s) (r : Nat) : Keeps s₀ (s.rectStart r) := by
  unfold State.rectStart
  repeat' (first | with_reducible assumption | with_reducible apply State.updRect_keeps | with_reducible apply State.rectSet_keeps | with_reducible apply State.rectOper_keeps)

theorem State.addUntil_keeps {s₀ s : State} (h : Keeps s₀ s) (l : List Nat) : Keeps s₀ (s.addUntil l) := by
  induction l generalizing s with
  | nil => exact h
  | cons r t ih =>
    unfold State.addUntil
    exact Keeps.ite h (ih (State.rectStart_keeps h r))

theorem State.emergency_keeps {s₀ s : State} (h : Keeps s₀ s)  : Keeps s₀ (s.emergency) := by
  unfold State.emergency
  repeat' (first | with_reducible assumption | with_reducible apply State.ephEndAll_keeps | with_reducible apply State.rectOper_keeps | with_reducible apply State.flag_keeps | with_reducible apply State.stopDrain_keeps | with_reducible apply State.updShelf_keeps | with_reducible apply State.addUntil_keeps | with_reducible apply Keeps.foldl | with_reducible apply Keeps.foldlFst | simp only [Keeps.upd] | (intro _ _ _))

theorem State.rectFail_keeps {s₀ s : State} (h : Keeps s₀ s) (r : Nat) : Keeps s₀ (s.rectFail r) := by
  unfold State.rectFail
  repeat' (first | with_reducible assumption | with_reducible apply State.finishOpt_keeps | with_reducible apply State.updRect_keeps | with_reducible apply State.rectSet_keeps | with_reducible apply State.rectOper_keeps | with_reducible apply State.level_keeps | with_reducible apply State.updShelf_keeps)

theorem State.rectAcLost_keeps {s₀ s : State} (h : Keeps s₀ s) (r : Nat) : Keeps s₀ (s.rectAcLost r) := by
  unfold State.rectAcLost
  repeat' (first | with_reducible assumption | with_reducible apply State.finishOpt_keeps | with_reducible apply State.updRect_keeps | with_reducible apply State.rectSet_keeps | with_reducible apply State.updShelf_keeps)

theorem State.pfw_keeps {s₀ s : State} (h : Keeps s₀ s) (b : Bool) : Keeps s₀ (s.pfw b) := by
  unfold State.pfw
  repeat' (first | with_reducible assumption | with_reducible apply State.setB_keeps | with_reducible apply Keeps.ite | simp only [Keeps.upd] | split)

theorem State.vector3_keeps {s₀ s : State} (h : Keeps s₀ s)  : Keeps s₀ (s.vector3) := by
  unfold State.vector3
  repeat' (first | with_reducible assumption | with_reducible apply State.msix_keeps | with_reducible apply Keeps.foldl | with_reducible apply Keeps.foldlFst | simp only [Keeps.upd] | (intro _ _ _))

theorem State.strMode_keeps {s₀ s : State} (h : Keeps s₀ s) (i m : Nat) : Keeps s₀ (s.strMode i m) := by
  unfold State.strMode
  repeat' (first | with_reducible assumption | with_reducible apply State.setF_keeps)

theorem State.strOper_keeps {s₀ s : State} (h : Keeps s₀ s) (i v : Nat) : Keeps s₀ (s.strOper i v) := by
  unfold State.strOper
  repeat' (first | with_reducible assumption | with_reducible apply State.setB_keeps | with_reducible apply State.emit_keeps)

theorem State.strCharge_keeps {s₀ s : State} (h : Keeps s₀ s) (i : Nat) (b : Bool) : Keeps s₀ (s.strCharge i b) := by
  unfold State.strCharge
  repeat' (first | with_reducible assumption | with_reducible apply State.setB_keeps | with_reducible apply State.updStr_keeps | with_reducible apply State.strOper_keeps)

theorem State.learnDisq_keeps {s₀ s : State} (h : Keeps s₀ s) (i : Nat) : Keeps s₀ (s.learnDisq i) := by
  unfold State.learnDisq
  repeat' (first | with_reducible assumption | with_reducible apply State.setF_keeps | with_reducible apply State.flag_keeps)

theorem State.optFreeze_keeps {s₀ s : State} (h : Keeps s₀ s) (v : Nat) : Keeps s₀ (s.optFreeze v) := by
  unfold State.optFreeze
  repeat' (first | with_reducible assumption | with_reducible apply State.ephEndAll_keeps | with_reducible apply State.setF_keeps | with_reducible apply Keeps.ite | simp only [Keeps.upd])

theorem State.tellShelf_keeps {s₀ s : State} (h : Keeps s₀ s)  : Keeps s₀ (s.tellShelf) := by
  unfold State.tellShelf
  repeat' (first | with_reducible assumption | with_reducible apply State.emit_keeps)

theorem State.holdupEnter_keeps {s₀ s : State} (h : Keeps s₀ s) (causes : Nat) : Keeps s₀ (s.holdupEnter causes) := by
  unfold State.holdupEnter
  repeat' (first | with_reducible assumption | with_reducible apply State.setF_keeps | with_reducible apply State.updShelf_keeps | with_reducible apply State.optFreeze_keeps | with_reducible apply State.ephEndAll_keeps | with_reducible apply State.pfw_keeps | with_reducible apply State.flag_keeps | with_reducible apply State.count_keeps | with_reducible apply State.raise_keeps | with_reducible apply State.strMode_keeps | with_reducible apply State.updStr_keeps | with_reducible apply State.setB_keeps | with_reducible apply State.strOper_keeps | with_reducible apply State.learnDisq_keeps | with_reducible apply State.strCharge_keeps | with_reducible apply State.tellShelf_keeps | with_reducible apply State.vector3_keeps | with_reducible apply State.warnSlot_keeps | with_reducible apply Keeps.foldl | with_reducible apply Keeps.foldlFst | with_reducible apply Keeps.ite | dsimp only | (intro _ _ _))

theorem State.holdupCheck_keeps {s₀ s : State} (h : Keeps s₀ s)  : Keeps s₀ (s.holdupCheck) := by
  unfold State.holdupCheck
  repeat' (first | with_reducible assumption | with_reducible apply State.holdupEnter_keeps | with_reducible apply Keeps.ite)


/-! ### Ladder -/

theorem State.opZero_keeps {s₀ s : State} (h : Keeps s₀ s) (k : Nat) : Keeps s₀ (s.opZero k) := by
  unfold State.opZero
  repeat' (first | with_reducible assumption | with_reducible apply State.powerDone_keeps | with_reducible apply State.powerLoad_keeps)

theorem State.rectExclude_keeps {s₀ s t : State} (h : Keeps s₀ s) (r : Nat) (e : s.rectExclude r = some t) : Keeps s₀ t := by
  unfold State.rectExclude at e
  repeat' (first | split at e | (cases e; done) | (cases e; repeat' (first | with_reducible assumption | with_reducible apply State.startDrain_keeps)))

theorem State.moveOff_keeps {s₀ s : State} (h : Keeps s₀ s) (e : Nat) : Keeps s₀ (s.moveOff e) := by
  unfold State.moveOff
  repeat' (first | with_reducible assumption | with_reducible apply State.planMove_keeps | with_reducible apply Keeps.foldl | with_reducible apply Keeps.foldlFst | with_reducible apply Keeps.ite | simp only [Keeps.upd] | (intro _ _ _) | split)

theorem State.yieldCovered_keeps {s₀ s t : State} (h : Keeps s₀ s) (l : List Nat) (e : s.yieldCovered l = some t) : Keeps s₀ t := by
  unfold State.yieldCovered at e
  simp only at e
  split at e
  · cases e
  · cases e; exact Keeps.foldl (fun _ _ k => State.yieldSlot_keeps k _) h

theorem State.contain_keeps {s₀ s t : State} (h : Keeps s₀ s) (o : Obj) (e : s.contain o = some t) : Keeps s₀ t := by
  unfold State.contain at e
  repeat' (first | exact State.yieldCovered_keeps h _ e | exact State.rectExclude_keeps h _ e | split at e | dsimp only at e | (cases e; done) | (cases e; repeat' (first | with_reducible assumption | with_reducible apply State.latchStitch_keeps | with_reducible apply State.opZero_keeps | with_reducible apply State.mirror_keeps | with_reducible apply State.retrainPort_keeps | with_reducible apply State.setB_keeps | with_reducible apply State.moveOff_keeps | with_reducible apply State.strCharge_keeps | with_reducible apply State.updStr_keeps | with_reducible apply State.fence_keeps)))

theorem State.containBoth_keeps {s₀ s t : State} (h : Keeps s₀ s) (x : Inst) (e : s.containBoth x = some t) : Keeps s₀ t := by
  have key : ∀ (b : Bool) (u : State), s.contain (x.kind.obj x.inst) = some u →
      (if b then (s.mirror (.contain (BitVec.ofNat 8 x.kind.code) (BitVec.ofNat 16 x.inst))).contain (x.kind.obj x.inst) else some u) =
        some t → Keeps s₀ t := by
    intro b u f e
    cases b with
    | true => exact State.contain_keeps (State.mirror_keeps h _) _ e
    | false => cases e; exact State.contain_keeps h _ f
  cases f : s.contain (x.kind.obj x.inst) with
  | none => rw [State.containBoth] at e; simp only [f] at e; cases e
  | some u => rw [State.containBoth] at e; simp only [f] at e; exact key _ u f e

theorem State.unitStop_keeps {s₀ s : State} (h : Keeps s₀ s) (x : Inst) : Keeps s₀ (s.unitStop x) := by
  unfold State.unitStop
  repeat' (first | with_reducible assumption | with_reducible apply State.updPair_keeps | with_reducible apply State.setB_keeps | with_reducible apply State.ownFail_keeps | with_reducible apply State.safeStop_keeps | with_reducible apply Keeps.ite)

theorem State.rungAct_keeps {s₀ s t : State} (h : Keeps s₀ s) (rung : Nat) (o : Obj) (x : Inst) (e : s.rungAct rung o x = some t) :
    Keeps s₀ t := by
  unfold State.rungAct at e
  split at e
  · exact State.containBoth_keeps h x e
  · exact State.yieldCovered_keeps h _ e
  · split at e
    · cases e; exact State.startTransit_keeps h _
    · cases e
  · cases e; exact State.unitStop_keeps h x
  · cases e

theorem State.rungNote_keeps {s₀ s : State} (h : Keeps s₀ s) (x : Inst) (rung : Nat) (passed : Bool) : Keeps s₀ (s.rungNote x rung passed) := by
  unfold State.rungNote
  repeat' (first | with_reducible assumption | with_reducible apply State.log_keeps | with_reducible apply State.nvPush_keeps | with_reducible apply State.setF_keeps | with_reducible apply State.ringEvent_keeps | with_reducible apply Keeps.ite)

theorem State.updInst_keeps {s₀ s : State} (h : Keeps s₀ s) (x : Inst) (f : Inst → Inst) : Keeps s₀ (s.updInst x f) := by
  unfold State.updInst
  repeat' (first | with_reducible assumption | with_reducible apply State.updFaults_keeps)

theorem State.climb_keeps {s₀ s : State} (h : Keeps s₀ s) (x : Inst) (top grace n rung : Nat) : Keeps s₀ (s.climb x top grace n rung) := by
  induction n generalizing s rung with
  | zero => exact h
  | succ n ih =>
    unfold State.climb
    split
    · exact State.updInst_keeps h _ _
    · split
      · rename_i e
        have k := State.rungAct_keeps h _ _ _ e
        repeat' (first | with_reducible assumption | with_reducible apply State.unitStop_keeps | with_reducible apply State.rungNote_keeps | with_reducible apply State.updInst_keeps | with_reducible apply Keeps.ite)
      · exact ih (State.rungNote_keeps (State.updInst_keeps h _ _) _ _ _) _

theorem State.nextRungBy_keeps {s₀ s : State} (h : Keeps s₀ s) (x : Inst) (cfg : Nat × Nat × Nat × Nat) : Keeps s₀ (s.nextRungBy x cfg) := by
  unfold State.nextRungBy
  repeat' (first | with_reducible assumption | with_reducible apply State.updInst_keeps | with_reducible apply State.climb_keeps | with_reducible apply State.rungNote_keeps | with_reducible apply Keeps.ite)

theorem State.nextRung_keeps {s₀ s : State} (h : Keeps s₀ s) (x : Inst) : Keeps s₀ (s.nextRung x) := by
  unfold State.nextRung
  repeat' (first | with_reducible assumption | with_reducible apply State.nextRungBy_keeps)

theorem State.settle_keeps {s₀ s : State} (h : Keeps s₀ s)  : Keeps s₀ (s.settle) := by
  unfold State.settle
  repeat' (first | with_reducible assumption | with_reducible apply State.updFaults_keeps | with_reducible apply State.nextRung_keeps | with_reducible apply Keeps.foldl | with_reducible apply Keeps.foldlFst | with_reducible apply Keeps.when | with_reducible apply Keeps.ite | simp only [Keeps.upd] | (intro _ _ _) | (intro _ _) | split)


/-! ### Shelf -/

theorem State.twPush_keeps {s₀ s : State} (h : Keeps s₀ s) (t : Nat) (l : List (Nat × Nat × Nat)) : Keeps s₀ (s.twPush t l) := by
  unfold State.twPush
  repeat' (first | with_reducible assumption | with_reducible apply State.updTw_keeps)

theorem State.twNext_keeps {s₀ s : State} (h : Keeps s₀ s) (t : Nat) (l : List (Nat × Nat × Nat)) : Keeps s₀ (s.twNext t l) := by
  unfold State.twNext
  repeat' (first | with_reducible assumption | with_reducible apply State.updTw_keeps)

theorem State.shareTrims_keeps {s₀ s : State} (h : Keeps s₀ s)  : Keeps s₀ (s.shareTrims) := by
  unfold State.shareTrims
  repeat' (first | with_reducible assumption | with_reducible apply State.updRect_keeps | with_reducible apply State.rectVout_keeps | with_reducible apply Keeps.foldl | with_reducible apply Keeps.foldlFst | with_reducible apply Keeps.ite | dsimp only | (intro _ _ _))

theorem State.pollFailed_keeps {s₀ s : State} (h : Keeps s₀ s) (r : Nat) : Keeps s₀ (s.pollFailed r) := by
  unfold State.pollFailed
  repeat' (first | with_reducible assumption | with_reducible apply State.updRect_keeps | with_reducible apply State.updTw_keeps | with_reducible apply State.rectLost_keeps | with_reducible apply State.level_keeps | with_reducible apply Keeps.ite)

theorem State.rectRetry_keeps {s₀ s : State} (h : Keeps s₀ s) (r : Nat) : Keeps s₀ (s.rectRetry r) := by
  unfold State.rectRetry
  repeat' (first | with_reducible assumption | with_reducible apply State.updRect_keeps | with_reducible apply State.updTw_keeps | with_reducible apply State.pollFailed_keeps | with_reducible apply Keeps.ite)

theorem State.rectStatus_keeps {s₀ s : State} (h : Keeps s₀ s) (r w : Nat) : Keeps s₀ (s.rectStatus r w) := by
  unfold State.rectStatus
  repeat' (first | with_reducible assumption | with_reducible apply State.countN_keeps | with_reducible apply State.rectFail_keeps | with_reducible apply State.rectAcLost_keeps | with_reducible apply State.twNext_keeps | with_reducible apply State.rectRetry_keeps | with_reducible apply State.pmWrite_keeps | with_reducible apply Keeps.ite)

theorem State.rectPolled_keeps {s₀ s : State} (h : Keeps s₀ s) (r : Nat) : Keeps s₀ (s.rectPolled r) := by
  unfold State.rectPolled
  repeat' (first | with_reducible assumption | with_reducible apply State.updRect_keeps | with_reducible apply State.rectLost_keeps | with_reducible apply State.rectVout_keeps | with_reducible apply State.gone_keeps | with_reducible apply State.rectSet_keeps | with_reducible apply State.updShelf_keeps | with_reducible apply State.rectOper_keeps | with_reducible apply State.finishOpt_keeps | with_reducible apply Keeps.ite)

theorem State.admitBus_keeps {s₀ s : State} (h : Keeps s₀ s)  : Keeps s₀ (s.admitBus) := by
  unfold State.admitBus
  repeat' (first | with_reducible assumption | with_reducible apply State.setF_keeps | with_reducible apply State.updRect_keeps | with_reducible apply Keeps.foldl | with_reducible apply Keeps.foldlFst | with_reducible apply Keeps.ite | simp only [Keeps.upd] | (intro _ _ _))

theorem State.rectCleared_keeps {s₀ s : State} (h : Keeps s₀ s) (r w : Nat) : Keeps s₀ (s.rectCleared r w) := by
  unfold State.rectCleared
  repeat' (first | with_reducible assumption | with_reducible apply State.updRect_keeps | with_reducible apply State.rectStatus_keeps | with_reducible apply State.rectSet_keeps | with_reducible apply State.gone_keeps | with_reducible apply State.rectFail_keeps | with_reducible apply State.finishOpt_keeps | with_reducible apply Keeps.ite)

theorem State.rectData_keeps {s₀ s : State} (h : Keeps s₀ s) (r code kind w : Nat) : Keeps s₀ (s.rectData r code kind w) := by
  unfold State.rectData
  repeat' (first | with_reducible assumption | with_reducible apply State.rectSet_keeps | with_reducible apply State.level_keeps | with_reducible apply State.rectFail_keeps | with_reducible apply State.updRect_keeps | with_reducible apply State.admitBus_keeps | with_reducible apply State.rectCleared_keeps | with_reducible apply State.rectStatus_keeps | with_reducible apply State.count_keeps | with_reducible apply State.rectPolled_keeps | with_reducible apply Keeps.ite)

theorem State.rectBin_keeps {s₀ s : State} (h : Keeps s₀ s) (r : Nat) : Keeps s₀ (s.rectBin r) := by
  unfold State.rectBin
  repeat' (first | with_reducible assumption | with_reducible apply State.updRect_keeps)

theorem State.optRect_keeps {s₀ s : State} (h : Keeps s₀ s)  : Keeps s₀ (s.optRect) := by
  unfold State.optRect
  repeat' (first | with_reducible assumption | with_reducible apply State.count_keeps | with_reducible apply State.updShelf_keeps | with_reducible apply State.fwPost_keeps | with_reducible apply State.rectOper_keeps | with_reducible apply Keeps.ite | dsimp only | split)

theorem State.optBus_keeps {s₀ s : State} (h : Keeps s₀ s) (loss : Int) : Keeps s₀ (s.optBus loss) := by
  unfold State.optBus
  repeat' (first | with_reducible assumption | with_reducible apply State.settle_keeps | with_reducible apply State.updShelf_keeps | with_reducible apply State.fwPost_keeps | with_reducible apply Keeps.ite)

theorem State.optSkein_keeps {s₀ s : State} (h : Keeps s₀ s) (k : Nat) : Keeps s₀ (s.optSkein k) := by
  unfold State.optSkein
  repeat' (first | with_reducible assumption | with_reducible apply State.updSk_keeps | with_reducible apply State.count_keeps | with_reducible apply State.startPost_keeps | with_reducible apply Keeps.ite | dsimp only | split)

theorem State.addEnergy_keeps {s₀ s : State} (h : Keeps s₀ s) (h sel : Nat) (nj : Int) : Keeps s₀ (s.addEnergy h sel nj) := by
  unfold State.addEnergy
  repeat' (first | with_reducible assumption | with_reducible apply State.updShelf_keeps)

theorem State.contrib_keeps {s₀ s : State} (h : Keeps s₀ s) (g interval : Nat) : Keeps s₀ (s.contrib g interval).1 := by
  unfold State.contrib
  repeat' (first | with_reducible assumption | with_reducible apply State.updSt_keeps | with_reducible apply Keeps.ite | dsimp only | dsimp only | split)

theorem State.energyTick_keeps {s₀ s : State} (h : Keeps s₀ s) (interval : Nat) : Keeps s₀ (s.energyTick interval) := by
  unfold State.energyTick
  repeat' (first | with_reducible assumption | with_reducible apply State.contrib_keeps | with_reducible apply State.addEnergy_keeps | with_reducible apply State.updSlot_keeps | with_reducible apply State.setPair_keeps | with_reducible apply Keeps.foldl | with_reducible apply Keeps.foldlFst | with_reducible apply Keeps.ite | dsimp only | (intro _ _ _))

theorem State.skeinBin_keeps {s₀ s : State} (h : Keeps s₀ s) (k interval : Nat) : Keeps s₀ (s.skeinBin k interval) := by
  unfold State.skeinBin
  repeat' (first | with_reducible assumption | with_reducible apply State.updSk_keeps | with_reducible apply State.settle_keeps | with_reducible apply State.count_keeps | with_reducible apply Keeps.ite)

theorem State.optPlan_keeps {s₀ s : State} (h : Keeps s₀ s)  : Keeps s₀ (s.optPlan) := by
  unfold State.optPlan
  repeat' (first | with_reducible assumption | with_reducible apply State.optFreeze_keeps | with_reducible apply State.setF_keeps | with_reducible apply State.optRect_keeps | with_reducible apply State.optBus_keeps | with_reducible apply State.optSkein_keeps | with_reducible apply State.setB_keeps | with_reducible apply State.settle_keeps | with_reducible apply Keeps.foldl | with_reducible apply Keeps.foldlFst | with_reducible apply Keeps.ite | simp only [Keeps.upd] | (intro _ _ _))

theorem State.applyOpt_keeps {s₀ s : State} (h : Keeps s₀ s) (p : List Byte) : Keeps s₀ (s.applyOpt p) := by
  unfold State.applyOpt
  repeat' (first | with_reducible assumption | with_reducible apply State.updShelf_keeps | with_reducible apply State.setF_keeps | with_reducible apply State.optFreeze_keeps | with_reducible apply Keeps.ite)

theorem State.applyPolicy_keeps {s₀ s : State} (h : Keeps s₀ s) (p : List Byte) : Keeps s₀ (s.applyPolicy p) := by
  unfold State.applyPolicy
  repeat' (first | with_reducible assumption | with_reducible apply State.updSk_keeps)


/-! ### Holdup -/

theorem State.pubStr_keeps {s₀ s : State} (h : Keeps s₀ s) (i : Nat) : Keeps s₀ (s.pubStr i) := by
  unfold State.pubStr
  repeat' (first | with_reducible assumption | with_reducible apply State.setI_keeps | with_reducible apply State.setF_keeps | with_reducible apply State.raise_keeps | with_reducible apply State.gone_keeps | with_reducible apply Keeps.ite)

theorem State.huSteps_keeps {s₀ s : State} (h : Keeps s₀ s) (elapsedMs : Nat) : Keeps s₀ (s.huSteps elapsedMs) := by
  unfold State.huSteps
  repeat' (first | with_reducible assumption | with_reducible apply State.updShelf_keeps | with_reducible apply State.count_keeps | with_reducible apply State.fwPost_keeps | with_reducible apply State.event_keeps | with_reducible apply Keeps.foldl | with_reducible apply Keeps.foldlFst | with_reducible apply Keeps.ite | dsimp only | (intro _ _ _) | split)

theorem State.applyHoldup_keeps {s₀ s : State} (h : Keeps s₀ s) (p : List Byte) : Keeps s₀ (s.applyHoldup p) := by
  unfold State.applyHoldup
  repeat' (first | with_reducible assumption | with_reducible apply State.updShelf_keeps)

theorem State.takeHoldup_keeps {s₀ s : State} (h : Keeps s₀ s)  : Keeps s₀ (s.takeHoldup) := by
  unfold State.takeHoldup
  repeat' (first | with_reducible assumption | with_reducible apply State.applyHoldup_keeps | simp only [Keeps.upd] | split)

theorem State.strStatus_keeps {s₀ s : State} (h : Keeps s₀ s) (i w : Nat) : Keeps s₀ (s.strStatus i w) := by
  unfold State.strStatus
  repeat' (first | with_reducible assumption | with_reducible apply State.updStr_keeps | with_reducible apply State.setB_keeps | with_reducible apply State.gone_keeps | with_reducible apply State.strCharge_keeps | with_reducible apply State.emit_keeps | with_reducible apply State.level_keeps | with_reducible apply State.eval_keeps | with_reducible apply Keeps.ite)

theorem State.strFailed_keeps {s₀ s : State} (h : Keeps s₀ s) (i : Nat) : Keeps s₀ (s.strFailed i) := by
  unfold State.strFailed
  repeat' (first | with_reducible assumption | with_reducible apply State.updStr_keeps | with_reducible apply State.setB_keeps | with_reducible apply State.level_keeps | with_reducible apply Keeps.ite)

theorem State.learnStep_keeps {s₀ s : State} (h : Keeps s₀ s) (i : Nat) (v a t : Int) (dt : Nat) : Keeps s₀ (s.learnStep i v a t dt) := by
  unfold State.learnStep
  repeat' (first | with_reducible assumption | with_reducible apply State.setF_keeps | with_reducible apply State.updStr_keeps | with_reducible apply State.learnDisq_keeps | with_reducible apply State.flag_keeps | with_reducible apply Keeps.ite)

theorem State.fullCorrect_keeps {s₀ s : State} (h : Keeps s₀ s) (i : Nat) : Keeps s₀ (s.fullCorrect i) := by
  unfold State.fullCorrect
  repeat' (first | with_reducible assumption | with_reducible apply State.updStr_keeps | with_reducible apply State.strCharge_keeps | with_reducible apply State.setF_keeps | with_reducible apply State.pubStr_keeps)

theorem State.chargeOff_keeps {s₀ s : State} (h : Keeps s₀ s) (l : List Nat) : Keeps s₀ (s.chargeOff l) := by
  induction l generalizing s with
  | nil => exact h
  | cons r t ih =>
    unfold State.chargeOff
    exact Keeps.ite h (ih (State.strCharge_keeps h r false))


/-! ### Slots -/

theorem State.keep_keeps {s₀ s : State} (h : Keeps s₀ s) (kind id : Nat) (p : List Byte) : Keeps s₀ (s.keep kind id p) := by
  unfold State.keep
  repeat' (first | with_reducible assumption | with_reducible apply State.setting_keeps)

theorem State.slotTrip_keeps {s₀ s : State} (h : Keeps s₀ s) (n reason : Nat) (k : Kind) : Keeps s₀ (s.slotTrip n reason k) := by
  unfold State.slotTrip
  repeat' (first | with_reducible assumption | with_reducible apply State.count_keeps | with_reducible apply State.fence_keeps | with_reducible apply State.eval_keeps | with_reducible apply Keeps.ite)

theorem State.enterBeacon_keeps {s₀ s : State} (h : Keeps s₀ s) (n : Nat) : Keeps s₀ (s.enterBeacon n) := by
  unfold State.enterBeacon
  repeat' (first | with_reducible assumption | with_reducible apply State.setF_keeps | with_reducible apply State.updPort_keeps | with_reducible apply Keeps.ite)

theorem State.takeMap_keeps {s₀ s : State} (h : Keeps s₀ s) (n : Nat) : Keeps s₀ (s.takeMap n) := by
  unfold State.takeMap
  repeat' (first | with_reducible assumption | with_reducible apply Keeps.foldl | with_reducible apply Keeps.foldlFst | simp only [Keeps.upd] | (intro _ _ _) | split)

theorem State.castFrom_keeps {s₀ s : State} (h : Keeps s₀ s) (n step : Nat) : Keeps s₀ (s.castFrom n step) := by
  unfold State.castFrom
  repeat' (first | with_reducible assumption | with_reducible apply State.takeMap_keeps | with_reducible apply State.slSet_keeps | with_reducible apply State.updSlot_keeps | with_reducible apply Keeps.ite)

theorem State.autoCast_keeps {s₀ s : State} (h : Keeps s₀ s) (n : Nat) : Keeps s₀ (s.autoCast n) := by
  unfold State.autoCast
  repeat' (first | with_reducible assumption | with_reducible apply State.castFrom_keeps | with_reducible apply Keeps.ite)

theorem State.bindOffCheck_keeps {s₀ s : State} (h : Keeps s₀ s) (n : Nat) : Keeps s₀ (s.bindOffCheck n) := by
  unfold State.bindOffCheck
  repeat' (first | with_reducible assumption | with_reducible apply State.unbindSlot_keeps | with_reducible apply State.enterBeacon_keeps | with_reducible apply State.epochZero_keeps | with_reducible apply State.gateSet_keeps | with_reducible apply State.slSet_keeps | with_reducible apply State.setB_keeps | with_reducible apply State.svcChange_keeps | with_reducible apply State.slotDone_keeps | with_reducible apply Keeps.ite)

theorem State.bindOff_keeps {s₀ s : State} (h : Keeps s₀ s) (n : Nat) (sleep : Bool) : Keeps s₀ (s.bindOff n sleep) := by
  unfold State.bindOff
  repeat' (first | with_reducible assumption | with_reducible apply State.slSet_keeps | with_reducible apply State.updSlot_keeps | with_reducible apply State.warnSlot_keeps | with_reducible apply State.seqStop_keeps | with_reducible apply State.bindOffCheck_keeps)

theorem State.stopsNoted_keeps {s₀ s : State} (h : Keeps s₀ s) (n : Nat) : Keeps s₀ (s.stopsNoted n) := by
  unfold State.stopsNoted
  repeat' (first | with_reducible assumption | with_reducible apply State.updRrun_keeps | with_reducible apply State.seqRec_keeps | with_reducible apply Keeps.foldl | with_reducible apply Keeps.foldlFst | with_reducible apply Keeps.ite | dsimp only | (intro _ _ _))

theorem State.seqPoke_keeps {s₀ s : State} (h : Keeps s₀ s) (n : Nat) : Keeps s₀ (s.seqPoke n) := by
  unfold State.seqPoke
  repeat' (first | with_reducible assumption | with_reducible apply State.stopsNoted_keeps | with_reducible apply State.setF_keeps | with_reducible apply State.updSeq_keeps | with_reducible apply State.seqDone_keeps | with_reducible apply State.seqLatch_keeps | with_reducible apply State.bindOffCheck_keeps | with_reducible apply State.shutdownSweep_keeps | with_reducible apply Keeps.ite | simp only [Keeps.upd] | split)

theorem State.workerTrip_keeps {s₀ s : State} (h : Keeps s₀ s) (n : Fin 64) (_ma : Word) : Keeps s₀ (s.workerTrip n _ma) := by
  unfold State.workerTrip
  repeat' (first | with_reducible assumption | with_reducible apply State.updSlot_keeps | with_reducible apply State.slotTrip_keeps)

theorem State.slotEnergy_keeps {s₀ s : State} (h : Keeps s₀ s) (n : Nat) (e : Int) : Keeps s₀ (s.slotEnergy n e) := by
  unfold State.slotEnergy
  repeat' (first | with_reducible assumption | with_reducible apply State.updSlot_keeps | with_reducible apply State.setPair_keeps | with_reducible apply State.touch_keeps)

theorem State.slotJudge_keeps {s₀ s : State} (h : Keeps s₀ s) (n : Nat) : Keeps s₀ (s.slotJudge n).1 := by
  unfold State.slotJudge
  repeat' (first | with_reducible assumption | with_reducible apply State.updSlot_keeps | with_reducible apply Keeps.ite | dsimp only | dsimp only | split)

theorem State.placeAll_keeps {s₀ s t : State} (h : Keeps s₀ s) (l : List Nat) (e : s.placeAll l = some t) : Keeps s₀ t := by
  induction l generalizing s with
  | nil => cases e; exact h
  | cons k l ih =>
    unfold State.placeAll at e
    split at e
    · exact ih (State.moveJob_keeps h _ _ _) e
    · cases e

theorem State.storePlans_keeps {s₀ s : State} (h : Keeps s₀ s) (p : Nat) : Keeps s₀ (s.storePlans p) := by
  unfold State.storePlans
  repeat' (first | with_reducible assumption | with_reducible apply State.updPort_keeps)

theorem State.pubJob_keeps {s₀ s : State} (h : Keeps s₀ s) (k : Nat) : Keeps s₀ (s.pubJob k) := by
  unfold State.pubJob
  repeat' (first | with_reducible assumption | with_reducible apply State.pubEng_keeps | simp only [Keeps.upd] | split)

theorem State.bindStitch_keeps {s₀ s : State} (h : Keeps s₀ s) (k g : Nat) : Keeps s₀ (s.bindStitch k g) := by
  unfold State.bindStitch
  repeat' (first | with_reducible assumption | with_reducible apply State.updSt_keeps | with_reducible apply State.updSk_keeps | with_reducible apply State.stSet_keeps | with_reducible apply State.raise_keeps | with_reducible apply Keeps.ite)

theorem State.bindSlot_keeps {s₀ s : State} (h : Keeps s₀ s) (n : Nat) : Keeps s₀ (s.bindSlot n) := by
  unfold State.bindSlot
  repeat' (first | with_reducible assumption | with_reducible apply State.bindStitch_keeps | with_reducible apply Keeps.foldl | with_reducible apply Keeps.foldlFst | simp only [Keeps.upd] | (intro _ _ _))

theorem State.goLive_keeps {s₀ s : State} (h : Keeps s₀ s) (n : Nat) : Keeps s₀ (s.goLive n) := by
  unfold State.goLive
  repeat' (first | with_reducible assumption | with_reducible apply State.updSt_keeps | with_reducible apply State.updPort_keeps | with_reducible apply State.setF_keeps | with_reducible apply State.slSet_keeps | with_reducible apply State.updSlot_keeps | with_reducible apply State.pubJob_keeps | with_reducible apply State.slotDone_keeps | with_reducible apply Keeps.foldl | with_reducible apply Keeps.foldlFst | simp only [Keeps.upd] | (intro _ _ _))

theorem State.castStep_keeps {s₀ s : State} (h : Keeps s₀ s) (n : Nat) : Keeps s₀ (s.castStep n) := by
  unfold State.castStep
  repeat' (first | with_reducible assumption | with_reducible apply State.updSlot_keeps | with_reducible apply State.mirror_keeps | with_reducible apply State.updSvc_keeps | with_reducible apply State.svcChange_keeps | with_reducible apply State.event_keeps | with_reducible apply State.gateSet_keeps | with_reducible apply State.setF_keeps | with_reducible apply State.updPort_keeps | with_reducible apply State.fence_keeps | with_reducible apply State.emit_keeps | refine State.placeAll_keeps ?_ _ (by with_reducible assumption) | with_reducible apply State.storePlans_keeps | with_reducible apply State.goLive_keeps | with_reducible apply State.bindSlot_keeps | with_reducible apply State.seqStart_keeps | with_reducible apply State.seqPoke_keeps | with_reducible apply Keeps.foldl | with_reducible apply Keeps.foldlFst | with_reducible apply Keeps.when | with_reducible apply Keeps.ite | dsimp only | (intro _ _ _) | (intro _ _) | split)

theorem State.pubCap_keeps {s₀ s : State} (h : Keeps s₀ s) (h : Nat) : Keeps s₀ (s.pubCap h) := by
  unfold State.pubCap
  repeat' (first | with_reducible assumption | with_reducible apply State.setF_keeps | with_reducible apply State.setPair_keeps)

theorem State.tellCap_keeps {s₀ s : State} (h : Keeps s₀ s) (h : Nat) : Keeps s₀ (s.tellCap h) := by
  unfold State.tellCap
  repeat' (first | with_reducible assumption | with_reducible apply State.pubCap_keeps | with_reducible apply State.updBgt_keeps | with_reducible apply State.msix_keeps)

theorem State.throttleSlots_keeps {s₀ s : State} (h : Keeps s₀ s) (h : Nat) (b : Bool) : Keeps s₀ (s.throttleSlots h b) := by
  unfold State.throttleSlots
  repeat' (first | with_reducible assumption | with_reducible apply State.setB_keeps | with_reducible apply State.svcChange_keeps | with_reducible apply Keeps.foldl | with_reducible apply Keeps.foldlFst | simp only [Keeps.upd] | (intro _ _ _))

theorem State.capFree_keeps {s₀ s : State} (h : Keeps s₀ s) (h : Nat) : Keeps s₀ (s.capFree h) := by
  unfold State.capFree
  repeat' (first | with_reducible assumption | with_reducible apply State.setF_keeps | with_reducible apply State.throttleSlots_keeps | with_reducible apply State.gone_keeps | with_reducible apply State.tellCap_keeps)

theorem State.capThrottle_keeps {s₀ s : State} (h : Keeps s₀ s) (h : Nat) : Keeps s₀ (s.capThrottle h) := by
  unfold State.capThrottle
  repeat' (first | with_reducible assumption | with_reducible apply State.setF_keeps | with_reducible apply State.flag_keeps | with_reducible apply State.updBgt_keeps | with_reducible apply State.throttleSlots_keeps | with_reducible apply State.emit_keeps | with_reducible apply State.event_keeps | with_reducible apply State.level_keeps | with_reducible apply State.pubCap_keeps | with_reducible apply Keeps.foldl | with_reducible apply Keeps.foldlFst | simp only [Keeps.upd] | (intro _ _ _))

theorem State.applyBreaker_keeps {s₀ s : State} (h : Keeps s₀ s) (p : List Byte) : Keeps s₀ (s.applyBreaker p) := by
  unfold State.applyBreaker
  repeat' (first | with_reducible assumption | with_reducible apply State.updSlot_keeps | with_reducible apply State.svcChange_keeps | with_reducible apply State.keep_keeps)

theorem State.applyBudget_keeps {s₀ s : State} (h : Keeps s₀ s) (p : List Byte) : Keeps s₀ (s.applyBudget p) := by
  unfold State.applyBudget
  repeat' (first | with_reducible assumption | with_reducible apply State.updBgt_keeps | with_reducible apply State.setF_keeps | with_reducible apply State.keep_keeps)

theorem State.applyBudgetPolicy_keeps {s₀ s : State} (h : Keeps s₀ s) (p : List Byte) : Keeps s₀ (s.applyBudgetPolicy p) := by
  unfold State.applyBudgetPolicy
  repeat' (first | with_reducible assumption | with_reducible apply State.setF_keeps | with_reducible apply State.updShelf_keeps | with_reducible apply State.keep_keeps)


/-! ### Recorder -/

theorem State.slotWrite_keeps {s₀ s : State} (h : Keeps s₀ s) (mb k : Nat) (b : List Byte) : Keeps s₀ (s.slotWrite mb k b) := by
  unfold State.slotWrite
  repeat' (first | with_reducible assumption | with_reducible apply Keeps.memWrite)

theorem State.nvNext_keeps {s₀ s : State} (h : Keeps s₀ s) (w : NvWrite) : Keeps s₀ (s.nvNext w) := by
  unfold State.nvNext
  repeat' (first | with_reducible assumption | with_reducible apply State.updNv_keeps | with_reducible apply State.drop_keeps | with_reducible apply State.setB_keeps | with_reducible apply Keeps.ite)

theorem State.noteCopy_keeps {s₀ s : State} (h : Keeps s₀ s) (die : Nat) (c : Option NvCopy) : Keeps s₀ (s.noteCopy die c) := by
  unfold State.noteCopy
  repeat' (first | with_reducible assumption | with_reducible apply State.flag_keeps | with_reducible apply State.count_keeps | with_reducible apply State.level_keeps | with_reducible apply Keeps.ite | split)

theorem State.readRec_keeps {s₀ s : State} (h : Keeps s₀ s) (key : Nat) : Keeps s₀ (s.readRec key).1 := by
  unfold State.readRec
  repeat' (first | with_reducible assumption | with_reducible apply State.count_keeps | with_reducible apply State.noteCopy_keeps | with_reducible apply State.injectUse_keeps | with_reducible apply State.raiseAs_keeps | with_reducible apply State.gone_keeps | with_reducible apply State.nvPut_keeps | with_reducible apply Keeps.ite | dsimp only | dsimp only | split)

theorem State.takeRecs_keeps {s₀ s : State} (h : Keeps s₀ s) (skip : State → State) (hs : ∀ x, Keeps s₀ x → Keeps s₀ (skip x))
    (l : List (Nat × Nat)) (n : Nat) (acc : List NvCopy) : Keeps s₀ (s.takeRecs skip l n acc).1 := by
  induction l generalizing s n acc with
  | nil => exact h
  | cons x t ih =>
    unfold State.takeRecs
    split
    · exact h
    · split
      · rename_i e
        exact ih (by have k := State.readRec_keeps h x.1; rw [e] at k; exact k) _ _
      · rename_i e
        exact ih (hs _ (by have k := State.readRec_keeps h x.1; rw [e] at k; exact k)) _ _

theorem State.readRegion_keeps {s₀ s : State} (h : Keeps s₀ s) (mb region first n : Nat) (skip : State → State)
    (hs : ∀ x, Keeps s₀ x → Keeps s₀ (skip x)) : Keeps s₀ (s.readRegion mb region first n skip).1 :=
  State.takeRecs_keeps h skip hs _ _ _

theorem State.railReplay_keeps {s₀ s : State} (h : Keeps s₀ s) (d : NvData) : Keeps s₀ (s.railReplay d) := by
  unfold State.railReplay
  repeat' (first | with_reducible assumption | with_reducible apply State.count_keeps | with_reducible apply State.putWord_keeps | with_reducible apply Keeps.ite | split)


/-! ### Sequencing -/

theorem State.powerAs_keeps {s₀ s : State} (h : Keeps s₀ s) (k op mb sl : Nat) : Keeps s₀ (s.powerAs k op mb sl) := by
  unfold State.powerAs
  repeat' (first | with_reducible assumption | with_reducible apply State.updSk_keeps | with_reducible apply State.powerDone_keeps | with_reducible apply State.skSet_keeps | with_reducible apply State.powerLoad_keeps | with_reducible apply State.gone_keeps | with_reducible apply Keeps.ite | dsimp only | split)

theorem State.seqCond_keeps {s₀ s : State} (h : Keeps s₀ s) (k code : Nat) (present : Bool) : Keeps s₀ (s.seqCond k code present) := by
  unfold State.seqCond
  repeat' (first | with_reducible assumption | with_reducible apply State.updRrun_keeps | with_reducible apply State.count_keeps | with_reducible apply State.flag_keeps | with_reducible apply State.seqRec_keeps | with_reducible apply State.event_keeps | with_reducible apply Keeps.ite | dsimp only | split)

theorem State.railAct_keeps {s₀ s : State} (h : Keeps s₀ s) (k : Nat) (lost : Bool) : Keeps s₀ (s.railAct k lost) := by
  unfold State.railAct
  repeat' (first | with_reducible assumption | with_reducible apply State.updRrun_keeps | with_reducible apply State.seqRec_keeps | with_reducible apply State.count_keeps | with_reducible apply State.raise_keeps | with_reducible apply State.powerLoad_keeps | with_reducible apply State.updSeq_keeps | with_reducible apply State.setF_keeps | with_reducible apply State.seqStop_keeps | with_reducible apply Keeps.ite | dsimp only | split)

theorem State.railLost_keeps {s₀ s : State} (h : Keeps s₀ s) (k : Nat) : Keeps s₀ (s.railLost k) := by
  unfold State.railLost
  repeat' (first | with_reducible assumption | with_reducible apply State.updRrun_keeps | with_reducible apply State.count_keeps | with_reducible apply State.railAct_keeps | with_reducible apply Keeps.ite)

theorem State.shelfCheckpoint_keeps {s₀ s : State} (h : Keeps s₀ s)  : Keeps s₀ (s.shelfCheckpoint) := by
  unfold State.shelfCheckpoint
  repeat' (first | with_reducible assumption | with_reducible apply State.setting_keeps | with_reducible apply Keeps.foldl | with_reducible apply Keeps.foldlFst | with_reducible apply Keeps.ite | simp only [Keeps.upd] | (intro _ _ _))

theorem State.chassisRec_keeps {s₀ s : State} (h : Keeps s₀ s) (kind : Nat) : Keeps s₀ (s.chassisRec kind) := by
  unfold State.chassisRec
  repeat' (first | with_reducible assumption | with_reducible apply State.seqRecord_keeps)

theorem State.applyRail_keeps {s₀ s : State} (h : Keeps s₀ s) (p : List Byte) : Keeps s₀ (s.applyRail p) := by
  unfold State.applyRail
  repeat' (first | with_reducible assumption | with_reducible apply State.keep_keeps | with_reducible apply Keeps.ite | simp only [Keeps.upd])

theorem State.applySeqSlot_keeps {s₀ s : State} (h : Keeps s₀ s) (p : List Byte) : Keeps s₀ (s.applySeqSlot p) := by
  unfold State.applySeqSlot
  repeat' (first | with_reducible assumption | with_reducible apply State.updSeq_keeps | with_reducible apply State.rstOut_keeps | with_reducible apply State.keep_keeps)


/-! ### Arbiter -/

theorem State.arbDup_keeps {s₀ s : State} (h : Keeps s₀ s) (p : Nat) : Keeps s₀ (s.arbDup p) := by
  unfold State.arbDup
  repeat' (first | with_reducible assumption | with_reducible apply State.count_keeps | with_reducible apply State.flag_keeps | with_reducible apply State.raise_keeps)

theorem State.postCell_keeps {s₀ s : State} (h : Keeps s₀ s) (p : Nat) (c : CmdCell) : Keeps s₀ (s.postCell p c) := by
  unfold State.postCell
  repeat' (first | with_reducible assumption | with_reducible apply State.arbDup_keeps | with_reducible apply State.updPort_keeps | with_reducible apply State.count_keeps | with_reducible apply State.flag_keeps | with_reducible apply State.pubArb_keeps | with_reducible apply Keeps.ite | dsimp only | split)

theorem State.dropLocks_keeps {s₀ s : State} (h : Keeps s₀ s) (p : Nat) : Keeps s₀ (s.dropLocks p) := by
  unfold State.dropLocks
  repeat' (first | with_reducible assumption | with_reducible apply State.updPort_keeps | with_reducible apply State.count_keeps | with_reducible apply State.flag_keeps | with_reducible apply State.pubArb_keeps | with_reducible apply State.raise_keeps | with_reducible apply Keeps.foldl | with_reducible apply Keeps.foldlFst | dsimp only | (intro _ _ _))

theorem State.expireCells_keeps {s₀ s : State} (h : Keeps s₀ s) (p : Nat) : Keeps s₀ (s.expireCells p) := by
  unfold State.expireCells
  repeat' (first | with_reducible assumption | with_reducible apply State.updPort_keeps | with_reducible apply State.countN_keeps | with_reducible apply State.flag_keeps | with_reducible apply State.pubArb_keeps | with_reducible apply State.raise_keeps | with_reducible apply Keeps.ite)

theorem State.noteGrant_keeps {s₀ s : State} (h : Keeps s₀ s) (p : Nat) (c : CmdCell) : Keeps s₀ (s.noteGrant p c) := by
  unfold State.noteGrant
  repeat' (first | with_reducible assumption | with_reducible apply State.updSt_keeps)

theorem State.passSlot_keeps {s₀ s : State} (h : Keeps s₀ s) (p : Nat) : Keeps s₀ (s.passSlot p) := by
  unfold State.passSlot
  repeat' (first | with_reducible assumption | refine State.sendFirst_keeps ?_ _ (by with_reducible assumption) | with_reducible apply State.updPort_keeps | simp only [Keeps.upd] | split)

theorem State.grantCell_keeps {s₀ s : State} (h : Keeps s₀ s) (p : Nat) (c : CmdCell) : Keeps s₀ (s.grantCell p c) := by
  unfold State.grantCell
  repeat' (first | with_reducible assumption | with_reducible apply State.updPort_keeps | with_reducible apply State.count_keeps | with_reducible apply State.lowerTo_keeps | with_reducible apply State.raiseTo_keeps | with_reducible apply State.pubArb_keeps | with_reducible apply State.noteGrant_keeps | with_reducible apply State.enterPhy_keeps | with_reducible apply State.command_keeps | with_reducible apply State.passSlot_keeps | with_reducible apply Keeps.ite)

theorem State.hints_keeps {s₀ s : State} (h : Keeps s₀ s) (p : Nat) : Keeps s₀ (s.hints p) := by
  unfold State.hints
  repeat' (first | with_reducible assumption | with_reducible apply State.updPort_keeps | with_reducible apply State.countN_keeps | with_reducible apply State.flag_keeps | with_reducible apply Keeps.foldl | with_reducible apply Keeps.foldlFst | with_reducible apply Keeps.ite)


/-! ### Reducer -/

theorem State.claimAcked_keeps {s₀ s : State} (h : Keeps s₀ s) (p : Nat) : Keeps s₀ (s.claimAcked p) := by
  unfold State.claimAcked
  repeat' (first | with_reducible assumption | with_reducible apply State.setB_keeps | with_reducible apply State.updPort_keeps | with_reducible apply State.requeue_keeps | with_reducible apply Keeps.ite | dsimp only | split)

theorem State.portYield_keeps {s₀ s : State} (h : Keeps s₀ s) (p : Nat) : Keeps s₀ (s.portYield p) := by
  unfold State.portYield
  repeat' (first | with_reducible assumption | with_reducible apply State.setOwn_keeps | with_reducible apply State.flag_keeps | with_reducible apply State.raise_keeps | with_reducible apply State.updPort_keeps | with_reducible apply State.pfw_keeps | with_reducible apply State.setUnit_keeps | with_reducible apply Keeps.ite)

theorem State.ownerBit_keeps {s₀ s : State} (h : Keeps s₀ s) (p : Nat) (owner : Bool) : Keeps s₀ (s.ownerBit p owner) := by
  unfold State.ownerBit
  repeat' (first | with_reducible assumption | with_reducible apply State.count_keeps | with_reducible apply State.claimAcked_keeps | with_reducible apply State.updPort_keeps | with_reducible apply State.portYield_keeps | with_reducible apply Keeps.ite)

theorem State.upHdr_keeps {s₀ s : State} (h : Keeps s₀ s) (l : LinkId) (h : UpHdr) : Keeps s₀ (s.upHdr l h) := by
  unfold State.upHdr
  repeat' (first | with_reducible assumption | with_reducible apply State.sawXoff_keeps | with_reducible apply State.ownerBit_keeps | dsimp only | split)

theorem State.upScheduled_keeps {s₀ s : State} (h : Keeps s₀ s) (p : Nat) : Keeps s₀ (s.upScheduled p) := by
  unfold State.upScheduled
  repeat' (first | with_reducible assumption | with_reducible apply State.updPort_keeps)

theorem State.accumulate_keeps {s₀ s : State} (h : Keeps s₀ s) (g k : Nat) (r : Rec) : Keeps s₀ (s.accumulate g k r) := by
  unfold State.accumulate
  repeat' (first | with_reducible assumption | with_reducible apply State.updSt_keeps | with_reducible apply Keeps.ite | dsimp only | split)

theorem State.capStage_keeps {s₀ s : State} (h : Keeps s₀ s) (g : Nat) (r : Rec) : Keeps s₀ (s.capStage g r) := by
  unfold State.capStage
  repeat' (first | with_reducible assumption | with_reducible apply State.updNv_keeps | with_reducible apply State.capFlush_keeps | with_reducible apply Keeps.ite)

theorem State.reduceWin_keeps {s₀ s : State} (h : Keeps s₀ s) (g k : Nat) (w : OpenWin) : Keeps s₀ (s.reduceWin g k w) := by
  unfold State.reduceWin
  repeat' (first | with_reducible assumption | with_reducible apply State.count_keeps | with_reducible apply State.flag_keeps | with_reducible apply State.accumulate_keeps | with_reducible apply State.updSt_keeps | with_reducible apply State.gone_keeps | with_reducible apply State.updSk_keeps | with_reducible apply State.capStage_keeps | with_reducible apply Keeps.ite)

theorem State.reduceUpTo_keeps {s₀ s : State} (h : Keeps s₀ s) (g k n f : Nat) : Keeps s₀ (s.reduceUpTo g k n f) := by
  induction f generalizing s with
  | zero => exact h
  | succ f ih =>
    unfold State.reduceUpTo
    simp only
    repeat' (first | with_reducible assumption | with_reducible apply ih | with_reducible apply State.reduceWin_keeps | with_reducible apply Keeps.ite | split)

theorem State.hubSeen_keeps {s₀ s : State} (h : Keeps s₀ s) (g hub : Nat) : Keeps s₀ (s.hubSeen g hub) := by
  unfold State.hubSeen
  repeat' (first | with_reducible assumption | with_reducible apply State.updSt_keeps | with_reducible apply State.stSet_keeps | with_reducible apply State.raise_keeps | with_reducible apply State.bindStitch_keeps | with_reducible apply State.pubJob_keeps | with_reducible apply Keeps.ite | dsimp only | split)

theorem State.takeSnap_keeps {s₀ s : State} (h : Keeps s₀ s) (p : Nat) : Keeps s₀ (s.takeSnap p) := by
  unfold State.takeSnap
  repeat' (first | with_reducible assumption | with_reducible apply State.updSt_keeps | with_reducible apply State.updPort_keeps | with_reducible apply State.setB_keeps | with_reducible apply Keeps.foldl | with_reducible apply Keeps.foldlFst | with_reducible apply Keeps.ite | simp only [Keeps.upd] | (intro _ _ _))

theorem State.clearAcc_keeps {s₀ s : State} (h : Keeps s₀ s) (p : Nat) : Keeps s₀ (s.clearAcc p) := by
  unfold State.clearAcc
  repeat' (first | with_reducible assumption | with_reducible apply State.updSt_keeps | with_reducible apply State.updPort_keeps | with_reducible apply Keeps.foldl | with_reducible apply Keeps.foldlFst | with_reducible apply Keeps.ite | simp only [Keeps.upd] | (intro _ _ _))


/-! ### Loop -/

theorem State.stagger_keeps {s₀ s : State} (h : Keeps s₀ s) (k : Nat) : Keeps s₀ (s.stagger k) := by
  unfold State.stagger
  repeat' (first | with_reducible assumption | with_reducible apply State.updSt_keeps | with_reducible apply Keeps.foldl | with_reducible apply Keeps.foldlFst | with_reducible apply Keeps.ite | dsimp only | (intro _ _ _))

theorem State.moveCarrier_keeps {s₀ s : State} (h : Keeps s₀ s) (k c hz m : Nat) : Keeps s₀ (s.moveCarrier k c hz m) := by
  unfold State.moveCarrier
  repeat' (first | with_reducible assumption | with_reducible apply State.updSk_keeps | with_reducible apply Keeps.foldl | with_reducible apply Keeps.foldlFst | with_reducible apply Keeps.ite)

theorem State.judgeOverrun_keeps {s₀ s : State} (h : Keeps s₀ s) (k e : Nat) : Keeps s₀ (s.judgeOverrun k e) := by
  unfold State.judgeOverrun
  repeat' (first | with_reducible assumption | with_reducible apply State.setF_keeps | with_reducible apply State.count_keeps | with_reducible apply State.updSk_keeps | with_reducible apply State.setB_keeps | with_reducible apply State.raise_keeps | with_reducible apply State.pubEng_keeps | with_reducible apply State.dropMove_keeps | with_reducible apply State.finishOpt_keeps | with_reducible apply State.moveJob_keeps | with_reducible apply State.eval_keeps | with_reducible apply Keeps.ite | simp only [Keeps.upd] | split)

theorem State.powerOp_keeps {s₀ s : State} (h : Keeps s₀ s) (k op : Nat) : Keeps s₀ (s.powerOp k op).1 := by
  unfold State.powerOp
  repeat' (first | with_reducible assumption | with_reducible apply State.updSk_keeps | with_reducible apply State.skSet_keeps | with_reducible apply Keeps.ite | dsimp only | dsimp only | split)

theorem State.takeLoad_keeps {s₀ s : State} (h : Keeps s₀ s) (k : Nat) (l : Load) : Keeps s₀ (s.takeLoad k l).1 := by
  unfold State.takeLoad
  repeat' (first | with_reducible assumption | with_reducible apply State.powerOp_keeps | with_reducible apply State.applyLoad_keeps | simp only [Keeps.upd] | dsimp only | split)

theorem State.countAct_keeps {s₀ s : State} (h : Keeps s₀ s) (k n issuer : Nat) : Keeps s₀ (s.countAct k n issuer) := by
  unfold State.countAct
  repeat' (first | with_reducible assumption | with_reducible apply State.count_keeps | with_reducible apply State.event_keeps | with_reducible apply State.updSk_keeps | with_reducible apply State.settle_keeps | with_reducible apply Keeps.ite)

theorem State.takeAct_keeps {s₀ s : State} (h : Keeps s₀ s) (k c : Nat) (a : SkAct) : Keeps s₀ (s.takeAct k c a).1 := by
  unfold State.takeAct
  repeat' (first | with_reducible assumption | with_reducible apply State.updSk_keeps | with_reducible apply State.count_keeps | with_reducible apply State.countAct_keeps | with_reducible apply State.moveCarrier_keeps | with_reducible apply State.takeLoad_keeps | with_reducible apply Keeps.ite | simp only [Keeps.upd] | dsimp only | split)

theorem State.releaseSkein_keeps {s₀ s : State} (h : Keeps s₀ s) (k c : Nat) : Keeps s₀ (s.releaseSkein k c) := by
  unfold State.releaseSkein
  repeat' (first | with_reducible assumption | with_reducible apply State.powerDone_keeps | with_reducible apply State.skSet_keeps | with_reducible apply State.updSk_keeps | with_reducible apply Keeps.ite)

theorem State.takeAll_keeps {s₀ s : State} (h : Keeps s₀ s) (k c : Nat) : Keeps s₀ (s.takeAll k c).1 := by
  unfold State.takeAll
  repeat' (first | with_reducible assumption | with_reducible apply State.updSk_keeps | with_reducible apply State.takeLoad_keeps | with_reducible apply State.finishOpt_keeps | with_reducible apply State.takeAct_keeps | with_reducible apply State.releaseSkein_keeps | with_reducible apply Keeps.foldl | with_reducible apply Keeps.foldlFst | dsimp only | dsimp only | (intro _ _ _) | split)

theorem State.takeRestore_keeps {s₀ s : State} (h : Keeps s₀ s) (k c : Nat) : Keeps s₀ (s.takeRestore k c) := by
  unfold State.takeRestore
  repeat' (first | with_reducible assumption | with_reducible apply State.updSk_keeps | with_reducible apply State.count_keeps | with_reducible apply State.setB_keeps | with_reducible apply State.event_keeps | with_reducible apply Keeps.ite | dsimp only | split)

theorem State.setRunning_keeps {s₀ s : State} (h : Keeps s₀ s) (k c : Nat) : Keeps s₀ (s.setRunning k c) := by
  unfold State.setRunning
  repeat' (first | with_reducible assumption | with_reducible apply State.count_keeps | with_reducible apply State.updSk_keeps | with_reducible apply State.stagger_keeps | with_reducible apply State.setF_keeps | with_reducible apply Keeps.ite | dsimp only | split)

theorem State.judgeSense_keeps {s₀ s : State} (h : Keeps s₀ s) (k g : Nat) : Keeps s₀ (s.judgeSense k g) := by
  unfold State.judgeSense
  repeat' (first | with_reducible assumption | with_reducible apply State.updSt_keeps | with_reducible apply State.senseSet_keeps | with_reducible apply Keeps.ite | dsimp only | split)

theorem State.measure_keeps {s₀ s : State} (h : Keeps s₀ s) (k e : Nat) (gs : List Nat) : Keeps s₀ (s.measure k e gs) := by
  unfold State.measure
  repeat' (first | with_reducible assumption | with_reducible apply State.count_keeps | with_reducible apply State.updSk_keeps | with_reducible apply Keeps.ite)

theorem State.judgeDegraded_keeps {s₀ s : State} (h : Keeps s₀ s) (k : Nat) : Keeps s₀ (s.judgeDegraded k) := by
  unfold State.judgeDegraded
  repeat' (first | with_reducible assumption | with_reducible apply State.setB_keeps | with_reducible apply State.level_keeps | with_reducible apply State.seqCond_keeps)

theorem State.setRestore_keeps {s₀ s : State} (h : Keeps s₀ s) (k cy : Nat) : Keeps s₀ (s.setRestore k cy) := by
  unfold State.setRestore
  repeat' (first | with_reducible assumption | with_reducible apply State.updSk_keeps | with_reducible apply Keeps.ite)

theorem State.judgeRestore_keeps {s₀ s : State} (h : Keeps s₀ s) (k c : Nat) : Keeps s₀ (s.judgeRestore k c) := by
  unfold State.judgeRestore
  repeat' (first | with_reducible assumption | with_reducible apply State.updSk_keeps | with_reducible apply State.count_keeps | with_reducible apply State.setRestore_keeps | with_reducible apply Keeps.foldl | with_reducible apply Keeps.foldlFst | with_reducible apply Keeps.ite | dsimp only | (intro _ _ _))

theorem State.countRuns_keeps {s₀ s : State} (h : Keeps s₀ s) (k n : Nat) (fb : Option Int) : Keeps s₀ (s.countRuns k n fb) := by
  unfold State.countRuns
  repeat' (first | with_reducible assumption | with_reducible apply State.count_keeps | with_reducible apply State.flag_keeps | with_reducible apply State.updSk_keeps | with_reducible apply Keeps.ite)

theorem State.takeUv_keeps {s₀ s : State} (h : Keeps s₀ s) (k : Nat) : Keeps s₀ (s.takeUv k) := by
  unfold State.takeUv
  repeat' (first | with_reducible assumption | with_reducible apply State.flag_keeps | with_reducible apply State.eval_keeps | with_reducible apply State.seqCond_keeps | with_reducible apply Keeps.ite)

theorem State.dropTerms_keeps {s₀ s : State} (h : Keeps s₀ s) (k : Nat) : Keeps s₀ (s.dropTerms k) := by
  unfold State.dropTerms
  repeat' (first | with_reducible assumption | with_reducible apply State.updSk_keeps)

theorem State.latchSkein_keeps {s₀ s : State} (h : Keeps s₀ s) (k : Nat) (ov : Bool) : Keeps s₀ (s.latchSkein k ov) := by
  unfold State.latchSkein
  repeat' (first | with_reducible assumption | with_reducible apply State.powerDone_keeps | with_reducible apply State.skSet_keeps | with_reducible apply State.dropTerms_keeps | with_reducible apply State.updSk_keeps | with_reducible apply State.flag_keeps | with_reducible apply State.count_keeps | with_reducible apply State.raise_keeps | with_reducible apply State.railLost_keeps | with_reducible apply Keeps.ite)

theorem State.skeinOff_keeps {s₀ s : State} (h : Keeps s₀ s) (k c : Nat) : Keeps s₀ (s.skeinOff k c) := by
  unfold State.skeinOff
  repeat' (first | with_reducible assumption | with_reducible apply State.skSet_keeps | with_reducible apply State.dropTerms_keeps | with_reducible apply State.updSk_keeps | with_reducible apply State.gone_keeps)

theorem State.startSkein_keeps {s₀ s : State} (h : Keeps s₀ s) (k c : Nat) : Keeps s₀ (s.startSkein k c) := by
  unfold State.startSkein
  repeat' (first | with_reducible assumption | with_reducible apply State.updSk_keeps | with_reducible apply State.powerDone_keeps | with_reducible apply State.dropTerms_keeps | with_reducible apply State.skSet_keeps | with_reducible apply Keeps.ite | dsimp only | split)

theorem State.moveRef_keeps {s₀ s : State} (h : Keeps s₀ s) (k : Nat) : Keeps s₀ (s.moveRef k) := by
  unfold State.moveRef
  repeat' (first | with_reducible assumption | with_reducible apply State.updSk_keeps)

theorem State.powerGood_keeps {s₀ s : State} (h : Keeps s₀ s) (k : Nat) (fb : Option Int) : Keeps s₀ (s.powerGood k fb) := by
  unfold State.powerGood
  repeat' (first | with_reducible assumption | with_reducible apply State.updSk_keeps | with_reducible apply State.skSet_keeps | with_reducible apply State.powerDone_keeps | with_reducible apply Keeps.ite)

theorem State.adoptLoad_keeps {s₀ s : State} (h : Keeps s₀ s) (k : Nat) (gs : List Nat) (loadU : Bool) (e : Option Int) (c : Nat) : Keeps s₀ (s.adoptLoad k gs loadU e c) := by
  unfold State.adoptLoad
  repeat' (first | with_reducible assumption | with_reducible apply State.updSk_keeps | with_reducible apply State.updSt_keeps | with_reducible apply Keeps.foldl | with_reducible apply Keeps.foldlFst | with_reducible apply Keeps.ite | simp only [Keeps.upd] | (intro _ _ _))

theorem State.adoptStep_keeps {s₀ s : State} (h : Keeps s₀ s) (k n c : Nat) (gs : List Nat) : Keeps s₀ (s.adoptStep k n c gs) := by
  unfold State.adoptStep
  repeat' (first | with_reducible assumption | with_reducible apply State.updSk_keeps | with_reducible apply State.updSt_keeps | with_reducible apply State.skSet_keeps | with_reducible apply Keeps.foldl | with_reducible apply Keeps.foldlFst | with_reducible apply Keeps.ite | dsimp only | (intro _ _ _))

theorem State.lawPart_keeps {s₀ s : State} (h : Keeps s₀ s) (k n c : Nat) (fb : Option Int) : Keeps s₀ (s.lawPart k n c fb) := by
  unfold State.lawPart
  repeat' (first | with_reducible assumption | with_reducible apply State.adoptLoad_keeps | with_reducible apply State.adoptStep_keeps | with_reducible apply State.updSk_keeps | with_reducible apply Keeps.ite)

theorem State.endStep_keeps {s₀ s : State} (h : Keeps s₀ s) (k n c : Nat) (gs : List Nat) : Keeps s₀ (s.endStep k n c gs) := by
  unfold State.endStep
  repeat' (first | with_reducible assumption | with_reducible apply State.updSk_keeps | with_reducible apply State.compareDigest_keeps | with_reducible apply State.setF_keeps | with_reducible apply State.setB_keeps | with_reducible apply State.pubSkein_keeps | with_reducible apply Keeps.ite | dsimp only | split)

theorem State.satSeen_keeps {s₀ s : State} (h : Keeps s₀ s) (k e : Nat) (was : Bool) : Keeps s₀ (s.satSeen k e was) := by
  unfold State.satSeen
  repeat' (first | with_reducible assumption | with_reducible apply State.count_keeps | with_reducible apply State.flag_keeps | with_reducible apply Keeps.ite)

theorem State.pubTrace_keeps {s₀ s : State} (h : Keeps s₀ s) (e : Nat) : Keeps s₀ (s.pubTrace e) := by
  unfold State.pubTrace
  repeat' (first | with_reducible assumption | with_reducible apply State.setF_keeps | with_reducible apply State.setB_keeps)

theorem State.traceRec_keeps {s₀ s : State} (h : Keeps s₀ s) (k e c : Nat) : Keeps s₀ (s.traceRec k e c) := by
  unfold State.traceRec
  repeat' (first | with_reducible assumption | with_reducible apply State.level_keeps | with_reducible apply State.updEng_keeps | with_reducible apply State.pubTrace_keeps | with_reducible apply Keeps.ite)

theorem State.skeinStep_keeps {s₀ s : State} (h : Keeps s₀ s) (k e n : Nat) (gs : List Nat) : Keeps s₀ (s.skeinStep k e n gs) := by
  unfold State.skeinStep
  repeat' (first | with_reducible assumption | with_reducible apply State.judgeOverrun_keeps | with_reducible apply State.updSk_keeps | with_reducible apply State.count_keeps | with_reducible apply State.takeAll_keeps | with_reducible apply State.takeRestore_keeps | with_reducible apply State.setRunning_keeps | with_reducible apply State.measure_keeps | with_reducible apply State.moveRef_keeps | with_reducible apply State.judgeRestore_keeps | with_reducible apply State.judgeDegraded_keeps | with_reducible apply State.countRuns_keeps | with_reducible apply State.takeUv_keeps | with_reducible apply State.latchSkein_keeps | with_reducible apply State.railLost_keeps | with_reducible apply State.skeinOff_keeps | with_reducible apply State.startSkein_keeps | with_reducible apply State.releaseSkein_keeps | with_reducible apply State.powerGood_keeps | with_reducible apply State.lawPart_keeps | with_reducible apply State.powerDone_keeps | with_reducible apply State.seqCond_keeps | with_reducible apply State.eval_keeps | with_reducible apply State.endStep_keeps | with_reducible apply State.satSeen_keeps | with_reducible apply State.traceRec_keeps | with_reducible apply State.seqPoke_keeps | with_reducible apply State.bindOffCheck_keeps | with_reducible apply Keeps.ite | simp only [Keeps.upd] | split)

theorem State.stitchStep_keeps {s₀ s : State} (h : Keeps s₀ s) (k e g c : Nat) : Keeps s₀ (s.stitchStep k e g c).1 := by
  unfold State.stitchStep
  repeat' (first | with_reducible assumption | with_reducible apply State.traceRec_keeps | with_reducible apply State.updSk_keeps | with_reducible apply State.updSt_keeps | with_reducible apply State.satSeen_keeps | with_reducible apply Keeps.ite | dsimp only | dsimp only | split)

theorem State.postBatch_keeps {s₀ s : State} (h : Keeps s₀ s) (k : Nat) (gs : List Nat) (replay : Bool) : Keeps s₀ (s.postBatch k gs replay) := by
  unfold State.postBatch
  repeat' (first | with_reducible assumption | with_reducible apply State.stitchStep_keeps | with_reducible apply State.count_keeps | with_reducible apply State.updSk_keeps | with_reducible apply State.postCell_keeps | with_reducible apply Keeps.foldl | with_reducible apply Keeps.foldlFst | with_reducible apply Keeps.ite | simp only [Keeps.upd] | (intro _ _ _) | split)

theorem State.runBatch_keeps {s₀ s : State} (h : Keeps s₀ s) (k e : Nat) (gs : List Nat) (replay : Bool) : Keeps s₀ (s.runBatch k e gs replay) := by
  unfold State.runBatch
  repeat' (first | with_reducible assumption | with_reducible apply State.judgeSense_keeps | with_reducible apply State.skeinStep_keeps | with_reducible apply State.postBatch_keeps | with_reducible apply State.pubArb_keeps | with_reducible apply Keeps.foldl | with_reducible apply Keeps.foldlFst | with_reducible apply Keeps.ite | dsimp only | (intro _ _ _) | split)


/-! ### Skeins -/

theorem State.restartJob_keeps {s₀ s : State} (h : Keeps s₀ s) (k e : Nat) : Keeps s₀ (s.restartJob k e) := by
  unfold State.restartJob
  repeat' (first | with_reducible assumption | with_reducible apply State.updSk_keeps | with_reducible apply State.updSt_keeps | with_reducible apply State.runBatch_keeps | with_reducible apply Keeps.foldl | with_reducible apply Keeps.foldlFst | with_reducible apply Keeps.ite | dsimp only | (intro _ _ _))

theorem State.rehome_keeps {s₀ s : State} (h : Keeps s₀ s) (k : Nat) : Keeps s₀ (s.rehome k) := by
  unfold State.rehome
  repeat' (first | with_reducible assumption | with_reducible apply State.moveJob_keeps | with_reducible apply State.restartJob_keeps | with_reducible apply State.updSk_keeps | with_reducible apply State.raise_keeps | with_reducible apply Keeps.ite | dsimp only | split)

theorem State.dropShadows_keeps {s₀ s : State} (h : Keeps s₀ s) (e : Nat) : Keeps s₀ (s.dropShadows e) := by
  unfold State.dropShadows
  repeat' (first | with_reducible assumption | with_reducible apply State.dropMove_keeps | with_reducible apply State.pubEng_keeps | with_reducible apply Keeps.foldl | with_reducible apply Keeps.foldlFst | simp only [Keeps.upd] | (intro _ _ _))

theorem State.evictEngine_keeps {s₀ s : State} (h : Keeps s₀ s) (e : Nat) : Keeps s₀ (s.evictEngine e) := by
  unfold State.evictEngine
  repeat' (first | with_reducible assumption | with_reducible apply State.dropShadows_keeps | with_reducible apply State.rehome_keeps | with_reducible apply State.maskEngine_keeps | with_reducible apply Keeps.foldl | with_reducible apply Keeps.foldlFst | simp only [Keeps.upd] | (intro _ _ _))

theorem State.loadCmd_keeps {s₀ s : State} (h : Keeps s₀ s) (op : Nat) (p : List Byte) (l : Load) (by_ : Option (Nat × Nat)) : Keeps s₀ (s.loadCmd op p l by_) := by
  unfold State.loadCmd
  repeat' (first | with_reducible assumption | with_reducible apply State.keep_keeps | with_reducible apply State.applyLoad_keeps | with_reducible apply State.finishOpt_keeps | with_reducible apply State.updSk_keeps | with_reducible apply Keeps.ite | simp only [Keeps.upd] | split)

theorem State.applyTarget_keeps {s₀ s : State} (h : Keeps s₀ s) (p : List Byte) : Keeps s₀ (s.applyTarget p) := by
  unfold State.applyTarget
  repeat' (first | with_reducible assumption | with_reducible apply State.updSk_keeps | with_reducible apply State.pubSkein_keeps | with_reducible apply State.keep_keeps)

theorem State.clearStitch_keeps {s₀ s : State} (h : Keeps s₀ s) (g : Nat) : Keeps s₀ (s.clearStitch g) := by
  unfold State.clearStitch
  repeat' (first | with_reducible assumption | with_reducible apply State.updSt_keeps | with_reducible apply State.gone_keeps | with_reducible apply State.stSet_keeps | with_reducible apply Keeps.ite)

theorem State.addIntent_keeps {s₀ s : State} (h : Keeps s₀ s) (q c : Nat) (delta : Int) : Keeps s₀ (s.addIntent q c delta) := by
  unfold State.addIntent
  repeat' (first | with_reducible assumption | with_reducible apply State.updSk_keeps)


/-! ### Hub -/

theorem State.hubEvent_keeps {s₀ s : State} (h : Keeps s₀ s) (h code detail : Nat) : Keeps s₀ (s.hubEvent h code detail) := by
  unfold State.hubEvent
  repeat' (first | with_reducible assumption | with_reducible apply State.event_keeps)

theorem State.stitchLate_keeps {s₀ s : State} (h : Keeps s₀ s) (p : Fin 64) (mask : BitVec 128) (count : Word) : Keeps s₀ (s.stitchLate p mask count) := by
  unfold State.stitchLate
  repeat' (first | with_reducible assumption | with_reducible apply State.countN_keeps | with_reducible apply State.updSt_keeps | with_reducible apply State.hubEvent_keeps | with_reducible apply Keeps.foldl | with_reducible apply Keeps.foldlFst | with_reducible apply Keeps.ite | simp only [Keeps.upd] | (intro _ _ _))

theorem State.cmdReject_keeps {s₀ s : State} (h : Keeps s₀ s) (p : Fin 64) (count : Word) : Keeps s₀ (s.cmdReject p count) := by
  unfold State.cmdReject
  repeat' (first | with_reducible assumption | with_reducible apply State.countN_keeps | with_reducible apply State.hubEvent_keeps)

theorem State.senseOpen_keeps {s₀ s : State} (h : Keeps s₀ s) (p : Fin 64) (j : Fin 128) : Keeps s₀ (s.senseOpen p j) := by
  unfold State.senseOpen
  repeat' (first | with_reducible assumption | with_reducible apply State.hubEvent_keeps | with_reducible apply State.senseSet_keeps | with_reducible apply Keeps.ite)

theorem State.ocHiccup_keeps {s₀ s : State} (h : Keeps s₀ s) (p : Fin 64) (j : Fin 128) (cycles : BitVec 16) : Keeps s₀ (s.ocHiccup p j cycles) := by
  unfold State.ocHiccup
  repeat' (first | with_reducible assumption | with_reducible apply State.count_keeps | with_reducible apply State.hubEvent_keeps | with_reducible apply State.updSt_keeps | with_reducible apply State.stSet_keeps | with_reducible apply State.latchStitch_keeps | with_reducible apply Keeps.ite)

theorem State.ocResume_keeps {s₀ s : State} (h : Keeps s₀ s) (p : Fin 64) (j : Fin 128) : Keeps s₀ (s.ocResume p j) := by
  unfold State.ocResume
  repeat' (first | with_reducible assumption | with_reducible apply State.hubEvent_keeps | with_reducible apply State.updSt_keeps | with_reducible apply State.stSet_keeps | with_reducible apply Keeps.ite)

theorem State.stitchFault_keeps {s₀ s : State} (h : Keeps s₀ s) (g : Nat) : Keeps s₀ (s.stitchFault g) := by
  unfold State.stitchFault
  repeat' (first | with_reducible assumption | with_reducible apply State.latchStitch_keeps | with_reducible apply State.level_keeps | with_reducible apply Keeps.ite)

theorem State.stageOt_keeps {s₀ s : State} (h : Keeps s₀ s) (p : Fin 64) (j : Fin 128) (temp : BitVec 16) : Keeps s₀ (s.stageOt p j temp) := by
  unfold State.stageOt
  repeat' (first | with_reducible assumption | with_reducible apply State.hubEvent_keeps | with_reducible apply State.stitchFault_keeps)

theorem State.driverFault_keeps {s₀ s : State} (h : Keeps s₀ s) (p : Fin 64) (j : Fin 128) : Keeps s₀ (s.driverFault p j) := by
  unfold State.driverFault
  repeat' (first | with_reducible assumption | with_reducible apply State.hubEvent_keeps | with_reducible apply State.stitchFault_keeps)

theorem State.bindReq_keeps {s₀ s : State} (h : Keeps s₀ s) (p : Fin 64) : Keeps s₀ (s.bindReq p) := by
  unfold State.bindReq
  repeat' (first | with_reducible assumption | with_reducible apply State.hubEvent_keeps | with_reducible apply State.bindOff_keeps | with_reducible apply State.updSlot_keeps | with_reducible apply State.slotDone_keeps | with_reducible apply Keeps.ite)

theorem State.hubFwVersion_keeps {s₀ s : State} (h : Keeps s₀ s) (p : Fin 64) (version : Word) : Keeps s₀ (s.hubFwVersion p version) := by
  unfold State.hubFwVersion
  repeat' (first | with_reducible assumption | with_reducible apply State.updPort_keeps | with_reducible apply State.updTrust_keeps | with_reducible apply State.hubEvent_keeps)

theorem State.unknownEvent_keeps {s₀ s : State} (h : Keeps s₀ s) (l : LinkId) (_code : BitVec 16) : Keeps s₀ (s.unknownEvent l _code) := by
  unfold State.unknownEvent
  repeat' (first | with_reducible assumption | with_reducible apply State.count_keeps | simp only [Keeps.upd] | split)

theorem State.intentCell_keeps {s₀ s : State} (h : Keeps s₀ s) (p : Fin 64) (j : Fin 128) (tag : BitVec 12) (fn : Fin 4) (delta : BitVec 32) (id : BitVec 8) : Keeps s₀ (s.intentCell p j tag fn delta id) := by
  unfold State.intentCell
  repeat' (first | with_reducible assumption | with_reducible apply State.count_keeps | with_reducible apply State.hubEvent_keeps | with_reducible apply State.addIntent_keeps | dsimp only | split)


/-! ### Link -/

theorem State.pairFlight_keeps {s₀ s : State} (h : Keeps s₀ s) (p : Nat) : Keeps s₀ (s.pairFlight p) := by
  unfold State.pairFlight
  repeat' (first | with_reducible assumption | with_reducible apply State.setF_keeps | dsimp only | split)

theorem State.pubFlight_keeps {s₀ s : State} (h : Keeps s₀ s) (p up down : Nat) : Keeps s₀ (s.pubFlight p up down) := by
  unfold State.pubFlight
  repeat' (first | with_reducible assumption | with_reducible apply State.setF_keeps | with_reducible apply State.setB_keeps | with_reducible apply State.pairFlight_keeps)

theorem State.tellFlights_keeps {s₀ s : State} (h : Keeps s₀ s) (p : Nat) : Keeps s₀ (s.tellFlights p) := by
  unfold State.tellFlights
  repeat' (first | with_reducible assumption | with_reducible apply State.emit_keeps)

theorem State.triggerPlan_keeps {s₀ s : State} (h : Keeps s₀ s) (p w : Nat) : Keeps s₀ (s.triggerPlan p w) := by
  unfold State.triggerPlan
  repeat' (first | with_reducible assumption | with_reducible apply State.skAct_keeps | with_reducible apply State.updPort_keeps | with_reducible apply State.setB_keeps | with_reducible apply Keeps.foldl | with_reducible apply Keeps.foldlFst | with_reducible apply Keeps.ite | dsimp only | (intro _ _ _))

theorem State.trainFail_keeps {s₀ s : State} (h : Keeps s₀ s) (p : Nat) (flight : Bool) : Keeps s₀ (s.trainFail p flight) := by
  unfold State.trainFail
  repeat' (first | with_reducible assumption | with_reducible apply State.updPort_keeps | with_reducible apply State.level_keeps | with_reducible apply State.setF_keeps | with_reducible apply State.count_keeps | with_reducible apply Keeps.ite)

theorem State.proposeWidth_keeps {s₀ s : State} (h : Keeps s₀ s) (p : Nat) (set : BitVec 8) : Keeps s₀ (s.proposeWidth p set) := by
  unfold State.proposeWidth
  repeat' (first | with_reducible assumption | with_reducible apply State.updPort_keeps | with_reducible apply State.emit_keeps)

theorem State.laneFail_keeps {s₀ s : State} (h : Keeps s₀ s) (p l : Nat) : Keeps s₀ (s.laneFail p l) := by
  unfold State.laneFail
  repeat' (first | with_reducible assumption | with_reducible apply State.setF_keeps | with_reducible apply State.proposeWidth_keeps | with_reducible apply State.retrainPort_keeps | with_reducible apply State.cover_keeps | with_reducible apply Keeps.ite | simp only [Keeps.upd] | split)

theorem State.partnerDown_keeps {s₀ s : State} (h : Keeps s₀ s)  : Keeps s₀ (s.partnerDown) := by
  unfold State.partnerDown
  repeat' (first | with_reducible assumption | with_reducible apply State.updTrust_keeps | with_reducible apply State.setB_keeps | with_reducible apply State.cover_keeps | with_reducible apply State.enterDone_keeps | simp only [Keeps.upd])

theorem State.svcDown_keeps {s₀ s : State} (h : Keeps s₀ s) (n : Nat) : Keeps s₀ (s.svcDown n) := by
  unfold State.svcDown
  repeat' (first | with_reducible assumption | with_reducible apply State.setF_keeps | with_reducible apply State.updSvc_keeps | with_reducible apply State.fence_keeps | with_reducible apply State.cover_keeps | with_reducible apply Keeps.ite)

theorem State.takeDesc_keeps {s₀ s : State} (h : Keeps s₀ s) (p : Nat) (d : List Byte) : Keeps s₀ (s.takeDesc p d) := by
  unfold State.takeDesc
  repeat' (first | with_reducible assumption | with_reducible apply State.updSt_keeps | with_reducible apply State.updSlot_keeps)

theorem State.takeDescs_keeps {s₀ s : State} (h : Keeps s₀ s) (p n : Nat) (d : List Byte) : Keeps s₀ (s.takeDescs p n d).1 := by
  induction n generalizing s d with
  | zero => exact h
  | succ n ih =>
    unfold State.takeDescs
    split
    · exact h
    · exact ih (State.takeDesc_keeps h _ _) _

theorem State.bulkCell_keeps {s₀ s : State} (h : Keeps s₀ s) (l : LinkId) (last : Bool) (stream : BitVec 8) (_seg : BitVec 16) (data : List Byte) : Keeps s₀ (s.bulkCell l last stream _seg data) := by
  unfold State.bulkCell
  repeat' (first | with_reducible assumption | with_reducible apply State.updRel_keeps | with_reducible apply State.takeDescs_keeps | with_reducible apply State.updSlot_keeps | with_reducible apply Keeps.ite | dsimp only | split)


/-! ### Pair -/

theorem State.alive_keeps {s₀ s : State} (h : Keeps s₀ s) (b : Bool) : Keeps s₀ (s.alive b) := by
  unfold State.alive
  repeat' (first | with_reducible assumption | with_reducible apply State.updPair_keeps | with_reducible apply State.setB_keeps)

theorem State.tellAllFlights_keeps {s₀ s : State} (h : Keeps s₀ s)  : Keeps s₀ (s.tellAllFlights) := by
  unfold State.tellAllFlights
  repeat' (first | with_reducible assumption | with_reducible apply State.tellFlights_keeps | with_reducible apply Keeps.foldl | with_reducible apply Keeps.foldlFst | with_reducible apply Keeps.ite | simp only [Keeps.upd] | (intro _ _ _))

theorem State.allFlights_keeps {s₀ s : State} (h : Keeps s₀ s)  : Keeps s₀ (s.allFlights) := by
  unfold State.allFlights
  repeat' (first | with_reducible assumption | with_reducible apply State.pairFlight_keeps | with_reducible apply Keeps.foldl | with_reducible apply Keeps.foldlFst | simp only [Keeps.upd] | (intro _ _ _))

theorem State.sendImages_keeps {s₀ s : State} (h : Keeps s₀ s)  : Keeps s₀ (s.sendImages) := by
  unfold State.sendImages
  repeat' (first | with_reducible assumption | with_reducible apply State.emit_keeps | with_reducible apply Keeps.foldl | with_reducible apply Keeps.foldlFst | with_reducible apply Keeps.ite | simp only [Keeps.upd] | (intro _ _ _))

theorem State.claimMgmt_keeps {s₀ s : State} (h : Keeps s₀ s) (p : Nat) : Keeps s₀ (s.claimMgmt p) := by
  unfold State.claimMgmt
  repeat' (first | with_reducible assumption | with_reducible apply State.mirror_keeps | with_reducible apply State.updPair_keeps | with_reducible apply State.updSlotC_keeps | with_reducible apply State.numberSubs_keeps | with_reducible apply State.updMbx_keeps | with_reducible apply State.setB_keeps | with_reducible apply State.post1_keeps | with_reducible apply State.submit_keeps | with_reducible apply Keeps.foldl | with_reducible apply Keeps.foldlFst | with_reducible apply Keeps.ite | dsimp only | (intro _ _ _) | split)

theorem State.claim_keeps {s₀ s : State} (h : Keeps s₀ s) (p effectAt : Nat) : Keeps s₀ (s.claim p effectAt) := by
  unfold State.claim
  repeat' (first | with_reducible assumption | with_reducible apply State.claimPort_keeps | with_reducible apply State.claimMgmt_keeps | with_reducible apply Keeps.ite)

theorem State.enterActive_keeps {s₀ s : State} (h : Keeps s₀ s)  : Keeps s₀ (s.enterActive) := by
  unfold State.enterActive
  repeat' (first | with_reducible assumption | with_reducible apply State.setUnit_keeps | with_reducible apply State.pfw_keeps | with_reducible apply State.updTw_keeps | with_reducible apply State.twPush_keeps | with_reducible apply State.updShelf_keeps | with_reducible apply State.updSk_keeps | with_reducible apply Keeps.foldl | with_reducible apply Keeps.foldlFst | with_reducible apply Keeps.ite | simp only [Keeps.upd] | (intro _ _ _))

theorem State.loadShelf_keeps {s₀ s : State} (h : Keeps s₀ s) (d : ShelfDigest) : Keeps s₀ (s.loadShelf d) := by
  unfold State.loadShelf
  repeat' (first | with_reducible assumption | with_reducible apply State.setF_keeps | with_reducible apply State.setB_keeps | with_reducible apply State.pfw_keeps | with_reducible apply State.updShelf_keeps | with_reducible apply State.updSlot_keeps | with_reducible apply State.updStr_keeps | with_reducible apply Keeps.foldl | with_reducible apply Keeps.foldlFst | with_reducible apply Keeps.ite | simp only [Keeps.upd] | (intro _ _ _))

theorem State.partnerLost_keeps {s₀ s : State} (h : Keeps s₀ s)  : Keeps s₀ (s.partnerLost) := by
  unfold State.partnerLost
  repeat' (first | with_reducible assumption | with_reducible apply State.flag_keeps | with_reducible apply State.level_keeps | with_reducible apply State.releaseEvery_keeps | with_reducible apply State.updPair_keeps | with_reducible apply State.setB_keeps | with_reducible apply State.finishOpt_keeps | with_reducible apply State.updRst_keeps | with_reducible apply State.allFlights_keeps | with_reducible apply State.cover_keeps | with_reducible apply State.enterDone_keeps | with_reducible apply State.updTrust_keeps | with_reducible apply State.claim_keeps | with_reducible apply State.enterActive_keeps | with_reducible apply Keeps.foldl | with_reducible apply Keeps.foldlFst | with_reducible apply Keeps.ite | simp only [Keeps.upd] | (intro _ _ _))

theorem State.replayBatch_keeps {s₀ s : State} (h : Keeps s₀ s) (k e : Nat) (gs : List Nat) : Keeps s₀ (s.replayBatch k e gs) := by
  unfold State.replayBatch
  repeat' (first | with_reducible assumption | with_reducible apply State.skeinStep_keeps | with_reducible apply State.stitchStep_keeps | with_reducible apply Keeps.foldl | with_reducible apply Keeps.foldlFst | simp only [Keeps.upd] | (intro _ _ _) | split)

theorem State.transitSwap_keeps {s₀ s : State} (h : Keeps s₀ s)  : Keeps s₀ (s.transitSwap) := by
  unfold State.transitSwap
  repeat' (first | with_reducible assumption | with_reducible apply State.tellShelf_keeps | with_reducible apply State.setOwn_keeps | with_reducible apply State.claimMgmt_keeps | with_reducible apply State.updPort_keeps | with_reducible apply State.claim_keeps | with_reducible apply State.updPair_keeps | with_reducible apply Keeps.foldl | with_reducible apply Keeps.foldlFst | with_reducible apply Keeps.ite | dsimp only | (intro _ _ _))

theorem State.transitEnd_keeps {s₀ s : State} (h : Keeps s₀ s) (tx : Nat) : Keeps s₀ (s.transitEnd tx) := by
  unfold State.transitEnd
  repeat' (first | with_reducible assumption | with_reducible apply State.enterActive_keeps | with_reducible apply State.pfw_keeps | with_reducible apply State.setUnit_keeps | with_reducible apply State.count_keeps | with_reducible apply State.lastClaim_keeps | with_reducible apply State.setB_keeps | with_reducible apply State.finishOpt_keeps | with_reducible apply State.updPair_keeps | with_reducible apply State.updRst_keeps | with_reducible apply State.cover_keeps | with_reducible apply Keeps.ite)

theorem State.applyPair_keeps {s₀ s : State} (h : Keeps s₀ s) (p : List Byte) : Keeps s₀ (s.applyPair p) := by
  unfold State.applyPair
  repeat' (first | with_reducible assumption | with_reducible apply State.setF_keeps | with_reducible apply State.setB_keeps | with_reducible apply State.updPair_keeps | with_reducible apply State.cover_keeps)


/-! ### Analog -/

theorem State.adcRun_keeps {s₀ s : State} (h : Keeps s₀ s) (c : Nat) : Keeps s₀ (s.adcRun c) := by
  unfold State.adcRun
  repeat' (first | with_reducible assumption | with_reducible apply State.updAdc_keeps | with_reducible apply State.setB_keeps)

theorem State.adcTrigger_keeps {s₀ s : State} (h : Keeps s₀ s) (c : Nat) : Keeps s₀ (s.adcTrigger c) := by
  unfold State.adcTrigger
  repeat' (first | with_reducible assumption | with_reducible apply State.updAdc_keeps | with_reducible apply State.adcRun_keeps | with_reducible apply State.eval_keeps | with_reducible apply Keeps.ite)

theorem State.adcOverruns_keeps {s₀ s : State} (h : Keeps s₀ s)  : Keeps s₀ (s.adcOverruns) := by
  unfold State.adcOverruns
  repeat' (first | with_reducible assumption | with_reducible apply State.updAdc_keeps | with_reducible apply State.count_keeps | with_reducible apply State.flag_keeps | with_reducible apply State.eval_keeps | with_reducible apply Keeps.foldl | with_reducible apply Keeps.foldlFst | with_reducible apply Keeps.ite | dsimp only | (intro _ _ _))

theorem State.adcHalt_keeps {s₀ s : State} (h : Keeps s₀ s) (c : Nat) : Keeps s₀ (s.adcHalt c) := by
  unfold State.adcHalt
  repeat' (first | with_reducible assumption | with_reducible apply State.updAdc_keeps | with_reducible apply State.setB_keeps)

theorem State.adcWrite_keeps {s₀ s : State} (h : Keeps s₀ s) (c i sum n shift : Nat) : Keeps s₀ (s.adcWrite c i sum n shift) := by
  unfold State.adcWrite
  repeat' (first | with_reducible assumption | with_reducible apply State.setF_keeps | with_reducible apply State.setB_keeps | with_reducible apply State.updAin_keeps | with_reducible apply Keeps.ite)

theorem State.adcSeqSlot_keeps {s₀ s : State} (h : Keeps s₀ s) (c code : Nat) : Keeps s₀ (s.adcSeqSlot c code) := by
  unfold State.adcSeqSlot
  repeat' (first | with_reducible assumption | with_reducible apply State.updAdc_keeps | with_reducible apply State.adcWrite_keeps | with_reducible apply State.flag_keeps | with_reducible apply State.adcRun_keeps | with_reducible apply State.setB_keeps | with_reducible apply Keeps.ite)

theorem State.pllHold_keeps {s₀ s : State} (h : Keeps s₀ s) (hold : Bool) : Keeps s₀ (s.pllHold hold) := by
  unfold State.pllHold
  repeat' (first | with_reducible assumption | with_reducible apply State.updShelf_keeps | with_reducible apply State.setB_keeps | with_reducible apply State.pubMains_keeps | with_reducible apply Keeps.foldl | with_reducible apply Keeps.foldlFst | with_reducible apply Keeps.ite | simp only [Keeps.upd] | (intro _ _ _))

theorem State.l1Cross_keeps {s₀ s : State} (h : Keeps s₀ s) (period : Nat) : Keeps s₀ (s.l1Cross period) := by
  unfold State.l1Cross
  repeat' (first | with_reducible assumption | with_reducible apply State.setF_keeps | with_reducible apply State.updShelf_keeps | with_reducible apply State.pllHold_keeps | with_reducible apply Keeps.ite)

theorem State.mainsSample_keeps {s₀ s : State} (h : Keeps s₀ s) (ph code : Nat) : Keeps s₀ (s.mainsSample ph code) := by
  unfold State.mainsSample
  repeat' (first | with_reducible assumption | with_reducible apply State.setF_keeps | with_reducible apply State.count_keeps | with_reducible apply State.l1Cross_keeps | with_reducible apply State.updPh_keeps | with_reducible apply Keeps.ite | dsimp only | split)

theorem State.slotUsed_keeps {s₀ s : State} (h : Keeps s₀ s) (c : Nat) (check : Bool) : Keeps s₀ (s.slotUsed c check) := by
  unfold State.slotUsed
  repeat' (first | with_reducible assumption | with_reducible apply State.count_keeps | with_reducible apply State.updAdc_keeps)

theorem State.calPub_keeps {s₀ s : State} (h : Keeps s₀ s) (c : Nat) : Keeps s₀ (s.calPub c) := by
  unfold State.calPub
  repeat' (first | with_reducible assumption | with_reducible apply State.setB_keeps)

theorem State.calDone_keeps {s₀ s : State} (h : Keeps s₀ s) (i status info : Nat) : Keeps s₀ (s.calDone i status info) := by
  unfold State.calDone
  repeat' (first | with_reducible assumption | with_reducible apply State.updAin_keeps | with_reducible apply State.calPub_keeps | with_reducible apply State.finishOpt_keeps)

theorem State.calKeep_keeps {s₀ s : State} (h : Keeps s₀ s) (i : Nat) : Keeps s₀ (s.calKeep i) := by
  unfold State.calKeep
  repeat' (first | with_reducible assumption | with_reducible apply State.keep_keeps)


/-! ### Thermal -/

theorem State.tempValid_keeps {s₀ s : State} (h : Keeps s₀ s) (k : Nat) (ok : Bool) : Keeps s₀ (s.tempValid k ok) := by
  unfold State.tempValid
  repeat' (first | with_reducible assumption | with_reducible apply State.setB_keeps | with_reducible apply State.level_keeps)

theorem State.reading_keeps {s₀ s : State} (h : Keeps s₀ s) (k : Nat) (t : Option Int) : Keeps s₀ (s.reading k t) := by
  unfold State.reading
  repeat' (first | with_reducible assumption | with_reducible apply State.setI_keeps | with_reducible apply State.updSens_keeps | with_reducible apply State.tempValid_keeps | with_reducible apply Keeps.ite | dsimp only | split)

theorem State.setStage_keeps {s₀ s : State} (h : Keeps s₀ s) (old new : Nat) : Keeps s₀ (s.setStage old new) := by
  unfold State.setStage
  repeat' (first | with_reducible assumption | with_reducible apply State.setF_keeps | with_reducible apply State.fwPost_keeps | with_reducible apply Keeps.foldl | with_reducible apply Keeps.foldlFst | with_reducible apply Keeps.ite | dsimp only | (intro _ _ _))

theorem State.shutdownEnter_keeps {s₀ s : State} (h : Keeps s₀ s)  : Keeps s₀ (s.shutdownEnter) := by
  unfold State.shutdownEnter
  repeat' (first | with_reducible assumption | with_reducible apply State.updRst_keeps | with_reducible apply State.startTransit_keeps | with_reducible apply State.releaseEvery_keeps | with_reducible apply State.setF_keeps | with_reducible apply Keeps.ite)

theorem State.levelSet_keeps {s₀ s : State} (h : Keeps s₀ s) (j : Nat) (on shut : Bool) : Keeps s₀ (s.levelSet j on shut) := by
  unfold State.levelSet
  repeat' (first | with_reducible assumption | with_reducible apply State.updThm_keeps | with_reducible apply State.setF_keeps | with_reducible apply State.flag_keeps | with_reducible apply State.level_keeps | with_reducible apply State.event_keeps | with_reducible apply State.setStage_keeps | with_reducible apply State.shutdownEnter_keeps | with_reducible apply State.gone_keeps | with_reducible apply Keeps.foldl | with_reducible apply Keeps.foldlFst | with_reducible apply Keeps.ite)

theorem State.judgeLevels_keeps {s₀ s : State} (h : Keeps s₀ s)  : Keeps s₀ (s.judgeLevels) := by
  unfold State.judgeLevels
  repeat' (first | with_reducible assumption | with_reducible apply State.updThm_keeps | with_reducible apply State.levelSet_keeps | with_reducible apply Keeps.foldl | with_reducible apply Keeps.foldlFst | with_reducible apply Keeps.ite | dsimp only | (intro _ _ _))

theorem State.thermalReq_keeps {s₀ s : State} (h : Keeps s₀ s) (k : Nat) : Keeps s₀ (s.thermalReq k) := by
  unfold State.thermalReq
  repeat' (first | with_reducible assumption | with_reducible apply State.event_keeps | with_reducible apply Keeps.foldl | with_reducible apply Keeps.foldlFst | simp only [Keeps.upd] | (intro _ _ _))

theorem State.judgeRemote_keeps {s₀ s : State} (h : Keeps s₀ s) (k : Nat) : Keeps s₀ (s.judgeRemote k) := by
  unfold State.judgeRemote
  repeat' (first | with_reducible assumption | with_reducible apply State.updSens_keeps | with_reducible apply State.thermalReq_keeps | with_reducible apply Keeps.foldl | with_reducible apply Keeps.foldlFst | with_reducible apply Keeps.ite | dsimp only | (intro _ _ _))


/-! ### Faults -/

theorem State.clearNote_keeps {s₀ s : State} (h : Keeps s₀ s) (x : Inst) (what : Nat) : Keeps s₀ (s.clearNote x what) := by
  unfold State.clearNote
  repeat' (first | with_reducible assumption | with_reducible apply State.log_keeps | with_reducible apply State.nvPush_keeps | with_reducible apply Keeps.ite)

theorem State.applyKind_keeps {s₀ s : State} (h : Keeps s₀ s) (p : List Byte) : Keeps s₀ (s.applyKind p) := by
  unfold State.applyKind
  repeat' (first | with_reducible assumption | with_reducible apply State.updFaults_keeps | with_reducible apply State.setF_keeps | simp only [Keeps.upd] | split)


/-! ### TwoWire -/

theorem State.twGiveUp_keeps {s₀ s : State} (h : Keeps s₀ s) (t : Nat) (j : Nat × Nat × Nat) : Keeps s₀ (s.twGiveUp t j) := by
  unfold State.twGiveUp
  repeat' (first | with_reducible assumption | with_reducible apply State.pollFailed_keeps | with_reducible apply State.updTw_keeps | with_reducible apply State.rectSet_keeps | with_reducible apply State.level_keeps | with_reducible apply State.rectFail_keeps | with_reducible apply State.finishOpt_keeps | with_reducible apply State.updRect_keeps | with_reducible apply State.strFailed_keeps | with_reducible apply Keeps.ite)

theorem State.twFail_keeps {s₀ s : State} (h : Keeps s₀ s) (t : Nat) : Keeps s₀ (s.twFail t) := by
  unfold State.twFail
  repeat' (first | with_reducible assumption | with_reducible apply State.updTw_keeps | with_reducible apply State.twGiveUp_keeps | with_reducible apply Keeps.ite | simp only [Keeps.upd] | split)

theorem State.twAlert_keeps {s₀ s : State} (h : Keeps s₀ s) (t a : Nat) : Keeps s₀ (s.twAlert t a).1 := by
  unfold State.twAlert
  repeat' (first | with_reducible assumption | with_reducible apply State.flag_keeps | with_reducible apply State.twNext_keeps | with_reducible apply Keeps.ite | simp only [Keeps.upd] | dsimp only | split)

theorem State.twRecover_keeps {s₀ s : State} (h : Keeps s₀ s) (t : Nat) (freedAt : Option (Fin 9)) : Keeps s₀ (s.twRecover t freedAt) := by
  unfold State.twRecover
  repeat' (first | with_reducible assumption | with_reducible apply State.count_keeps | with_reducible apply State.updTw_keeps | with_reducible apply State.emit_keeps | with_reducible apply State.setF_keeps | with_reducible apply State.gone_keeps | with_reducible apply State.flag_keeps | with_reducible apply State.level_keeps | dsimp only | split)

theorem State.twTarget_keeps {s₀ s : State} (h : Keeps s₀ s) (t : Nat) (a : BitVec 7) (f : State → State)
    (hf : ∀ x, Keeps s₀ x → Keeps s₀ (f x)) : Keeps s₀ (s.twTarget t a f) := by
  unfold State.twTarget
  repeat' (first | with_reducible assumption | with_reducible apply hf | with_reducible apply State.emit_keeps | with_reducible apply State.setF_keeps | with_reducible apply Keeps.ite)


/-! ### Trust -/

theorem State.setFlash_keeps {s₀ s : State} (h : Keeps s₀ s) (d : Nat) (m : List Host.Cell)
    (hm : Mem.wf flashBlank (s.flash d) = true → Mem.wf flashBlank m = true) : Keeps s₀ (s.setFlash d m) := by
  unfold State.setFlash
  unfold State.flash at hm
  split
  · rename_i e
    rw [if_pos e] at hm
    exact ⟨h.pending, h.ct, fun w => ⟨(h.mem w).1, (h.mem w).2.1, hm (h.mem w).2.2.1, (h.mem w).2.2.2⟩⟩
  · rename_i e
    rw [if_neg e] at hm
    exact ⟨h.pending, h.ct, fun w => ⟨(h.mem w).1, (h.mem w).2.1, (h.mem w).2.2.1, hm (h.mem w).2.2.2⟩⟩

theorem State.flashErase_keeps {s₀ s : State} (h : Keeps s₀ s) (d a n : Nat) : Keeps s₀ (s.flashErase d a n) :=
  State.setFlash_keeps h d _ (Mem.wf_filter _ _ _)

theorem State.flashWrite_keeps {s₀ s : State} (h : Keeps s₀ s) (d a : Nat) (b : List Byte) : Keeps s₀ (s.flashWrite d a b) :=
  State.setFlash_keeps h d _ (Mem.wf_writeBytes _ _ _ _)

theorem State.putTrailer_keeps {s₀ s : State} (h : Keeps s₀ s) (b fmt seq : Nat) : Keeps s₀ (s.putTrailer b fmt seq) := by
  unfold State.putTrailer
  repeat' (first | with_reducible assumption | with_reducible apply State.flashWrite_keeps | with_reducible apply Keeps.foldl | with_reducible apply Keeps.foldlFst | dsimp only | (intro _ _ _))

theorem State.setSlotState_keeps {s₀ s : State} (h : Keeps s₀ s) (slot v : Nat) : Keeps s₀ (s.setSlotState slot v) := by
  unfold State.setSlotState
  repeat' (first | with_reducible assumption | with_reducible apply State.setF_keeps | with_reducible apply Keeps.ite)

theorem State.pubFw_keeps {s₀ s : State} (h : Keeps s₀ s)  : Keeps s₀ (s.pubFw) := by
  unfold State.pubFw
  repeat' (first | with_reducible assumption | with_reducible apply State.putWord_keeps | with_reducible apply State.setF_keeps)

theorem State.newKey_keeps {s₀ s : State} (h : Keeps s₀ s) (h : Nat) : Keeps s₀ (s.newKey h) := by
  unfold State.newKey
  repeat' (first | with_reducible assumption | with_reducible apply State.updMbx_keeps | with_reducible apply State.updTrust_keeps)

theorem State.serve_keeps {s₀ s : State} (h : Keeps s₀ s) (c : Consumer) : Keeps s₀ (s.serve c) := by
  unfold State.serve
  repeat' (first | with_reducible assumption | with_reducible apply State.newKey_keeps | with_reducible apply State.updMbx_keeps | with_reducible apply State.setB_keeps | with_reducible apply State.setF_keeps | with_reducible apply State.finish_keeps | with_reducible apply State.slotWrite_keeps | with_reducible apply State.updTrust_keeps | simp only [Keeps.upd] | split)

theorem State.starve_keeps {s₀ s : State} (h : Keeps s₀ s) (c : Consumer) : Keeps s₀ (s.starve c) := by
  unfold State.starve
  repeat' (first | with_reducible assumption | with_reducible apply State.finish_keeps | simp only [Keeps.upd] | split)

theorem State.consume_keeps {s₀ s : State} (h : Keeps s₀ s) (c : Consumer) : Keeps s₀ (s.consume c) := by
  unfold State.consume
  repeat' (first | with_reducible assumption | with_reducible apply State.serve_keeps | with_reducible apply State.starve_keeps | with_reducible apply State.updTrust_keeps | with_reducible apply State.pubDrbg_keeps | with_reducible apply Keeps.ite | simp only [Keeps.upd] | split)

theorem State.pubLevel_keeps {s₀ s : State} (h : Keeps s₀ s)  : Keeps s₀ (s.pubLevel) := by
  unfold State.pubLevel
  repeat' (first | with_reducible assumption | with_reducible apply State.setF_keeps | with_reducible apply Keeps.foldl | with_reducible apply Keeps.foldlFst | simp only [Keeps.upd] | (intro _ _ _))

theorem State.imageRuns_keeps {s₀ s : State} (h : Keeps s₀ s) (slot : Nat) : Keeps s₀ (s.imageRuns slot) := by
  unfold State.imageRuns
  repeat' (first | with_reducible assumption | with_reducible apply State.updTrust_keeps | with_reducible apply State.setF_keeps | with_reducible apply State.setB_keeps | with_reducible apply State.setSlotState_keeps | with_reducible apply State.updRst_keeps | with_reducible apply State.pubFw_keeps | with_reducible apply State.pubLevel_keeps | with_reducible apply State.consume_keeps | with_reducible apply State.level_keeps | with_reducible apply State.flag_keeps | with_reducible apply Keeps.foldl | with_reducible apply Keeps.foldlFst | with_reducible apply Keeps.ite | simp only [Keeps.upd] | (intro _ _ _))

theorem State.bootTry_keeps {s₀ s : State} (h : Keeps s₀ s)  : Keeps s₀ (s.bootTry) := by
  unfold State.bootTry
  repeat' (first | with_reducible assumption | with_reducible apply State.setF_keeps | with_reducible apply State.imageRuns_keeps | with_reducible apply State.setB_keeps | with_reducible apply State.updRst_keeps | with_reducible apply State.updTrust_keeps | with_reducible apply Keeps.ite)

theorem State.planEnd_keeps {s₀ s : State} (h : Keeps s₀ s)  : Keeps s₀ (s.planEnd) := by
  unfold State.planEnd
  repeat' (first | with_reducible assumption | with_reducible apply State.updTrust_keeps | with_reducible apply State.setB_keeps)

theorem State.planEvent_keeps {s₀ s : State} (h : Keeps s₀ s) (step : Nat) : Keeps s₀ (s.planEvent step) := by
  unfold State.planEvent
  repeat' (first | with_reducible assumption | with_reducible apply State.event_keeps)

theorem State.toTrial_keeps {s₀ s : State} (h : Keeps s₀ s) (step : Nat) : Keeps s₀ (s.toTrial step) := by
  unfold State.toTrial
  repeat' (first | with_reducible assumption | with_reducible apply State.updTrust_keeps | with_reducible apply State.restart_keeps)

theorem State.reject_keeps {s₀ s : State} (h : Keeps s₀ s)  : Keeps s₀ (s.reject) := by
  unfold State.reject
  repeat' (first | with_reducible assumption | with_reducible apply State.updTrust_keeps)

theorem State.migrate_keeps {s₀ s : State} (h : Keeps s₀ s) : Keeps s₀ s.migrate := by
  have key : ∀ (l : List (Nat × Byte)) (o : Nat) (m : List Host.Cell), Mem.wf flashBlank m = true →
      Mem.wf flashBlank (l.foldl (fun (m : List Host.Cell) (c : Nat × Byte) => Mem.write flashBlank m (bankBase o + c.1) c.2) m) = true := by
    intro l o
    induction l with
    | nil => intro m hm; exact hm
    | cons c l ih => intro m hm; exact ih _ (Mem.wf_write _ _ _ _ hm)
  unfold State.migrate
  split
  · exact h
  · refine Keeps.ite h (State.putTrailer_keeps (Keeps.foldl (fun x e k => ?_) h) _ _ _)
    exact State.setFlash_keeps (State.flashErase_keeps k _ _ _) _ _ (key _ _ _)

theorem State.confirm_keeps {s₀ s : State} (h : Keeps s₀ s)  : Keeps s₀ (s.confirm) := by
  unfold State.confirm
  repeat' (first | with_reducible assumption | with_reducible apply State.updTrust_keeps | with_reducible apply State.setB_keeps | with_reducible apply State.flag_keeps | with_reducible apply State.gone_keeps | with_reducible apply State.migrate_keeps | with_reducible apply State.pubFw_keeps)

theorem State.applyActivate_keeps {s₀ s : State} (h : Keeps s₀ s) (p : List Byte) : Keeps s₀ (s.applyActivate p) := by
  unfold State.applyActivate
  repeat' (first | with_reducible assumption | with_reducible apply State.updTrust_keeps | with_reducible apply State.setB_keeps)

theorem State.applyPin_keeps {s₀ s : State} (h : Keeps s₀ s) (p : List Byte) : Keeps s₀ (s.applyPin p) := by
  unfold State.applyPin
  repeat' (first | with_reducible assumption | with_reducible apply State.updTrust_keeps | with_reducible apply State.keep_keeps | with_reducible apply State.pubFw_keeps)

theorem State.applyHubWrite_keeps {s₀ s : State} (h : Keeps s₀ s) (p : List Byte) : Keeps s₀ (s.applyHubWrite p) := by
  have key : ∀ {s : State} (a : Nat) (l : List Byte), Keeps s₀ s → Keeps s₀ { s with hubStage := Mem.writeBytes Mem.blank s.hubStage a l } :=
    fun a l k => ⟨k.pending, k.ct, fun w => ⟨(k.mem w).1, Mem.wf_writeBytes _ _ _ _ (k.mem w).2.1, (k.mem w).2.2⟩⟩
  have clear : Keeps s₀ { s with hubStage := [] } := ⟨h.pending, h.ct, fun w => ⟨(h.mem w).1, rfl, (h.mem w).2.2⟩⟩
  unfold State.applyHubWrite
  refine State.updTrust_keeps (key _ _ ?_) _
  exact Keeps.ite (State.updTrust_keeps clear _) h

theorem State.applyHubActivate_keeps {s₀ s : State} (h : Keeps s₀ s) (p : List Byte) : Keeps s₀ (s.applyHubActivate p) := by
  unfold State.applyHubActivate
  repeat' (first | with_reducible assumption | with_reducible apply State.updTrust_keeps | with_reducible apply State.emit_keeps | with_reducible apply Keeps.foldl | with_reducible apply Keeps.foldlFst | simp only [Keeps.upd] | (intro _ _ _))


/-! ### Start -/

theorem State.installSkein_keeps {s₀ s : State} (h : Keeps s₀ s) (p : PatSkein) : Keeps s₀ (s.installSkein p) := by
  unfold State.installSkein
  repeat' (first | with_reducible assumption | with_reducible apply State.updSk_keeps | with_reducible apply State.pubSkein_keeps | simp only [Keeps.upd])

theorem State.installMer_keeps {s₀ s : State} (h : Keeps s₀ s) (m : Nat) (x : Nat × Nat × Nat × Nat) : Keeps s₀ (s.installMer m x) := by
  unfold State.installMer
  repeat' (first | with_reducible assumption | with_reducible apply State.putWord_keeps | with_reducible apply State.setF_keeps | with_reducible apply State.updMer_keeps)

theorem State.installPattern_keeps {s₀ s : State} (h : Keeps s₀ s) (p : Pattern) : Keeps s₀ (s.installPattern p) := by
  unfold State.installPattern
  repeat' (first | with_reducible assumption | with_reducible apply State.installSkein_keeps | with_reducible apply State.installMer_keeps | with_reducible apply State.setF_keeps | with_reducible apply State.updTw_keeps | with_reducible apply State.setB_keeps | with_reducible apply State.updTrust_keeps | with_reducible apply State.pubFw_keeps | with_reducible apply State.pubLevel_keeps | with_reducible apply Keeps.foldl | with_reducible apply Keeps.foldlFst | with_reducible apply Keeps.ite | simp only [Keeps.upd] | (intro _ _ _))

theorem State.restore1_keeps {s₀ s : State} (h : Keeps s₀ s) (kind id : Nat) (v : List Int) : Keeps s₀ (s.restore1 kind id v) := by
  unfold State.restore1
  repeat' (first | with_reducible assumption | with_reducible apply State.applyLoad_keeps | with_reducible apply State.applyTarget_keeps | with_reducible apply State.applyBudgetPolicy_keeps | with_reducible apply State.applyBudget_keeps | with_reducible apply State.applyBreaker_keeps | with_reducible apply State.applyRail_keeps | with_reducible apply State.applySeqSlot_keeps | with_reducible apply State.putWord_keeps | with_reducible apply State.setF_keeps | with_reducible apply State.updPort_keeps | with_reducible apply State.updSvc_keeps | with_reducible apply Keeps.ite | dsimp only | split)

theorem State.restoreAll_keeps {s₀ s : State} (h : Keeps s₀ s)  : Keeps s₀ (s.restoreAll) := by
  unfold State.restoreAll
  repeat' (first | with_reducible assumption | with_reducible apply State.restore1_keeps | with_reducible apply Keeps.foldl | with_reducible apply Keeps.foldlFst | simp only [Keeps.upd] | (intro _ _ _))

theorem State.calLost_keeps {s₀ s : State} (h : Keeps s₀ s)  : Keeps s₀ (s.calLost) := by
  unfold State.calLost
  repeat' (first | with_reducible assumption | with_reducible apply State.putWord_keeps | with_reducible apply State.setF_keeps | with_reducible apply State.level_keeps | with_reducible apply Keeps.foldl | with_reducible apply Keeps.foldlFst | dsimp only | (intro _ _ _))

theorem State.loadPattern_keeps {s₀ s : State} (h : Keeps s₀ s)  : Keeps s₀ (s.loadPattern) := by
  unfold State.loadPattern
  repeat' (first | with_reducible assumption | with_reducible apply State.updTrust_keeps | with_reducible apply State.installPattern_keeps | with_reducible apply State.restoreAll_keeps | with_reducible apply State.calLost_keeps | with_reducible apply State.storePlans_keeps | with_reducible apply State.setF_keeps | with_reducible apply Keeps.foldl | with_reducible apply Keeps.foldlFst | simp only [Keeps.upd] | (intro _ _ _))

theorem State.dueRestart_keeps {s₀ s t : State} (h : Keeps s₀ s) (e : s.dueRestart = some t) : Keeps s₀ t := by
  unfold State.dueRestart at e
  repeat' split at e
  all_goals cases e
  · exact State.goDormant_keeps h 3
  · exact State.restart_keeps h _

theorem State.startPorts_keeps {s₀ s : State} (h : Keeps s₀ s)  : Keeps s₀ (s.startPorts) := by
  unfold State.startPorts
  repeat' (first | with_reducible assumption | with_reducible apply State.setF_keeps | with_reducible apply Keeps.foldl | with_reducible apply Keeps.foldlFst | with_reducible apply Keeps.ite | dsimp only | (intro _ _ _))

theorem State.leaveBoot_keeps {s₀ s : State} (h : Keeps s₀ s)  : Keeps s₀ (s.leaveBoot) := by
  unfold State.leaveBoot
  repeat' (first | with_reducible assumption | with_reducible apply State.setPair_keeps | with_reducible apply State.setF_keeps)

theorem State.takePattern_keeps {s₀ s : State} (h : Keeps s₀ s) (bank : List Byte) (pin : Nat) (l : List (Nat × List Int)) : Keeps s₀ (s.takePattern bank pin l) := by
  unfold State.takePattern
  repeat' (first | with_reducible assumption | with_reducible apply State.updNv_keeps | with_reducible apply State.installPattern_keeps | with_reducible apply State.restore1_keeps | with_reducible apply State.setting_keeps | with_reducible apply State.updTrust_keeps | with_reducible apply State.keep_keeps | with_reducible apply State.pubFw_keeps | with_reducible apply State.pubLevel_keeps | with_reducible apply State.level_keeps | with_reducible apply Keeps.foldl | with_reducible apply Keeps.foldlFst | with_reducible apply Keeps.ite | simp only [Keeps.upd] | (intro _ _ _))

theorem State.enterAdmitted_keeps {s₀ s : State} (h : Keeps s₀ s)  : Keeps s₀ (s.enterAdmitted) := by
  unfold State.enterAdmitted
  repeat' (first | with_reducible assumption | with_reducible apply State.setUnit_keeps | with_reducible apply State.leaveBoot_keeps | with_reducible apply State.startPorts_keeps)

theorem State.takeCheckpoints_keeps {s₀ s : State} (h : Keeps s₀ s)  : Keeps s₀ (s.takeCheckpoints) := by
  unfold State.takeCheckpoints
  repeat' (first | with_reducible assumption | with_reducible apply State.updShelf_keeps | with_reducible apply State.updStr_keeps | with_reducible apply Keeps.foldl | with_reducible apply Keeps.foldlFst | simp only [Keeps.upd] | (intro _ _ _) | split)

theorem State.bootActive_keeps {s₀ s : State} (h : Keeps s₀ s) (alone : Bool) : Keeps s₀ (s.bootActive alone) := by
  unfold State.bootActive
  repeat' (first | with_reducible assumption | with_reducible apply State.setB_keeps | with_reducible apply State.leaveBoot_keeps | with_reducible apply State.takeCheckpoints_keeps | with_reducible apply State.enterActive_keeps | with_reducible apply State.claim_keeps | with_reducible apply State.startPorts_keeps | with_reducible apply Keeps.foldl | with_reducible apply Keeps.foldlFst | with_reducible apply Keeps.ite | simp only [Keeps.upd] | (intro _ _ _))

theorem State.loadCarrier_keeps {s₀ s : State} (h : Keeps s₀ s) (m : Nat) : Keeps s₀ (s.loadCarrier m) := by
  unfold State.loadCarrier
  repeat' (first | with_reducible assumption | with_reducible apply State.updMer_keeps | with_reducible apply Keeps.ite)

theorem State.setBase_keeps {s₀ s : State} (h : Keeps s₀ s) (k : Nat) : Keeps s₀ (s.setBase k) := by
  unfold State.setBase
  repeat' (first | with_reducible assumption | with_reducible apply State.updSk_keeps | with_reducible apply State.setting_keeps | dsimp only | split)

theorem State.startState_keeps {s₀ s : State} (h : Keeps s₀ s) (k : Nat) : Keeps s₀ (s.startState k) := by
  unfold State.startState
  repeat' (first | with_reducible assumption | with_reducible apply State.updSk_keeps | with_reducible apply State.skSet_keeps | with_reducible apply Keeps.ite)

theorem State.startSeq_keeps {s₀ s : State} (h : Keeps s₀ s) (n : Nat) : Keeps s₀ (s.startSeq n) := by
  unfold State.startSeq
  repeat' (first | with_reducible assumption | with_reducible apply State.updRrun_keeps | with_reducible apply State.setF_keeps | with_reducible apply State.rstOut_keeps | with_reducible apply State.seqStop_keeps | with_reducible apply State.flag_keeps | with_reducible apply State.event_keeps | with_reducible apply Keeps.foldl | with_reducible apply Keeps.foldlFst | with_reducible apply Keeps.ite | dsimp only | (intro _ _ _))

theorem State.placeStart_keeps {s₀ s : State} (h : Keeps s₀ s) (n : Nat) : Keeps s₀ (s.placeStart n) := by
  unfold State.placeStart
  repeat' (first | with_reducible assumption | with_reducible apply Keeps.foldl | intro _ _ _ | with_reducible apply Keeps.ite | (refine Keeps.getD ?_ (by with_reducible assumption); intro _ e; exact State.placeAll_keeps (by with_reducible assumption) _ e))


/-! ### Flags -/

theorem State.again_keeps {s₀ s : State} (h : Keeps s₀ s) (t : Touch) : Keeps s₀ (s.again t) := by
  unfold State.again
  repeat' (first | with_reducible assumption | with_reducible apply State.putWord_keeps | dsimp only | split)

theorem State.meetField_keeps {s₀ s : State} (h : Keeps s₀ s) (a : Nat) (f : FieldSpec) : Keeps s₀ (s.meetField a f) := by
  unfold State.meetField
  repeat' (first | with_reducible assumption | with_reducible apply State.again_keeps | with_reducible apply State.collide_keeps | with_reducible apply Keeps.foldl | with_reducible apply Keeps.foldlFst | with_reducible apply Keeps.ite | simp only [Keeps.upd] | (intro _ _ _))

theorem State.storeWord_keeps {s₀ s : State} (h : Keeps s₀ s) (a : Nat) (v m : Word) : Keeps s₀ (s.storeWord a v m) := by
  unfold State.storeWord
  repeat' (first | with_reducible assumption | with_reducible apply State.putWord_keeps | with_reducible apply State.meetField_keeps | with_reducible apply Keeps.foldl | with_reducible apply Keeps.foldlFst | dsimp only | (intro _ _ _) | split)

theorem State.readWord_keeps {s₀ s : State} (h : Keeps s₀ s) (a : Nat) : Keeps s₀ (s.readWord a).1 := by
  unfold State.readWord
  repeat' (first | with_reducible assumption | with_reducible apply Keeps.ite | simp only [Keeps.upd] | dsimp only | split)


/-! ### RegWrite -/

theorem State.dropBell_keeps {s₀ s : State} (h : Keeps s₀ s) (mb : Nat) : Keeps s₀ (s.dropBell mb) := by
  unfold State.dropBell
  repeat' (first | with_reducible assumption | with_reducible apply State.updMbx_keeps | with_reducible apply State.flag_keeps | with_reducible apply State.count_keeps | with_reducible apply Keeps.when | simp only [Keeps.upd] | (intro _ _))

theorem State.ring1_keeps {s₀ s : State} (h : Keeps s₀ s) (mb k : Nat) : Keeps s₀ (s.ring1 mb k) := by
  unfold State.ring1
  repeat' (first | with_reducible assumption | with_reducible apply State.dropBell_keeps | with_reducible apply State.submit_keeps | with_reducible apply Keeps.ite)

theorem State.ringBits_keeps {s₀ s : State} (h : Keeps s₀ s) (mb : Nat) (hi : Bool) (w : Word) : Keeps s₀ (s.ringBits mb hi w) := by
  unfold State.ringBits
  repeat' (first | with_reducible assumption | with_reducible apply State.ring1_keeps | with_reducible apply Keeps.foldl | with_reducible apply Keeps.foldlFst | with_reducible apply Keeps.ite | simp only [Keeps.upd] | (intro _ _ _))

theorem State.writeWaiting_keeps {s₀ s : State} (h : Keeps s₀ s) (mb n : Nat) : Keeps s₀ (s.writeWaiting mb n) := by
  induction n generalizing s with
  | zero => exact h
  | succ n ih =>
    unfold State.writeWaiting
    repeat' (first | with_reducible assumption | with_reducible apply ih | with_reducible apply State.writeCompl_keeps | with_reducible apply State.updMbx_keeps | with_reducible apply Keeps.ite | split)

theorem State.irqChanged_keeps {s₀ s : State} (h : Keeps s₀ s) (mb : Nat) (old : Word) : Keeps s₀ (s.irqChanged mb old) := by
  unfold State.irqChanged
  repeat' (first | with_reducible assumption | with_reducible apply State.updMbx_keeps | with_reducible apply State.raiseV0_keeps | with_reducible apply Keeps.ite)

theorem State.beforeCmp_keeps {s₀ s : State} (h : Keeps s₀ s) (k : Nat) : Keeps s₀ (s.beforeCmp k) := by
  unfold State.beforeCmp
  repeat' (first | with_reducible assumption | with_reducible apply State.putWord_keeps | simp only [Keeps.upd] | split)

theorem State.keepCmp_keeps {s₀ s : State} (h : Keeps s₀ s) (a : Nat) : Keeps s₀ (s.keepCmp a) := by
  unfold State.keepCmp
  repeat' (first | with_reducible assumption | with_reducible apply Keeps.ite | simp only [Keeps.upd])

theorem State.lateOn_keeps {s₀ s : State} (h : Keeps s₀ s) (m : Nat) : Keeps s₀ (s.lateOn m) := by
  unfold State.lateOn
  repeat' (first | with_reducible assumption | with_reducible apply State.flag_keeps | with_reducible apply Keeps.foldl | with_reducible apply Keeps.foldlFst | simp only [Keeps.upd] | (intro _ _ _))

theorem State.merStart_keeps {s₀ s : State} (h : Keeps s₀ s) (m : Nat) : Keeps s₀ (s.merStart m) := by
  unfold State.merStart
  repeat' (first | with_reducible assumption | with_reducible apply State.updMer_keeps | with_reducible apply State.lateOn_keeps)

theorem State.merHold_keeps {s₀ s : State} (h : Keeps s₀ s) (m : Nat) (lo : Option Word) (hi : Word) : Keeps s₀ (s.merHold m lo hi) := by
  unfold State.merHold
  repeat' (first | with_reducible assumption | with_reducible apply State.updMer_keeps | with_reducible apply Keeps.ite)

theorem State.portSwitch_keeps {s₀ s : State} (h : Keeps s₀ s) (p : Nat) (old : Word) : Keeps s₀ (s.portSwitch p old) := by
  unfold State.portSwitch
  repeat' (first | with_reducible assumption | with_reducible apply State.retrainPort_keeps | with_reducible apply State.setF_keeps | with_reducible apply State.cover_keeps | with_reducible apply State.enterBeacon_keeps | with_reducible apply Keeps.ite)

theorem State.svcRetrainNow_keeps {s₀ s : State} (h : Keeps s₀ s) (n : Nat) : Keeps s₀ (s.svcRetrainNow n) := by
  unfold State.svcRetrainNow
  repeat' (first | with_reducible assumption | with_reducible apply State.svcDown_keeps)

theorem State.engSwitch_keeps {s₀ s : State} (h : Keeps s₀ s) (e : Nat) (old : Bool) : Keeps s₀ (s.engSwitch e old) := by
  unfold State.engSwitch
  repeat' (first | with_reducible assumption | with_reducible apply State.evictEngine_keeps | with_reducible apply State.pubEng_keeps | with_reducible apply State.unmaskEngine_keeps | with_reducible apply Keeps.ite)

theorem State.writeActs_keeps {s₀ s : State} (h : Keeps s₀ s) (a : Nat) (old v m : Word) : Keeps s₀ (s.writeActs a old v m) := by
  unfold State.writeActs
  repeat' (first | with_reducible assumption | with_reducible apply State.ringBits_keeps | with_reducible apply State.writeWaiting_keeps | with_reducible apply State.irqChanged_keeps | with_reducible apply State.alarms_keeps | with_reducible apply State.merStart_keeps | with_reducible apply State.flag_keeps | with_reducible apply State.updFan_keeps | with_reducible apply State.adcHalt_keeps | with_reducible apply State.adcTrigger_keeps | with_reducible apply State.portSwitch_keeps | with_reducible apply State.retrainPort_keeps | with_reducible apply State.svcRetrainNow_keeps | with_reducible apply State.takeSnap_keeps | with_reducible apply State.clearAcc_keeps | with_reducible apply State.engSwitch_keeps | with_reducible apply Keeps.when | with_reducible apply Keeps.ite | simp only [Keeps.upd] | (intro _ _))

theorem State.applyWrite_keeps {s₀ s : State} (h : Keeps s₀ s) (a : Nat) (v m : Word) : Keeps s₀ (s.applyWrite a v m) := by
  unfold State.applyWrite
  repeat' (first | with_reducible assumption | with_reducible apply State.keepCmp_keeps | with_reducible apply State.storeWord_keeps | with_reducible apply State.writeActs_keeps)

theorem State.energyAgain_keeps {s₀ s : State} (h : Keeps s₀ s) (lo : Nat) : Keeps s₀ (s.energyAgain lo) := by
  unfold State.energyAgain
  repeat' (first | with_reducible assumption | with_reducible apply State.setPair_keeps | with_reducible apply State.collide_keeps | with_reducible apply Keeps.foldl | with_reducible apply Keeps.foldlFst | with_reducible apply Keeps.ite)

theorem State.writePair_keeps {s₀ s : State} (h : Keeps s₀ s) (lo : Nat) (v m : Word) : Keeps s₀ (s.writePair lo v m) := by
  unfold State.writePair
  repeat' (first | with_reducible assumption | with_reducible apply State.keepCmp_keeps | with_reducible apply State.merHold_keeps | with_reducible apply State.applyWrite_keeps | with_reducible apply State.energyAgain_keeps | with_reducible apply Keeps.ite | simp only [Keeps.upd] | split)

theorem State.writeWord_keeps {s₀ s : State} (h : Keeps s₀ s) (a : Nat) (v m : Word) : Keeps s₀ (s.writeWord a v m) := by
  unfold State.writeWord
  repeat' (first | with_reducible assumption | with_reducible apply State.writePair_keeps | with_reducible apply State.applyWrite_keeps | with_reducible apply Keeps.ite | with_reducible apply Keeps.memWrite | simp only [Keeps.upd])

theorem State.unmapped_keeps {s₀ s : State} (h : Keeps s₀ s) (w : Win) (write : Bool) : Keeps s₀ (s.unmapped w write) := by
  unfold State.unmapped
  repeat' (first | with_reducible assumption | with_reducible apply State.flag_keeps | with_reducible apply State.emit_keeps | with_reducible apply Keeps.ite)

theorem State.access_keeps {s₀ s : State} (h : Keeps s₀ s) (w : Win) (off : Nat) (v m : Word) : Keeps s₀ (s.access w off v m) := by
  unfold State.access
  repeat' (first | with_reducible assumption | with_reducible apply State.emit_keeps | with_reducible apply State.unmapped_keeps | with_reducible apply State.writeWord_keeps | with_reducible apply Keeps.ite)


/-! ### Timebase -/

theorem State.merClock_keeps {s₀ s : State} (h : Keeps s₀ s) (m : Nat) : Keeps s₀ (s.merClock m) := by
  unfold State.merClock
  repeat' (first | with_reducible assumption | with_reducible apply State.updMer_keeps)

theorem State.merTick_keeps {s₀ s : State} (h : Keeps s₀ s) (m : Nat) : Keeps s₀ (s.merTick m) := by
  unfold State.merTick
  repeat' (first | with_reducible assumption | with_reducible apply State.updMer_keeps | with_reducible apply State.merClock_keeps | with_reducible apply Keeps.ite)

theorem State.pinBack_keeps {s₀ s : State} (h : Keeps s₀ s) (m : Nat) : Keeps s₀ (s.pinBack m) := by
  unfold State.pinBack
  repeat' (first | with_reducible assumption | with_reducible apply State.updMer_keeps | with_reducible apply State.setB_keeps | with_reducible apply Keeps.ite)

theorem State.pinRun_keeps {s₀ s : State} (h : Keeps s₀ s) (m : Nat) : Keeps s₀ (s.pinRun m) := by
  unfold State.pinRun
  repeat' (first | with_reducible assumption | with_reducible apply State.updMer_keeps | with_reducible apply State.merTick_keeps | with_reducible apply Keeps.ite)

theorem State.carrierRef_keeps {s₀ s : State} (h : Keeps s₀ s) (m g reload : Nat) : Keeps s₀ (s.carrierRef m g reload) := by
  unfold State.carrierRef
  repeat' (first | with_reducible assumption | with_reducible apply State.updMer_keeps | with_reducible apply State.setB_keeps | with_reducible apply State.level_keeps | with_reducible apply State.flag_keeps | with_reducible apply Keeps.ite)

theorem State.cmpAct_keeps {s₀ s : State} (h : Keeps s₀ s) (k : Nat) (w : State) : Keeps s₀ (s.cmpAct k w) := by
  unfold State.cmpAct
  repeat' (first | with_reducible assumption | with_reducible apply State.event_keeps | with_reducible apply State.adcTrigger_keeps | with_reducible apply Keeps.ite | simp only [Keeps.upd] | split)

theorem State.cmpMatch_keeps {s₀ s : State} (h : Keeps s₀ s) (k : Nat) : Keeps s₀ (s.cmpMatch k) := by
  unfold State.cmpMatch
  repeat' (first | with_reducible assumption | with_reducible apply State.beforeCmp_keeps | with_reducible apply State.flag_keeps | with_reducible apply State.putWord_keeps | with_reducible apply State.setB_keeps | with_reducible apply State.cmpAct_keeps | with_reducible apply Keeps.ite | simp only [Keeps.upd])

theorem State.countCycle_pending (s : State) : s.countCycle.pending = s.pending := by
  unfold State.countCycle
  simp only
  repeat' (first | rfl | split)

theorem State.countCycle_memWf (s : State) (h : MemWf s) : MemWf s.countCycle := by
  unfold State.countCycle
  simp only
  repeat' (first | exact h | split)

theorem State.eventsGone_keeps {s₀ s : State} (h : Keeps s₀ s)  : Keeps s₀ (s.eventsGone) := by
  unfold State.eventsGone
  repeat' (first | with_reducible assumption | with_reducible apply State.gone_keeps | with_reducible apply Keeps.foldl | with_reducible apply Keeps.foldlFst | simp only [Keeps.upd] | (intro _ _ _))

theorem State.injectNow_keeps {s₀ s : State} (h : Keeps s₀ s)  : Keeps s₀ (s.injectNow) := by
  unfold State.injectNow
  repeat' (first | with_reducible assumption | with_reducible apply State.injectUse_keeps | with_reducible apply State.raiseAs_keeps | with_reducible apply Keeps.ite | dsimp only | split)

theorem State.cleanCycle_keeps {s₀ s : State} (h : Keeps s₀ s) (was : State) : Keeps s₀ (s.cleanCycle was) := by
  unfold State.cleanCycle
  repeat' (first | with_reducible assumption | with_reducible apply State.updInst_keeps | with_reducible apply State.eval_keeps | with_reducible apply Keeps.foldl | with_reducible apply Keeps.foldlFst | with_reducible apply Keeps.ite | simp only [Keeps.upd] | (intro _ _ _))

theorem State.portUse_keeps {s₀ s : State} (h : Keeps s₀ s) (p : Nat) : Keeps s₀ (s.portUse p) := by
  unfold State.portUse
  repeat' (first | with_reducible assumption | with_reducible apply State.setF_keeps | with_reducible apply State.updPort_keeps)

theorem State.cycleChecks_keeps {s₀ s : State} (h : Keeps s₀ s)  : Keeps s₀ (s.cycleChecks) := by
  unfold State.cycleChecks
  repeat' (first | with_reducible assumption | with_reducible apply State.eventsGone_keeps | with_reducible apply State.injectNow_keeps | with_reducible apply State.cleanCycle_keeps | with_reducible apply State.pinRun_keeps | with_reducible apply State.hints_keeps | with_reducible apply State.pump_keeps | with_reducible apply State.portUse_keeps | with_reducible apply State.updTrust_keeps | with_reducible apply Keeps.foldl | with_reducible apply Keeps.foldlFst | with_reducible apply Keeps.ite | simp only [Keeps.upd] | (intro _ _ _))


/-! ### Ephemeris -/

theorem State.deliver_keeps {s₀ s : State} (h : Keeps s₀ s) (h : Nat) (cyc : List (Nat × Nat)) (a : EphAct) : Keeps s₀ (s.deliver h cyc a) := by
  unfold State.deliver
  repeat' (first | with_reducible assumption | with_reducible apply State.skAct_keeps | with_reducible apply Keeps.ite | simp only [Keeps.upd] | split)

theorem State.redeliver_keeps {s₀ s : State} (h : Keeps s₀ s) (j : Nat) : Keeps s₀ (s.redeliver j) := by
  unfold State.redeliver
  repeat' (first | with_reducible assumption | with_reducible apply State.updSk_keeps | with_reducible apply Keeps.foldl | with_reducible apply Keeps.foldlFst | with_reducible apply Keeps.ite | dsimp only | (intro _ _ _) | split)

theorem State.commitEntry_keeps {s₀ s : State} (h : Keeps s₀ s) (i : Nat) : Keeps s₀ (s.commitEntry i) := by
  unfold State.commitEntry
  repeat' (first | with_reducible assumption | with_reducible apply State.updEphE_keeps | with_reducible apply State.deliver_keeps | with_reducible apply State.redeliver_keeps | with_reducible apply State.ephPublish_keeps | with_reducible apply State.count_keeps | with_reducible apply State.raise_keeps | with_reducible apply State.ringEvent_keeps | with_reducible apply Keeps.foldl | with_reducible apply Keeps.foldlFst | with_reducible apply Keeps.ite | simp only [Keeps.upd] | (intro _ _ _))

theorem State.applyTimed_keeps {s₀ s : State} (h : Keeps s₀ s) (op : Nat) (p : List Byte) : Keeps s₀ (s.applyTimed op p) := by
  unfold State.applyTimed
  repeat' (first | with_reducible assumption | with_reducible apply State.applyPolicy_keeps | with_reducible apply State.applyBreaker_keeps | with_reducible apply State.applyBudget_keeps | with_reducible apply State.applyBudgetPolicy_keeps | with_reducible apply State.keep_keeps | simp only [Keeps.upd] | split)

theorem State.idleAct_keeps {s₀ s : State} (h : Keeps s₀ s) (h : Nat) (a : EphAct) : Keeps s₀ (s.idleAct h a) := by
  unfold State.idleAct
  repeat' (first | with_reducible assumption | with_reducible apply State.powerLoad_keeps | with_reducible apply State.takeAct_keeps | with_reducible apply Keeps.ite | simp only [Keeps.upd] | split)

theorem State.stepApplied_keeps {s₀ s : State} (h : Keeps s₀ s) (o : Option Nat) : Keeps s₀ (s.stepApplied o) := by
  unfold State.stepApplied
  repeat' (first | with_reducible assumption | with_reducible apply State.updShelf_keeps | with_reducible apply State.setF_keeps | with_reducible apply Keeps.ite | dsimp only | split)

theorem State.trigAct_keeps {s₀ s : State} (h : Keeps s₀ s) (h : Nat) (a : EphAct) : Keeps s₀ (s.trigAct h a) := by
  unfold State.trigAct
  repeat' (first | with_reducible assumption | with_reducible apply State.idleAct_keeps | with_reducible apply State.writeWord_keeps | with_reducible apply State.unmapped_keeps | with_reducible apply State.command_keeps | with_reducible apply State.applyTimed_keeps | with_reducible apply State.pubSkein_keeps | with_reducible apply State.updPort_keeps | with_reducible apply State.setB_keeps | with_reducible apply State.rectOper_keeps | with_reducible apply State.rectStart_keeps | with_reducible apply State.startDrain_keeps | with_reducible apply State.rectVout_keeps | with_reducible apply State.pmWrite_keeps | with_reducible apply State.setF_keeps | with_reducible apply State.count_keeps | with_reducible apply Keeps.foldl | with_reducible apply Keeps.foldlFst | with_reducible apply Keeps.ite | dsimp only | (intro _ _ _) | split)

theorem State.applyEntry_keeps {s₀ s : State} (h : Keeps s₀ s) (i : Nat) : Keeps s₀ (s.applyEntry i) := by
  unfold State.applyEntry
  repeat' (first | with_reducible assumption | with_reducible apply State.trigAct_keeps | with_reducible apply State.stepApplied_keeps | with_reducible apply State.updEphE_keeps | with_reducible apply State.ephPublish_keeps | with_reducible apply State.count_keeps | with_reducible apply State.event_keeps | with_reducible apply Keeps.foldl | with_reducible apply Keeps.foldlFst | with_reducible apply Keeps.ite | simp only [Keeps.upd] | (intro _ _ _))

theorem State.ephStep_keeps {s₀ s : State} (h : Keeps s₀ s) (i : Nat) : Keeps s₀ (s.ephStep i) := by
  unfold State.ephStep
  repeat' (first | with_reducible assumption | with_reducible apply State.commitEntry_keeps | with_reducible apply State.applyEntry_keeps | with_reducible apply Keeps.ite)


/-! ### Mailbox -/

theorem State.segment_keeps {s₀ s : State} (h : Keeps s₀ s) (p v k seg : Nat) (data : List Byte) : Keeps s₀ (s.segment p v k seg data) := by
  unfold State.segment
  repeat' (first | with_reducible assumption | with_reducible apply State.dropBell_keeps | with_reducible apply State.updSlotC_keeps | with_reducible apply State.mirror_keeps | with_reducible apply State.submit_keeps | with_reducible apply Keeps.ite | with_reducible apply Keeps.memWrite)

theorem State.mgmtSegment_keeps {s₀ s : State} (h : Keeps s₀ s) (p : Fin 64) (fn : Fin 4) (k : Fin 64) (seg : Fin 16) (data : List Byte) : Keeps s₀ (s.mgmtSegment p fn k seg data) := by
  unfold State.mgmtSegment
  repeat' (first | with_reducible assumption | with_reducible apply State.segment_keeps | with_reducible apply Keeps.ite | simp only [Keeps.upd] | split)

theorem State.mgmtWindow_keeps {s₀ s : State} (h : Keeps s₀ s) (p : Fin 64) (fn : Fin 4) (off : BitVec 16) (write : Bool) (v : Word) : Keeps s₀ (s.mgmtWindow p fn off write v) := by
  unfold State.mgmtWindow
  repeat' (first | with_reducible assumption | with_reducible apply State.writeWord_keeps | with_reducible apply State.readWord_keeps | with_reducible apply State.emit_keeps | with_reducible apply Keeps.ite | dsimp only | split)

theorem State.dropStaged_keeps {s₀ s : State} (h : Keeps s₀ s) (v : Nat) : Keeps s₀ (s.dropStaged v) := by
  unfold State.dropStaged
  repeat' (first | with_reducible assumption | with_reducible apply State.updNv_keeps | with_reducible apply State.capFlush_keeps)

theorem State.uncount_keeps {s₀ s : State} (h : Keeps s₀ s) (v : Nat) : Keeps s₀ (s.uncount v) := by
  unfold State.uncount
  repeat' (first | with_reducible assumption | with_reducible apply State.setB_keeps | with_reducible apply State.setF_keeps | with_reducible apply Keeps.ite | simp only [Keeps.upd] | split)

theorem State.releaseVi_keeps {s₀ s : State} (h : Keeps s₀ s) (v : Nat) : Keeps s₀ (s.releaseVi v) := by
  unfold State.releaseVi
  repeat' (first | with_reducible assumption | with_reducible apply State.uncount_keeps | with_reducible apply State.forgetWaits_keeps | with_reducible apply State.dropStaged_keeps | with_reducible apply State.updPair_keeps | with_reducible apply State.mirror_keeps | with_reducible apply State.updTrust_keeps | with_reducible apply State.post1_keeps | with_reducible apply State.updSlotC_keeps | with_reducible apply State.setB_keeps | with_reducible apply State.updMbx_keeps | with_reducible apply State.ephEndAll_keeps | with_reducible apply State.pubDrbg_keeps | with_reducible apply Keeps.foldl | with_reducible apply Keeps.foldlFst | with_reducible apply Keeps.ite | simp only [Keeps.upd] | (intro _ _ _))

theorem State.applyMap_keeps {s₀ s : State} (h : Keeps s₀ s) (p : List Byte) : Keeps s₀ (s.applyMap p) := by
  unfold State.applyMap
  repeat' (first | with_reducible assumption | with_reducible apply Keeps.ite | simp only [Keeps.upd])

theorem State.applyOwner_keeps {s₀ s : State} (h : Keeps s₀ s) (p : List Byte) : Keeps s₀ (s.applyOwner p) := by
  unfold State.applyOwner
  repeat' (first | with_reducible assumption | with_reducible apply State.stopTrace_keeps | with_reducible apply State.updSk_keeps | simp only [Keeps.upd] | split)

theorem State.applyBank_keeps {s₀ s : State} (h : Keeps s₀ s) (p : List Byte) : Keeps s₀ (s.applyBank p) := by
  unfold State.applyBank
  repeat' (first | with_reducible assumption | with_reducible apply State.flashErase_keeps | with_reducible apply State.flashWrite_keeps | with_reducible apply State.drop_keeps | with_reducible apply State.updTrust_keeps | with_reducible apply Keeps.foldl | with_reducible apply Keeps.foldlFst | with_reducible apply Keeps.ite | dsimp only | (intro _ _ _))

theorem State.applyCommit_keeps {s₀ s : State} (h : Keeps s₀ s)  : Keeps s₀ (s.applyCommit).1 := by
  unfold State.applyCommit
  repeat' (first | with_reducible assumption | with_reducible apply State.putTrailer_keeps | with_reducible apply State.updNv_keeps | with_reducible apply State.updTrust_keeps | with_reducible apply Keeps.ite | dsimp only | dsimp only | split)


/-! ### Shadow -/

theorem State.followSlot_keeps {s₀ s : State} (h : Keeps s₀ s) (p : List Byte) : Keeps s₀ (s.followSlot p) := by
  unfold State.followSlot
  repeat' (first | with_reducible assumption | with_reducible apply State.bindOff_keeps | with_reducible apply State.castFrom_keeps | with_reducible apply State.slSet_keeps | with_reducible apply State.setB_keeps | with_reducible apply State.svcChange_keeps | with_reducible apply Keeps.ite | dsimp only | split)

theorem State.followSeq_keeps {s₀ s : State} (h : Keeps s₀ s) (p : List Byte) : Keeps s₀ (s.followSeq p) := by
  unfold State.followSeq
  repeat' (first | with_reducible assumption | with_reducible apply State.seqStart_keeps | with_reducible apply State.seqPoke_keeps | with_reducible apply State.seqStop_keeps | with_reducible apply State.setF_keeps | with_reducible apply State.gone_keeps | with_reducible apply Keeps.ite | dsimp only | split)

theorem State.followRect_keeps {s₀ s : State} (h : Keeps s₀ s) (p : List Byte) : Keeps s₀ (s.followRect p) := by
  unfold State.followRect
  repeat' (first | with_reducible assumption | with_reducible apply State.rectSet_keeps | with_reducible apply State.gone_keeps | with_reducible apply State.rectFail_keeps | with_reducible apply Keeps.ite | dsimp only | split)

theorem State.followBatt_keeps {s₀ s : State} (h : Keeps s₀ s) (p : List Byte) : Keeps s₀ (s.followBatt p) := by
  unfold State.followBatt
  repeat' (first | with_reducible assumption | with_reducible apply State.updStr_keeps | with_reducible apply State.fullCorrect_keeps | dsimp only | split)

theorem State.followAssign_keeps {s₀ s : State} (h : Keeps s₀ s) (v : Nat) : Keeps s₀ (s.followAssign v) := by
  unfold State.followAssign
  repeat' (first | with_reducible assumption | with_reducible apply State.newKey_keeps | with_reducible apply State.updMbx_keeps | with_reducible apply State.setB_keeps | with_reducible apply State.setF_keeps | with_reducible apply Keeps.ite)

theorem State.followSkein_keeps {s₀ s : State} (h : Keeps s₀ s) (op : Nat) (p : List Byte) : Keeps s₀ (s.followSkein op p) := by
  unfold State.followSkein
  repeat' (first | with_reducible assumption | with_reducible apply State.powerLoad_keeps | with_reducible apply State.applyTarget_keeps | with_reducible apply State.skSet_keeps | with_reducible apply State.gone_keeps | with_reducible apply State.clearStitch_keeps | with_reducible apply State.updEng_keeps | with_reducible apply State.pubTrace_keeps | with_reducible apply State.planMove_keeps | with_reducible apply State.loadCmd_keeps | with_reducible apply Keeps.ite | dsimp only | split)

theorem State.follow_keeps {s₀ s : State} (h : Keeps s₀ s) (h op : Nat) (p : List Byte) : Keeps s₀ (s.follow h op p) := by
  unfold State.follow
  repeat' (first | with_reducible assumption | with_reducible apply State.followAssign_keeps | with_reducible apply State.releaseVi_keeps | with_reducible apply State.applyMap_keeps | with_reducible apply State.applyOwner_keeps | with_reducible apply State.applyBank_keeps | with_reducible apply State.applyCommit_keeps | with_reducible apply State.applyKind_keeps | with_reducible apply State.followRect_keeps | with_reducible apply State.applyOpt_keeps | with_reducible apply State.applyPolicy_keeps | with_reducible apply State.applyHoldup_keeps | with_reducible apply State.followBatt_keeps | with_reducible apply State.applyPair_keeps | with_reducible apply State.followSlot_keeps | with_reducible apply State.applyBreaker_keeps | with_reducible apply State.capThrottle_keeps | with_reducible apply State.updBgt_keeps | with_reducible apply State.applyBudget_keeps | with_reducible apply State.applyBudgetPolicy_keeps | with_reducible apply State.applyRail_keeps | with_reducible apply State.applySeqSlot_keeps | with_reducible apply State.followSeq_keeps | with_reducible apply State.applyActivate_keeps | with_reducible apply State.applyPin_keeps | with_reducible apply State.applyHubWrite_keeps | with_reducible apply State.followSkein_keeps | with_reducible apply Keeps.ite | simp only [Keeps.upd] | split)

theorem State.followPost_keeps {s₀ s : State} (h : Keeps s₀ s) (h n : Nat) (bytes : List Byte) : Keeps s₀ (s.followPost h n bytes) := by
  unfold State.followPost
  repeat' (first | with_reducible assumption | with_reducible apply State.drop_keeps | with_reducible apply State.command_keeps | with_reducible apply State.updEphE_keeps | with_reducible apply State.ephPublish_keeps | with_reducible apply Keeps.ite | simp only [Keeps.upd])

theorem State.followEpoch_keeps {s₀ s : State} (h : Keeps s₀ s) (l : LinkId) (e t : Nat) : Keeps s₀ (s.followEpoch l e t) := by
  unfold State.followEpoch
  repeat' (first | with_reducible assumption | with_reducible apply State.updSvc_keeps | with_reducible apply State.updPort_keeps | with_reducible apply State.castFrom_keeps | with_reducible apply State.updSlot_keeps | with_reducible apply State.setB_keeps | with_reducible apply Keeps.ite | dsimp only | split)


/-! ### Uplink -/

theorem State.deliverCell_keeps {s₀ s : State} (h : Keeps s₀ s) (c : Instr) : Keeps s₀ (s.deliverCell c) := by
  unfold State.deliverCell
  repeat' (first | with_reducible assumption | with_reducible apply State.mgmtSegment_keeps | with_reducible apply State.mgmtWindow_keeps | with_reducible apply State.bulkCell_keeps | with_reducible apply State.intentCell_keeps | with_reducible apply State.stitchLate_keeps | with_reducible apply State.cmdReject_keeps | with_reducible apply State.senseOpen_keeps | with_reducible apply State.ocHiccup_keeps | with_reducible apply State.ocResume_keeps | with_reducible apply State.stageOt_keeps | with_reducible apply State.driverFault_keeps | with_reducible apply State.bindReq_keeps | with_reducible apply State.hubFwVersion_keeps | with_reducible apply State.unknownEvent_keeps | with_reducible apply State.workerTrip_keeps | simp only [Keeps.upd] | split)

end Sys2Proof.Machine
end

