-- ==== Sys2Proof/Tests/Slice0.lean ====
section
/-! SUPPORT. Small named tests: the checks of WellFormed, and for every statement with hypotheses a concrete state and operands
that meet them, with what the command leaves there. -/
section
-- The theorems below are checked one after another, which keeps the memory of one compile small.
set_option Elab.async false

namespace Sys2Proof.Tests

open Sys2Proof Sys2Proof.Machine Sys2Proof.Safety

/-- A condition on the next state of an outcome. -/
def after (o : Host.Outcome State Fault Refusal) (p : State → Bool) : Bool :=
  match o with
  | .next t => p t
  | _ => false

/-- An active unit right after reset. -/
def unit4 : State := State.reset.setUnit 4

/-- A command of opcode `op` with a payload, waiting alone in slot `k` of mailbox `mb`. -/
def withCmd (s : State) (mb k op : Nat) (p : List Nat) : State :=
  let b := leBytes 2 op ++ leBytes 2 0 ++ leBytes 4 (k * 2 ^ 18 + mb % 256 * 2 ^ 24) ++ leBytes 2 240 ++ leBytes 6 0 ++ p.map (BitVec.ofNat 8)
  (s.updSlotC (slotKey mb k) (fun x => { x with phase := .waiting, bytes := (b ++ List.replicate 256 0).take 256 })).updMbx mb
    (fun m => { m with order := [k] })

/-- An active unit of position 0 that owns every port. -/
def unitA : State := ((unit4.putWord (aPAIR_OWN 0) 0xFFFFFFFF).putWord (aPAIR_OWN 1) 0xFFFFFFFF).putWord aPAIR_CFG
  (resetOf (((regAt aPAIR_CFG).map (·.fields)).getD []))


/-- A standby unit of position 0 with the partner link up. -/
def unitS : State := ((State.reset.setUnit 3).putWord aPAIR_CFG
  (resetOf (((regAt aPAIR_CFG).map (·.fields)).getD []))).setF PAIR_STATUS_link_up 1

theorem test_StepRunsTheFront_1 :
    State.reset.pending = [] := by decide +kernel

theorem test_EveryStepKeepsMemoriesCanonical_1 :
    Mem.wf Mem.blank unit4.mem = true ∧ after (step { unit4 with pending := [.fabricCycle] }) (fun t => decide (t.ct = 1)) = true := by decide +kernel

theorem test_CommandsLeaveTheQueueAlone_1 :
    after (exec .fabricCycle { unit4 with pending := [.debugHalt] }) (fun t => decide (t.pending = [.debugHalt])) = true := by decide +kernel

theorem test_ChassisTimeMovesOnlySo_1 :
    after (exec .busVUpdate { unit4 with ct := 5 }) (fun t => decide (t.ct = 5)) = true := by decide +kernel

theorem test_ChassisTimeMovesOnlySo_2 :
    after (exec .fabricCycle { unit4 with ct := 5 }) (fun t => decide (t.ct = 6)) = true := by decide +kernel

theorem test_ChassisTimeMovesOnlySo_3 :
    after (exec (.partnerTimeRx 900 0) (unit4.setUnit 1)) (fun t => decide (t.ct = 996)) = true := by decide +kernel

theorem test_FabricCycleCountsOne_1 :
    ((({ unit4 with ct := 7 }).unit ≠ 2 ∧ ({ unit4 with ct := 7 }).unit ≠ 3) ∨ ({ unit4 with ct := 7 }).pair.partnerDiff = 0) ∧
    after (exec (.fabricCycle) ({ unit4 with ct := 7 })) (fun t => decide ((t.ct = ({ unit4 with ct := 7 }).ct + 1))) = true := by decide +kernel

def w_FabricCycleCountsOne_2 : State :=
    { State.reset.setUnit 3 with pair := { partnerDiff := 5, slewLeft := 2 } }

theorem test_FabricCycleCountsOne_2 :
    (w_FabricCycleCountsOne_2.unit = 2 ∨ w_FabricCycleCountsOne_2.unit = 3) ∧
    (w_FabricCycleCountsOne_2.pair.partnerDiff ≠ 0) ∧
    (1 < w_FabricCycleCountsOne_2.pair.slewLeft) ∧
    after (exec (.fabricCycle) w_FabricCycleCountsOne_2) (fun t => decide ((t.ct = w_FabricCycleCountsOne_2.ct + 1))) = true := by decide +kernel

def w_FabricCycleCountsOne_3 : State :=
    ({ State.reset.setUnit 3 with pair := { partnerDiff := 1, slewLeft := 1 } }).updRst (fun r => { r with held := false })

theorem test_FabricCycleCountsOne_3 :
    (Runs w_FabricCycleCountsOne_3) ∧
    (Mild w_FabricCycleCountsOne_3 [.adcOverrun]) ∧
    (w_FabricCycleCountsOne_3.faults.inject = none) ∧
    (w_FabricCycleCountsOne_3.rst.restartAt = none) ∧
    (w_FabricCycleCountsOne_3.unit = 2 ∨ w_FabricCycleCountsOne_3.unit = 3) ∧
    (0 < w_FabricCycleCountsOne_3.pair.partnerDiff) ∧
    (w_FabricCycleCountsOne_3.pair.slewLeft ≤ 1) ∧
    after (exec (.fabricCycle) w_FabricCycleCountsOne_3) (fun t => decide ((t.ct = w_FabricCycleCountsOne_3.ct + 2) ∧ (t.pair.partnerDiff = w_FabricCycleCountsOne_3.pair.partnerDiff - 1) ∧ (t.pair.slewLeft = 1024))) = true := by decide +kernel

def w_FabricCycleCountsOne_4 : State :=
    ({ State.reset.setUnit 2 with pair := { partnerDiff := -1, slewLeft := 1 } }).updRst (fun r => { r with held := false })

theorem test_FabricCycleCountsOne_4 :
    (Runs w_FabricCycleCountsOne_4) ∧
    (Mild w_FabricCycleCountsOne_4 [.adcOverrun]) ∧
    (w_FabricCycleCountsOne_4.faults.inject = none) ∧
    (w_FabricCycleCountsOne_4.rst.restartAt = none) ∧
    (w_FabricCycleCountsOne_4.unit = 2 ∨ w_FabricCycleCountsOne_4.unit = 3) ∧
    (w_FabricCycleCountsOne_4.pair.partnerDiff < 0) ∧
    (w_FabricCycleCountsOne_4.pair.slewLeft ≤ 1) ∧
    after (exec (.fabricCycle) w_FabricCycleCountsOne_4) (fun t => decide ((t.ct = w_FabricCycleCountsOne_4.ct) ∧ (t.pair.partnerDiff = w_FabricCycleCountsOne_4.pair.partnerDiff + 1) ∧ (t.pair.slewLeft = 1024))) = true := by decide +kernel

def w_FabricCycleCountsOne_5 : State :=
    (unit4.setF GLB_CTRL_debug_lock 1).updRst (fun r => { r with held := false })

theorem test_FabricCycleCountsOne_5 :
    (Runs w_FabricCycleCountsOne_5) ∧
    (Mild w_FabricCycleCountsOne_5 [.adcOverrun]) ∧
    (w_FabricCycleCountsOne_5.faults.inject = none) ∧
    (w_FabricCycleCountsOne_5.rst.restartAt = none) ∧
    after (exec (.fabricCycle) w_FabricCycleCountsOne_5) (fun t => decide ((t.debugLock = w_FabricCycleCountsOne_5.is GLB_CTRL_debug_lock) ∧ (t.debugHalt = w_FabricCycleCountsOne_5.debugHalt) ∧ (t.hwTouched.all (fun x => decide (x.at_.1 ≠ aGLB_SCRATCH)) = true) ∧ (t.swTouched = []))) = true := by decide +kernel

theorem test_RegisterReadsAndPairs_1 :
    after (exec (.ctLoRead) ({ unit4 with ct := 0x500000003 })) (fun t => decide ((t.out = ({ unit4 with ct := 0x500000003 }).out ++ [.readData (BitVec.ofNat 32 ({ unit4 with ct := 0x500000003 }).ct)]) ∧ ((t.readWord aCT_HI).2 = BitVec.ofNat 32 (({ unit4 with ct := 0x500000003 }).ct / 2 ^ 32)) ∧ (t.regs = ({ unit4 with ct := 0x500000003 }).regs) ∧ (t.mem = ({ unit4 with ct := 0x500000003 }).mem))) = true := by decide +kernel

def w_RegisterReadsAndPairs_2 : State :=
    unit4.updMer 2 (fun x => { x with value := 0x100000007 })

theorem test_RegisterReadsAndPairs_2 :
    (listed Win.bar2 0x4150 = true) ∧
    (loOfPair (Win.addr Win.bar2 0x4150) = true) ∧
    (0x4150 % 4 = 0) ∧
    after (exec (.loHiReadLatch Win.bar2 0x4150) w_RegisterReadsAndPairs_2) (fun t => decide ((t.out = w_RegisterReadsAndPairs_2.out ++ [.readData (w_RegisterReadsAndPairs_2.regShow (Win.addr Win.bar2 0x4150))]) ∧ (Tbl.get t.latchHi (Win.addr Win.bar2 0x4150) 0 = w_RegisterReadsAndPairs_2.regShow (Win.addr Win.bar2 0x4150 + 4)) ∧ (t.regs = w_RegisterReadsAndPairs_2.regs) ∧ (t.mem = w_RegisterReadsAndPairs_2.mem))) = true := by decide +kernel

theorem test_RegisterReadsAndPairs_3 :
    (Runs unit4) ∧
    (unit4.discards Win.bar2 = false) ∧
    (listed Win.bar2 0x5010 = true) ∧
    (rwPair (Win.addr Win.bar2 0x5010) = true) ∧
    (unit4.inReset (Win.addr Win.bar2 0x5010) = false) ∧
    (0x5010 % 4 = 0) ∧
    (Win.addr Win.bar2 0x5010 < 0x4100 ∨ 0x4900 ≤ Win.addr Win.bar2 0x5010 ∨ unit4.merEn ((Win.addr Win.bar2 0x5010 - 0x4100) / 0x20) = false) ∧
    after (exec (.loWriteHeld Win.bar2 0x5010 ((0x1234 : Word))) unit4) (fun t => decide ((Tbl.get t.heldLo (Win.addr Win.bar2 0x5010) 0 = ((0x1234 : Word))) ∧ (t.regs = unit4.regs) ∧ (t.mem = unit4.mem))) = true := by decide +kernel

theorem test_RegisterReadsAndPairs_4 :
    (listed Win.bar2 0x70000 = false) ∧
    (unit4.is GLB_CTRL_ur_unmapped = false ∨ Win.bar2 ≠ .bar2) ∧
    after (exec (.unmappedAccess Win.bar2 0x70000 false) unit4) (fun t => decide ((t.out = unit4.out ++ [.readData 0]) ∧ (t.regs = unit4.regs) ∧ (t.mem = unit4.mem))) = true := by decide +kernel

theorem test_RegisterReadsAndPairs_5 :
    (listed .bar2 0x30 = false) ∧
    after (exec (.unmappedAccess .bar2 0x30 true) unit4) (fun t => decide ((t.get GLB_STATUS_unmapped_seen = 1) ∧ (t.mem = unit4.mem))) = true := by decide +kernel

theorem test_RegisterReadsAndPairs_6 :
    (listed Win.af 0x30 = false) ∧
    (Win.af ≠ .bar2) ∧
    after (exec (.unmappedAccess Win.af 0x30 true) unit4) (fun t => decide ((t = unit4))) = true := by decide +kernel

theorem test_RegisterReadsAndPairs_7 :
    (listed .bar2 0x70000 = false) ∧
    ((unit4.setF GLB_CTRL_ur_unmapped 1).is GLB_CTRL_ur_unmapped = true) ∧
    after (exec (.unmappedAccess .bar2 0x70000 true) (unit4.setF GLB_CTRL_ur_unmapped 1)) (fun t => decide ((t.out = (unit4.setF GLB_CTRL_ur_unmapped 1).out ++ [.unsupported]) ∧ (t.mem = (unit4.setF GLB_CTRL_ur_unmapped 1).mem))) = true := by decide +kernel

theorem test_RegisterReadsAndPairs_8 :
    (listed Win.bar2 0x20 = true) ∧
    after (exec (.unmappedAccess Win.bar2 0x20 true) unit4) (fun t => decide ((t = unit4))) = true := by decide +kernel

theorem test_RegisterReadsAndPairs_9 :
    (2 % 4 ≠ 0 ∨ (4 ≠ 4 ∧ 4 ≠ 8)) ∧
    after (exec (.unsupportedAccess Win.af 2 4 true) unit4) (fun t => decide ((t = { unit4 with out := unit4.out ++ [.unsupported] }))) = true := by decide +kernel

theorem test_FieldsTakeWritesByAccessCode_1 :
    (fieldAfter 0xF0 0x30 0xFFFFFFFF ⟨5, 4, .w1c, 0⟩) = 0xC0 ∧ (fieldAfter 0xF0 0x0F 0xFFFFFFFF ⟨3, 0, .rw, 0⟩) = 0xFF := by decide +kernel

theorem test_RegisterWriteFrame_1 :
    (Runs unit4) ∧
    (NoRung unit4) ∧
    (listed .bar2 0x2C = true) ∧
    (0x2C % 4 = 0) ∧
    (PlainReg 0x2C) ∧
    (Untouched unit4 0x2C) ∧
    after (exec (.registerWrite .bar2 0x2C ((0xABCD1234 : Word)) ((0x3 : BitVec 4))) unit4) (fun t => decide ((t.word 0x2C = wordAfter (unit4.word 0x2C) ((0xABCD1234 : Word)) (byteMask ((0x3 : BitVec 4))) (((regAt 0x2C).map (·.fields)).getD [])) ∧ (t.mem = unit4.mem) ∧ (t.hubStage = unit4.hubStage) ∧ (t.flash0 = unit4.flash0) ∧ (t.flash1 = unit4.flash1) ∧ (t.ct = unit4.ct) ∧ (t.mers = unit4.mers) ∧ (t.skeins = unit4.skeins) ∧ (t.stitches = unit4.stitches) ∧ (t.slotx = unit4.slotx) ∧ (t.slots = unit4.slots) ∧ (t.heldLo = unit4.heldLo))) = true := by decide +kernel

theorem test_RegisterWriteFrame_2 :
    (Runs (unit4.setF GLB_STATUS_unmapped_seen 1)) ∧
    (NoRung (unit4.setF GLB_STATUS_unmapped_seen 1)) ∧
    (Untouched (unit4.setF GLB_STATUS_unmapped_seen 1) aGLB_STATUS) ∧
    after (exec (.registerWrite .bar2 0x24 4 0xF) (unit4.setF GLB_STATUS_unmapped_seen 1)) (fun t => decide ((t.get GLB_STATUS_unmapped_seen = 0) ∧ (t.get GLB_STATUS_halt = (unit4.setF GLB_STATUS_unmapped_seen 1).get GLB_STATUS_halt))) = true := by decide +kernel

theorem test_RegisterWriteFrame_3 :
    (Runs unit4) ∧
    (NoRung unit4) ∧
    (MemWf unit4) ∧
    (unit4.discards (winOf ((3 : Mb))) = false) ∧
    (0x4000 ≤ 0x4104) ∧
    (0x4104 < 0x8000) ∧
    (0x4104 % 4 = 0) ∧
    after (exec (.registerWrite (winOf ((3 : Mb))) 0x4104 ((0x81020304 : Word)) 0xF) unit4) (fun t => decide ((Mem.readBytes Mem.blank t.mem (winBase ((3 : Mb)) + 0x4104) 4 = leBytes 4 ((0x81020304 : Word)).toNat) ∧ (t.regs = unit4.regs) ∧ (t.slots = unit4.slots))) = true := by decide +kernel

theorem test_RegisterWriteFrame_4 :
    (Runs unit4) ∧
    (NoRung unit4) ∧
    (0x1000 ≤ 0x1004) ∧
    (0x1004 < 0x3000) ∧
    (0x1004 % 4 = 0) ∧
    after (exec (.registerWrite (winOf ((3 : Mb))) 0x1004 ((0x81020304 : Word)) ((0xF : BitVec 4))) unit4) (fun t => decide ((t = unit4))) = true := by decide +kernel

theorem test_RegisterWriteFrame_5 :
    PlainReg 0xC000 ∧ PlainReg 0x60004 ∧ ¬ PlainReg aFLT_CTRL ∧ listed .bar2 0xC000 = true := by decide +kernel

theorem test_DebugLockAndHalt_1 :
    (Runs unit4) ∧
    (Untouched unit4 aGLB_CTRL) ∧
    after (exec (.debugLock) unit4) (fun t => decide ((t.get GLB_CTRL_debug_lock = 1) ∧ (t.debugLock = unit4.debugLock) ∧ (t.debugHalt = unit4.debugHalt) ∧ (t.mem = unit4.mem) ∧ (t.mers = unit4.mers))) = true := by decide +kernel

theorem test_DebugLockAndHalt_2 :
    (Runs unit4) ∧
    (unit4.debugLock = false) ∧
    after (exec (.debugHalt) unit4) (fun t => decide ((t.debugHalt = true) ∧ (t.get GLB_STATUS_halt = 1) ∧ (t.mem = unit4.mem) ∧ (t.mers = unit4.mers))) = true := by decide +kernel

def w_DebugLockAndHalt_3 : State :=
    { unit4 with debugLock := true, debugHalt := true }

theorem test_DebugLockAndHalt_3 :
    (w_DebugLockAndHalt_3.debugLock = true) ∧
    after (exec (.debugHalt) w_DebugLockAndHalt_3) (fun t => decide ((t = w_DebugLockAndHalt_3))) = true := by decide +kernel

def w_DebugLockAndHalt_4 : State :=
    { unit4 with debugHalt := true, debugLock := true }

theorem test_DebugLockAndHalt_4 :
    (Runs w_DebugLockAndHalt_4) ∧
    after (exec (.debugHaltEnd) w_DebugLockAndHalt_4) (fun t => decide ((t.debugHalt = false) ∧ (t.mem = w_DebugLockAndHalt_4.mem))) = true := by decide +kernel

def w_SourceTicksTurnMeridians_1 : State :=
    (unit4.setF (MER_CFG_en 3) 1).updMer 3 (fun x => { x with ratio := 0x28000 })

theorem test_SourceTicksTurnMeridians_1 :
    (w_SourceTicksTurnMeridians_1.merEn ((3 : Fin 64)) = true) ∧
    (w_SourceTicksTurnMeridians_1.merHeld ((3 : Fin 64)) = false) ∧
    (w_SourceTicksTurnMeridians_1.get (MER_CFG_src ((3 : Fin 64))) < 4 ∨ (w_SourceTicksTurnMeridians_1.get (MER_CFG_src ((3 : Fin 64))) = 4 ∧ w_SourceTicksTurnMeridians_1.is (MER_STATUS_holdover ((3 : Fin 64))) = false)) ∧
    ((w_SourceTicksTurnMeridians_1.mer ((3 : Fin 64))).acc + 65536 < (w_SourceTicksTurnMeridians_1.mer ((3 : Fin 64))).ratioEff) ∧
    after (exec (.merSourceTick ((3 : Fin 64))) w_SourceTicksTurnMeridians_1) (fun t => decide (((t.mer ((3 : Fin 64))).acc = (w_SourceTicksTurnMeridians_1.mer ((3 : Fin 64))).acc + 65536) ∧ ((t.mer ((3 : Fin 64))).value = (w_SourceTicksTurnMeridians_1.mer ((3 : Fin 64))).value) ∧ ((t.mer ((3 : Fin 64))).frac = (w_SourceTicksTurnMeridians_1.mer ((3 : Fin 64))).frac) ∧ ((t.mer ((3 : Fin 64))).ratio = (w_SourceTicksTurnMeridians_1.mer ((3 : Fin 64))).ratio) ∧ (t.regs = w_SourceTicksTurnMeridians_1.regs) ∧ (t.mem = w_SourceTicksTurnMeridians_1.mem))) = true := by decide +kernel

def w_SourceTicksTurnMeridians_2 : State :=
    ((unit4.setF (MER_CFG_en 3) 1).setF (MER_STEP_step 3) 5).updMer 3 (fun x => { x with value := 0xFFFFFFFFFFFD })

theorem test_SourceTicksTurnMeridians_2 :
    (w_SourceTicksTurnMeridians_2.merEn ((3 : Fin 64)) = true) ∧
    (w_SourceTicksTurnMeridians_2.merHeld ((3 : Fin 64)) = false) ∧
    (w_SourceTicksTurnMeridians_2.get (MER_CFG_src ((3 : Fin 64))) < 4 ∨ (w_SourceTicksTurnMeridians_2.get (MER_CFG_src ((3 : Fin 64))) = 4 ∧ w_SourceTicksTurnMeridians_2.is (MER_STATUS_holdover ((3 : Fin 64))) = false)) ∧
    ((w_SourceTicksTurnMeridians_2.mer ((3 : Fin 64))).ratioEff ≤ (w_SourceTicksTurnMeridians_2.mer ((3 : Fin 64))).acc + 65536) ∧
    after (exec (.merSourceTick ((3 : Fin 64))) w_SourceTicksTurnMeridians_2) (fun t => decide (((t.mer ((3 : Fin 64))).acc = (w_SourceTicksTurnMeridians_2.mer ((3 : Fin 64))).acc + 65536 - (w_SourceTicksTurnMeridians_2.mer ((3 : Fin 64))).ratioEff) ∧ ((t.mer ((3 : Fin 64))).value * 65536 + (t.mer ((3 : Fin 64))).frac = ((w_SourceTicksTurnMeridians_2.mer ((3 : Fin 64))).value * 65536 + (w_SourceTicksTurnMeridians_2.mer ((3 : Fin 64))).frac + w_SourceTicksTurnMeridians_2.get (MER_STEP_step ((3 : Fin 64))) * 65536 + w_SourceTicksTurnMeridians_2.get (MER_STEP_FRAC_frac ((3 : Fin 64)))) % 2 ^ 64) ∧ ((t.mer ((3 : Fin 64))).step = w_SourceTicksTurnMeridians_2.get (MER_STEP_step ((3 : Fin 64)))) ∧ ((t.mer ((3 : Fin 64))).stepFrac = w_SourceTicksTurnMeridians_2.get (MER_STEP_FRAC_frac ((3 : Fin 64)))) ∧ ((t.mer ((3 : Fin 64))).ratio = w_SourceTicksTurnMeridians_2.get (MER_PRESCALE_ratio ((3 : Fin 64)))) ∧ (t.regs = w_SourceTicksTurnMeridians_2.regs) ∧ (t.mem = w_SourceTicksTurnMeridians_2.mem))) = true := by decide +kernel

theorem test_SourceTicksTurnMeridians_3 :
    (unit4.merEn ((0 : Fin 64)) = false ∨ unit4.merHeld ((0 : Fin 64)) = true) ∧
    after (exec (.merSourceTick ((0 : Fin 64))) unit4) (fun t => decide (((t.mer ((0 : Fin 64))).value = (unit4.mer ((0 : Fin 64))).value) ∧ ((t.mer ((0 : Fin 64))).frac = (unit4.mer ((0 : Fin 64))).frac) ∧ ((t.mer ((0 : Fin 64))).acc = (unit4.mer ((0 : Fin 64))).acc) ∧ (t.regs = unit4.regs) ∧ (t.mem = unit4.mem))) = true := by decide +kernel

theorem test_SourceTicksTurnMeridians_4 :
    (5 ≤ (unit4.setF (MER_CFG_src 0) 7).get (MER_CFG_src ((0 : Fin 64)))) ∧
    after (exec (.merSourceTick ((0 : Fin 64))) (unit4.setF (MER_CFG_src 0) 7)) (fun t => decide ((t = (unit4.setF (MER_CFG_src 0) 7)))) = true := by decide +kernel

def w_MeridianEnableLoadsTheHeldValue_1 : State :=
    unit4.updMer 63 (fun x => { x with held := some 77, acc := 9 })

theorem test_MeridianEnableLoadsTheHeldValue_1 :
    (Runs w_MeridianEnableLoadsTheHeldValue_1) ∧
    (w_MeridianEnableLoadsTheHeldValue_1.merEn ((63 : Fin 64)) = false) ∧
    (((8 : Word)).bit 3 = true) ∧
    (w_MeridianEnableLoadsTheHeldValue_1.carries ((63 : Fin 64)) = false) ∧
    (Untouched w_MeridianEnableLoadsTheHeldValue_1 (aMER_CFG ((63 : Fin 64)))) ∧
    after (exec (.merCfgWrite ((63 : Fin 64)) ((8 : Word))) w_MeridianEnableLoadsTheHeldValue_1) (fun t => decide ((t.get (MER_CFG_en ((63 : Fin 64))) = 1) ∧ (t.get (MER_CFG_src ((63 : Fin 64))) = ((8 : Word)).bits 2 0) ∧ ((t.mer ((63 : Fin 64))).acc = 0) ∧ ((t.mer ((63 : Fin 64))).value = (w_MeridianEnableLoadsTheHeldValue_1.mer ((63 : Fin 64))).held.getD (w_MeridianEnableLoadsTheHeldValue_1.mer ((63 : Fin 64))).value) ∧ ((t.mer ((63 : Fin 64))).frac = (if (w_MeridianEnableLoadsTheHeldValue_1.mer ((63 : Fin 64))).held.isSome then 0 else (w_MeridianEnableLoadsTheHeldValue_1.mer ((63 : Fin 64))).frac)) ∧ ((t.mer ((63 : Fin 64))).held = none) ∧ ((t.mer ((63 : Fin 64))).ratio = w_MeridianEnableLoadsTheHeldValue_1.get (MER_PRESCALE_ratio ((63 : Fin 64)))) ∧ ((t.mer ((63 : Fin 64))).step = w_MeridianEnableLoadsTheHeldValue_1.get (MER_STEP_step ((63 : Fin 64)))) ∧ ((t.mer ((63 : Fin 64))).stepFrac = w_MeridianEnableLoadsTheHeldValue_1.get (MER_STEP_FRAC_frac ((63 : Fin 64)))) ∧ ((t.mer ((63 : Fin 64))).offset = w_MeridianEnableLoadsTheHeldValue_1.get (MER_OFFSET_offset ((63 : Fin 64)))) ∧ (t.mem = w_MeridianEnableLoadsTheHeldValue_1.mem))) = true := by decide +kernel

def w_MeridianEnableLoadsTheHeldValue_2 : State :=
    unit4.updMer 63 (fun x => { x with held := some 77, acc := 9 })

theorem test_MeridianEnableLoadsTheHeldValue_2 :
    (Runs w_MeridianEnableLoadsTheHeldValue_2) ∧
    (w_MeridianEnableLoadsTheHeldValue_2.merEn ((63 : Fin 64)) = false) ∧
    (((1 : Word)).bit 3 = false) ∧
    (w_MeridianEnableLoadsTheHeldValue_2.carries ((63 : Fin 64)) = false) ∧
    (Untouched w_MeridianEnableLoadsTheHeldValue_2 (aMER_CFG ((63 : Fin 64)))) ∧
    after (exec (.merCfgWrite ((63 : Fin 64)) ((1 : Word))) w_MeridianEnableLoadsTheHeldValue_2) (fun t => decide ((t.get (MER_CFG_en ((63 : Fin 64))) = 0) ∧ (t.mers = w_MeridianEnableLoadsTheHeldValue_2.mers) ∧ (t.mem = w_MeridianEnableLoadsTheHeldValue_2.mem))) = true := by decide +kernel

theorem test_MeridianEnableLoadsTheHeldValue_3 :
    (Runs ({ unit4 with heldLo := [(0x4110, 6)] })) ∧
    (({ unit4 with heldLo := [(0x4110, 6)] }).merEn ((0 : Fin 64)) = false) ∧
    (Tbl.find? ({ unit4 with heldLo := [(0x4110, 6)] }).heldLo (aMER_VAL_LO ((0 : Fin 64))) = some ((6 : Word))) ∧
    after (exec (.merValWrite ((0 : Fin 64)) true ((0x50003 : Word))) ({ unit4 with heldLo := [(0x4110, 6)] })) (fun t => decide (((t.mer ((0 : Fin 64))).held = some (((0x50003 : Word)).bits 15 0 * 2 ^ 32 + ((6 : Word)).toNat)) ∧ ((t.mer ((0 : Fin 64))).value = (({ unit4 with heldLo := [(0x4110, 6)] }).mer ((0 : Fin 64))).value) ∧ ((t.mer ((0 : Fin 64))).acc = (({ unit4 with heldLo := [(0x4110, 6)] }).mer ((0 : Fin 64))).acc) ∧ (t.regs = ({ unit4 with heldLo := [(0x4110, 6)] }).regs) ∧ (t.mem = ({ unit4 with heldLo := [(0x4110, 6)] }).mem))) = true := by decide +kernel

theorem test_MeridianEnableLoadsTheHeldValue_4 :
    (Runs unit4) ∧
    (unit4.merEn ((63 : Fin 64)) = false) ∧
    after (exec (.merValWrite ((63 : Fin 64)) false ((9 : Word))) unit4) (fun t => decide ((Tbl.get t.heldLo (aMER_VAL_LO ((63 : Fin 64))) 0 = ((9 : Word))) ∧ (t.mers = unit4.mers) ∧ (t.regs = unit4.regs) ∧ (t.mem = unit4.mem))) = true := by decide +kernel

theorem test_MeridianEnableLoadsTheHeldValue_5 :
    (Runs (unit4.setF (MER_CFG_en 1) 1)) ∧
    ((unit4.setF (MER_CFG_en 1) 1).merEn ((1 : Fin 64)) = true) ∧
    after (exec (.merValWrite ((1 : Fin 64)) true ((3 : Word))) (unit4.setF (MER_CFG_en 1) 1)) (fun t => decide ((t.mers = (unit4.setF (MER_CFG_en 1) 1).mers) ∧ (t.regs = (unit4.setF (MER_CFG_en 1) 1).regs) ∧ (t.mem = (unit4.setF (MER_CFG_en 1) 1).mem))) = true := by decide +kernel

def w_MeridianLockAndHoldover_1 : State :=
    ((unitA.setF (MER_CFG_src 2) 3).setF (MER_CFG_en 2) 1).setF (MER_CFG_stitch 2) 5

theorem test_MeridianLockAndHoldover_1 :
    (Runs w_MeridianLockAndHoldover_1) ∧
    (w_MeridianLockAndHoldover_1.faults.inject = none) ∧
    (NoRung w_MeridianLockAndHoldover_1) ∧
    (∀ n : Fin 64, (w_MeridianLockAndHoldover_1.mer n).bad < 3) ∧
    (w_MeridianLockAndHoldover_1.get (MER_CFG_src ((2 : Fin 64))) = 3) ∧
    (w_MeridianLockAndHoldover_1.get (MER_CFG_port ((2 : Fin 64))) = ((0 : Fin 64)).val) ∧
    (w_MeridianLockAndHoldover_1.get (MER_CFG_stitch ((2 : Fin 64))) = ((5 : Fin 128)).val) ∧
    (((5 : Fin 128)).val ∈ w_MeridianLockAndHoldover_1.portRefs ((0 : Fin 64))) ∧
    (w_MeridianLockAndHoldover_1.merEn ((2 : Fin 64)) = true) ∧
    ((w_MeridianLockAndHoldover_1.mer ((2 : Fin 64))).value < 2 ^ 48) ∧
    after (exec (.carrierRefRx ((0 : Fin 64)) (⟨false, false, 0⟩) ((5 : Fin 128)) 40 0) w_MeridianLockAndHoldover_1) (fun t => decide (((t.mer ((2 : Fin 64))).lastRef = 40) ∧ (t.get (MER_STATUS_holdover ((2 : Fin 64))) = 0))) = true := by decide +kernel

def w_MeridianLockAndHoldover_2 : State :=
    ((((unitA.setF (MER_CFG_src 2) 3).setF (MER_CFG_en 2) 1).setF (MER_CFG_stitch 2) 5).setF (MER_STATUS_locked 2) 1).updMer 2 (fun x => { x with value := 0x40000000, bad := 3 })

theorem test_MeridianLockAndHoldover_2 :
    (Runs w_MeridianLockAndHoldover_2) ∧
    (w_MeridianLockAndHoldover_2.faults.inject = none) ∧
    (Mild w_MeridianLockAndHoldover_2 [.merUnlock]) ∧
    (w_MeridianLockAndHoldover_2.get (MER_CFG_src ((2 : Fin 64))) = 3) ∧
    (w_MeridianLockAndHoldover_2.get (MER_CFG_port ((2 : Fin 64))) = ((0 : Fin 64)).val) ∧
    (w_MeridianLockAndHoldover_2.get (MER_CFG_stitch ((2 : Fin 64))) = ((5 : Fin 128)).val) ∧
    (((5 : Fin 128)).val ∈ w_MeridianLockAndHoldover_2.portRefs ((0 : Fin 64))) ∧
    (w_MeridianLockAndHoldover_2.merEn ((2 : Fin 64)) = true) ∧
    (w_MeridianLockAndHoldover_2.is (MER_STATUS_locked ((2 : Fin 64))) = true) ∧
    ((w_MeridianLockAndHoldover_2.mer ((2 : Fin 64))).bad = 3) ∧
    (2 ^ 26 < (fromField 32 (toField 32 (((w_MeridianLockAndHoldover_2.mer ((2 : Fin 64))).value : Int) - ((w_MeridianLockAndHoldover_2.ct : Int) - 0) * (w_MeridianLockAndHoldover_2.mer ((2 : Fin 64))).stepx / (w_MeridianLockAndHoldover_2.mer ((2 : Fin 64))).ratioEff - w_MeridianLockAndHoldover_2.refOffset (128 * ((0 : Fin 64)) + ((5 : Fin 128)))))).natAbs) ∧
    after (exec (.carrierRefRx ((0 : Fin 64)) (⟨false, false, 0⟩) ((5 : Fin 128)) 0 0) w_MeridianLockAndHoldover_2) (fun t => decide ((t.get (MER_STATUS_locked ((2 : Fin 64))) = 0) ∧ (t.get (MER_STATUS_unlock_seen ((2 : Fin 64))) = 1))) = true := by decide +kernel

def w_MeridianLockAndHoldover_3 : State :=
    (((unitA.setF (MER_CFG_src 2) 3).setF (MER_CFG_en 2) 1).setF (MER_CFG_stitch 2) 5).updMer 2 (fun x => { x with value := 0x40, good := 63 })

theorem test_MeridianLockAndHoldover_3 :
    (Runs w_MeridianLockAndHoldover_3) ∧
    (w_MeridianLockAndHoldover_3.faults.inject = none) ∧
    (Mild w_MeridianLockAndHoldover_3 [.merUnlock]) ∧
    (w_MeridianLockAndHoldover_3.get (MER_CFG_src ((2 : Fin 64))) = 3) ∧
    (w_MeridianLockAndHoldover_3.get (MER_CFG_port ((2 : Fin 64))) = ((0 : Fin 64)).val) ∧
    (w_MeridianLockAndHoldover_3.get (MER_CFG_stitch ((2 : Fin 64))) = ((5 : Fin 128)).val) ∧
    (((5 : Fin 128)).val ∈ w_MeridianLockAndHoldover_3.portRefs ((0 : Fin 64))) ∧
    (w_MeridianLockAndHoldover_3.merEn ((2 : Fin 64)) = true) ∧
    (63 ≤ (w_MeridianLockAndHoldover_3.mer ((2 : Fin 64))).good) ∧
    ((fromField 32 (toField 32 (((w_MeridianLockAndHoldover_3.mer ((2 : Fin 64))).value : Int) - ((w_MeridianLockAndHoldover_3.ct : Int) - 0) * (w_MeridianLockAndHoldover_3.mer ((2 : Fin 64))).stepx / (w_MeridianLockAndHoldover_3.mer ((2 : Fin 64))).ratioEff - w_MeridianLockAndHoldover_3.refOffset (128 * ((0 : Fin 64)) + ((5 : Fin 128)))))).natAbs ≤ 2 ^ 22) ∧
    after (exec (.carrierRefRx ((0 : Fin 64)) (⟨false, false, 0⟩) ((5 : Fin 128)) 0 0) w_MeridianLockAndHoldover_3) (fun t => decide ((t.get (MER_STATUS_locked ((2 : Fin 64))) = 1))) = true := by decide +kernel

theorem test_MeridianLockAndHoldover_4 :
    (Runs unitA) ∧
    (unitA.faults.inject = none) ∧
    (NoRung unitA) ∧
    (((5 : Fin 128)).val ∉ unitA.portRefs ((0 : Fin 64))) ∧
    after (exec (.carrierRefRx ((0 : Fin 64)) (⟨false, false, 0⟩) ((5 : Fin 128)) 40 0) unitA) (fun t => decide ((t.mers = unitA.mers))) = true := by decide +kernel

def w_MeridianLockAndHoldover_5 : State :=
    ({ (unitA.setF (MER_CFG_src 2) 3).setF (MER_CFG_en 2) 1 with ct := 100 }).updMer 2 (fun x => { x with step := 2147483648 })

theorem test_MeridianLockAndHoldover_5 :
    (w_MeridianLockAndHoldover_5.get (MER_CFG_src ((2 : Fin 64))) = 3) ∧
    (w_MeridianLockAndHoldover_5.merEn ((2 : Fin 64)) = true) ∧
    ((w_MeridianLockAndHoldover_5.mer ((2 : Fin 64))).lastRef + (w_MeridianLockAndHoldover_5.mer ((2 : Fin 64))).ticksFor (8 * 2 ^ 32) ≤ w_MeridianLockAndHoldover_5.ct) ∧
    after (exec (.carrierHoldover ((2 : Fin 64))) w_MeridianLockAndHoldover_5) (fun t => decide ((t.get (MER_STATUS_holdover ((2 : Fin 64))) = 1) ∧ (t.mers = w_MeridianLockAndHoldover_5.mers) ∧ (t.mem = w_MeridianLockAndHoldover_5.mem))) = true := by decide +kernel

def w_MeridianLockAndHoldover_6 : State :=
    ({ (unitA.setF (MER_CFG_src 2) 4).setF (MER_CFG_en 2) 1 with ct := 160 }).updMer 2 (fun x => { x with edgeGap := 10, lastEdge := some 0 })

theorem test_MeridianLockAndHoldover_6 :
    (w_MeridianLockAndHoldover_6.get (MER_CFG_src ((2 : Fin 64))) = 4) ∧
    (w_MeridianLockAndHoldover_6.merEn ((2 : Fin 64)) = true) ∧
    ((w_MeridianLockAndHoldover_6.mer ((2 : Fin 64))).edgeGap ≠ 0) ∧
    ((w_MeridianLockAndHoldover_6.mer ((2 : Fin 64))).lastEdge = some 0) ∧
    (0 + 16 * (w_MeridianLockAndHoldover_6.mer ((2 : Fin 64))).edgeGap ≤ w_MeridianLockAndHoldover_6.ct) ∧
    after (exec (.merPinHoldover ((2 : Fin 64))) w_MeridianLockAndHoldover_6) (fun t => decide ((t.get (MER_STATUS_holdover ((2 : Fin 64))) = 1) ∧ (t.mers = w_MeridianLockAndHoldover_6.mers) ∧ (t.mem = w_MeridianLockAndHoldover_6.mem))) = true := by decide +kernel

def w_MeridianLockAndHoldover_7 : State :=
    ({ ((unitA.setF (MER_CFG_src 2) 4).setF (MER_CFG_en 2) 1).setF (MER_STATUS_holdover 2) 1 with ct := 160 }).updMer 2 (fun x => { x with edgeGap := 10, lastEdge := some 0 })

theorem test_MeridianLockAndHoldover_7 :
    (w_MeridianLockAndHoldover_7.get (MER_CFG_src ((2 : Fin 64))) = 4) ∧
    (w_MeridianLockAndHoldover_7.merEn ((2 : Fin 64)) = true) ∧
    (w_MeridianLockAndHoldover_7.is (MER_STATUS_holdover ((2 : Fin 64))) = true) ∧
    after (exec (.merSourceTick ((2 : Fin 64))) w_MeridianLockAndHoldover_7) (fun t => decide (((t.mer ((2 : Fin 64))).lastEdge = some w_MeridianLockAndHoldover_7.ct) ∧ (t.mem = w_MeridianLockAndHoldover_7.mem))) = true := by decide +kernel

theorem test_MeridianLockAndHoldover_8 :
    (Runs (unitA.setF (MER_CFG_src 9) 2)) ∧
    (Mild (unitA.setF (MER_CFG_src 9) 2) [.huEntry]) ∧
    (((unitA.setF (MER_CFG_src 9) 2).ph 0).lastCross.all (fun t => decide (t + 2 * (unitA.setF (MER_CFG_src 9) 2).shelf.pllPeriod ≤ (unitA.setF (MER_CFG_src 9) 2).ct)) = true) ∧
    ((unitA.setF (MER_CFG_src 9) 2).get (MER_CFG_src ((9 : Fin 64))) = 2) ∧
    after (exec (.mainsPllHoldover) (unitA.setF (MER_CFG_src 9) 2)) (fun t => decide ((t.shelf.pllHoldover = true) ∧ (t.get (MER_STATUS_holdover ((9 : Fin 64))) = 1) ∧ (t.get (MER_STATUS_locked ((9 : Fin 64))) = 0) ∧ (t.mers = (unitA.setF (MER_CFG_src 9) 2).mers))) = true := by decide +kernel

def w_CompareChannelsMatch_1 : State :=
    (unit4.setF (MER_CFG_en 0) 1).setF (CMP_CTRL_arm 511) 1

theorem test_CompareChannelsMatch_1 :
    (w_CompareChannelsMatch_1.cmpDue ((511 : Fin 512)) = true) ∧
    (w_CompareChannelsMatch_1.swTouched = []) ∧
    (w_CompareChannelsMatch_1.cmpOld = []) ∧
    (NoRung w_CompareChannelsMatch_1) ∧
    ((w_CompareChannelsMatch_1.cmpSet.filter (fun j => decide (j < ((511 : Fin 512)).val) && w_CompareChannelsMatch_1.cmpDue j)) = []) ∧
    (w_CompareChannelsMatch_1.is (CMP_CTRL_periodic ((511 : Fin 512))) = false) ∧
    (w_CompareChannelsMatch_1.get (CMP_CTRL_action ((511 : Fin 512))) = 0 ∨ 6 ≤ w_CompareChannelsMatch_1.get (CMP_CTRL_action ((511 : Fin 512)))) ∧
    after (exec (.compareMatch ((511 : Fin 512))) w_CompareChannelsMatch_1) (fun t => decide ((t.get (CMP_CTRL_matched ((511 : Fin 512))) = 1) ∧ (t.get (CMP_CTRL_arm ((511 : Fin 512))) = 0) ∧ (t.cmpVal ((511 : Fin 512)) = w_CompareChannelsMatch_1.cmpVal ((511 : Fin 512))) ∧ (t.gpio = w_CompareChannelsMatch_1.gpio) ∧ (t.mem = w_CompareChannelsMatch_1.mem))) = true := by decide +kernel

def w_CompareChannelsMatch_2 : State :=
    ((unit4.setF (MER_CFG_en 0) 1).setF (CMP_CTRL_arm 0) 1).setF (CMP_CTRL_periodic 0) 1

theorem test_CompareChannelsMatch_2 :
    (w_CompareChannelsMatch_2.cmpDue ((0 : Fin 512)) = true) ∧
    (w_CompareChannelsMatch_2.swTouched = []) ∧
    (w_CompareChannelsMatch_2.cmpOld = []) ∧
    (NoRung w_CompareChannelsMatch_2) ∧
    ((w_CompareChannelsMatch_2.cmpSet.filter (fun j => decide (j < ((0 : Fin 512)).val) && w_CompareChannelsMatch_2.cmpDue j)) = []) ∧
    (w_CompareChannelsMatch_2.is (CMP_CTRL_periodic ((0 : Fin 512))) = true) ∧
    (w_CompareChannelsMatch_2.get (CMP_CTRL_action ((0 : Fin 512))) = 0 ∨ 6 ≤ w_CompareChannelsMatch_2.get (CMP_CTRL_action ((0 : Fin 512)))) ∧
    after (exec (.compareMatch ((0 : Fin 512))) w_CompareChannelsMatch_2) (fun t => decide ((t.get (CMP_CTRL_matched ((0 : Fin 512))) = 1) ∧ (t.get (CMP_CTRL_arm ((0 : Fin 512))) = 1) ∧ (t.cmpVal ((0 : Fin 512)) = (w_CompareChannelsMatch_2.cmpVal ((0 : Fin 512)) + (if w_CompareChannelsMatch_2.get (CMP_PERIOD_period ((0 : Fin 512))) = 0 then 2 ^ 32 else w_CompareChannelsMatch_2.get (CMP_PERIOD_period ((0 : Fin 512))))) % 2 ^ 48) ∧ (t.mem = w_CompareChannelsMatch_2.mem))) = true := by decide +kernel

def w_CompareChannelsMatch_3 : State :=
    (((unit4.setF (MER_CFG_en 0) 1).setF (CMP_CTRL_arm 0) 1).setF (CMP_CTRL_action 0) 2).setF (CMP_CTRL_arg 0) 33

theorem test_CompareChannelsMatch_3 :
    (w_CompareChannelsMatch_3.cmpDue ((0 : Fin 512)) = true) ∧
    (w_CompareChannelsMatch_3.swTouched = []) ∧
    (w_CompareChannelsMatch_3.cmpOld = []) ∧
    (NoRung w_CompareChannelsMatch_3) ∧
    ((w_CompareChannelsMatch_3.cmpSet.filter (fun j => decide (j < ((0 : Fin 512)).val) && w_CompareChannelsMatch_3.cmpDue j)) = []) ∧
    (w_CompareChannelsMatch_3.get (CMP_CTRL_action ((0 : Fin 512))) = 2) ∧
    (w_CompareChannelsMatch_3.get (CMP_CTRL_arg ((0 : Fin 512))) < 64) ∧
    after (exec (.compareMatch ((0 : Fin 512))) w_CompareChannelsMatch_3) (fun t => decide ((t.get (CMP_CTRL_matched ((0 : Fin 512))) = 1) ∧ (t.gpio = (if w_CompareChannelsMatch_3.is ⟨aMER_GPIO (w_CompareChannelsMatch_3.get (CMP_CTRL_arg ((0 : Fin 512))) / 32), w_CompareChannelsMatch_3.get (CMP_CTRL_arg ((0 : Fin 512))) % 32, w_CompareChannelsMatch_3.get (CMP_CTRL_arg ((0 : Fin 512))) % 32⟩ then w_CompareChannelsMatch_3.gpio ||| BitVec.ofNat 64 (2 ^ w_CompareChannelsMatch_3.get (CMP_CTRL_arg ((0 : Fin 512)))) else w_CompareChannelsMatch_3.gpio)) ∧ (t.mem = w_CompareChannelsMatch_3.mem))) = true := by decide +kernel

theorem test_CompareChannelsMatch_4 :
    (({ unit4 with cmpDone := [7] }).cmpDone.contains ((7 : Fin 512)).val = true) ∧
    after (exec (.compareMatch ((7 : Fin 512))) ({ unit4 with cmpDone := [7] })) (fun t => decide ((t = ({ unit4 with cmpDone := [7] })))) = true := by decide +kernel

theorem test_CompareChannelsMatch_5 :
    (Runs (unit4.setF (MER_CFG_en 0) 1)) ∧
    (Untouched (unit4.setF (MER_CFG_en 0) 1) (aCMP_CTRL ((3 : Fin 512)))) ∧
    (((0x51 : Word)).bit 0 = true) ∧
    (((0x51 : Word)).bits 7 4 ≤ 5) ∧
    ((unit4.setF (MER_CFG_en 0) 1).merLive ((unit4.setF (MER_CFG_en 0) 1).cmpMer ((3 : Fin 512))) = true) ∧
    (merMatched ((unit4.setF (MER_CFG_en 0) 1).mer ((unit4.setF (MER_CFG_en 0) 1).cmpMer ((3 : Fin 512)))).visible ((unit4.setF (MER_CFG_en 0) 1).cmpVal ((3 : Fin 512))) = true) ∧
    after (exec (.cmpArm ((3 : Fin 512)) ((0x51 : Word))) (unit4.setF (MER_CFG_en 0) 1)) (fun t => decide ((t.get (CMP_CTRL_arm ((3 : Fin 512))) = 1) ∧ (t.get (CMP_CTRL_late ((3 : Fin 512))) = 1) ∧ (t.get (CMP_CTRL_action ((3 : Fin 512))) = ((0x51 : Word)).bits 7 4) ∧ (t.mem = (unit4.setF (MER_CFG_en 0) 1).mem) ∧ (t.gpio = (unit4.setF (MER_CFG_en 0) 1).gpio))) = true := by decide +kernel

theorem test_CompareChannelsMatch_6 :
    (Runs unit4) ∧
    (Untouched unit4 (aCMP_CTRL ((3 : Fin 512)))) ∧
    (6 ≤ ((0x61 : Word)).bits 7 4) ∧
    after (exec (.cmpArm ((3 : Fin 512)) ((0x61 : Word))) unit4) (fun t => decide ((t.get (CMP_CTRL_arm ((3 : Fin 512))) = 0) ∧ (t.mem = unit4.mem) ∧ (t.gpio = unit4.gpio))) = true := by decide +kernel

theorem test_CompareChannelsMatch_7 :
    ((({ unit4 with ct := 64000 }).fan ((15 : Fin 16))).startedAt + 64 * Nat.max 1 (({ unit4 with ct := 64000 }).fan ((15 : Fin 16))).period ≤ ({ unit4 with ct := 64000 }).ct) ∧
    (({ unit4 with ct := 64000 }).swTouched = []) ∧
    after (exec (.fanPwmReload ((15 : Fin 16))) ({ unit4 with ct := 64000 })) (fun t => decide (((t.fan ((15 : Fin 16))).period = ({ unit4 with ct := 64000 }).get (FAN_PWM_period ((15 : Fin 16)))) ∧ ((t.fan ((15 : Fin 16))).duty = ({ unit4 with ct := 64000 }).get (FAN_PWM_duty ((15 : Fin 16)))) ∧ ((t.fan ((15 : Fin 16))).startedAt = ({ unit4 with ct := 64000 }).ct) ∧ (t.regs = ({ unit4 with ct := 64000 }).regs) ∧ (t.mem = ({ unit4 with ct := 64000 }).mem))) = true := by decide +kernel

theorem test_CompareChannelsMatch_8 :
    (({ unit4 with ct := 6 }).ct < (({ unit4 with ct := 6 }).fan ((15 : Fin 16))).startedAt + 64 * Nat.max 1 (({ unit4 with ct := 6 }).fan ((15 : Fin 16))).period) ∧
    after (exec (.fanPwmReload ((15 : Fin 16))) ({ unit4 with ct := 6 })) (fun t => decide ((t = ({ unit4 with ct := 6 })))) = true := by decide +kernel

def w_EphemerisEntriesCommitAndApply_1 : State :=
    ({ unit4 with ct := 9 }).updEphE 5 (fun e => { e with st := .pending, acts := [.regWrite 0x2C 1 1] })

theorem test_EphemerisEntriesCommitAndApply_1 :
    (w_EphemerisEntriesCommitAndApply_1.commitDue (w_EphemerisEntriesCommitAndApply_1.ephE ((5 : Fin 4096))) = true) ∧
    ((w_EphemerisEntriesCommitAndApply_1.ephE ((5 : Fin 4096))).acts.all (fun a => w_EphemerisEntriesCommitAndApply_1.actOk (w_EphemerisEntriesCommitAndApply_1.ephE ((5 : Fin 4096))).issuer a) = true) ∧
    (NoRung w_EphemerisEntriesCommitAndApply_1) ∧
    after (exec (.ephCommit ((5 : Fin 4096))) w_EphemerisEntriesCommitAndApply_1) (fun t => decide (((t.ephE ((5 : Fin 4096))).st = .committed) ∧ ((t.ephE ((5 : Fin 4096))).acts = (w_EphemerisEntriesCommitAndApply_1.ephE ((5 : Fin 4096))).acts) ∧ (t.mem = w_EphemerisEntriesCommitAndApply_1.mem) ∧ (t.regs = w_EphemerisEntriesCommitAndApply_1.regs))) = true := by decide +kernel

def w_EphemerisEntriesCommitAndApply_2 : State :=
    (({ unit4 with ct := 9 }).updSk 3 (fun x => { x with engine := some 2, known := true })).updEphE 5 (fun e => { e with st := .pending, issuer := 256, acts := [.target 3 900 1] })

theorem test_EphemerisEntriesCommitAndApply_2 :
    (w_EphemerisEntriesCommitAndApply_2.commitDue (w_EphemerisEntriesCommitAndApply_2.ephE ((5 : Fin 4096))) = true) ∧
    ((w_EphemerisEntriesCommitAndApply_2.ephE ((5 : Fin 4096))).acts.all (fun a => w_EphemerisEntriesCommitAndApply_2.actOk (w_EphemerisEntriesCommitAndApply_2.ephE ((5 : Fin 4096))).issuer a) = true) ∧
    (NoRung w_EphemerisEntriesCommitAndApply_2) ∧
    ((w_EphemerisEntriesCommitAndApply_2.ephE ((5 : Fin 4096))).acts.contains (.target 3 900 1) = true) ∧
    ((w_EphemerisEntriesCommitAndApply_2.sk 3).engine.isSome = true) ∧
    after (exec (.ephCommit ((5 : Fin 4096))) w_EphemerisEntriesCommitAndApply_2) (fun t => decide (((t.sk 3).acts.contains (Tbl.get (w_EphemerisEntriesCommitAndApply_2.replan (w_EphemerisEntriesCommitAndApply_2.ephE ((5 : Fin 4096)))).cycles 3 0, SkAct.target 900 1) = true))) = true := by decide +kernel

def w_EphemerisEntriesCommitAndApply_3 : State :=
    ({ unit4 with ct := 9 }).updEphE 5 (fun e => { e with st := .pending, issuer := 3, acts := [.target 1 2 3] })

theorem test_EphemerisEntriesCommitAndApply_3 :
    (w_EphemerisEntriesCommitAndApply_3.commitDue (w_EphemerisEntriesCommitAndApply_3.ephE ((5 : Fin 4096))) = true) ∧
    ((w_EphemerisEntriesCommitAndApply_3.ephE ((5 : Fin 4096))).acts.all (fun a => w_EphemerisEntriesCommitAndApply_3.actOk (w_EphemerisEntriesCommitAndApply_3.ephE ((5 : Fin 4096))).issuer a) = false) ∧
    (Mild w_EphemerisEntriesCommitAndApply_3 [.ephAbort]) ∧
    (w_EphemerisEntriesCommitAndApply_3.swTouched = []) ∧
    after (exec (.ephCommit ((5 : Fin 4096))) w_EphemerisEntriesCommitAndApply_3) (fun t => decide (((t.ephE ((5 : Fin 4096))).st = .aborted) ∧ ((t.ephE ((5 : Fin 4096))).endedAt = w_EphemerisEntriesCommitAndApply_3.ct) ∧ (t.skeins = w_EphemerisEntriesCommitAndApply_3.skeins) ∧ (Counted w_EphemerisEntriesCommitAndApply_3 t EPH_STATUS_aborted))) = true := by decide +kernel

theorem test_EphemerisEntriesCommitAndApply_4 :
    (unit4.commitDue (unit4.ephE ((5 : Fin 4096))) = false) ∧
    after (exec (.ephCommit ((5 : Fin 4096))) unit4) (fun t => decide ((t = unit4))) = true := by decide +kernel

def w_EphemerisEntriesCommitAndApply_5 : State :=
    (({ unit4 with ct := 9 }).updSk 3 (fun x => { x with engine := some 2 })).updEphE 5 (fun e => { e with st := .committed, acts := [.target 3 900 0] })

theorem test_EphemerisEntriesCommitAndApply_5 :
    ((w_EphemerisEntriesCommitAndApply_5.ephE ((5 : Fin 4096))).st = .committed) ∧
    (w_EphemerisEntriesCommitAndApply_5.trigDue (w_EphemerisEntriesCommitAndApply_5.ephE ((5 : Fin 4096))).trig = true) ∧
    (NoRung w_EphemerisEntriesCommitAndApply_5) ∧
    ((w_EphemerisEntriesCommitAndApply_5.eph.filter (fun x => x.2.live && decide (x.2.ord < (w_EphemerisEntriesCommitAndApply_5.ephE ((5 : Fin 4096))).ord) && w_EphemerisEntriesCommitAndApply_5.trigDue x.2.trig)) = []) ∧
    ((w_EphemerisEntriesCommitAndApply_5.ephE ((5 : Fin 4096))).holdupStep = none) ∧
    ((w_EphemerisEntriesCommitAndApply_5.ephE ((5 : Fin 4096))).acts.all (fun (a : EphAct) => a.skein?.any (fun (q : Nat) => (w_EphemerisEntriesCommitAndApply_5.sk q).engine.isSome) && (match a with | .command _ _ => false | _ => true)) = true) ∧
    after (exec (.ephTrigger ((5 : Fin 4096))) w_EphemerisEntriesCommitAndApply_5) (fun t => decide (((t.ephE ((5 : Fin 4096))).st = .applied) ∧ ((t.ephE ((5 : Fin 4096))).endedAt = w_EphemerisEntriesCommitAndApply_5.ct))) = true := by decide +kernel

def w_EphemerisEntriesCommitAndApply_6 : State :=
    ({ unit4 with ct := 9 }).updEphE 5 (fun e => { e with st := .committed, acts := [.regWrite 0x2C 0x77 0xFFFFFFFF] })

theorem test_EphemerisEntriesCommitAndApply_6 :
    (Runs w_EphemerisEntriesCommitAndApply_6) ∧
    (Untouched w_EphemerisEntriesCommitAndApply_6 0x2C) ∧
    (PlainReg 0x2C) ∧
    (listed .bar2 0x2C = true) ∧
    (0x2C % 4 = 0) ∧
    (0x2C ≠ aEPH_STATUS) ∧
    (0x2C ≠ aOPT_CNT) ∧
    ((w_EphemerisEntriesCommitAndApply_6.ephE ((5 : Fin 4096))).st = .committed) ∧
    (w_EphemerisEntriesCommitAndApply_6.trigDue (w_EphemerisEntriesCommitAndApply_6.ephE ((5 : Fin 4096))).trig = true) ∧
    (NoRung w_EphemerisEntriesCommitAndApply_6) ∧
    ((w_EphemerisEntriesCommitAndApply_6.eph.filter (fun x => x.2.live && decide (x.2.ord < (w_EphemerisEntriesCommitAndApply_6.ephE ((5 : Fin 4096))).ord) && w_EphemerisEntriesCommitAndApply_6.trigDue x.2.trig)) = []) ∧
    ((w_EphemerisEntriesCommitAndApply_6.ephE ((5 : Fin 4096))).holdupStep = none) ∧
    ((w_EphemerisEntriesCommitAndApply_6.ephE ((5 : Fin 4096))).acts = [.regWrite 0x2C ((0x77 : Word)) ((0xFFFFFFFF : Word))]) ∧
    after (exec (.ephTrigger ((5 : Fin 4096))) w_EphemerisEntriesCommitAndApply_6) (fun t => decide (((t.ephE ((5 : Fin 4096))).st = .applied) ∧ ((t.ephE ((5 : Fin 4096))).endedAt = w_EphemerisEntriesCommitAndApply_6.ct) ∧ (t.word 0x2C = wordAfter (w_EphemerisEntriesCommitAndApply_6.word 0x2C) ((0x77 : Word)) ((0xFFFFFFFF : Word)) (((regAt 0x2C).map (·.fields)).getD [])))) = true := by decide +kernel

def w_EphemerisEntriesCommitAndApply_7 : State :=
    unit4.updEphE 5 (fun e => { e with st := .committed, trig := .time 900 })

theorem test_EphemerisEntriesCommitAndApply_7 :
    (w_EphemerisEntriesCommitAndApply_7.trigDue (w_EphemerisEntriesCommitAndApply_7.ephE ((5 : Fin 4096))).trig = false) ∧
    after (exec (.ephTrigger ((5 : Fin 4096))) w_EphemerisEntriesCommitAndApply_7) (fun t => decide ((t = w_EphemerisEntriesCommitAndApply_7))) = true := by decide +kernel

theorem test_EphemerisEntriesCommitAndApply_8 :
    (∀ a ∈ [EphAct.target 1 2 3], a.skein?.isSome = true ∧ (((unit4.updSk 1 (fun x => { x with engine := some 4 })).sk (a.skein?.getD 0)).engine.isSome = true)) ∧
    after (exec (.ephTrigger 7) (((unit4.updSk 1 (fun x => { x with engine := some 4 })).updEphE 7 (fun e => { e with st := .committed, acts := [.target 1 2 3] })))) (fun t => decide ((t.ephE 7).st = .applied)) = true := by decide +kernel

def w_EphemerisCommandsComplete_1 : State :=
    withCmd unitA 256 9 0x310 [0, 1, 0, 0, 0, 0, 0, 0, 0, 0, 0, 0, 1, 0, 0, 0, 4, 0, 0, 0, 0x2C, 0, 0, 0, 7, 0, 0, 0, 255, 255, 255, 255]

theorem test_EphemerisCommandsComplete_1 :
    (NoRung w_EphemerisCommandsComplete_1) ∧
    (Ready w_EphemerisCommandsComplete_1 ((256 : Mb)) ((9 : Fin 64)) 0x310) ∧
    (Passes w_EphemerisCommandsComplete_1 (ephPostChecks w_EphemerisCommandsComplete_1 ((256 : Mb)) (payloadOf w_EphemerisCommandsComplete_1 ((256 : Mb)) ((9 : Fin 64))))) ∧
    (w_EphemerisCommandsComplete_1.raisesOf (postActs (payloadOf w_EphemerisCommandsComplete_1 ((256 : Mb)) ((9 : Fin 64)))) = []) ∧
    (w_EphemerisCommandsComplete_1.is PAIR_STATUS_link_up = false) ∧
    (w_EphemerisCommandsComplete_1.ephFree 4096 (w_EphemerisCommandsComplete_1.ephLast + 1) = some 0) ∧
    ((w_EphemerisCommandsComplete_1.ephE 0).st = .free) ∧
    after (exec (.ephPost ((256 : Mb)) ((9 : Fin 64))) w_EphemerisCommandsComplete_1) (fun t => decide (((t.ephE 0).st = .pending) ∧ ((t.ephE 0).issuer = ((256 : Mb)).val) ∧ ((t.ephE 0).acts = postActs (payloadOf w_EphemerisCommandsComplete_1 ((256 : Mb)) ((9 : Fin 64)))) ∧ ((t.ephE 0).trig = w_EphemerisCommandsComplete_1.postTrig (payloadOf w_EphemerisCommandsComplete_1 ((256 : Mb)) ((9 : Fin 64)))) ∧ (t.ephLast = 0) ∧ (t.skeins = w_EphemerisCommandsComplete_1.skeins) ∧ (Done t ((256 : Mb)) ((9 : Fin 64)) (cmdOf w_EphemerisCommandsComplete_1 ((256 : Mb)) ((9 : Fin 64))) 1 0 (0 + 4096 * (w_EphemerisCommandsComplete_1.ephE 0).gen)))) = true := by decide +kernel

def w_EphemerisCommandsComplete_2 : State :=
    (withCmd unitA 256 9 0x311 [5, 0, 0, 0]).updEphE 5 (fun e => { e with st := .pending, trig := .time 900 })

theorem test_EphemerisCommandsComplete_2 :
    (NoRung w_EphemerisCommandsComplete_2) ∧
    (Ready w_EphemerisCommandsComplete_2 ((256 : Mb)) ((9 : Fin 64)) 0x311) ∧
    (w_EphemerisCommandsComplete_2.entryOf (u32 (payloadOf w_EphemerisCommandsComplete_2 ((256 : Mb)) ((9 : Fin 64))) 0) = some 5) ∧
    (((256 : Mb)).val = afMb ∨ (w_EphemerisCommandsComplete_2.ephE 5).issuer = ((256 : Mb)).val) ∧
    (CancelHere w_EphemerisCommandsComplete_2 5) ∧
    ((w_EphemerisCommandsComplete_2.ephE 5).st = .pending) ∧
    (w_EphemerisCommandsComplete_2.commitDue (w_EphemerisCommandsComplete_2.ephE 5) = false) ∧
    after (exec (.ephCancel ((256 : Mb)) ((9 : Fin 64))) w_EphemerisCommandsComplete_2) (fun t => decide (((t.ephE 5).st = .cancelled) ∧ ((t.ephE 5).endedAt = w_EphemerisCommandsComplete_2.ct) ∧ (t.skeins = w_EphemerisCommandsComplete_2.skeins) ∧ (Done t ((256 : Mb)) ((9 : Fin 64)) (cmdOf w_EphemerisCommandsComplete_2 ((256 : Mb)) ((9 : Fin 64))) 0 0 0))) = true := by decide +kernel

def w_EphemerisCommandsComplete_3 : State :=
    (withCmd unitA 256 9 0x311 [5, 0, 0, 0]).updEphE 5 (fun e => { e with st := .committed, trig := .time 900 })

theorem test_EphemerisCommandsComplete_3 :
    (NoRung w_EphemerisCommandsComplete_3) ∧
    (Ready w_EphemerisCommandsComplete_3 ((256 : Mb)) ((9 : Fin 64)) 0x311) ∧
    (w_EphemerisCommandsComplete_3.entryOf (u32 (payloadOf w_EphemerisCommandsComplete_3 ((256 : Mb)) ((9 : Fin 64))) 0) = some 5) ∧
    (((256 : Mb)).val = afMb ∨ (w_EphemerisCommandsComplete_3.ephE 5).issuer = ((256 : Mb)).val) ∧
    (CancelHere w_EphemerisCommandsComplete_3 5) ∧
    ((w_EphemerisCommandsComplete_3.ephE 5).st = .committed) ∧
    (Tail w_EphemerisCommandsComplete_3 ((256 : Mb)) ((9 : Fin 64))) ∧
    after (exec (.ephCancel ((256 : Mb)) ((9 : Fin 64))) w_EphemerisCommandsComplete_3) (fun t => decide ((t.eph = w_EphemerisCommandsComplete_3.eph) ∧ (t.skeins = w_EphemerisCommandsComplete_3.skeins) ∧ (Done t ((256 : Mb)) ((9 : Fin 64)) (cmdOf w_EphemerisCommandsComplete_3 ((256 : Mb)) ((9 : Fin 64))) 5 1 0))) = true := by decide +kernel

theorem test_EphemerisCommandsComplete_4 :
    (NoRung (withCmd unitA 256 9 0x311 [5, 0, 0, 0])) ∧
    (Ready (withCmd unitA 256 9 0x311 [5, 0, 0, 0]) ((256 : Mb)) ((9 : Fin 64)) 0x311) ∧
    ((withCmd unitA 256 9 0x311 [5, 0, 0, 0]).entryOf (u32 (payloadOf (withCmd unitA 256 9 0x311 [5, 0, 0, 0]) ((256 : Mb)) ((9 : Fin 64))) 0) = none) ∧
    (Tail (withCmd unitA 256 9 0x311 [5, 0, 0, 0]) ((256 : Mb)) ((9 : Fin 64))) ∧
    after (exec (.ephCancel ((256 : Mb)) ((9 : Fin 64))) (withCmd unitA 256 9 0x311 [5, 0, 0, 0])) (fun t => decide ((t.eph = (withCmd unitA 256 9 0x311 [5, 0, 0, 0]).eph) ∧ (t.skeins = (withCmd unitA 256 9 0x311 [5, 0, 0, 0]).skeins) ∧ (Done t ((256 : Mb)) ((9 : Fin 64)) (cmdOf (withCmd unitA 256 9 0x311 [5, 0, 0, 0]) ((256 : Mb)) ((9 : Fin 64))) 5 0 0))) = true := by decide +kernel

def w_EphemerisCommandsComplete_5 : State :=
    (withCmd unitA 256 9 0x311 [5, 0, 0, 0]).updEphE 5 (fun e => { e with st := .applied, trig := .time 900 })

theorem test_EphemerisCommandsComplete_5 :
    (NoRung w_EphemerisCommandsComplete_5) ∧
    (Ready w_EphemerisCommandsComplete_5 ((256 : Mb)) ((9 : Fin 64)) 0x311) ∧
    (w_EphemerisCommandsComplete_5.entryOf (u32 (payloadOf w_EphemerisCommandsComplete_5 ((256 : Mb)) ((9 : Fin 64))) 0) = some 5) ∧
    (((256 : Mb)).val = afMb ∨ (w_EphemerisCommandsComplete_5.ephE 5).issuer = ((256 : Mb)).val) ∧
    (CancelHere w_EphemerisCommandsComplete_5 5) ∧
    ((w_EphemerisCommandsComplete_5.ephE 5).live = false) ∧
    (Tail w_EphemerisCommandsComplete_5 ((256 : Mb)) ((9 : Fin 64))) ∧
    after (exec (.ephCancel ((256 : Mb)) ((9 : Fin 64))) w_EphemerisCommandsComplete_5) (fun t => decide ((t.eph = w_EphemerisCommandsComplete_5.eph) ∧ (t.skeins = w_EphemerisCommandsComplete_5.skeins) ∧ (Done t ((256 : Mb)) ((9 : Fin 64)) (cmdOf w_EphemerisCommandsComplete_5 ((256 : Mb)) ((9 : Fin 64))) 5 0 0))) = true := by decide +kernel

def w_EphemerisCommandsComplete_6 : State :=
    (withCmd (unitA.setB (VI_STATUS_assigned 3) true) 3 9 0x311 [5, 0, 0, 0]).updEphE 5 (fun e => { e with st := .pending, trig := .time 900 })

theorem test_EphemerisCommandsComplete_6 :
    (NoRung w_EphemerisCommandsComplete_6) ∧
    (Ready w_EphemerisCommandsComplete_6 ((3 : Mb)) ((9 : Fin 64)) 0x311) ∧
    (w_EphemerisCommandsComplete_6.entryOf (u32 (payloadOf w_EphemerisCommandsComplete_6 ((3 : Mb)) ((9 : Fin 64))) 0) = some 5) ∧
    (((3 : Mb)).val ≠ afMb) ∧
    ((w_EphemerisCommandsComplete_6.ephE 5).issuer ≠ ((3 : Mb)).val) ∧
    (Tail w_EphemerisCommandsComplete_6 ((3 : Mb)) ((9 : Fin 64))) ∧
    after (exec (.ephCancel ((3 : Mb)) ((9 : Fin 64))) w_EphemerisCommandsComplete_6) (fun t => decide ((t.eph = w_EphemerisCommandsComplete_6.eph) ∧ (t.skeins = w_EphemerisCommandsComplete_6.skeins) ∧ (Done t ((3 : Mb)) ((9 : Fin 64)) (cmdOf w_EphemerisCommandsComplete_6 ((3 : Mb)) ((9 : Fin 64))) 4 0 0))) = true := by decide +kernel

def w_EphemerisCommandsComplete_7 : State :=
    (withCmd unitA 256 9 0x312 [5, 0, 0, 0]).updEphE 5 (fun e => { e with st := .aborted, endedAt := 99 })

theorem test_EphemerisCommandsComplete_7 :
    (Ready w_EphemerisCommandsComplete_7 ((256 : Mb)) ((9 : Fin 64)) 0x312) ∧
    (w_EphemerisCommandsComplete_7.entryOf (u32 (payloadOf w_EphemerisCommandsComplete_7 ((256 : Mb)) ((9 : Fin 64))) 0) = some 5) ∧
    (((256 : Mb)).val = afMb ∨ (w_EphemerisCommandsComplete_7.ephE 5).issuer = ((256 : Mb)).val) ∧
    after (exec (.ephQuery ((256 : Mb)) ((9 : Fin 64))) w_EphemerisCommandsComplete_7) (fun t => decide ((t.eph = w_EphemerisCommandsComplete_7.eph) ∧ (t.skeins = w_EphemerisCommandsComplete_7.skeins) ∧ (Done t ((256 : Mb)) ((9 : Fin 64)) (cmdOf w_EphemerisCommandsComplete_7 ((256 : Mb)) ((9 : Fin 64))) 0 (match (w_EphemerisCommandsComplete_7.ephE 5).st with | .applied => 1 | .aborted => 2 | .cancelled => 3 | _ => 0) (match (w_EphemerisCommandsComplete_7.ephE 5).st with | .applied => (w_EphemerisCommandsComplete_7.ephE 5).endedAt | .aborted => (w_EphemerisCommandsComplete_7.ephE 5).endedAt | .cancelled => (w_EphemerisCommandsComplete_7.ephE 5).endedAt | _ => 0)))) = true := by decide +kernel

theorem test_EphemerisCommandsComplete_8 :
    (Ready (withCmd unitA 256 9 0x312 [5, 0, 0, 0]) ((256 : Mb)) ((9 : Fin 64)) 0x312) ∧
    ((withCmd unitA 256 9 0x312 [5, 0, 0, 0]).entryOf (u32 (payloadOf (withCmd unitA 256 9 0x312 [5, 0, 0, 0]) ((256 : Mb)) ((9 : Fin 64))) 0) = none) ∧
    (Tail (withCmd unitA 256 9 0x312 [5, 0, 0, 0]) ((256 : Mb)) ((9 : Fin 64))) ∧
    after (exec (.ephQuery ((256 : Mb)) ((9 : Fin 64))) (withCmd unitA 256 9 0x312 [5, 0, 0, 0])) (fun t => decide ((t.eph = (withCmd unitA 256 9 0x312 [5, 0, 0, 0]).eph) ∧ (Done t ((256 : Mb)) ((9 : Fin 64)) (cmdOf (withCmd unitA 256 9 0x312 [5, 0, 0, 0]) ((256 : Mb)) ((9 : Fin 64))) 5 0 0))) = true := by decide +kernel

def w_PortTrainsAndRetrains_1 : State :=
    ((unitA.setF (PORT_CTRL_en 3) 1).updPort 3 (fun x => { x with echoes := List.replicate 16 (288, 1600) })).setF (SLOT_STATE_state 3) 3

theorem test_PortTrainsAndRetrains_1 :
    (Runs w_PortTrainsAndRetrains_1) ∧
    (w_PortTrainsAndRetrains_1.mayTrain ((3 : Fin 64)) = true) ∧
    (16 ≤ (w_PortTrainsAndRetrains_1.port ((3 : Fin 64))).echoes.length) ∧
    ((w_PortTrainsAndRetrains_1.port ((3 : Fin 64))).sleepTrain = false) ∧
    (pickLanes ((0xF7 : BitVec 8)) (w_PortTrainsAndRetrains_1.portCap ((3 : Fin 64))) = some (4, ((0xF0 : BitVec 8)))) ∧
    (flightNs (w_PortTrainsAndRetrains_1.port ((3 : Fin 64))).echoes (·.1) = 18) ∧
    (flightNs (w_PortTrainsAndRetrains_1.port ((3 : Fin 64))).echoes (·.2) = 100) ∧
    (18 ≤ 100) ∧
    (100 ≤ 100) ∧
    (w_PortTrainsAndRetrains_1.slSt ((3 : Fin 64)) ≠ 0) ∧
    (w_PortTrainsAndRetrains_1.slSt ((3 : Fin 64)) ≠ 6) ∧
    after (exec (.portTrainComplete ((3 : Fin 64)) ((0xF7 : BitVec 8))) w_PortTrainsAndRetrains_1) (fun t => decide ((t.get (PORT_STATUS_link_state ((3 : Fin 64))) = 3) ∧ (t.get (PORT_STATUS_width ((3 : Fin 64))) = 4) ∧ (t.get (PORT_STATUS_lanes_ok ((3 : Fin 64))) = ((0xF7 : BitVec 8)).toNat) ∧ (t.get (PORT_FLIGHT_up_ns ((3 : Fin 64))) = 18) ∧ (t.get (PORT_FLIGHT_down_ns ((3 : Fin 64))) = 100) ∧ ((t.port ((3 : Fin 64))).laneSet = ((0xF0 : BitVec 8))) ∧ ((t.port ((3 : Fin 64))).rel = {}) ∧ ((t.port ((3 : Fin 64))).attempts = 0))) = true := by decide +kernel

def w_PortTrainsAndRetrains_2 : State :=
    ((((unitA.setF (PORT_CTRL_en 3) 1).updPort 3 (fun x => { x with echoes := List.replicate 16 (288, 1600) })).setF (SLOT_STATE_state 3) 6).setF (PORT_CTRL_sleep_en 3) 1).updSlot 3 (fun x => { x with adopted := true })

theorem test_PortTrainsAndRetrains_2 :
    (Runs w_PortTrainsAndRetrains_2) ∧
    (w_PortTrainsAndRetrains_2.mayTrain ((3 : Fin 64)) = true) ∧
    (16 ≤ (w_PortTrainsAndRetrains_2.port ((3 : Fin 64))).echoes.length) ∧
    (pickLanes (if (w_PortTrainsAndRetrains_2.port ((3 : Fin 64))).sleepTrain then ((0x01 : BitVec 8)) &&& 1 else ((0x01 : BitVec 8))) (w_PortTrainsAndRetrains_2.portCap ((3 : Fin 64))) = some (1, ((0x01 : BitVec 8)))) ∧
    (flightNs (w_PortTrainsAndRetrains_2.port ((3 : Fin 64))).echoes (·.1) ≤ 100) ∧
    (flightNs (w_PortTrainsAndRetrains_2.port ((3 : Fin 64))).echoes (·.2) ≤ 100) ∧
    (w_PortTrainsAndRetrains_2.slSt ((3 : Fin 64)) = 0 ∨ w_PortTrainsAndRetrains_2.slSt ((3 : Fin 64)) = 6) ∧
    ((w_PortTrainsAndRetrains_2.slot ((3 : Fin 64))).adopted = true) ∧
    (w_PortTrainsAndRetrains_2.is (PORT_CTRL_sleep_en ((3 : Fin 64))) = true) ∧
    after (exec (.portTrainComplete ((3 : Fin 64)) ((0x01 : BitVec 8))) w_PortTrainsAndRetrains_2) (fun t => decide ((t.get (PORT_STATUS_link_state ((3 : Fin 64))) = 4) ∧ ((t.port ((3 : Fin 64))).rendezvousAt = w_PortTrainsAndRetrains_2.ct + sec 1) ∧ (t.get (PORT_SLEEP_guard_us ((3 : Fin 64))) = 50) ∧ (t.slSt ((3 : Fin 64)) = w_PortTrainsAndRetrains_2.slSt ((3 : Fin 64))))) = true := by decide +kernel

def w_PortTrainsAndRetrains_3 : State :=
    (unitA.setF (PORT_CTRL_en 3) 1).updPort 3 (fun x => { x with echoes := List.replicate 16 (288, 1600) })

theorem test_PortTrainsAndRetrains_3 :
    (Runs w_PortTrainsAndRetrains_3) ∧
    (w_PortTrainsAndRetrains_3.mayTrain ((3 : Fin 64)) = true) ∧
    (16 ≤ (w_PortTrainsAndRetrains_3.port ((3 : Fin 64))).echoes.length) ∧
    ((w_PortTrainsAndRetrains_3.port ((3 : Fin 64))).sleepTrain = false) ∧
    (pickLanes ((0x00 : BitVec 8)) (w_PortTrainsAndRetrains_3.portCap ((3 : Fin 64))) = none) ∧
    ((w_PortTrainsAndRetrains_3.port ((3 : Fin 64))).attempts < 2) ∧
    (NoRung w_PortTrainsAndRetrains_3) ∧
    after (exec (.portTrainComplete ((3 : Fin 64)) ((0x00 : BitVec 8))) w_PortTrainsAndRetrains_3) (fun t => decide ((t.get (PORT_STATUS_link_state ((3 : Fin 64))) = 1) ∧ ((t.port ((3 : Fin 64))).attempts = (w_PortTrainsAndRetrains_3.port ((3 : Fin 64))).attempts + 1) ∧ ((t.port ((3 : Fin 64))).echoes = []) ∧ (Counted w_PortTrainsAndRetrains_3 t (PORT_CNT_RETRAIN_v ((3 : Fin 64)))) ∧ (t.mem = w_PortTrainsAndRetrains_3.mem))) = true := by decide +kernel

def w_PortTrainsAndRetrains_4 : State :=
    (unitA.setF (PORT_CTRL_en 3) 1).updPort 3 (fun x => { x with echoes := List.replicate 16 (288, 1616) })

theorem test_PortTrainsAndRetrains_4 :
    (Runs w_PortTrainsAndRetrains_4) ∧
    (w_PortTrainsAndRetrains_4.mayTrain ((3 : Fin 64)) = true) ∧
    (16 ≤ (w_PortTrainsAndRetrains_4.port ((3 : Fin 64))).echoes.length) ∧
    (pickLanes (if (w_PortTrainsAndRetrains_4.port ((3 : Fin 64))).sleepTrain then ((0xFF : BitVec 8)) &&& 1 else ((0xFF : BitVec 8))) (w_PortTrainsAndRetrains_4.portCap ((3 : Fin 64))) = some (8, ((0xFF : BitVec 8)))) ∧
    (100 < flightNs (w_PortTrainsAndRetrains_4.port ((3 : Fin 64))).echoes (·.1) ∨ 100 < flightNs (w_PortTrainsAndRetrains_4.port ((3 : Fin 64))).echoes (·.2)) ∧
    (MayRaise w_PortTrainsAndRetrains_4 .portFlight ((3 : Fin 64))) ∧
    ((w_PortTrainsAndRetrains_4.port ((3 : Fin 64))).attempts < 2) ∧
    after (exec (.portTrainComplete ((3 : Fin 64)) ((0xFF : BitVec 8))) w_PortTrainsAndRetrains_4) (fun t => decide ((t.get (PORT_STATUS_link_state ((3 : Fin 64))) = 1) ∧ (t.get (PORT_FLIGHT_up_ns ((3 : Fin 64))) = Nat.min (flightNs (w_PortTrainsAndRetrains_4.port ((3 : Fin 64))).echoes (·.1)) 255) ∧ (t.get (PORT_FLIGHT_down_ns ((3 : Fin 64))) = Nat.min (flightNs (w_PortTrainsAndRetrains_4.port ((3 : Fin 64))).echoes (·.2)) 255) ∧ (t.raised .portFlight ((3 : Fin 64)) = true) ∧ ((t.port ((3 : Fin 64))).attempts = (w_PortTrainsAndRetrains_4.port ((3 : Fin 64))).attempts + 1))) = true := by decide +kernel

theorem test_PortTrainsAndRetrains_5 :
    ((unitA.port ((3 : Fin 64))).echoes.length < 16 ∨ unitA.mayTrain ((3 : Fin 64)) = false) ∧
    after (exec (.portTrainComplete ((3 : Fin 64)) ((0xFF : BitVec 8))) unitA) (fun t => decide ((t = unitA))) = true := by decide +kernel

theorem test_PortTrainsAndRetrains_6 :
    (Runs ((unitA.setF (PORT_CTRL_en 3) 1))) ∧
    (((unitA.setF (PORT_CTRL_en 3) 1)).mayTrain ((3 : Fin 64)) = true) ∧
    ((((unitA.setF (PORT_CTRL_en 3) 1)).port ((3 : Fin 64))).attempts < 2) ∧
    (NoRung ((unitA.setF (PORT_CTRL_en 3) 1))) ∧
    after (exec (.portTrainFail ((3 : Fin 64)) ((2 : Fin 7))) ((unitA.setF (PORT_CTRL_en 3) 1))) (fun t => decide ((t.get (PORT_STATUS_link_state ((3 : Fin 64))) = 1) ∧ ((t.port ((3 : Fin 64))).attempts = (((unitA.setF (PORT_CTRL_en 3) 1)).port ((3 : Fin 64))).attempts + 1) ∧ (Counted ((unitA.setF (PORT_CTRL_en 3) 1)) t (PORT_CNT_RETRAIN_v ((3 : Fin 64)))) ∧ (t.mem = ((unitA.setF (PORT_CTRL_en 3) 1)).mem))) = true := by decide +kernel

def w_PortTrainsAndRetrains_7 : State :=
    (unitA.setF (PORT_CTRL_en 3) 1).updPort 3 (fun x => { x with attempts := 2 })

theorem test_PortTrainsAndRetrains_7 :
    (Runs w_PortTrainsAndRetrains_7) ∧
    (w_PortTrainsAndRetrains_7.mayTrain ((3 : Fin 64)) = true) ∧
    (2 ≤ (w_PortTrainsAndRetrains_7.port ((3 : Fin 64))).attempts) ∧
    ((w_PortTrainsAndRetrains_7.port ((3 : Fin 64))).sleepTrain = false) ∧
    (MayRaise w_PortTrainsAndRetrains_7 .portTrain ((3 : Fin 64))) ∧
    after (exec (.portTrainFail ((3 : Fin 64)) ((0 : Fin 7))) w_PortTrainsAndRetrains_7) (fun t => decide (((t.port ((3 : Fin 64))).retryAt = some (w_PortTrainsAndRetrains_7.ct + ms 100)) ∧ (t.raised .portTrain ((3 : Fin 64)) = true) ∧ (t.get (PORT_STATUS_link_state ((3 : Fin 64))) = 1))) = true := by decide +kernel

def w_PortTrainsAndRetrains_8 : State :=
    { (unitA.setF (PORT_CTRL_en 3) 1).updPort 3 (fun x => { x with retryAt := some 7 }) with ct := 7 }

theorem test_PortTrainsAndRetrains_8 :
    ((w_PortTrainsAndRetrains_8.port ((3 : Fin 64))).retryAt = some 7) ∧
    (7 ≤ w_PortTrainsAndRetrains_8.ct) ∧
    (w_PortTrainsAndRetrains_8.is (PORT_CTRL_en ((3 : Fin 64))) = true) ∧
    after (exec (.portTrainRetry ((3 : Fin 64))) w_PortTrainsAndRetrains_8) (fun t => decide ((t.get (PORT_STATUS_link_state ((3 : Fin 64))) = 1) ∧ ((t.port ((3 : Fin 64))).retryAt = none) ∧ ((t.port ((3 : Fin 64))).attempts = 0) ∧ (Counted w_PortTrainsAndRetrains_8 t (PORT_CNT_RETRAIN_v ((3 : Fin 64)))) ∧ (t.mem = w_PortTrainsAndRetrains_8.mem))) = true := by decide +kernel

theorem test_PortTrainsAndRetrains_9 :
    (Runs (unitA.setF (PORT_STATUS_link_state 3) 3)) ∧
    (NoRung (unitA.setF (PORT_STATUS_link_state 3) 3)) ∧
    ((unitA.setF (PORT_STATUS_link_state 3) 3).hwTouched = []) ∧
    (((3 : Word)).bit 0 = true) ∧
    (((3 : Word)).bit 1 = true) ∧
    after (exec (.portRetrain ((3 : Fin 64)) ((3 : Word))) (unitA.setF (PORT_STATUS_link_state 3) 3)) (fun t => decide ((t.get (PORT_STATUS_link_state ((3 : Fin 64))) = 1) ∧ (t.get (PORT_STATUS_width ((3 : Fin 64))) = 0) ∧ ((t.port ((3 : Fin 64))).rel.unacked = []) ∧ (t.mem = (unitA.setF (PORT_STATUS_link_state 3) 3).mem))) = true := by decide +kernel

def w_LanesDropAndRejoin_1 : State :=
    ((unitA.setF (PORT_STATUS_link_state 3) 3).setF (PORT_STATUS_lanes_ok 3) 255).updPort 3 (fun x => { x with laneSet := 255 })

theorem test_LanesDropAndRejoin_1 :
    (w_LanesDropAndRejoin_1.get (PORT_STATUS_link_state ((3 : Fin 64))) = 3) ∧
    ((w_LanesDropAndRejoin_1.get (PORT_STATUS_lanes_ok ((3 : Fin 64)))).testBit ((7 : Fin 8)) = true) ∧
    ((w_LanesDropAndRejoin_1.port ((3 : Fin 64))).laneSet.getLsbD ((7 : Fin 8)) = true) ∧
    (NoRung w_LanesDropAndRejoin_1) ∧
    (pickLanes (BitVec.ofNat 8 (w_LanesDropAndRejoin_1.get (PORT_STATUS_lanes_ok ((3 : Fin 64)))) &&& ~~~(BitVec.ofNat 8 (2 ^ ((7 : Fin 8)).val))) (w_LanesDropAndRejoin_1.portCap ((3 : Fin 64))) = some (4, ((0x0F : BitVec 8)))) ∧
    after (exec (.laneFail ((3 : Fin 64)) ((7 : Fin 8))) w_LanesDropAndRejoin_1) (fun t => decide (((t.port ((3 : Fin 64))).wchg = some (((0x0F : BitVec 8)), frameAt w_LanesDropAndRejoin_1.ct + 16, w_LanesDropAndRejoin_1.ct, false)) ∧ (t.out = w_LanesDropAndRejoin_1.out ++ [.widthSet ((3 : Fin 64)) ((0x0F : BitVec 8)) (frameAt w_LanesDropAndRejoin_1.ct + 16)]) ∧ (t.get (PORT_STATUS_width ((3 : Fin 64))) = w_LanesDropAndRejoin_1.get (PORT_STATUS_width ((3 : Fin 64)))) ∧ ((t.get (PORT_STATUS_lanes_ok ((3 : Fin 64)))).testBit ((7 : Fin 8)) = false) ∧ (t.mem = w_LanesDropAndRejoin_1.mem))) = true := by decide +kernel

def w_LanesDropAndRejoin_2 : State :=
    (((unitA.setF (PORT_STATUS_link_state 3) 3).setF (PORT_STATUS_lanes_ok 3) 1).setF (PORT_CTRL_en 3) 1).updPort 3 (fun x => { x with laneSet := 1 })

theorem test_LanesDropAndRejoin_2 :
    (w_LanesDropAndRejoin_2.get (PORT_STATUS_link_state ((3 : Fin 64))) = 3) ∧
    ((w_LanesDropAndRejoin_2.get (PORT_STATUS_lanes_ok ((3 : Fin 64)))).testBit ((0 : Fin 8)) = true) ∧
    ((w_LanesDropAndRejoin_2.port ((3 : Fin 64))).laneSet.getLsbD ((0 : Fin 8)) = true) ∧
    (NoRung w_LanesDropAndRejoin_2) ∧
    (w_LanesDropAndRejoin_2.is (PORT_CTRL_en ((3 : Fin 64))) = true) ∧
    (pickLanes (BitVec.ofNat 8 (w_LanesDropAndRejoin_2.get (PORT_STATUS_lanes_ok ((3 : Fin 64)))) &&& ~~~(BitVec.ofNat 8 (2 ^ ((0 : Fin 8)).val))) (w_LanesDropAndRejoin_2.portCap ((3 : Fin 64))) = none) ∧
    after (exec (.laneFail ((3 : Fin 64)) ((0 : Fin 8))) w_LanesDropAndRejoin_2) (fun t => decide ((t.get (PORT_STATUS_link_state ((3 : Fin 64))) = 1) ∧ (t.get (PORT_STATUS_width ((3 : Fin 64))) = 0) ∧ (Counted w_LanesDropAndRejoin_2 t (PORT_CNT_RETRAIN_v ((3 : Fin 64)))))) = true := by decide +kernel

def w_LanesDropAndRejoin_3 : State :=
    (unitA.setF (PORT_STATUS_link_state 3) 3).updPort 3 (fun x => { x with wchg := some (15, 20, 9, false) })

theorem test_LanesDropAndRejoin_3 :
    (Runs w_LanesDropAndRejoin_3) ∧
    (w_LanesDropAndRejoin_3.faults.inject = none) ∧
    (w_LanesDropAndRejoin_3.get (PORT_STATUS_link_state ((3 : Fin 64))) = 3) ∧
    ((w_LanesDropAndRejoin_3.port ((3 : Fin 64))).wchg = some (((15 : BitVec 8)), 20, 9, false)) ∧
    after (exec (.widthChangeRx ((3 : Fin 64)) ((15 : BitVec 8)) 20) w_LanesDropAndRejoin_3) (fun t => decide (((t.port ((3 : Fin 64))).wchg = some (((15 : BitVec 8)), 20, 9, true)) ∧ (t.regs = w_LanesDropAndRejoin_3.regs) ∧ (t.mem = w_LanesDropAndRejoin_3.mem))) = true := by decide +kernel

def w_LanesDropAndRejoin_4 : State :=
    (unitA.setF (PORT_STATUS_link_state 3) 3).updPort 3 (fun x => { x with wchg := some (15, 20, 9, false) })

theorem test_LanesDropAndRejoin_4 :
    (w_LanesDropAndRejoin_4.faults.inject = none) ∧
    ((w_LanesDropAndRejoin_4.port ((3 : Fin 64))).wchg = some (((15 : BitVec 8)), 20, 9, false)) ∧
    (((3 : BitVec 8)) ≠ ((15 : BitVec 8)) ∨ 20 ≠ 20) ∧
    after (exec (.widthChangeRx ((3 : Fin 64)) ((3 : BitVec 8)) 20) w_LanesDropAndRejoin_4) (fun t => decide ((t = w_LanesDropAndRejoin_4))) = true := by decide +kernel

theorem test_LanesDropAndRejoin_5 :
    (Runs (unitA.setF (PORT_STATUS_link_state 3) 3)) ∧
    ((unitA.setF (PORT_STATUS_link_state 3) 3).faults.inject = none) ∧
    ((unitA.setF (PORT_STATUS_link_state 3) 3).get (PORT_STATUS_link_state ((3 : Fin 64))) = 3) ∧
    (((unitA.setF (PORT_STATUS_link_state 3) 3).port ((3 : Fin 64))).wchg = none) ∧
    (laneSets.any (fun x => x.2 == ((15 : BitVec 8))) = true) ∧
    after (exec (.widthChangeRx ((3 : Fin 64)) ((15 : BitVec 8)) 20) (unitA.setF (PORT_STATUS_link_state 3) 3)) (fun t => decide (((t.port ((3 : Fin 64))).wchg = some (((15 : BitVec 8)), 20, (unitA.setF (PORT_STATUS_link_state 3) 3).ct, true)) ∧ (t.out = (unitA.setF (PORT_STATUS_link_state 3) 3).out ++ [.widthSet ((3 : Fin 64)) ((15 : BitVec 8)) 20]) ∧ (t.regs = (unitA.setF (PORT_STATUS_link_state 3) 3).regs) ∧ (t.mem = (unitA.setF (PORT_STATUS_link_state 3) 3).mem))) = true := by decide +kernel

def w_LanesDropAndRejoin_6 : State :=
    { (unitA.setF (PORT_CTRL_en 3) 1).updPort 3 (fun x => { x with wchg := some (15, 20, 0, false) }) with ct := 600 }

theorem test_LanesDropAndRejoin_6 :
    ((w_LanesDropAndRejoin_6.port ((3 : Fin 64))).wchg = some (((15 : BitVec 8)), 20, 0, false)) ∧
    (0 * 1000 + 8 * 65536 ≤ w_LanesDropAndRejoin_6.ct * 1000) ∧
    (w_LanesDropAndRejoin_6.is (PORT_CTRL_en ((3 : Fin 64))) = true) ∧
    (NoRung w_LanesDropAndRejoin_6) ∧
    after (exec (.widthChangeTimeout ((3 : Fin 64))) w_LanesDropAndRejoin_6) (fun t => decide ((t.get (PORT_STATUS_link_state ((3 : Fin 64))) = 1) ∧ ((t.port ((3 : Fin 64))).wchg = none))) = true := by decide +kernel

def w_LanesDropAndRejoin_7 : State :=
    { (unitA.setF (PORT_STATUS_width 3) 8).updPort 3 (fun x => { x with wchg := some (15, 0, 0, true) }) with ct := 600 }

theorem test_LanesDropAndRejoin_7 :
    ((w_LanesDropAndRejoin_7.port ((3 : Fin 64))).wchg = some (((15 : BitVec 8)), 0, 0, true)) ∧
    (0 ≤ frameAt w_LanesDropAndRejoin_7.ct) ∧
    (laneWidth ((15 : BitVec 8)) < w_LanesDropAndRejoin_7.get (PORT_STATUS_width ((3 : Fin 64))) ∨ (laneWidth ((15 : BitVec 8)) = w_LanesDropAndRejoin_7.get (PORT_STATUS_width ((3 : Fin 64))) ∧ ((15 : BitVec 8)) ≠ (w_LanesDropAndRejoin_7.port ((3 : Fin 64))).laneSet)) ∧
    (w_LanesDropAndRejoin_7.swTouched = []) ∧
    after (exec (.widthChangeApply ((3 : Fin 64))) w_LanesDropAndRejoin_7) (fun t => decide ((t.get (PORT_STATUS_width ((3 : Fin 64))) = laneWidth ((15 : BitVec 8))) ∧ ((t.port ((3 : Fin 64))).laneSet = ((15 : BitVec 8))) ∧ ((t.port ((3 : Fin 64))).wchg = none) ∧ (t.get (PORT_STATUS_lane_dropped ((3 : Fin 64))) = 1) ∧ (Counted w_LanesDropAndRejoin_7 t (PORT_CNT_LANE_DROP_v ((3 : Fin 64)))))) = true := by decide +kernel

def w_LanesDropAndRejoin_8 : State :=
    { (unitA.setF (PORT_STATUS_width 3) 2).updPort 3 (fun x => { x with wchg := some (15, 0, 0, true) }) with ct := 600 }

theorem test_LanesDropAndRejoin_8 :
    ((w_LanesDropAndRejoin_8.port ((3 : Fin 64))).wchg = some (((15 : BitVec 8)), 0, 0, true)) ∧
    (0 ≤ frameAt w_LanesDropAndRejoin_8.ct) ∧
    (w_LanesDropAndRejoin_8.get (PORT_STATUS_width ((3 : Fin 64))) < laneWidth ((15 : BitVec 8))) ∧
    after (exec (.widthChangeApply ((3 : Fin 64))) w_LanesDropAndRejoin_8) (fun t => decide ((t.get (PORT_STATUS_width ((3 : Fin 64))) = laneWidth ((15 : BitVec 8))) ∧ ((t.port ((3 : Fin 64))).laneSet = ((15 : BitVec 8))) ∧ ((t.port ((3 : Fin 64))).wchg = none) ∧ (t.get (PORT_STATUS_lane_dropped ((3 : Fin 64))) = w_LanesDropAndRejoin_8.get (PORT_STATUS_lane_dropped ((3 : Fin 64)))) ∧ ((w_LanesDropAndRejoin_8.port ((3 : Fin 64))).planWidth < laneWidth ((15 : BitVec 8)) → (t.port ((3 : Fin 64))).widerSince = some w_LanesDropAndRejoin_8.ct))) = true := by decide +kernel

def w_LanesDropAndRejoin_9 : State :=
    ((((unitA.setF (PORT_STATUS_link_state 3) 3).setF (PORT_STATUS_lanes_ok 3) 127).setF (PORT_STATUS_width 3) 4).setF (PORT_CTRL_rejoin_en 3) 1).updPort 3 (fun x => { x with laneSet := 15 })

theorem test_LanesDropAndRejoin_9 :
    (w_LanesDropAndRejoin_9.get (PORT_STATUS_link_state ((3 : Fin 64))) = 3) ∧
    (w_LanesDropAndRejoin_9.is (PORT_CTRL_rejoin_en ((3 : Fin 64))) = true) ∧
    ((w_LanesDropAndRejoin_9.port ((3 : Fin 64))).laneSet.getLsbD ((7 : Fin 8)) = false) ∧
    (pickLanes (BitVec.ofNat 8 (w_LanesDropAndRejoin_9.get (PORT_STATUS_lanes_ok ((3 : Fin 64)))) ||| BitVec.ofNat 8 (2 ^ ((7 : Fin 8)).val)) (w_LanesDropAndRejoin_9.portCap ((3 : Fin 64))) = some (8, ((0xFF : BitVec 8)))) ∧
    (w_LanesDropAndRejoin_9.get (PORT_STATUS_width ((3 : Fin 64))) < 8) ∧
    after (exec (.laneRejoin ((3 : Fin 64)) ((7 : Fin 8))) w_LanesDropAndRejoin_9) (fun t => decide (((t.port ((3 : Fin 64))).wchg = some (((0xFF : BitVec 8)), frameAt w_LanesDropAndRejoin_9.ct + 16, w_LanesDropAndRejoin_9.ct, false)) ∧ ((t.get (PORT_STATUS_lanes_ok ((3 : Fin 64)))).testBit ((7 : Fin 8)) = true) ∧ (t.mem = w_LanesDropAndRejoin_9.mem))) = true := by decide +kernel

def w_LanesDropAndRejoin_10 : State :=
    { unitA.updPort 3 (fun x => { x with widerSince := some 0 }) with ct := 1600000000 }

theorem test_LanesDropAndRejoin_10 :
    ((w_LanesDropAndRejoin_10.port ((3 : Fin 64))).widerSince = some 0) ∧
    (0 + sec 1 ≤ w_LanesDropAndRejoin_10.ct) ∧
    (w_LanesDropAndRejoin_10.ephRoom fwIssuer = true) ∧
    (w_LanesDropAndRejoin_10.ephFree 4096 (w_LanesDropAndRejoin_10.ephLast + 1) = some 0) ∧
    after (exec (.widerWidthTimer ((3 : Fin 64))) w_LanesDropAndRejoin_10) (fun t => decide (((t.port ((3 : Fin 64))).widerSince = none) ∧ ((t.ephE 0).st = .pending) ∧ ((t.ephE 0).issuer = fwIssuer) ∧ ((t.ephE 0).trig = .time (w_LanesDropAndRejoin_10.ct + ms 1)) ∧ ((t.ephE 0).acts.contains (.plan ((3 : Fin 64)) (w_LanesDropAndRejoin_10.get (PORT_STATUS_width ((3 : Fin 64))))) = true) ∧ (t.mem = w_LanesDropAndRejoin_10.mem))) = true := by decide +kernel

def w_LanesDropAndRejoin_11 : State :=
    unitA.setF (PORT_CNT_FEC_CORR_v 3) 0xFFFFFFFE

theorem test_LanesDropAndRejoin_11 :
    (Runs w_LanesDropAndRejoin_11) ∧
    (4 ≤ 4) ∧
    after (exec (.fecUncorrectable ((3 : Fin 64)) ((7 : Fin 8)) 4) w_LanesDropAndRejoin_11) (fun t => decide ((t.get (PORT_CNT_FEC_CORR_v ((3 : Fin 64))) = satCount 32 (w_LanesDropAndRejoin_11.get (PORT_CNT_FEC_CORR_v ((3 : Fin 64)))) 4) ∧ (t.ports = w_LanesDropAndRejoin_11.ports) ∧ (t.mem = w_LanesDropAndRejoin_11.mem))) = true := by decide +kernel

theorem test_LanesDropAndRejoin_12 :
    (Runs unitA) ∧
    (4 < 5) ∧
    (((unitA.port ((3 : Fin 64))).uncorr.filter (fun x => decide (unitA.ct < x.2 + us 100 ∧ x.1 = ((7 : Fin 8)).val))).length < 3) ∧
    after (exec (.fecUncorrectable ((3 : Fin 64)) ((7 : Fin 8)) 5) unitA) (fun t => decide ((Counted unitA t (PORT_CNT_FEC_UNCORR_v ((3 : Fin 64)))) ∧ ((t.port ((3 : Fin 64))).uncorr.contains (((7 : Fin 8)).val, unitA.ct) = true) ∧ (t.get (PORT_STATUS_lanes_ok ((3 : Fin 64))) = unitA.get (PORT_STATUS_lanes_ok ((3 : Fin 64)))) ∧ (t.mem = unitA.mem))) = true := by decide +kernel

def w_LanesDropAndRejoin_13 : State :=
    ((unitA.setF (PORT_STATUS_link_state 3) 3).setF (PORT_STATUS_lanes_ok 3) 255).updPort 3 (fun x => { x with laneSet := 255, uncorr := [(7, 0), (7, 0), (7, 0)] })

theorem test_LanesDropAndRejoin_13 :
    (Runs w_LanesDropAndRejoin_13) ∧
    (4 < 5) ∧
    (3 ≤ ((w_LanesDropAndRejoin_13.port ((3 : Fin 64))).uncorr.filter (fun x => decide (w_LanesDropAndRejoin_13.ct < x.2 + us 100 ∧ x.1 = ((7 : Fin 8)).val))).length) ∧
    (w_LanesDropAndRejoin_13.get (PORT_STATUS_link_state ((3 : Fin 64))) = 3) ∧
    (NoRung w_LanesDropAndRejoin_13) ∧
    after (exec (.fecUncorrectable ((3 : Fin 64)) ((7 : Fin 8)) 5) w_LanesDropAndRejoin_13) (fun t => decide ((Counted w_LanesDropAndRejoin_13 t (PORT_CNT_FEC_UNCORR_v ((3 : Fin 64)))) ∧ ((t.get (PORT_STATUS_lanes_ok ((3 : Fin 64)))).testBit ((7 : Fin 8)) = false))) = true := by decide +kernel

theorem test_CellsAreCheckedAndAcknowledged_1 :
    (Runs unitA) ∧
    (unitA.swTouched = []) ∧
    (cellCrc ((0 : BitVec 256)) ≠ ((0 : BitVec 256)).setWidth 16) ∧
    after (exec (.cellCrcFail (.port ((63 : Fin 64))) ((0 : BitVec 256))) unitA) (fun t => decide ((Counted unitA t (PORT_CNT_CRC_v ((63 : Fin 64)))) ∧ (t.stitches = unitA.stitches) ∧ (t.ports = unitA.ports) ∧ (t.mem = unitA.mem))) = true := by decide +kernel

theorem test_CellsAreCheckedAndAcknowledged_2 :
    (Runs unitA) ∧
    (unitA.swTouched = []) ∧
    (cellCrc ((0 : BitVec 256)) ≠ ((0 : BitVec 256)).setWidth 16) ∧
    after (exec (.cellCrcFail (.svc ((63 : Fin 64))) ((0 : BitVec 256))) unitA) (fun t => decide ((Counted unitA t (SVC_CNT_CRC_v ((63 : Fin 64)))) ∧ (t.svcs = unitA.svcs) ∧ (t.mem = unitA.mem))) = true := by decide +kernel

theorem test_CellsAreCheckedAndAcknowledged_3 :
    (cellCrc ((10821 : BitVec 256)) = ((10821 : BitVec 256)).setWidth 16) ∧
    after (exec (.cellCrcFail LinkId.partner ((10821 : BitVec 256))) unitA) (fun t => decide ((t = unitA))) = true := by decide +kernel

theorem test_CellsAreCheckedAndAcknowledged_4 :
    (Runs unitA) ∧
    (unitA.swTouched = []) ∧
    (unitA.faults.inject = none) ∧
    (reservedType (.port ((3 : Fin 64))) ((4 : BitVec 4)).toNat ((4 : BitVec 4)).toNat = true) ∧
    after (exec (.badTypeCellRx (.port ((3 : Fin 64))) ((4 : BitVec 4)) ((4 : BitVec 4))) unitA) (fun t => decide ((Counted unitA t (PORT_CNT_BAD_TYPE_v ((3 : Fin 64)))) ∧ (t.stitches = unitA.stitches) ∧ (t.ports = unitA.ports) ∧ (t.mem = unitA.mem))) = true := by decide +kernel

theorem test_CellsAreCheckedAndAcknowledged_5 :
    (unitA.faults.inject = none) ∧
    (reservedType (.port ((3 : Fin 64))) ((4 : BitVec 4)).toNat ((3 : BitVec 4)).toNat = false) ∧
    after (exec (.badTypeCellRx (.port ((3 : Fin 64))) ((4 : BitVec 4)) ((3 : BitVec 4))) unitA) (fun t => decide ((t = unitA))) = true := by decide +kernel

theorem test_CellsAreCheckedAndAcknowledged_6 :
    (Runs unitA) ∧
    (unitA.swTouched = []) ∧
    (unitA.faults.inject = none) ∧
    (((9 : BitVec 8)).toNat ≠ unitA.get (PORT_EPOCH_epoch ((3 : Fin 64)))) ∧
    after (exec (.staleEpochCellRx (.port ((3 : Fin 64))) ((9 : BitVec 8))) unitA) (fun t => decide ((Counted unitA t (PORT_CNT_STALE_v ((3 : Fin 64)))) ∧ (t.stitches = unitA.stitches) ∧ (t.ports = unitA.ports) ∧ (t.mem = unitA.mem))) = true := by decide +kernel

theorem test_CellsAreCheckedAndAcknowledged_7 :
    (Runs unitA) ∧
    (unitA.swTouched = []) ∧
    (((9 : BitVec 8)).toNat ≠ unitA.get (SVC_EPOCH_epoch ((3 : Fin 64)))) ∧
    after (exec (.staleEpochCellRx (.svc ((3 : Fin 64))) ((9 : BitVec 8))) unitA) (fun t => decide ((Counted unitA t (SVC_CNT_STALE_v ((3 : Fin 64)))) ∧ (t.svcs = unitA.svcs) ∧ (t.mem = unitA.mem))) = true := by decide +kernel

theorem test_CellsAreCheckedAndAcknowledged_8 :
    (unitA.faults.inject = none) ∧
    (((0 : BitVec 8)).toNat = unitA.get (PORT_EPOCH_epoch ((3 : Fin 64)))) ∧
    after (exec (.staleEpochCellRx (.port ((3 : Fin 64))) ((0 : BitVec 8))) unitA) (fun t => decide ((t = unitA))) = true := by decide +kernel

def w_CellsAreCheckedAndAcknowledged_9 : State :=
    unitA.updPort 3 (fun x => { x with rel := { unacked := [⟨4, 0, 0, 0, .transitReq⟩, ⟨5, 0, 0, 0, .transitReq⟩, ⟨7, 0, 0, 0, .transitReq⟩] } })

theorem test_CellsAreCheckedAndAcknowledged_9 :
    (Runs w_CellsAreCheckedAndAcknowledged_9) ∧
    (w_CellsAreCheckedAndAcknowledged_9.faults.inject = none) ∧
    ((w_CellsAreCheckedAndAcknowledged_9.port ((3 : Fin 64))).rel.backlog = []) ∧
    ((w_CellsAreCheckedAndAcknowledged_9.port ((3 : Fin 64))).rel.again = []) ∧
    ((w_CellsAreCheckedAndAcknowledged_9.port ((3 : Fin 64))).rel.unacked.all (fun c => decide (c.what = 0)) = true) ∧
    (((⟨false, true, 0⟩ : UpHdr)).owner.toNat = w_CellsAreCheckedAndAcknowledged_9.get (PORT_EPOCH_owner ((3 : Fin 64)))) ∧
    (w_CellsAreCheckedAndAcknowledged_9.is (PAIR_TERM_claim_pending ((3 : Fin 64))) = false) ∧
    (w_CellsAreCheckedAndAcknowledged_9.entering = []) ∧
    after (exec (.ackRx (.port ((3 : Fin 64))) ((⟨false, true, 0⟩ : UpHdr)) ((5 : BitVec 7)) ((0x20000000 : BitVec 31))) w_CellsAreCheckedAndAcknowledged_9) (fun t => decide (((t.port ((3 : Fin 64))).rel.unacked = (w_CellsAreCheckedAndAcknowledged_9.port ((3 : Fin 64))).rel.unacked.filter (fun c => !acked ((5 : BitVec 7)).toNat ((0x20000000 : BitVec 31)) c.seq)) ∧ ((t.port ((3 : Fin 64))).rel.xoff = ((⟨false, true, 0⟩ : UpHdr)).xoff) ∧ (t.regs = w_CellsAreCheckedAndAcknowledged_9.regs) ∧ (t.mem = w_CellsAreCheckedAndAcknowledged_9.mem))) = true := by decide +kernel

theorem test_CellsAreCheckedAndAcknowledged_10 :
    (Runs unitA) ∧
    (unitA.faults.inject = none) ∧
    (((⟨true, false, 0⟩ : UpHdr)).owner.toNat ≠ unitA.get (PORT_EPOCH_owner ((3 : Fin 64)))) ∧
    (unitA.swTouched = []) ∧
    ((unitA.port ((3 : Fin 64))).namedOther < 7) ∧
    after (exec (.ackRx (.port ((3 : Fin 64))) ((⟨true, false, 0⟩ : UpHdr)) ((5 : BitVec 7)) ((0x20000000 : BitVec 31))) unitA) (fun t => decide ((Counted unitA t (PORT_CNT_OWNER_v ((3 : Fin 64)))))) = true := by decide +kernel

def w_CellsAreCheckedAndAcknowledged_11 : State :=
    { unitA.updPort 3 (fun x => { x with rel := { unacked := [⟨4, 0, 6, 0, .event (.port 3) 5 0⟩] } }) with ct := 3200 }

theorem test_CellsAreCheckedAndAcknowledged_11 :
    ((w_CellsAreCheckedAndAcknowledged_11.port ((3 : Fin 64))).rel.unacked.find? (fun y => decide (y.seq = ((4 : BitVec 7)).toNat)) = some ((⟨4, 0, 6, 0, .event (.port 3) 5 0⟩ : RelCell))) ∧
    ((w_CellsAreCheckedAndAcknowledged_11.port ((3 : Fin 64))).rel.again = []) ∧
    ((w_CellsAreCheckedAndAcknowledged_11.port ((3 : Fin 64))).rel.backlog.all (fun x => decide (x.2.prio ≠ 1 ∧ x.2.prio ≠ 2 ∧ x.2.prio ≠ 3)) = true) ∧
    (w_CellsAreCheckedAndAcknowledged_11.slotFree (.port ((3 : Fin 64))) = true) ∧
    (((⟨4, 0, 6, 0, .event (.port 3) 5 0⟩ : RelCell)).cell.cell.any (fun k => decide (k.link = .port ((3 : Fin 64)))) = true) ∧
    (((⟨4, 0, 6, 0, .event (.port 3) 5 0⟩ : RelCell)).sentAt + us 2 ≤ w_CellsAreCheckedAndAcknowledged_11.ct) ∧
    (((⟨4, 0, 6, 0, .event (.port 3) 5 0⟩ : RelCell)).tries < 7) ∧
    (w_CellsAreCheckedAndAcknowledged_11.swTouched = []) ∧
    after (exec (.reliableRetxTimeout (.port ((3 : Fin 64))) ((4 : BitVec 7))) w_CellsAreCheckedAndAcknowledged_11) (fun t => decide ((Counted w_CellsAreCheckedAndAcknowledged_11 t (PORT_CNT_RETX_v ((3 : Fin 64)))) ∧ (t.out.contains (w_CellsAreCheckedAndAcknowledged_11.stamp ((⟨4, 0, 6, 0, .event (.port 3) 5 0⟩ : RelCell)).cell) = true) ∧ (t.hdrs.any (fun h => h.retx && decide (h.seq = ((⟨4, 0, 6, 0, .event (.port 3) 5 0⟩ : RelCell)).seq ∧ h.link = .port ((3 : Fin 64)))) = true) ∧ ((t.port ((3 : Fin 64))).rel.unacked.any (fun d => decide (d.seq = ((⟨4, 0, 6, 0, .event (.port 3) 5 0⟩ : RelCell)).seq ∧ d.sentAt = w_CellsAreCheckedAndAcknowledged_11.ct ∧ d.tries = ((⟨4, 0, 6, 0, .event (.port 3) 5 0⟩ : RelCell)).tries + 1)) = true) ∧ (t.mem = w_CellsAreCheckedAndAcknowledged_11.mem))) = true := by decide +kernel

def w_CellsAreCheckedAndAcknowledged_12 : State :=
    { (unitA.setF (PORT_CTRL_en 3) 1).updPort 3 (fun x => { x with rel := { unacked := [⟨4, 0, 7, 0, .event (.port 3) 5 0⟩] } }) with ct := 3200 }

theorem test_CellsAreCheckedAndAcknowledged_12 :
    ((w_CellsAreCheckedAndAcknowledged_12.port ((3 : Fin 64))).rel.unacked.find? (fun y => decide (y.seq = ((4 : BitVec 7)).toNat)) = some ((⟨4, 0, 7, 0, .event (.port 3) 5 0⟩ : RelCell))) ∧
    ((w_CellsAreCheckedAndAcknowledged_12.port ((3 : Fin 64))).rel.again = []) ∧
    (((⟨4, 0, 7, 0, .event (.port 3) 5 0⟩ : RelCell)).sentAt + us 2 ≤ w_CellsAreCheckedAndAcknowledged_12.ct) ∧
    (7 ≤ ((⟨4, 0, 7, 0, .event (.port 3) 5 0⟩ : RelCell)).tries) ∧
    (MayRaise w_CellsAreCheckedAndAcknowledged_12 .portRetry ((3 : Fin 64))) ∧
    (w_CellsAreCheckedAndAcknowledged_12.is (PORT_CTRL_en ((3 : Fin 64))) = true) ∧
    after (exec (.reliableRetxTimeout (.port ((3 : Fin 64))) ((4 : BitVec 7))) w_CellsAreCheckedAndAcknowledged_12) (fun t => decide ((t.raised .portRetry ((3 : Fin 64)) = true) ∧ (t.get (PORT_STATUS_link_state ((3 : Fin 64))) = 1) ∧ ((t.port ((3 : Fin 64))).rel = {}))) = true := by decide +kernel

def w_CellsAreCheckedAndAcknowledged_13 : State :=
    unitA.updSvc 3 (fun x => { x with rel := { rxNext := 127 } })

theorem test_CellsAreCheckedAndAcknowledged_13 :
    (InOrder w_CellsAreCheckedAndAcknowledged_13 (.svc ((3 : Fin 64))) ((⟨false, false, 127⟩ : UpHdr))) ∧
    (NoRung w_CellsAreCheckedAndAcknowledged_13) ∧
    ((w_CellsAreCheckedAndAcknowledged_13.svc ((3 : Fin 64))).rel.rxData = []) ∧
    (8 ≤ (([1, 2, 3, 4, 5, 6, 7, 8] : List Byte)).length) ∧
    after (exec (.bulkCellRx (.svc ((3 : Fin 64))) ((⟨false, false, 127⟩ : UpHdr)) true 3 ((0 : BitVec 16)) (([1, 2, 3, 4, 5, 6, 7, 8] : List Byte))) w_CellsAreCheckedAndAcknowledged_13) (fun t => decide (((t.slot ((3 : Fin 64))).haveDesc = true) ∧ ((t.slot ((3 : Fin 64))).iLsb = u16 (([1, 2, 3, 4, 5, 6, 7, 8] : List Byte)) 0) ∧ ((t.slot ((3 : Fin 64))).vLsb = u16 (([1, 2, 3, 4, 5, 6, 7, 8] : List Byte)) 2) ∧ ((t.slot ((3 : Fin 64))).iZero = u16 (([1, 2, 3, 4, 5, 6, 7, 8] : List Byte)) 4) ∧ ((t.slot ((3 : Fin 64))).tripMaxA = u16 (([1, 2, 3, 4, 5, 6, 7, 8] : List Byte)) 6) ∧ ((t.svc ((3 : Fin 64))).rel.rxNext = (((⟨false, false, 127⟩ : UpHdr)).seq.toNat + 1) % 128) ∧ (t.regs = w_CellsAreCheckedAndAcknowledged_13.regs) ∧ (t.mem = w_CellsAreCheckedAndAcknowledged_13.mem))) = true := by decide +kernel

def w_CellsAreCheckedAndAcknowledged_14 : State :=
    unitA.updPort 3 (fun x => { x with rel := { rxNext := 4 } })

theorem test_CellsAreCheckedAndAcknowledged_14 :
    (Plain w_CellsAreCheckedAndAcknowledged_14 (.port ((3 : Fin 64))) ((⟨false, false, 5⟩ : UpHdr))) ∧
    (NoRung w_CellsAreCheckedAndAcknowledged_14) ∧
    (((((⟨false, false, 5⟩ : UpHdr)).seq.toNat + 128 - (w_CellsAreCheckedAndAcknowledged_14.port ((3 : Fin 64))).rel.rxNext % 128) % 128) ≠ 0) ∧
    (((((⟨false, false, 5⟩ : UpHdr)).seq.toNat + 128 - (w_CellsAreCheckedAndAcknowledged_14.port ((3 : Fin 64))).rel.rxNext % 128) % 128) < 32) ∧
    ((w_CellsAreCheckedAndAcknowledged_14.port ((3 : Fin 64))).rel.rxHeld = []) ∧
    after (exec (.bulkCellRx (.port ((3 : Fin 64))) ((⟨false, false, 5⟩ : UpHdr)) true ((1 : BitVec 8)) ((0 : BitVec 16)) (([1] : List Byte))) w_CellsAreCheckedAndAcknowledged_14) (fun t => decide (((t.port ((3 : Fin 64))).rel.rxHeld = [(((⟨false, false, 5⟩ : UpHdr)).seq.toNat, .bulkCellRx (.port ((3 : Fin 64))) ((⟨false, false, 5⟩ : UpHdr)) true ((1 : BitVec 8)) ((0 : BitVec 16)) (([1] : List Byte)))]) ∧ ((t.port ((3 : Fin 64))).rel.rxNext = (w_CellsAreCheckedAndAcknowledged_14.port ((3 : Fin 64))).rel.rxNext) ∧ ((t.port ((3 : Fin 64))).rel.rxData = (w_CellsAreCheckedAndAcknowledged_14.port ((3 : Fin 64))).rel.rxData) ∧ (t.stitches = w_CellsAreCheckedAndAcknowledged_14.stitches) ∧ (t.regs = w_CellsAreCheckedAndAcknowledged_14.regs) ∧ (t.mem = w_CellsAreCheckedAndAcknowledged_14.mem))) = true := by decide +kernel

def w_CellsAreCheckedAndAcknowledged_15 : State :=
    unitA.updPort 3 (fun x => { x with rel := { rxNext := 5 } })

theorem test_CellsAreCheckedAndAcknowledged_15 :
    (Plain w_CellsAreCheckedAndAcknowledged_15 (.port ((3 : Fin 64))) ((⟨false, false, 4⟩ : UpHdr))) ∧
    (NoRung w_CellsAreCheckedAndAcknowledged_15) ∧
    (32 ≤ ((((⟨false, false, 4⟩ : UpHdr)).seq.toNat + 128 - (w_CellsAreCheckedAndAcknowledged_15.port ((3 : Fin 64))).rel.rxNext % 128) % 128)) ∧
    after (exec (.bulkCellRx (.port ((3 : Fin 64))) ((⟨false, false, 4⟩ : UpHdr)) true ((1 : BitVec 8)) ((0 : BitVec 16)) (([1] : List Byte))) w_CellsAreCheckedAndAcknowledged_15) (fun t => decide (((t.port ((3 : Fin 64))).rel.rxHeld = (w_CellsAreCheckedAndAcknowledged_15.port ((3 : Fin 64))).rel.rxHeld) ∧ ((t.port ((3 : Fin 64))).rel.rxNext = (w_CellsAreCheckedAndAcknowledged_15.port ((3 : Fin 64))).rel.rxNext) ∧ ((t.port ((3 : Fin 64))).rel.rxData = (w_CellsAreCheckedAndAcknowledged_15.port ((3 : Fin 64))).rel.rxData) ∧ (t.stitches = w_CellsAreCheckedAndAcknowledged_15.stitches) ∧ (t.slots = w_CellsAreCheckedAndAcknowledged_15.slots) ∧ (t.regs = w_CellsAreCheckedAndAcknowledged_15.regs) ∧ (t.mem = w_CellsAreCheckedAndAcknowledged_15.mem))) = true := by decide +kernel

def w_TimeEpochsAndServiceLanes_1 : State :=
    { (unitA.setF (PORT_STATUS_link_state 3) 3).updPort 3 (fun x => { x with epochNext := some (9, 77777), timeAt := some 0 }) with ct := 102400 }

theorem test_TimeEpochsAndServiceLanes_1 :
    (w_TimeEpochsAndServiceLanes_1.get (PORT_STATUS_link_state ((3 : Fin 64))) = 3) ∧
    (w_TimeEpochsAndServiceLanes_1.unit ≠ 0) ∧
    (w_TimeEpochsAndServiceLanes_1.pair.outputsOff = false) ∧
    ((w_TimeEpochsAndServiceLanes_1.port ((3 : Fin 64))).timeAt.all (fun w => decide (w + us 1 ≤ w_TimeEpochsAndServiceLanes_1.ct)) = true) ∧
    (w_TimeEpochsAndServiceLanes_1.slotFree (.port ((3 : Fin 64))) = true) ∧
    ((w_TimeEpochsAndServiceLanes_1.port ((3 : Fin 64))).rel.backlog.all (fun x => decide (x.2.prio ≠ 1 ∧ x.2.prio ≠ 2)) = true) ∧
    after (exec (.syncTimeTx (.port ((3 : Fin 64)))) w_TimeEpochsAndServiceLanes_1) (fun t => decide ((t.out.any (fun o => match o with | .time l x _ e w r => decide (l = .port ((3 : Fin 64)) ∧ x = w_TimeEpochsAndServiceLanes_1.ct ∧ e = ((w_TimeEpochsAndServiceLanes_1.port ((3 : Fin 64))).epochNext.getD (w_TimeEpochsAndServiceLanes_1.get (PORT_EPOCH_epoch ((3 : Fin 64))), 0)).1 ∧ w = ((w_TimeEpochsAndServiceLanes_1.port ((3 : Fin 64))).epochNext.getD (w_TimeEpochsAndServiceLanes_1.get (PORT_EPOCH_epoch ((3 : Fin 64))), 0)).2 ∧ r = decide ((w_TimeEpochsAndServiceLanes_1.port ((3 : Fin 64))).echoReqAt + us 64 ≤ w_TimeEpochsAndServiceLanes_1.ct)) | _ => false) = true) ∧ ((t.port ((3 : Fin 64))).timeAt = some w_TimeEpochsAndServiceLanes_1.ct) ∧ (t.regs = w_TimeEpochsAndServiceLanes_1.regs) ∧ (t.mem = w_TimeEpochsAndServiceLanes_1.mem))) = true := by decide +kernel

def w_TimeEpochsAndServiceLanes_2 : State :=
    { unitA.setF (SVC_STATUS_link_state 3) 2 with ct := 102400 }

theorem test_TimeEpochsAndServiceLanes_2 :
    (w_TimeEpochsAndServiceLanes_2.get (SVC_STATUS_link_state ((3 : Fin 64))) = 2) ∧
    (w_TimeEpochsAndServiceLanes_2.unit ≠ 0) ∧
    (w_TimeEpochsAndServiceLanes_2.pair.outputsOff = false) ∧
    ((w_TimeEpochsAndServiceLanes_2.svc ((3 : Fin 64))).timeAt.all (fun w => decide (w + us 1 ≤ w_TimeEpochsAndServiceLanes_2.ct)) = true) ∧
    ((w_TimeEpochsAndServiceLanes_2.svc ((3 : Fin 64))).rel.backlog.all (fun x => decide (x.2.prio ≠ 1 ∧ x.2.prio ≠ 2)) = true) ∧
    after (exec (.syncTimeTx (.svc ((3 : Fin 64)))) w_TimeEpochsAndServiceLanes_2) (fun t => decide ((t.out.any (fun o => match o with | .time l x _ e w r => decide (l = .svc ((3 : Fin 64)) ∧ x = w_TimeEpochsAndServiceLanes_2.ct ∧ e = ((w_TimeEpochsAndServiceLanes_2.svc ((3 : Fin 64))).epochNext.getD (w_TimeEpochsAndServiceLanes_2.get (SVC_EPOCH_epoch ((3 : Fin 64))), 0)).1 ∧ w = ((w_TimeEpochsAndServiceLanes_2.svc ((3 : Fin 64))).epochNext.getD (w_TimeEpochsAndServiceLanes_2.get (SVC_EPOCH_epoch ((3 : Fin 64))), 0)).2 ∧ r = decide ((w_TimeEpochsAndServiceLanes_2.svc ((3 : Fin 64))).echoReqAt + us 64 ≤ w_TimeEpochsAndServiceLanes_2.ct)) | _ => false) = true) ∧ ((t.svc ((3 : Fin 64))).timeAt = some w_TimeEpochsAndServiceLanes_2.ct) ∧ (t.regs = w_TimeEpochsAndServiceLanes_2.regs) ∧ (t.mem = w_TimeEpochsAndServiceLanes_2.mem))) = true := by decide +kernel

def w_TimeEpochsAndServiceLanes_3 : State :=
    { (unitA.setF (PORT_STATUS_link_state 3) 3).updPort 3 (fun x => { x with timeAt := some 0 }) with ct := 1599 }

theorem test_TimeEpochsAndServiceLanes_3 :
    ((w_TimeEpochsAndServiceLanes_3.port ((3 : Fin 64))).timeAt = some 0) ∧
    (w_TimeEpochsAndServiceLanes_3.ct < 0 + us 1) ∧
    after (exec (.syncTimeTx (.port ((3 : Fin 64)))) w_TimeEpochsAndServiceLanes_3) (fun t => decide ((t = w_TimeEpochsAndServiceLanes_3))) = true := by decide +kernel

theorem test_TimeEpochsAndServiceLanes_4 :
    (Runs (unitA.setF (PORT_CTRL_en 3) 1)) ∧
    ((unitA.setF (PORT_CTRL_en 3) 1).faults.inject = none) ∧
    ((unitA.setF (PORT_CTRL_en 3) 1).get (PORT_STATUS_link_state ((3 : Fin 64))) ≠ 3) ∧
    ((unitA.setF (PORT_CTRL_en 3) 1).mayTrain ((3 : Fin 64)) = true) ∧
    ((unitA.setF (PORT_CTRL_en 3) 1).get (PORT_STATUS_link_state ((3 : Fin 64))) ≠ 4) ∧
    after (exec (.echoRx (.port ((3 : Fin 64))) ((⟨false, false, 0⟩ : UpHdr)) 0 0 0 300 ((200 : BitVec 8))) (unitA.setF (PORT_CTRL_en 3) 1)) (fun t => decide ((t.get (PORT_EPOCH_hub_epoch ((3 : Fin 64))) = ((200 : BitVec 8)).toNat) ∧ (t.get (PORT_EPOCH_epoch ((3 : Fin 64))) = (unitA.setF (PORT_CTRL_en 3) 1).get (PORT_EPOCH_epoch ((3 : Fin 64)))) ∧ (t.get (PORT_FLIGHT_up_ns ((3 : Fin 64))) = (unitA.setF (PORT_CTRL_en 3) 1).get (PORT_FLIGHT_up_ns ((3 : Fin 64)))) ∧ (t.get (PORT_STATUS_link_state ((3 : Fin 64))) = 2) ∧ ((t.port ((3 : Fin 64))).echoes = lastN 16 (((unitA.setF (PORT_CTRL_en 3) 1).port ((3 : Fin 64))).echoes ++ [echoFlights 0 0 0 300 (fromField 8 ((unitA.setF (PORT_CTRL_en 3) 1).get (PORT_ASYM_asym_ns ((3 : Fin 64)))))])))) = true := by decide +kernel

def w_TimeEpochsAndServiceLanes_5 : State :=
    (((unitA.setF (PORT_STATUS_link_state 3) 3).setF (PORT_FLIGHT_up_ns 3) 20).setF (PORT_FLIGHT_down_ns 3) 23).updPort 3 (fun x => { x with echoes := List.replicate 16 (320, 320) })

theorem test_TimeEpochsAndServiceLanes_5 :
    (Runs w_TimeEpochsAndServiceLanes_5) ∧
    (w_TimeEpochsAndServiceLanes_5.faults.inject = none) ∧
    (NoRung w_TimeEpochsAndServiceLanes_5) ∧
    (w_TimeEpochsAndServiceLanes_5.get (PORT_STATUS_link_state ((3 : Fin 64))) = 3) ∧
    (((List.replicate 16 ((320 : Int), (320 : Int)))) = lastN 16 ((w_TimeEpochsAndServiceLanes_5.port ((3 : Fin 64))).echoes ++ [echoFlights 100 110 120 366 (fromField 8 (w_TimeEpochsAndServiceLanes_5.get (PORT_ASYM_asym_ns ((3 : Fin 64)))))])) ∧
    (w_TimeEpochsAndServiceLanes_5.get (PORT_FLIGHT_up_ns ((3 : Fin 64))) ≤ 100) ∧
    (w_TimeEpochsAndServiceLanes_5.get (PORT_FLIGHT_down_ns ((3 : Fin 64))) ≤ 100) ∧
    (flightNs ((List.replicate 16 ((320 : Int), (320 : Int)))) (·.1) ≤ 100) ∧
    (flightNs ((List.replicate 16 ((320 : Int), (320 : Int)))) (·.2) ≤ 100) ∧
    after (exec (.echoRx (.port ((3 : Fin 64))) ((⟨false, false, 0⟩ : UpHdr)) 100 110 120 366 ((1 : BitVec 8))) w_TimeEpochsAndServiceLanes_5) (fun t => decide ((t.get (PORT_EPOCH_hub_epoch ((3 : Fin 64))) = ((1 : BitVec 8)).toNat) ∧ ((t.port ((3 : Fin 64))).echoes = ((List.replicate 16 ((320 : Int), (320 : Int))))) ∧ (t.get (PORT_FLIGHT_up_ns ((3 : Fin 64))) = (if w_TimeEpochsAndServiceLanes_5.get (PORT_FLIGHT_up_ns ((3 : Fin 64))) + 2 ≤ flightNs ((List.replicate 16 ((320 : Int), (320 : Int)))) (·.1) ∨ flightNs ((List.replicate 16 ((320 : Int), (320 : Int)))) (·.1) + 2 ≤ w_TimeEpochsAndServiceLanes_5.get (PORT_FLIGHT_up_ns ((3 : Fin 64))) then flightNs ((List.replicate 16 ((320 : Int), (320 : Int)))) (·.1) else w_TimeEpochsAndServiceLanes_5.get (PORT_FLIGHT_up_ns ((3 : Fin 64))))) ∧ (t.get (PORT_FLIGHT_down_ns ((3 : Fin 64))) = (if w_TimeEpochsAndServiceLanes_5.get (PORT_FLIGHT_down_ns ((3 : Fin 64))) + 2 ≤ flightNs ((List.replicate 16 ((320 : Int), (320 : Int)))) (·.2) ∨ flightNs ((List.replicate 16 ((320 : Int), (320 : Int)))) (·.2) + 2 ≤ w_TimeEpochsAndServiceLanes_5.get (PORT_FLIGHT_down_ns ((3 : Fin 64))) then flightNs ((List.replicate 16 ((320 : Int), (320 : Int)))) (·.2) else w_TimeEpochsAndServiceLanes_5.get (PORT_FLIGHT_down_ns ((3 : Fin 64))))) ∧ (t.get (PORT_STATUS_link_state ((3 : Fin 64))) = 3))) = true := by decide +kernel

def w_TimeEpochsAndServiceLanes_6 : State :=
    ((unitA.setF (PORT_STATUS_link_state 3) 3).setF (PORT_FLIGHT_up_ns 3) 99).setF (PORT_CTRL_en 3) 1

theorem test_TimeEpochsAndServiceLanes_6 :
    (Runs w_TimeEpochsAndServiceLanes_6) ∧
    (w_TimeEpochsAndServiceLanes_6.faults.inject = none) ∧
    (MayRaise w_TimeEpochsAndServiceLanes_6 .portFlight ((3 : Fin 64))) ∧
    (w_TimeEpochsAndServiceLanes_6.get (PORT_STATUS_link_state ((3 : Fin 64))) = 3) ∧
    (w_TimeEpochsAndServiceLanes_6.is (PORT_CTRL_en ((3 : Fin 64))) = true) ∧
    ((([(1620, 1620)] : List (Int × Int))) = lastN 16 ((w_TimeEpochsAndServiceLanes_6.port ((3 : Fin 64))).echoes ++ [echoFlights 0 0 0 516 (fromField 8 (w_TimeEpochsAndServiceLanes_6.get (PORT_ASYM_asym_ns ((3 : Fin 64)))))])) ∧
    (100 < flightNs (([(1620, 1620)] : List (Int × Int))) (·.1)) ∧
    (w_TimeEpochsAndServiceLanes_6.get (PORT_FLIGHT_up_ns ((3 : Fin 64))) + 2 ≤ flightNs (([(1620, 1620)] : List (Int × Int))) (·.1)) ∧
    (((⟨false, false, 0⟩ : UpHdr)).owner.toNat = w_TimeEpochsAndServiceLanes_6.get (PORT_EPOCH_owner ((3 : Fin 64)))) ∧
    (w_TimeEpochsAndServiceLanes_6.is (PAIR_TERM_claim_pending ((3 : Fin 64))) = false) ∧
    after (exec (.echoRx (.port ((3 : Fin 64))) ((⟨false, false, 0⟩ : UpHdr)) 0 0 0 516 ((1 : BitVec 8))) w_TimeEpochsAndServiceLanes_6) (fun t => decide ((t.raised .portFlight ((3 : Fin 64)) = true) ∧ (t.get (PORT_STATUS_link_state ((3 : Fin 64))) = 1) ∧ (t.get (PORT_FLIGHT_up_ns ((3 : Fin 64))) = Nat.min (flightNs (([(1620, 1620)] : List (Int × Int))) (·.1)) 255))) = true := by decide +kernel

def w_TimeEpochsAndServiceLanes_7 : State :=
    { (unitA.setF (PORT_EPOCH_epoch 3) 255).updPort 3 (fun x => { x with epochNext := some (1, 50) }) with ct := 50 }

theorem test_TimeEpochsAndServiceLanes_7 :
    ((w_TimeEpochsAndServiceLanes_7.port ((3 : Fin 64))).epochNext = some (1, 50)) ∧
    (50 ≤ w_TimeEpochsAndServiceLanes_7.ct) ∧
    (1 < 256) ∧
    ((w_TimeEpochsAndServiceLanes_7.port ((3 : Fin 64))).rel.backlog = []) ∧
    after (exec (.epochChange (.port ((3 : Fin 64)))) w_TimeEpochsAndServiceLanes_7) (fun t => decide ((t.get (PORT_EPOCH_epoch ((3 : Fin 64))) = 1) ∧ ((t.port ((3 : Fin 64))).epochNext = none) ∧ ((t.port ((3 : Fin 64))).rel.txNext = 0) ∧ ((t.port ((3 : Fin 64))).rel.unacked = []) ∧ ((t.port ((3 : Fin 64))).rel.rxNext = 0) ∧ (w_TimeEpochsAndServiceLanes_7.get (PORT_EPOCH_epoch ((3 : Fin 64))) = 0 ∨ Tbl.get (t.port ((3 : Fin 64))).retired (w_TimeEpochsAndServiceLanes_7.get (PORT_EPOCH_epoch ((3 : Fin 64)))) 0 = w_TimeEpochsAndServiceLanes_7.ct) ∧ (t.mem = w_TimeEpochsAndServiceLanes_7.mem))) = true := by decide +kernel

def w_TimeEpochsAndServiceLanes_8 : State :=
    { unitA.updSvc 3 (fun x => { x with epochNext := some (1, 50) }) with ct := 50 }

theorem test_TimeEpochsAndServiceLanes_8 :
    ((w_TimeEpochsAndServiceLanes_8.svc ((3 : Fin 64))).epochNext = some (1, 50)) ∧
    (50 ≤ w_TimeEpochsAndServiceLanes_8.ct) ∧
    (1 < 256) ∧
    ((w_TimeEpochsAndServiceLanes_8.svc ((3 : Fin 64))).rel.backlog = []) ∧
    after (exec (.epochChange (.svc ((3 : Fin 64)))) w_TimeEpochsAndServiceLanes_8) (fun t => decide ((t.get (SVC_EPOCH_epoch ((3 : Fin 64))) = 1) ∧ ((t.svc ((3 : Fin 64))).epochNext = none) ∧ ((t.svc ((3 : Fin 64))).rel.unacked = []) ∧ (t.mem = w_TimeEpochsAndServiceLanes_8.mem))) = true := by decide +kernel

def w_TimeEpochsAndServiceLanes_9 : State :=
    (unitA.setF (SVC_STATUS_link_state 3) 2).setF (SVC_CTRL_en 3) 1

theorem test_TimeEpochsAndServiceLanes_9 :
    (w_TimeEpochsAndServiceLanes_9.get (SVC_STATUS_link_state ((3 : Fin 64))) = 2) ∧
    (w_TimeEpochsAndServiceLanes_9.slSt ((3 : Fin 64)) ≠ 2) ∧
    (NoRung w_TimeEpochsAndServiceLanes_9) ∧
    (w_TimeEpochsAndServiceLanes_9.is (SVC_CTRL_en ((3 : Fin 64))) = true) ∧
    after (exec (.svcLaneDown ((3 : Fin 64))) w_TimeEpochsAndServiceLanes_9) (fun t => decide ((t.get (SVC_STATUS_link_state ((3 : Fin 64))) = 1) ∧ (t.get (SVC_STATUS_down_seen ((3 : Fin 64))) = 1) ∧ ((t.svc ((3 : Fin 64))).rel = {}) ∧ ((t.svc ((3 : Fin 64))).retryAt = some (w_TimeEpochsAndServiceLanes_9.ct + ms 10)) ∧ (t.slSt ((3 : Fin 64)) = w_TimeEpochsAndServiceLanes_9.slSt ((3 : Fin 64))) ∧ (t.get (PORT_STATUS_link_state ((3 : Fin 64))) = w_TimeEpochsAndServiceLanes_9.get (PORT_STATUS_link_state ((3 : Fin 64)))) ∧ (t.mem = w_TimeEpochsAndServiceLanes_9.mem))) = true := by decide +kernel

def w_TimeEpochsAndServiceLanes_10 : State :=
    (unitA.setF (SVC_CTRL_en 3) 1).updSvc 3 (fun x => { x with retryAt := some 0 })

theorem test_TimeEpochsAndServiceLanes_10 :
    ((w_TimeEpochsAndServiceLanes_10.svc ((3 : Fin 64))).retryAt = some 0) ∧
    (0 ≤ w_TimeEpochsAndServiceLanes_10.ct) ∧
    (w_TimeEpochsAndServiceLanes_10.get (SVC_STATUS_link_state ((3 : Fin 64))) ≠ 2) ∧
    (w_TimeEpochsAndServiceLanes_10.is (SVC_CTRL_en ((3 : Fin 64))) = true) ∧
    after (exec (.svcLaneRetry ((3 : Fin 64))) w_TimeEpochsAndServiceLanes_10) (fun t => decide ((t.get (SVC_STATUS_link_state ((3 : Fin 64))) = 1) ∧ ((t.svc ((3 : Fin 64))).retryAt = some (w_TimeEpochsAndServiceLanes_10.ct + ms 10)) ∧ (t.mem = w_TimeEpochsAndServiceLanes_10.mem))) = true := by decide +kernel

theorem test_TimeEpochsAndServiceLanes_11 :
    (Runs (unitA.setF (SVC_STATUS_link_state 3) 2)) ∧
    (NoRung (unitA.setF (SVC_STATUS_link_state 3) 2)) ∧
    ((unitA.setF (SVC_STATUS_link_state 3) 2).hwTouched = []) ∧
    (((3 : Word)).bit 0 = true) ∧
    (((3 : Word)).bit 1 = true) ∧
    ((unitA.setF (SVC_STATUS_link_state 3) 2).slSt ((3 : Fin 64)) ≠ 2) ∧
    after (exec (.svcRetrain ((3 : Fin 64)) ((3 : Word))) (unitA.setF (SVC_STATUS_link_state 3) 2)) (fun t => decide ((t.get (SVC_STATUS_link_state ((3 : Fin 64))) = 1) ∧ ((t.svc ((3 : Fin 64))).rel = {}) ∧ (t.slSt ((3 : Fin 64)) = (unitA.setF (SVC_STATUS_link_state 3) 2).slSt ((3 : Fin 64))) ∧ (t.mem = (unitA.setF (SVC_STATUS_link_state 3) 2).mem))) = true := by decide +kernel

theorem test_TimeEpochsAndServiceLanes_12 :
    (Runs (unitA.setF (SVC_CTRL_en 3) 1)) ∧
    ((unitA.setF (SVC_CTRL_en 3) 1).is (SVC_CTRL_en ((3 : Fin 64))) = true) ∧
    ((unitA.setF (SVC_CTRL_en 3) 1).get (SVC_STATUS_link_state ((3 : Fin 64))) ≠ 2) ∧
    (2 ≤ (unitA.setF (SVC_CTRL_en 3) 1).unit) ∧
    after (exec (.svcTrainComplete ((3 : Fin 64))) (unitA.setF (SVC_CTRL_en 3) 1)) (fun t => decide ((t.get (SVC_STATUS_link_state ((3 : Fin 64))) = 2) ∧ ((t.svc ((3 : Fin 64))).retryAt = none) ∧ ((t.svc ((3 : Fin 64))).rel = {}) ∧ (t.slSt ((3 : Fin 64)) = (unitA.setF (SVC_CTRL_en 3) 1).slSt ((3 : Fin 64))) ∧ (t.mem = (unitA.setF (SVC_CTRL_en 3) 1).mem))) = true := by decide +kernel

theorem test_TimeEpochsAndServiceLanes_13 :
    (Runs unitA) ∧
    (MayRaise unitA .clockRef true.toNat) ∧
    (unitA.rst.sref = 3) ∧
    after (exec (.srefLoss true) unitA) (fun t => decide ((t.rst.sref = (if true then 1 else 2)) ∧ (t.raised .clockRef true.toNat = true))) = true := by decide +kernel

theorem test_DormantSlotsKeepRendezvous_1 :
    ((unitA.setF (PORT_STATUS_link_state 3) 4).get (PORT_STATUS_link_state ((3 : Fin 64))) = 4) ∧
    ((unitA.setF (PORT_STATUS_link_state 3) 4).get (PORT_STATUS_width ((3 : Fin 64))) = 0) ∧
    ((unitA.setF (PORT_STATUS_link_state 3) 4).ownsPort ((3 : Fin 64)) = true) ∧
    (((unitA.setF (PORT_STATUS_link_state 3) 4).port ((3 : Fin 64))).rendezvousAt ≤ (unitA.setF (PORT_STATUS_link_state 3) 4).ct + us ((unitA.setF (PORT_STATUS_link_state 3) 4).get (PORT_SLEEP_guard_us ((3 : Fin 64))))) ∧
    ((unitA.setF (PORT_STATUS_link_state 3) 4).ct ≤ ((unitA.setF (PORT_STATUS_link_state 3) 4).port ((3 : Fin 64))).rendezvousAt + us ((unitA.setF (PORT_STATUS_link_state 3) 4).get (PORT_SLEEP_guard_us ((3 : Fin 64))))) ∧
    (((unitA.setF (PORT_STATUS_link_state 3) 4).port ((3 : Fin 64))).burstAt.all (fun w => decide (w + us 10 ≤ (unitA.setF (PORT_STATUS_link_state 3) 4).ct)) = true) ∧
    (((unitA.setF (PORT_STATUS_link_state 3) 4).port ((3 : Fin 64))).rel.backlog = []) ∧
    ((unitA.setF (PORT_STATUS_link_state 3) 4).slotFree (.port ((3 : Fin 64))) = true) ∧
    after (exec (.rendezvous ((3 : Fin 64))) (unitA.setF (PORT_STATUS_link_state 3) 4)) (fun t => decide ((t.out = (unitA.setF (PORT_STATUS_link_state 3) 4).out ++ [.beacon ((3 : Fin 64)) (unitA.setF (PORT_STATUS_link_state 3) 4).ct (((unitA.setF (PORT_STATUS_link_state 3) 4).port ((3 : Fin 64))).rendezvousAt + sec 1) (decide ((unitA.setF (PORT_STATUS_link_state 3) 4).slSt ((3 : Fin 64)) = 2))]) ∧ ((t.port ((3 : Fin 64))).rel.backlog = List.replicate 3 (0, .beacon ((3 : Fin 64)) (unitA.setF (PORT_STATUS_link_state 3) 4).ct (((unitA.setF (PORT_STATUS_link_state 3) 4).port ((3 : Fin 64))).rendezvousAt + sec 1) (decide ((unitA.setF (PORT_STATUS_link_state 3) 4).slSt ((3 : Fin 64)) = 2)))) ∧ ((t.port ((3 : Fin 64))).burstAt = some (unitA.setF (PORT_STATUS_link_state 3) 4).ct) ∧ (t.regs = (unitA.setF (PORT_STATUS_link_state 3) 4).regs) ∧ (t.mem = (unitA.setF (PORT_STATUS_link_state 3) 4).mem))) = true := by decide +kernel

def w_DormantSlotsKeepRendezvous_2 : State :=
    (unitA.setF (PORT_STATUS_link_state 3) 4).updPort 3 (fun x => { x with rendezvousAt := 1600000 })

theorem test_DormantSlotsKeepRendezvous_2 :
    (w_DormantSlotsKeepRendezvous_2.ownsPort ((3 : Fin 64)) = false ∨ w_DormantSlotsKeepRendezvous_2.ct + us (w_DormantSlotsKeepRendezvous_2.get (PORT_SLEEP_guard_us ((3 : Fin 64)))) < (w_DormantSlotsKeepRendezvous_2.port ((3 : Fin 64))).rendezvousAt ∨ (w_DormantSlotsKeepRendezvous_2.port ((3 : Fin 64))).rendezvousAt + us (w_DormantSlotsKeepRendezvous_2.get (PORT_SLEEP_guard_us ((3 : Fin 64)))) < w_DormantSlotsKeepRendezvous_2.ct) ∧
    after (exec (.rendezvous ((3 : Fin 64))) w_DormantSlotsKeepRendezvous_2) (fun t => decide ((t = w_DormantSlotsKeepRendezvous_2))) = true := by decide +kernel

def w_DormantSlotsKeepRendezvous_3 : State :=
    (unitA.setF (PORT_STATUS_link_state 3) 4).setF (PORT_SLEEP_guard_us 3) 800

theorem test_DormantSlotsKeepRendezvous_3 :
    (Runs w_DormantSlotsKeepRendezvous_3) ∧
    (w_DormantSlotsKeepRendezvous_3.faults.inject = none) ∧
    (w_DormantSlotsKeepRendezvous_3.get (PORT_STATUS_link_state ((3 : Fin 64))) = 4) ∧
    (((0 : BitVec 8)).toNat = w_DormantSlotsKeepRendezvous_3.get (PORT_EPOCH_epoch ((3 : Fin 64)))) ∧
    ((w_DormantSlotsKeepRendezvous_3.port ((3 : Fin 64))).rendezvousAt ≤ w_DormantSlotsKeepRendezvous_3.ct + us (w_DormantSlotsKeepRendezvous_3.get (PORT_SLEEP_guard_us ((3 : Fin 64))))) ∧
    (w_DormantSlotsKeepRendezvous_3.ct ≤ (w_DormantSlotsKeepRendezvous_3.port ((3 : Fin 64))).rendezvousAt + us (w_DormantSlotsKeepRendezvous_3.get (PORT_SLEEP_guard_us ((3 : Fin 64))))) ∧
    after (exec (.beaconRx ((3 : Fin 64)) ((⟨false, false, 0⟩ : UpHdr)) ((0 : BitVec 8)) false) w_DormantSlotsKeepRendezvous_3) (fun t => decide ((t.get (PORT_SLEEP_guard_us ((3 : Fin 64))) = 50) ∧ (t.get (PORT_SLEEP_widened ((3 : Fin 64))) = 0) ∧ ((t.port ((3 : Fin 64))).rendezvousAt = (w_DormantSlotsKeepRendezvous_3.port ((3 : Fin 64))).rendezvousAt + sec 1) ∧ (t.slSt ((3 : Fin 64)) = w_DormantSlotsKeepRendezvous_3.slSt ((3 : Fin 64))))) = true := by decide +kernel

def w_DormantSlotsKeepRendezvous_4 : State :=
    (unitA.setF (PORT_STATUS_link_state 3) 4).setF (SLOT_STATE_state 3) 6

theorem test_DormantSlotsKeepRendezvous_4 :
    (Plain w_DormantSlotsKeepRendezvous_4 (.port ((3 : Fin 64))) ((⟨false, false, 0⟩ : UpHdr))) ∧
    (w_DormantSlotsKeepRendezvous_4.get (PORT_STATUS_link_state ((3 : Fin 64))) = 4) ∧
    (((0 : BitVec 8)).toNat = w_DormantSlotsKeepRendezvous_4.get (PORT_EPOCH_epoch ((3 : Fin 64)))) ∧
    ((w_DormantSlotsKeepRendezvous_4.port ((3 : Fin 64))).rendezvousAt ≤ w_DormantSlotsKeepRendezvous_4.ct + us (w_DormantSlotsKeepRendezvous_4.get (PORT_SLEEP_guard_us ((3 : Fin 64))))) ∧
    (w_DormantSlotsKeepRendezvous_4.ct ≤ (w_DormantSlotsKeepRendezvous_4.port ((3 : Fin 64))).rendezvousAt + us (w_DormantSlotsKeepRendezvous_4.get (PORT_SLEEP_guard_us ((3 : Fin 64))))) ∧
    (w_DormantSlotsKeepRendezvous_4.slSt ((3 : Fin 64)) = 6) ∧
    (w_DormantSlotsKeepRendezvous_4.ownsPort ((3 : Fin 64)) = true) ∧
    after (exec (.beaconRx ((3 : Fin 64)) ((⟨false, false, 0⟩ : UpHdr)) ((0 : BitVec 8)) true) w_DormantSlotsKeepRendezvous_4) (fun t => decide ((t.get (PORT_SLEEP_guard_us ((3 : Fin 64))) = 50) ∧ (t.slSt ((3 : Fin 64)) = 2) ∧ ((t.slot ((3 : Fin 64))).step = 5) ∧ (t.get (PORT_STATUS_link_state ((3 : Fin 64))) = 1))) = true := by decide +kernel

def w_DormantSlotsKeepRendezvous_5 : State :=
    { ((unitA.setF (PORT_STATUS_link_state 3) 4).setF (SLOT_STATE_state 3) 6).setF (PORT_SLEEP_widened 3) 7 with ct := 1600000 }

theorem test_DormantSlotsKeepRendezvous_5 :
    (w_DormantSlotsKeepRendezvous_5.get (PORT_STATUS_link_state ((3 : Fin 64))) = 4) ∧
    ((w_DormantSlotsKeepRendezvous_5.port ((3 : Fin 64))).rendezvousAt + us (w_DormantSlotsKeepRendezvous_5.get (PORT_SLEEP_guard_us ((3 : Fin 64)))) < w_DormantSlotsKeepRendezvous_5.ct) ∧
    (w_DormantSlotsKeepRendezvous_5.slSt ((3 : Fin 64)) ≠ 0) ∧
    (w_DormantSlotsKeepRendezvous_5.get (PORT_SLEEP_widened ((3 : Fin 64))) < 8) ∧
    (w_DormantSlotsKeepRendezvous_5.swTouched = []) ∧
    after (exec (.rendezvousMiss ((3 : Fin 64))) w_DormantSlotsKeepRendezvous_5) (fun t => decide ((t.get (PORT_SLEEP_widened ((3 : Fin 64))) = w_DormantSlotsKeepRendezvous_5.get (PORT_SLEEP_widened ((3 : Fin 64))) + 1) ∧ (t.get (PORT_SLEEP_guard_us ((3 : Fin 64))) = guardOf (w_DormantSlotsKeepRendezvous_5.get (PORT_SLEEP_widened ((3 : Fin 64))) + 1)) ∧ ((t.port ((3 : Fin 64))).rendezvousAt = (w_DormantSlotsKeepRendezvous_5.port ((3 : Fin 64))).rendezvousAt + sec 1) ∧ (Counted w_DormantSlotsKeepRendezvous_5 t (PORT_CNT_SLEEP_MISS_v ((3 : Fin 64)))) ∧ (t.slSt ((3 : Fin 64)) = w_DormantSlotsKeepRendezvous_5.slSt ((3 : Fin 64))) ∧ (t.mem = w_DormantSlotsKeepRendezvous_5.mem))) = true := by decide +kernel

def w_DormantSlotsKeepRendezvous_6 : State :=
    { ((unitA.setF (PORT_STATUS_link_state 3) 4).setF (SLOT_STATE_state 3) 6).setF (PORT_SLEEP_widened 3) 8 with ct := 1600001 }

theorem test_DormantSlotsKeepRendezvous_6 :
    (w_DormantSlotsKeepRendezvous_6.get (PORT_STATUS_link_state ((3 : Fin 64))) = 4) ∧
    ((w_DormantSlotsKeepRendezvous_6.port ((3 : Fin 64))).rendezvousAt + us (w_DormantSlotsKeepRendezvous_6.get (PORT_SLEEP_guard_us ((3 : Fin 64)))) < w_DormantSlotsKeepRendezvous_6.ct) ∧
    (w_DormantSlotsKeepRendezvous_6.slSt ((3 : Fin 64)) ≠ 0) ∧
    (8 ≤ w_DormantSlotsKeepRendezvous_6.get (PORT_SLEEP_widened ((3 : Fin 64)))) ∧
    (w_DormantSlotsKeepRendezvous_6.swTouched = []) ∧
    after (exec (.rendezvousMiss ((3 : Fin 64))) w_DormantSlotsKeepRendezvous_6) (fun t => decide ((t.get (PORT_STATUS_sleep_lost ((3 : Fin 64))) = 1) ∧ (t.get (PORT_STATUS_link_state ((3 : Fin 64))) = 1) ∧ ((t.port ((3 : Fin 64))).sleepTrain = true) ∧ (t.slSt ((3 : Fin 64)) = w_DormantSlotsKeepRendezvous_6.slSt ((3 : Fin 64))))) = true := by decide +kernel

def w_DormantSlotsKeepRendezvous_7 : State :=
    { unitA.setF (PORT_STATUS_link_state 3) 4 with ct := 1600000 }

theorem test_DormantSlotsKeepRendezvous_7 :
    (w_DormantSlotsKeepRendezvous_7.get (PORT_STATUS_link_state ((3 : Fin 64))) = 4) ∧
    ((w_DormantSlotsKeepRendezvous_7.port ((3 : Fin 64))).rendezvousAt + us (w_DormantSlotsKeepRendezvous_7.get (PORT_SLEEP_guard_us ((3 : Fin 64)))) < w_DormantSlotsKeepRendezvous_7.ct) ∧
    (w_DormantSlotsKeepRendezvous_7.slSt ((3 : Fin 64)) = 0) ∧
    after (exec (.rendezvousMiss ((3 : Fin 64))) w_DormantSlotsKeepRendezvous_7) (fun t => decide ((t.regs = w_DormantSlotsKeepRendezvous_7.regs) ∧ ((t.port ((3 : Fin 64))).rendezvousAt = (w_DormantSlotsKeepRendezvous_7.port ((3 : Fin 64))).rendezvousAt + sec 1) ∧ (t.mem = w_DormantSlotsKeepRendezvous_7.mem))) = true := by decide +kernel

def w_HubEventsMoveStitches_1 : State :=
    unitA.updSt 389 (fun y => { y with skein := some 7, state := 2 })

theorem test_HubEventsMoveStitches_1 :
    (InOrder w_HubEventsMoveStitches_1 (.port ((3 : Fin 64))) ((⟨false, false, 0⟩ : UpHdr))) ∧
    (NoRung w_HubEventsMoveStitches_1) ∧
    (maskStitches ((32 : BitVec 128)) = [((5 : Fin 128)).val]) ∧
    after (exec (.stitchLate ((3 : Fin 64)) ((⟨false, false, 0⟩ : UpHdr)) ((32 : BitVec 128)) ((4 : Word))) w_HubEventsMoveStitches_1) (fun t => decide ((t.get (PORT_CNT_LATE_v ((3 : Fin 64))) = satCount ((PORT_CNT_LATE_v ((3 : Fin 64))).hi + 1 - (PORT_CNT_LATE_v ((3 : Fin 64))).lo) (w_HubEventsMoveStitches_1.get (PORT_CNT_LATE_v ((3 : Fin 64)))) ((4 : Word)).toNat) ∧ ((t.st (128 * ((3 : Fin 64)).val + ((5 : Fin 128)).val)).late = satCount 32 (w_HubEventsMoveStitches_1.st (128 * ((3 : Fin 64)).val + ((5 : Fin 128)).val)).late ((4 : Word)).toNat) ∧ ((t.st (128 * ((3 : Fin 64)).val + ((5 : Fin 128)).val)).state = (w_HubEventsMoveStitches_1.st (128 * ((3 : Fin 64)).val + ((5 : Fin 128)).val)).state))) = true := by decide +kernel

def w_HubEventsMoveStitches_2 : State :=
    unitA.updSt 389 (fun y => { y with skein := some 7, state := 2 })

theorem test_HubEventsMoveStitches_2 :
    (InOrder w_HubEventsMoveStitches_2 (.port ((3 : Fin 64))) ((⟨false, false, 0⟩ : UpHdr))) ∧
    (NoRung w_HubEventsMoveStitches_2) ∧
    (((96 : BitVec 128)).getLsbD ((5 : Fin 128)) = true) ∧
    (1 < (maskStitches ((96 : BitVec 128))).length) ∧
    after (exec (.stitchLate ((3 : Fin 64)) ((⟨false, false, 0⟩ : UpHdr)) ((96 : BitVec 128)) ((4 : Word))) w_HubEventsMoveStitches_2) (fun t => decide (((t.st (128 * ((3 : Fin 64)).val + ((5 : Fin 128)).val)).late = satCount 32 (w_HubEventsMoveStitches_2.st (128 * ((3 : Fin 64)).val + ((5 : Fin 128)).val)).late 1))) = true := by decide +kernel

def w_HubEventsMoveStitches_3 : State :=
    unitA.updSt 389 (fun y => { y with skein := some 7, state := 2 })

theorem test_HubEventsMoveStitches_3 :
    (InOrder w_HubEventsMoveStitches_3 (.port ((3 : Fin 64))) ((⟨false, false, 0⟩ : UpHdr))) ∧
    (NoRung w_HubEventsMoveStitches_3) ∧
    after (exec (.cmdReject ((3 : Fin 64)) ((⟨false, false, 0⟩ : UpHdr)) ((4 : Word))) w_HubEventsMoveStitches_3) (fun t => decide ((t.get (PORT_CNT_CMD_REJECT_v ((3 : Fin 64))) = satCount ((PORT_CNT_CMD_REJECT_v ((3 : Fin 64))).hi + 1 - (PORT_CNT_CMD_REJECT_v ((3 : Fin 64))).lo) (w_HubEventsMoveStitches_3.get (PORT_CNT_CMD_REJECT_v ((3 : Fin 64)))) ((4 : Word)).toNat) ∧ (t.stitches = w_HubEventsMoveStitches_3.stitches))) = true := by decide +kernel

def w_HubEventsMoveStitches_4 : State :=
    unitA.updSt 389 (fun y => { y with skein := some 7, state := 2 })

theorem test_HubEventsMoveStitches_4 :
    (InOrder w_HubEventsMoveStitches_4 (.port ((3 : Fin 64))) ((⟨false, false, 0⟩ : UpHdr))) ∧
    (NoRung w_HubEventsMoveStitches_4) ∧
    ((w_HubEventsMoveStitches_4.st (128 * ((3 : Fin 64)).val + ((5 : Fin 128)).val)).skein.isSome = true) ∧
    (MayRaise w_HubEventsMoveStitches_4 .stitchSense (128 * ((3 : Fin 64)).val + ((5 : Fin 128)).val)) ∧
    after (exec (.senseOpen ((3 : Fin 64)) ((⟨false, false, 0⟩ : UpHdr)) ((5 : Fin 128))) w_HubEventsMoveStitches_4) (fun t => decide (((t.st (128 * ((3 : Fin 64)).val + ((5 : Fin 128)).val)).senseOpen = true) ∧ ((t.st (128 * ((3 : Fin 64)).val + ((5 : Fin 128)).val)).state = (w_HubEventsMoveStitches_4.st (128 * ((3 : Fin 64)).val + ((5 : Fin 128)).val)).state) ∧ (t.raised .stitchSense (128 * ((3 : Fin 64)).val + ((5 : Fin 128)).val) = true) ∧ (t.get (STITCH_STATE_open ((3 : Fin 64)) ((5 : Fin 128))) = 1))) = true := by decide +kernel

def w_HubEventsMoveStitches_5 : State :=
    unitA.updSt 389 (fun y => { y with skein := some 7, state := 2 })

theorem test_HubEventsMoveStitches_5 :
    (InOrder w_HubEventsMoveStitches_5 (.port ((3 : Fin 64))) ((⟨false, false, 0⟩ : UpHdr))) ∧
    (NoRung w_HubEventsMoveStitches_5) ∧
    ((w_HubEventsMoveStitches_5.st (128 * ((3 : Fin 64)).val + ((5 : Fin 128)).val)).skein.isSome = true) ∧
    (((w_HubEventsMoveStitches_5.st (128 * ((3 : Fin 64)).val + ((5 : Fin 128)).val)).hiccups.filter (fun x => decide (w_HubEventsMoveStitches_5.ct < x + sec 1))).length < 2) ∧
    ((w_HubEventsMoveStitches_5.st (128 * ((3 : Fin 64)).val + ((5 : Fin 128)).val)).latched = false) ∧
    after (exec (.ocHiccup ((3 : Fin 64)) ((⟨false, false, 0⟩ : UpHdr)) ((5 : Fin 128)) ((9 : BitVec 16))) w_HubEventsMoveStitches_5) (fun t => decide (((t.st (128 * ((3 : Fin 64)).val + ((5 : Fin 128)).val)).state = 5) ∧ ((t.st (128 * ((3 : Fin 64)).val + ((5 : Fin 128)).val)).hiccup = true) ∧ ((t.st (128 * ((3 : Fin 64)).val + ((5 : Fin 128)).val)).latched = false) ∧ (Counted w_HubEventsMoveStitches_5 t (PORT_CNT_HICCUP_v ((3 : Fin 64)))))) = true := by decide +kernel

def w_HubEventsMoveStitches_6 : State :=
    unitA.updSt 389 (fun y => { y with skein := some 7, state := 2, hiccups := [0, 0] })

theorem test_HubEventsMoveStitches_6 :
    (InOrder w_HubEventsMoveStitches_6 (.port ((3 : Fin 64))) ((⟨false, false, 0⟩ : UpHdr))) ∧
    (NoRung w_HubEventsMoveStitches_6) ∧
    ((w_HubEventsMoveStitches_6.st (128 * ((3 : Fin 64)).val + ((5 : Fin 128)).val)).skein.isSome = true) ∧
    (2 ≤ ((w_HubEventsMoveStitches_6.st (128 * ((3 : Fin 64)).val + ((5 : Fin 128)).val)).hiccups.filter (fun x => decide (w_HubEventsMoveStitches_6.ct < x + sec 1))).length) ∧
    after (exec (.ocHiccup ((3 : Fin 64)) ((⟨false, false, 0⟩ : UpHdr)) ((5 : Fin 128)) ((9 : BitVec 16))) w_HubEventsMoveStitches_6) (fun t => decide (((t.st (128 * ((3 : Fin 64)).val + ((5 : Fin 128)).val)).state = 5) ∧ ((t.st (128 * ((3 : Fin 64)).val + ((5 : Fin 128)).val)).latched = true) ∧ (t.get (STITCH_FLT_bit ((3 : Fin 64)) ((5 : Fin 128))) = 1))) = true := by decide +kernel

def w_HubEventsMoveStitches_7 : State :=
    unitA.updSt 389 (fun y => { y with skein := some 7, state := 5, hiccup := true })

theorem test_HubEventsMoveStitches_7 :
    (InOrder w_HubEventsMoveStitches_7 (.port ((3 : Fin 64))) ((⟨false, false, 0⟩ : UpHdr))) ∧
    (NoRung w_HubEventsMoveStitches_7) ∧
    ((w_HubEventsMoveStitches_7.st (128 * ((3 : Fin 64)).val + ((5 : Fin 128)).val)).state = 5) ∧
    after (exec (.ocResume ((3 : Fin 64)) ((⟨false, false, 0⟩ : UpHdr)) ((5 : Fin 128))) w_HubEventsMoveStitches_7) (fun t => decide (((t.st (128 * ((3 : Fin 64)).val + ((5 : Fin 128)).val)).hiccup = false) ∧ ((t.st (128 * ((3 : Fin 64)).val + ((5 : Fin 128)).val)).state = (if (w_HubEventsMoveStitches_7.st (128 * ((3 : Fin 64)).val + ((5 : Fin 128)).val)).latched then 5 else 2)))) = true := by decide +kernel

def w_HubEventsMoveStitches_8 : State :=
    unitA.updSt 389 (fun y => { y with skein := some 7, state := 2 })

theorem test_HubEventsMoveStitches_8 :
    (InOrder w_HubEventsMoveStitches_8 (.port ((3 : Fin 64))) ((⟨false, false, 0⟩ : UpHdr))) ∧
    (NoRung w_HubEventsMoveStitches_8) ∧
    ((w_HubEventsMoveStitches_8.st (128 * ((3 : Fin 64)).val + ((5 : Fin 128)).val)).skein.isSome = true) ∧
    (MayRaise w_HubEventsMoveStitches_8 .stitchFault (128 * ((3 : Fin 64)).val + ((5 : Fin 128)).val)) ∧
    after (exec (.stageOt ((3 : Fin 64)) ((⟨false, false, 0⟩ : UpHdr)) ((5 : Fin 128)) ((1600 : BitVec 16))) w_HubEventsMoveStitches_8) (fun t => decide (((t.st (128 * ((3 : Fin 64)).val + ((5 : Fin 128)).val)).state = 5) ∧ ((t.st (128 * ((3 : Fin 64)).val + ((5 : Fin 128)).val)).latched = true) ∧ (t.raised .stitchFault (128 * ((3 : Fin 64)).val + ((5 : Fin 128)).val) = true))) = true := by decide +kernel

def w_HubEventsMoveStitches_9 : State :=
    unitA.updSt 389 (fun y => { y with skein := some 7, state := 2 })

theorem test_HubEventsMoveStitches_9 :
    (InOrder w_HubEventsMoveStitches_9 (.port ((3 : Fin 64))) ((⟨false, false, 0⟩ : UpHdr))) ∧
    (NoRung w_HubEventsMoveStitches_9) ∧
    ((w_HubEventsMoveStitches_9.st (128 * ((3 : Fin 64)).val + ((5 : Fin 128)).val)).skein.isSome = true) ∧
    (MayRaise w_HubEventsMoveStitches_9 .stitchFault (128 * ((3 : Fin 64)).val + ((5 : Fin 128)).val)) ∧
    after (exec (.driverFault ((3 : Fin 64)) ((⟨false, false, 0⟩ : UpHdr)) ((5 : Fin 128))) w_HubEventsMoveStitches_9) (fun t => decide (((t.st (128 * ((3 : Fin 64)).val + ((5 : Fin 128)).val)).state = 5) ∧ ((t.st (128 * ((3 : Fin 64)).val + ((5 : Fin 128)).val)).latched = true) ∧ (t.raised .stitchFault (128 * ((3 : Fin 64)).val + ((5 : Fin 128)).val) = true))) = true := by decide +kernel

def w_HubEventsMoveStitches_10 : State :=
    ({ unitA with rails := [(7, some {})] }.updSk 7 (fun x => { x with known := true, slot := 3 })).setF (SLOT_STATE_state 3) 3 |>.setF (SEQ_STATE_state 3) 2

theorem test_HubEventsMoveStitches_10 :
    (InOrder w_HubEventsMoveStitches_10 (.port ((3 : Fin 64))) ((⟨false, false, 0⟩ : UpHdr))) ∧
    (NoRung w_HubEventsMoveStitches_10) ∧
    (w_HubEventsMoveStitches_10.slSt ((3 : Fin 64)) = 3) ∧
    (w_HubEventsMoveStitches_10.ownsPort ((3 : Fin 64)) = true) ∧
    (w_HubEventsMoveStitches_10.seqSt ((3 : Fin 64)) = 2) ∧
    after (exec (.bindReq ((3 : Fin 64)) ((⟨false, false, 0⟩ : UpHdr))) w_HubEventsMoveStitches_10) (fun t => decide ((t.slSt ((3 : Fin 64)) = 4) ∧ (t.seqSt ((3 : Fin 64)) = 3))) = true := by decide +kernel

theorem test_HubEventsMoveStitches_11 :
    (InOrder ({ unitA with trust := { hubMask := 8 } }) (.port ((3 : Fin 64))) ((⟨false, false, 0⟩ : UpHdr))) ∧
    (NoRung ({ unitA with trust := { hubMask := 8 } })) ∧
    after (exec (.hubFwVersion ((3 : Fin 64)) ((⟨false, false, 0⟩ : UpHdr)) ((77 : Word))) ({ unitA with trust := { hubMask := 8 } })) (fun t => decide (((t.port ((3 : Fin 64))).hubVersion = ((77 : Word)).toNat) ∧ (t.trust.hubMask.getLsbD ((3 : Fin 64)) = false) ∧ (t.stitches = ({ unitA with trust := { hubMask := 8 } }).stitches))) = true := by decide +kernel

theorem test_HubEventsMoveStitches_12 :
    (InOrder unitA (.port ((3 : Fin 64))) ((⟨false, false, 0⟩ : UpHdr))) ∧
    (NoRung unitA) ∧
    (unitA.swTouched = []) ∧
    after (exec (.unknownEventRx (.port ((3 : Fin 64))) ((⟨false, false, 0⟩ : UpHdr)) ((0x777 : BitVec 16))) unitA) (fun t => decide ((Counted unitA t (PORT_CNT_BAD_TYPE_v ((3 : Fin 64)))) ∧ (t.stitches = unitA.stitches) ∧ (t.mem = unitA.mem))) = true := by decide +kernel

theorem test_HubEventsMoveStitches_13 :
    (InOrder unitA (.port ((3 : Fin 64))) ((⟨false, false, 0⟩ : UpHdr))) ∧
    (NoRung unitA) ∧
    ((unitA.st (128 * ((3 : Fin 64)).val + ((5 : Fin 128)).val)).skein = none) ∧
    after (exec (.driverFault ((3 : Fin 64)) ((⟨false, false, 0⟩ : UpHdr)) ((5 : Fin 128))) unitA) (fun t => decide ((t.stitches = unitA.stitches) ∧ (t.faults = unitA.faults))) = true := by decide +kernel

theorem test_HubEventsMoveStitches_14 :
    (InOrder unitA (.port ((3 : Fin 64))) ((⟨false, false, 0⟩ : UpHdr))) ∧
    (NoRung unitA) ∧
    ((unitA.st (128 * ((3 : Fin 64)).val + ((5 : Fin 128)).val)).skein = none) ∧
    after (exec (.senseOpen ((3 : Fin 64)) ((⟨false, false, 0⟩ : UpHdr)) ((5 : Fin 128))) unitA) (fun t => decide ((t.stitches = unitA.stitches) ∧ (t.faults = unitA.faults))) = true := by decide +kernel

def w_SampleCellsFillWindows_1 : State :=
    ((unitA.updSt 389 (fun y => { y with skein := some 7, state := 2, reduced := some 99, resOf := [(100, 1)], desc := { vinLsb := 256, iphLsb := 256, voutLsb := 256 } })).updSk 7 (fun x => { x with known := true, slot := 3, stitches := [5], base := 100, stepped := 100, hz := 800000 }))

theorem test_SampleCellsFillWindows_1 :
    (Plain w_SampleCellsFillWindows_1 (.port ((3 : Fin 64))) ((⟨false, false, 0⟩ : UpHdr))) ∧
    (NoRung w_SampleCellsFillWindows_1) ∧
    ((w_SampleCellsFillWindows_1.st (128 * ((3 : Fin 64)).val + ((⟨5, 100, 1, 0, List.replicate 16 7⟩ : SampleCell)).stitch.val)).skein = some 7) ∧
    ((w_SampleCellsFillWindows_1.st (128 * ((3 : Fin 64)).val + ((⟨5, 100, 1, 0, List.replicate 16 7⟩ : SampleCell)).stitch.val)).state = 2) ∧
    (((⟨5, 100, 1, 0, List.replicate 16 7⟩ : SampleCell)).hub = 0) ∧
    (((⟨5, 100, 1, 0, List.replicate 16 7⟩ : SampleCell)).res.toNat = w_SampleCellsFillWindows_1.resOfWin (128 * ((3 : Fin 64)).val + ((⟨5, 100, 1, 0, List.replicate 16 7⟩ : SampleCell)).stitch.val) (nearCycle ((⟨5, 100, 1, 0, List.replicate 16 7⟩ : SampleCell)).tag.toNat (w_SampleCellsFillWindows_1.cycleNow 7))) ∧
    (((w_SampleCellsFillWindows_1.st (128 * ((3 : Fin 64)).val + ((⟨5, 100, 1, 0, List.replicate 16 7⟩ : SampleCell)).stitch.val)).winOf (nearCycle ((⟨5, 100, 1, 0, List.replicate 16 7⟩ : SampleCell)).tag.toNat (w_SampleCellsFillWindows_1.cycleNow 7))).cells = []) ∧
    ((w_SampleCellsFillWindows_1.st (128 * ((3 : Fin 64)).val + ((⟨5, 100, 1, 0, List.replicate 16 7⟩ : SampleCell)).stitch.val)).reduced = some (((nearCycle ((⟨5, 100, 1, 0, List.replicate 16 7⟩ : SampleCell)).tag.toNat (w_SampleCellsFillWindows_1.cycleNow 7)) + 65535) % 65536)) ∧
    ((w_SampleCellsFillWindows_1.ct : Int) ≤ w_SampleCellsFillWindows_1.winDeadline (128 * ((3 : Fin 64)).val + ((⟨5, 100, 1, 0, List.replicate 16 7⟩ : SampleCell)).stitch.val) 7 (nearCycle ((⟨5, 100, 1, 0, List.replicate 16 7⟩ : SampleCell)).tag.toNat (w_SampleCellsFillWindows_1.cycleNow 7))) ∧
    (1 < cellCount (if (w_SampleCellsFillWindows_1.st (128 * ((3 : Fin 64)).val + ((⟨5, 100, 1, 0, List.replicate 16 7⟩ : SampleCell)).stitch.val)).desc.iinSensed then 4 else 3) (resSamples ((⟨5, 100, 1, 0, List.replicate 16 7⟩ : SampleCell)).res.toNat)) ∧
    (((⟨false, false, 0⟩ : UpHdr)).seq.toNat < cellCount (if (w_SampleCellsFillWindows_1.st (128 * ((3 : Fin 64)).val + ((⟨5, 100, 1, 0, List.replicate 16 7⟩ : SampleCell)).stitch.val)).desc.iinSensed then 4 else 3) (resSamples ((⟨5, 100, 1, 0, List.replicate 16 7⟩ : SampleCell)).res.toNat)) ∧
    after (exec (.sampleCellRx ((3 : Fin 64)) ((⟨false, false, 0⟩ : UpHdr)) ((⟨5, 100, 1, 0, List.replicate 16 7⟩ : SampleCell))) w_SampleCellsFillWindows_1) (fun t => decide ((((t.st (128 * ((3 : Fin 64)).val + ((⟨5, 100, 1, 0, List.replicate 16 7⟩ : SampleCell)).stitch.val)).winOf (nearCycle ((⟨5, 100, 1, 0, List.replicate 16 7⟩ : SampleCell)).tag.toNat (w_SampleCellsFillWindows_1.cycleNow 7))).cells = [(((⟨false, false, 0⟩ : UpHdr)).seq.toNat, ((⟨5, 100, 1, 0, List.replicate 16 7⟩ : SampleCell)).samples.map (·.toNat))]) ∧ ((t.st (128 * ((3 : Fin 64)).val + ((⟨5, 100, 1, 0, List.replicate 16 7⟩ : SampleCell)).stitch.val)).state = 2) ∧ ((t.st (128 * ((3 : Fin 64)).val + ((⟨5, 100, 1, 0, List.replicate 16 7⟩ : SampleCell)).stitch.val)).last = (w_SampleCellsFillWindows_1.st (128 * ((3 : Fin 64)).val + ((⟨5, 100, 1, 0, List.replicate 16 7⟩ : SampleCell)).stitch.val)).last) ∧ ((t.st (128 * ((3 : Fin 64)).val + ((⟨5, 100, 1, 0, List.replicate 16 7⟩ : SampleCell)).stitch.val)).reduced = (w_SampleCellsFillWindows_1.st (128 * ((3 : Fin 64)).val + ((⟨5, 100, 1, 0, List.replicate 16 7⟩ : SampleCell)).stitch.val)).reduced) ∧ (t.regs = w_SampleCellsFillWindows_1.regs) ∧ (t.mem = w_SampleCellsFillWindows_1.mem))) = true := by decide +kernel

def w_SampleCellsFillWindows_2 : State :=
    ((unitA.updSt 389 (fun y => { y with skein := some 7, state := 2, reduced := some 99, resOf := [(100, 1)], desc := { vinLsb := 256, iphLsb := 256, voutLsb := 256 } })).updSk 7 (fun x => { x with known := true, slot := 3, stitches := [5], base := 100, stepped := 100, hz := 800000 })).updSt 389 (fun y => { y with wins := [{ cycle := 100, hub := 0, cells := [(0, List.replicate 16 7), (2, List.replicate 16 7)] }] })

theorem test_SampleCellsFillWindows_2 :
    (Plain w_SampleCellsFillWindows_2 (.port ((3 : Fin 64))) ((⟨false, false, 1⟩ : UpHdr))) ∧
    (NoRung w_SampleCellsFillWindows_2) ∧
    ((w_SampleCellsFillWindows_2.st (128 * ((3 : Fin 64)).val + ((⟨5, 100, 1, 0, List.replicate 16 7⟩ : SampleCell)).stitch.val)).skein = some 7) ∧
    ((w_SampleCellsFillWindows_2.st (128 * ((3 : Fin 64)).val + ((⟨5, 100, 1, 0, List.replicate 16 7⟩ : SampleCell)).stitch.val)).state = 2) ∧
    (((⟨5, 100, 1, 0, List.replicate 16 7⟩ : SampleCell)).hub = 0) ∧
    (((⟨5, 100, 1, 0, List.replicate 16 7⟩ : SampleCell)).res.toNat = w_SampleCellsFillWindows_2.resOfWin (128 * ((3 : Fin 64)).val + ((⟨5, 100, 1, 0, List.replicate 16 7⟩ : SampleCell)).stitch.val) (nearCycle ((⟨5, 100, 1, 0, List.replicate 16 7⟩ : SampleCell)).tag.toNat (w_SampleCellsFillWindows_2.cycleNow 7))) ∧
    (((w_SampleCellsFillWindows_2.st (128 * ((3 : Fin 64)).val + ((⟨5, 100, 1, 0, List.replicate 16 7⟩ : SampleCell)).stitch.val)).winOf (nearCycle ((⟨5, 100, 1, 0, List.replicate 16 7⟩ : SampleCell)).tag.toNat (w_SampleCellsFillWindows_2.cycleNow 7))).cells.length + 1 = cellCount (if (w_SampleCellsFillWindows_2.st (128 * ((3 : Fin 64)).val + ((⟨5, 100, 1, 0, List.replicate 16 7⟩ : SampleCell)).stitch.val)).desc.iinSensed then 4 else 3) (resSamples ((⟨5, 100, 1, 0, List.replicate 16 7⟩ : SampleCell)).res.toNat)) ∧
    (((w_SampleCellsFillWindows_2.st (128 * ((3 : Fin 64)).val + ((⟨5, 100, 1, 0, List.replicate 16 7⟩ : SampleCell)).stitch.val)).winOf (nearCycle ((⟨5, 100, 1, 0, List.replicate 16 7⟩ : SampleCell)).tag.toNat (w_SampleCellsFillWindows_2.cycleNow 7))).cells.any (fun d => decide (d.1 = ((⟨false, false, 1⟩ : UpHdr)).seq.toNat)) = false) ∧
    ((w_SampleCellsFillWindows_2.st (128 * ((3 : Fin 64)).val + ((⟨5, 100, 1, 0, List.replicate 16 7⟩ : SampleCell)).stitch.val)).reduced = some (((nearCycle ((⟨5, 100, 1, 0, List.replicate 16 7⟩ : SampleCell)).tag.toNat (w_SampleCellsFillWindows_2.cycleNow 7)) + 65535) % 65536)) ∧
    ((w_SampleCellsFillWindows_2.ct : Int) ≤ w_SampleCellsFillWindows_2.winDeadline (128 * ((3 : Fin 64)).val + ((⟨5, 100, 1, 0, List.replicate 16 7⟩ : SampleCell)).stitch.val) 7 (nearCycle ((⟨5, 100, 1, 0, List.replicate 16 7⟩ : SampleCell)).tag.toNat (w_SampleCellsFillWindows_2.cycleNow 7))) ∧
    (((⟨false, false, 1⟩ : UpHdr)).seq.toNat < cellCount (if (w_SampleCellsFillWindows_2.st (128 * ((3 : Fin 64)).val + ((⟨5, 100, 1, 0, List.replicate 16 7⟩ : SampleCell)).stitch.val)).desc.iinSensed then 4 else 3) (resSamples ((⟨5, 100, 1, 0, List.replicate 16 7⟩ : SampleCell)).res.toNat)) ∧
    (Mild w_SampleCellsFillWindows_2 []) ∧
    (w_SampleCellsFillWindows_2.swTouched = []) ∧
    (w_SampleCellsFillWindows_2.nv.caps = []) ∧
    after (exec (.sampleCellRx ((3 : Fin 64)) ((⟨false, false, 1⟩ : UpHdr)) ((⟨5, 100, 1, 0, List.replicate 16 7⟩ : SampleCell))) w_SampleCellsFillWindows_2) (fun t => decide (((t.st (128 * ((3 : Fin 64)).val + ((⟨5, 100, 1, 0, List.replicate 16 7⟩ : SampleCell)).stitch.val)).reduced = some (nearCycle ((⟨5, 100, 1, 0, List.replicate 16 7⟩ : SampleCell)).tag.toNat (w_SampleCellsFillWindows_2.cycleNow 7))) ∧ ((t.st (128 * ((3 : Fin 64)).val + ((⟨5, 100, 1, 0, List.replicate 16 7⟩ : SampleCell)).stitch.val)).due = true) ∧ ((t.st (128 * ((3 : Fin 64)).val + ((⟨5, 100, 1, 0, List.replicate 16 7⟩ : SampleCell)).stitch.val)).last.cycle = (nearCycle ((⟨5, 100, 1, 0, List.replicate 16 7⟩ : SampleCell)).tag.toNat (w_SampleCellsFillWindows_2.cycleNow 7))) ∧ ((t.st (128 * ((3 : Fin 64)).val + ((⟨5, 100, 1, 0, List.replicate 16 7⟩ : SampleCell)).stitch.val)).last.incomplete = false) ∧ (Counted w_SampleCellsFillWindows_2 t (RED_CNT_WINDOWS_v ((3 : Fin 64)))))) = true := by decide +kernel

def w_SampleCellsFillWindows_3 : State :=
    ((unitA.updSt 389 (fun y => { y with skein := some 7, state := 2, reduced := some 99, resOf := [(100, 1)], desc := { vinLsb := 256, iphLsb := 256, voutLsb := 256 } })).updSk 7 (fun x => { x with known := true, slot := 3, stitches := [5], base := 100, stepped := 100, hz := 800000 }))

theorem test_SampleCellsFillWindows_3 :
    (Plain w_SampleCellsFillWindows_3 (.port ((3 : Fin 64))) ((⟨false, false, 0⟩ : UpHdr))) ∧
    (NoRung w_SampleCellsFillWindows_3) ∧
    ((w_SampleCellsFillWindows_3.st (128 * ((3 : Fin 64)).val + ((⟨5, 100, 2, 0, List.replicate 16 7⟩ : SampleCell)).stitch.val)).skein = some 7) ∧
    ((w_SampleCellsFillWindows_3.st (128 * ((3 : Fin 64)).val + ((⟨5, 100, 2, 0, List.replicate 16 7⟩ : SampleCell)).stitch.val)).state = 2) ∧
    (((⟨5, 100, 2, 0, List.replicate 16 7⟩ : SampleCell)).hub = 0) ∧
    (((⟨5, 100, 2, 0, List.replicate 16 7⟩ : SampleCell)).res.toNat ≠ w_SampleCellsFillWindows_3.resOfWin (128 * ((3 : Fin 64)).val + ((⟨5, 100, 2, 0, List.replicate 16 7⟩ : SampleCell)).stitch.val) (nearCycle ((⟨5, 100, 2, 0, List.replicate 16 7⟩ : SampleCell)).tag.toNat (w_SampleCellsFillWindows_3.cycleNow 7))) ∧
    (w_SampleCellsFillWindows_3.swTouched = []) ∧
    after (exec (.sampleCellRx ((3 : Fin 64)) ((⟨false, false, 0⟩ : UpHdr)) ((⟨5, 100, 2, 0, List.replicate 16 7⟩ : SampleCell))) w_SampleCellsFillWindows_3) (fun t => decide (((t.st (128 * ((3 : Fin 64)).val + ((⟨5, 100, 2, 0, List.replicate 16 7⟩ : SampleCell)).stitch.val)).wins = (w_SampleCellsFillWindows_3.st (128 * ((3 : Fin 64)).val + ((⟨5, 100, 2, 0, List.replicate 16 7⟩ : SampleCell)).stitch.val)).wins) ∧ (Counted w_SampleCellsFillWindows_3 t (PORT_CNT_CMD_REJECT_v ((3 : Fin 64)))) ∧ (t.mem = w_SampleCellsFillWindows_3.mem))) = true := by decide +kernel

def w_SampleCellsFillWindows_4 : State :=
    ((unitA.updSt 389 (fun y => { y with skein := some 7, state := 2, reduced := some 99, resOf := [(100, 1)], desc := { vinLsb := 256, iphLsb := 256, voutLsb := 256 } })).updSk 7 (fun x => { x with known := true, slot := 3, stitches := [5], base := 100, stepped := 100, hz := 800000 })).updSt 389 (fun y => { y with wins := [{ cycle := 100, hub := 0, cells := [(0, [])] }] })

theorem test_SampleCellsFillWindows_4 :
    (Plain w_SampleCellsFillWindows_4 (.port ((3 : Fin 64))) ((⟨false, false, 0⟩ : UpHdr))) ∧
    (NoRung w_SampleCellsFillWindows_4) ∧
    ((w_SampleCellsFillWindows_4.st (128 * ((3 : Fin 64)).val + ((⟨5, 100, 1, 0, List.replicate 16 7⟩ : SampleCell)).stitch.val)).skein = some 7) ∧
    ((w_SampleCellsFillWindows_4.st (128 * ((3 : Fin 64)).val + ((⟨5, 100, 1, 0, List.replicate 16 7⟩ : SampleCell)).stitch.val)).state = 2) ∧
    (((⟨5, 100, 1, 0, List.replicate 16 7⟩ : SampleCell)).hub = 0) ∧
    (((⟨5, 100, 1, 0, List.replicate 16 7⟩ : SampleCell)).res.toNat = w_SampleCellsFillWindows_4.resOfWin (128 * ((3 : Fin 64)).val + ((⟨5, 100, 1, 0, List.replicate 16 7⟩ : SampleCell)).stitch.val) (nearCycle ((⟨5, 100, 1, 0, List.replicate 16 7⟩ : SampleCell)).tag.toNat (w_SampleCellsFillWindows_4.cycleNow 7))) ∧
    (((w_SampleCellsFillWindows_4.st (128 * ((3 : Fin 64)).val + ((⟨5, 100, 1, 0, List.replicate 16 7⟩ : SampleCell)).stitch.val)).winOf (nearCycle ((⟨5, 100, 1, 0, List.replicate 16 7⟩ : SampleCell)).tag.toNat (w_SampleCellsFillWindows_4.cycleNow 7))).cells.any (fun d => decide (d.1 = ((⟨false, false, 0⟩ : UpHdr)).seq.toNat)) = true) ∧
    (w_SampleCellsFillWindows_4.swTouched = []) ∧
    after (exec (.sampleCellRx ((3 : Fin 64)) ((⟨false, false, 0⟩ : UpHdr)) ((⟨5, 100, 1, 0, List.replicate 16 7⟩ : SampleCell))) w_SampleCellsFillWindows_4) (fun t => decide (((t.st (128 * ((3 : Fin 64)).val + ((⟨5, 100, 1, 0, List.replicate 16 7⟩ : SampleCell)).stitch.val)).wins = (w_SampleCellsFillWindows_4.st (128 * ((3 : Fin 64)).val + ((⟨5, 100, 1, 0, List.replicate 16 7⟩ : SampleCell)).stitch.val)).wins) ∧ (Counted w_SampleCellsFillWindows_4 t (RED_CNT_DUP_v ((3 : Fin 64)))) ∧ (t.mem = w_SampleCellsFillWindows_4.mem))) = true := by decide +kernel

def w_SampleCellsFillWindows_5 : State :=
    { ((unitA.updSt 389 (fun y => { y with skein := some 7, state := 2, reduced := some 99, resOf := [(100, 1)], desc := { vinLsb := 256, iphLsb := 256, voutLsb := 256 } })).updSk 7 (fun x => { x with known := true, slot := 3, stitches := [5], base := 100, stepped := 100, hz := 800000 })) with ct := 5000 }

theorem test_SampleCellsFillWindows_5 :
    (Plain w_SampleCellsFillWindows_5 (.port ((3 : Fin 64))) ((⟨false, false, 0⟩ : UpHdr))) ∧
    (NoRung w_SampleCellsFillWindows_5) ∧
    ((w_SampleCellsFillWindows_5.st (128 * ((3 : Fin 64)).val + ((⟨5, 98, 1, 0, List.replicate 16 7⟩ : SampleCell)).stitch.val)).skein = some 7) ∧
    ((w_SampleCellsFillWindows_5.st (128 * ((3 : Fin 64)).val + ((⟨5, 98, 1, 0, List.replicate 16 7⟩ : SampleCell)).stitch.val)).state = 2) ∧
    (((⟨5, 98, 1, 0, List.replicate 16 7⟩ : SampleCell)).hub = 0) ∧
    (((⟨5, 98, 1, 0, List.replicate 16 7⟩ : SampleCell)).res.toNat = w_SampleCellsFillWindows_5.resOfWin (128 * ((3 : Fin 64)).val + ((⟨5, 98, 1, 0, List.replicate 16 7⟩ : SampleCell)).stitch.val) (nearCycle ((⟨5, 98, 1, 0, List.replicate 16 7⟩ : SampleCell)).tag.toNat (w_SampleCellsFillWindows_5.cycleNow 7))) ∧
    (((w_SampleCellsFillWindows_5.st (128 * ((3 : Fin 64)).val + ((⟨5, 98, 1, 0, List.replicate 16 7⟩ : SampleCell)).stitch.val)).winOf (nearCycle ((⟨5, 98, 1, 0, List.replicate 16 7⟩ : SampleCell)).tag.toNat (w_SampleCellsFillWindows_5.cycleNow 7))).cells = []) ∧
    (w_SampleCellsFillWindows_5.winDeadline (128 * ((3 : Fin 64)).val + ((⟨5, 98, 1, 0, List.replicate 16 7⟩ : SampleCell)).stitch.val) 7 (nearCycle ((⟨5, 98, 1, 0, List.replicate 16 7⟩ : SampleCell)).tag.toNat (w_SampleCellsFillWindows_5.cycleNow 7)) < (w_SampleCellsFillWindows_5.ct : Int)) ∧
    (w_SampleCellsFillWindows_5.swTouched = []) ∧
    after (exec (.sampleCellRx ((3 : Fin 64)) ((⟨false, false, 0⟩ : UpHdr)) ((⟨5, 98, 1, 0, List.replicate 16 7⟩ : SampleCell))) w_SampleCellsFillWindows_5) (fun t => decide (((t.st (128 * ((3 : Fin 64)).val + ((⟨5, 98, 1, 0, List.replicate 16 7⟩ : SampleCell)).stitch.val)).wins = (w_SampleCellsFillWindows_5.st (128 * ((3 : Fin 64)).val + ((⟨5, 98, 1, 0, List.replicate 16 7⟩ : SampleCell)).stitch.val)).wins) ∧ (Counted w_SampleCellsFillWindows_5 t (RED_CNT_LATE_v ((3 : Fin 64)))) ∧ (t.mem = w_SampleCellsFillWindows_5.mem))) = true := by decide +kernel

def w_SampleCellsFillWindows_6 : State :=
    ((unitA.updSt 389 (fun y => { y with skein := some 7, state := 2, reduced := some 99, resOf := [(100, 1)], desc := { vinLsb := 256, iphLsb := 256, voutLsb := 256 } })).updSk 7 (fun x => { x with known := true, slot := 3, stitches := [5], base := 100, stepped := 100, hz := 800000 }))

theorem test_SampleCellsFillWindows_6 :
    (Plain w_SampleCellsFillWindows_6 (.port ((3 : Fin 64))) ((⟨false, false, 3⟩ : UpHdr))) ∧
    (NoRung w_SampleCellsFillWindows_6) ∧
    ((w_SampleCellsFillWindows_6.st (128 * ((3 : Fin 64)).val + ((⟨5, 100, 1, 0, List.replicate 16 7⟩ : SampleCell)).stitch.val)).skein = some 7) ∧
    ((w_SampleCellsFillWindows_6.st (128 * ((3 : Fin 64)).val + ((⟨5, 100, 1, 0, List.replicate 16 7⟩ : SampleCell)).stitch.val)).state = 2) ∧
    (((⟨5, 100, 1, 0, List.replicate 16 7⟩ : SampleCell)).hub = 0) ∧
    (((⟨5, 100, 1, 0, List.replicate 16 7⟩ : SampleCell)).res.toNat = w_SampleCellsFillWindows_6.resOfWin (128 * ((3 : Fin 64)).val + ((⟨5, 100, 1, 0, List.replicate 16 7⟩ : SampleCell)).stitch.val) (nearCycle ((⟨5, 100, 1, 0, List.replicate 16 7⟩ : SampleCell)).tag.toNat (w_SampleCellsFillWindows_6.cycleNow 7))) ∧
    (((w_SampleCellsFillWindows_6.st (128 * ((3 : Fin 64)).val + ((⟨5, 100, 1, 0, List.replicate 16 7⟩ : SampleCell)).stitch.val)).winOf (nearCycle ((⟨5, 100, 1, 0, List.replicate 16 7⟩ : SampleCell)).tag.toNat (w_SampleCellsFillWindows_6.cycleNow 7))).cells = []) ∧
    ((w_SampleCellsFillWindows_6.st (128 * ((3 : Fin 64)).val + ((⟨5, 100, 1, 0, List.replicate 16 7⟩ : SampleCell)).stitch.val)).reduced = some (((nearCycle ((⟨5, 100, 1, 0, List.replicate 16 7⟩ : SampleCell)).tag.toNat (w_SampleCellsFillWindows_6.cycleNow 7)) + 65535) % 65536)) ∧
    ((w_SampleCellsFillWindows_6.ct : Int) ≤ w_SampleCellsFillWindows_6.winDeadline (128 * ((3 : Fin 64)).val + ((⟨5, 100, 1, 0, List.replicate 16 7⟩ : SampleCell)).stitch.val) 7 (nearCycle ((⟨5, 100, 1, 0, List.replicate 16 7⟩ : SampleCell)).tag.toNat (w_SampleCellsFillWindows_6.cycleNow 7))) ∧
    (cellCount (if (w_SampleCellsFillWindows_6.st (128 * ((3 : Fin 64)).val + ((⟨5, 100, 1, 0, List.replicate 16 7⟩ : SampleCell)).stitch.val)).desc.iinSensed then 4 else 3) (resSamples ((⟨5, 100, 1, 0, List.replicate 16 7⟩ : SampleCell)).res.toNat) ≤ ((⟨false, false, 3⟩ : UpHdr)).seq.toNat) ∧
    (w_SampleCellsFillWindows_6.swTouched = []) ∧
    after (exec (.sampleCellRx ((3 : Fin 64)) ((⟨false, false, 3⟩ : UpHdr)) ((⟨5, 100, 1, 0, List.replicate 16 7⟩ : SampleCell))) w_SampleCellsFillWindows_6) (fun t => decide (((t.st (128 * ((3 : Fin 64)).val + ((⟨5, 100, 1, 0, List.replicate 16 7⟩ : SampleCell)).stitch.val)).wins = (w_SampleCellsFillWindows_6.st (128 * ((3 : Fin 64)).val + ((⟨5, 100, 1, 0, List.replicate 16 7⟩ : SampleCell)).stitch.val)).wins) ∧ (Counted w_SampleCellsFillWindows_6 t (RED_CNT_BAD_SEQ_v ((3 : Fin 64)))) ∧ (t.mem = w_SampleCellsFillWindows_6.mem))) = true := by decide +kernel

def w_SampleCellsFillWindows_7 : State :=
    ((unitA.updSt 389 (fun y => { y with skein := some 7, state := 2, reduced := some 99, resOf := [(100, 1)], desc := { vinLsb := 256, iphLsb := 256, voutLsb := 256 } })).updSk 7 (fun x => { x with known := true, slot := 3, stitches := [5], base := 100, stepped := 100, hz := 800000 }))

theorem test_SampleCellsFillWindows_7 :
    (Plain w_SampleCellsFillWindows_7 (.port ((3 : Fin 64))) ((⟨false, false, 0⟩ : UpHdr))) ∧
    (NoRung w_SampleCellsFillWindows_7) ∧
    ((w_SampleCellsFillWindows_7.st (128 * ((3 : Fin 64)).val + ((⟨5, 100, 2, 1, List.replicate 16 7⟩ : SampleCell)).stitch.val)).skein = some 7) ∧
    ((w_SampleCellsFillWindows_7.st (128 * ((3 : Fin 64)).val + ((⟨5, 100, 2, 1, List.replicate 16 7⟩ : SampleCell)).stitch.val)).state = 2) ∧
    (((⟨5, 100, 2, 1, List.replicate 16 7⟩ : SampleCell)).hub = 1) ∧
    (((⟨5, 100, 2, 1, List.replicate 16 7⟩ : SampleCell)).res.toNat ≠ w_SampleCellsFillWindows_7.resOfWin (128 * ((3 : Fin 64)).val + ((⟨5, 100, 2, 1, List.replicate 16 7⟩ : SampleCell)).stitch.val) (nearCycle ((⟨5, 100, 2, 1, List.replicate 16 7⟩ : SampleCell)).tag.toNat (w_SampleCellsFillWindows_7.cycleNow 7))) ∧
    after (exec (.sampleCellRx ((3 : Fin 64)) ((⟨false, false, 0⟩ : UpHdr)) ((⟨5, 100, 2, 1, List.replicate 16 7⟩ : SampleCell))) w_SampleCellsFillWindows_7) (fun t => decide (((t.st (128 * ((3 : Fin 64)).val + ((⟨5, 100, 2, 1, List.replicate 16 7⟩ : SampleCell)).stitch.val)).state = 3) ∧ ((t.st (128 * ((3 : Fin 64)).val + ((⟨5, 100, 2, 1, List.replicate 16 7⟩ : SampleCell)).stitch.val)).wins = (w_SampleCellsFillWindows_7.st (128 * ((3 : Fin 64)).val + ((⟨5, 100, 2, 1, List.replicate 16 7⟩ : SampleCell)).stitch.val)).wins))) = true := by decide +kernel

def w_SampleCellsFillWindows_8 : State :=
    ((unitA.updSt 389 (fun y => { y with skein := some 7, state := 2, reduced := some 99, resOf := [(100, 1)], desc := { vinLsb := 256, iphLsb := 256, voutLsb := 256 } })).updSk 7 (fun x => { x with known := true, slot := 3, stitches := [5], base := 100, stepped := 100, hz := 800000 })).updSt 389 (fun y => { y with state := 3 })

theorem test_SampleCellsFillWindows_8 :
    (Plain w_SampleCellsFillWindows_8 (.port ((3 : Fin 64))) ((⟨false, false, 0⟩ : UpHdr))) ∧
    (NoRung w_SampleCellsFillWindows_8) ∧
    ((w_SampleCellsFillWindows_8.st (128 * ((3 : Fin 64)).val + ((⟨5, 100, 2, 0, List.replicate 16 7⟩ : SampleCell)).stitch.val)).skein = some 7) ∧
    ((w_SampleCellsFillWindows_8.st (128 * ((3 : Fin 64)).val + ((⟨5, 100, 2, 0, List.replicate 16 7⟩ : SampleCell)).stitch.val)).state = 3) ∧
    (((⟨5, 100, 2, 0, List.replicate 16 7⟩ : SampleCell)).hub = 0) ∧
    (((⟨5, 100, 2, 0, List.replicate 16 7⟩ : SampleCell)).res.toNat ≠ w_SampleCellsFillWindows_8.resOfWin (128 * ((3 : Fin 64)).val + ((⟨5, 100, 2, 0, List.replicate 16 7⟩ : SampleCell)).stitch.val) (nearCycle ((⟨5, 100, 2, 0, List.replicate 16 7⟩ : SampleCell)).tag.toNat (w_SampleCellsFillWindows_8.cycleNow 7))) ∧
    after (exec (.sampleCellRx ((3 : Fin 64)) ((⟨false, false, 0⟩ : UpHdr)) ((⟨5, 100, 2, 0, List.replicate 16 7⟩ : SampleCell))) w_SampleCellsFillWindows_8) (fun t => decide (((t.st (128 * ((3 : Fin 64)).val + ((⟨5, 100, 2, 0, List.replicate 16 7⟩ : SampleCell)).stitch.val)).state = 2) ∧ ((t.st (128 * ((3 : Fin 64)).val + ((⟨5, 100, 2, 0, List.replicate 16 7⟩ : SampleCell)).stitch.val)).wins = (w_SampleCellsFillWindows_8.st (128 * ((3 : Fin 64)).val + ((⟨5, 100, 2, 0, List.replicate 16 7⟩ : SampleCell)).stitch.val)).wins))) = true := by decide +kernel

def w_SampleCellsFillWindows_9 : State :=
    unitA.updSt 389 (fun y => { y with skein := some 7, state := 1 })

theorem test_SampleCellsFillWindows_9 :
    (Plain w_SampleCellsFillWindows_9 (.port ((3 : Fin 64))) ((⟨false, false, 0⟩ : UpHdr))) ∧
    (NoRung w_SampleCellsFillWindows_9) ∧
    ((w_SampleCellsFillWindows_9.st (128 * ((3 : Fin 64)).val + ((5 : Fin 128)).val)).state = 1) ∧
    after (exec (.trailerRx ((3 : Fin 64)) ((⟨false, false, 0⟩ : UpHdr)) ((5 : Fin 128)) 2 ((921 : BitVec 16)) ((8 : BitVec 16)) ((64 : BitVec 7))) w_SampleCellsFillWindows_9) (fun t => decide (((t.st (128 * ((3 : Fin 64)).val + ((5 : Fin 128)).val)).trailers.getLast? = some (((921 : BitVec 16)).toNat, ((8 : BitVec 16)).toNat)) ∧ ((t.st (128 * ((3 : Fin 64)).val + ((5 : Fin 128)).val)).trailerGap = 0) ∧ ((t.st (128 * ((3 : Fin 64)).val + ((5 : Fin 128)).val)).duty = ((921 : BitVec 16)).toNat) ∧ ((t.st (128 * ((3 : Fin 64)).val + ((5 : Fin 128)).val)).wins = (w_SampleCellsFillWindows_9.st (128 * ((3 : Fin 64)).val + ((5 : Fin 128)).val)).wins) ∧ ((t.st (128 * ((3 : Fin 64)).val + ((5 : Fin 128)).val)).state = 1) ∧ (t.regs = w_SampleCellsFillWindows_9.regs) ∧ (t.mem = w_SampleCellsFillWindows_9.mem))) = true := by decide +kernel

def w_SampleCellsFillWindows_10 : State :=
    { ((unitA.updSt 389 (fun y => { y with skein := some 7, state := 2, reduced := some 99, resOf := [(100, 1)], desc := { vinLsb := 256, iphLsb := 256, voutLsb := 256 } })).updSk 7 (fun x => { x with known := true, slot := 3, stitches := [5], base := 100, stepped := 103, hz := 800000 })) with ct := 9000 }

theorem test_SampleCellsFillWindows_10 :
    (NoRung w_SampleCellsFillWindows_10) ∧
    ((w_SampleCellsFillWindows_10.st ((389 : Fin 8192))).skein = some 7) ∧
    ((w_SampleCellsFillWindows_10.st ((389 : Fin 8192))).reduced = some 99) ∧
    (99 < 65536) ∧
    (w_SampleCellsFillWindows_10.winDeadline ((389 : Fin 8192)) 7 ((99 + 1) % 65536) < (w_SampleCellsFillWindows_10.ct : Int)) ∧
    ((w_SampleCellsFillWindows_10.port (((389 : Fin 8192)).val / 128)).snapAt = none) ∧
    (w_SampleCellsFillWindows_10.nv.caps = []) ∧
    ((w_SampleCellsFillWindows_10.st ((389 : Fin 8192))).noHub2 < 63) ∧
    (w_SampleCellsFillWindows_10.faults.insts.any (fun (x : Inst) => decide (x.kind = .stitchSampleLoss)) = false) ∧
    after (exec (.windowDeadline ((389 : Fin 8192))) w_SampleCellsFillWindows_10) (fun t => decide (((t.st ((389 : Fin 8192))).reduced = some ((99 + 1) % 65536)) ∧ ((t.st ((389 : Fin 8192))).last = w_SampleCellsFillWindows_10.winRec ((389 : Fin 8192)) 7 ((w_SampleCellsFillWindows_10.st ((389 : Fin 8192))).winOf ((99 + 1) % 65536))) ∧ ((t.st ((389 : Fin 8192))).due = true) ∧ ((t.st ((389 : Fin 8192))).acc = (if (w_SampleCellsFillWindows_10.winRec ((389 : Fin 8192)) 7 ((w_SampleCellsFillWindows_10.st ((389 : Fin 8192))).winOf ((99 + 1) % 65536))).lossOk && w_SampleCellsFillWindows_10.is (RED_CTRL_acc_en (((389 : Fin 8192)).val / 128)) then (w_SampleCellsFillWindows_10.st ((389 : Fin 8192))).acc.join (w_SampleCellsFillWindows_10.winRec ((389 : Fin 8192)) 7 ((w_SampleCellsFillWindows_10.st ((389 : Fin 8192))).winOf ((99 + 1) % 65536))) else (w_SampleCellsFillWindows_10.st ((389 : Fin 8192))).acc)) ∧ (Counted w_SampleCellsFillWindows_10 t (RED_CNT_WINDOWS_v (((389 : Fin 8192)).val / 128))) ∧ (t.mem = w_SampleCellsFillWindows_10.mem))) = true := by decide +kernel

def w_SampleCellsFillWindows_11 : State :=
    ((unitA.updSt 389 (fun y => { y with skein := some 7, state := 2, reduced := some 99, resOf := [(100, 1)], desc := { vinLsb := 256, iphLsb := 256, voutLsb := 256 } })).updSk 7 (fun x => { x with known := true, slot := 3, stitches := [5], base := 100, stepped := 100, hz := 800000 }))

theorem test_SampleCellsFillWindows_11 :
    ((w_SampleCellsFillWindows_11.st ((389 : Fin 8192))).skein = some 7) ∧
    ((w_SampleCellsFillWindows_11.st ((389 : Fin 8192))).reduced = some 99) ∧
    ((w_SampleCellsFillWindows_11.ct : Int) ≤ w_SampleCellsFillWindows_11.winDeadline ((389 : Fin 8192)) 7 ((99 + 1) % 65536)) ∧
    after (exec (.windowDeadline ((389 : Fin 8192))) w_SampleCellsFillWindows_11) (fun t => decide ((t = w_SampleCellsFillWindows_11))) = true := by decide +kernel

def w_SampleCellsFillWindows_12 : State :=
    unitA.updSt 389 (fun y => { y with missing := 8 })

theorem test_SampleCellsFillWindows_12 :
    (8 ≤ (w_SampleCellsFillWindows_12.st ((389 : Fin 8192))).missing) ∧
    (MayRaise w_SampleCellsFillWindows_12 .stitchSampleLoss ((389 : Fin 8192))) ∧
    after (exec (.stitchSampleLoss ((389 : Fin 8192))) w_SampleCellsFillWindows_12) (fun t => decide ((t.raised .stitchSampleLoss ((389 : Fin 8192)) = true) ∧ (t.stitches = w_SampleCellsFillWindows_12.stitches))) = true := by decide +kernel

def w_SnapshotsAndClears_1 : State :=
    unitA.updSt 389 (fun y => { y with acc := { loss := 5 } })

theorem test_SnapshotsAndClears_1 :
    (Runs w_SnapshotsAndClears_1) ∧
    (w_SnapshotsAndClears_1.hwTouched = []) ∧
    (((7 : Word)).bit 2 = true) ∧
    (((7 : Word)).bit 3 = false) ∧
    (w_SnapshotsAndClears_1.is (RED_STATUS_snap_pending ((3 : Fin 64))) = false) ∧
    after (exec (.redSnap ((3 : Fin 64)) ((7 : Word))) w_SnapshotsAndClears_1) (fun t => decide ((t.get (RED_STATUS_snap_pending ((3 : Fin 64))) = 1) ∧ ((t.port ((3 : Fin 64))).snapAt = some w_SnapshotsAndClears_1.ct) ∧ (t.mem = w_SnapshotsAndClears_1.mem))) = true := by decide +kernel

theorem test_SnapshotsAndClears_2 :
    (Runs (unitA.setF (RED_STATUS_snap_pending 3) 1)) ∧
    ((unitA.setF (RED_STATUS_snap_pending 3) 1).hwTouched = []) ∧
    (((7 : Word)).bit 2 = true) ∧
    (((7 : Word)).bit 3 = false) ∧
    ((unitA.setF (RED_STATUS_snap_pending 3) 1).is (RED_STATUS_snap_pending ((3 : Fin 64))) = true) ∧
    after (exec (.redSnap ((3 : Fin 64)) ((7 : Word))) (unitA.setF (RED_STATUS_snap_pending 3) 1)) (fun t => decide ((t.stitches = (unitA.setF (RED_STATUS_snap_pending 3) 1).stitches) ∧ ((t.port ((3 : Fin 64))).snapAt = ((unitA.setF (RED_STATUS_snap_pending 3) 1).port ((3 : Fin 64))).snapAt) ∧ (t.mem = (unitA.setF (RED_STATUS_snap_pending 3) 1).mem))) = true := by decide +kernel

def w_SnapshotsAndClears_3 : State :=
    { (unitA.setF (RED_STATUS_snap_pending 3) 1).updPort 3 (fun x => { x with snapAt := some 4 }) with ct := 5 }

theorem test_SnapshotsAndClears_3 :
    ((w_SnapshotsAndClears_3.port ((3 : Fin 64))).snapAt = some 4) ∧
    (4 < w_SnapshotsAndClears_3.ct) ∧
    (w_SnapshotsAndClears_3.reducedTo ((3 : Fin 64)) 4 = true) ∧
    (w_SnapshotsAndClears_3.get (RED_SNAP_SEQ_seq ((3 : Fin 64))) + 1 < 2 ^ 32) ∧
    after (exec (.redSnapDone ((3 : Fin 64))) w_SnapshotsAndClears_3) (fun t => decide ((t.get (RED_STATUS_snap_pending ((3 : Fin 64))) = 0) ∧ (t.get (RED_STATUS_snap_done ((3 : Fin 64))) = 1) ∧ (t.get (RED_SNAP_SEQ_seq ((3 : Fin 64))) = w_SnapshotsAndClears_3.get (RED_SNAP_SEQ_seq ((3 : Fin 64))) + 1) ∧ (t.stitches = w_SnapshotsAndClears_3.stitches) ∧ (t.mem = w_SnapshotsAndClears_3.mem))) = true := by decide +kernel

def w_SnapshotsAndClears_4 : State :=
    unitA.updPort 3 (fun x => { x with snapAt := some 4 })

theorem test_SnapshotsAndClears_4 :
    ((w_SnapshotsAndClears_4.port ((3 : Fin 64))).snapAt = some 4) ∧
    (w_SnapshotsAndClears_4.ct ≤ 4 ∨ w_SnapshotsAndClears_4.reducedTo ((3 : Fin 64)) 4 = false) ∧
    after (exec (.redSnapDone ((3 : Fin 64))) w_SnapshotsAndClears_4) (fun t => decide ((t = w_SnapshotsAndClears_4))) = true := by decide +kernel

def w_SnapshotsAndClears_5 : State :=
    unitA.updSt 389 (fun y => { y with acc := { loss := 5 } })

theorem test_SnapshotsAndClears_5 :
    (Runs w_SnapshotsAndClears_5) ∧
    (w_SnapshotsAndClears_5.hwTouched = []) ∧
    (((11 : Word)).bit 2 = false) ∧
    (((11 : Word)).bit 3 = true) ∧
    after (exec (.redClearAcc ((3 : Fin 64)) ((11 : Word))) w_SnapshotsAndClears_5) (fun t => decide ((t.mem = w_SnapshotsAndClears_5.mem))) = true := by decide +kernel

def w_SnapshotsAndClears_6 : State :=
    ((withCmd (((unitA.updSt 389 (fun y => { y with skein := some 7, state := 2, reduced := some 99, resOf := [(100, 1)], desc := { vinLsb := 256, iphLsb := 256, voutLsb := 256 } })).updSk 7 (fun x => { x with known := true, slot := 3, stitches := [5], base := 100, stepped := 100, hz := 800000 }))) 256 9 0x541 [133, 1, 0, 2]).updSt 389 (fun y => { y with snap := { loss := -5 } })).setF (RED_SNAP_SEQ_seq 3) 4 |>.updPort 3 (fun x => { x with snapSeen := true })

theorem test_SnapshotsAndClears_6 :
    (Ready w_SnapshotsAndClears_6 ((256 : Mb)) ((9 : Fin 64)) 0x541) ∧
    (u8 (payloadOf w_SnapshotsAndClears_6 ((256 : Mb)) ((9 : Fin 64))) 2 = 0) ∧
    (u8 (payloadOf w_SnapshotsAndClears_6 ((256 : Mb)) ((9 : Fin 64))) 3 ≤ 4) ∧
    ((resv (payloadOf w_SnapshotsAndClears_6 ((256 : Mb)) ((9 : Fin 64))) 4 16).2 = false) ∧
    (w_SnapshotsAndClears_6.stitchBad ((256 : Mb)) (u16 (payloadOf w_SnapshotsAndClears_6 ((256 : Mb)) ((9 : Fin 64))) 0) = false) ∧
    ((w_SnapshotsAndClears_6.port (u16 (payloadOf w_SnapshotsAndClears_6 ((256 : Mb)) ((9 : Fin 64))) 0 / 128)).snapAt = none) ∧
    ((w_SnapshotsAndClears_6.port (u16 (payloadOf w_SnapshotsAndClears_6 ((256 : Mb)) ((9 : Fin 64))) 0 / 128)).snapSeen = true) ∧
    after (exec (.lossRead ((256 : Mb)) ((9 : Fin 64))) w_SnapshotsAndClears_6) (fun t => decide ((Done t ((256 : Mb)) ((9 : Fin 64)) (cmdOf w_SnapshotsAndClears_6 ((256 : Mb)) ((9 : Fin 64))) 0 (w_SnapshotsAndClears_6.get (RED_SNAP_SEQ_seq (u16 (payloadOf w_SnapshotsAndClears_6 ((256 : Mb)) ((9 : Fin 64))) 0 / 128)) % 65536) ((if 3 ≤ u8 (payloadOf w_SnapshotsAndClears_6 ((256 : Mb)) ((9 : Fin 64))) 3 then (clampI 0 (2 ^ 64 - 1) ((w_SnapshotsAndClears_6.st (u16 (payloadOf w_SnapshotsAndClears_6 ((256 : Mb)) ((9 : Fin 64))) 0)).snap.sel (u8 (payloadOf w_SnapshotsAndClears_6 ((256 : Mb)) ((9 : Fin 64))) 3))).toNat else toField 64 (sat64 ((w_SnapshotsAndClears_6.st (u16 (payloadOf w_SnapshotsAndClears_6 ((256 : Mb)) ((9 : Fin 64))) 0)).snap.sel (u8 (payloadOf w_SnapshotsAndClears_6 ((256 : Mb)) ((9 : Fin 64))) 3)))))) ∧ (t.stitches = w_SnapshotsAndClears_6.stitches))) = true := by decide +kernel

def w_SnapshotsAndClears_7 : State :=
    withCmd (((unitA.updSt 389 (fun y => { y with skein := some 7, state := 2, reduced := some 99, resOf := [(100, 1)], desc := { vinLsb := 256, iphLsb := 256, voutLsb := 256 } })).updSk 7 (fun x => { x with known := true, slot := 3, stitches := [5], base := 100, stepped := 100, hz := 800000 }))) 256 9 0x541 [133, 1, 0, 2]

theorem test_SnapshotsAndClears_7 :
    (Ready w_SnapshotsAndClears_7 ((256 : Mb)) ((9 : Fin 64)) 0x541) ∧
    (u8 (payloadOf w_SnapshotsAndClears_7 ((256 : Mb)) ((9 : Fin 64))) 2 = 0) ∧
    (u8 (payloadOf w_SnapshotsAndClears_7 ((256 : Mb)) ((9 : Fin 64))) 3 ≤ 4) ∧
    ((resv (payloadOf w_SnapshotsAndClears_7 ((256 : Mb)) ((9 : Fin 64))) 4 16).2 = false) ∧
    (w_SnapshotsAndClears_7.stitchBad ((256 : Mb)) (u16 (payloadOf w_SnapshotsAndClears_7 ((256 : Mb)) ((9 : Fin 64))) 0) = false) ∧
    ((w_SnapshotsAndClears_7.port (u16 (payloadOf w_SnapshotsAndClears_7 ((256 : Mb)) ((9 : Fin 64))) 0 / 128)).snapSeen = false) ∧
    after (exec (.lossRead ((256 : Mb)) ((9 : Fin 64))) w_SnapshotsAndClears_7) (fun t => decide ((Done t ((256 : Mb)) ((9 : Fin 64)) (cmdOf w_SnapshotsAndClears_7 ((256 : Mb)) ((9 : Fin 64))) 0 0 0) ∧ (t.stitches = w_SnapshotsAndClears_7.stitches))) = true := by decide +kernel

def w_LoopStepKeepsTheLaw_1 : State :=
    ((unitA.updSt 389 (fun y => { y with skein := some 7, state := 2, desc := { vinLsb := 256, iphLsb := 256, voutLsb := 256 } })).updSk 7 (fun x => { x with known := true, slot := 3, stitches := [5], base := 100, stepped := 100, hz := 800000, engine := some 2 })).updSt 389 (fun y => { y with due := true })

theorem test_LoopStepKeepsTheLaw_1 :
    ((w_LoopStepKeepsTheLaw_1.sk ((7 : Fin 2048))).engine = some 2) := by decide +kernel

def w_LoopStepKeepsTheLaw_2 : State :=
    ((unitA.updSt 389 (fun y => { y with skein := some 7, state := 2, desc := { vinLsb := 256, iphLsb := 256, voutLsb := 256 } })).updSk 7 (fun x => { x with known := true, slot := 3, stitches := [5], base := 100, stepped := 100, hz := 800000, engine := some 2 })).updSt 389 (fun y => { y with due := true, last := { cycle := 101 } })

theorem test_LoopStepKeepsTheLaw_2 :
    ((w_LoopStepKeepsTheLaw_2.sk ((7 : Fin 2048))).engine = some 2) ∧
    (2 < 128) ∧
    (3 = (w_LoopStepKeepsTheLaw_2.sk ((7 : Fin 2048))).slot) ∧
    (3 < 64) ∧
    (w_LoopStepKeepsTheLaw_2.bound ((7 : Fin 2048)) = [128 * 3 + ((5 : Fin 128)).val]) ∧
    ((w_LoopStepKeepsTheLaw_2.st (128 * 3 + ((5 : Fin 128)).val)).due = true) ∧
    (101 = (w_LoopStepKeepsTheLaw_2.st (128 * 3 + ((5 : Fin 128)).val)).last.cycle) ∧
    (cycLe 101 (w_LoopStepKeepsTheLaw_2.sk ((7 : Fin 2048))).stepped = false) ∧
    (w_LoopStepKeepsTheLaw_2.skSt ((7 : Fin 2048)) = 0) ∧
    ((w_LoopStepKeepsTheLaw_2.sk ((7 : Fin 2048))).wantStart = false) ∧
    ((w_LoopStepKeepsTheLaw_2.sk ((7 : Fin 2048))).running = []) ∧
    ((w_LoopStepKeepsTheLaw_2.sk ((7 : Fin 2048))).nextRunning = []) ∧
    ((w_LoopStepKeepsTheLaw_2.sk ((7 : Fin 2048))).leads = []) ∧
    ((w_LoopStepKeepsTheLaw_2.sk ((7 : Fin 2048))).loads = []) ∧
    ((w_LoopStepKeepsTheLaw_2.sk ((7 : Fin 2048))).acts = []) ∧
    ((w_LoopStepKeepsTheLaw_2.sk ((7 : Fin 2048))).countAt = none) ∧
    ((w_LoopStepKeepsTheLaw_2.sk ((7 : Fin 2048))).moved = none) ∧
    ((w_LoopStepKeepsTheLaw_2.sk ((7 : Fin 2048))).offAt = none) ∧
    ((w_LoopStepKeepsTheLaw_2.sk ((7 : Fin 2048))).moveTo = none) ∧
    ((w_LoopStepKeepsTheLaw_2.sk ((7 : Fin 2048))).shadow = none) ∧
    ((w_LoopStepKeepsTheLaw_2.sk ((7 : Fin 2048))).overruns = 0) ∧
    ((w_LoopStepKeepsTheLaw_2.st (128 * 3 + ((5 : Fin 128)).val)).postedTo = none) ∧
    (w_LoopStepKeepsTheLaw_2.is (ARB_MASK_bit 3 (2 % 32)) = false) ∧
    ((w_LoopStepKeepsTheLaw_2.port 3).queue = []) ∧
    ((w_LoopStepKeepsTheLaw_2.port 3).held = []) ∧
    ((w_LoopStepKeepsTheLaw_2.port 3).locksDropped = []) ∧
    (Tbl.find? (w_LoopStepKeepsTheLaw_2.port 3).lastGrant ((5 : Fin 128)).val = none) ∧
    (w_LoopStepKeepsTheLaw_2.bufferOf 2 < 16) ∧
    (Mild w_LoopStepKeepsTheLaw_2 [.engOverrun, .skeinDegraded, .skeinUv, .stitchSense]) ∧
    (w_LoopStepKeepsTheLaw_2.railSkeins 3 = []) ∧
    (w_LoopStepKeepsTheLaw_2.slSt 3 ≠ 4) ∧
    ((w_LoopStepKeepsTheLaw_2.sk ((7 : Fin 2048))).waitDigest = none) := by decide +kernel

def w_LoopStepKeepsTheLaw_3 : State :=
    ((unitA.updSt 389 (fun y => { y with skein := some 7, state := 2, desc := { vinLsb := 256, iphLsb := 256, voutLsb := 256 } })).updSk 7 (fun x => { x with known := true, slot := 3, stitches := [5], base := 100, stepped := 100, hz := 800000, engine := some 2 }))

theorem test_LoopStepKeepsTheLaw_3 :
    ((w_LoopStepKeepsTheLaw_3.sk ((7 : Fin 2048))).engine = none ∨ (w_LoopStepKeepsTheLaw_3.bound ((7 : Fin 2048))).all (fun g => !(w_LoopStepKeepsTheLaw_3.st g).due) = true) ∧
    after (exec (.skeinStep ((7 : Fin 2048)) ([(5 : Fin 128)])) w_LoopStepKeepsTheLaw_3) (fun t => decide ((t = w_LoopStepKeepsTheLaw_3))) = true := by decide +kernel

theorem test_LoopStepKeepsTheLaw_4 :
    (((({} : Skein)).lawStep 4 (some ((9 : Int))) true).job.e1 = ((9 : Int))) ∧
    (((({} : Skein)).lawStep 4 (some ((9 : Int))) true).job.e2 = (({} : Skein)).job.e1) := by decide +kernel

theorem test_LoopStepKeepsTheLaw_5 :
    (((({} : Skein)).lawStep 4 none true).job.e1 = (({} : Skein)).job.e1) ∧
    (((({} : Skein)).lawStep 4 none true).job.e2 = (({} : Skein)).job.e2) ∧
    (((({} : Skein)).lawStep 4 none true).lastDu = 0) := by decide +kernel

theorem test_LoopStepKeepsTheLaw_6 :
    (((({} : Skein)).lawStep 4 ((some 700 : Option Int)) true).lastDu ≤ 0) := by decide +kernel

theorem test_LoopStepKeepsTheLaw_7 :
    ((({ law := { uMin := 5, uMax := 9 } } : Skein)).law.uMin ≤ (({ law := { uMin := 5, uMax := 9 } } : Skein)).law.uMax) ∧
    (((({ law := { uMin := 5, uMax := 9 } } : Skein)).law.uMin : Int) * 32768 ≤ ((({ law := { uMin := 5, uMax := 9 } } : Skein)).lawStep 4 ((some 700 : Option Int)) false).job.u) ∧
    (((({ law := { uMin := 5, uMax := 9 } } : Skein)).lawStep 4 ((some 700 : Option Int)) false).job.u ≤ ((({ law := { uMin := 5, uMax := 9 } } : Skein)).law.uMax : Int) * 32768) := by decide +kernel

theorem test_LoopStepKeepsTheLaw_8 :
    (((({ law := { uMin := 5, uMax := 9 } } : Skein)).lawStep 4 ((some 700 : Option Int)) false).job.u = clampI ((({ law := { uMin := 5, uMax := 9 } } : Skein)).law.uMin * 32768) ((({ law := { uMin := 5, uMax := 9 } } : Skein)).law.uMax * 32768) ((({ law := { uMin := 5, uMax := 9 } } : Skein)).job.u + ((({ law := { uMin := 5, uMax := 9 } } : Skein)).lawStep 4 ((some 700 : Option Int)) false).lastDu + (shl ((({ law := { uMin := 5, uMax := 9 } } : Skein)).law.kstep * ((({ law := { uMin := 5, uMax := 9 } } : Skein)).lawStep 4 ((some 700 : Option Int)) false).lastDelta) (({ law := { uMin := 5, uMax := 9 } } : Skein)).law.kstepExp).1)) := by decide +kernel

theorem test_LoopStepKeepsTheLaw_9 :
    ((({ lim := { dmin := 5, dmax := 9 } } : Skein)).lim.dmin ≤ (({ lim := { dmin := 5, dmax := 9 } } : Skein)).lim.dmax) ∧
    (((({ lim := { dmin := 5, dmax := 9 } } : Skein)).lim.dmin : Int) ≤ ((({ lim := { dmin := 5, dmax := 9 } } : Skein)).dutyOf ((16384 : Int)) ((0 : Int))).1) ∧
    (((({ lim := { dmin := 5, dmax := 9 } } : Skein)).dutyOf ((16384 : Int)) ((0 : Int))).1 ≤ ((({ lim := { dmin := 5, dmax := 9 } } : Skein)).lim.dmax : Int)) := by decide +kernel

def w_EnginesFaultRestartAndReset_1 : State :=
    ((unitA.updSt 389 (fun y => { y with skein := some 7, state := 2, desc := { vinLsb := 256, iphLsb := 256, voutLsb := 256 } })).updSk 7 (fun x => { x with known := true, slot := 3, stitches := [5], base := 100, stepped := 100, hz := 800000, engine := some 2 })).updSk 7 (fun x => { x with shadow := some (30, false, 0) })

theorem test_EnginesFaultRestartAndReset_1 :
    after (exec (.jobCopyDone ((7 : Fin 2048))) w_EnginesFaultRestartAndReset_1) (fun t => decide (((t.sk ((7 : Fin 2048))).shadow = (w_EnginesFaultRestartAndReset_1.sk ((7 : Fin 2048))).shadow.map (fun (x : Nat × Bool × Nat) => (x.1, true, x.2.2))) ∧ ((t.sk ((7 : Fin 2048))).job = (w_EnginesFaultRestartAndReset_1.sk ((7 : Fin 2048))).job) ∧ (t.stitches = w_EnginesFaultRestartAndReset_1.stitches) ∧ (t.regs = w_EnginesFaultRestartAndReset_1.regs) ∧ (t.mem = w_EnginesFaultRestartAndReset_1.mem))) = true := by decide +kernel

theorem test_EnginesFaultRestartAndReset_2 :
    (Runs unitA) ∧
    (unitA.get (ENG_STATUS_state ((2 : Fin 128))) ≠ 3) ∧
    (unitA.jobs ((2 : Fin 128)) = []) ∧
    (unitA.skeins.all (fun (x : Nat × Skein) => decide (x.2.shadow = none) && decide (x.2.moveTo = none)) = true) ∧
    (MayRaise unitA .engFault ((2 : Fin 128))) ∧
    after (exec (.engineFault ((2 : Fin 128))) unitA) (fun t => decide ((t.get (ENG_STATUS_state ((2 : Fin 128))) = 3) ∧ (∀ i : Fin 16, t.is (ARB_MASK_bit (16 * (((2 : Fin 128)).val / 32) + i.val) (((2 : Fin 128)).val % 32)) = true) ∧ (t.raised .engFault ((2 : Fin 128)) = true) ∧ (t.stitches = unitA.stitches))) = true := by decide +kernel

def w_EnginesFaultRestartAndReset_3 : State :=
    (List.range 32).foldl (fun (z : State) (i : Nat) => z.setF (ENG_CTRL_en i) 0) (unitA.updSk 7 (fun x => { x with known := true, slot := 3, unplaced := true }))

theorem test_EnginesFaultRestartAndReset_3 :
    (NoRung w_EnginesFaultRestartAndReset_3) ∧
    ((w_EnginesFaultRestartAndReset_3.sk ((7 : Fin 2048))).unplaced = true) ∧
    (w_EnginesFaultRestartAndReset_3.restartEngine ((7 : Fin 2048)) = none) ∧
    ((w_EnginesFaultRestartAndReset_3.sk ((7 : Fin 2048))).engine = none) ∧
    ((w_EnginesFaultRestartAndReset_3.sk ((7 : Fin 2048))).moveFor = none) ∧
    after (exec (.jobPlaceRetry ((7 : Fin 2048))) w_EnginesFaultRestartAndReset_3) (fun t => decide (((t.sk ((7 : Fin 2048))).unplaced = true) ∧ ((t.sk ((7 : Fin 2048))).engine = none) ∧ (t.regs = w_EnginesFaultRestartAndReset_3.regs) ∧ (t.stitches = w_EnginesFaultRestartAndReset_3.stitches) ∧ (t.mem = w_EnginesFaultRestartAndReset_3.mem))) = true := by decide +kernel

def w_EnginesFaultRestartAndReset_4 : State :=
    unitA.updSk 7 (fun x => { x with known := true, slot := 3, unplaced := true })

theorem test_EnginesFaultRestartAndReset_4 :
    (NoRung w_EnginesFaultRestartAndReset_4) ∧
    ((w_EnginesFaultRestartAndReset_4.sk ((7 : Fin 2048))).unplaced = true) ∧
    (w_EnginesFaultRestartAndReset_4.restartEngine ((7 : Fin 2048)) = some 30) ∧
    ((w_EnginesFaultRestartAndReset_4.sk ((7 : Fin 2048))).engine = none) ∧
    ((w_EnginesFaultRestartAndReset_4.sk ((7 : Fin 2048))).moveFor = none) ∧
    ((w_EnginesFaultRestartAndReset_4.sk ((7 : Fin 2048))).kept = []) ∧
    (w_EnginesFaultRestartAndReset_4.bound ((7 : Fin 2048)) = []) ∧
    after (exec (.jobPlaceRetry ((7 : Fin 2048))) w_EnginesFaultRestartAndReset_4) (fun t => decide (((t.sk ((7 : Fin 2048))).unplaced = false) ∧ ((t.sk ((7 : Fin 2048))).engine = some 30) ∧ ((t.sk ((7 : Fin 2048))).job = { (w_EnginesFaultRestartAndReset_4.sk ((7 : Fin 2048))).job with shares := (w_EnginesFaultRestartAndReset_4.sk ((7 : Fin 2048))).check.shares }))) = true := by decide +kernel

theorem test_EnginesFaultRestartAndReset_5 :
    (Runs unitA) ∧
    (NoRung unitA) ∧
    (unitA.hwTouched = []) ∧
    (unitA.get (ENG_STATUS_state ((2 : Fin 128))) ≠ 2) ∧
    (unitA.is (ENG_CTRL_en ((2 : Fin 128))) = true) ∧
    (unitA.jobs ((2 : Fin 128)) = []) ∧
    (unitA.skeins.all (fun (x : Nat × Skein) => decide (x.2.shadow = none) && decide (x.2.moveTo = none)) = true) ∧
    (((0 : Word)).bit 0 = false) ∧
    after (exec (.engDisable ((2 : Fin 128)) ((0 : Word))) unitA) (fun t => decide ((t.get (ENG_CTRL_en ((2 : Fin 128))) = 0) ∧ (∀ i : Fin 16, t.is (ARB_MASK_bit (16 * (((2 : Fin 128)).val / 32) + i.val) (((2 : Fin 128)).val % 32)) = true) ∧ (t.mem = unitA.mem))) = true := by decide +kernel

def w_EnginesFaultRestartAndReset_6 : State :=
    (unitA.updEng 2 (fun x => { x with testFor := some (256, 9) })).setF (ENG_STATUS_state 2) 2

theorem test_EnginesFaultRestartAndReset_6 :
    (NoRung w_EnginesFaultRestartAndReset_6) ∧
    ((w_EnginesFaultRestartAndReset_6.eng ((2 : Fin 128))).testFor = some (((256 : Mb)).val, ((9 : Fin 64)).val)) ∧
    (MemWf w_EnginesFaultRestartAndReset_6) ∧
    (w_EnginesFaultRestartAndReset_6.ringFull ((256 : Mb)) = false) ∧
    ((w_EnginesFaultRestartAndReset_6.mbx ((256 : Mb))).cqWait = []) ∧
    (w_EnginesFaultRestartAndReset_6.jobs ((2 : Fin 128)) = []) ∧
    after (exec (.engSelfTestDone ((2 : Fin 128)) true) w_EnginesFaultRestartAndReset_6) (fun t => decide (((t.eng ((2 : Fin 128))).testFor = none) ∧ (t.get (ENG_STATUS_state ((2 : Fin 128))) = 0) ∧ (t.is (ENG_STATUS_slow ((2 : Fin 128))) = false) ∧ (t.raised .engFault ((2 : Fin 128)) = false) ∧ (w_EnginesFaultRestartAndReset_6.is (ENG_CTRL_en ((2 : Fin 128))) = true → ∀ i : Fin 16, t.is (ARB_MASK_bit (16 * (((2 : Fin 128)).val / 32) + i.val) (((2 : Fin 128)).val % 32)) = false) ∧ (Done t ((256 : Mb)) ((9 : Fin 64)) (cmdOf w_EnginesFaultRestartAndReset_6 ((256 : Mb)) ((9 : Fin 64))) 0 0 0))) = true := by decide +kernel

def w_EnginesFaultRestartAndReset_7 : State :=
    (unitA.updEng 2 (fun x => { x with testFor := some (256, 9) })).setF (ENG_STATUS_state 2) 2

theorem test_EnginesFaultRestartAndReset_7 :
    (NoRung w_EnginesFaultRestartAndReset_7) ∧
    (MemWf w_EnginesFaultRestartAndReset_7) ∧
    ((w_EnginesFaultRestartAndReset_7.eng ((2 : Fin 128))).testFor = some (((256 : Mb)).val, ((9 : Fin 64)).val)) ∧
    (w_EnginesFaultRestartAndReset_7.ringFull ((256 : Mb)) = false) ∧
    ((w_EnginesFaultRestartAndReset_7.mbx ((256 : Mb))).cqWait = []) ∧
    (Tail w_EnginesFaultRestartAndReset_7 ((256 : Mb)) ((9 : Fin 64))) ∧
    after (exec (.engSelfTestDone ((2 : Fin 128)) false) w_EnginesFaultRestartAndReset_7) (fun t => decide (((t.eng ((2 : Fin 128))).testFor = none) ∧ (t.get (ENG_STATUS_state ((2 : Fin 128))) = w_EnginesFaultRestartAndReset_7.get (ENG_STATUS_state ((2 : Fin 128)))) ∧ (Done t ((256 : Mb)) ((9 : Fin 64)) (cmdOf w_EnginesFaultRestartAndReset_7 ((256 : Mb)) ((9 : Fin 64))) 9 0 0))) = true := by decide +kernel

def w_EnginesFaultRestartAndReset_8 : State :=
    (withCmd (((unitA.updSt 389 (fun y => { y with skein := some 7, state := 2, desc := { vinLsb := 256, iphLsb := 256, voutLsb := 256 } })).updSk 7 (fun x => { x with known := true, slot := 3, stitches := [5], base := 100, stepped := 100, hz := 800000, engine := some 2 }))) 256 9 0x606 [4])

theorem test_EnginesFaultRestartAndReset_8 :
    (Ready w_EnginesFaultRestartAndReset_8 ((256 : Mb)) ((9 : Fin 64)) 0x606) ∧
    (u8 (payloadOf w_EnginesFaultRestartAndReset_8 ((256 : Mb)) ((9 : Fin 64))) 0 < 128) ∧
    (w_EnginesFaultRestartAndReset_8.jobs (u8 (payloadOf w_EnginesFaultRestartAndReset_8 ((256 : Mb)) ((9 : Fin 64))) 0) = []) ∧
    (w_EnginesFaultRestartAndReset_8.get (ENG_STATUS_state (u8 (payloadOf w_EnginesFaultRestartAndReset_8 ((256 : Mb)) ((9 : Fin 64))) 0)) ≠ 2) ∧
    (w_EnginesFaultRestartAndReset_8.skeins.all (fun (x : Nat × Skein) => decide (x.2.shadow = none) && decide (x.2.moveTo = none)) = true) ∧
    after (exec (.engReset ((256 : Mb)) ((9 : Fin 64))) w_EnginesFaultRestartAndReset_8) (fun t => decide ((t.get (ENG_STATUS_state (u8 (payloadOf w_EnginesFaultRestartAndReset_8 ((256 : Mb)) ((9 : Fin 64))) 0)) = 2) ∧ ((t.eng (u8 (payloadOf w_EnginesFaultRestartAndReset_8 ((256 : Mb)) ((9 : Fin 64))) 0)).testFor = some (((256 : Mb)).val, ((9 : Fin 64)).val)) ∧ (∀ i : Fin 16, t.is (ARB_MASK_bit (16 * (u8 (payloadOf w_EnginesFaultRestartAndReset_8 ((256 : Mb)) ((9 : Fin 64))) 0 / 32) + i.val) (u8 (payloadOf w_EnginesFaultRestartAndReset_8 ((256 : Mb)) ((9 : Fin 64))) 0 % 32)) = true) ∧ ((cmdOf t ((256 : Mb)) ((9 : Fin 64))).phase = .started) ∧ (t.stitches = w_EnginesFaultRestartAndReset_8.stitches))) = true := by decide +kernel

def w_EnginesFaultRestartAndReset_9 : State :=
    (withCmd (((unitA.updSt 389 (fun y => { y with skein := some 7, state := 2, desc := { vinLsb := 256, iphLsb := 256, voutLsb := 256 } })).updSk 7 (fun x => { x with known := true, slot := 3, stitches := [5], base := 100, stepped := 100, hz := 800000, engine := some 2 }))) 256 9 0x605 [7, 0, 4])

theorem test_EnginesFaultRestartAndReset_9 :
    (Ready w_EnginesFaultRestartAndReset_9 ((256 : Mb)) ((9 : Fin 64)) 0x605) ∧
    (w_EnginesFaultRestartAndReset_9.skeinBad ((256 : Mb)) (u16 (payloadOf w_EnginesFaultRestartAndReset_9 ((256 : Mb)) ((9 : Fin 64))) 0) = false) ∧
    (w_EnginesFaultRestartAndReset_9.ownsPort (w_EnginesFaultRestartAndReset_9.sk (u16 (payloadOf w_EnginesFaultRestartAndReset_9 ((256 : Mb)) ((9 : Fin 64))) 0)).slot = true) ∧
    ((w_EnginesFaultRestartAndReset_9.sk (u16 (payloadOf w_EnginesFaultRestartAndReset_9 ((256 : Mb)) ((9 : Fin 64))) 0)).engine = some 2) ∧
    (u8 (payloadOf w_EnginesFaultRestartAndReset_9 ((256 : Mb)) ((9 : Fin 64))) 2 ≠ 2) ∧
    (u8 (payloadOf w_EnginesFaultRestartAndReset_9 ((256 : Mb)) ((9 : Fin 64))) 2 / 32 = (w_EnginesFaultRestartAndReset_9.sk (u16 (payloadOf w_EnginesFaultRestartAndReset_9 ((256 : Mb)) ((9 : Fin 64))) 0)).slot / 16) ∧
    (w_EnginesFaultRestartAndReset_9.roomFor (u8 (payloadOf w_EnginesFaultRestartAndReset_9 ((256 : Mb)) ((9 : Fin 64))) 2) (u16 (payloadOf w_EnginesFaultRestartAndReset_9 ((256 : Mb)) ((9 : Fin 64))) 0) = true) ∧
    ((w_EnginesFaultRestartAndReset_9.sk (u16 (payloadOf w_EnginesFaultRestartAndReset_9 ((256 : Mb)) ((9 : Fin 64))) 0)).moveTo = none) ∧
    after (exec (.engJobMove ((256 : Mb)) ((9 : Fin 64))) w_EnginesFaultRestartAndReset_9) (fun t => decide (((t.sk (u16 (payloadOf w_EnginesFaultRestartAndReset_9 ((256 : Mb)) ((9 : Fin 64))) 0)).moveTo = some (u8 (payloadOf w_EnginesFaultRestartAndReset_9 ((256 : Mb)) ((9 : Fin 64))) 2)) ∧ ((t.sk (u16 (payloadOf w_EnginesFaultRestartAndReset_9 ((256 : Mb)) ((9 : Fin 64))) 0)).moveFor = some (((256 : Mb)).val, ((9 : Fin 64)).val)) ∧ ((t.sk (u16 (payloadOf w_EnginesFaultRestartAndReset_9 ((256 : Mb)) ((9 : Fin 64))) 0)).engine = some 2) ∧ ((cmdOf t ((256 : Mb)) ((9 : Fin 64))).phase = .started) ∧ (t.stitches = w_EnginesFaultRestartAndReset_9.stitches))) = true := by decide +kernel

def w_LawLoadsTakeEffectAtAStep_1 : State :=
    (withCmd (((unitA.updSt 389 (fun y => { y with skein := some 7, state := 2, desc := { vinLsb := 256, iphLsb := 256, voutLsb := 256 } })).updSk 7 (fun x => { x with known := true, slot := 3, stitches := [5], base := 100, stepped := 100, hz := 800000, engine := some 2 }))) 256 9 0x421 [7, 0, 9, 0, 0, 0, 0, 0, 1, 2])

theorem test_LawLoadsTakeEffectAtAStep_1 :
    (Ready w_LawLoadsTakeEffectAtAStep_1 ((256 : Mb)) ((9 : Fin 64)) 0x421) ∧
    (NoRung w_LawLoadsTakeEffectAtAStep_1) ∧
    (Passes w_LawLoadsTakeEffectAtAStep_1 (gaintabChecks w_LawLoadsTakeEffectAtAStep_1 ((256 : Mb)) (payloadOf w_LawLoadsTakeEffectAtAStep_1 ((256 : Mb)) ((9 : Fin 64))))) ∧
    ((w_LawLoadsTakeEffectAtAStep_1.sk (u16 (payloadOf w_LawLoadsTakeEffectAtAStep_1 ((256 : Mb)) ((9 : Fin 64))) 0)).engine.isSome = true) ∧
    after (exec (.skeinLoadGaintab ((256 : Mb)) ((9 : Fin 64))) w_LawLoadsTakeEffectAtAStep_1) (fun t => decide (((t.sk (u16 (payloadOf w_LawLoadsTakeEffectAtAStep_1 ((256 : Mb)) ((9 : Fin 64))) 0)).loads = (w_LawLoadsTakeEffectAtAStep_1.sk (u16 (payloadOf w_LawLoadsTakeEffectAtAStep_1 ((256 : Mb)) ((9 : Fin 64))) 0)).loads ++ [(gaintabOf (payloadOf w_LawLoadsTakeEffectAtAStep_1 ((256 : Mb)) ((9 : Fin 64))), some (((256 : Mb)).val, ((9 : Fin 64)).val))]) ∧ ((t.sk (u16 (payloadOf w_LawLoadsTakeEffectAtAStep_1 ((256 : Mb)) ((9 : Fin 64))) 0)).gtab = (w_LawLoadsTakeEffectAtAStep_1.sk (u16 (payloadOf w_LawLoadsTakeEffectAtAStep_1 ((256 : Mb)) ((9 : Fin 64))) 0)).gtab) ∧ ((cmdOf t ((256 : Mb)) ((9 : Fin 64))).phase = .started) ∧ (t.stitches = w_LawLoadsTakeEffectAtAStep_1.stitches) ∧ (t.mem = w_LawLoadsTakeEffectAtAStep_1.mem))) = true := by decide +kernel

def w_LawLoadsTakeEffectAtAStep_2 : State :=
    (withCmd (((unitA.updSt 389 (fun y => { y with skein := some 7, state := 2, desc := { vinLsb := 256, iphLsb := 256, voutLsb := 256 } })).updSk 7 (fun x => { x with known := true, slot := 3, stitches := [5], base := 100, stepped := 100, hz := 800000, engine := some 2 }))) 256 9 0x422 [7, 0, 2, 3, 0, 0, 0, 0, 5, 0, 0, 0, 9, 0, 0, 0, 13, 0, 0, 0, 17, 0, 0, 0, 18, 0, 0, 0, 19, 0, 0, 0, 20])

theorem test_LawLoadsTakeEffectAtAStep_2 :
    (Ready w_LawLoadsTakeEffectAtAStep_2 ((256 : Mb)) ((9 : Fin 64)) 0x422) ∧
    (NoRung w_LawLoadsTakeEffectAtAStep_2) ∧
    (Passes w_LawLoadsTakeEffectAtAStep_2 (schedChecks w_LawLoadsTakeEffectAtAStep_2 ((256 : Mb)) (payloadOf w_LawLoadsTakeEffectAtAStep_2 ((256 : Mb)) ((9 : Fin 64))))) ∧
    ((w_LawLoadsTakeEffectAtAStep_2.sk (u16 (payloadOf w_LawLoadsTakeEffectAtAStep_2 ((256 : Mb)) ((9 : Fin 64))) 0)).engine.isSome = true) ∧
    after (exec (.skeinLoadSchedule ((256 : Mb)) ((9 : Fin 64))) w_LawLoadsTakeEffectAtAStep_2) (fun t => decide (((t.sk (u16 (payloadOf w_LawLoadsTakeEffectAtAStep_2 ((256 : Mb)) ((9 : Fin 64))) 0)).loads = (w_LawLoadsTakeEffectAtAStep_2.sk (u16 (payloadOf w_LawLoadsTakeEffectAtAStep_2 ((256 : Mb)) ((9 : Fin 64))) 0)).loads ++ [(schedOf (payloadOf w_LawLoadsTakeEffectAtAStep_2 ((256 : Mb)) ((9 : Fin 64))), some (((256 : Mb)).val, ((9 : Fin 64)).val))]) ∧ ((t.sk (u16 (payloadOf w_LawLoadsTakeEffectAtAStep_2 ((256 : Mb)) ((9 : Fin 64))) 0)).sched = (w_LawLoadsTakeEffectAtAStep_2.sk (u16 (payloadOf w_LawLoadsTakeEffectAtAStep_2 ((256 : Mb)) ((9 : Fin 64))) 0)).sched) ∧ ((cmdOf t ((256 : Mb)) ((9 : Fin 64))).phase = .started) ∧ (t.stitches = w_LawLoadsTakeEffectAtAStep_2.stitches) ∧ (t.mem = w_LawLoadsTakeEffectAtAStep_2.mem))) = true := by decide +kernel

def w_LawLoadsTakeEffectAtAStep_3 : State :=
    (withCmd (((unitA.updSt 389 (fun y => { y with skein := some 7, state := 2, desc := { vinLsb := 256, iphLsb := 256, voutLsb := 256 } })).updSk 7 (fun x => { x with known := true, slot := 3, stitches := [5], base := 100, stepped := 100, hz := 800000, engine := some 2 }))) 256 9 0x423 [7, 0, 1, 4, 1, 0, 0, 0, 1, 0, 0, 0, 1, 0, 0, 0, 0, 0, 9, 0])

theorem test_LawLoadsTakeEffectAtAStep_3 :
    (Ready w_LawLoadsTakeEffectAtAStep_3 ((256 : Mb)) ((9 : Fin 64)) 0x423) ∧
    (NoRung w_LawLoadsTakeEffectAtAStep_3) ∧
    (Passes w_LawLoadsTakeEffectAtAStep_3 (lawChecks w_LawLoadsTakeEffectAtAStep_3 ((256 : Mb)) (payloadOf w_LawLoadsTakeEffectAtAStep_3 ((256 : Mb)) ((9 : Fin 64))))) ∧
    ((w_LawLoadsTakeEffectAtAStep_3.sk (u16 (payloadOf w_LawLoadsTakeEffectAtAStep_3 ((256 : Mb)) ((9 : Fin 64))) 0)).engine.isSome = true) ∧
    after (exec (.skeinLoadLaw ((256 : Mb)) ((9 : Fin 64))) w_LawLoadsTakeEffectAtAStep_3) (fun t => decide (((t.sk (u16 (payloadOf w_LawLoadsTakeEffectAtAStep_3 ((256 : Mb)) ((9 : Fin 64))) 0)).loads = (w_LawLoadsTakeEffectAtAStep_3.sk (u16 (payloadOf w_LawLoadsTakeEffectAtAStep_3 ((256 : Mb)) ((9 : Fin 64))) 0)).loads ++ [(lawOf (payloadOf w_LawLoadsTakeEffectAtAStep_3 ((256 : Mb)) ((9 : Fin 64))), some (((256 : Mb)).val, ((9 : Fin 64)).val))]) ∧ ((t.sk (u16 (payloadOf w_LawLoadsTakeEffectAtAStep_3 ((256 : Mb)) ((9 : Fin 64))) 0)).law = (w_LawLoadsTakeEffectAtAStep_3.sk (u16 (payloadOf w_LawLoadsTakeEffectAtAStep_3 ((256 : Mb)) ((9 : Fin 64))) 0)).law) ∧ ((cmdOf t ((256 : Mb)) ((9 : Fin 64))).phase = .started) ∧ (t.stitches = w_LawLoadsTakeEffectAtAStep_3.stitches) ∧ (t.mem = w_LawLoadsTakeEffectAtAStep_3.mem))) = true := by decide +kernel

theorem test_LawLoadsTakeEffectAtAStep_4 :
    (7 < 2048) ∧
    (((unitA.applyLoad 7 (.gaintab 9 ([1, 2]))).sk 7).gtab = ([1, 2])) ∧
    (((unitA.applyLoad 7 (.gaintab 9 ([1, 2]))).sk 7).idxShift = 9) ∧
    (((unitA.applyLoad 7 (.gaintab 9 ([1, 2]))).sk 7).law = (unitA.sk 7).law) ∧
    (((unitA.applyLoad 7 (.law ({ uMax := 4 }))).sk 7).law = ({ uMax := 4 })) ∧
    (((unitA.applyLoad 7 (.law ({ uMax := 4 }))).sk 7).sched = (unitA.sk 7).sched) ∧
    (((unitA.applyLoad 7 (.schedule ({ fixed := 2 }))).sk 7).sched = ({ fixed := 2 })) ∧
    (((unitA.applyLoad 7 (.schedule ({ fixed := 2 }))).sk 7).gtab = (unitA.sk 7).gtab) := by decide +kernel

def w_LawLoadsTakeEffectAtAStep_5 : State :=
    (withCmd (((unitA.updSt 389 (fun y => { y with skein := some 7, state := 2, desc := { vinLsb := 256, iphLsb := 256, voutLsb := 256 } })).updSk 7 (fun x => { x with known := true, slot := 3, stitches := [5], base := 100, stepped := 100, hz := 800000, engine := some 2 }))) 256 9 0x601 [7, 0, 1, 0, 2, 0, 0, 0, 0, 0, 0, 0, 5, 0, 1])

theorem test_LawLoadsTakeEffectAtAStep_5 :
    (Ready w_LawLoadsTakeEffectAtAStep_5 ((256 : Mb)) ((9 : Fin 64)) 0x601) ∧
    (NoRung w_LawLoadsTakeEffectAtAStep_5) ∧
    (w_LawLoadsTakeEffectAtAStep_5.level_ ≥ 2) ∧
    (w_LawLoadsTakeEffectAtAStep_5.skeinBad ((256 : Mb)) (u16 (payloadOf w_LawLoadsTakeEffectAtAStep_5 ((256 : Mb)) ((9 : Fin 64))) 0) = false) ∧
    (w_LawLoadsTakeEffectAtAStep_5.ownsPort (w_LawLoadsTakeEffectAtAStep_5.sk (u16 (payloadOf w_LawLoadsTakeEffectAtAStep_5 ((256 : Mb)) ((9 : Fin 64))) 0)).slot = true) ∧
    (w_LawLoadsTakeEffectAtAStep_5.get THM_STATUS_stage = 0) ∧
    ((w_LawLoadsTakeEffectAtAStep_5.sk (u16 (payloadOf w_LawLoadsTakeEffectAtAStep_5 ((256 : Mb)) ((9 : Fin 64))) 0)).engine = some 2) ∧
    ((w_LawLoadsTakeEffectAtAStep_5.eng 2).trace.skein = (u16 (payloadOf w_LawLoadsTakeEffectAtAStep_5 ((256 : Mb)) ((9 : Fin 64))) 0) ∨ (w_LawLoadsTakeEffectAtAStep_5.eng 2).trace.state = 0 ∨ (w_LawLoadsTakeEffectAtAStep_5.eng 2).trace.state = 3) ∧
    (u8 (payloadOf w_LawLoadsTakeEffectAtAStep_5 ((256 : Mb)) ((9 : Fin 64))) 2 = 1) ∧
    (u8 (payloadOf w_LawLoadsTakeEffectAtAStep_5 ((256 : Mb)) ((9 : Fin 64))) 3 = 0) ∧
    (u8 (payloadOf w_LawLoadsTakeEffectAtAStep_5 ((256 : Mb)) ((9 : Fin 64))) 4 ≤ 5) ∧
    ((resv (payloadOf w_LawLoadsTakeEffectAtAStep_5 ((256 : Mb)) ((9 : Fin 64))) 5 12).2 = false) ∧
    (u8 (payloadOf w_LawLoadsTakeEffectAtAStep_5 ((256 : Mb)) ((9 : Fin 64))) 12 < 128) ∧
    (u8 (payloadOf w_LawLoadsTakeEffectAtAStep_5 ((256 : Mb)) ((9 : Fin 64))) 13 = 0) ∧
    (1 ≤ u16 (payloadOf w_LawLoadsTakeEffectAtAStep_5 ((256 : Mb)) ((9 : Fin 64))) 14 ∧ u16 (payloadOf w_LawLoadsTakeEffectAtAStep_5 ((256 : Mb)) ((9 : Fin 64))) 14 ≤ 256) ∧
    (u8 (payloadOf w_LawLoadsTakeEffectAtAStep_5 ((256 : Mb)) ((9 : Fin 64))) 16 ≤ 4) ∧
    (u8 (payloadOf w_LawLoadsTakeEffectAtAStep_5 ((256 : Mb)) ((9 : Fin 64))) 17 = 0) ∧
    ((resv (payloadOf w_LawLoadsTakeEffectAtAStep_5 ((256 : Mb)) ((9 : Fin 64))) 22 24).2 = false) ∧
    after (exec (.engTraceArm ((256 : Mb)) ((9 : Fin 64))) w_LawLoadsTakeEffectAtAStep_5) (fun t => decide (((t.eng 2).trace = traceOf (payloadOf w_LawLoadsTakeEffectAtAStep_5 ((256 : Mb)) ((9 : Fin 64))) (w_LawLoadsTakeEffectAtAStep_5.skOwner (u16 (payloadOf w_LawLoadsTakeEffectAtAStep_5 ((256 : Mb)) ((9 : Fin 64))) 0))) ∧ (t.get (TRC_STATUS_state 2) = (if u8 (payloadOf w_LawLoadsTakeEffectAtAStep_5 ((256 : Mb)) ((9 : Fin 64))) 16 = 0 then 2 else 1)) ∧ (t.get (TRC_STATUS_records 2) = 0) ∧ (Done t ((256 : Mb)) ((9 : Fin 64)) (cmdOf w_LawLoadsTakeEffectAtAStep_5 ((256 : Mb)) ((9 : Fin 64))) 0 0 0) ∧ (t.skeins = w_LawLoadsTakeEffectAtAStep_5.skeins) ∧ (t.stitches = w_LawLoadsTakeEffectAtAStep_5.stitches))) = true := by decide +kernel

def w_LawLoadsTakeEffectAtAStep_6 : State :=
    (withCmd (((unitA.updSt 389 (fun y => { y with skein := some 7, state := 2, desc := { vinLsb := 256, iphLsb := 256, voutLsb := 256 } })).updSk 7 (fun x => { x with known := true, slot := 3, stitches := [5], base := 100, stepped := 100, hz := 800000, engine := some 2 }))) 256 9 0x602 [7, 0]).updEng 2 (fun x => { x with trace := { state := 1, skein := 7, nodes := [0] } })

theorem test_LawLoadsTakeEffectAtAStep_6 :
    (Ready w_LawLoadsTakeEffectAtAStep_6 ((256 : Mb)) ((9 : Fin 64)) 0x602) ∧
    (w_LawLoadsTakeEffectAtAStep_6.skeinBad ((256 : Mb)) (u16 (payloadOf w_LawLoadsTakeEffectAtAStep_6 ((256 : Mb)) ((9 : Fin 64))) 0) = false) ∧
    (((256 : Mb)).val = afMb) ∧
    (w_LawLoadsTakeEffectAtAStep_6.traceEngine (u16 (payloadOf w_LawLoadsTakeEffectAtAStep_6 ((256 : Mb)) ((9 : Fin 64))) 0) = some 2) ∧
    ((w_LawLoadsTakeEffectAtAStep_6.eng 2).trace.records = []) ∧
    after (exec (.engTraceRead ((256 : Mb)) ((9 : Fin 64))) w_LawLoadsTakeEffectAtAStep_6) (fun t => decide ((Done t ((256 : Mb)) ((9 : Fin 64)) (cmdOf w_LawLoadsTakeEffectAtAStep_6 ((256 : Mb)) ((9 : Fin 64))) 0 (w_LawLoadsTakeEffectAtAStep_6.eng 2).trace.size ((w_LawLoadsTakeEffectAtAStep_6.eng 2).trace.state * 2 ^ 32)) ∧ (t.engines = w_LawLoadsTakeEffectAtAStep_6.engines) ∧ (t.skeins = w_LawLoadsTakeEffectAtAStep_6.skeins))) = true := by decide +kernel

def w_LawLoadsTakeEffectAtAStep_7 : State :=
    (withCmd (((unitA.updSt 389 (fun y => { y with skein := some 7, state := 2, desc := { vinLsb := 256, iphLsb := 256, voutLsb := 256 } })).updSk 7 (fun x => { x with known := true, slot := 3, stitches := [5], base := 100, stepped := 100, hz := 800000, engine := some 2 }))) 256 9 0x602 [7, 0])

theorem test_LawLoadsTakeEffectAtAStep_7 :
    (Ready w_LawLoadsTakeEffectAtAStep_7 ((256 : Mb)) ((9 : Fin 64)) 0x602) ∧
    (w_LawLoadsTakeEffectAtAStep_7.skeinBad ((256 : Mb)) (u16 (payloadOf w_LawLoadsTakeEffectAtAStep_7 ((256 : Mb)) ((9 : Fin 64))) 0) = false) ∧
    (w_LawLoadsTakeEffectAtAStep_7.traceEngine (u16 (payloadOf w_LawLoadsTakeEffectAtAStep_7 ((256 : Mb)) ((9 : Fin 64))) 0) = none) ∧
    after (exec (.engTraceRead ((256 : Mb)) ((9 : Fin 64))) w_LawLoadsTakeEffectAtAStep_7) (fun t => decide ((Done t ((256 : Mb)) ((9 : Fin 64)) (cmdOf w_LawLoadsTakeEffectAtAStep_7 ((256 : Mb)) ((9 : Fin 64))) 0 0 0) ∧ (t.engines = w_LawLoadsTakeEffectAtAStep_7.engines) ∧ (t.skeins = w_LawLoadsTakeEffectAtAStep_7.skeins))) = true := by decide +kernel

def w_LawLoadsTakeEffectAtAStep_8 : State :=
    (withCmd (((unitA.updSt 389 (fun y => { y with skein := some 7, state := 2, desc := { vinLsb := 256, iphLsb := 256, voutLsb := 256 } })).updSk 7 (fun x => { x with known := true, slot := 3, stitches := [5], base := 100, stepped := 100, hz := 800000, engine := some 2 }))) 256 9 0x604 [7, 0])

theorem test_LawLoadsTakeEffectAtAStep_8 :
    (Ready w_LawLoadsTakeEffectAtAStep_8 ((256 : Mb)) ((9 : Fin 64)) 0x604) ∧
    (w_LawLoadsTakeEffectAtAStep_8.skeinBad ((256 : Mb)) (u16 (payloadOf w_LawLoadsTakeEffectAtAStep_8 ((256 : Mb)) ((9 : Fin 64))) 0) = false) ∧
    ((w_LawLoadsTakeEffectAtAStep_8.sk (u16 (payloadOf w_LawLoadsTakeEffectAtAStep_8 ((256 : Mb)) ((9 : Fin 64))) 0)).engine = some 2) ∧
    after (exec (.engJobQuery ((256 : Mb)) ((9 : Fin 64))) w_LawLoadsTakeEffectAtAStep_8) (fun t => decide ((Done t ((256 : Mb)) ((9 : Fin 64)) (cmdOf w_LawLoadsTakeEffectAtAStep_8 ((256 : Mb)) ((9 : Fin 64))) 0 0 (2 + (w_LawLoadsTakeEffectAtAStep_8.sk (u16 (payloadOf w_LawLoadsTakeEffectAtAStep_8 ((256 : Mb)) ((9 : Fin 64))) 0)).shadow.isSome.toNat * 2 ^ 7 + Nat.min (w_LawLoadsTakeEffectAtAStep_8.sk (u16 (payloadOf w_LawLoadsTakeEffectAtAStep_8 ((256 : Mb)) ((9 : Fin 64))) 0)).overruns 255 * 2 ^ 8 + (8 + 12 * (w_LawLoadsTakeEffectAtAStep_8.bound (u16 (payloadOf w_LawLoadsTakeEffectAtAStep_8 ((256 : Mb)) ((9 : Fin 64))) 0)).length) * 2 ^ 16 + Nat.min (w_LawLoadsTakeEffectAtAStep_8.sk (u16 (payloadOf w_LawLoadsTakeEffectAtAStep_8 ((256 : Mb)) ((9 : Fin 64))) 0)).spent 65535 * 2 ^ 32 + (w_LawLoadsTakeEffectAtAStep_8.sk (u16 (payloadOf w_LawLoadsTakeEffectAtAStep_8 ((256 : Mb)) ((9 : Fin 64))) 0)).job.region * 2 ^ 48 + (w_LawLoadsTakeEffectAtAStep_8.sk (u16 (payloadOf w_LawLoadsTakeEffectAtAStep_8 ((256 : Mb)) ((9 : Fin 64))) 0)).lastIdx * 2 ^ 51)) ∧ (t.engines = w_LawLoadsTakeEffectAtAStep_8.engines) ∧ (t.skeins = w_LawLoadsTakeEffectAtAStep_8.skeins))) = true := by decide +kernel

def w_LawLoadsTakeEffectAtAStep_9 : State :=
    (withCmd (((unitA.updSt 389 (fun y => { y with skein := some 7, state := 2, desc := { vinLsb := 256, iphLsb := 256, voutLsb := 256 } })).updSk 7 (fun x => { x with known := true, slot := 3, stitches := [5], base := 100, stepped := 100, hz := 800000, engine := some 2 })).updSk 7 (fun x => { x with engine := none, unplaced := true })) 256 9 0x604 [7, 0])

theorem test_LawLoadsTakeEffectAtAStep_9 :
    (Ready w_LawLoadsTakeEffectAtAStep_9 ((256 : Mb)) ((9 : Fin 64)) 0x604) ∧
    (w_LawLoadsTakeEffectAtAStep_9.skeinBad ((256 : Mb)) (u16 (payloadOf w_LawLoadsTakeEffectAtAStep_9 ((256 : Mb)) ((9 : Fin 64))) 0) = false) ∧
    ((w_LawLoadsTakeEffectAtAStep_9.sk (u16 (payloadOf w_LawLoadsTakeEffectAtAStep_9 ((256 : Mb)) ((9 : Fin 64))) 0)).engine = none) ∧
    (Tail w_LawLoadsTakeEffectAtAStep_9 ((256 : Mb)) ((9 : Fin 64))) ∧
    after (exec (.engJobQuery ((256 : Mb)) ((9 : Fin 64))) w_LawLoadsTakeEffectAtAStep_9) (fun t => decide ((Done t ((256 : Mb)) ((9 : Fin 64)) (cmdOf w_LawLoadsTakeEffectAtAStep_9 ((256 : Mb)) ((9 : Fin 64))) 9 1 0) ∧ (t.engines = w_LawLoadsTakeEffectAtAStep_9.engines) ∧ (t.skeins = w_LawLoadsTakeEffectAtAStep_9.skeins))) = true := by decide +kernel

def w_FeedbackLossAndReturn_1 : State :=
    unitA.updSk 7 (fun x => { x with adoptWin := 64 })

theorem test_FeedbackLossAndReturn_1 :
    (64 ≤ (w_FeedbackLossAndReturn_1.sk ((7 : Fin 2048))).adoptWin) ∧
    after (exec (.adoptTimeout ((7 : Fin 2048))) w_FeedbackLossAndReturn_1) (fun t => decide (((t.sk ((7 : Fin 2048))).forceAdopt = true) ∧ ((t.sk ((7 : Fin 2048))).job = (w_FeedbackLossAndReturn_1.sk ((7 : Fin 2048))).job) ∧ (t.stitches = w_FeedbackLossAndReturn_1.stitches) ∧ (t.regs = w_FeedbackLossAndReturn_1.regs) ∧ (t.mem = w_FeedbackLossAndReturn_1.mem))) = true := by decide +kernel

theorem test_FeedbackLossAndReturn_2 :
    ((unitA.sk ((7 : Fin 2048))).adoptWin < 64) ∧
    after (exec (.adoptTimeout ((7 : Fin 2048))) unitA) (fun t => decide ((t = unitA))) = true := by decide +kernel

def w_FeedbackLossAndReturn_3 : State :=
    ((unitA.updSt 389 (fun y => { y with skein := some 7, state := 2, desc := { vinLsb := 256, iphLsb := 256, voutLsb := 256 } })).updSk 7 (fun x => { x with known := true, slot := 3, stitches := [5], base := 100, stepped := 100, hz := 800000, engine := some 2 })).updSt 389 (fun y => { y with state := 1, trailerGap := 16 })

theorem test_FeedbackLossAndReturn_3 :
    ((w_FeedbackLossAndReturn_3.st ((389 : Fin 8192))).skein = some 7) ∧
    ((w_FeedbackLossAndReturn_3.st ((389 : Fin 8192))).state = 1) ∧
    (8 * (w_FeedbackLossAndReturn_3.sk 7).trailerM ≤ (w_FeedbackLossAndReturn_3.st ((389 : Fin 8192))).trailerGap) ∧
    (MayRaise w_FeedbackLossAndReturn_3 .stitchAuto ((389 : Fin 8192))) ∧
    after (exec (.trailerLoss ((389 : Fin 8192))) w_FeedbackLossAndReturn_3) (fun t => decide ((t.raised .stitchAuto ((389 : Fin 8192)) = true) ∧ (t.stitches = w_FeedbackLossAndReturn_3.stitches) ∧ (t.skeins = w_FeedbackLossAndReturn_3.skeins))) = true := by decide +kernel

def w_FeedbackLossAndReturn_4 : State :=
    ((unitA.updSt 389 (fun y => { y with skein := some 7, state := 2, desc := { vinLsb := 256, iphLsb := 256, voutLsb := 256 } })).updSk 7 (fun x => { x with known := true, slot := 3, stitches := [5], base := 100, stepped := 100, hz := 800000, engine := some 2 })).updSt 389 (fun y => { y with senseOpen := true, senseClear := 64 })

theorem test_FeedbackLossAndReturn_4 :
    (NoRung w_FeedbackLossAndReturn_4) ∧
    ((w_FeedbackLossAndReturn_4.st ((389 : Fin 8192))).senseOpen = true) ∧
    (64 ≤ (w_FeedbackLossAndReturn_4.st ((389 : Fin 8192))).senseClear) ∧
    after (exec (.senseOpenClear ((389 : Fin 8192))) w_FeedbackLossAndReturn_4) (fun t => decide (((t.st ((389 : Fin 8192))).senseOpen = false) ∧ (t.is (STITCH_STATE_open (((389 : Fin 8192)) / 128) (((389 : Fin 8192)) % 128)) = false) ∧ (t.raised .stitchSense ((389 : Fin 8192)) = false) ∧ ((t.st ((389 : Fin 8192))).state = (w_FeedbackLossAndReturn_4.st ((389 : Fin 8192))).state) ∧ (t.mem = w_FeedbackLossAndReturn_4.mem))) = true := by decide +kernel

def w_FeedbackLossAndReturn_5 : State :=
    ((((unitA.updSt 389 (fun y => { y with skein := some 7, state := 2, desc := { vinLsb := 256, iphLsb := 256, voutLsb := 256 } })).updSk 7 (fun x => { x with known := true, slot := 3, stitches := [5], base := 100, stepped := 100, hz := 800000, engine := some 2 }))).skSet 7 4).updSt 389 (fun y => { y with senseOpen := true, senseClear := 64 })

theorem test_FeedbackLossAndReturn_5 :
    (NoRung w_FeedbackLossAndReturn_5) ∧
    ((w_FeedbackLossAndReturn_5.st ((389 : Fin 8192))).senseOpen = true) ∧
    (64 ≤ (w_FeedbackLossAndReturn_5.st ((389 : Fin 8192))).senseClear) ∧
    ((w_FeedbackLossAndReturn_5.st ((389 : Fin 8192))).skein = some 7) ∧
    (w_FeedbackLossAndReturn_5.skSt 7 = 4) ∧
    (7 < 2048) ∧
    after (exec (.senseOpenClear ((389 : Fin 8192))) w_FeedbackLossAndReturn_5) (fun t => decide (((t.st ((389 : Fin 8192))).senseOpen = false) ∧ ((t.sk 7).mayReturn = true) ∧ (w_FeedbackLossAndReturn_5.skSt 7 = 4))) = true := by decide +kernel

def w_FeedbackLossAndReturn_6 : State :=
    ((((unitA.updSt 389 (fun y => { y with skein := some 7, state := 2, desc := { vinLsb := 256, iphLsb := 256, voutLsb := 256 } })).updSk 7 (fun x => { x with known := true, slot := 3, stitches := [5], base := 100, stepped := 100, hz := 800000, engine := some 2 }))).skSet 7 2).updSk 7 (fun x => { x with noFb := 64 })

theorem test_FeedbackLossAndReturn_6 :
    (64 ≤ (w_FeedbackLossAndReturn_6.sk ((7 : Fin 2048))).noFb) ∧
    (w_FeedbackLossAndReturn_6.skSt ((7 : Fin 2048)) = 1 ∨ w_FeedbackLossAndReturn_6.skSt ((7 : Fin 2048)) = 2 ∨ w_FeedbackLossAndReturn_6.skSt ((7 : Fin 2048)) = 3) ∧
    ((w_FeedbackLossAndReturn_6.sk ((7 : Fin 2048))).acts = []) ∧
    (MayRaise w_FeedbackLossAndReturn_6 .skeinNoFb ((7 : Fin 2048))) ∧
    after (exec (.noFeedbackRelease ((7 : Fin 2048))) w_FeedbackLossAndReturn_6) (fun t => decide ((t.raised .skeinNoFb ((7 : Fin 2048)) = true) ∧ ((t.sk ((7 : Fin 2048))).acts = [(w_FeedbackLossAndReturn_6.nextCycle ((7 : Fin 2048)), .releaseAll)]) ∧ (t.skSt ((7 : Fin 2048)) = w_FeedbackLossAndReturn_6.skSt ((7 : Fin 2048))) ∧ (t.stitches = w_FeedbackLossAndReturn_6.stitches))) = true := by decide +kernel

def w_FeedbackLossAndReturn_7 : State :=
    ((((unitA.updSt 389 (fun y => { y with skein := some 7, state := 2, desc := { vinLsb := 256, iphLsb := 256, voutLsb := 256 } })).updSk 7 (fun x => { x with known := true, slot := 3, stitches := [5], base := 100, stepped := 100, hz := 800000, engine := some 2 }))).skSet 7 4).updSk 7 (fun x => { x with fbBack := 16 })

theorem test_FeedbackLossAndReturn_7 :
    (NoRung w_FeedbackLossAndReturn_7) ∧
    (16 ≤ (w_FeedbackLossAndReturn_7.sk ((7 : Fin 2048))).fbBack) ∧
    (w_FeedbackLossAndReturn_7.skSt ((7 : Fin 2048)) = 4) ∧
    after (exec (.feedbackReturn ((7 : Fin 2048))) w_FeedbackLossAndReturn_7) (fun t => decide (((t.sk ((7 : Fin 2048))).mayReturn = true) ∧ (t.skSt ((7 : Fin 2048)) = 4) ∧ (t.raised .skeinNoFb ((7 : Fin 2048)) = false) ∧ (t.stitches = w_FeedbackLossAndReturn_7.stitches) ∧ (t.mem = w_FeedbackLossAndReturn_7.mem))) = true := by decide +kernel

def w_IntentsAreHeldByTheirSkein_1 : State :=
    ((unitA.updSt 389 (fun y => { y with skein := some 7, state := 2, desc := { vinLsb := 256, iphLsb := 256, voutLsb := 256 } })).updSk 7 (fun x => { x with known := true, slot := 3, stitches := [5], base := 100, stepped := 100, hz := 800000, engine := some 2 }))

theorem test_IntentsAreHeldByTheirSkein_1 :
    (InOrder w_IntentsAreHeldByTheirSkein_1 (.port ((3 : Fin 64))) ((⟨false, false, 0⟩ : UpHdr))) ∧
    (NoRung w_IntentsAreHeldByTheirSkein_1) ∧
    ((w_IntentsAreHeldByTheirSkein_1.st (128 * ((3 : Fin 64)).val + ((5 : Fin 128)).val)).skein = some 7) ∧
    (w_IntentsAreHeldByTheirSkein_1.intentFails ((3 : Fin 64)) ((0 : Fin 4)) 7 (w_IntentsAreHeldByTheirSkein_1.tagCycle 7 ((110 : BitVec 12)).toNat) = 0) ∧
    after (exec (.intentCellRx ((3 : Fin 64)) ((⟨false, false, 0⟩ : UpHdr)) ((5 : Fin 128)) ((110 : BitVec 12)) ((0 : Fin 4)) ((900000 : BitVec 32)) ((4 : BitVec 8))) w_IntentsAreHeldByTheirSkein_1) (fun t => decide ((t.sk 7 = { w_IntentsAreHeldByTheirSkein_1.sk 7 with job := { (w_IntentsAreHeldByTheirSkein_1.sk 7).job with intents := (w_IntentsAreHeldByTheirSkein_1.sk 7).job.intents ++ [⟨w_IntentsAreHeldByTheirSkein_1.tagCycle 7 ((110 : BitVec 12)).toNat, ((900000 : BitVec 32)).toInt⟩] } }) ∧ (t.stitches = w_IntentsAreHeldByTheirSkein_1.stitches) ∧ (t.regs = w_IntentsAreHeldByTheirSkein_1.regs) ∧ (t.mem = w_IntentsAreHeldByTheirSkein_1.mem))) = true := by decide +kernel

theorem test_IntentsAreHeldByTheirSkein_2 :
    (InOrder unitA (.port ((3 : Fin 64))) ((⟨false, false, 0⟩ : UpHdr))) ∧
    (NoRung unitA) ∧
    (unitA.swTouched = []) ∧
    ((unitA.st (128 * ((3 : Fin 64)).val + ((5 : Fin 128)).val)).skein = none) ∧
    after (exec (.intentCellRx ((3 : Fin 64)) ((⟨false, false, 0⟩ : UpHdr)) ((5 : Fin 128)) ((110 : BitVec 12)) ((0 : Fin 4)) ((900000 : BitVec 32)) ((4 : BitVec 8))) unitA) (fun t => decide ((Counted unitA t (PORT_CNT_INTENT_DROP_v ((3 : Fin 64)))) ∧ (t.skeins = unitA.skeins) ∧ (t.stitches = unitA.stitches))) = true := by decide +kernel

def w_IntentsAreHeldByTheirSkein_3 : State :=
    ((unitA.updSt 389 (fun y => { y with skein := some 7, state := 2, desc := { vinLsb := 256, iphLsb := 256, voutLsb := 256 } })).updSk 7 (fun x => { x with known := true, slot := 3, stitches := [5], base := 100, stepped := 100, hz := 800000, engine := some 2 })).updSk 7 (fun x => { x with job := { x.job with intents := [⟨1,1⟩,⟨2,1⟩,⟨3,1⟩,⟨4,1⟩] } })

theorem test_IntentsAreHeldByTheirSkein_3 :
    (InOrder w_IntentsAreHeldByTheirSkein_3 (.port ((3 : Fin 64))) ((⟨false, false, 0⟩ : UpHdr))) ∧
    (NoRung w_IntentsAreHeldByTheirSkein_3) ∧
    (w_IntentsAreHeldByTheirSkein_3.swTouched = []) ∧
    ((w_IntentsAreHeldByTheirSkein_3.st (128 * ((3 : Fin 64)).val + ((5 : Fin 128)).val)).skein = some 7) ∧
    (w_IntentsAreHeldByTheirSkein_3.intentFails ((3 : Fin 64)) ((0 : Fin 4)) 7 (w_IntentsAreHeldByTheirSkein_3.tagCycle 7 ((110 : BitVec 12)).toNat) ≠ 0) ∧
    after (exec (.intentCellRx ((3 : Fin 64)) ((⟨false, false, 0⟩ : UpHdr)) ((5 : Fin 128)) ((110 : BitVec 12)) ((0 : Fin 4)) ((900000 : BitVec 32)) ((4 : BitVec 8))) w_IntentsAreHeldByTheirSkein_3) (fun t => decide ((Counted w_IntentsAreHeldByTheirSkein_3 t (PORT_CNT_INTENT_DROP_v ((3 : Fin 64)))) ∧ (t.skeins = w_IntentsAreHeldByTheirSkein_3.skeins) ∧ (t.stitches = w_IntentsAreHeldByTheirSkein_3.stitches))) = true := by decide +kernel

def w_IntentsAreHeldByTheirSkein_4 : State :=
    (withCmd (((unitA.updSt 389 (fun y => { y with skein := some 7, state := 2, desc := { vinLsb := 256, iphLsb := 256, voutLsb := 256 } })).updSk 7 (fun x => { x with known := true, slot := 3, stitches := [5], base := 100, stepped := 100, hz := 800000, engine := some 2 }))) 256 9 0x530 [7, 0, 0, 0, 160, 187, 13, 0, 0, 125])

theorem test_IntentsAreHeldByTheirSkein_4 :
    (Ready w_IntentsAreHeldByTheirSkein_4 ((256 : Mb)) ((9 : Fin 64)) 0x530) ∧
    (w_IntentsAreHeldByTheirSkein_4.skeinBad ((256 : Mb)) (u16 (payloadOf w_IntentsAreHeldByTheirSkein_4 ((256 : Mb)) ((9 : Fin 64))) 0) = false) ∧
    (w_IntentsAreHeldByTheirSkein_4.ownsPort (w_IntentsAreHeldByTheirSkein_4.sk (u16 (payloadOf w_IntentsAreHeldByTheirSkein_4 ((256 : Mb)) ((9 : Fin 64))) 0)).slot = true) ∧
    ((resv (payloadOf w_IntentsAreHeldByTheirSkein_4 ((256 : Mb)) ((9 : Fin 64))) 2 4).2 = false) ∧
    (w_IntentsAreHeldByTheirSkein_4.ct + us 10 ≤ u64 (payloadOf w_IntentsAreHeldByTheirSkein_4 ((256 : Mb)) ((9 : Fin 64))) 8 ∧ u64 (payloadOf w_IntentsAreHeldByTheirSkein_4 ((256 : Mb)) ((9 : Fin 64))) 8 ≤ w_IntentsAreHeldByTheirSkein_4.ct + us 200) ∧
    ((w_IntentsAreHeldByTheirSkein_4.sk (u16 (payloadOf w_IntentsAreHeldByTheirSkein_4 ((256 : Mb)) ((9 : Fin 64))) 0)).job.intents.length < 4) ∧
    after (exec (.loadIntentPost ((256 : Mb)) ((9 : Fin 64))) w_IntentsAreHeldByTheirSkein_4) (fun t => decide (((t.sk (u16 (payloadOf w_IntentsAreHeldByTheirSkein_4 ((256 : Mb)) ((9 : Fin 64))) 0)).job.intents = (w_IntentsAreHeldByTheirSkein_4.sk (u16 (payloadOf w_IntentsAreHeldByTheirSkein_4 ((256 : Mb)) ((9 : Fin 64))) 0)).job.intents ++ [⟨w_IntentsAreHeldByTheirSkein_4.cycleFor (u16 (payloadOf w_IntentsAreHeldByTheirSkein_4 ((256 : Mb)) ((9 : Fin 64))) 0) (u64 (payloadOf w_IntentsAreHeldByTheirSkein_4 ((256 : Mb)) ((9 : Fin 64))) 8) w_IntentsAreHeldByTheirSkein_4.ct, i32 (payloadOf w_IntentsAreHeldByTheirSkein_4 ((256 : Mb)) ((9 : Fin 64))) 4⟩]) ∧ (Done t ((256 : Mb)) ((9 : Fin 64)) (cmdOf w_IntentsAreHeldByTheirSkein_4 ((256 : Mb)) ((9 : Fin 64))) 0 0 (w_IntentsAreHeldByTheirSkein_4.cycleFor (u16 (payloadOf w_IntentsAreHeldByTheirSkein_4 ((256 : Mb)) ((9 : Fin 64))) 0) (u64 (payloadOf w_IntentsAreHeldByTheirSkein_4 ((256 : Mb)) ((9 : Fin 64))) 8) w_IntentsAreHeldByTheirSkein_4.ct)) ∧ (t.stitches = w_IntentsAreHeldByTheirSkein_4.stitches))) = true := by decide +kernel

def w_IntentsAreHeldByTheirSkein_5 : State :=
    (withCmd (((unitA.updSt 389 (fun y => { y with skein := some 7, state := 2, desc := { vinLsb := 256, iphLsb := 256, voutLsb := 256 } })).updSk 7 (fun x => { x with known := true, slot := 3, stitches := [5], base := 100, stepped := 100, hz := 800000, engine := some 2 })).updSk 7 (fun x => { x with job := { x.job with intents := [⟨1,1⟩,⟨2,1⟩,⟨3,1⟩,⟨4,1⟩] } })) 256 9 0x530 [7, 0, 0, 0, 160, 187, 13, 0, 0, 125])

theorem test_IntentsAreHeldByTheirSkein_5 :
    (Ready w_IntentsAreHeldByTheirSkein_5 ((256 : Mb)) ((9 : Fin 64)) 0x530) ∧
    (w_IntentsAreHeldByTheirSkein_5.skeinBad ((256 : Mb)) (u16 (payloadOf w_IntentsAreHeldByTheirSkein_5 ((256 : Mb)) ((9 : Fin 64))) 0) = false) ∧
    (w_IntentsAreHeldByTheirSkein_5.ownsPort (w_IntentsAreHeldByTheirSkein_5.sk (u16 (payloadOf w_IntentsAreHeldByTheirSkein_5 ((256 : Mb)) ((9 : Fin 64))) 0)).slot = true) ∧
    ((resv (payloadOf w_IntentsAreHeldByTheirSkein_5 ((256 : Mb)) ((9 : Fin 64))) 2 4).2 = false) ∧
    (w_IntentsAreHeldByTheirSkein_5.ct + us 10 ≤ u64 (payloadOf w_IntentsAreHeldByTheirSkein_5 ((256 : Mb)) ((9 : Fin 64))) 8 ∧ u64 (payloadOf w_IntentsAreHeldByTheirSkein_5 ((256 : Mb)) ((9 : Fin 64))) 8 ≤ w_IntentsAreHeldByTheirSkein_5.ct + us 200) ∧
    (4 ≤ (w_IntentsAreHeldByTheirSkein_5.sk (u16 (payloadOf w_IntentsAreHeldByTheirSkein_5 ((256 : Mb)) ((9 : Fin 64))) 0)).job.intents.length) ∧
    (Tail w_IntentsAreHeldByTheirSkein_5 ((256 : Mb)) ((9 : Fin 64))) ∧
    after (exec (.loadIntentPost ((256 : Mb)) ((9 : Fin 64))) w_IntentsAreHeldByTheirSkein_5) (fun t => decide ((Done t ((256 : Mb)) ((9 : Fin 64)) (cmdOf w_IntentsAreHeldByTheirSkein_5 ((256 : Mb)) ((9 : Fin 64))) 2 2 0) ∧ (t.skeins = w_IntentsAreHeldByTheirSkein_5.skeins) ∧ (t.stitches = w_IntentsAreHeldByTheirSkein_5.stitches))) = true := by decide +kernel

def w_SkeinProtectionTimers_1 : State :=
    ((((unitA.updSt 389 (fun y => { y with skein := some 7, state := 2, desc := { vinLsb := 256, iphLsb := 256, voutLsb := 256 } })).updSk 7 (fun x => { x with known := true, slot := 3, stitches := [5], base := 100, stepped := 100, hz := 800000, engine := some 2 }))).skSet 7 1).updSk 7 (fun x => { x with pgAt := some 0 })

theorem test_SkeinProtectionTimers_1 :
    ((w_SkeinProtectionTimers_1.sk ((7 : Fin 2048))).pgAt = some 0) ∧
    (0 ≤ w_SkeinProtectionTimers_1.ct) ∧
    (w_SkeinProtectionTimers_1.skSt ((7 : Fin 2048)) = 1) ∧
    ((w_SkeinProtectionTimers_1.sk ((7 : Fin 2048))).powerCmd = none) ∧
    (w_SkeinProtectionTimers_1.raised .skeinUv ((7 : Fin 2048)) = false) ∧
    (MayRaise w_SkeinProtectionTimers_1 .skeinStartFail ((7 : Fin 2048))) ∧
    after (exec (.skeinPgTimeout ((7 : Fin 2048))) w_SkeinProtectionTimers_1) (fun t => decide ((t.skSt ((7 : Fin 2048)) = 0) ∧ (t.get (SKN_STATE_state ((7 : Fin 2048))) = 0) ∧ (t.raised .skeinStartFail ((7 : Fin 2048)) = true) ∧ (t.stitches = w_SkeinProtectionTimers_1.stitches))) = true := by decide +kernel

def w_SkeinProtectionTimers_2 : State :=
    ((((unitA.updSt 389 (fun y => { y with skein := some 7, state := 2, desc := { vinLsb := 256, iphLsb := 256, voutLsb := 256 } })).updSk 7 (fun x => { x with known := true, slot := 3, stitches := [5], base := 100, stepped := 100, hz := 800000, engine := some 2 }))).skSet 7 1).updSk 7 (fun x => { x with pgAt := some 0, powerCmd := some (256, 9, 1) })

theorem test_SkeinProtectionTimers_2 :
    ((w_SkeinProtectionTimers_2.sk ((7 : Fin 2048))).pgAt = some 0) ∧
    (w_SkeinProtectionTimers_2.skSt ((7 : Fin 2048)) = 1) ∧
    ((w_SkeinProtectionTimers_2.sk ((7 : Fin 2048))).powerCmd = some (((256 : Mb)).val, ((9 : Fin 64)).val, 1)) ∧
    (w_SkeinProtectionTimers_2.ringFull ((256 : Mb)) = false) ∧
    ((w_SkeinProtectionTimers_2.mbx ((256 : Mb))).cqWait = []) ∧
    ((w_SkeinProtectionTimers_2.kindCfg .skeinStartFail ((7 : Fin 2048))).1 < 2) ∧
    (w_SkeinProtectionTimers_2.raised .skeinUv ((7 : Fin 2048)) = false) ∧
    (MayRaise w_SkeinProtectionTimers_2 .skeinStartFail ((7 : Fin 2048))) ∧
    (Tail w_SkeinProtectionTimers_2 ((256 : Mb)) ((9 : Fin 64))) ∧
    after (exec (.skeinPgTimeout ((7 : Fin 2048))) w_SkeinProtectionTimers_2) (fun t => decide ((t.skSt ((7 : Fin 2048)) = 0) ∧ (Done t ((256 : Mb)) ((9 : Fin 64)) (cmdOf w_SkeinProtectionTimers_2 ((256 : Mb)) ((9 : Fin 64))) 9 2 0) ∧ ((t.sk ((7 : Fin 2048))).powerCmd = none))) = true := by decide +kernel

def w_SkeinProtectionTimers_3 : State :=
    ((((unitA.updSt 389 (fun y => { y with skein := some 7, state := 2, desc := { vinLsb := 256, iphLsb := 256, voutLsb := 256 } })).updSk 7 (fun x => { x with known := true, slot := 3, stitches := [5], base := 100, stepped := 100, hz := 800000, engine := some 2 }))).skSet 7 2).updSk 7 (fun x => { x with job := { x.job with ovRun := 4 } })

theorem test_SkeinProtectionTimers_3 :
    (w_SkeinProtectionTimers_3.ovDue ((7 : Fin 2048)) = true) ∧
    (w_SkeinProtectionTimers_3.skSt ((7 : Fin 2048)) = 2) ∧
    ((w_SkeinProtectionTimers_3.sk ((7 : Fin 2048))).powerCmd = none) ∧
    (w_SkeinProtectionTimers_3.swTouched = []) ∧
    (w_SkeinProtectionTimers_3.seqSt (w_SkeinProtectionTimers_3.sk ((7 : Fin 2048))).slot ≠ 2) ∧
    (MayRaise w_SkeinProtectionTimers_3 .skeinOv ((7 : Fin 2048))) ∧
    after (exec (.skeinOvTrip ((7 : Fin 2048))) w_SkeinProtectionTimers_3) (fun t => decide ((t.skSt ((7 : Fin 2048)) = 5) ∧ (t.get (SKN_STATE_state ((7 : Fin 2048))) = 5) ∧ (t.get (SKN_STATE_ov_seen ((7 : Fin 2048))) = 1) ∧ ((t.sk ((7 : Fin 2048))).job.intents = []) ∧ ((t.sk ((7 : Fin 2048))).job.kicks = []) ∧ (t.raised .skeinOv ((7 : Fin 2048)) = true) ∧ (t.stitches = w_SkeinProtectionTimers_3.stitches))) = true := by decide +kernel

def w_SkeinProtectionTimers_4 : State :=
    ((((unitA.updSt 389 (fun y => { y with skein := some 7, state := 2, desc := { vinLsb := 256, iphLsb := 256, voutLsb := 256 } })).updSk 7 (fun x => { x with known := true, slot := 3, stitches := [5], base := 100, stepped := 100, hz := 800000, engine := some 2 }))).skSet 7 2).updSk 7 (fun x => { x with job := { x.job with uvRun := 300 } })

theorem test_SkeinProtectionTimers_4 :
    (w_SkeinProtectionTimers_4.skSt ((7 : Fin 2048)) = 2 ∨ w_SkeinProtectionTimers_4.skSt ((7 : Fin 2048)) = 4) ∧
    ((w_SkeinProtectionTimers_4.sk ((7 : Fin 2048))).lim.uvWin ≤ (w_SkeinProtectionTimers_4.sk ((7 : Fin 2048))).job.uvRun) ∧
    (0 < (w_SkeinProtectionTimers_4.sk ((7 : Fin 2048))).job.uvRun) ∧
    (w_SkeinProtectionTimers_4.railOf ((7 : Fin 2048)) = none) ∧
    (w_SkeinProtectionTimers_4.swTouched = []) ∧
    (MayRaise w_SkeinProtectionTimers_4 .skeinUv ((7 : Fin 2048))) ∧
    after (exec (.skeinUv ((7 : Fin 2048))) w_SkeinProtectionTimers_4) (fun t => decide ((t.skSt ((7 : Fin 2048)) = w_SkeinProtectionTimers_4.skSt ((7 : Fin 2048))) ∧ (t.get (SKN_STATE_uv_seen ((7 : Fin 2048))) = 1) ∧ (t.raised .skeinUv ((7 : Fin 2048)) = true) ∧ (t.stitches = w_SkeinProtectionTimers_4.stitches))) = true := by decide +kernel

def w_SkeinProtectionTimers_5 : State :=
    { ((((unitA.updSt 389 (fun y => { y with skein := some 7, state := 2, desc := { vinLsb := 256, iphLsb := 256, voutLsb := 256 } })).updSk 7 (fun x => { x with known := true, slot := 3, stitches := [5], base := 100, stepped := 100, hz := 800000, engine := some 2 }))).skSet 7 2).updSk 7 (fun x => { x with ilimFrom := some 0 }) with ct := 200000000 }

theorem test_SkeinProtectionTimers_5 :
    (w_SkeinProtectionTimers_5.ilimDue ((7 : Fin 2048)) = true) ∧
    ((w_SkeinProtectionTimers_5.sk ((7 : Fin 2048))).powerCmd = none) ∧
    (w_SkeinProtectionTimers_5.seqSt (w_SkeinProtectionTimers_5.sk ((7 : Fin 2048))).slot ≠ 2) ∧
    (MayRaise w_SkeinProtectionTimers_5 .skeinIlim ((7 : Fin 2048))) ∧
    after (exec (.ilimTimeout ((7 : Fin 2048))) w_SkeinProtectionTimers_5) (fun t => decide ((t.skSt ((7 : Fin 2048)) = 5) ∧ (t.get (SKN_STATE_state ((7 : Fin 2048))) = 5) ∧ ((t.sk ((7 : Fin 2048))).job.intents = []) ∧ ((t.sk ((7 : Fin 2048))).job.kicks = []) ∧ (t.raised .skeinIlim ((7 : Fin 2048)) = true) ∧ (t.stitches = w_SkeinProtectionTimers_5.stitches))) = true := by decide +kernel

def w_SkeinProtectionTimers_6 : State :=
    ((unitA.updSt 389 (fun y => { y with skein := some 7, state := 2, desc := { vinLsb := 256, iphLsb := 256, voutLsb := 256 } })).updSk 7 (fun x => { x with known := true, slot := 3, stitches := [5], base := 100, stepped := 100, hz := 800000, engine := some 2 })).updSt 389 (fun y => { y with shareRun := 4096 })

theorem test_SkeinProtectionTimers_6 :
    ((w_SkeinProtectionTimers_6.st ((389 : Fin 8192))).skein = some 7) ∧
    (4096 ≤ (w_SkeinProtectionTimers_6.st ((389 : Fin 8192))).shareRun) ∧
    (w_SkeinProtectionTimers_6.swTouched = []) ∧
    (MayRaise w_SkeinProtectionTimers_6 .skeinShare 7) ∧
    (7 < 2048) ∧
    after (exec (.shareLimitCount ((389 : Fin 8192))) w_SkeinProtectionTimers_6) (fun t => decide ((t.get (SKN_STATE_share_seen 7) = 1) ∧ (t.raised .skeinShare 7 = true) ∧ (t.stitches = w_SkeinProtectionTimers_6.stitches) ∧ (t.skeins = w_SkeinProtectionTimers_6.skeins))) = true := by decide +kernel

def w_SkeinProtectionTimers_7 : State :=
    ((unitA.updSt 389 (fun y => { y with skein := some 7, state := 2, desc := { vinLsb := 256, iphLsb := 256, voutLsb := 256 } })).updSk 7 (fun x => { x with known := true, slot := 3, stitches := [5], base := 100, stepped := 100, hz := 800000, engine := some 2 })).updSk 7 (fun x => { x with restoreUntil := some 0 })

theorem test_SkeinProtectionTimers_7 :
    ((w_SkeinProtectionTimers_7.sk ((7 : Fin 2048))).restoreUntil = some 0) ∧
    (0 ≤ w_SkeinProtectionTimers_7.ct) ∧
    after (exec (.restoreHoldEnd ((7 : Fin 2048))) w_SkeinProtectionTimers_7) (fun t => decide (((t.sk ((7 : Fin 2048))).restoreUntil = none) ∧ (t.get (SKN_STATE_restore_hold ((7 : Fin 2048))) = 0) ∧ ((t.sk ((7 : Fin 2048))).job = (w_SkeinProtectionTimers_7.sk ((7 : Fin 2048))).job) ∧ (t.stitches = w_SkeinProtectionTimers_7.stitches) ∧ (t.mem = w_SkeinProtectionTimers_7.mem))) = true := by decide +kernel

def w_SkeinProtectionTimers_8 : State :=
    ((unitA.updSt 389 (fun y => { y with skein := some 7, state := 2, desc := { vinLsb := 256, iphLsb := 256, voutLsb := 256 } })).updSk 7 (fun x => { x with known := true, slot := 3, stitches := [5], base := 100, stepped := 100, hz := 800000, engine := some 2 })).updSk 7 (fun x => { x with restoreUntil := some 5 })

theorem test_SkeinProtectionTimers_8 :
    ((w_SkeinProtectionTimers_8.sk ((7 : Fin 2048))).restoreUntil = some 5) ∧
    (w_SkeinProtectionTimers_8.ct < 5) ∧
    after (exec (.restoreHoldEnd ((7 : Fin 2048))) w_SkeinProtectionTimers_8) (fun t => decide ((t = w_SkeinProtectionTimers_8))) = true := by decide +kernel

def w_SkeinAndStitchCommands_1 : State :=
    (withCmd (((unitA.updSt 389 (fun y => { y with skein := some 7, state := 2, desc := { vinLsb := 256, iphLsb := 256, voutLsb := 256 } })).updSk 7 (fun x => { x with known := true, slot := 3, stitches := [5], base := 100, stepped := 100, hz := 800000, engine := some 2 }))) 256 9 0x410 [7, 0, 1])

theorem test_SkeinAndStitchCommands_1 :
    (Ready w_SkeinAndStitchCommands_1 ((256 : Mb)) ((9 : Fin 64)) 0x410) ∧
    (NoRung w_SkeinAndStitchCommands_1) ∧
    (w_SkeinAndStitchCommands_1.skeinBad ((256 : Mb)) (u16 (payloadOf w_SkeinAndStitchCommands_1 ((256 : Mb)) ((9 : Fin 64))) 0) = false) ∧
    (w_SkeinAndStitchCommands_1.ownsPort (w_SkeinAndStitchCommands_1.sk (u16 (payloadOf w_SkeinAndStitchCommands_1 ((256 : Mb)) ((9 : Fin 64))) 0)).slot = true) ∧
    (u8 (payloadOf w_SkeinAndStitchCommands_1 ((256 : Mb)) ((9 : Fin 64))) 2 = 1) ∧
    ((resv (payloadOf w_SkeinAndStitchCommands_1 ((256 : Mb)) ((9 : Fin 64))) 3 8).2 = false) ∧
    ((w_SkeinAndStitchCommands_1.sk (u16 (payloadOf w_SkeinAndStitchCommands_1 ((256 : Mb)) ((9 : Fin 64))) 0)).powerCmd = none) ∧
    (w_SkeinAndStitchCommands_1.railOf (u16 (payloadOf w_SkeinAndStitchCommands_1 ((256 : Mb)) ((9 : Fin 64))) 0) = none) ∧
    (w_SkeinAndStitchCommands_1.railSkeins (w_SkeinAndStitchCommands_1.sk (u16 (payloadOf w_SkeinAndStitchCommands_1 ((256 : Mb)) ((9 : Fin 64))) 0)).slot = []) ∧
    (w_SkeinAndStitchCommands_1.seqSt (w_SkeinAndStitchCommands_1.sk (u16 (payloadOf w_SkeinAndStitchCommands_1 ((256 : Mb)) ((9 : Fin 64))) 0)).slot = 0) ∧
    (w_SkeinAndStitchCommands_1.skSt (u16 (payloadOf w_SkeinAndStitchCommands_1 ((256 : Mb)) ((9 : Fin 64))) 0) = 0) ∧
    ((w_SkeinAndStitchCommands_1.sk (u16 (payloadOf w_SkeinAndStitchCommands_1 ((256 : Mb)) ((9 : Fin 64))) 0)).loads = []) ∧
    ((w_SkeinAndStitchCommands_1.sk (u16 (payloadOf w_SkeinAndStitchCommands_1 ((256 : Mb)) ((9 : Fin 64))) 0)).engine.isSome = true) ∧
    (w_SkeinAndStitchCommands_1.raised .skeinStartFail (u16 (payloadOf w_SkeinAndStitchCommands_1 ((256 : Mb)) ((9 : Fin 64))) 0) = false) ∧
    after (exec (.skeinPower ((256 : Mb)) ((9 : Fin 64))) w_SkeinAndStitchCommands_1) (fun t => decide (((t.sk (u16 (payloadOf w_SkeinAndStitchCommands_1 ((256 : Mb)) ((9 : Fin 64))) 0)).loads = [(.power 1, none)]) ∧ ((t.sk (u16 (payloadOf w_SkeinAndStitchCommands_1 ((256 : Mb)) ((9 : Fin 64))) 0)).powerCmd = some (((256 : Mb)).val, ((9 : Fin 64)).val, 1)) ∧ (t.skSt (u16 (payloadOf w_SkeinAndStitchCommands_1 ((256 : Mb)) ((9 : Fin 64))) 0) = 0) ∧ ((cmdOf t ((256 : Mb)) ((9 : Fin 64))).phase = .started) ∧ (t.stitches = w_SkeinAndStitchCommands_1.stitches) ∧ (t.mem = w_SkeinAndStitchCommands_1.mem))) = true := by decide +kernel

def w_SkeinAndStitchCommands_2 : State :=
    (withCmd (((((unitA.updSt 389 (fun y => { y with skein := some 7, state := 2, desc := { vinLsb := 256, iphLsb := 256, voutLsb := 256 } })).updSk 7 (fun x => { x with known := true, slot := 3, stitches := [5], base := 100, stepped := 100, hz := 800000, engine := some 2 }))).skSet 7 5)) 256 9 0x410 [7, 0, 1])

theorem test_SkeinAndStitchCommands_2 :
    (Ready w_SkeinAndStitchCommands_2 ((256 : Mb)) ((9 : Fin 64)) 0x410) ∧
    (NoRung w_SkeinAndStitchCommands_2) ∧
    (w_SkeinAndStitchCommands_2.skeinBad ((256 : Mb)) (u16 (payloadOf w_SkeinAndStitchCommands_2 ((256 : Mb)) ((9 : Fin 64))) 0) = false) ∧
    (w_SkeinAndStitchCommands_2.ownsPort (w_SkeinAndStitchCommands_2.sk (u16 (payloadOf w_SkeinAndStitchCommands_2 ((256 : Mb)) ((9 : Fin 64))) 0)).slot = true) ∧
    (u8 (payloadOf w_SkeinAndStitchCommands_2 ((256 : Mb)) ((9 : Fin 64))) 2 = 1) ∧
    ((resv (payloadOf w_SkeinAndStitchCommands_2 ((256 : Mb)) ((9 : Fin 64))) 3 8).2 = false) ∧
    ((w_SkeinAndStitchCommands_2.sk (u16 (payloadOf w_SkeinAndStitchCommands_2 ((256 : Mb)) ((9 : Fin 64))) 0)).powerCmd = none) ∧
    (w_SkeinAndStitchCommands_2.seqSt (w_SkeinAndStitchCommands_2.sk (u16 (payloadOf w_SkeinAndStitchCommands_2 ((256 : Mb)) ((9 : Fin 64))) 0)).slot = 0) ∧
    (w_SkeinAndStitchCommands_2.skSt (u16 (payloadOf w_SkeinAndStitchCommands_2 ((256 : Mb)) ((9 : Fin 64))) 0) = 5) ∧
    (Tail w_SkeinAndStitchCommands_2 ((256 : Mb)) ((9 : Fin 64))) ∧
    after (exec (.skeinPower ((256 : Mb)) ((9 : Fin 64))) w_SkeinAndStitchCommands_2) (fun t => decide ((Done t ((256 : Mb)) ((9 : Fin 64)) (cmdOf w_SkeinAndStitchCommands_2 ((256 : Mb)) ((9 : Fin 64))) 9 5 0) ∧ (t.skSt (u16 (payloadOf w_SkeinAndStitchCommands_2 ((256 : Mb)) ((9 : Fin 64))) 0) = 5) ∧ (t.stitches = w_SkeinAndStitchCommands_2.stitches))) = true := by decide +kernel

def w_SkeinAndStitchCommands_3 : State :=
    (withCmd (((((unitA.updSt 389 (fun y => { y with skein := some 7, state := 2, desc := { vinLsb := 256, iphLsb := 256, voutLsb := 256 } })).updSk 7 (fun x => { x with known := true, slot := 3, stitches := [5], base := 100, stepped := 100, hz := 800000, engine := some 2 }))).skSet 7 5)) 256 9 0x410 [7, 0, 2])

theorem test_SkeinAndStitchCommands_3 :
    (Ready w_SkeinAndStitchCommands_3 ((256 : Mb)) ((9 : Fin 64)) 0x410) ∧
    (NoRung w_SkeinAndStitchCommands_3) ∧
    (w_SkeinAndStitchCommands_3.level_ ≥ 3) ∧
    (w_SkeinAndStitchCommands_3.skeinBad ((256 : Mb)) (u16 (payloadOf w_SkeinAndStitchCommands_3 ((256 : Mb)) ((9 : Fin 64))) 0) = false) ∧
    (w_SkeinAndStitchCommands_3.ownsPort (w_SkeinAndStitchCommands_3.sk (u16 (payloadOf w_SkeinAndStitchCommands_3 ((256 : Mb)) ((9 : Fin 64))) 0)).slot = true) ∧
    (u8 (payloadOf w_SkeinAndStitchCommands_3 ((256 : Mb)) ((9 : Fin 64))) 2 = 2) ∧
    ((resv (payloadOf w_SkeinAndStitchCommands_3 ((256 : Mb)) ((9 : Fin 64))) 3 8).2 = false) ∧
    ((w_SkeinAndStitchCommands_3.sk (u16 (payloadOf w_SkeinAndStitchCommands_3 ((256 : Mb)) ((9 : Fin 64))) 0)).powerCmd = none) ∧
    (w_SkeinAndStitchCommands_3.seqSt (w_SkeinAndStitchCommands_3.sk (u16 (payloadOf w_SkeinAndStitchCommands_3 ((256 : Mb)) ((9 : Fin 64))) 0)).slot = 0) ∧
    (w_SkeinAndStitchCommands_3.skSt (u16 (payloadOf w_SkeinAndStitchCommands_3 ((256 : Mb)) ((9 : Fin 64))) 0) ≠ 1 ∧ w_SkeinAndStitchCommands_3.skSt (u16 (payloadOf w_SkeinAndStitchCommands_3 ((256 : Mb)) ((9 : Fin 64))) 0) ≠ 2) ∧
    after (exec (.skeinPower ((256 : Mb)) ((9 : Fin 64))) w_SkeinAndStitchCommands_3) (fun t => decide ((Done t ((256 : Mb)) ((9 : Fin 64)) (cmdOf w_SkeinAndStitchCommands_3 ((256 : Mb)) ((9 : Fin 64))) 0 0 0) ∧ (t.skSt (u16 (payloadOf w_SkeinAndStitchCommands_3 ((256 : Mb)) ((9 : Fin 64))) 0) = w_SkeinAndStitchCommands_3.skSt (u16 (payloadOf w_SkeinAndStitchCommands_3 ((256 : Mb)) ((9 : Fin 64))) 0)) ∧ (t.stitches = w_SkeinAndStitchCommands_3.stitches))) = true := by decide +kernel

def w_SkeinAndStitchCommands_4 : State :=
    (withCmd (((((unitA.updSt 389 (fun y => { y with skein := some 7, state := 2, desc := { vinLsb := 256, iphLsb := 256, voutLsb := 256 } })).updSk 7 (fun x => { x with known := true, slot := 3, stitches := [5], base := 100, stepped := 100, hz := 800000, engine := some 2 }))).skSet 7 2)) 256 9 0x410 [7, 0, 0])

theorem test_SkeinAndStitchCommands_4 :
    (Ready w_SkeinAndStitchCommands_4 ((256 : Mb)) ((9 : Fin 64)) 0x410) ∧
    (NoRung w_SkeinAndStitchCommands_4) ∧
    (w_SkeinAndStitchCommands_4.skeinBad ((256 : Mb)) (u16 (payloadOf w_SkeinAndStitchCommands_4 ((256 : Mb)) ((9 : Fin 64))) 0) = false) ∧
    (w_SkeinAndStitchCommands_4.ownsPort (w_SkeinAndStitchCommands_4.sk (u16 (payloadOf w_SkeinAndStitchCommands_4 ((256 : Mb)) ((9 : Fin 64))) 0)).slot = true) ∧
    (u8 (payloadOf w_SkeinAndStitchCommands_4 ((256 : Mb)) ((9 : Fin 64))) 2 = 0) ∧
    ((resv (payloadOf w_SkeinAndStitchCommands_4 ((256 : Mb)) ((9 : Fin 64))) 3 8).2 = false) ∧
    ((w_SkeinAndStitchCommands_4.sk (u16 (payloadOf w_SkeinAndStitchCommands_4 ((256 : Mb)) ((9 : Fin 64))) 0)).powerCmd = none) ∧
    (w_SkeinAndStitchCommands_4.railOf (u16 (payloadOf w_SkeinAndStitchCommands_4 ((256 : Mb)) ((9 : Fin 64))) 0) = none) ∧
    (w_SkeinAndStitchCommands_4.seqSt (w_SkeinAndStitchCommands_4.sk (u16 (payloadOf w_SkeinAndStitchCommands_4 ((256 : Mb)) ((9 : Fin 64))) 0)).slot = 0) ∧
    (w_SkeinAndStitchCommands_4.skSt (u16 (payloadOf w_SkeinAndStitchCommands_4 ((256 : Mb)) ((9 : Fin 64))) 0) = 2) ∧
    ((w_SkeinAndStitchCommands_4.sk (u16 (payloadOf w_SkeinAndStitchCommands_4 ((256 : Mb)) ((9 : Fin 64))) 0)).loads = []) ∧
    ((w_SkeinAndStitchCommands_4.sk (u16 (payloadOf w_SkeinAndStitchCommands_4 ((256 : Mb)) ((9 : Fin 64))) 0)).engine.isSome = true) ∧
    after (exec (.skeinPower ((256 : Mb)) ((9 : Fin 64))) w_SkeinAndStitchCommands_4) (fun t => decide (((t.sk (u16 (payloadOf w_SkeinAndStitchCommands_4 ((256 : Mb)) ((9 : Fin 64))) 0)).loads = [(.power 0, none)]) ∧ ((t.sk (u16 (payloadOf w_SkeinAndStitchCommands_4 ((256 : Mb)) ((9 : Fin 64))) 0)).powerCmd = some (((256 : Mb)).val, ((9 : Fin 64)).val, 0)) ∧ (t.skSt (u16 (payloadOf w_SkeinAndStitchCommands_4 ((256 : Mb)) ((9 : Fin 64))) 0) = 2) ∧ ((cmdOf t ((256 : Mb)) ((9 : Fin 64))).phase = .started) ∧ (t.stitches = w_SkeinAndStitchCommands_4.stitches) ∧ (t.mem = w_SkeinAndStitchCommands_4.mem))) = true := by decide +kernel

def w_SkeinAndStitchCommands_5 : State :=
    (withCmd (((unitA.updSt 389 (fun y => { y with skein := some 7, state := 2, desc := { vinLsb := 256, iphLsb := 256, voutLsb := 256 } })).updSk 7 (fun x => { x with known := true, slot := 3, stitches := [5], base := 100, stepped := 100, hz := 800000, engine := some 2 }))) 256 9 0x411 ([7, 0, 0, 0, 138, 2, 0, 0, 32, 3, 0, 0, 132, 3, 0, 0, 60, 0, 45, 0, 1, 8, 1, 1, 1, 0, 0, 0, 200, 0, 0, 0, 0, 0, 0, 0, 0, 0, 92, 15, 238, 2, 0, 0, 232, 3, 0, 0, 184, 11, 0, 0, 75]))

theorem test_SkeinAndStitchCommands_5 :
    (Ready w_SkeinAndStitchCommands_5 ((256 : Mb)) ((9 : Fin 64)) 0x411) ∧
    (NoRung w_SkeinAndStitchCommands_5) ∧
    (Passes w_SkeinAndStitchCommands_5 (limitsChecks w_SkeinAndStitchCommands_5 ((256 : Mb)) (payloadOf w_SkeinAndStitchCommands_5 ((256 : Mb)) ((9 : Fin 64))))) ∧
    ((w_SkeinAndStitchCommands_5.sk (u16 (payloadOf w_SkeinAndStitchCommands_5 ((256 : Mb)) ((9 : Fin 64))) 0)).engine.isSome = true) ∧
    after (exec (.skeinSetLimits ((256 : Mb)) ((9 : Fin 64))) w_SkeinAndStitchCommands_5) (fun t => decide (((t.sk (u16 (payloadOf w_SkeinAndStitchCommands_5 ((256 : Mb)) ((9 : Fin 64))) 0)).loads = (w_SkeinAndStitchCommands_5.sk (u16 (payloadOf w_SkeinAndStitchCommands_5 ((256 : Mb)) ((9 : Fin 64))) 0)).loads ++ [(limitsOf (payloadOf w_SkeinAndStitchCommands_5 ((256 : Mb)) ((9 : Fin 64))), some (((256 : Mb)).val, ((9 : Fin 64)).val))]) ∧ ((t.sk (u16 (payloadOf w_SkeinAndStitchCommands_5 ((256 : Mb)) ((9 : Fin 64))) 0)).lim = (w_SkeinAndStitchCommands_5.sk (u16 (payloadOf w_SkeinAndStitchCommands_5 ((256 : Mb)) ((9 : Fin 64))) 0)).lim) ∧ ((cmdOf t ((256 : Mb)) ((9 : Fin 64))).phase = .started) ∧ (t.stitches = w_SkeinAndStitchCommands_5.stitches) ∧ (t.mem = w_SkeinAndStitchCommands_5.mem))) = true := by decide +kernel

def w_SkeinAndStitchCommands_6 : State :=
    (withCmd (((unitA.updSt 389 (fun y => { y with skein := some 7, state := 2, desc := { vinLsb := 256, iphLsb := 256, voutLsb := 256 } })).updSk 7 (fun x => { x with known := true, slot := 3, stitches := [5], base := 100, stepped := 100, hz := 800000, engine := some 2 })).updSk 7 (fun x => { x with lim := { x.lim with tgtMin := 650, tgtMax := 800, slew := 1000 } })) 256 9 0x412 [7, 0, 0, 0, 238, 2])

theorem test_SkeinAndStitchCommands_6 :
    (Ready w_SkeinAndStitchCommands_6 ((256 : Mb)) ((9 : Fin 64)) 0x412) ∧
    (w_SkeinAndStitchCommands_6.level_ ≥ 3) ∧
    (w_SkeinAndStitchCommands_6.skeinBad ((256 : Mb)) (u16 (payloadOf w_SkeinAndStitchCommands_6 ((256 : Mb)) ((9 : Fin 64))) 0) = false) ∧
    (w_SkeinAndStitchCommands_6.ownsPort (w_SkeinAndStitchCommands_6.sk (u16 (payloadOf w_SkeinAndStitchCommands_6 ((256 : Mb)) ((9 : Fin 64))) 0)).slot = true) ∧
    ((resv (payloadOf w_SkeinAndStitchCommands_6 ((256 : Mb)) ((9 : Fin 64))) 2 4).2 = false) ∧
    ((w_SkeinAndStitchCommands_6.sk (u16 (payloadOf w_SkeinAndStitchCommands_6 ((256 : Mb)) ((9 : Fin 64))) 0)).lim.tgtMin ≤ u32 (payloadOf w_SkeinAndStitchCommands_6 ((256 : Mb)) ((9 : Fin 64))) 4 ∧ u32 (payloadOf w_SkeinAndStitchCommands_6 ((256 : Mb)) ((9 : Fin 64))) 4 ≤ (w_SkeinAndStitchCommands_6.sk (u16 (payloadOf w_SkeinAndStitchCommands_6 ((256 : Mb)) ((9 : Fin 64))) 0)).lim.tgtMax) ∧
    (u32 (payloadOf w_SkeinAndStitchCommands_6 ((256 : Mb)) ((9 : Fin 64))) 8 ≤ 1000000) ∧
    after (exec (.skeinSetTarget ((256 : Mb)) ((9 : Fin 64))) w_SkeinAndStitchCommands_6) (fun t => decide (((t.sk (u16 (payloadOf w_SkeinAndStitchCommands_6 ((256 : Mb)) ((9 : Fin 64))) 0)).target = u32 (payloadOf w_SkeinAndStitchCommands_6 ((256 : Mb)) ((9 : Fin 64))) 4) ∧ ((t.sk (u16 (payloadOf w_SkeinAndStitchCommands_6 ((256 : Mb)) ((9 : Fin 64))) 0)).slew = (if u32 (payloadOf w_SkeinAndStitchCommands_6 ((256 : Mb)) ((9 : Fin 64))) 8 = 0 then (w_SkeinAndStitchCommands_6.sk (u16 (payloadOf w_SkeinAndStitchCommands_6 ((256 : Mb)) ((9 : Fin 64))) 0)).lim.slew else u32 (payloadOf w_SkeinAndStitchCommands_6 ((256 : Mb)) ((9 : Fin 64))) 8)) ∧ ((t.sk (u16 (payloadOf w_SkeinAndStitchCommands_6 ((256 : Mb)) ((9 : Fin 64))) 0)).job = (w_SkeinAndStitchCommands_6.sk (u16 (payloadOf w_SkeinAndStitchCommands_6 ((256 : Mb)) ((9 : Fin 64))) 0)).job) ∧ (Done t ((256 : Mb)) ((9 : Fin 64)) (cmdOf w_SkeinAndStitchCommands_6 ((256 : Mb)) ((9 : Fin 64))) 0 0 0) ∧ (t.stitches = w_SkeinAndStitchCommands_6.stitches))) = true := by decide +kernel

def w_SkeinAndStitchCommands_7 : State :=
    (withCmd (((unitA.updSt 389 (fun y => { y with skein := some 7, state := 2, desc := { vinLsb := 256, iphLsb := 256, voutLsb := 256 } })).updSk 7 (fun x => { x with known := true, slot := 3, stitches := [5], base := 100, stepped := 100, hz := 800000, engine := some 2 }))) 256 9 0x413 [7, 0, 1, 0, 5])

theorem test_SkeinAndStitchCommands_7 :
    (Ready w_SkeinAndStitchCommands_7 ((256 : Mb)) ((9 : Fin 64)) 0x413) ∧
    (NoRung w_SkeinAndStitchCommands_7) ∧
    (w_SkeinAndStitchCommands_7.skeinBad ((256 : Mb)) (u16 (payloadOf w_SkeinAndStitchCommands_7 ((256 : Mb)) ((9 : Fin 64))) 0) = false) ∧
    (w_SkeinAndStitchCommands_7.ownsPort (w_SkeinAndStitchCommands_7.sk (u16 (payloadOf w_SkeinAndStitchCommands_7 ((256 : Mb)) ((9 : Fin 64))) 0)).slot = true) ∧
    (u8 (payloadOf w_SkeinAndStitchCommands_7 ((256 : Mb)) ((9 : Fin 64))) 2 = 1) ∧
    ((w_SkeinAndStitchCommands_7.bound (u16 (payloadOf w_SkeinAndStitchCommands_7 ((256 : Mb)) ((9 : Fin 64))) 0)).map (· % 128) = [u8 (payloadOf w_SkeinAndStitchCommands_7 ((256 : Mb)) ((9 : Fin 64))) 4]) ∧
    ((w_SkeinAndStitchCommands_7.sk (u16 (payloadOf w_SkeinAndStitchCommands_7 ((256 : Mb)) ((9 : Fin 64))) 0)).engine.isSome = true) ∧
    after (exec (.skeinSetShed ((256 : Mb)) ((9 : Fin 64))) w_SkeinAndStitchCommands_7) (fun t => decide (((t.sk (u16 (payloadOf w_SkeinAndStitchCommands_7 ((256 : Mb)) ((9 : Fin 64))) 0)).loads = (w_SkeinAndStitchCommands_7.sk (u16 (payloadOf w_SkeinAndStitchCommands_7 ((256 : Mb)) ((9 : Fin 64))) 0)).loads ++ [(.shed [u8 (payloadOf w_SkeinAndStitchCommands_7 ((256 : Mb)) ((9 : Fin 64))) 4], some (((256 : Mb)).val, ((9 : Fin 64)).val))]) ∧ ((t.sk (u16 (payloadOf w_SkeinAndStitchCommands_7 ((256 : Mb)) ((9 : Fin 64))) 0)).order = (w_SkeinAndStitchCommands_7.sk (u16 (payloadOf w_SkeinAndStitchCommands_7 ((256 : Mb)) ((9 : Fin 64))) 0)).order) ∧ ((cmdOf t ((256 : Mb)) ((9 : Fin 64))).phase = .started) ∧ (t.stitches = w_SkeinAndStitchCommands_7.stitches) ∧ (t.mem = w_SkeinAndStitchCommands_7.mem))) = true := by decide +kernel

def w_SkeinAndStitchCommands_8 : State :=
    (withCmd (((unitA.updSt 389 (fun y => { y with skein := some 7, state := 2, desc := { vinLsb := 256, iphLsb := 256, voutLsb := 256 } })).updSk 7 (fun x => { x with known := true, slot := 3, stitches := [5], base := 100, stepped := 100, hz := 800000, engine := some 2 }))) 256 9 0x414 [7, 0])

theorem test_SkeinAndStitchCommands_8 :
    (Ready w_SkeinAndStitchCommands_8 ((256 : Mb)) ((9 : Fin 64)) 0x414) ∧
    (w_SkeinAndStitchCommands_8.skeinBad ((256 : Mb)) (u16 (payloadOf w_SkeinAndStitchCommands_8 ((256 : Mb)) ((9 : Fin 64))) 0) = false) ∧
    after (exec (.skeinQuery ((256 : Mb)) ((9 : Fin 64))) w_SkeinAndStitchCommands_8) (fun t => decide ((Done t ((256 : Mb)) ((9 : Fin 64)) (cmdOf w_SkeinAndStitchCommands_8 ((256 : Mb)) ((9 : Fin 64))) 0 (clampI 0 65535 ((w_SkeinAndStitchCommands_8.sk (u16 (payloadOf w_SkeinAndStitchCommands_8 ((256 : Mb)) ((9 : Fin 64))) 0)).lastFb.getD 0)).toNat (w_SkeinAndStitchCommands_8.skSt (u16 (payloadOf w_SkeinAndStitchCommands_8 ((256 : Mb)) ((9 : Fin 64))) 0) + (w_SkeinAndStitchCommands_8.sk (u16 (payloadOf w_SkeinAndStitchCommands_8 ((256 : Mb)) ((9 : Fin 64))) 0)).job.count * 2 ^ 3 + (w_SkeinAndStitchCommands_8.sk (u16 (payloadOf w_SkeinAndStitchCommands_8 ((256 : Mb)) ((9 : Fin 64))) 0)).job.region * 2 ^ 11 + (w_SkeinAndStitchCommands_8.sk (u16 (payloadOf w_SkeinAndStitchCommands_8 ((256 : Mb)) ((9 : Fin 64))) 0)).restoreUntil.isSome.toNat * 2 ^ 14 + (decide (w_SkeinAndStitchCommands_8.skSt (u16 (payloadOf w_SkeinAndStitchCommands_8 ((256 : Mb)) ((9 : Fin 64))) 0) = 4)).toNat * 2 ^ 15 + Nat.min (divRound (w_SkeinAndStitchCommands_8.sk (u16 (payloadOf w_SkeinAndStitchCommands_8 ((256 : Mb)) ((9 : Fin 64))) 0)).job.refQ16 65536).toNat 65535 * 2 ^ 16 + Nat.min (w_SkeinAndStitchCommands_8.sk (u16 (payloadOf w_SkeinAndStitchCommands_8 ((256 : Mb)) ((9 : Fin 64))) 0)).target 65535 * 2 ^ 32 + (w_SkeinAndStitchCommands_8.healthy (u16 (payloadOf w_SkeinAndStitchCommands_8 ((256 : Mb)) ((9 : Fin 64))) 0)).length * 2 ^ 48)) ∧ (t.skeins = w_SkeinAndStitchCommands_8.skeins) ∧ (t.stitches = w_SkeinAndStitchCommands_8.stitches))) = true := by decide +kernel

def w_SkeinAndStitchCommands_9 : State :=
    (withCmd (((((unitA.updSt 389 (fun y => { y with skein := some 7, state := 2, desc := { vinLsb := 256, iphLsb := 256, voutLsb := 256 } })).updSk 7 (fun x => { x with known := true, slot := 3, stitches := [5], base := 100, stepped := 100, hz := 800000, engine := some 2 }))).skSet 7 5).updSk 7 (fun x => { x with lastFb := some (-90000) })) 256 9 0x415 [7, 0])

theorem test_SkeinAndStitchCommands_9 :
    (Ready w_SkeinAndStitchCommands_9 ((256 : Mb)) ((9 : Fin 64)) 0x415) ∧
    (NoRung w_SkeinAndStitchCommands_9) ∧
    (w_SkeinAndStitchCommands_9.skeinBad ((256 : Mb)) (u16 (payloadOf w_SkeinAndStitchCommands_9 ((256 : Mb)) ((9 : Fin 64))) 0) = false) ∧
    (w_SkeinAndStitchCommands_9.ownsPort (w_SkeinAndStitchCommands_9.sk (u16 (payloadOf w_SkeinAndStitchCommands_9 ((256 : Mb)) ((9 : Fin 64))) 0)).slot = true) ∧
    (w_SkeinAndStitchCommands_9.skSt (u16 (payloadOf w_SkeinAndStitchCommands_9 ((256 : Mb)) ((9 : Fin 64))) 0) = 5) ∧
    ((w_SkeinAndStitchCommands_9.sk (u16 (payloadOf w_SkeinAndStitchCommands_9 ((256 : Mb)) ((9 : Fin 64))) 0)).lastFb = some ((-90000 : Int))) ∧
    (((-90000 : Int)) * 65536 < (w_SkeinAndStitchCommands_9.sk (u16 (payloadOf w_SkeinAndStitchCommands_9 ((256 : Mb)) ((9 : Fin 64))) 0)).ovThr) ∧
    after (exec (.skeinClear ((256 : Mb)) ((9 : Fin 64))) w_SkeinAndStitchCommands_9) (fun t => decide ((t.skSt (u16 (payloadOf w_SkeinAndStitchCommands_9 ((256 : Mb)) ((9 : Fin 64))) 0) = 0) ∧ (t.get (SKN_STATE_state (u16 (payloadOf w_SkeinAndStitchCommands_9 ((256 : Mb)) ((9 : Fin 64))) 0)) = 0) ∧ (Done t ((256 : Mb)) ((9 : Fin 64)) (cmdOf w_SkeinAndStitchCommands_9 ((256 : Mb)) ((9 : Fin 64))) 0 0 0) ∧ (t.stitches = w_SkeinAndStitchCommands_9.stitches))) = true := by decide +kernel

def w_SkeinAndStitchCommands_10 : State :=
    (withCmd (((((unitA.updSt 389 (fun y => { y with skein := some 7, state := 2, desc := { vinLsb := 256, iphLsb := 256, voutLsb := 256 } })).updSk 7 (fun x => { x with known := true, slot := 3, stitches := [5], base := 100, stepped := 100, hz := 800000, engine := some 2 }))).skSet 7 5).updSk 7 (fun x => { x with lastFb := some 90000 })) 256 9 0x415 [7, 0])

theorem test_SkeinAndStitchCommands_10 :
    (Ready w_SkeinAndStitchCommands_10 ((256 : Mb)) ((9 : Fin 64)) 0x415) ∧
    (NoRung w_SkeinAndStitchCommands_10) ∧
    (w_SkeinAndStitchCommands_10.skeinBad ((256 : Mb)) (u16 (payloadOf w_SkeinAndStitchCommands_10 ((256 : Mb)) ((9 : Fin 64))) 0) = false) ∧
    (w_SkeinAndStitchCommands_10.ownsPort (w_SkeinAndStitchCommands_10.sk (u16 (payloadOf w_SkeinAndStitchCommands_10 ((256 : Mb)) ((9 : Fin 64))) 0)).slot = true) ∧
    (w_SkeinAndStitchCommands_10.skSt (u16 (payloadOf w_SkeinAndStitchCommands_10 ((256 : Mb)) ((9 : Fin 64))) 0) = 5) ∧
    ((w_SkeinAndStitchCommands_10.sk (u16 (payloadOf w_SkeinAndStitchCommands_10 ((256 : Mb)) ((9 : Fin 64))) 0)).lastFb = some ((90000 : Int))) ∧
    ((w_SkeinAndStitchCommands_10.sk (u16 (payloadOf w_SkeinAndStitchCommands_10 ((256 : Mb)) ((9 : Fin 64))) 0)).ovThr ≤ ((90000 : Int)) * 65536) ∧
    (Tail w_SkeinAndStitchCommands_10 ((256 : Mb)) ((9 : Fin 64))) ∧
    after (exec (.skeinClear ((256 : Mb)) ((9 : Fin 64))) w_SkeinAndStitchCommands_10) (fun t => decide ((t.skSt (u16 (payloadOf w_SkeinAndStitchCommands_10 ((256 : Mb)) ((9 : Fin 64))) 0) = 5) ∧ (Done t ((256 : Mb)) ((9 : Fin 64)) (cmdOf w_SkeinAndStitchCommands_10 ((256 : Mb)) ((9 : Fin 64))) 9 0 0) ∧ (t.skeins = w_SkeinAndStitchCommands_10.skeins) ∧ (t.stitches = w_SkeinAndStitchCommands_10.stitches))) = true := by decide +kernel

def w_SkeinAndStitchCommands_11 : State :=
    (withCmd (((unitA.updSt 389 (fun y => { y with skein := some 7, state := 2, desc := { vinLsb := 256, iphLsb := 256, voutLsb := 256 } })).updSk 7 (fun x => { x with known := true, slot := 3, stitches := [5], base := 100, stepped := 100, hz := 800000, engine := some 2 }))) 256 9 0x501 [133, 1])

theorem test_SkeinAndStitchCommands_11 :
    (Ready w_SkeinAndStitchCommands_11 ((256 : Mb)) ((9 : Fin 64)) 0x501) ∧
    (w_SkeinAndStitchCommands_11.stitchBad ((256 : Mb)) (u16 (payloadOf w_SkeinAndStitchCommands_11 ((256 : Mb)) ((9 : Fin 64))) 0) = false) ∧
    after (exec (.stitchQuery ((256 : Mb)) ((9 : Fin 64))) w_SkeinAndStitchCommands_11) (fun t => decide ((Done t ((256 : Mb)) ((9 : Fin 64)) (cmdOf w_SkeinAndStitchCommands_11 ((256 : Mb)) ((9 : Fin 64))) 0 0 ((w_SkeinAndStitchCommands_11.st (u16 (payloadOf w_SkeinAndStitchCommands_11 ((256 : Mb)) ((9 : Fin 64))) 0)).state + (w_SkeinAndStitchCommands_11.st (u16 (payloadOf w_SkeinAndStitchCommands_11 ((256 : Mb)) ((9 : Fin 64))) 0)).hub * 2 ^ 8 + w_SkeinAndStitchCommands_11.shownDuty (u16 (payloadOf w_SkeinAndStitchCommands_11 ((256 : Mb)) ((9 : Fin 64))) 0) % 65536 * 2 ^ 16 + Nat.min (w_SkeinAndStitchCommands_11.st (u16 (payloadOf w_SkeinAndStitchCommands_11 ((256 : Mb)) ((9 : Fin 64))) 0)).late (2 ^ 32 - 1) * 2 ^ 32)) ∧ (t.stitches = w_SkeinAndStitchCommands_11.stitches) ∧ (t.skeins = w_SkeinAndStitchCommands_11.skeins))) = true := by decide +kernel

def w_SkeinAndStitchCommands_12 : State :=
    (withCmd (((unitA.updSt 389 (fun y => { y with skein := some 7, state := 2, desc := { vinLsb := 256, iphLsb := 256, voutLsb := 256 } })).updSk 7 (fun x => { x with known := true, slot := 3, stitches := [5], base := 100, stepped := 100, hz := 800000, engine := some 2 })).updSt 389 (fun y => { y with state := 5, latched := true })) 256 9 0x502 [133, 1])

theorem test_SkeinAndStitchCommands_12 :
    (Ready w_SkeinAndStitchCommands_12 ((256 : Mb)) ((9 : Fin 64)) 0x502) ∧
    (NoRung w_SkeinAndStitchCommands_12) ∧
    (w_SkeinAndStitchCommands_12.stitchBad ((256 : Mb)) (u16 (payloadOf w_SkeinAndStitchCommands_12 ((256 : Mb)) ((9 : Fin 64))) 0) = false) ∧
    (w_SkeinAndStitchCommands_12.ownsPort ((u16 (payloadOf w_SkeinAndStitchCommands_12 ((256 : Mb)) ((9 : Fin 64))) 0) / 128) = true) ∧
    ((w_SkeinAndStitchCommands_12.st (u16 (payloadOf w_SkeinAndStitchCommands_12 ((256 : Mb)) ((9 : Fin 64))) 0)).hiccup = false) ∧
    ((w_SkeinAndStitchCommands_12.st (u16 (payloadOf w_SkeinAndStitchCommands_12 ((256 : Mb)) ((9 : Fin 64))) 0)).state = 5) ∧
    after (exec (.stitchClear ((256 : Mb)) ((9 : Fin 64))) w_SkeinAndStitchCommands_12) (fun t => decide (((t.st (u16 (payloadOf w_SkeinAndStitchCommands_12 ((256 : Mb)) ((9 : Fin 64))) 0)).state = 2) ∧ ((t.st (u16 (payloadOf w_SkeinAndStitchCommands_12 ((256 : Mb)) ((9 : Fin 64))) 0)).latched = false) ∧ (t.get (STITCH_STATE_state ((u16 (payloadOf w_SkeinAndStitchCommands_12 ((256 : Mb)) ((9 : Fin 64))) 0) / 128) ((u16 (payloadOf w_SkeinAndStitchCommands_12 ((256 : Mb)) ((9 : Fin 64))) 0) % 128)) = 2) ∧ (Done t ((256 : Mb)) ((9 : Fin 64)) (cmdOf w_SkeinAndStitchCommands_12 ((256 : Mb)) ((9 : Fin 64))) 0 0 0) ∧ (t.skeins = w_SkeinAndStitchCommands_12.skeins))) = true := by decide +kernel

def w_SkeinAndStitchCommands_13 : State :=
    (withCmd (((unitA.updSt 389 (fun y => { y with skein := some 7, state := 2, desc := { vinLsb := 256, iphLsb := 256, voutLsb := 256 } })).updSk 7 (fun x => { x with known := true, slot := 3, stitches := [5], base := 100, stepped := 100, hz := 800000, engine := some 2 })).updSt 389 (fun y => { y with state := 5, hiccup := true })) 256 9 0x502 [133, 1])

theorem test_SkeinAndStitchCommands_13 :
    (Ready w_SkeinAndStitchCommands_13 ((256 : Mb)) ((9 : Fin 64)) 0x502) ∧
    (NoRung w_SkeinAndStitchCommands_13) ∧
    (w_SkeinAndStitchCommands_13.stitchBad ((256 : Mb)) (u16 (payloadOf w_SkeinAndStitchCommands_13 ((256 : Mb)) ((9 : Fin 64))) 0) = false) ∧
    (w_SkeinAndStitchCommands_13.ownsPort ((u16 (payloadOf w_SkeinAndStitchCommands_13 ((256 : Mb)) ((9 : Fin 64))) 0) / 128) = true) ∧
    ((w_SkeinAndStitchCommands_13.st (u16 (payloadOf w_SkeinAndStitchCommands_13 ((256 : Mb)) ((9 : Fin 64))) 0)).hiccup = true) ∧
    (Tail w_SkeinAndStitchCommands_13 ((256 : Mb)) ((9 : Fin 64))) ∧
    after (exec (.stitchClear ((256 : Mb)) ((9 : Fin 64))) w_SkeinAndStitchCommands_13) (fun t => decide ((Done t ((256 : Mb)) ((9 : Fin 64)) (cmdOf w_SkeinAndStitchCommands_13 ((256 : Mb)) ((9 : Fin 64))) 9 0 0) ∧ (t.stitches = w_SkeinAndStitchCommands_13.stitches) ∧ (t.skeins = w_SkeinAndStitchCommands_13.skeins))) = true := by decide +kernel

def w_ArbiterGrantsByDeadline_1 : State :=
    (unitA.setF (PORT_STATUS_link_state 3) 3).updPort 3 (fun x => { x with queue := [(⟨5, 2, 101, 900, 1, 1, 9, 8192000, 0, 0, 750, 5000, 5200, 0, none, false⟩ : CmdCell)] })

theorem test_ArbiterGrantsByDeadline_1 :
    (NoRung w_ArbiterGrantsByDeadline_1) ∧
    (w_ArbiterGrantsByDeadline_1.get (PORT_STATUS_link_state ((3 : Fin 64))) = 3) ∧
    ((w_ArbiterGrantsByDeadline_1.port ((3 : Fin 64))).queue = [((⟨5, 2, 101, 900, 1, 1, 9, 8192000, 0, 0, 750, 5000, 5200, 0, none, false⟩ : CmdCell))]) ∧
    ((w_ArbiterGrantsByDeadline_1.port ((3 : Fin 64))).held = []) ∧
    ((w_ArbiterGrantsByDeadline_1.port ((3 : Fin 64))).granting = none) ∧
    (((⟨5, 2, 101, 900, 1, 1, 9, 8192000, 0, 0, 750, 5000, 5200, 0, none, false⟩ : CmdCell)).lock = none) ∧
    (w_ArbiterGrantsByDeadline_1.ct ≤ ((⟨5, 2, 101, 900, 1, 1, 9, 8192000, 0, 0, 750, 5000, 5200, 0, none, false⟩ : CmdCell)).deadline) ∧
    ((w_ArbiterGrantsByDeadline_1.port ((3 : Fin 64))).claim = none) ∧
    ((w_ArbiterGrantsByDeadline_1.port ((3 : Fin 64))).yieldAt = none) ∧
    (w_ArbiterGrantsByDeadline_1.slotNow ((3 : Fin 64)) = true) ∧
    (w_ArbiterGrantsByDeadline_1.swTouched = []) ∧
    (w_ArbiterGrantsByDeadline_1.ownsPort ((3 : Fin 64)) = true) ∧
    after (exec (.arbGrant ((3 : Fin 64))) w_ArbiterGrantsByDeadline_1) (fun t => decide (((t.port ((3 : Fin 64))).queue = []) ∧ (Tbl.find? (t.port ((3 : Fin 64))).lastGrant ((⟨5, 2, 101, 900, 1, 1, 9, 8192000, 0, 0, 750, 5000, 5200, 0, none, false⟩ : CmdCell)).stitch = some ((⟨5, 2, 101, 900, 1, 1, 9, 8192000, 0, 0, 750, 5000, 5200, 0, none, false⟩ : CmdCell)).cycle) ∧ (Counted w_ArbiterGrantsByDeadline_1 t (ARB_CNT_GRANT_v ((3 : Fin 64)))) ∧ (t.get (ARB_STATUS_depth ((3 : Fin 64))) = 0) ∧ (t.out = w_ArbiterGrantsByDeadline_1.out ++ [.command ((3 : Fin 64)) ((⟨5, 2, 101, 900, 1, 1, 9, 8192000, 0, 0, 750, 5000, 5200, 0, none, false⟩ : CmdCell)).stitch ((⟨5, 2, 101, 900, 1, 1, 9, 8192000, 0, 0, 750, 5000, 5200, 0, none, false⟩ : CmdCell)).cycle ((⟨5, 2, 101, 900, 1, 1, 9, 8192000, 0, 0, 750, 5000, 5200, 0, none, false⟩ : CmdCell)).duty ((⟨5, 2, 101, 900, 1, 1, 9, 8192000, 0, 0, 750, 5000, 5200, 0, none, false⟩ : CmdCell)).mode ((⟨5, 2, 101, 900, 1, 1, 9, 8192000, 0, 0, 750, 5000, 5200, 0, none, false⟩ : CmdCell)).res ((⟨5, 2, 101, 900, 1, 1, 9, 8192000, 0, 0, 750, 5000, 5200, 0, none, false⟩ : CmdCell)).hold ((⟨5, 2, 101, 900, 1, 1, 9, 8192000, 0, 0, 750, 5000, 5200, 0, none, false⟩ : CmdCell)).period ((⟨5, 2, 101, 900, 1, 1, 9, 8192000, 0, 0, 750, 5000, 5200, 0, none, false⟩ : CmdCell)).nextOffset ((⟨5, 2, 101, 900, 1, 1, 9, 8192000, 0, 0, 750, 5000, 5200, 0, none, false⟩ : CmdCell)).target]) ∧ (t.skeins = w_ArbiterGrantsByDeadline_1.skeins) ∧ (t.mem = w_ArbiterGrantsByDeadline_1.mem))) = true := by decide +kernel

def w_ArbiterGrantsByDeadline_2 : State :=
    ((unitA.setF (PORT_STATUS_link_state 3) 3).putWord (aPAIR_OWN 0) 0).updPort 3 (fun x => { x with queue := [(⟨5, 2, 101, 900, 1, 1, 9, 8192000, 0, 0, 750, 5000, 5200, 0, none, false⟩ : CmdCell)] })

theorem test_ArbiterGrantsByDeadline_2 :
    (NoRung w_ArbiterGrantsByDeadline_2) ∧
    (w_ArbiterGrantsByDeadline_2.get (PORT_STATUS_link_state ((3 : Fin 64))) = 3) ∧
    ((w_ArbiterGrantsByDeadline_2.port ((3 : Fin 64))).queue = [((⟨5, 2, 101, 900, 1, 1, 9, 8192000, 0, 0, 750, 5000, 5200, 0, none, false⟩ : CmdCell))]) ∧
    ((w_ArbiterGrantsByDeadline_2.port ((3 : Fin 64))).held = []) ∧
    ((w_ArbiterGrantsByDeadline_2.port ((3 : Fin 64))).granting = none) ∧
    (((⟨5, 2, 101, 900, 1, 1, 9, 8192000, 0, 0, 750, 5000, 5200, 0, none, false⟩ : CmdCell)).lock = none) ∧
    (w_ArbiterGrantsByDeadline_2.ct ≤ ((⟨5, 2, 101, 900, 1, 1, 9, 8192000, 0, 0, 750, 5000, 5200, 0, none, false⟩ : CmdCell)).deadline) ∧
    ((w_ArbiterGrantsByDeadline_2.port ((3 : Fin 64))).claim = none) ∧
    ((w_ArbiterGrantsByDeadline_2.port ((3 : Fin 64))).yieldAt = none) ∧
    (w_ArbiterGrantsByDeadline_2.slotNow ((3 : Fin 64)) = true) ∧
    (w_ArbiterGrantsByDeadline_2.swTouched = []) ∧
    (w_ArbiterGrantsByDeadline_2.ownsPort ((3 : Fin 64)) = false) ∧
    ((w_ArbiterGrantsByDeadline_2.port ((3 : Fin 64))).rel.backlog = []) ∧
    ((w_ArbiterGrantsByDeadline_2.port ((3 : Fin 64))).rel.again = []) ∧
    after (exec (.arbGrant ((3 : Fin 64))) w_ArbiterGrantsByDeadline_2) (fun t => decide (((t.port ((3 : Fin 64))).queue = []) ∧ (Tbl.find? (t.port ((3 : Fin 64))).lastGrant ((⟨5, 2, 101, 900, 1, 1, 9, 8192000, 0, 0, 750, 5000, 5200, 0, none, false⟩ : CmdCell)).stitch = some ((⟨5, 2, 101, 900, 1, 1, 9, 8192000, 0, 0, 750, 5000, 5200, 0, none, false⟩ : CmdCell)).cycle) ∧ (Counted w_ArbiterGrantsByDeadline_2 t (ARB_CNT_GRANT_v ((3 : Fin 64)))) ∧ (Counted w_ArbiterGrantsByDeadline_2 t (ARB_CNT_SUPPRESSED_v ((3 : Fin 64)))) ∧ (t.out = w_ArbiterGrantsByDeadline_2.out) ∧ (t.skeins = w_ArbiterGrantsByDeadline_2.skeins) ∧ (t.mem = w_ArbiterGrantsByDeadline_2.mem))) = true := by decide +kernel

def w_ArbiterGrantsByDeadline_3 : State :=
    (unitA.setF (PORT_STATUS_link_state 3) 3).updPort 3 (fun x => { x with queue := [(⟨5, 2, 101, 900, 1, 1, 9, 8192000, 0, 0, 750, 5000, 5200, 0, some (7, 101), false⟩ : CmdCell), (⟨6, 2, 101, 900, 1, 1, 9, 8192000, 0, 0, 750, 5000, 5200, 0, some (7, 101), false⟩ : CmdCell)] })

theorem test_ArbiterGrantsByDeadline_3 :
    (NoRung w_ArbiterGrantsByDeadline_3) ∧
    (w_ArbiterGrantsByDeadline_3.get (PORT_STATUS_link_state ((3 : Fin 64))) = 3) ∧
    (w_ArbiterGrantsByDeadline_3.slotNow ((3 : Fin 64)) = true) ∧
    ((w_ArbiterGrantsByDeadline_3.port ((3 : Fin 64))).queue = [((⟨5, 2, 101, 900, 1, 1, 9, 8192000, 0, 0, 750, 5000, 5200, 0, some (7, 101), false⟩ : CmdCell)), ((⟨6, 2, 101, 900, 1, 1, 9, 8192000, 0, 0, 750, 5000, 5200, 0, some (7, 101), false⟩ : CmdCell))]) ∧
    ((w_ArbiterGrantsByDeadline_3.port ((3 : Fin 64))).held = []) ∧
    ((w_ArbiterGrantsByDeadline_3.port ((3 : Fin 64))).granting = none) ∧
    (((⟨5, 2, 101, 900, 1, 1, 9, 8192000, 0, 0, 750, 5000, 5200, 0, some (7, 101), false⟩ : CmdCell)).lock = some ((7, 101))) ∧
    (((⟨6, 2, 101, 900, 1, 1, 9, 8192000, 0, 0, 750, 5000, 5200, 0, some (7, 101), false⟩ : CmdCell)).lock = some ((7, 101))) ∧
    (((⟨5, 2, 101, 900, 1, 1, 9, 8192000, 0, 0, 750, 5000, 5200, 0, some (7, 101), false⟩ : CmdCell)).stitch < ((⟨6, 2, 101, 900, 1, 1, 9, 8192000, 0, 0, 750, 5000, 5200, 0, some (7, 101), false⟩ : CmdCell)).stitch) ∧
    (w_ArbiterGrantsByDeadline_3.ct ≤ ((⟨5, 2, 101, 900, 1, 1, 9, 8192000, 0, 0, 750, 5000, 5200, 0, some (7, 101), false⟩ : CmdCell)).deadline) ∧
    (w_ArbiterGrantsByDeadline_3.ct ≤ ((⟨6, 2, 101, 900, 1, 1, 9, 8192000, 0, 0, 750, 5000, 5200, 0, some (7, 101), false⟩ : CmdCell)).deadline) ∧
    (w_ArbiterGrantsByDeadline_3.mustDrop ((3 : Fin 64)) ((7, 101)) = false) ∧
    ((w_ArbiterGrantsByDeadline_3.port ((3 : Fin 64))).claim = none) ∧
    ((w_ArbiterGrantsByDeadline_3.port ((3 : Fin 64))).yieldAt = none) ∧
    (w_ArbiterGrantsByDeadline_3.ownsPort ((3 : Fin 64)) = true) ∧
    (w_ArbiterGrantsByDeadline_3.swTouched = []) ∧
    after (exec (.arbGrant ((3 : Fin 64))) w_ArbiterGrantsByDeadline_3) (fun t => decide (((t.port ((3 : Fin 64))).queue = [((⟨6, 2, 101, 900, 1, 1, 9, 8192000, 0, 0, 750, 5000, 5200, 0, some (7, 101), false⟩ : CmdCell))]) ∧ ((t.port ((3 : Fin 64))).granting = some ((7, 101))) ∧ (Counted w_ArbiterGrantsByDeadline_3 t (ARB_CNT_LOCK_v ((3 : Fin 64)))) ∧ (t.out = w_ArbiterGrantsByDeadline_3.out ++ [.command ((3 : Fin 64)) ((⟨5, 2, 101, 900, 1, 1, 9, 8192000, 0, 0, 750, 5000, 5200, 0, some (7, 101), false⟩ : CmdCell)).stitch ((⟨5, 2, 101, 900, 1, 1, 9, 8192000, 0, 0, 750, 5000, 5200, 0, some (7, 101), false⟩ : CmdCell)).cycle ((⟨5, 2, 101, 900, 1, 1, 9, 8192000, 0, 0, 750, 5000, 5200, 0, some (7, 101), false⟩ : CmdCell)).duty ((⟨5, 2, 101, 900, 1, 1, 9, 8192000, 0, 0, 750, 5000, 5200, 0, some (7, 101), false⟩ : CmdCell)).mode ((⟨5, 2, 101, 900, 1, 1, 9, 8192000, 0, 0, 750, 5000, 5200, 0, some (7, 101), false⟩ : CmdCell)).res ((⟨5, 2, 101, 900, 1, 1, 9, 8192000, 0, 0, 750, 5000, 5200, 0, some (7, 101), false⟩ : CmdCell)).hold ((⟨5, 2, 101, 900, 1, 1, 9, 8192000, 0, 0, 750, 5000, 5200, 0, some (7, 101), false⟩ : CmdCell)).period ((⟨5, 2, 101, 900, 1, 1, 9, 8192000, 0, 0, 750, 5000, 5200, 0, some (7, 101), false⟩ : CmdCell)).nextOffset ((⟨5, 2, 101, 900, 1, 1, 9, 8192000, 0, 0, 750, 5000, 5200, 0, some (7, 101), false⟩ : CmdCell)).target]))) = true := by decide +kernel

def w_ArbiterGrantsByDeadline_4 : State :=
    (unitA.setF (PORT_STATUS_link_state 3) 3).updPort 3 (fun x => { x with rel := { backlog := [(0, .event (.port 3) 0x201 0)] } })

theorem test_ArbiterGrantsByDeadline_4 :
    (NoRung w_ArbiterGrantsByDeadline_4) ∧
    (w_ArbiterGrantsByDeadline_4.get (PORT_STATUS_link_state ((3 : Fin 64))) = 3) ∧
    (w_ArbiterGrantsByDeadline_4.slotFree (.port ((3 : Fin 64))) = true) ∧
    ((w_ArbiterGrantsByDeadline_4.port ((3 : Fin 64))).queue = []) ∧
    ((w_ArbiterGrantsByDeadline_4.port ((3 : Fin 64))).held = []) ∧
    ((w_ArbiterGrantsByDeadline_4.port ((3 : Fin 64))).granting = none) ∧
    ((w_ArbiterGrantsByDeadline_4.port ((3 : Fin 64))).rel.backlog = [(0, .event (.port ((3 : Fin 64))) 0x201 0)]) ∧
    ((w_ArbiterGrantsByDeadline_4.port ((3 : Fin 64))).rel.again = []) ∧
    ((w_ArbiterGrantsByDeadline_4.port ((3 : Fin 64))).rel.mayStart = true) ∧
    after (exec (.arbGrant ((3 : Fin 64))) w_ArbiterGrantsByDeadline_4) (fun t => decide ((t.out = w_ArbiterGrantsByDeadline_4.out ++ [.event (.port ((3 : Fin 64))) 0x201 0]) ∧ ((t.port ((3 : Fin 64))).rel.backlog = []) ∧ ((t.port ((3 : Fin 64))).rel.unacked = (w_ArbiterGrantsByDeadline_4.port ((3 : Fin 64))).rel.unacked ++ [⟨(w_ArbiterGrantsByDeadline_4.port ((3 : Fin 64))).rel.txNext, w_ArbiterGrantsByDeadline_4.ct, 0, 0, .event (.port ((3 : Fin 64))) 0x201 0⟩]) ∧ (t.regs = w_ArbiterGrantsByDeadline_4.regs) ∧ (t.mem = w_ArbiterGrantsByDeadline_4.mem))) = true := by decide +kernel

def w_ArbiterGrantsByDeadline_5 : State :=
    ((unitA.setF (PORT_STATUS_link_state 3) 3).updPort 3 (fun x => { x with queue := [(⟨5, 2, 101, 900, 1, 1, 9, 8192000, 0, 0, 750, 5000, 5200, 0, none, false⟩ : CmdCell)] })).updPort 3 (fun x => { x with claim := some (5, 0), rel := { backlog := [(1, .event (.port 3) 0x400 9)] } })

theorem test_ArbiterGrantsByDeadline_5 :
    (NoRung w_ArbiterGrantsByDeadline_5) ∧
    (w_ArbiterGrantsByDeadline_5.get (PORT_STATUS_link_state ((3 : Fin 64))) = 3) ∧
    (w_ArbiterGrantsByDeadline_5.slotNow ((3 : Fin 64)) = true) ∧
    ((w_ArbiterGrantsByDeadline_5.port ((3 : Fin 64))).queue = [((⟨5, 2, 101, 900, 1, 1, 9, 8192000, 0, 0, 750, 5000, 5200, 0, none, false⟩ : CmdCell))]) ∧
    ((w_ArbiterGrantsByDeadline_5.port ((3 : Fin 64))).held = []) ∧
    ((w_ArbiterGrantsByDeadline_5.port ((3 : Fin 64))).granting = none) ∧
    (((⟨5, 2, 101, 900, 1, 1, 9, 8192000, 0, 0, 750, 5000, 5200, 0, none, false⟩ : CmdCell)).lock = none) ∧
    (w_ArbiterGrantsByDeadline_5.ct ≤ ((⟨5, 2, 101, 900, 1, 1, 9, 8192000, 0, 0, 750, 5000, 5200, 0, none, false⟩ : CmdCell)).deadline) ∧
    ((w_ArbiterGrantsByDeadline_5.port ((3 : Fin 64))).claim = some (5, 0)) ∧
    ((w_ArbiterGrantsByDeadline_5.port ((3 : Fin 64))).rel.backlog = [(1, .event (.port ((3 : Fin 64))) 0x400 9)]) ∧
    ((w_ArbiterGrantsByDeadline_5.port ((3 : Fin 64))).rel.again = []) ∧
    ((w_ArbiterGrantsByDeadline_5.port ((3 : Fin 64))).rel.mayStart = true) ∧
    after (exec (.arbGrant ((3 : Fin 64))) w_ArbiterGrantsByDeadline_5) (fun t => decide ((t.out = w_ArbiterGrantsByDeadline_5.out ++ [.event (.port ((3 : Fin 64))) 0x400 9]) ∧ ((t.port ((3 : Fin 64))).rel.backlog = []) ∧ ((t.port ((3 : Fin 64))).queue = [((⟨5, 2, 101, 900, 1, 1, 9, 8192000, 0, 0, 750, 5000, 5200, 0, none, false⟩ : CmdCell))]) ∧ (t.regs = w_ArbiterGrantsByDeadline_5.regs) ∧ (t.mem = w_ArbiterGrantsByDeadline_5.mem))) = true := by decide +kernel

theorem test_ArbiterGrantsByDeadline_6 :
    (unitA.get (PORT_STATUS_link_state ((3 : Fin 64))) ≠ 3 ∨ unitA.slotNow ((3 : Fin 64)) = false) ∧
    after (exec (.arbGrant ((3 : Fin 64))) unitA) (fun t => decide ((t = unitA))) = true := by decide +kernel

def w_ArbiterGrantsByDeadline_7 : State :=
    { (unitA.setF (PORT_STATUS_link_state 3) 3).updPort 3 (fun x => { x with queue := [(⟨5, 2, 101, 900, 1, 1, 9, 8192000, 0, 0, 750, 5000, 5200, 0, none, false⟩ : CmdCell)] }) with ct := 5001 }

theorem test_ArbiterGrantsByDeadline_7 :
    ((w_ArbiterGrantsByDeadline_7.port ((3 : Fin 64))).queue = [((⟨5, 2, 101, 900, 1, 1, 9, 8192000, 0, 0, 750, 5000, 5200, 0, none, false⟩ : CmdCell))]) ∧
    ((w_ArbiterGrantsByDeadline_7.port ((3 : Fin 64))).held = []) ∧
    (((⟨5, 2, 101, 900, 1, 1, 9, 8192000, 0, 0, 750, 5000, 5200, 0, none, false⟩ : CmdCell)).lock = none) ∧
    (((⟨5, 2, 101, 900, 1, 1, 9, 8192000, 0, 0, 750, 5000, 5200, 0, none, false⟩ : CmdCell)).deadline < w_ArbiterGrantsByDeadline_7.ct) ∧
    (w_ArbiterGrantsByDeadline_7.swTouched = []) ∧
    ((w_ArbiterGrantsByDeadline_7.port ((3 : Fin 64))).granting = none) ∧
    (MayRaise w_ArbiterGrantsByDeadline_7 .arbDeadline ((3 : Fin 64))) ∧
    after (exec (.arbExpire ((3 : Fin 64))) w_ArbiterGrantsByDeadline_7) (fun t => decide (((t.port ((3 : Fin 64))).queue = []) ∧ (Counted w_ArbiterGrantsByDeadline_7 t (ARB_CNT_EXPIRED_v ((3 : Fin 64)))) ∧ (t.get (ARB_STATUS_expired_seen ((3 : Fin 64))) = 1) ∧ (t.get (ARB_STATUS_depth ((3 : Fin 64))) = 0) ∧ (t.raised .arbDeadline ((3 : Fin 64)) = true) ∧ (t.stitches = w_ArbiterGrantsByDeadline_7.stitches) ∧ (t.skeins = w_ArbiterGrantsByDeadline_7.skeins))) = true := by decide +kernel

def w_ArbiterGrantsByDeadline_8 : State :=
    { (unitA.setF (PORT_STATUS_link_state 3) 3).updPort 3 (fun x => { x with queue := [(⟨5, 2, 101, 900, 1, 1, 9, 8192000, 0, 0, 750, 5000, 5200, 0, none, false⟩ : CmdCell)] }) with ct := 5000 }

theorem test_ArbiterGrantsByDeadline_8 :
    (NoRung w_ArbiterGrantsByDeadline_8) ∧
    ((w_ArbiterGrantsByDeadline_8.port ((3 : Fin 64))).queue = [((⟨5, 2, 101, 900, 1, 1, 9, 8192000, 0, 0, 750, 5000, 5200, 0, none, false⟩ : CmdCell))]) ∧
    ((w_ArbiterGrantsByDeadline_8.port ((3 : Fin 64))).held = []) ∧
    (((⟨5, 2, 101, 900, 1, 1, 9, 8192000, 0, 0, 750, 5000, 5200, 0, none, false⟩ : CmdCell)).lock = none) ∧
    (w_ArbiterGrantsByDeadline_8.ct ≤ ((⟨5, 2, 101, 900, 1, 1, 9, 8192000, 0, 0, 750, 5000, 5200, 0, none, false⟩ : CmdCell)).deadline) ∧
    after (exec (.arbExpire ((3 : Fin 64))) w_ArbiterGrantsByDeadline_8) (fun t => decide (((t.port ((3 : Fin 64))).queue = [((⟨5, 2, 101, 900, 1, 1, 9, 8192000, 0, 0, 750, 5000, 5200, 0, none, false⟩ : CmdCell))]) ∧ (t.regs = w_ArbiterGrantsByDeadline_8.regs) ∧ (t.mem = w_ArbiterGrantsByDeadline_8.mem))) = true := by decide +kernel

def w_ArbiterGrantsByDeadline_9 : State :=
    { (unitA.setF (PORT_STATUS_link_state 3) 3).updPort 3 (fun x => { x with queue := [(⟨5, 2, 101, 900, 1, 1, 9, 8192000, 0, 0, 750, 5000, 5200, 0, some (7, 101), false⟩ : CmdCell), (⟨6, 2, 101, 900, 1, 1, 9, 8192000, 0, 0, 750, 5000, 5200, 0, some (7, 101), false⟩ : CmdCell)] }) with ct := 5001 }

theorem test_ArbiterGrantsByDeadline_9 :
    ((w_ArbiterGrantsByDeadline_9.port ((3 : Fin 64))).queue = [((⟨5, 2, 101, 900, 1, 1, 9, 8192000, 0, 0, 750, 5000, 5200, 0, some (7, 101), false⟩ : CmdCell)), ((⟨6, 2, 101, 900, 1, 1, 9, 8192000, 0, 0, 750, 5000, 5200, 0, some (7, 101), false⟩ : CmdCell))]) ∧
    ((w_ArbiterGrantsByDeadline_9.port ((3 : Fin 64))).held = []) ∧
    (((⟨5, 2, 101, 900, 1, 1, 9, 8192000, 0, 0, 750, 5000, 5200, 0, some (7, 101), false⟩ : CmdCell)).lock = some ((7, 101))) ∧
    (((⟨6, 2, 101, 900, 1, 1, 9, 8192000, 0, 0, 750, 5000, 5200, 0, some (7, 101), false⟩ : CmdCell)).lock = some ((7, 101))) ∧
    ((w_ArbiterGrantsByDeadline_9.port ((3 : Fin 64))).granting = none) ∧
    (((⟨5, 2, 101, 900, 1, 1, 9, 8192000, 0, 0, 750, 5000, 5200, 0, some (7, 101), false⟩ : CmdCell)).deadline < w_ArbiterGrantsByDeadline_9.ct) ∧
    (w_ArbiterGrantsByDeadline_9.swTouched = []) ∧
    (MayRaise w_ArbiterGrantsByDeadline_9 .arbDeadline ((3 : Fin 64))) ∧
    after (exec (.lockDrop ((3 : Fin 64))) w_ArbiterGrantsByDeadline_9) (fun t => decide (((t.port ((3 : Fin 64))).queue = []) ∧ (Counted w_ArbiterGrantsByDeadline_9 t (ARB_CNT_LOCK_DROP_v ((3 : Fin 64)))) ∧ (t.get (ARB_STATUS_lock_drop_seen ((3 : Fin 64))) = 1) ∧ (t.get (ARB_STATUS_depth ((3 : Fin 64))) = 0) ∧ (t.raised .arbDeadline ((3 : Fin 64)) = true) ∧ (t.stitches = w_ArbiterGrantsByDeadline_9.stitches) ∧ (t.skeins = w_ArbiterGrantsByDeadline_9.skeins))) = true := by decide +kernel

theorem test_ArbiterGrantsByDeadline_10 :
    (NoRung unitA) ∧
    ((unitA.port ((3 : Fin 64))).queue = []) ∧
    ((unitA.port ((3 : Fin 64))).held = []) ∧
    after (exec (.lockDrop ((3 : Fin 64))) unitA) (fun t => decide ((t = unitA))) = true := by decide +kernel

def w_ArbiterGrantsByDeadline_11 : State :=
    unitA.updPort 3 (fun x => { x with held := [(⟨5, 2, 101, 900, 1, 1, 9, 8192000, 0, 0, 750, 5000, 5200, 0, none, false⟩ : CmdCell)] })

theorem test_ArbiterGrantsByDeadline_11 :
    (NoRung w_ArbiterGrantsByDeadline_11) ∧
    (3 / 16 = ((2 : Fin 128)).val / 32) ∧
    (3 < 64) ∧
    (((⟨5, 2, 101, 900, 1, 1, 9, 8192000, 0, 0, 750, 5000, 5200, 0, none, false⟩ : CmdCell)).engine = ((2 : Fin 128)).val) ∧
    ((w_ArbiterGrantsByDeadline_11.port 3).held = [((⟨5, 2, 101, 900, 1, 1, 9, 8192000, 0, 0, 750, 5000, 5200, 0, none, false⟩ : CmdCell))]) ∧
    ((w_ArbiterGrantsByDeadline_11.port 3).queue = []) ∧
    (∀ i : Fin 16, 16 * (((2 : Fin 128)).val / 32) + i.val = 3 ∨ ((w_ArbiterGrantsByDeadline_11.port (16 * (((2 : Fin 128)).val / 32) + i.val)).held = [] ∧ (w_ArbiterGrantsByDeadline_11.port (16 * (((2 : Fin 128)).val / 32) + i.val)).queue = [])) ∧
    (w_ArbiterGrantsByDeadline_11.is (ARB_MASK_bit 3 (((2 : Fin 128)).val % 32)) = false) ∧
    (((⟨5, 2, 101, 900, 1, 1, 9, 8192000, 0, 0, 750, 5000, 5200, 0, none, false⟩ : CmdCell)).lock = none) ∧
    (Tbl.find? (w_ArbiterGrantsByDeadline_11.port 3).lastGrant ((⟨5, 2, 101, 900, 1, 1, 9, 8192000, 0, 0, 750, 5000, 5200, 0, none, false⟩ : CmdCell)).stitch ≠ some ((⟨5, 2, 101, 900, 1, 1, 9, 8192000, 0, 0, 750, 5000, 5200, 0, none, false⟩ : CmdCell)).cycle) ∧
    after (exec (.arbPostRetry ((2 : Fin 128))) w_ArbiterGrantsByDeadline_11) (fun t => decide (((t.port 3).held = []) ∧ ((t.port 3).queue = [{ ((⟨5, 2, 101, 900, 1, 1, 9, 8192000, 0, 0, 750, 5000, 5200, 0, none, false⟩ : CmdCell)) with postAt := w_ArbiterGrantsByDeadline_11.ct }]) ∧ (t.get (ARB_STATUS_depth 3) = 1) ∧ (t.stitches = w_ArbiterGrantsByDeadline_11.stitches) ∧ (t.skeins = w_ArbiterGrantsByDeadline_11.skeins) ∧ (t.mem = w_ArbiterGrantsByDeadline_11.mem))) = true := by decide +kernel

def w_RectifiersFollowTheirTransitions_1 : State :=
    (unitA.updRect 5 (fun x => { x with state := 1, tw := 2, addr := 0x20, ratedMw := 6000000, alertGpio := 9 }))

theorem test_RectifiersFollowTheirTransitions_1 :
    (w_RectifiersFollowTheirTransitions_1.shelfOn = true) ∧
    (w_RectifiersFollowTheirTransitions_1.onlineRects = []) ∧
    (w_RectifiersFollowTheirTransitions_1.rectsIn (fun v => decide (1 ≤ v ∧ v ≤ 4)) = [5]) ∧
    after (exec (.telemetryRound) w_RectifiersFollowTheirTransitions_1) (fun t => decide (((t.tw (w_RectifiersFollowTheirTransitions_1.rect 5).tw).jobs = (w_RectifiersFollowTheirTransitions_1.tw (w_RectifiersFollowTheirTransitions_1.rect 5).tw).jobs ++ pollCodes.map (fun c => (5, c, 0))) ∧ ((t.rect 5).polled = false) ∧ ((t.rect 5).state = (w_RectifiersFollowTheirTransitions_1.rect 5).state) ∧ (t.regs = w_RectifiersFollowTheirTransitions_1.regs) ∧ (t.mem = w_RectifiersFollowTheirTransitions_1.mem))) = true := by decide +kernel

def w_RectifiersFollowTheirTransitions_2 : State :=
    (unitA.updRect 5 (fun x => { x with state := 3, tw := 2, addr := 0x20, ratedMw := 6000000, alertGpio := 9 }))

theorem test_RectifiersFollowTheirTransitions_2 :
    (w_RectifiersFollowTheirTransitions_2.shelfOn = true) ∧
    ((w_RectifiersFollowTheirTransitions_2.rects.filter (fun (x : Nat × Rect) => decide (x.2.state ≠ 0 ∧ x.2.alertGpio = ((9 : Fin 64)).val))).map (·.1) = [5]) ∧
    (5 < 48) ∧
    after (exec (.smbalert ((9 : Fin 64))) w_RectifiersFollowTheirTransitions_2) (fun t => decide ((t.get (RECT_ALERT_bit 5) = 1) ∧ ((t.tw (w_RectifiersFollowTheirTransitions_2.rect 5).tw).jobs = (w_RectifiersFollowTheirTransitions_2.tw (w_RectifiersFollowTheirTransitions_2.rect 5).tw).jobs.take 1 ++ [(5, 0x79, 1)] ++ (w_RectifiersFollowTheirTransitions_2.tw (w_RectifiersFollowTheirTransitions_2.rect 5).tw).jobs.drop 1) ∧ (t.rects = w_RectifiersFollowTheirTransitions_2.rects) ∧ (t.mem = w_RectifiersFollowTheirTransitions_2.mem))) = true := by decide +kernel

def w_RectifiersFollowTheirTransitions_3 : State :=
    ((unitA.updRect 5 (fun x => { x with state := 3, tw := 2, addr := 0x20, ratedMw := 6000000, alertGpio := 9 }))).setF HU_STATUS_state 1

theorem test_RectifiersFollowTheirTransitions_3 :
    (NoRung w_RectifiersFollowTheirTransitions_3) ∧
    ((w_RectifiersFollowTheirTransitions_3.rect ((5 : Fin 48))).state ≠ 0 ∧ (w_RectifiersFollowTheirTransitions_3.rect ((5 : Fin 48))).state ≠ 5 ∧ (w_RectifiersFollowTheirTransitions_3.rect ((5 : Fin 48))).state ≠ 7) ∧
    ((w_RectifiersFollowTheirTransitions_3.rect ((5 : Fin 48))).ctrlFor = none) ∧
    (w_RectifiersFollowTheirTransitions_3.get HU_STATUS_state = 1 ∨ w_RectifiersFollowTheirTransitions_3.shelfOn = false) ∧
    after (exec (.acOkFilterExpire ((5 : Fin 48))) w_RectifiersFollowTheirTransitions_3) (fun t => decide (((t.rect ((5 : Fin 48))).state = 5) ∧ (t.get (RECT_STATE_state ((5 : Fin 48))) = 5) ∧ ((t.rect ((5 : Fin 48))).acOk = false) ∧ (t.stitches = w_RectifiersFollowTheirTransitions_3.stitches) ∧ (t.mem = w_RectifiersFollowTheirTransitions_3.mem))) = true := by decide +kernel

def w_RectifiersFollowTheirTransitions_4 : State :=
    (unitA.updRect 5 (fun x => { x with state := 5, tw := 2, addr := 0x20, ratedMw := 6000000, alertGpio := 9 }))

theorem test_RectifiersFollowTheirTransitions_4 :
    ((w_RectifiersFollowTheirTransitions_4.rect ((5 : Fin 48))).state = 5) ∧
    after (exec (.acOkRestore ((5 : Fin 48))) w_RectifiersFollowTheirTransitions_4) (fun t => decide (((t.rect ((5 : Fin 48))).state = 1) ∧ (t.get (RECT_STATE_state ((5 : Fin 48))) = 1) ∧ ((t.rect ((5 : Fin 48))).acOk = true) ∧ (t.stitches = w_RectifiersFollowTheirTransitions_4.stitches) ∧ (t.mem = w_RectifiersFollowTheirTransitions_4.mem))) = true := by decide +kernel

def w_RectifiersFollowTheirTransitions_5 : State :=
    { ((unitA.updRect 5 (fun x => { x with state := 2, tw := 2, addr := 0x20, ratedMw := 6000000, alertGpio := 9 }))).setF HU_STATUS_state 1 with ct := 4000000000000 }

theorem test_RectifiersFollowTheirTransitions_5 :
    ((w_RectifiersFollowTheirTransitions_5.rect ((5 : Fin 48))).state = 2) ∧
    ((w_RectifiersFollowTheirTransitions_5.rect ((5 : Fin 48))).startAt + ms w_RectifiersFollowTheirTransitions_5.pattern.tStartMs ≤ w_RectifiersFollowTheirTransitions_5.ct) ∧
    ((w_RectifiersFollowTheirTransitions_5.rect ((5 : Fin 48))).ctrlFor = none) ∧
    (w_RectifiersFollowTheirTransitions_5.get HU_STATUS_state = 1 ∨ w_RectifiersFollowTheirTransitions_5.shelfOn = false) ∧
    (MayRaise w_RectifiersFollowTheirTransitions_5 .rectFail ((5 : Fin 48))) ∧
    after (exec (.rectStartTimeout ((5 : Fin 48))) w_RectifiersFollowTheirTransitions_5) (fun t => decide (((t.rect ((5 : Fin 48))).state = 6) ∧ (t.get (RECT_STATE_state ((5 : Fin 48))) = 6) ∧ (t.raised .rectFail ((5 : Fin 48)) = true) ∧ (t.stitches = w_RectifiersFollowTheirTransitions_5.stitches))) = true := by decide +kernel

def w_RectifiersFollowTheirTransitions_6 : State :=
    { (unitA.updRect 5 (fun x => { x with state := 4, tw := 2, addr := 0x20, ratedMw := 6000000, alertGpio := 9, trim := -300, trimWas := 20 })) with ct := 4000000000 }

theorem test_RectifiersFollowTheirTransitions_6 :
    ((w_RectifiersFollowTheirTransitions_6.rect ((5 : Fin 48))).state = 4) ∧
    ((w_RectifiersFollowTheirTransitions_6.rect ((5 : Fin 48))).drainAt + ms 500 ≤ w_RectifiersFollowTheirTransitions_6.ct) ∧
    ((w_RectifiersFollowTheirTransitions_6.rect ((5 : Fin 48))).ctrlFor = none) ∧
    (w_RectifiersFollowTheirTransitions_6.is (RECT_STATE_lost ((5 : Fin 48))) = false) ∧
    after (exec (.rectDrainTimeout ((5 : Fin 48))) w_RectifiersFollowTheirTransitions_6) (fun t => decide (((t.rect ((5 : Fin 48))).state = 3) ∧ (t.get (RECT_STATE_state ((5 : Fin 48))) = 3) ∧ ((t.rect ((5 : Fin 48))).trim = (w_RectifiersFollowTheirTransitions_6.rect ((5 : Fin 48))).trimWas) ∧ (t.out = w_RectifiersFollowTheirTransitions_6.out ++ [.pmbus (w_RectifiersFollowTheirTransitions_6.rect ((5 : Fin 48))).tw (w_RectifiersFollowTheirTransitions_6.rect ((5 : Fin 48))).addr 0x21 (voutRaw (w_RectifiersFollowTheirTransitions_6.rect ((5 : Fin 48))).voutExp ((w_RectifiersFollowTheirTransitions_6.get BUS_SETPOINT_setpoint_mv : Int) + (w_RectifiersFollowTheirTransitions_6.rect ((5 : Fin 48))).trimWas))]) ∧ (t.stitches = w_RectifiersFollowTheirTransitions_6.stitches) ∧ (t.mem = w_RectifiersFollowTheirTransitions_6.mem))) = true := by decide +kernel

def w_RectifiersFollowTheirTransitions_7 : State :=
    ((unitA.updRect 5 (fun x => { x with state := 1, tw := 2, addr := 0x20, ratedMw := 6000000, alertGpio := 9 }))).updShelf (fun h => { h with emergencyWas := true, nRed := 3 })

theorem test_RectifiersFollowTheirTransitions_7 :
    (w_RectifiersFollowTheirTransitions_7.shelfOn = true) ∧
    (w_RectifiersFollowTheirTransitions_7.shelf.emergencyWas = true) ∧
    (w_RectifiersFollowTheirTransitions_7.eph = []) ∧
    (w_RectifiersFollowTheirTransitions_7.rectsIn (fun v => decide (v = 4)) = []) ∧
    (w_RectifiersFollowTheirTransitions_7.rectsIn (fun v => decide (v = 1)) = [5]) ∧
    (w_RectifiersFollowTheirTransitions_7.capEnough (w_RectifiersFollowTheirTransitions_7.rectsIn (fun v => decide (v = 2 ∨ v = 3 ∨ v = 4))) = false) ∧
    after (exec (.emergencyAdd) w_RectifiersFollowTheirTransitions_7) (fun t => decide (((t.rect 5).state = 2) ∧ (t.get OPT_STATUS_emergency = 1) ∧ (t.shelf.emergencyWas = false) ∧ (t.out = w_RectifiersFollowTheirTransitions_7.out ++ [.pmbus (w_RectifiersFollowTheirTransitions_7.rect 5).tw (w_RectifiersFollowTheirTransitions_7.rect 5).addr 0x01 0x80]) ∧ (t.stitches = w_RectifiersFollowTheirTransitions_7.stitches) ∧ (t.mem = w_RectifiersFollowTheirTransitions_7.mem))) = true := by decide +kernel

def w_RectifiersFollowTheirTransitions_8 : State :=
    (({ unitA with pattern := { unitA.pattern with busInputs := [(3, 16, 1)] } }.setF (ADC_RES_value 0 3) 3375).setF (ADC_RES_valid 0 3) 1).setF HU_STATUS_state 1

theorem test_RectifiersFollowTheirTransitions_8 :
    (Runs w_RectifiersFollowTheirTransitions_8) ∧
    (NoRung w_RectifiersFollowTheirTransitions_8) ∧
    (w_RectifiersFollowTheirTransitions_8.active = true) ∧
    (w_RectifiersFollowTheirTransitions_8.busInputs.filterMap id = [((54000 : Int))]) ∧
    (w_RectifiersFollowTheirTransitions_8.get HU_STATUS_state = 1 ∨ w_RectifiersFollowTheirTransitions_8.shelfOn = false) ∧
    after (exec (.busVUpdate) w_RectifiersFollowTheirTransitions_8) (fun t => decide ((t.get BUS_V_bus_mv = toField 32 ((54000 : Int))) ∧ (t.stitches = w_RectifiersFollowTheirTransitions_8.stitches) ∧ (t.skeins = w_RectifiersFollowTheirTransitions_8.skeins) ∧ (t.rects = w_RectifiersFollowTheirTransitions_8.rects) ∧ (t.mem = w_RectifiersFollowTheirTransitions_8.mem))) = true := by decide +kernel

def w_RectifiersFollowTheirTransitions_9 : State :=
    { unitA.updShelf (fun h => { h with ovSince := some 0 }) with ct := 160000 }

theorem test_RectifiersFollowTheirTransitions_9 :
    (w_RectifiersFollowTheirTransitions_9.shelf.ovSince = some 0) ∧
    (0 + us 100 ≤ w_RectifiersFollowTheirTransitions_9.ct) ∧
    (MayRaise w_RectifiersFollowTheirTransitions_9 .busOv 0) ∧
    after (exec (.busLimitTimer true) w_RectifiersFollowTheirTransitions_9) (fun t => decide ((t.get BUS_STATUS_ov_seen = 1) ∧ (t.raised .busOv 0 = true) ∧ (t.rects = w_RectifiersFollowTheirTransitions_9.rects) ∧ (t.stitches = w_RectifiersFollowTheirTransitions_9.stitches))) = true := by decide +kernel

def w_RectifiersFollowTheirTransitions_10 : State :=
    { unitA.updShelf (fun h => { h with uvSince := some 0 }) with ct := 160000 }

theorem test_RectifiersFollowTheirTransitions_10 :
    (w_RectifiersFollowTheirTransitions_10.shelf.uvSince = some 0) ∧
    (0 + us 100 ≤ w_RectifiersFollowTheirTransitions_10.ct) ∧
    (MayRaise w_RectifiersFollowTheirTransitions_10 .busUv 0) ∧
    (w_RectifiersFollowTheirTransitions_10.get HU_STATUS_state = 0) ∧
    after (exec (.busLimitTimer false) w_RectifiersFollowTheirTransitions_10) (fun t => decide ((t.get BUS_STATUS_uv_seen = 1) ∧ (t.raised .busUv 0 = true) ∧ (t.rects = w_RectifiersFollowTheirTransitions_10.rects) ∧ (t.stitches = w_RectifiersFollowTheirTransitions_10.stitches))) = true := by decide +kernel

def w_RectifiersFollowTheirTransitions_11 : State :=
    { unitA.updShelf (fun h => { h with ovSince := some 0 }) with ct := 159999 }

theorem test_RectifiersFollowTheirTransitions_11 :
    (w_RectifiersFollowTheirTransitions_11.shelf.ovSince = some 0) ∧
    (w_RectifiersFollowTheirTransitions_11.ct < 0 + us 100) ∧
    after (exec (.busLimitTimer true) w_RectifiersFollowTheirTransitions_11) (fun t => decide ((t = w_RectifiersFollowTheirTransitions_11))) = true := by decide +kernel

theorem test_OptimiserAndShelfCommands_1 :
    (unitA.shelfOn = true) ∧
    (unitA.shelf.tickAt ≤ unitA.ct) ∧
    after (exec (.optTick) unitA) (fun t => decide ((t.shelf.ticks = unitA.shelf.ticks + 1) ∧ (t.shelf.tickAt = unitA.ct + (if 2 ≤ unitA.get THM_STATUS_stage then ms 100 else ms 10)) ∧ (t.stitches.map (·.1) = unitA.stitches.map (·.1)))) = true := by decide +kernel

def w_OptimiserAndShelfCommands_2 : State :=
    unitA.updShelf (fun h => { h with tickAt := 5 })

theorem test_OptimiserAndShelfCommands_2 :
    (w_OptimiserAndShelfCommands_2.ct < w_OptimiserAndShelfCommands_2.shelf.tickAt) ∧
    after (exec (.optTick) w_OptimiserAndShelfCommands_2) (fun t => decide ((t = w_OptimiserAndShelfCommands_2))) = true := by decide +kernel

def w_OptimiserAndShelfCommands_3 : State :=
    { (unitA.updSk 7 (fun x => { x with known := true, optCount := true, unusableSince := some 0, lim := { x.lim with nMin := 1, nMax := 16, restoreMa := 0 }, job := { x.job with count := 4 } })).setF OPT_STATUS_state 1 with ct := 100000000000 }

theorem test_OptimiserAndShelfCommands_3 :
    (w_OptimiserAndShelfCommands_3.shelfOn = true) ∧
    (w_OptimiserAndShelfCommands_3.get OPT_STATUS_state = 1) ∧
    ((w_OptimiserAndShelfCommands_3.sk ((7 : Fin 2048))).optCount = true) ∧
    ((w_OptimiserAndShelfCommands_3.sk ((7 : Fin 2048))).unusableSince = some 0) ∧
    (0 + sec 60 ≤ w_OptimiserAndShelfCommands_3.ct) ∧
    ((w_OptimiserAndShelfCommands_3.sk ((7 : Fin 2048))).settle = 0) ∧
    (w_OptimiserAndShelfCommands_3.shelf.busSettle = 0) ∧
    ((w_OptimiserAndShelfCommands_3.sk ((7 : Fin 2048))).dwellUntil ≤ w_OptimiserAndShelfCommands_3.ct) ∧
    ((w_OptimiserAndShelfCommands_3.sk ((7 : Fin 2048))).probeAt = 0) ∧
    ((w_OptimiserAndShelfCommands_3.sk ((7 : Fin 2048))).lim.nMin < (w_OptimiserAndShelfCommands_3.sk ((7 : Fin 2048))).job.count) ∧
    (w_OptimiserAndShelfCommands_3.countAllowed ((7 : Fin 2048)) ((w_OptimiserAndShelfCommands_3.sk ((7 : Fin 2048))).job.count - 1) = true) ∧
    (w_OptimiserAndShelfCommands_3.ephRoom fwIssuer = true) ∧
    (w_OptimiserAndShelfCommands_3.ephFree 4096 (w_OptimiserAndShelfCommands_3.ephLast + 1) = some 0) ∧
    after (exec (.optProbe ((7 : Fin 2048))) w_OptimiserAndShelfCommands_3) (fun t => decide (((t.sk ((7 : Fin 2048))).probeAt = w_OptimiserAndShelfCommands_3.ct) ∧ ((t.sk ((7 : Fin 2048))).dwellUntil = w_OptimiserAndShelfCommands_3.ct + ms 100) ∧ ((t.sk ((7 : Fin 2048))).settle = 3) ∧ ((t.sk ((7 : Fin 2048))).job = (w_OptimiserAndShelfCommands_3.sk ((7 : Fin 2048))).job) ∧ ((t.ephE 0).st = .pending) ∧ ((t.ephE 0).acts = [.count ((7 : Fin 2048)) ((w_OptimiserAndShelfCommands_3.sk ((7 : Fin 2048))).job.count - 1)]) ∧ ((t.ephE 0).trig = .time (w_OptimiserAndShelfCommands_3.ct + ms 1)) ∧ (t.stitches = w_OptimiserAndShelfCommands_3.stitches) ∧ (t.mem = w_OptimiserAndShelfCommands_3.mem))) = true := by decide +kernel

def w_OptimiserAndShelfCommands_4 : State :=
    (withCmd ((unitA.updRect 5 (fun x => { x with state := 3, tw := 2, addr := 0x20, ratedMw := 6000000, alertGpio := 9, trim := -20 }))) 256 9 0x801 [5])

theorem test_OptimiserAndShelfCommands_4 :
    (Ready w_OptimiserAndShelfCommands_4 ((256 : Mb)) ((9 : Fin 64)) 0x801) ∧
    ((u8 (payloadOf w_OptimiserAndShelfCommands_4 ((256 : Mb)) ((9 : Fin 64))) 0) < 48) ∧
    after (exec (.rectQuery ((256 : Mb)) ((9 : Fin 64))) w_OptimiserAndShelfCommands_4) (fun t => decide ((Done t ((256 : Mb)) ((9 : Fin 64)) (cmdOf w_OptimiserAndShelfCommands_4 ((256 : Mb)) ((9 : Fin 64))) 0 ((w_OptimiserAndShelfCommands_4.rect (u8 (payloadOf w_OptimiserAndShelfCommands_4 ((256 : Mb)) ((9 : Fin 64))) 0)).state + 8 * w_OptimiserAndShelfCommands_4.get (RECT_STATE_lost (u8 (payloadOf w_OptimiserAndShelfCommands_4 ((256 : Mb)) ((9 : Fin 64))) 0))) (toField 32 (w_OptimiserAndShelfCommands_4.rect (u8 (payloadOf w_OptimiserAndShelfCommands_4 ((256 : Mb)) ((9 : Fin 64))) 0)).poutMw + toField 16 (w_OptimiserAndShelfCommands_4.rect (u8 (payloadOf w_OptimiserAndShelfCommands_4 ((256 : Mb)) ((9 : Fin 64))) 0)).trim * 2 ^ 32 + toField 16 (w_OptimiserAndShelfCommands_4.rect (u8 (payloadOf w_OptimiserAndShelfCommands_4 ((256 : Mb)) ((9 : Fin 64))) 0)).temp * 2 ^ 48)) ∧ (t.rects = w_OptimiserAndShelfCommands_4.rects) ∧ (t.stitches = w_OptimiserAndShelfCommands_4.stitches))) = true := by decide +kernel

def w_OptimiserAndShelfCommands_5 : State :=
    (withCmd ((unitA.updRect 5 (fun x => { x with state := 7, tw := 2, addr := 0x20, ratedMw := 6000000, alertGpio := 9 }))) 256 9 0x802 [5, 2])

theorem test_OptimiserAndShelfCommands_5 :
    (Ready w_OptimiserAndShelfCommands_5 ((256 : Mb)) ((9 : Fin 64)) 0x802) ∧
    ((u8 (payloadOf w_OptimiserAndShelfCommands_5 ((256 : Mb)) ((9 : Fin 64))) 0) < 48) ∧
    (u8 (payloadOf w_OptimiserAndShelfCommands_5 ((256 : Mb)) ((9 : Fin 64))) 1 = 2) ∧
    ((w_OptimiserAndShelfCommands_5.rect (u8 (payloadOf w_OptimiserAndShelfCommands_5 ((256 : Mb)) ((9 : Fin 64))) 0)).state = 7) ∧
    after (exec (.rectCtrl ((256 : Mb)) ((9 : Fin 64))) w_OptimiserAndShelfCommands_5) (fun t => decide (((t.rect (u8 (payloadOf w_OptimiserAndShelfCommands_5 ((256 : Mb)) ((9 : Fin 64))) 0)).state = 1) ∧ (t.get (RECT_STATE_state (u8 (payloadOf w_OptimiserAndShelfCommands_5 ((256 : Mb)) ((9 : Fin 64))) 0)) = 1) ∧ (Done t ((256 : Mb)) ((9 : Fin 64)) (cmdOf w_OptimiserAndShelfCommands_5 ((256 : Mb)) ((9 : Fin 64))) 0 0 0) ∧ (t.stitches = w_OptimiserAndShelfCommands_5.stitches))) = true := by decide +kernel

def w_OptimiserAndShelfCommands_6 : State :=
    (withCmd ((unitA.updRect 5 (fun x => { x with state := 3, tw := 2, addr := 0x20, ratedMw := 6000000, alertGpio := 9 })).updShelf (fun h => { h with nRed := 0, pBus := List.replicate 100 0 })) 256 9 0x802 [5, 1])

theorem test_OptimiserAndShelfCommands_6 :
    (Ready w_OptimiserAndShelfCommands_6 ((256 : Mb)) ((9 : Fin 64)) 0x802) ∧
    ((u8 (payloadOf w_OptimiserAndShelfCommands_6 ((256 : Mb)) ((9 : Fin 64))) 0) < 48) ∧
    (u8 (payloadOf w_OptimiserAndShelfCommands_6 ((256 : Mb)) ((9 : Fin 64))) 1 = 1) ∧
    ((w_OptimiserAndShelfCommands_6.rect (u8 (payloadOf w_OptimiserAndShelfCommands_6 ((256 : Mb)) ((9 : Fin 64))) 0)).state = 3) ∧
    (w_OptimiserAndShelfCommands_6.mayRemove (u8 (payloadOf w_OptimiserAndShelfCommands_6 ((256 : Mb)) ((9 : Fin 64))) 0) = true) ∧
    after (exec (.rectCtrl ((256 : Mb)) ((9 : Fin 64))) w_OptimiserAndShelfCommands_6) (fun t => decide (((t.rect (u8 (payloadOf w_OptimiserAndShelfCommands_6 ((256 : Mb)) ((9 : Fin 64))) 0)).state = 4) ∧ ((t.rect (u8 (payloadOf w_OptimiserAndShelfCommands_6 ((256 : Mb)) ((9 : Fin 64))) 0)).exclude = true) ∧ ((t.rect (u8 (payloadOf w_OptimiserAndShelfCommands_6 ((256 : Mb)) ((9 : Fin 64))) 0)).trim = -w_OptimiserAndShelfCommands_6.shelf.trimLim) ∧ ((t.rect (u8 (payloadOf w_OptimiserAndShelfCommands_6 ((256 : Mb)) ((9 : Fin 64))) 0)).ctrlFor = some (((256 : Mb)).val, ((9 : Fin 64)).val)) ∧ ((cmdOf t ((256 : Mb)) ((9 : Fin 64))).phase = .started))) = true := by decide +kernel

def w_OptimiserAndShelfCommands_7 : State :=
    (withCmd ((unitA.updRect 5 (fun x => { x with state := 6, tw := 2, addr := 0x20, ratedMw := 6000000, alertGpio := 9 }))) 256 9 0x802 [5, 0])

theorem test_OptimiserAndShelfCommands_7 :
    (Ready w_OptimiserAndShelfCommands_7 ((256 : Mb)) ((9 : Fin 64)) 0x802) ∧
    ((u8 (payloadOf w_OptimiserAndShelfCommands_7 ((256 : Mb)) ((9 : Fin 64))) 0) < 48) ∧
    (u8 (payloadOf w_OptimiserAndShelfCommands_7 ((256 : Mb)) ((9 : Fin 64))) 1 = 0) ∧
    ((w_OptimiserAndShelfCommands_7.rect (u8 (payloadOf w_OptimiserAndShelfCommands_7 ((256 : Mb)) ((9 : Fin 64))) 0)).state = 6) ∧
    ((w_OptimiserAndShelfCommands_7.rect (u8 (payloadOf w_OptimiserAndShelfCommands_7 ((256 : Mb)) ((9 : Fin 64))) 0)).ctrlFor = none) ∧
    after (exec (.rectCtrl ((256 : Mb)) ((9 : Fin 64))) w_OptimiserAndShelfCommands_7) (fun t => decide (((t.rect (u8 (payloadOf w_OptimiserAndShelfCommands_7 ((256 : Mb)) ((9 : Fin 64))) 0)).state = 6) ∧ ((t.tw (w_OptimiserAndShelfCommands_7.rect (u8 (payloadOf w_OptimiserAndShelfCommands_7 ((256 : Mb)) ((9 : Fin 64))) 0)).tw).jobs = (w_OptimiserAndShelfCommands_7.tw (w_OptimiserAndShelfCommands_7.rect (u8 (payloadOf w_OptimiserAndShelfCommands_7 ((256 : Mb)) ((9 : Fin 64))) 0)).tw).jobs ++ [((u8 (payloadOf w_OptimiserAndShelfCommands_7 ((256 : Mb)) ((9 : Fin 64))) 0), 0x79, 4)]) ∧ ((cmdOf t ((256 : Mb)) ((9 : Fin 64))).phase = .started))) = true := by decide +kernel

def w_OptimiserAndShelfCommands_8 : State :=
    (withCmd (unitA) 256 9 0x810 [7, 3, 205, 12, 32, 203, 0, 0, 228, 212, 0, 0, 250, 0, 44, 1, 216, 218, 0, 0, 48, 117, 0, 0, 50, 0])

theorem test_OptimiserAndShelfCommands_8 :
    (Ready w_OptimiserAndShelfCommands_8 ((256 : Mb)) ((9 : Fin 64)) 0x810) ∧
    (Passes w_OptimiserAndShelfCommands_8 (optChecks (payloadOf w_OptimiserAndShelfCommands_8 ((256 : Mb)) ((9 : Fin 64))))) ∧
    ((u8 (payloadOf w_OptimiserAndShelfCommands_8 ((256 : Mb)) ((9 : Fin 64))) 0).testBit 0 = true) ∧
    after (exec (.optCtrl ((256 : Mb)) ((9 : Fin 64))) w_OptimiserAndShelfCommands_8) (fun t => decide ((t.shelf.nRed = u8 (payloadOf w_OptimiserAndShelfCommands_8 ((256 : Mb)) ((9 : Fin 64))) 1) ∧ (t.shelf.busMin = u32 (payloadOf w_OptimiserAndShelfCommands_8 ((256 : Mb)) ((9 : Fin 64))) 4 ∧ t.shelf.busMax = u32 (payloadOf w_OptimiserAndShelfCommands_8 ((256 : Mb)) ((9 : Fin 64))) 8) ∧ (t.shelf.busOv = u32 (payloadOf w_OptimiserAndShelfCommands_8 ((256 : Mb)) ((9 : Fin 64))) 16 ∧ t.shelf.busUv = u32 (payloadOf w_OptimiserAndShelfCommands_8 ((256 : Mb)) ((9 : Fin 64))) 20) ∧ (t.get OPT_STATUS_state = (if w_OptimiserAndShelfCommands_8.optFrozen then 2 else 1)) ∧ (Done t ((256 : Mb)) ((9 : Fin 64)) (cmdOf w_OptimiserAndShelfCommands_8 ((256 : Mb)) ((9 : Fin 64))) 0 0 0) ∧ (t.stitches = w_OptimiserAndShelfCommands_8.stitches))) = true := by decide +kernel

def w_OptimiserAndShelfCommands_9 : State :=
    (withCmd (unitA) 256 9 0x810 [6, 3, 205, 12, 32, 203, 0, 0, 228, 212, 0, 0, 250, 0, 44, 1, 216, 218, 0, 0, 48, 117, 0, 0, 50, 0])

theorem test_OptimiserAndShelfCommands_9 :
    (Ready w_OptimiserAndShelfCommands_9 ((256 : Mb)) ((9 : Fin 64)) 0x810) ∧
    (Passes w_OptimiserAndShelfCommands_9 (optChecks (payloadOf w_OptimiserAndShelfCommands_9 ((256 : Mb)) ((9 : Fin 64))))) ∧
    ((u8 (payloadOf w_OptimiserAndShelfCommands_9 ((256 : Mb)) ((9 : Fin 64))) 0).testBit 0 = false) ∧
    (w_OptimiserAndShelfCommands_9.eph = []) ∧
    after (exec (.optCtrl ((256 : Mb)) ((9 : Fin 64))) w_OptimiserAndShelfCommands_9) (fun t => decide ((t.get OPT_STATUS_state = 3) ∧ (t.shelf.nRed = u8 (payloadOf w_OptimiserAndShelfCommands_9 ((256 : Mb)) ((9 : Fin 64))) 1) ∧ (Done t ((256 : Mb)) ((9 : Fin 64)) (cmdOf w_OptimiserAndShelfCommands_9 ((256 : Mb)) ((9 : Fin 64))) 0 0 0) ∧ (t.stitches = w_OptimiserAndShelfCommands_9.stitches))) = true := by decide +kernel

def w_OptimiserAndShelfCommands_10 : State :=
    (withCmd (unitA.updSk 7 (fun x => { x with known := true, slot := 3, stitches := [5] })) 256 9 0x811 [7, 0, 3])

theorem test_OptimiserAndShelfCommands_10 :
    (Ready w_OptimiserAndShelfCommands_10 ((256 : Mb)) ((9 : Fin 64)) 0x811) ∧
    (Passes w_OptimiserAndShelfCommands_10 (policyChecks w_OptimiserAndShelfCommands_10 ((256 : Mb)) (payloadOf w_OptimiserAndShelfCommands_10 ((256 : Mb)) ((9 : Fin 64))))) ∧
    ((w_OptimiserAndShelfCommands_10.sk (u16 (payloadOf w_OptimiserAndShelfCommands_10 ((256 : Mb)) ((9 : Fin 64))) 0)).engine = none) ∧
    after (exec (.optSkeinPolicy ((256 : Mb)) ((9 : Fin 64))) w_OptimiserAndShelfCommands_10) (fun t => decide (((t.sk (u16 (payloadOf w_OptimiserAndShelfCommands_10 ((256 : Mb)) ((9 : Fin 64))) 0)).optCount = (u8 (payloadOf w_OptimiserAndShelfCommands_10 ((256 : Mb)) ((9 : Fin 64))) 2).testBit 0) ∧ ((t.sk (u16 (payloadOf w_OptimiserAndShelfCommands_10 ((256 : Mb)) ((9 : Fin 64))) 0)).optRate = (u8 (payloadOf w_OptimiserAndShelfCommands_10 ((256 : Mb)) ((9 : Fin 64))) 2).testBit 1) ∧ ((t.sk (u16 (payloadOf w_OptimiserAndShelfCommands_10 ((256 : Mb)) ((9 : Fin 64))) 0)).rates = policyRates (payloadOf w_OptimiserAndShelfCommands_10 ((256 : Mb)) ((9 : Fin 64)))) ∧ ((t.sk (u16 (payloadOf w_OptimiserAndShelfCommands_10 ((256 : Mb)) ((9 : Fin 64))) 0)).job = (w_OptimiserAndShelfCommands_10.sk (u16 (payloadOf w_OptimiserAndShelfCommands_10 ((256 : Mb)) ((9 : Fin 64))) 0)).job) ∧ (Done t ((256 : Mb)) ((9 : Fin 64)) (cmdOf w_OptimiserAndShelfCommands_10 ((256 : Mb)) ((9 : Fin 64))) 0 0 0) ∧ (t.stitches = w_OptimiserAndShelfCommands_10.stitches))) = true := by decide +kernel

def w_OptimiserAndShelfCommands_11 : State :=
    (withCmd ((unitA.setF (VI_STATUS_assigned 12) 1).updShelf (fun h => { h with ticks := 7, energy := [(98, 55)] })) 12 9 0x820 [0, 0, 2])

theorem test_OptimiserAndShelfCommands_11 :
    (Ready w_OptimiserAndShelfCommands_11 ((12 : Mb)) ((9 : Fin 64)) 0x820) ∧
    (((12 : Mb)).val ≠ 256) ∧
    (u8 (payloadOf w_OptimiserAndShelfCommands_11 ((12 : Mb)) ((9 : Fin 64))) 2 ≤ 4) ∧
    after (exec (.energyRead ((12 : Mb)) ((9 : Fin 64))) w_OptimiserAndShelfCommands_11) (fun t => decide ((Done t ((12 : Mb)) ((9 : Fin 64)) (cmdOf w_OptimiserAndShelfCommands_11 ((12 : Mb)) ((9 : Fin 64))) 0 (w_OptimiserAndShelfCommands_11.shelf.ticks % 65536) (Tbl.get w_OptimiserAndShelfCommands_11.shelf.energy (8 * ((12 : Mb)).val + u8 (payloadOf w_OptimiserAndShelfCommands_11 ((12 : Mb)) ((9 : Fin 64))) 2) 0)) ∧ (t.shelf = w_OptimiserAndShelfCommands_11.shelf))) = true := by decide +kernel

def w_OptimiserAndShelfCommands_12 : State :=
    (withCmd (unitA.updShelf (fun h => { h with ticks := 7, energy := [(98, 55)] })) 256 9 0x820 [12, 0, 2])

theorem test_OptimiserAndShelfCommands_12 :
    (Ready w_OptimiserAndShelfCommands_12 ((256 : Mb)) ((9 : Fin 64)) 0x820) ∧
    (((256 : Mb)).val = 256) ∧
    ((u16 (payloadOf w_OptimiserAndShelfCommands_12 ((256 : Mb)) ((9 : Fin 64))) 0) ≤ 256) ∧
    (u8 (payloadOf w_OptimiserAndShelfCommands_12 ((256 : Mb)) ((9 : Fin 64))) 2 ≤ 4) ∧
    after (exec (.energyRead ((256 : Mb)) ((9 : Fin 64))) w_OptimiserAndShelfCommands_12) (fun t => decide ((Done t ((256 : Mb)) ((9 : Fin 64)) (cmdOf w_OptimiserAndShelfCommands_12 ((256 : Mb)) ((9 : Fin 64))) 0 (w_OptimiserAndShelfCommands_12.shelf.ticks % 65536) (Tbl.get w_OptimiserAndShelfCommands_12.shelf.energy (8 * (u16 (payloadOf w_OptimiserAndShelfCommands_12 ((256 : Mb)) ((9 : Fin 64))) 0) + u8 (payloadOf w_OptimiserAndShelfCommands_12 ((256 : Mb)) ((9 : Fin 64))) 2) 0)) ∧ (t.shelf = w_OptimiserAndShelfCommands_12.shelf))) = true := by decide +kernel

def w_HoldupEntersAndReturns_1 : State :=
    { (unitA.updStr 2 (fun x => { x with tw := 1, addr := 0x30, qfull := 360000000, qNom := 360000000, rint := 10000, ocv := (List.range 17).map (fun (i : Nat) => 48000 + 300 * (i : Int)), chgMw := 5000000, vFull := 52800, iTaper := 1000, ainV := 4, ainI := 5, ainT := 6, scV := (16, 1, 0), scI := (1, 1, -32768), scT := (1, 64, 0), q := 576000000000000000 })).updShelf (fun h => { h with sagSince := some 0 }) with ct := 320000 }

theorem test_HoldupEntersAndReturns_1 :
    (w_HoldupEntersAndReturns_1.shelfOn = true) ∧
    (w_HoldupEntersAndReturns_1.get HU_STATUS_state = 0) ∧
    (w_HoldupEntersAndReturns_1.holdupCauses = 4) ∧
    (4 ≠ 0) ∧
    (∀ i ∈ w_HoldupEntersAndReturns_1.strIds, i < 16) ∧
    (MayRaise w_HoldupEntersAndReturns_1 .huEntry 0) ∧
    after (exec (.busSagTimer) w_HoldupEntersAndReturns_1) (fun t => decide ((t.get HU_STATUS_state = 1) ∧ (t.get HU_STATUS_cause = 4) ∧ (t.get HU_STATUS_entry_seen = 1) ∧ (t.get HU_STATUS_pfw = 1) ∧ (t.get OPT_STATUS_state = 2) ∧ (∀ i ∈ w_HoldupEntersAndReturns_1.strIds, t.get (BAT_STATE_mode i) = 0) ∧ (t.raised .huEntry 0 = true) ∧ (t.shelf.enteredAt = w_HoldupEntersAndReturns_1.ct))) = true := by decide +kernel

theorem test_HoldupEntersAndReturns_2 :
    (NoRung unitA) ∧
    (unitA.holdupCauses = 0) ∧
    after (exec (.busSagTimer) unitA) (fun t => decide ((t = unitA))) = true := by decide +kernel

def w_HoldupEntersAndReturns_3 : State :=
    (unitA.updShelf (fun h => { h with pLoad := 60000000 })).updRect 5 (fun x => { x with state := 3, ratedMw := 6000000 })

theorem test_HoldupEntersAndReturns_3 :
    (NoRung w_HoldupEntersAndReturns_3) ∧
    (w_HoldupEntersAndReturns_3.shelfOn = true) ∧
    (w_HoldupEntersAndReturns_3.shelf.budgetAt ≤ w_HoldupEntersAndReturns_3.ct) ∧
    (w_HoldupEntersAndReturns_3.get HU_STATUS_state = 0) ∧
    (w_HoldupEntersAndReturns_3.strIds = []) ∧
    (w_HoldupEntersAndReturns_3.shelf.pLoad ≠ 0) ∧
    (w_HoldupEntersAndReturns_3.pRect < 2 ^ 32) ∧
    (w_HoldupEntersAndReturns_3.get BATT_CHASSIS_level = 0) ∧
    after (exec (.holdupBudget) w_HoldupEntersAndReturns_3) (fun t => decide ((t.get HU_ALLOW_v = w_HoldupEntersAndReturns_3.pRect) ∧ (t.get HU_RIDE_v = 0) ∧ (t.shelf.budgetAt = w_HoldupEntersAndReturns_3.ct + ms 10) ∧ (t.stitches = w_HoldupEntersAndReturns_3.stitches) ∧ (t.mem = w_HoldupEntersAndReturns_3.mem))) = true := by decide +kernel

def w_HoldupEntersAndReturns_4 : State :=
    unitA.updShelf (fun h => { h with pLoad := 60000000, huNext := some ([224, 171, 0, 0, 44, 1, 220, 5, 136, 19, 0, 0, 232, 3, 0, 0, 0, 64, 0, 32, 0, 16, 80, 0, 208, 2] : List Byte) })

theorem test_HoldupEntersAndReturns_4 :
    (Mild w_HoldupEntersAndReturns_4 [.battLevel]) ∧
    (w_HoldupEntersAndReturns_4.shelfOn = true) ∧
    (w_HoldupEntersAndReturns_4.shelf.budgetAt ≤ w_HoldupEntersAndReturns_4.ct) ∧
    (w_HoldupEntersAndReturns_4.shelf.huNext = some (([224, 171, 0, 0, 44, 1, 220, 5, 136, 19, 0, 0, 232, 3, 0, 0, 0, 64, 0, 32, 0, 16, 80, 0, 208, 2] : List Byte))) ∧
    after (exec (.holdupBudget) w_HoldupEntersAndReturns_4) (fun t => decide ((t.shelf.vShut = u32 (([224, 171, 0, 0, 44, 1, 220, 5, 136, 19, 0, 0, 232, 3, 0, 0, 0, 64, 0, 32, 0, 16, 80, 0, 208, 2] : List Byte)) 0) ∧ (t.shelf.targetS = u16 (([224, 171, 0, 0, 44, 1, 220, 5, 136, 19, 0, 0, 232, 3, 0, 0, 0, 64, 0, 32, 0, 16, 80, 0, 208, 2] : List Byte)) 4 ∧ t.shelf.sag = u16 (([224, 171, 0, 0, 44, 1, 220, 5, 136, 19, 0, 0, 232, 3, 0, 0, 0, 64, 0, 32, 0, 16, 80, 0, 208, 2] : List Byte)) 6) ∧ (t.shelf.stableMs = u32 (([224, 171, 0, 0, 44, 1, 220, 5, 136, 19, 0, 0, 232, 3, 0, 0, 0, 64, 0, 32, 0, 16, 80, 0, 208, 2] : List Byte)) 8 ∧ t.shelf.minMs = u32 (([224, 171, 0, 0, 44, 1, 220, 5, 136, 19, 0, 0, 232, 3, 0, 0, 0, 64, 0, 32, 0, 16, 80, 0, 208, 2] : List Byte)) 12) ∧ (t.shelf.warn = u16 (([224, 171, 0, 0, 44, 1, 220, 5, 136, 19, 0, 0, 232, 3, 0, 0, 0, 64, 0, 32, 0, 16, 80, 0, 208, 2] : List Byte)) 16 ∧ t.shelf.low = u16 (([224, 171, 0, 0, 44, 1, 220, 5, 136, 19, 0, 0, 232, 3, 0, 0, 0, 64, 0, 32, 0, 16, 80, 0, 208, 2] : List Byte)) 18 ∧ t.shelf.crit = u16 (([224, 171, 0, 0, 44, 1, 220, 5, 136, 19, 0, 0, 232, 3, 0, 0, 0, 64, 0, 32, 0, 16, 80, 0, 208, 2] : List Byte)) 20) ∧ (t.shelf.chgMin = i16 (([224, 171, 0, 0, 44, 1, 220, 5, 136, 19, 0, 0, 232, 3, 0, 0, 0, 64, 0, 32, 0, 16, 80, 0, 208, 2] : List Byte)) 22 ∧ t.shelf.chgMax = i16 (([224, 171, 0, 0, 44, 1, 220, 5, 136, 19, 0, 0, 232, 3, 0, 0, 0, 64, 0, 32, 0, 16, 80, 0, 208, 2] : List Byte)) 24) ∧ (t.shelf.huNext = none))) = true := by decide +kernel

def w_HoldupEntersAndReturns_5 : State :=
    unitA.updShelf (fun h => { h with budgetAt := 5 })

theorem test_HoldupEntersAndReturns_5 :
    (w_HoldupEntersAndReturns_5.ct < w_HoldupEntersAndReturns_5.shelf.budgetAt) ∧
    after (exec (.holdupBudget) w_HoldupEntersAndReturns_5) (fun t => decide ((t = w_HoldupEntersAndReturns_5))) = true := by decide +kernel

def w_HoldupEntersAndReturns_6 : State :=
    { (unitA.setF HU_STATUS_state 1).updShelf (fun h => { h with shutSince := some 0 }) with ct := 1600000 }

theorem test_HoldupEntersAndReturns_6 :
    (w_HoldupEntersAndReturns_6.shelfOn = true) ∧
    (w_HoldupEntersAndReturns_6.get HU_STATUS_state = 1) ∧
    (w_HoldupEntersAndReturns_6.shelf.shutSince = some 0) ∧
    (0 + ms 1 ≤ w_HoldupEntersAndReturns_6.ct) ∧
    (w_HoldupEntersAndReturns_6.get CHASSIS_PWR_state = 0) ∧
    (∀ n : Fin 64, w_HoldupEntersAndReturns_6.seqSt n = 0 ∧ w_HoldupEntersAndReturns_6.slSt n ≤ 1) ∧
    (MayRaise w_HoldupEntersAndReturns_6 .huExhausted 0) ∧
    after (exec (.holdupExhausted) w_HoldupEntersAndReturns_6) (fun t => decide ((t.get HU_STATUS_state = 3) ∧ (t.get HU_STATUS_exhausted_seen = 1) ∧ (t.raised .huExhausted 0 = true) ∧ (t.get CHASSIS_PWR_state = 2) ∧ (t.skeins = w_HoldupEntersAndReturns_6.skeins))) = true := by decide +kernel

def w_HoldupEntersAndReturns_7 : State :=
    { (unitA.setF HU_STATUS_state 1).updShelf (fun h => { h with coverSince := some 0 }) with ct := 100000000000 }

theorem test_HoldupEntersAndReturns_7 :
    (w_HoldupEntersAndReturns_7.shelfOn = true) ∧
    (w_HoldupEntersAndReturns_7.get HU_STATUS_state = 1) ∧
    (w_HoldupEntersAndReturns_7.get HU_STATUS_phase_lost = 0) ∧
    (w_HoldupEntersAndReturns_7.shelf.coverSince = some 0) ∧
    (0 + ms w_HoldupEntersAndReturns_7.shelf.stableMs ≤ w_HoldupEntersAndReturns_7.ct) ∧
    (w_HoldupEntersAndReturns_7.shelf.enteredAt + ms w_HoldupEntersAndReturns_7.shelf.minMs ≤ w_HoldupEntersAndReturns_7.ct) ∧
    (w_HoldupEntersAndReturns_7.holdupCauses = 0) ∧
    (w_HoldupEntersAndReturns_7.shelf.applied = []) ∧
    (w_HoldupEntersAndReturns_7.shelf.posted = []) ∧
    after (exec (.holdupReturn) w_HoldupEntersAndReturns_7) (fun t => decide ((t.get HU_STATUS_state = 2) ∧ (t.get HU_STATUS_pfw = w_HoldupEntersAndReturns_7.get HU_STATUS_pfw) ∧ (t.shelf.settledSince = none) ∧ (t.eph = w_HoldupEntersAndReturns_7.eph) ∧ (t.mem = w_HoldupEntersAndReturns_7.mem))) = true := by decide +kernel

def w_HoldupEntersAndReturns_8 : State :=
    { (unitA.setF HU_STATUS_state 1).updShelf (fun h => { h with coverSince := some 0, sagSince := some 0 }) with ct := 100000000000 }

theorem test_HoldupEntersAndReturns_8 :
    (w_HoldupEntersAndReturns_8.shelfOn = true) ∧
    (w_HoldupEntersAndReturns_8.get HU_STATUS_state = 1) ∧
    (w_HoldupEntersAndReturns_8.get HU_STATUS_phase_lost = 0) ∧
    (w_HoldupEntersAndReturns_8.shelf.coverSince = some 0) ∧
    (0 + ms w_HoldupEntersAndReturns_8.shelf.stableMs ≤ w_HoldupEntersAndReturns_8.ct) ∧
    (w_HoldupEntersAndReturns_8.shelf.enteredAt + ms w_HoldupEntersAndReturns_8.shelf.minMs ≤ w_HoldupEntersAndReturns_8.ct) ∧
    (w_HoldupEntersAndReturns_8.holdupCauses ≠ 0) ∧
    after (exec (.holdupReturn) w_HoldupEntersAndReturns_8) (fun t => decide ((t.get HU_STATUS_state = 1) ∧ (t.shelf.coverSince = some w_HoldupEntersAndReturns_8.ct) ∧ (t.regs = w_HoldupEntersAndReturns_8.regs) ∧ (t.eph = w_HoldupEntersAndReturns_8.eph) ∧ (t.mem = w_HoldupEntersAndReturns_8.mem))) = true := by decide +kernel

def w_HoldupEntersAndReturns_9 : State :=
    { ((unitA.setF HU_STATUS_state 2).setF HU_STATUS_pfw 1).updShelf (fun h => { h with settledSince := some 0 }) with ct := 1600000000 }

theorem test_HoldupEntersAndReturns_9 :
    (w_HoldupEntersAndReturns_9.shelfOn = true) ∧
    (w_HoldupEntersAndReturns_9.get HU_STATUS_state = 2) ∧
    (w_HoldupEntersAndReturns_9.shelf.settledSince = some 0) ∧
    (0 + sec 1 ≤ w_HoldupEntersAndReturns_9.ct) ∧
    (w_HoldupEntersAndReturns_9.liveSlots = []) ∧
    after (exec (.holdupNormal) w_HoldupEntersAndReturns_9) (fun t => decide ((t.get HU_STATUS_state = 0) ∧ (t.get HU_STATUS_pfw = 0) ∧ (t.raised .huEntry 0 = false) ∧ (t.stitches = w_HoldupEntersAndReturns_9.stitches) ∧ (t.mem = w_HoldupEntersAndReturns_9.mem))) = true := by decide +kernel

def w_HoldupEntersAndReturns_10 : State :=
    (withCmd (unitA.setF HU_RIDE_v 559) 256 9 0x901 [])

theorem test_HoldupEntersAndReturns_10 :
    (Ready w_HoldupEntersAndReturns_10 ((256 : Mb)) ((9 : Fin 64)) 0x901) ∧
    after (exec (.holdupQuery ((256 : Mb)) ((9 : Fin 64))) w_HoldupEntersAndReturns_10) (fun t => decide ((Done t ((256 : Mb)) ((9 : Fin 64)) (cmdOf w_HoldupEntersAndReturns_10 ((256 : Mb)) ((9 : Fin 64))) 0 (w_HoldupEntersAndReturns_10.get HU_STATUS_state + 4 * w_HoldupEntersAndReturns_10.get HU_STATUS_mains + 16 * w_HoldupEntersAndReturns_10.get HU_STATUS_pfw + 32 * w_HoldupEntersAndReturns_10.get HU_STATUS_phase_lost + 256 * w_HoldupEntersAndReturns_10.get HU_STATUS_cause) (w_HoldupEntersAndReturns_10.get BATT_CHASSIS_soc + 2 ^ 16 * Nat.min 65535 (w_HoldupEntersAndReturns_10.get HU_RIDE_v) + 2 ^ 32 * w_HoldupEntersAndReturns_10.get HU_ALLOW_v)) ∧ (t.shelf = w_HoldupEntersAndReturns_10.shelf))) = true := by decide +kernel

def w_HoldupEntersAndReturns_11 : State :=
    (withCmd (unitA.updShelf (fun h => { h with busUv := 45000 })) 256 9 0x902 [224, 171, 0, 0, 44, 1, 220, 5, 136, 19, 0, 0, 232, 3, 0, 0, 0, 64, 0, 32, 0, 16, 80, 0, 208, 2])

theorem test_HoldupEntersAndReturns_11 :
    (Ready w_HoldupEntersAndReturns_11 ((256 : Mb)) ((9 : Fin 64)) 0x902) ∧
    (30000 ≤ u32 (payloadOf w_HoldupEntersAndReturns_11 ((256 : Mb)) ((9 : Fin 64))) 0 ∧ u32 (payloadOf w_HoldupEntersAndReturns_11 ((256 : Mb)) ((9 : Fin 64))) 0 ≤ w_HoldupEntersAndReturns_11.shelf.busUv) ∧
    (u16 (payloadOf w_HoldupEntersAndReturns_11 ((256 : Mb)) ((9 : Fin 64))) 4 ≤ 3600) ∧
    (500 ≤ u16 (payloadOf w_HoldupEntersAndReturns_11 ((256 : Mb)) ((9 : Fin 64))) 6 ∧ u16 (payloadOf w_HoldupEntersAndReturns_11 ((256 : Mb)) ((9 : Fin 64))) 6 ≤ 10000) ∧
    (1000 ≤ u32 (payloadOf w_HoldupEntersAndReturns_11 ((256 : Mb)) ((9 : Fin 64))) 8 ∧ u32 (payloadOf w_HoldupEntersAndReturns_11 ((256 : Mb)) ((9 : Fin 64))) 8 ≤ 600000) ∧
    (100 ≤ u32 (payloadOf w_HoldupEntersAndReturns_11 ((256 : Mb)) ((9 : Fin 64))) 12 ∧ u32 (payloadOf w_HoldupEntersAndReturns_11 ((256 : Mb)) ((9 : Fin 64))) 12 ≤ 60000) ∧
    (u16 (payloadOf w_HoldupEntersAndReturns_11 ((256 : Mb)) ((9 : Fin 64))) 20 < u16 (payloadOf w_HoldupEntersAndReturns_11 ((256 : Mb)) ((9 : Fin 64))) 18 ∧ u16 (payloadOf w_HoldupEntersAndReturns_11 ((256 : Mb)) ((9 : Fin 64))) 18 < u16 (payloadOf w_HoldupEntersAndReturns_11 ((256 : Mb)) ((9 : Fin 64))) 16 ∧ u16 (payloadOf w_HoldupEntersAndReturns_11 ((256 : Mb)) ((9 : Fin 64))) 16 < 32768) ∧
    ((resv (payloadOf w_HoldupEntersAndReturns_11 ((256 : Mb)) ((9 : Fin 64))) 26 32).2 = false) ∧
    after (exec (.holdupCtrl ((256 : Mb)) ((9 : Fin 64))) w_HoldupEntersAndReturns_11) (fun t => decide ((t.shelf.huNext = some (payloadOf w_HoldupEntersAndReturns_11 ((256 : Mb)) ((9 : Fin 64)))) ∧ (t.shelf.vShut = w_HoldupEntersAndReturns_11.shelf.vShut) ∧ (Done t ((256 : Mb)) ((9 : Fin 64)) (cmdOf w_HoldupEntersAndReturns_11 ((256 : Mb)) ((9 : Fin 64))) 0 0 0) ∧ (t.strs = w_HoldupEntersAndReturns_11.strs))) = true := by decide +kernel

def w_BatteryStringsAreEstimated_1 : State :=
    (unitA.updStr 2 (fun x => { x with tw := 1, addr := 0x30, qfull := 360000000, qNom := 360000000, rint := 10000, ocv := (List.range 17).map (fun (i : Nat) => 48000 + 300 * (i : Int)), chgMw := 5000000, vFull := 52800, iTaper := 1000, ainV := 4, ainI := 5, ainT := 6, scV := (16, 1, 0), scI := (1, 1, -32768), scT := (1, 64, 0), q := 576000000000000000 }))

theorem test_BatteryStringsAreEstimated_1 :
    (w_BatteryStringsAreEstimated_1.shelfOn = true) ∧
    (w_BatteryStringsAreEstimated_1.strIds.contains ((2 : Fin 16)).val = true) ∧
    after (exec (.battStatusPoll ((2 : Fin 16))) w_BatteryStringsAreEstimated_1) (fun t => decide (((t.tw (w_BatteryStringsAreEstimated_1.str ((2 : Fin 16))).tw).jobs = (w_BatteryStringsAreEstimated_1.tw (w_BatteryStringsAreEstimated_1.str ((2 : Fin 16))).tw).jobs ++ [(64 + ((2 : Fin 16)).val, 0x79, 3)]) ∧ (t.strs = w_BatteryStringsAreEstimated_1.strs) ∧ (t.regs = w_BatteryStringsAreEstimated_1.regs) ∧ (t.mem = w_BatteryStringsAreEstimated_1.mem))) = true := by decide +kernel

def w_BatteryStringsAreEstimated_2 : State :=
    { (((((unitA.updStr 2 (fun x => { x with tw := 1, addr := 0x30, qfull := 360000000, qNom := 360000000, rint := 10000, ocv := (List.range 17).map (fun (i : Nat) => 48000 + 300 * (i : Int)), chgMw := 5000000, vFull := 52800, iTaper := 1000, ainV := 4, ainI := 5, ainT := 6, scV := (16, 1, 0), scI := (1, 1, -32768), scT := (1, 64, 0), q := 576000000000000000, prevI := some (51200, 0) })).setF (ADC_RES_valid 0 4) 1).setF (ADC_RES_valid 0 5) 1).setF (ADC_RES_value 0 4) 3200).setF (ADC_RES_value 0 5) 32000).setF (BAT_STATE_mode 2) 0 with ct := 16000 }

theorem test_BatteryStringsAreEstimated_2 :
    (w_BatteryStringsAreEstimated_2.faults.insts = []) ∧
    ((w_BatteryStringsAreEstimated_2.kindCfg .battTemp ((2 : Fin 16))).1 ≠ 3) ∧
    ((w_BatteryStringsAreEstimated_2.kindCfg .battLevel ((2 : Fin 16))).1 ≠ 3) ∧
    (w_BatteryStringsAreEstimated_2.active = true) ∧
    (w_BatteryStringsAreEstimated_2.strIds.contains ((2 : Fin 16)).val = true) ∧
    (w_BatteryStringsAreEstimated_2.get (BAT_STATE_mode ((2 : Fin 16))) = 0) ∧
    (w_BatteryStringsAreEstimated_2.get (BAT_STATE_learn ((2 : Fin 16))) = 0) ∧
    ((w_BatteryStringsAreEstimated_2.str ((2 : Fin 16))).sampledAt + us 10 ≤ w_BatteryStringsAreEstimated_2.ct) ∧
    (w_BatteryStringsAreEstimated_2.ainOk (w_BatteryStringsAreEstimated_2.str ((2 : Fin 16))).ainV = true) ∧
    (w_BatteryStringsAreEstimated_2.ainOk (w_BatteryStringsAreEstimated_2.str ((2 : Fin 16))).ainI = true) ∧
    ((w_BatteryStringsAreEstimated_2.str ((2 : Fin 16))).prevI.isSome = true) ∧
    (w_BatteryStringsAreEstimated_2.ainVal (w_BatteryStringsAreEstimated_2.str ((2 : Fin 16))).ainV 1 (w_BatteryStringsAreEstimated_2.str ((2 : Fin 16))).scV = ((51200 : Int))) ∧
    (w_BatteryStringsAreEstimated_2.ainVal (w_BatteryStringsAreEstimated_2.str ((2 : Fin 16))).ainI 1 (w_BatteryStringsAreEstimated_2.str ((2 : Fin 16))).scI = ((-768 : Int))) ∧
    after (exec (.battSample ((2 : Fin 16))) w_BatteryStringsAreEstimated_2) (fun t => decide (((t.str ((2 : Fin 16))).q = clampI 0 ((w_BatteryStringsAreEstimated_2.str ((2 : Fin 16))).qfull * mcTicks) ((w_BatteryStringsAreEstimated_2.str ((2 : Fin 16))).q + ((-768 : Int)) * (w_BatteryStringsAreEstimated_2.ct - (w_BatteryStringsAreEstimated_2.str ((2 : Fin 16))).sampledAt : Nat))) ∧ (t.get (BAT_V_v ((2 : Fin 16))) = toField 32 ((51200 : Int))) ∧ (t.get (BAT_I_v ((2 : Fin 16))) = toField 32 ((-768 : Int))) ∧ ((t.str ((2 : Fin 16))).sampledAt = w_BatteryStringsAreEstimated_2.ct) ∧ (t.stitches = w_BatteryStringsAreEstimated_2.stitches))) = true := by decide +kernel

def w_BatteryStringsAreEstimated_3 : State :=
    { (unitA.updStr 2 (fun x => { x with tw := 1, addr := 0x30, qfull := 360000000, qNom := 360000000, rint := 10000, ocv := (List.range 17).map (fun (i : Nat) => 48000 + 300 * (i : Int)), chgMw := 5000000, vFull := 52800, iTaper := 1000, ainV := 4, ainI := 5, ainT := 6, scV := (16, 1, 0), scI := (1, 1, -32768), scT := (1, 64, 0), q := 576000000000000000, lowSince := some 0 })).setF (BAT_STATE_mode 2) 0 with ct := 1600000000 }

theorem test_BatteryStringsAreEstimated_3 :
    (w_BatteryStringsAreEstimated_3.strIds.contains ((2 : Fin 16)).val = true) ∧
    (w_BatteryStringsAreEstimated_3.get (BAT_STATE_mode ((2 : Fin 16))) = 0) ∧
    ((w_BatteryStringsAreEstimated_3.str ((2 : Fin 16))).lowSince = some 0) ∧
    (0 + sec 1 ≤ w_BatteryStringsAreEstimated_3.ct) ∧
    ((w_BatteryStringsAreEstimated_3.str ((2 : Fin 16))).idleSince = none) ∧
    after (exec (.battModeTimer ((2 : Fin 16))) w_BatteryStringsAreEstimated_3) (fun t => decide ((t.get (BAT_STATE_mode ((2 : Fin 16))) = 1) ∧ (t.strs = w_BatteryStringsAreEstimated_3.strs) ∧ (t.mem = w_BatteryStringsAreEstimated_3.mem))) = true := by decide +kernel

def w_BatteryStringsAreEstimated_4 : State :=
    { (unitA.updStr 2 (fun x => { x with tw := 1, addr := 0x30, qfull := 360000000, qNom := 360000000, rint := 10000, ocv := (List.range 17).map (fun (i : Nat) => 48000 + 300 * (i : Int)), chgMw := 5000000, vFull := 52800, iTaper := 1000, ainV := 4, ainI := 5, ainT := 6, scV := (16, 1, 0), scI := (1, 1, -32768), scT := (1, 64, 0), q := 576000000000000000, fullSince := some 0 })).setF (BAT_STATE_chg_on 2) 1 with ct := 96000000000 }

theorem test_BatteryStringsAreEstimated_4 :
    (w_BatteryStringsAreEstimated_4.faults.insts = []) ∧
    ((w_BatteryStringsAreEstimated_4.kindCfg .battLevel ((2 : Fin 16))).1 ≠ 3) ∧
    ((w_BatteryStringsAreEstimated_4.str ((2 : Fin 16))).fullSince = some 0) ∧
    (0 + sec 60 ≤ w_BatteryStringsAreEstimated_4.ct) ∧
    (w_BatteryStringsAreEstimated_4.is (BAT_STATE_chg_on ((2 : Fin 16))) = true) ∧
    after (exec (.fullChargeCorrect ((2 : Fin 16))) w_BatteryStringsAreEstimated_4) (fun t => decide (((t.str ((2 : Fin 16))).q = (w_BatteryStringsAreEstimated_4.str ((2 : Fin 16))).qfull * mcTicks) ∧ (t.get (BAT_STATE_chg_on ((2 : Fin 16))) = 0) ∧ (t.get (BAT_STATE_learn ((2 : Fin 16))) = 1) ∧ ((t.str ((2 : Fin 16))).fullSeen = true) ∧ (t.stitches = w_BatteryStringsAreEstimated_4.stitches))) = true := by decide +kernel

def w_BatteryStringsAreEstimated_5 : State :=
    { ((unitA.updStr 2 (fun x => { x with tw := 1, addr := 0x30, qfull := 360000000, qNom := 360000000, rint := 10000, ocv := (List.range 17).map (fun (i : Nat) => 48000 + 300 * (i : Int)), chgMw := 5000000, vFull := 52800, iTaper := 1000, ainV := 4, ainI := 5, ainT := 6, scV := (16, 1, 0), scI := (1, 1, -32768), scT := (1, 64, 0), q := 576000000000000000, hibSince := some 0 })).setF (BAT_STATE_mode 2) 2).setF (BAT_V_v 2) 50400 with ct := 2880000000000 }

theorem test_BatteryStringsAreEstimated_5 :
    (w_BatteryStringsAreEstimated_5.faults.insts = []) ∧
    ((w_BatteryStringsAreEstimated_5.kindCfg .battLevel ((2 : Fin 16))).1 ≠ 3) ∧
    ((w_BatteryStringsAreEstimated_5.str ((2 : Fin 16))).hibSince = some 0) ∧
    (0 + sec 1800 ≤ w_BatteryStringsAreEstimated_5.ct) ∧
    ((w_BatteryStringsAreEstimated_5.str ((2 : Fin 16))).restDone = false) ∧
    (w_BatteryStringsAreEstimated_5.get (BAT_STATE_mode ((2 : Fin 16))) = 2) ∧
    (w_BatteryStringsAreEstimated_5.is (BAT_STATE_chg_on ((2 : Fin 16))) = false) ∧
    (20 ≤ (w_BatteryStringsAreEstimated_5.str ((2 : Fin 16))).ocv.getD (ocvIndex (fromField 32 (w_BatteryStringsAreEstimated_5.get (BAT_V_v ((2 : Fin 16))))) (w_BatteryStringsAreEstimated_5.str ((2 : Fin 16))).ocv 0 + 1) 0 - (w_BatteryStringsAreEstimated_5.str ((2 : Fin 16))).ocv.getD (ocvIndex (fromField 32 (w_BatteryStringsAreEstimated_5.get (BAT_V_v ((2 : Fin 16))))) (w_BatteryStringsAreEstimated_5.str ((2 : Fin 16))).ocv 0) 0) ∧
    after (exec (.restCorrect ((2 : Fin 16))) w_BatteryStringsAreEstimated_5) (fun t => decide (((t.str ((2 : Fin 16))).q = clampI 0 ((w_BatteryStringsAreEstimated_5.str ((2 : Fin 16))).qfull * mcTicks) ((w_BatteryStringsAreEstimated_5.str ((2 : Fin 16))).q + divRound ((w_BatteryStringsAreEstimated_5.str ((2 : Fin 16))).ocvInv (fromField 32 (w_BatteryStringsAreEstimated_5.get (BAT_V_v ((2 : Fin 16))))) ((w_BatteryStringsAreEstimated_5.str ((2 : Fin 16))).qfull * mcTicks) - (w_BatteryStringsAreEstimated_5.str ((2 : Fin 16))).q) 2)) ∧ ((t.str ((2 : Fin 16))).restDone = true) ∧ (t.stitches = w_BatteryStringsAreEstimated_5.stitches))) = true := by decide +kernel

def w_BatteryStringsAreEstimated_6 : State :=
    { (unitA.updStr 2 (fun x => { x with tw := 1, addr := 0x30, qfull := 360000000, qNom := 360000000, rint := 10000, ocv := (List.range 17).map (fun (i : Nat) => 48000 + 300 * (i : Int)), chgMw := 5000000, vFull := 52800, iTaper := 1000, ainV := 4, ainI := 5, ainT := 6, scV := (16, 1, 0), scI := (1, 1, -32768), scT := (1, 64, 0), q := 576000000000000000, interruptAt := some 0 })).setF (BAT_STATE_learn 2) 2 with ct := 96000000001 }

theorem test_BatteryStringsAreEstimated_6 :
    (w_BatteryStringsAreEstimated_6.get (BAT_STATE_learn ((2 : Fin 16))) = 2) ∧
    ((w_BatteryStringsAreEstimated_6.str ((2 : Fin 16))).interruptAt = some 0) ∧
    (0 ≤ (w_BatteryStringsAreEstimated_6.str ((2 : Fin 16))).sampledAt) ∧
    (0 + sec 60 < w_BatteryStringsAreEstimated_6.ct) ∧
    after (exec (.learnInterrupt ((2 : Fin 16))) w_BatteryStringsAreEstimated_6) (fun t => decide ((t.get (BAT_STATE_learn ((2 : Fin 16))) = 0) ∧ (t.get (BAT_STATE_learn_disq ((2 : Fin 16))) = 1) ∧ (t.strs = w_BatteryStringsAreEstimated_6.strs) ∧ (t.mem = w_BatteryStringsAreEstimated_6.mem))) = true := by decide +kernel

def w_BatteryStringsAreEstimated_7 : State :=
    (unitA.updStr 2 (fun x => { x with tw := 1, addr := 0x30, qfull := 360000000, qNom := 360000000, rint := 10000, ocv := (List.range 17).map (fun (i : Nat) => 48000 + 300 * (i : Int)), chgMw := 5000000, vFull := 52800, iTaper := 1000, ainV := 4, ainI := 5, ainT := 6, scV := (16, 1, 0), scI := (1, 1, -32768), scT := (1, 64, 0), q := 576000000000000000 })).updRect 5 (fun x => { x with state := 3, ratedMw := 6000000 })

theorem test_BatteryStringsAreEstimated_7 :
    (w_BatteryStringsAreEstimated_7.shelfOn = true) ∧
    (w_BatteryStringsAreEstimated_7.hupNormal = true) ∧
    (w_BatteryStringsAreEstimated_7.strIds = [2]) ∧
    (2 < 16) ∧
    (w_BatteryStringsAreEstimated_7.shelf.chgAt ≤ w_BatteryStringsAreEstimated_7.ct) ∧
    (w_BatteryStringsAreEstimated_7.is (BAT_STATE_chg_on 2) = false) ∧
    (w_BatteryStringsAreEstimated_7.is (BAT_STATE_chg_inhibit 2) = false) ∧
    ((w_BatteryStringsAreEstimated_7.str 2).inhibitCmd = false) ∧
    (w_BatteryStringsAreEstimated_7.is (BAT_STATE_test 2) = false) ∧
    (w_BatteryStringsAreEstimated_7.get (BAT_SOC_rescaled 2) < 31130) ∧
    (w_BatteryStringsAreEstimated_7.chargeRoom [2] = true) ∧
    after (exec (.chargeControl) w_BatteryStringsAreEstimated_7) (fun t => decide ((t.get (BAT_STATE_chg_on 2) = 1) ∧ (t.out = w_BatteryStringsAreEstimated_7.out ++ [.pmbus (w_BatteryStringsAreEstimated_7.str 2).tw (w_BatteryStringsAreEstimated_7.str 2).addr 0x01 0x80]) ∧ (t.shelf.chgAt = w_BatteryStringsAreEstimated_7.ct + sec 1) ∧ (t.stitches = w_BatteryStringsAreEstimated_7.stitches) ∧ (t.mem = w_BatteryStringsAreEstimated_7.mem))) = true := by decide +kernel

def w_BatteryStringsAreEstimated_8 : State :=
    ((unitA.updStr 2 (fun x => { x with tw := 1, addr := 0x30, qfull := 360000000, qNom := 360000000, rint := 10000, ocv := (List.range 17).map (fun (i : Nat) => 48000 + 300 * (i : Int)), chgMw := 5000000, vFull := 52800, iTaper := 1000, ainV := 4, ainI := 5, ainT := 6, scV := (16, 1, 0), scI := (1, 1, -32768), scT := (1, 64, 0), q := 576000000000000000, inhibitCmd := true }))).setF (BAT_STATE_chg_on 2) 1

theorem test_BatteryStringsAreEstimated_8 :
    (w_BatteryStringsAreEstimated_8.shelfOn = true) ∧
    (w_BatteryStringsAreEstimated_8.strIds = [2]) ∧
    (2 < 16) ∧
    (w_BatteryStringsAreEstimated_8.is (BAT_STATE_chg_on 2) = true) ∧
    (w_BatteryStringsAreEstimated_8.hupNormal = false ∨ w_BatteryStringsAreEstimated_8.is (BAT_STATE_chg_inhibit 2) = true ∨ (w_BatteryStringsAreEstimated_8.str 2).inhibitCmd = true) ∧
    after (exec (.chargeControl) w_BatteryStringsAreEstimated_8) (fun t => decide ((t.get (BAT_STATE_chg_on 2) = 0) ∧ (t.out = w_BatteryStringsAreEstimated_8.out ++ [.pmbus (w_BatteryStringsAreEstimated_8.str 2).tw (w_BatteryStringsAreEstimated_8.str 2).addr 0x01 0]) ∧ (t.stitches = w_BatteryStringsAreEstimated_8.stitches) ∧ (t.mem = w_BatteryStringsAreEstimated_8.mem))) = true := by decide +kernel

def w_BatteryStringsAreEstimated_9 : State :=
    (withCmd ((unitA.updStr 2 (fun x => { x with tw := 1, addr := 0x30, qfull := 360000000, qNom := 360000000, rint := 10000, ocv := (List.range 17).map (fun (i : Nat) => 48000 + 300 * (i : Int)), chgMw := 5000000, vFull := 52800, iTaper := 1000, ainV := 4, ainI := 5, ainT := 6, scV := (16, 1, 0), scI := (1, 1, -32768), scT := (1, 64, 0), q := 576000000000000000 }))) 256 9 0x910 [2])

theorem test_BatteryStringsAreEstimated_9 :
    (Ready w_BatteryStringsAreEstimated_9 ((256 : Mb)) ((9 : Fin 64)) 0x910) ∧
    ((u8 (payloadOf w_BatteryStringsAreEstimated_9 ((256 : Mb)) ((9 : Fin 64))) 0) < 16) ∧
    after (exec (.battQuery ((256 : Mb)) ((9 : Fin 64))) w_BatteryStringsAreEstimated_9) (fun t => decide ((Done t ((256 : Mb)) ((9 : Fin 64)) (cmdOf w_BatteryStringsAreEstimated_9 ((256 : Mb)) ((9 : Fin 64))) 0 (w_BatteryStringsAreEstimated_9.get (BAT_STATE_mode (u8 (payloadOf w_BatteryStringsAreEstimated_9 ((256 : Mb)) ((9 : Fin 64))) 0)) + 4 * w_BatteryStringsAreEstimated_9.get (BAT_STATE_level (u8 (payloadOf w_BatteryStringsAreEstimated_9 ((256 : Mb)) ((9 : Fin 64))) 0)) + 16 * w_BatteryStringsAreEstimated_9.get (BAT_STATE_learn (u8 (payloadOf w_BatteryStringsAreEstimated_9 ((256 : Mb)) ((9 : Fin 64))) 0)) + 64 * w_BatteryStringsAreEstimated_9.get (BAT_STATE_chg_on (u8 (payloadOf w_BatteryStringsAreEstimated_9 ((256 : Mb)) ((9 : Fin 64))) 0)) + 128 * w_BatteryStringsAreEstimated_9.get (BAT_STATE_chg_inhibit (u8 (payloadOf w_BatteryStringsAreEstimated_9 ((256 : Mb)) ((9 : Fin 64))) 0))) (w_BatteryStringsAreEstimated_9.get (BAT_Q_v (u8 (payloadOf w_BatteryStringsAreEstimated_9 ((256 : Mb)) ((9 : Fin 64))) 0)) + 2 ^ 32 * w_BatteryStringsAreEstimated_9.get (BAT_SOC_rescaled (u8 (payloadOf w_BatteryStringsAreEstimated_9 ((256 : Mb)) ((9 : Fin 64))) 0)) + 2 ^ 48 * w_BatteryStringsAreEstimated_9.get (BAT_SOC_raw (u8 (payloadOf w_BatteryStringsAreEstimated_9 ((256 : Mb)) ((9 : Fin 64))) 0)))) ∧ (t.strs = w_BatteryStringsAreEstimated_9.strs))) = true := by decide +kernel

def w_BatteryStringsAreEstimated_10 : State :=
    (withCmd ((unitA.updStr 2 (fun x => { x with tw := 1, addr := 0x30, qfull := 360000000, qNom := 360000000, rint := 10000, ocv := (List.range 17).map (fun (i : Nat) => 48000 + 300 * (i : Int)), chgMw := 5000000, vFull := 52800, iTaper := 1000, ainV := 4, ainI := 5, ainT := 6, scV := (16, 1, 0), scI := (1, 1, -32768), scT := (1, 64, 0), q := 576000000000000000 }))) 256 9 0x911 [2, 0])

theorem test_BatteryStringsAreEstimated_10 :
    (Ready w_BatteryStringsAreEstimated_10 ((256 : Mb)) ((9 : Fin 64)) 0x911) ∧
    (NoRung w_BatteryStringsAreEstimated_10) ∧
    ((u8 (payloadOf w_BatteryStringsAreEstimated_10 ((256 : Mb)) ((9 : Fin 64))) 0) < 16) ∧
    (w_BatteryStringsAreEstimated_10.strIds.contains (u8 (payloadOf w_BatteryStringsAreEstimated_10 ((256 : Mb)) ((9 : Fin 64))) 0) = true) ∧
    (u8 (payloadOf w_BatteryStringsAreEstimated_10 ((256 : Mb)) ((9 : Fin 64))) 1 = 0) ∧
    after (exec (.battCtrl ((256 : Mb)) ((9 : Fin 64))) w_BatteryStringsAreEstimated_10) (fun t => decide (((t.str (u8 (payloadOf w_BatteryStringsAreEstimated_10 ((256 : Mb)) ((9 : Fin 64))) 0)).inhibitCmd = true) ∧ (t.get (BAT_STATE_chg_on (u8 (payloadOf w_BatteryStringsAreEstimated_10 ((256 : Mb)) ((9 : Fin 64))) 0)) = 0) ∧ (Done t ((256 : Mb)) ((9 : Fin 64)) (cmdOf w_BatteryStringsAreEstimated_10 ((256 : Mb)) ((9 : Fin 64))) 0 0 0) ∧ (t.stitches = w_BatteryStringsAreEstimated_10.stitches))) = true := by decide +kernel

def w_BatteryStringsAreEstimated_11 : State :=
    (withCmd ((unitA.updStr 2 (fun x => { x with tw := 1, addr := 0x30, qfull := 360000000, qNom := 360000000, rint := 10000, ocv := (List.range 17).map (fun (i : Nat) => 48000 + 300 * (i : Int)), chgMw := 5000000, vFull := 52800, iTaper := 1000, ainV := 4, ainI := 5, ainT := 6, scV := (16, 1, 0), scI := (1, 1, -32768), scT := (1, 64, 0), q := 576000000000000000 }))) 256 9 0x911 [2, 2])

theorem test_BatteryStringsAreEstimated_11 :
    (Ready w_BatteryStringsAreEstimated_11 ((256 : Mb)) ((9 : Fin 64)) 0x911) ∧
    (NoRung w_BatteryStringsAreEstimated_11) ∧
    ((u8 (payloadOf w_BatteryStringsAreEstimated_11 ((256 : Mb)) ((9 : Fin 64))) 0) < 16) ∧
    (w_BatteryStringsAreEstimated_11.strIds.contains (u8 (payloadOf w_BatteryStringsAreEstimated_11 ((256 : Mb)) ((9 : Fin 64))) 0) = true) ∧
    (u8 (payloadOf w_BatteryStringsAreEstimated_11 ((256 : Mb)) ((9 : Fin 64))) 1 = 2) ∧
    (w_BatteryStringsAreEstimated_11.hupNormal = true) ∧
    (w_BatteryStringsAreEstimated_11.strIds.all (fun i => !w_BatteryStringsAreEstimated_11.is (BAT_STATE_test i)) = true) ∧
    after (exec (.battCtrl ((256 : Mb)) ((9 : Fin 64))) w_BatteryStringsAreEstimated_11) (fun t => decide ((t.get (BAT_STATE_test (u8 (payloadOf w_BatteryStringsAreEstimated_11 ((256 : Mb)) ((9 : Fin 64))) 0)) = 1) ∧ (t.get (BAT_STATE_chg_on (u8 (payloadOf w_BatteryStringsAreEstimated_11 ((256 : Mb)) ((9 : Fin 64))) 0)) = 0) ∧ (Done t ((256 : Mb)) ((9 : Fin 64)) (cmdOf w_BatteryStringsAreEstimated_11 ((256 : Mb)) ((9 : Fin 64))) 0 0 0) ∧ ((t.str (u8 (payloadOf w_BatteryStringsAreEstimated_11 ((256 : Mb)) ((9 : Fin 64))) 0)).q = (w_BatteryStringsAreEstimated_11.str (u8 (payloadOf w_BatteryStringsAreEstimated_11 ((256 : Mb)) ((9 : Fin 64))) 0)).q) ∧ (t.stitches = w_BatteryStringsAreEstimated_11.stitches))) = true := by decide +kernel

def w_SlotsAreMeasuredAndProtected_1 : State :=
    ((((unitA.setF (SLOT_STATE_state 3) 3).updSlot 3 (fun x => { x with cell := some (List.replicate 8 1100, List.replicate 8 51200), iZero := 100, iLsb := 256, vLsb := 256, haveDesc := true, gateHigh := true, ltMa := 100000, stMa := 200000, dropMax := 500, stUs := 10, gateRiseMs := 5, ltMs := 100 })).setF (SLOT_STATE_gate 3) 1).setI BUS_V_bus_mv 51300)

theorem test_SlotsAreMeasuredAndProtected_1 :
    (NoRung w_SlotsAreMeasuredAndProtected_1) ∧
    (w_SlotsAreMeasuredAndProtected_1.faults.insts = []) ∧
    (w_SlotsAreMeasuredAndProtected_1.slSt ((3 : Fin 64)) = 3) ∧
    (w_SlotsAreMeasuredAndProtected_1.get (SLOT_STATE_gate ((3 : Fin 64))) = 1) ∧
    ((w_SlotsAreMeasuredAndProtected_1.slot ((3 : Fin 64))).haveDesc = true) ∧
    ((w_SlotsAreMeasuredAndProtected_1.slot ((3 : Fin 64))).cell = some (((List.replicate 8 1100)), ((List.replicate 8 51200)))) ∧
    (((List.replicate 8 1100)).length = 8) ∧
    (slotSums ((List.replicate 8 1100)) ((List.replicate 8 51200)) (w_SlotsAreMeasuredAndProtected_1.slot ((3 : Fin 64))).iZero = (((8000 : Int)), ((409600 : Int)), ((409600000 : Int)))) ∧
    (divRound (((8000 : Int)) * (w_SlotsAreMeasuredAndProtected_1.slot ((3 : Fin 64))).iLsb) 2048 = ((1000 : Int))) ∧
    (divRound (((409600 : Int)) * (w_SlotsAreMeasuredAndProtected_1.slot ((3 : Fin 64))).vLsb) 2048 = ((51200 : Int))) ∧
    (-2147483648 ≤ ((1000 : Int)) ∧ ((1000 : Int)) ≤ (w_SlotsAreMeasuredAndProtected_1.slot ((3 : Fin 64))).ltMa ∧ (w_SlotsAreMeasuredAndProtected_1.slot ((3 : Fin 64))).ltMa < (w_SlotsAreMeasuredAndProtected_1.slot ((3 : Fin 64))).stMa ∧ ((1000 : Int)) < 2147483648) ∧
    (-2147483648 ≤ ((51200 : Int)) ∧ ((51200 : Int)) < 2147483648) ∧
    ((w_SlotsAreMeasuredAndProtected_1.slot ((3 : Fin 64))).gateHigh = true) ∧
    ((w_SlotsAreMeasuredAndProtected_1.slot ((3 : Fin 64))).tripped = false) ∧
    (fromField 32 (w_SlotsAreMeasuredAndProtected_1.get BUS_V_bus_mv) - ((51200 : Int)) ≤ (w_SlotsAreMeasuredAndProtected_1.slot ((3 : Fin 64))).dropMax) ∧
    after (exec (.slotInterval ((3 : Fin 64))) w_SlotsAreMeasuredAndProtected_1) (fun t => decide ((t.get (SLOT_I_v ((3 : Fin 64))) = toField 32 ((1000 : Int))) ∧ (t.get (SLOT_V_v ((3 : Fin 64))) = toField 32 ((51200 : Int))) ∧ (t.get (SLOT_P_v ((3 : Fin 64))) = toField 32 (divRound (((409600000 : Int)) * (w_SlotsAreMeasuredAndProtected_1.slot ((3 : Fin 64))).iLsb * (w_SlotsAreMeasuredAndProtected_1.slot ((3 : Fin 64))).vLsb) 524288000)) ∧ ((t.slot ((3 : Fin 64))).eRem = ((w_SlotsAreMeasuredAndProtected_1.slot ((3 : Fin 64))).eRem + divRound (((409600000 : Int)) * (w_SlotsAreMeasuredAndProtected_1.slot ((3 : Fin 64))).iLsb * (w_SlotsAreMeasuredAndProtected_1.slot ((3 : Fin 64))).vLsb * 80) 8) % 524288000000000) ∧ (t.pairVal (aSLOT_E_LO ((3 : Fin 64))) (aSLOT_E_HI ((3 : Fin 64))) = toField 64 ((w_SlotsAreMeasuredAndProtected_1.pairVal (aSLOT_E_LO ((3 : Fin 64))) (aSLOT_E_HI ((3 : Fin 64))) : Nat) + ((w_SlotsAreMeasuredAndProtected_1.slot ((3 : Fin 64))).eRem + divRound (((409600000 : Int)) * (w_SlotsAreMeasuredAndProtected_1.slot ((3 : Fin 64))).iLsb * (w_SlotsAreMeasuredAndProtected_1.slot ((3 : Fin 64))).vLsb * 80) 8) / 524288000000000)) ∧ ((t.slot ((3 : Fin 64))).stRun = 0 ∧ (t.slot ((3 : Fin 64))).ltRun = 0 ∧ (t.slot ((3 : Fin 64))).missed = 0) ∧ (t.slSt ((3 : Fin 64)) = 3) ∧ (t.faults.insts = []) ∧ (t.stitches = w_SlotsAreMeasuredAndProtected_1.stitches) ∧ (t.mem = w_SlotsAreMeasuredAndProtected_1.mem))) = true := by decide +kernel

def w_SlotsAreMeasuredAndProtected_2 : State :=
    ((((unitA.setF (SLOT_STATE_state 3) 3).updSlot 3 (fun x => { x with cell := none, iZero := 100, iLsb := 256, vLsb := 256, haveDesc := true, gateHigh := true, ltMa := 100000, stMa := 200000, dropMax := 500, stUs := 20, gateRiseMs := 5, ltMs := 100, stRun := 1 })).setF (SLOT_STATE_gate 3) 1).setI (SLOT_I_v 3) 300000)

theorem test_SlotsAreMeasuredAndProtected_2 :
    (MayRaise w_SlotsAreMeasuredAndProtected_2 .slotBreaker ((3 : Fin 64))) ∧
    (w_SlotsAreMeasuredAndProtected_2.swTouched = []) ∧
    (w_SlotsAreMeasuredAndProtected_2.faults.insts.length < 2047) ∧
    ((w_SlotsAreMeasuredAndProtected_2.kindCfg .seqStartFail ((3 : Fin 64))).1 ≠ 3) ∧
    (w_SlotsAreMeasuredAndProtected_2.slSt ((3 : Fin 64)) = 3) ∧
    (w_SlotsAreMeasuredAndProtected_2.get (SLOT_STATE_gate ((3 : Fin 64))) = 1) ∧
    ((w_SlotsAreMeasuredAndProtected_2.slot ((3 : Fin 64))).haveDesc = true) ∧
    ((w_SlotsAreMeasuredAndProtected_2.slot ((3 : Fin 64))).cell = none) ∧
    ((w_SlotsAreMeasuredAndProtected_2.slot ((3 : Fin 64))).gateHigh = true) ∧
    ((w_SlotsAreMeasuredAndProtected_2.slot ((3 : Fin 64))).stMa < fromField 32 (w_SlotsAreMeasuredAndProtected_2.get (SLOT_I_v ((3 : Fin 64))))) ∧
    ((w_SlotsAreMeasuredAndProtected_2.slot ((3 : Fin 64))).stUs ≤ 10 * ((w_SlotsAreMeasuredAndProtected_2.slot ((3 : Fin 64))).stRun + 1)) ∧
    (fromField 32 (w_SlotsAreMeasuredAndProtected_2.get BUS_V_bus_mv) - fromField 32 (w_SlotsAreMeasuredAndProtected_2.get (SLOT_V_v ((3 : Fin 64)))) ≤ (w_SlotsAreMeasuredAndProtected_2.slot ((3 : Fin 64))).dropMax) ∧
    after (exec (.slotInterval ((3 : Fin 64))) w_SlotsAreMeasuredAndProtected_2) (fun t => decide ((t.slSt ((3 : Fin 64)) = 5) ∧ (t.get (SLOT_STATE_reason ((3 : Fin 64))) = 3) ∧ (t.get (SLOT_STATE_gate ((3 : Fin 64))) = 0) ∧ (t.get (SLOT_STATE_warn ((3 : Fin 64))) = 1) ∧ (t.get (SLOT_STATE_fence_seen ((3 : Fin 64))) = 1) ∧ (t.get (PORT_EPOCH_epoch ((3 : Fin 64))) = 0) ∧ (t.shelf = w_SlotsAreMeasuredAndProtected_2.shelf) ∧ (t.eph = w_SlotsAreMeasuredAndProtected_2.eph) ∧ (t.raised .slotBreaker ((3 : Fin 64)) = true) ∧ (Counted w_SlotsAreMeasuredAndProtected_2 t (SLOT_CNT_missed ((3 : Fin 64)))) ∧ (Counted w_SlotsAreMeasuredAndProtected_2 t (SLOT_CNT_timed ((3 : Fin 64)))))) = true := by decide +kernel

theorem test_SlotsAreMeasuredAndProtected_3 :
    ((unitA.slot ((3 : Fin 64))).haveDesc = false) ∧
    after (exec (.slotInterval ((3 : Fin 64))) unitA) (fun t => decide ((t = unitA))) = true := by decide +kernel

def w_SlotsAreMeasuredAndProtected_4 : State :=
    (unitA.updSlot 3 (fun x => { x with missed := 10 }))

theorem test_SlotsAreMeasuredAndProtected_4 :
    (10 ≤ (w_SlotsAreMeasuredAndProtected_4.slot ((3 : Fin 64))).missed) ∧
    (MayRaise w_SlotsAreMeasuredAndProtected_4 .slotMeasLoss ((3 : Fin 64))) ∧
    after (exec (.slotMeasLoss ((3 : Fin 64))) w_SlotsAreMeasuredAndProtected_4) (fun t => decide ((t.raised .slotMeasLoss ((3 : Fin 64)) = true) ∧ (t.slSt ((3 : Fin 64)) = w_SlotsAreMeasuredAndProtected_4.slSt ((3 : Fin 64))) ∧ (t.slotx = w_SlotsAreMeasuredAndProtected_4.slotx) ∧ (t.stitches = w_SlotsAreMeasuredAndProtected_4.stitches))) = true := by decide +kernel

theorem test_SlotsAreMeasuredAndProtected_5 :
    (NoRung unitA) ∧
    ((unitA.slot ((3 : Fin 64))).missed < 10) ∧
    after (exec (.slotMeasLoss ((3 : Fin 64))) unitA) (fun t => decide ((t = unitA))) = true := by decide +kernel

def w_SlotsAreMeasuredAndProtected_6 : State :=
    (unitA.updSlot 3 (fun x => { x with adopted := true }))

theorem test_SlotsAreMeasuredAndProtected_6 :
    (Plain w_SlotsAreMeasuredAndProtected_6 (.svc ((3 : Fin 64))) (({ owner := false, xoff := false, seq := 0 } : UpHdr))) ∧
    (w_SlotsAreMeasuredAndProtected_6.faults.insts = []) ∧
    ((w_SlotsAreMeasuredAndProtected_6.slot ((3 : Fin 64))).adopted = true) ∧
    ((({ interval := 0, cur := [1, 2], vol := [3, 4], gateOn := true, gateHigh := true, present := true, tripped := false } : WorkerCell)).tripped = false) ∧
    after (exec (.workerSampleRx ((3 : Fin 64)) (({ owner := false, xoff := false, seq := 0 } : UpHdr)) (({ interval := 0, cur := [1, 2], vol := [3, 4], gateOn := true, gateHigh := true, present := true, tripped := false } : WorkerCell))) w_SlotsAreMeasuredAndProtected_6) (fun t => decide (((t.slot ((3 : Fin 64))).cell = some ((({ interval := 0, cur := [1, 2], vol := [3, 4], gateOn := true, gateHigh := true, present := true, tripped := false } : WorkerCell)).cur.map (·.toNat), (({ interval := 0, cur := [1, 2], vol := [3, 4], gateOn := true, gateHigh := true, present := true, tripped := false } : WorkerCell)).vol.map (·.toNat))) ∧ ((t.slot ((3 : Fin 64))).gateOn = (({ interval := 0, cur := [1, 2], vol := [3, 4], gateOn := true, gateHigh := true, present := true, tripped := false } : WorkerCell)).gateOn ∧ (t.slot ((3 : Fin 64))).gateHigh = (({ interval := 0, cur := [1, 2], vol := [3, 4], gateOn := true, gateHigh := true, present := true, tripped := false } : WorkerCell)).gateHigh ∧ (t.slot ((3 : Fin 64))).present = (({ interval := 0, cur := [1, 2], vol := [3, 4], gateOn := true, gateHigh := true, present := true, tripped := false } : WorkerCell)).present) ∧ ((t.slot ((3 : Fin 64))).presentSince = (if (({ interval := 0, cur := [1, 2], vol := [3, 4], gateOn := true, gateHigh := true, present := true, tripped := false } : WorkerCell)).present then some ((w_SlotsAreMeasuredAndProtected_6.slot ((3 : Fin 64))).presentSince.getD w_SlotsAreMeasuredAndProtected_6.ct) else none)) ∧ ((t.slot ((3 : Fin 64))).absentSince = (if (({ interval := 0, cur := [1, 2], vol := [3, 4], gateOn := true, gateHigh := true, present := true, tripped := false } : WorkerCell)).present then none else some ((w_SlotsAreMeasuredAndProtected_6.slot ((3 : Fin 64))).absentSince.getD w_SlotsAreMeasuredAndProtected_6.ct))) ∧ (t.regs = w_SlotsAreMeasuredAndProtected_6.regs) ∧ (t.stitches = w_SlotsAreMeasuredAndProtected_6.stitches) ∧ (t.mem = w_SlotsAreMeasuredAndProtected_6.mem))) = true := by decide +kernel

theorem test_SlotsAreMeasuredAndProtected_7 :
    (Plain unitA (.svc ((3 : Fin 64))) (({ owner := false, xoff := false, seq := 0 } : UpHdr))) ∧
    (unitA.faults.insts = []) ∧
    (unitA.swTouched = []) ∧
    (unitA.active = true) ∧
    ((unitA.slot ((3 : Fin 64))).adopted = false) ∧
    ((({ interval := 0, cur := [1, 2], vol := [3, 4], gateOn := true, gateHigh := true, present := true, tripped := false } : WorkerCell)).present = true ∧ (({ interval := 0, cur := [1, 2], vol := [3, 4], gateOn := true, gateHigh := true, present := true, tripped := false } : WorkerCell)).tripped = false ∧ (({ interval := 0, cur := [1, 2], vol := [3, 4], gateOn := true, gateHigh := true, present := true, tripped := false } : WorkerCell)).gateOn = true) ∧
    after (exec (.workerSampleRx ((3 : Fin 64)) (({ owner := false, xoff := false, seq := 0 } : UpHdr)) (({ interval := 0, cur := [1, 2], vol := [3, 4], gateOn := true, gateHigh := true, present := true, tripped := false } : WorkerCell))) unitA) (fun t => decide ((t.slSt ((3 : Fin 64)) = 2) ∧ ((t.slot ((3 : Fin 64))).step = 5 ∧ (t.slot ((3 : Fin 64))).startupBound = true) ∧ (t.get (SLOT_STATE_gate ((3 : Fin 64))) = 1) ∧ (Counted unitA t RST_CNT_adopted) ∧ (t.stitches = unitA.stitches) ∧ (t.mem = unitA.mem))) = true := by decide +kernel

theorem test_SlotsAreMeasuredAndProtected_8 :
    (InOrder ((unitA.setF (SLOT_STATE_state 3) 3)) (.svc ((3 : Fin 64))) (({ owner := false, xoff := false, seq := 0 } : UpHdr))) ∧
    (MayRaise ((unitA.setF (SLOT_STATE_state 3) 3)) .slotFastTrip ((3 : Fin 64))) ∧
    (((unitA.setF (SLOT_STATE_state 3) 3)).swTouched = []) ∧
    (((unitA.setF (SLOT_STATE_state 3) 3)).faults.insts.length < 2047) ∧
    ((((unitA.setF (SLOT_STATE_state 3) 3)).kindCfg .seqStartFail ((3 : Fin 64))).1 ≠ 3) ∧
    (((unitA.setF (SLOT_STATE_state 3) 3)).slSt ((3 : Fin 64)) = 2 ∨ ((unitA.setF (SLOT_STATE_state 3) 3)).slSt ((3 : Fin 64)) = 3 ∨ ((unitA.setF (SLOT_STATE_state 3) 3)).slSt ((3 : Fin 64)) = 4 ∨ ((unitA.setF (SLOT_STATE_state 3) 3)).slSt ((3 : Fin 64)) = 6) ∧
    after (exec (.workerTrip ((3 : Fin 64)) (({ owner := false, xoff := false, seq := 0 } : UpHdr)) ((90000 : Word))) ((unitA.setF (SLOT_STATE_state 3) 3))) (fun t => decide ((t.slSt ((3 : Fin 64)) = 5) ∧ (t.get (SLOT_STATE_reason ((3 : Fin 64))) = 9) ∧ (t.get (SLOT_STATE_gate ((3 : Fin 64))) = 0) ∧ (t.get (SLOT_STATE_warn ((3 : Fin 64))) = 1) ∧ (t.get (SLOT_STATE_fence_seen ((3 : Fin 64))) = 1) ∧ (t.get (PORT_EPOCH_epoch ((3 : Fin 64))) = 0) ∧ (t.shelf = ((unitA.setF (SLOT_STATE_state 3) 3)).shelf) ∧ (t.eph = ((unitA.setF (SLOT_STATE_state 3) 3)).eph) ∧ (t.raised .slotFastTrip ((3 : Fin 64)) = true) ∧ ((t.slot ((3 : Fin 64))).tripped = true) ∧ (Counted ((unitA.setF (SLOT_STATE_state 3) 3)) t (SLOT_CNT_fast ((3 : Fin 64)))))) = true := by decide +kernel

def w_SlotsAreMeasuredAndProtected_9 : State :=
    { ((unitA.setF (SLOT_STATE_state 3) 2).setF (SLOT_STATE_gate 3) 1) with ct := 8000000 }

theorem test_SlotsAreMeasuredAndProtected_9 :
    (MayRaise w_SlotsAreMeasuredAndProtected_9 .slotGate ((3 : Fin 64))) ∧
    (w_SlotsAreMeasuredAndProtected_9.faults.insts.length < 2047) ∧
    ((w_SlotsAreMeasuredAndProtected_9.kindCfg .seqStartFail ((3 : Fin 64))).1 ≠ 3) ∧
    (w_SlotsAreMeasuredAndProtected_9.slSt ((3 : Fin 64)) = 2 ∨ w_SlotsAreMeasuredAndProtected_9.slSt ((3 : Fin 64)) = 3 ∨ w_SlotsAreMeasuredAndProtected_9.slSt ((3 : Fin 64)) = 4 ∨ w_SlotsAreMeasuredAndProtected_9.slSt ((3 : Fin 64)) = 6) ∧
    (w_SlotsAreMeasuredAndProtected_9.get (SLOT_STATE_gate ((3 : Fin 64))) = 1) ∧
    ((w_SlotsAreMeasuredAndProtected_9.slot ((3 : Fin 64))).gateHigh = false) ∧
    ((w_SlotsAreMeasuredAndProtected_9.slot ((3 : Fin 64))).gateSince + ms (w_SlotsAreMeasuredAndProtected_9.slot ((3 : Fin 64))).gateRiseMs ≤ w_SlotsAreMeasuredAndProtected_9.ct) ∧
    after (exec (.gateRiseTimeout ((3 : Fin 64))) w_SlotsAreMeasuredAndProtected_9) (fun t => decide ((t.slSt ((3 : Fin 64)) = 5) ∧ (t.get (SLOT_STATE_reason ((3 : Fin 64))) = 1) ∧ (t.get (SLOT_STATE_gate ((3 : Fin 64))) = 0) ∧ (t.get (SLOT_STATE_warn ((3 : Fin 64))) = 1) ∧ (t.get (SLOT_STATE_fence_seen ((3 : Fin 64))) = 1) ∧ (t.get (PORT_EPOCH_epoch ((3 : Fin 64))) = 0) ∧ (t.shelf = w_SlotsAreMeasuredAndProtected_9.shelf) ∧ (t.eph = w_SlotsAreMeasuredAndProtected_9.eph) ∧ (t.raised .slotGate ((3 : Fin 64)) = true))) = true := by decide +kernel

def w_SlotsAreMeasuredAndProtected_10 : State :=
    (((unitA.updSlot 3 (fun x => { x with changed := true })).setF (SVC_STATUS_link_state 3) 2).setF (SLOT_STATE_gate 3) 1)

theorem test_SlotsAreMeasuredAndProtected_10 :
    (w_SlotsAreMeasuredAndProtected_10.ownsPort ((3 : Fin 64)) = true) ∧
    (w_SlotsAreMeasuredAndProtected_10.get (SVC_STATUS_link_state ((3 : Fin 64))) = 2) ∧
    (w_SlotsAreMeasuredAndProtected_10.pair.outputsOff = false) ∧
    ((w_SlotsAreMeasuredAndProtected_10.slot ((3 : Fin 64))).changed = true ∨ (w_SlotsAreMeasuredAndProtected_10.svc ((3 : Fin 64))).sentAt + us 10 ≤ w_SlotsAreMeasuredAndProtected_10.ct) ∧
    ((w_SlotsAreMeasuredAndProtected_10.svc ((3 : Fin 64))).rel.backlog = []) ∧
    after (exec (.svcCommandTx ((3 : Fin 64))) w_SlotsAreMeasuredAndProtected_10) (fun t => decide ((t.out = w_SlotsAreMeasuredAndProtected_10.out ++ [.svcCommand ((3 : Fin 64)) (w_SlotsAreMeasuredAndProtected_10.is (SLOT_STATE_gate ((3 : Fin 64)))) (w_SlotsAreMeasuredAndProtected_10.is (SLOT_STATE_warn ((3 : Fin 64)))) (w_SlotsAreMeasuredAndProtected_10.is (SLOT_STATE_throttle ((3 : Fin 64)))) (w_SlotsAreMeasuredAndProtected_10.slot ((3 : Fin 64))).clearTrip (w_SlotsAreMeasuredAndProtected_10.slot ((3 : Fin 64))).tripMa]) ∧ ((t.slot ((3 : Fin 64))).changed = false ∧ (t.slot ((3 : Fin 64))).clearTrip = false) ∧ (t.regs = w_SlotsAreMeasuredAndProtected_10.regs) ∧ (t.mem = w_SlotsAreMeasuredAndProtected_10.mem))) = true := by decide +kernel

theorem test_SlotsAreMeasuredAndProtected_11 :
    (unit4.ownsPort ((3 : Fin 64)) = false) ∧
    after (exec (.svcCommandTx ((3 : Fin 64))) unit4) (fun t => decide ((t = unit4))) = true := by decide +kernel

def w_SlotsAreMeasuredAndProtected_12 : State :=
    { (unitA.updSlot 3 (fun x => { x with presentSince := some 0 })) with ct := 160000000 }

theorem test_SlotsAreMeasuredAndProtected_12 :
    ((w_SlotsAreMeasuredAndProtected_12.slot ((3 : Fin 64))).presentSince = some 0) ∧
    (0 + ms 100 ≤ w_SlotsAreMeasuredAndProtected_12.ct) ∧
    (w_SlotsAreMeasuredAndProtected_12.slSt ((3 : Fin 64)) = 0) ∧
    (w_SlotsAreMeasuredAndProtected_12.pattern.autoCast.getLsbD ((3 : Fin 64)) = false) ∧
    after (exec (.slotPresent ((3 : Fin 64))) w_SlotsAreMeasuredAndProtected_12) (fun t => decide ((t.slSt ((3 : Fin 64)) = 1) ∧ (t.get (SLOT_STATE_reason ((3 : Fin 64))) = 0) ∧ (t.stitches = w_SlotsAreMeasuredAndProtected_12.stitches) ∧ (t.mem = w_SlotsAreMeasuredAndProtected_12.mem))) = true := by decide +kernel

def w_SlotsAreMeasuredAndProtected_13 : State :=
    { (unitA.updSlot 3 (fun x => { x with presentSince := some 0 })) with ct := 160000000, pattern := { autoCast := 8 } }

theorem test_SlotsAreMeasuredAndProtected_13 :
    ((w_SlotsAreMeasuredAndProtected_13.slot ((3 : Fin 64))).presentSince = some 0) ∧
    (0 + ms 100 ≤ w_SlotsAreMeasuredAndProtected_13.ct) ∧
    (w_SlotsAreMeasuredAndProtected_13.slSt ((3 : Fin 64)) = 0) ∧
    (w_SlotsAreMeasuredAndProtected_13.pattern.autoCast.getLsbD ((3 : Fin 64)) = true) ∧
    (w_SlotsAreMeasuredAndProtected_13.get CHASSIS_PWR_state = 0) ∧
    (w_SlotsAreMeasuredAndProtected_13.ownsPort ((3 : Fin 64)) = true) ∧
    after (exec (.slotPresent ((3 : Fin 64))) w_SlotsAreMeasuredAndProtected_13) (fun t => decide ((t.slSt ((3 : Fin 64)) = 2) ∧ ((t.slot ((3 : Fin 64))).step = 1) ∧ (t.stitches = w_SlotsAreMeasuredAndProtected_13.stitches) ∧ (t.mem = w_SlotsAreMeasuredAndProtected_13.mem))) = true := by decide +kernel

def w_SlotsAreMeasuredAndProtected_14 : State :=
    { ((((unitA.setF (SLOT_STATE_state 3) 3).updSlot 3 (fun x => { x with absentSince := some 0 })).setF (SLOT_STATE_gate 3) 1).setF (PORT_EPOCH_epoch 3) 9) with ct := 1600000 }

theorem test_SlotsAreMeasuredAndProtected_14 :
    ((w_SlotsAreMeasuredAndProtected_14.slot ((3 : Fin 64))).absentSince = some 0) ∧
    (0 + ms 1 ≤ w_SlotsAreMeasuredAndProtected_14.ct) ∧
    (w_SlotsAreMeasuredAndProtected_14.slSt ((3 : Fin 64)) = 2 ∨ w_SlotsAreMeasuredAndProtected_14.slSt ((3 : Fin 64)) = 3 ∨ w_SlotsAreMeasuredAndProtected_14.slSt ((3 : Fin 64)) = 4) ∧
    (MayRaise w_SlotsAreMeasuredAndProtected_14 .slotSurprise ((3 : Fin 64))) ∧
    (w_SlotsAreMeasuredAndProtected_14.faults.insts.length < 2047) ∧
    ((w_SlotsAreMeasuredAndProtected_14.kindCfg .seqStartFail ((3 : Fin 64))).1 ≠ 3) ∧
    after (exec (.slotSurprise ((3 : Fin 64))) w_SlotsAreMeasuredAndProtected_14) (fun t => decide ((t.slSt ((3 : Fin 64)) = 0) ∧ (t.get (SLOT_STATE_gate ((3 : Fin 64))) = 0 ∧ t.get (SLOT_STATE_warn ((3 : Fin 64))) = 0) ∧ (t.get (PORT_EPOCH_epoch ((3 : Fin 64))) = 0) ∧ (t.raised .slotSurprise ((3 : Fin 64)) = true) ∧ (t.shelf = w_SlotsAreMeasuredAndProtected_14.shelf) ∧ (t.eph = w_SlotsAreMeasuredAndProtected_14.eph))) = true := by decide +kernel

def w_SlotsAreMeasuredAndProtected_15 : State :=
    { (((unitA.setF (SLOT_STATE_state 3) 2).updSlot 3 (fun x => { x with step := 1 })).setF HU_ALLOW_v 9000000) with pattern := { rated := [(3, 4000000)] } }

theorem test_SlotsAreMeasuredAndProtected_15 :
    (NoRung w_SlotsAreMeasuredAndProtected_15) ∧
    (w_SlotsAreMeasuredAndProtected_15.slSt ((3 : Fin 64)) = 2) ∧
    (w_SlotsAreMeasuredAndProtected_15.ownsPort ((3 : Fin 64)) = true) ∧
    ((w_SlotsAreMeasuredAndProtected_15.slot ((3 : Fin 64))).step = 1) ∧
    (Tbl.get w_SlotsAreMeasuredAndProtected_15.pattern.rated ((3 : Fin 64)) 0 ≠ 0) ∧
    (w_SlotsAreMeasuredAndProtected_15.hupNormal = true) ∧
    (w_SlotsAreMeasuredAndProtected_15.get HU_LOAD_v + Tbl.get w_SlotsAreMeasuredAndProtected_15.pattern.rated ((3 : Fin 64)) 0 ≤ w_SlotsAreMeasuredAndProtected_15.get HU_ALLOW_v) ∧
    (w_SlotsAreMeasuredAndProtected_15.retiredNow (w_SlotsAreMeasuredAndProtected_15.svc ((3 : Fin 64))).retired (w_SlotsAreMeasuredAndProtected_15.get (SVC_EPOCH_epoch ((3 : Fin 64))) % 255 + 1) (w_SlotsAreMeasuredAndProtected_15.get (SVC_EPOCH_epoch ((3 : Fin 64)))) = false) ∧
    after (exec (.castOnResume ((3 : Fin 64))) w_SlotsAreMeasuredAndProtected_15) (fun t => decide (((t.slot ((3 : Fin 64))).step = 2 ∧ (t.slot ((3 : Fin 64))).stepAt = w_SlotsAreMeasuredAndProtected_15.ct) ∧ ((t.svc ((3 : Fin 64))).epochNext = some (w_SlotsAreMeasuredAndProtected_15.get (SVC_EPOCH_epoch ((3 : Fin 64))) % 255 + 1, w_SlotsAreMeasuredAndProtected_15.ct + us 20)) ∧ (t.regs = w_SlotsAreMeasuredAndProtected_15.regs) ∧ (t.stitches = w_SlotsAreMeasuredAndProtected_15.stitches) ∧ (t.mem = w_SlotsAreMeasuredAndProtected_15.mem))) = true := by decide +kernel

def w_SlotsAreMeasuredAndProtected_16 : State :=
    (((unitA.setF (SLOT_STATE_state 3) 2).updSlot 3 (fun x => { x with step := 2, haveDesc := true })).setF (SVC_STATUS_link_state 3) 2)

theorem test_SlotsAreMeasuredAndProtected_16 :
    (NoRung w_SlotsAreMeasuredAndProtected_16) ∧
    (w_SlotsAreMeasuredAndProtected_16.slSt ((3 : Fin 64)) = 2) ∧
    (w_SlotsAreMeasuredAndProtected_16.ownsPort ((3 : Fin 64)) = true) ∧
    ((w_SlotsAreMeasuredAndProtected_16.slot ((3 : Fin 64))).step = 2) ∧
    (w_SlotsAreMeasuredAndProtected_16.hupNormal = true) ∧
    (w_SlotsAreMeasuredAndProtected_16.get (SVC_STATUS_link_state ((3 : Fin 64))) = 2) ∧
    ((w_SlotsAreMeasuredAndProtected_16.svc ((3 : Fin 64))).epochNext = none) ∧
    ((w_SlotsAreMeasuredAndProtected_16.slot ((3 : Fin 64))).haveDesc = true) ∧
    after (exec (.castOnResume ((3 : Fin 64))) w_SlotsAreMeasuredAndProtected_16) (fun t => decide (((t.slot ((3 : Fin 64))).step = 3) ∧ (t.get (SLOT_STATE_gate ((3 : Fin 64))) = 1) ∧ ((t.slot ((3 : Fin 64))).gateSince = w_SlotsAreMeasuredAndProtected_16.ct ∧ (t.slot ((3 : Fin 64))).changed = true) ∧ (t.stitches = w_SlotsAreMeasuredAndProtected_16.stitches) ∧ (t.mem = w_SlotsAreMeasuredAndProtected_16.mem))) = true := by decide +kernel

def w_SlotsAreMeasuredAndProtected_17 : State :=
    ((unitA.setF (SLOT_STATE_state 3) 2).updSlot 3 (fun x => { x with step := 3, gateHigh := true }))

theorem test_SlotsAreMeasuredAndProtected_17 :
    (NoRung w_SlotsAreMeasuredAndProtected_17) ∧
    (w_SlotsAreMeasuredAndProtected_17.slSt ((3 : Fin 64)) = 2) ∧
    (w_SlotsAreMeasuredAndProtected_17.ownsPort ((3 : Fin 64)) = true) ∧
    ((w_SlotsAreMeasuredAndProtected_17.slot ((3 : Fin 64))).step = 3) ∧
    ((w_SlotsAreMeasuredAndProtected_17.slot ((3 : Fin 64))).gateHigh = true) ∧
    after (exec (.castOnResume ((3 : Fin 64))) w_SlotsAreMeasuredAndProtected_17) (fun t => decide (((t.slot ((3 : Fin 64))).step = 4) ∧ (t.regs = w_SlotsAreMeasuredAndProtected_17.regs) ∧ (t.stitches = w_SlotsAreMeasuredAndProtected_17.stitches) ∧ (t.mem = w_SlotsAreMeasuredAndProtected_17.mem))) = true := by decide +kernel

def w_SlotsAreMeasuredAndProtected_18 : State :=
    { ((unitA.setF (SLOT_STATE_state 3) 2).updSlot 3 (fun x => { x with step := 2 })) with ct := 16000000 }

theorem test_SlotsAreMeasuredAndProtected_18 :
    (NoRung w_SlotsAreMeasuredAndProtected_18) ∧
    (w_SlotsAreMeasuredAndProtected_18.faults.insts.length < 2047) ∧
    ((w_SlotsAreMeasuredAndProtected_18.kindCfg .seqStartFail ((3 : Fin 64))).1 ≠ 3) ∧
    (w_SlotsAreMeasuredAndProtected_18.slSt ((3 : Fin 64)) = 2) ∧
    ((w_SlotsAreMeasuredAndProtected_18.slot ((3 : Fin 64))).step = 2) ∧
    ((w_SlotsAreMeasuredAndProtected_18.slot ((3 : Fin 64))).stepAt + ms 10 ≤ w_SlotsAreMeasuredAndProtected_18.ct) ∧
    (w_SlotsAreMeasuredAndProtected_18.hupNormal = true) ∧
    after (exec (.castOnStepTimeout ((3 : Fin 64))) w_SlotsAreMeasuredAndProtected_18) (fun t => decide ((t.slSt ((3 : Fin 64)) = 5) ∧ (t.get (SLOT_STATE_reason ((3 : Fin 64))) = 10) ∧ (t.get (SLOT_STATE_gate ((3 : Fin 64))) = 0) ∧ (t.get (SLOT_STATE_warn ((3 : Fin 64))) = 1) ∧ (t.get (SLOT_STATE_fence_seen ((3 : Fin 64))) = 1) ∧ (t.get (PORT_EPOCH_epoch ((3 : Fin 64))) = 0) ∧ (t.shelf = w_SlotsAreMeasuredAndProtected_18.shelf) ∧ (t.eph = w_SlotsAreMeasuredAndProtected_18.eph))) = true := by decide +kernel

def w_SlotsAreMeasuredAndProtected_19 : State :=
    ((unitA.setF (SLOT_STATE_state 3) 4).updSk 7 (fun x => { x with known := true, slot := 3, engine := some 2, job := { x.job with skeinState := 2 } }))

theorem test_SlotsAreMeasuredAndProtected_19 :
    (NoRung w_SlotsAreMeasuredAndProtected_19) ∧
    ((w_SlotsAreMeasuredAndProtected_19.sk ((7 : Fin 2048))).known = true) ∧
    (w_SlotsAreMeasuredAndProtected_19.slSt (w_SlotsAreMeasuredAndProtected_19.sk ((7 : Fin 2048))).slot = 4) ∧
    ((w_SlotsAreMeasuredAndProtected_19.slot (w_SlotsAreMeasuredAndProtected_19.sk ((7 : Fin 2048))).slot).unbindAt ≤ w_SlotsAreMeasuredAndProtected_19.ct) ∧
    (w_SlotsAreMeasuredAndProtected_19.skSt ((7 : Fin 2048)) = 1 ∨ w_SlotsAreMeasuredAndProtected_19.skSt ((7 : Fin 2048)) = 2 ∨ w_SlotsAreMeasuredAndProtected_19.skSt ((7 : Fin 2048)) = 3) ∧
    ((w_SlotsAreMeasuredAndProtected_19.sk ((7 : Fin 2048))).engine.isSome = true) ∧
    ((w_SlotsAreMeasuredAndProtected_19.sk ((7 : Fin 2048))).powerCmd = none) ∧
    after (exec (.unbindTimeout ((7 : Fin 2048))) w_SlotsAreMeasuredAndProtected_19) (fun t => decide (((t.sk ((7 : Fin 2048))).loads = (w_SlotsAreMeasuredAndProtected_19.sk ((7 : Fin 2048))).loads ++ [(.power 0, none)]) ∧ (t.regs = w_SlotsAreMeasuredAndProtected_19.regs) ∧ (t.stitches = w_SlotsAreMeasuredAndProtected_19.stitches) ∧ (t.mem = w_SlotsAreMeasuredAndProtected_19.mem))) = true := by decide +kernel

def w_SlotCommandsTakeEffect_1 : State :=
    (withCmd ((unitA.setF (SLOT_STATE_state 3) 1)) 256 9 0xc01 [3, 0])

theorem test_SlotCommandsTakeEffect_1 :
    (Ready w_SlotCommandsTakeEffect_1 ((256 : Mb)) ((9 : Fin 64)) 0xC01) ∧
    ((u8 (payloadOf w_SlotCommandsTakeEffect_1 ((256 : Mb)) ((9 : Fin 64))) 0) < 64) ∧
    (u8 (payloadOf w_SlotCommandsTakeEffect_1 ((256 : Mb)) ((9 : Fin 64))) 1 = 0) ∧
    (w_SlotCommandsTakeEffect_1.ownsPort (u8 (payloadOf w_SlotCommandsTakeEffect_1 ((256 : Mb)) ((9 : Fin 64))) 0) = true) ∧
    ((w_SlotCommandsTakeEffect_1.slot (u8 (payloadOf w_SlotCommandsTakeEffect_1 ((256 : Mb)) ((9 : Fin 64))) 0)).ctrl = none) ∧
    (w_SlotCommandsTakeEffect_1.slSt (u8 (payloadOf w_SlotCommandsTakeEffect_1 ((256 : Mb)) ((9 : Fin 64))) 0) = 1) ∧
    (w_SlotCommandsTakeEffect_1.get CHASSIS_PWR_state = 0) ∧
    after (exec (.slotCtrl ((256 : Mb)) ((9 : Fin 64))) w_SlotCommandsTakeEffect_1) (fun t => decide ((t.slSt (u8 (payloadOf w_SlotCommandsTakeEffect_1 ((256 : Mb)) ((9 : Fin 64))) 0) = 2) ∧ ((t.slot (u8 (payloadOf w_SlotCommandsTakeEffect_1 ((256 : Mb)) ((9 : Fin 64))) 0)).step = 1) ∧ ((t.slot (u8 (payloadOf w_SlotCommandsTakeEffect_1 ((256 : Mb)) ((9 : Fin 64))) 0)).ctrl = some (((256 : Mb)).val, ((9 : Fin 64)).val, 0)) ∧ (t.stitches = w_SlotCommandsTakeEffect_1.stitches) ∧ (t.mem = w_SlotCommandsTakeEffect_1.mem))) = true := by decide +kernel

def w_SlotCommandsTakeEffect_2 : State :=
    (withCmd (((unitA.setF (SLOT_STATE_state 3) 3).setF (SEQ_STATE_state 3) 2)) 256 9 0xc01 [3, 1])

theorem test_SlotCommandsTakeEffect_2 :
    (Ready w_SlotCommandsTakeEffect_2 ((256 : Mb)) ((9 : Fin 64)) 0xC01) ∧
    ((u8 (payloadOf w_SlotCommandsTakeEffect_2 ((256 : Mb)) ((9 : Fin 64))) 0) < 64) ∧
    (u8 (payloadOf w_SlotCommandsTakeEffect_2 ((256 : Mb)) ((9 : Fin 64))) 1 = 1) ∧
    (w_SlotCommandsTakeEffect_2.ownsPort (u8 (payloadOf w_SlotCommandsTakeEffect_2 ((256 : Mb)) ((9 : Fin 64))) 0) = true) ∧
    ((w_SlotCommandsTakeEffect_2.slot (u8 (payloadOf w_SlotCommandsTakeEffect_2 ((256 : Mb)) ((9 : Fin 64))) 0)).ctrl = none) ∧
    (w_SlotCommandsTakeEffect_2.slSt (u8 (payloadOf w_SlotCommandsTakeEffect_2 ((256 : Mb)) ((9 : Fin 64))) 0) = 3) ∧
    (w_SlotCommandsTakeEffect_2.seqSt (u8 (payloadOf w_SlotCommandsTakeEffect_2 ((256 : Mb)) ((9 : Fin 64))) 0) = 2) ∧
    after (exec (.slotCtrl ((256 : Mb)) ((9 : Fin 64))) w_SlotCommandsTakeEffect_2) (fun t => decide ((t.slSt (u8 (payloadOf w_SlotCommandsTakeEffect_2 ((256 : Mb)) ((9 : Fin 64))) 0) = 4) ∧ (t.seqSt (u8 (payloadOf w_SlotCommandsTakeEffect_2 ((256 : Mb)) ((9 : Fin 64))) 0) = 3) ∧ (t.get (SLOT_STATE_warn (u8 (payloadOf w_SlotCommandsTakeEffect_2 ((256 : Mb)) ((9 : Fin 64))) 0)) = 1) ∧ ((t.slot (u8 (payloadOf w_SlotCommandsTakeEffect_2 ((256 : Mb)) ((9 : Fin 64))) 0)).ctrl = some (((256 : Mb)).val, ((9 : Fin 64)).val, 1) ∧ (t.slot (u8 (payloadOf w_SlotCommandsTakeEffect_2 ((256 : Mb)) ((9 : Fin 64))) 0)).unbindAt = w_SlotCommandsTakeEffect_2.ct + ms w_SlotCommandsTakeEffect_2.pattern.unbindMs) ∧ (t.stitches = w_SlotCommandsTakeEffect_2.stitches) ∧ (t.mem = w_SlotCommandsTakeEffect_2.mem))) = true := by decide +kernel

def w_SlotCommandsTakeEffect_3 : State :=
    (withCmd ((unitA.setF (SLOT_STATE_state 3) 5)) 256 9 0xc01 [3, 4])

theorem test_SlotCommandsTakeEffect_3 :
    (Ready w_SlotCommandsTakeEffect_3 ((256 : Mb)) ((9 : Fin 64)) 0xC01) ∧
    ((u8 (payloadOf w_SlotCommandsTakeEffect_3 ((256 : Mb)) ((9 : Fin 64))) 0) < 64) ∧
    (u8 (payloadOf w_SlotCommandsTakeEffect_3 ((256 : Mb)) ((9 : Fin 64))) 1 = 4) ∧
    (w_SlotCommandsTakeEffect_3.ownsPort (u8 (payloadOf w_SlotCommandsTakeEffect_3 ((256 : Mb)) ((9 : Fin 64))) 0) = true) ∧
    (w_SlotCommandsTakeEffect_3.slSt (u8 (payloadOf w_SlotCommandsTakeEffect_3 ((256 : Mb)) ((9 : Fin 64))) 0) = 5) ∧
    ((w_SlotCommandsTakeEffect_3.slot (u8 (payloadOf w_SlotCommandsTakeEffect_3 ((256 : Mb)) ((9 : Fin 64))) 0)).tripped = false) ∧
    ((w_SlotCommandsTakeEffect_3.slot (u8 (payloadOf w_SlotCommandsTakeEffect_3 ((256 : Mb)) ((9 : Fin 64))) 0)).gateHigh = false) ∧
    after (exec (.slotCtrl ((256 : Mb)) ((9 : Fin 64))) w_SlotCommandsTakeEffect_3) (fun t => decide ((t.slSt (u8 (payloadOf w_SlotCommandsTakeEffect_3 ((256 : Mb)) ((9 : Fin 64))) 0) = 1) ∧ (t.get (SLOT_STATE_reason (u8 (payloadOf w_SlotCommandsTakeEffect_3 ((256 : Mb)) ((9 : Fin 64))) 0)) = 0) ∧ (t.get (SLOT_STATE_warn (u8 (payloadOf w_SlotCommandsTakeEffect_3 ((256 : Mb)) ((9 : Fin 64))) 0)) = 0) ∧ (Done t ((256 : Mb)) ((9 : Fin 64)) (cmdOf w_SlotCommandsTakeEffect_3 ((256 : Mb)) ((9 : Fin 64))) 0 0 0) ∧ (t.stitches = w_SlotCommandsTakeEffect_3.stitches))) = true := by decide +kernel

def w_SlotCommandsTakeEffect_4 : State :=
    (withCmd (((unitA.setF (SLOT_STATE_state 3) 5).updSlot 3 (fun x => { x with tripped := true }))) 256 9 0xc01 [3, 4])

theorem test_SlotCommandsTakeEffect_4 :
    (Ready w_SlotCommandsTakeEffect_4 ((256 : Mb)) ((9 : Fin 64)) 0xC01) ∧
    ((u8 (payloadOf w_SlotCommandsTakeEffect_4 ((256 : Mb)) ((9 : Fin 64))) 0) < 64) ∧
    (u8 (payloadOf w_SlotCommandsTakeEffect_4 ((256 : Mb)) ((9 : Fin 64))) 1 = 4) ∧
    (w_SlotCommandsTakeEffect_4.ownsPort (u8 (payloadOf w_SlotCommandsTakeEffect_4 ((256 : Mb)) ((9 : Fin 64))) 0) = true) ∧
    (w_SlotCommandsTakeEffect_4.slSt (u8 (payloadOf w_SlotCommandsTakeEffect_4 ((256 : Mb)) ((9 : Fin 64))) 0) = 5) ∧
    ((w_SlotCommandsTakeEffect_4.slot (u8 (payloadOf w_SlotCommandsTakeEffect_4 ((256 : Mb)) ((9 : Fin 64))) 0)).tripped = true) ∧
    (Tail w_SlotCommandsTakeEffect_4 ((256 : Mb)) ((9 : Fin 64))) ∧
    after (exec (.slotCtrl ((256 : Mb)) ((9 : Fin 64))) w_SlotCommandsTakeEffect_4) (fun t => decide ((t.slSt (u8 (payloadOf w_SlotCommandsTakeEffect_4 ((256 : Mb)) ((9 : Fin 64))) 0) = 5) ∧ (Done t ((256 : Mb)) ((9 : Fin 64)) (cmdOf w_SlotCommandsTakeEffect_4 ((256 : Mb)) ((9 : Fin 64))) 9 (w_SlotCommandsTakeEffect_4.get (SLOT_STATE_reason (u8 (payloadOf w_SlotCommandsTakeEffect_4 ((256 : Mb)) ((9 : Fin 64))) 0))) 0) ∧ (t.stitches = w_SlotCommandsTakeEffect_4.stitches))) = true := by decide +kernel

def w_SlotCommandsTakeEffect_5 : State :=
    (withCmd ((unitA.setF (SLOT_STATE_state 3) 3)) 256 9 0xc01 [3, 3])

theorem test_SlotCommandsTakeEffect_5 :
    (Ready w_SlotCommandsTakeEffect_5 ((256 : Mb)) ((9 : Fin 64)) 0xC01) ∧
    ((u8 (payloadOf w_SlotCommandsTakeEffect_5 ((256 : Mb)) ((9 : Fin 64))) 0) < 64) ∧
    (u8 (payloadOf w_SlotCommandsTakeEffect_5 ((256 : Mb)) ((9 : Fin 64))) 1 = 3) ∧
    (w_SlotCommandsTakeEffect_5.ownsPort (u8 (payloadOf w_SlotCommandsTakeEffect_5 ((256 : Mb)) ((9 : Fin 64))) 0) = true) ∧
    ((w_SlotCommandsTakeEffect_5.slot (u8 (payloadOf w_SlotCommandsTakeEffect_5 ((256 : Mb)) ((9 : Fin 64))) 0)).ctrl = none) ∧
    (w_SlotCommandsTakeEffect_5.slSt (u8 (payloadOf w_SlotCommandsTakeEffect_5 ((256 : Mb)) ((9 : Fin 64))) 0) ≠ 6) ∧
    after (exec (.slotCtrl ((256 : Mb)) ((9 : Fin 64))) w_SlotCommandsTakeEffect_5) (fun t => decide ((Done t ((256 : Mb)) ((9 : Fin 64)) (cmdOf w_SlotCommandsTakeEffect_5 ((256 : Mb)) ((9 : Fin 64))) 0 0 0) ∧ (t.slotx = w_SlotCommandsTakeEffect_5.slotx) ∧ (t.stitches = w_SlotCommandsTakeEffect_5.stitches))) = true := by decide +kernel

def w_SlotCommandsTakeEffect_6 : State :=
    (withCmd (((unitA.setF (SLOT_STATE_state 3) 5).setF (SLOT_P_v 3) 77)) 256 9 0xc02 [3])

theorem test_SlotCommandsTakeEffect_6 :
    (Ready w_SlotCommandsTakeEffect_6 ((256 : Mb)) ((9 : Fin 64)) 0xC02) ∧
    (w_SlotCommandsTakeEffect_6.slotBad ((256 : Mb)) (u8 (payloadOf w_SlotCommandsTakeEffect_6 ((256 : Mb)) ((9 : Fin 64))) 0) = false) ∧
    after (exec (.slotQuery ((256 : Mb)) ((9 : Fin 64))) w_SlotCommandsTakeEffect_6) (fun t => decide ((Done t ((256 : Mb)) ((9 : Fin 64)) (cmdOf w_SlotCommandsTakeEffect_6 ((256 : Mb)) ((9 : Fin 64))) 0 (w_SlotCommandsTakeEffect_6.slSt (u8 (payloadOf w_SlotCommandsTakeEffect_6 ((256 : Mb)) ((9 : Fin 64))) 0) + 8 * w_SlotCommandsTakeEffect_6.get (SLOT_STATE_reason (u8 (payloadOf w_SlotCommandsTakeEffect_6 ((256 : Mb)) ((9 : Fin 64))) 0))) (w_SlotCommandsTakeEffect_6.get (SLOT_P_v (u8 (payloadOf w_SlotCommandsTakeEffect_6 ((256 : Mb)) ((9 : Fin 64))) 0)) + 2 ^ 32 * w_SlotCommandsTakeEffect_6.get (SLOT_I_v (u8 (payloadOf w_SlotCommandsTakeEffect_6 ((256 : Mb)) ((9 : Fin 64))) 0)))) ∧ (t.slotx = w_SlotCommandsTakeEffect_6.slotx) ∧ (t.stitches = w_SlotCommandsTakeEffect_6.stitches))) = true := by decide +kernel

def w_SlotCommandsTakeEffect_7 : State :=
    (withCmd ((unitA.updSlot 3 (fun x => { x with tripMaxA := 400 }))) 256 9 0xc03 [3, 0, 0, 0, 160, 134, 1, 0, 100, 0, 0, 0, 64, 13, 3, 0, 20, 0, 0, 0, 224, 147, 4, 0, 96, 234, 0, 0, 244, 1, 5, 0])

theorem test_SlotCommandsTakeEffect_7 :
    (Ready w_SlotCommandsTakeEffect_7 ((256 : Mb)) ((9 : Fin 64)) 0xC03) ∧
    ((u8 (payloadOf w_SlotCommandsTakeEffect_7 ((256 : Mb)) ((9 : Fin 64))) 0) < 64) ∧
    (w_SlotCommandsTakeEffect_7.ownsPort (u8 (payloadOf w_SlotCommandsTakeEffect_7 ((256 : Mb)) ((9 : Fin 64))) 0) = true) ∧
    (w_SlotCommandsTakeEffect_7.slot (u8 (payloadOf w_SlotCommandsTakeEffect_7 ((256 : Mb)) ((9 : Fin 64))) 0) = ((((unitA.updSlot 3 (fun x => { x with tripMaxA := 400 }))).slot 3))) ∧
    (u32 (payloadOf w_SlotCommandsTakeEffect_7 ((256 : Mb)) ((9 : Fin 64))) 4 < u32 (payloadOf w_SlotCommandsTakeEffect_7 ((256 : Mb)) ((9 : Fin 64))) 12 ∧ u32 (payloadOf w_SlotCommandsTakeEffect_7 ((256 : Mb)) ((9 : Fin 64))) 12 < u32 (payloadOf w_SlotCommandsTakeEffect_7 ((256 : Mb)) ((9 : Fin 64))) 20 ∧ u32 (payloadOf w_SlotCommandsTakeEffect_7 ((256 : Mb)) ((9 : Fin 64))) 20 ≤ ((((unitA.updSlot 3 (fun x => { x with tripMaxA := 400 }))).slot 3)).tripMaxA * 1000) ∧
    (1 ≤ u32 (payloadOf w_SlotCommandsTakeEffect_7 ((256 : Mb)) ((9 : Fin 64))) 8 ∧ u32 (payloadOf w_SlotCommandsTakeEffect_7 ((256 : Mb)) ((9 : Fin 64))) 8 ≤ 10000) ∧
    (10 ≤ u32 (payloadOf w_SlotCommandsTakeEffect_7 ((256 : Mb)) ((9 : Fin 64))) 16 ∧ u32 (payloadOf w_SlotCommandsTakeEffect_7 ((256 : Mb)) ((9 : Fin 64))) 16 ≤ 10000 ∧ u32 (payloadOf w_SlotCommandsTakeEffect_7 ((256 : Mb)) ((9 : Fin 64))) 16 % 10 = 0) ∧
    (0 < i32 (payloadOf w_SlotCommandsTakeEffect_7 ((256 : Mb)) ((9 : Fin 64))) 24) ∧
    (1 ≤ u16 (payloadOf w_SlotCommandsTakeEffect_7 ((256 : Mb)) ((9 : Fin 64))) 28 ∧ u16 (payloadOf w_SlotCommandsTakeEffect_7 ((256 : Mb)) ((9 : Fin 64))) 28 ≤ 5000) ∧
    (1 ≤ u8 (payloadOf w_SlotCommandsTakeEffect_7 ((256 : Mb)) ((9 : Fin 64))) 30 ∧ u8 (payloadOf w_SlotCommandsTakeEffect_7 ((256 : Mb)) ((9 : Fin 64))) 30 ≤ 50) ∧
    ((resv (payloadOf w_SlotCommandsTakeEffect_7 ((256 : Mb)) ((9 : Fin 64))) 1 4).2 = false ∧ (resv (payloadOf w_SlotCommandsTakeEffect_7 ((256 : Mb)) ((9 : Fin 64))) 31 32).2 = false) ∧
    after (exec (.slotSetBreaker ((256 : Mb)) ((9 : Fin 64))) w_SlotCommandsTakeEffect_7) (fun t => decide ((t.slot (u8 (payloadOf w_SlotCommandsTakeEffect_7 ((256 : Mb)) ((9 : Fin 64))) 0) = { ((((unitA.updSlot 3 (fun x => { x with tripMaxA := 400 }))).slot 3)) with ltMa := u32 (payloadOf w_SlotCommandsTakeEffect_7 ((256 : Mb)) ((9 : Fin 64))) 4, ltMs := u32 (payloadOf w_SlotCommandsTakeEffect_7 ((256 : Mb)) ((9 : Fin 64))) 8, stMa := u32 (payloadOf w_SlotCommandsTakeEffect_7 ((256 : Mb)) ((9 : Fin 64))) 12, stUs := u32 (payloadOf w_SlotCommandsTakeEffect_7 ((256 : Mb)) ((9 : Fin 64))) 16, tripMa := u32 (payloadOf w_SlotCommandsTakeEffect_7 ((256 : Mb)) ((9 : Fin 64))) 20, inrushMa := u32 (payloadOf w_SlotCommandsTakeEffect_7 ((256 : Mb)) ((9 : Fin 64))) 24, dropMax := u16 (payloadOf w_SlotCommandsTakeEffect_7 ((256 : Mb)) ((9 : Fin 64))) 28, gateRiseMs := u8 (payloadOf w_SlotCommandsTakeEffect_7 ((256 : Mb)) ((9 : Fin 64))) 30, changed := true }) ∧ (Done t ((256 : Mb)) ((9 : Fin 64)) (cmdOf w_SlotCommandsTakeEffect_7 ((256 : Mb)) ((9 : Fin 64))) 0 0 0) ∧ (t.stitches = w_SlotCommandsTakeEffect_7.stitches))) = true := by decide +kernel

def w_BudgetsAreJudgedAndEnforced_1 : State :=
    ((unitA.updBgt 256 (fun b => { b with floor := 3000000, ceil := 4600000 })).setF HU_ALLOW_v 9000000)

theorem test_BudgetsAreJudgedAndEnforced_1 :
    (w_BudgetsAreJudgedAndEnforced_1.shelfOn = true) ∧
    (NoRung w_BudgetsAreJudgedAndEnforced_1) ∧
    (w_BudgetsAreJudgedAndEnforced_1.faults.insts = []) ∧
    (sumInt (w_BudgetsAreJudgedAndEnforced_1.holders.map (fun h => (w_BudgetsAreJudgedAndEnforced_1.ceilOf h : Int))) ≤ w_BudgetsAreJudgedAndEnforced_1.get HU_ALLOW_v) ∧
    ((((256 : Mb)) : Nat) ∈ w_BudgetsAreJudgedAndEnforced_1.holders) ∧
    (w_BudgetsAreJudgedAndEnforced_1.ceilOf ((256 : Mb)) < 2 ^ 32) ∧
    (∀ h ∈ w_BudgetsAreJudgedAndEnforced_1.holders, (w_BudgetsAreJudgedAndEnforced_1.bgt h).floor ≤ w_BudgetsAreJudgedAndEnforced_1.ceilOf h ∧ w_BudgetsAreJudgedAndEnforced_1.get (BGT_STATE_cap_state h) = 0) ∧
    (∀ n : Fin 64, (w_BudgetsAreJudgedAndEnforced_1.slot n).cutAt = none) ∧
    after (exec (.capCompute) w_BudgetsAreJudgedAndEnforced_1) (fun t => decide ((t.get CAP_STATUS_stage = 0) ∧ (t.get (BGT_CAP_cap_mw ((256 : Mb))) = w_BudgetsAreJudgedAndEnforced_1.ceilOf ((256 : Mb))) ∧ (t.get (BGT_STATE_cap_state ((256 : Mb))) = 0) ∧ (t.faults.insts = []) ∧ (t.stitches = w_BudgetsAreJudgedAndEnforced_1.stitches) ∧ (t.mem = w_BudgetsAreJudgedAndEnforced_1.mem))) = true := by decide +kernel

theorem test_BudgetsAreJudgedAndEnforced_2 :
    (State.reset.shelfOn = false) ∧
    after (exec (.capCompute) State.reset) (fun t => decide ((t = State.reset))) = true := by decide +kernel

def w_BudgetsAreJudgedAndEnforced_3 : State :=
    ((unitA.updSlot 3 (fun x => { x with p1ms := List.replicate 100 2000 })).setF (BGT_CAP_cap_mw 256) 1000)

theorem test_BudgetsAreJudgedAndEnforced_3 :
    (w_BudgetsAreJudgedAndEnforced_3.shelfOn = true) ∧
    (w_BudgetsAreJudgedAndEnforced_3.assigned ((256 : Mb)) = true) ∧
    (w_BudgetsAreJudgedAndEnforced_3.get (BGT_STATE_cap_state ((256 : Mb))) = 0) ∧
    (0 ≤ w_BudgetsAreJudgedAndEnforced_3.power1ms ((256 : Mb)) ∧ w_BudgetsAreJudgedAndEnforced_3.power1ms ((256 : Mb)) < 2 ^ 32) ∧
    ((101 * w_BudgetsAreJudgedAndEnforced_3.get (BGT_CAP_cap_mw ((256 : Mb))) : Int) < 100 * w_BudgetsAreJudgedAndEnforced_3.power1ms ((256 : Mb))) ∧
    after (exec (.capJudge ((256 : Mb))) w_BudgetsAreJudgedAndEnforced_3) (fun t => decide ((t.get (BGT_POWER_power_mw ((256 : Mb))) = (w_BudgetsAreJudgedAndEnforced_3.power1ms ((256 : Mb))).toNat) ∧ (t.get (BGT_STATE_cap_state ((256 : Mb))) = 1) ∧ ((t.bgt ((256 : Mb))).reqId = ((w_BudgetsAreJudgedAndEnforced_3.bgt ((256 : Mb))).reqId + 1) % 2 ^ 32 ∧ (t.bgt ((256 : Mb))).deadline = w_BudgetsAreJudgedAndEnforced_3.ct + us (w_BudgetsAreJudgedAndEnforced_3.bgt ((256 : Mb))).graceUs) ∧ (t.get (VI_CAP_REQ_v ((256 : Mb))) = ((w_BudgetsAreJudgedAndEnforced_3.bgt ((256 : Mb))).reqId + 1) % 2 ^ 32) ∧ (t.out = w_BudgetsAreJudgedAndEnforced_3.out ++ [.msix ((256 : Mb)) 2]) ∧ (t.slotx = w_BudgetsAreJudgedAndEnforced_3.slotx) ∧ (t.mem = w_BudgetsAreJudgedAndEnforced_3.mem))) = true := by decide +kernel

theorem test_BudgetsAreJudgedAndEnforced_4 :
    (unitA.shelfOn = true) ∧
    (unitA.assigned ((256 : Mb)) = true) ∧
    (unitA.get (BGT_STATE_cap_state ((256 : Mb))) = 0) ∧
    (0 ≤ unitA.power1ms ((256 : Mb)) ∧ unitA.power1ms ((256 : Mb)) < 2 ^ 32) ∧
    (100 * unitA.power1ms ((256 : Mb)) ≤ (101 * unitA.get (BGT_CAP_cap_mw ((256 : Mb))) : Int)) ∧
    after (exec (.capJudge ((256 : Mb))) unitA) (fun t => decide ((t.get (BGT_POWER_power_mw ((256 : Mb))) = (unitA.power1ms ((256 : Mb))).toNat) ∧ (t.get (BGT_STATE_cap_state ((256 : Mb))) = 0) ∧ (t.budgets = unitA.budgets) ∧ (t.out = unitA.out) ∧ (t.mem = unitA.mem))) = true := by decide +kernel

def w_BudgetsAreJudgedAndEnforced_5 : State :=
    ((unitA.updSlot 3 (fun x => { x with p1ms := List.replicate 100 2000 })).setF (BGT_STATE_cap_state 256) 1)

theorem test_BudgetsAreJudgedAndEnforced_5 :
    (w_BudgetsAreJudgedAndEnforced_5.shelfOn = true) ∧
    (w_BudgetsAreJudgedAndEnforced_5.get (BGT_STATE_cap_state ((256 : Mb))) = 1) ∧
    ((w_BudgetsAreJudgedAndEnforced_5.bgt ((256 : Mb))).deadline ≤ w_BudgetsAreJudgedAndEnforced_5.ct) ∧
    (w_BudgetsAreJudgedAndEnforced_5.overCap ((256 : Mb)) = true) ∧
    (MayRaise w_BudgetsAreJudgedAndEnforced_5 .capEnforce ((256 : Mb))) ∧
    after (exec (.capGraceExpire ((256 : Mb))) w_BudgetsAreJudgedAndEnforced_5) (fun t => decide ((t.get (BGT_STATE_cap_state ((256 : Mb))) = 2) ∧ (t.get (BGT_STATE_enforced_seen ((256 : Mb))) = 1) ∧ ((t.bgt ((256 : Mb))).throttledAt = w_BudgetsAreJudgedAndEnforced_5.ct ∧ (t.bgt ((256 : Mb))).capAtThrottle = w_BudgetsAreJudgedAndEnforced_5.get (BGT_CAP_cap_mw ((256 : Mb)))) ∧ (∀ n ∈ w_BudgetsAreJudgedAndEnforced_5.holderSlots ((256 : Mb)), t.get (SLOT_STATE_throttle n) = 1) ∧ (t.raised .capEnforce ((256 : Mb)) = true) ∧ (t.stitches = w_BudgetsAreJudgedAndEnforced_5.stitches))) = true := by decide +kernel

theorem test_BudgetsAreJudgedAndEnforced_6 :
    (((unitA.setF (BGT_STATE_cap_state 256) 1)).shelfOn = true) ∧
    (((unitA.setF (BGT_STATE_cap_state 256) 1)).get (BGT_STATE_cap_state ((256 : Mb))) = 1) ∧
    ((((unitA.setF (BGT_STATE_cap_state 256) 1)).bgt ((256 : Mb))).deadline ≤ ((unitA.setF (BGT_STATE_cap_state 256) 1)).ct) ∧
    (((unitA.setF (BGT_STATE_cap_state 256) 1)).overCap ((256 : Mb)) = false) ∧
    after (exec (.capGraceExpire ((256 : Mb))) ((unitA.setF (BGT_STATE_cap_state 256) 1))) (fun t => decide ((t.get (BGT_STATE_cap_state ((256 : Mb))) = 0) ∧ (t.budgets = ((unitA.setF (BGT_STATE_cap_state 256) 1)).budgets) ∧ (t.slotx = ((unitA.setF (BGT_STATE_cap_state 256) 1)).slotx) ∧ (t.faults = ((unitA.setF (BGT_STATE_cap_state 256) 1)).faults) ∧ (t.mem = ((unitA.setF (BGT_STATE_cap_state 256) 1)).mem))) = true := by decide +kernel

def w_BudgetsAreJudgedAndEnforced_7 : State :=
    { ((unitA.updSlot 3 (fun x => { x with p1ms := List.replicate 100 2000 })).setF (BGT_STATE_cap_state 256) 2) with ct := 32000000 }

theorem test_BudgetsAreJudgedAndEnforced_7 :
    (w_BudgetsAreJudgedAndEnforced_7.shelfOn = true) ∧
    (w_BudgetsAreJudgedAndEnforced_7.get (BGT_STATE_cap_state ((256 : Mb))) = 2) ∧
    ((w_BudgetsAreJudgedAndEnforced_7.bgt ((256 : Mb))).throttledAt + ms (w_BudgetsAreJudgedAndEnforced_7.bgt ((256 : Mb))).enfMs ≤ w_BudgetsAreJudgedAndEnforced_7.ct) ∧
    (w_BudgetsAreJudgedAndEnforced_7.overCap ((256 : Mb)) = true) ∧
    (∀ n ∈ w_BudgetsAreJudgedAndEnforced_7.holderSlots ((256 : Mb)), w_BudgetsAreJudgedAndEnforced_7.pattern.cutEn.getLsbD n = false) ∧
    (MayRaise w_BudgetsAreJudgedAndEnforced_7 .capNoncomply ((256 : Mb))) ∧
    after (exec (.capEnfExpire ((256 : Mb))) w_BudgetsAreJudgedAndEnforced_7) (fun t => decide ((t.get (BGT_STATE_cap_state ((256 : Mb))) = 2) ∧ (t.raised .capNoncomply ((256 : Mb)) = true) ∧ (t.slotx = w_BudgetsAreJudgedAndEnforced_7.slotx) ∧ (t.stitches = w_BudgetsAreJudgedAndEnforced_7.stitches))) = true := by decide +kernel

def w_BudgetsAreJudgedAndEnforced_8 : State :=
    { (((unitA.setF (SLOT_STATE_state 3) 3).updSlot 3 (fun x => { x with p1ms := List.replicate 100 2000 })).setF (BGT_STATE_cap_state 256) 2) with ct := 32000000, pattern := { cutEn := 8 } }

theorem test_BudgetsAreJudgedAndEnforced_8 :
    (w_BudgetsAreJudgedAndEnforced_8.shelfOn = true) ∧
    (w_BudgetsAreJudgedAndEnforced_8.get (BGT_STATE_cap_state ((256 : Mb))) = 2) ∧
    ((w_BudgetsAreJudgedAndEnforced_8.bgt ((256 : Mb))).throttledAt + ms (w_BudgetsAreJudgedAndEnforced_8.bgt ((256 : Mb))).enfMs ≤ w_BudgetsAreJudgedAndEnforced_8.ct) ∧
    (w_BudgetsAreJudgedAndEnforced_8.overCap ((256 : Mb)) = true) ∧
    (∀ j ∈ w_BudgetsAreJudgedAndEnforced_8.holderSlots ((256 : Mb)), w_BudgetsAreJudgedAndEnforced_8.pattern.cutEn.getLsbD j = decide (j = ((3 : Fin 64)).val)) ∧
    (((3 : Fin 64)).val ∈ w_BudgetsAreJudgedAndEnforced_8.holderSlots ((256 : Mb))) ∧
    (w_BudgetsAreJudgedAndEnforced_8.slSt ((3 : Fin 64)) = 3) ∧
    after (exec (.capEnfExpire ((256 : Mb))) w_BudgetsAreJudgedAndEnforced_8) (fun t => decide ((t.get (BGT_STATE_cap_state ((256 : Mb))) = 3) ∧ (t.get (BGT_STATE_enforced_seen ((256 : Mb))) = 1) ∧ ((t.slot ((3 : Fin 64))).cutAt = some (w_BudgetsAreJudgedAndEnforced_8.ct + us w_BudgetsAreJudgedAndEnforced_8.shelf.warnLead)) ∧ (t.get (SLOT_STATE_warn ((3 : Fin 64))) = 1) ∧ (t.slSt ((3 : Fin 64)) = 3) ∧ (t.faults = w_BudgetsAreJudgedAndEnforced_8.faults) ∧ (t.mem = w_BudgetsAreJudgedAndEnforced_8.mem))) = true := by decide +kernel

def w_BudgetsAreJudgedAndEnforced_9 : State :=
    ((unitA.setF (SLOT_STATE_state 3) 3).updSlot 3 (fun x => { x with cutAt := some 0 }))

theorem test_BudgetsAreJudgedAndEnforced_9 :
    (NoRung w_BudgetsAreJudgedAndEnforced_9) ∧
    (w_BudgetsAreJudgedAndEnforced_9.faults.insts.length < 2047) ∧
    ((w_BudgetsAreJudgedAndEnforced_9.kindCfg .seqStartFail ((3 : Fin 64))).1 ≠ 3) ∧
    (w_BudgetsAreJudgedAndEnforced_9.slSt ((3 : Fin 64)) = 2 ∨ w_BudgetsAreJudgedAndEnforced_9.slSt ((3 : Fin 64)) = 3 ∨ w_BudgetsAreJudgedAndEnforced_9.slSt ((3 : Fin 64)) = 4 ∨ w_BudgetsAreJudgedAndEnforced_9.slSt ((3 : Fin 64)) = 6) ∧
    ((w_BudgetsAreJudgedAndEnforced_9.slot ((3 : Fin 64))).cutAt = some 0) ∧
    (0 ≤ w_BudgetsAreJudgedAndEnforced_9.ct) ∧
    after (exec (.cutLeadExpire ((3 : Fin 64))) w_BudgetsAreJudgedAndEnforced_9) (fun t => decide ((t.slSt ((3 : Fin 64)) = 5) ∧ (t.get (SLOT_STATE_reason ((3 : Fin 64))) = 11) ∧ (t.get (SLOT_STATE_gate ((3 : Fin 64))) = 0) ∧ (t.get (SLOT_STATE_warn ((3 : Fin 64))) = 1) ∧ (t.get (SLOT_STATE_fence_seen ((3 : Fin 64))) = 1) ∧ (t.get (PORT_EPOCH_epoch ((3 : Fin 64))) = 0) ∧ (t.shelf = w_BudgetsAreJudgedAndEnforced_9.shelf) ∧ (t.eph = w_BudgetsAreJudgedAndEnforced_9.eph) ∧ ((t.slot ((3 : Fin 64))).cutAt = none))) = true := by decide +kernel

def w_BudgetsAreJudgedAndEnforced_10 : State :=
    (withCmd (((unitA.updBgt 256 (fun b => { b with reqId := 5 })).setF (BGT_STATE_cap_state 256) 1)) 256 9 0xc10 [5])

theorem test_BudgetsAreJudgedAndEnforced_10 :
    (Ready w_BudgetsAreJudgedAndEnforced_10 ((256 : Mb)) ((9 : Fin 64)) 0xC10) ∧
    (u8 (payloadOf w_BudgetsAreJudgedAndEnforced_10 ((256 : Mb)) ((9 : Fin 64))) 4 = 0) ∧
    ((resv (payloadOf w_BudgetsAreJudgedAndEnforced_10 ((256 : Mb)) ((9 : Fin 64))) 5 8).2 = false) ∧
    ((w_BudgetsAreJudgedAndEnforced_10.bgt ((256 : Mb))).reqId = u32 (payloadOf w_BudgetsAreJudgedAndEnforced_10 ((256 : Mb)) ((9 : Fin 64))) 0) ∧
    (w_BudgetsAreJudgedAndEnforced_10.get (BGT_STATE_cap_state ((256 : Mb))) ≠ 0) ∧
    after (exec (.budgetCapAck ((256 : Mb)) ((9 : Fin 64))) w_BudgetsAreJudgedAndEnforced_10) (fun t => decide (((t.bgt ((256 : Mb))).promise = true) ∧ ((t.bgt ((256 : Mb))).deadline = (w_BudgetsAreJudgedAndEnforced_10.bgt ((256 : Mb))).deadline) ∧ (Done t ((256 : Mb)) ((9 : Fin 64)) (cmdOf w_BudgetsAreJudgedAndEnforced_10 ((256 : Mb)) ((9 : Fin 64))) 0 0 0) ∧ (t.slotx = w_BudgetsAreJudgedAndEnforced_10.slotx))) = true := by decide +kernel

theorem test_BudgetsAreJudgedAndEnforced_11 :
    (Ready ((withCmd (unitA) 256 9 0xc10 [5])) ((256 : Mb)) ((9 : Fin 64)) 0xC10) ∧
    (u8 (payloadOf ((withCmd (unitA) 256 9 0xc10 [5])) ((256 : Mb)) ((9 : Fin 64))) 4 = 0) ∧
    ((resv (payloadOf ((withCmd (unitA) 256 9 0xc10 [5])) ((256 : Mb)) ((9 : Fin 64))) 5 8).2 = false) ∧
    ((((withCmd (unitA) 256 9 0xc10 [5])).bgt ((256 : Mb))).reqId ≠ u32 (payloadOf ((withCmd (unitA) 256 9 0xc10 [5])) ((256 : Mb)) ((9 : Fin 64))) 0) ∧
    (Tail ((withCmd (unitA) 256 9 0xc10 [5])) ((256 : Mb)) ((9 : Fin 64))) ∧
    after (exec (.budgetCapAck ((256 : Mb)) ((9 : Fin 64))) ((withCmd (unitA) 256 9 0xc10 [5]))) (fun t => decide ((Done t ((256 : Mb)) ((9 : Fin 64)) (cmdOf ((withCmd (unitA) 256 9 0xc10 [5])) ((256 : Mb)) ((9 : Fin 64))) 5 0 0) ∧ (t.budgets = ((withCmd (unitA) 256 9 0xc10 [5])).budgets) ∧ (t.slotx = ((withCmd (unitA) 256 9 0xc10 [5])).slotx))) = true := by decide +kernel

def w_BudgetsAreJudgedAndEnforced_12 : State :=
    (withCmd (unitA) 256 9 0xc11 [12, 0, 2, 0, 192, 198, 45, 0, 192, 225, 70, 0, 208, 7, 0, 0, 20, 0, 0, 0])

theorem test_BudgetsAreJudgedAndEnforced_12 :
    (Ready w_BudgetsAreJudgedAndEnforced_12 ((256 : Mb)) ((9 : Fin 64)) 0xC11) ∧
    ((u16 (payloadOf w_BudgetsAreJudgedAndEnforced_12 ((256 : Mb)) ((9 : Fin 64))) 0) ≤ 256) ∧
    (u8 (payloadOf w_BudgetsAreJudgedAndEnforced_12 ((256 : Mb)) ((9 : Fin 64))) 2 ≤ 7) ∧
    (u32 (payloadOf w_BudgetsAreJudgedAndEnforced_12 ((256 : Mb)) ((9 : Fin 64))) 4 ≤ u32 (payloadOf w_BudgetsAreJudgedAndEnforced_12 ((256 : Mb)) ((9 : Fin 64))) 8 ∧ u32 (payloadOf w_BudgetsAreJudgedAndEnforced_12 ((256 : Mb)) ((9 : Fin 64))) 8 ≤ 2147483647) ∧
    (100 ≤ u32 (payloadOf w_BudgetsAreJudgedAndEnforced_12 ((256 : Mb)) ((9 : Fin 64))) 12 ∧ u32 (payloadOf w_BudgetsAreJudgedAndEnforced_12 ((256 : Mb)) ((9 : Fin 64))) 12 ≤ 100000) ∧
    (1 ≤ u16 (payloadOf w_BudgetsAreJudgedAndEnforced_12 ((256 : Mb)) ((9 : Fin 64))) 16 ∧ u16 (payloadOf w_BudgetsAreJudgedAndEnforced_12 ((256 : Mb)) ((9 : Fin 64))) 16 ≤ 1000) ∧
    ((resv (payloadOf w_BudgetsAreJudgedAndEnforced_12 ((256 : Mb)) ((9 : Fin 64))) 3 4).2 = false ∧ (resv (payloadOf w_BudgetsAreJudgedAndEnforced_12 ((256 : Mb)) ((9 : Fin 64))) 18 20).2 = false) ∧
    after (exec (.budgetSet ((256 : Mb)) ((9 : Fin 64))) w_BudgetsAreJudgedAndEnforced_12) (fun t => decide ((t.bgt (u16 (payloadOf w_BudgetsAreJudgedAndEnforced_12 ((256 : Mb)) ((9 : Fin 64))) 0) = { w_BudgetsAreJudgedAndEnforced_12.bgt (u16 (payloadOf w_BudgetsAreJudgedAndEnforced_12 ((256 : Mb)) ((9 : Fin 64))) 0) with cls := u8 (payloadOf w_BudgetsAreJudgedAndEnforced_12 ((256 : Mb)) ((9 : Fin 64))) 2, floor := u32 (payloadOf w_BudgetsAreJudgedAndEnforced_12 ((256 : Mb)) ((9 : Fin 64))) 4, ceil := u32 (payloadOf w_BudgetsAreJudgedAndEnforced_12 ((256 : Mb)) ((9 : Fin 64))) 8, graceUs := u32 (payloadOf w_BudgetsAreJudgedAndEnforced_12 ((256 : Mb)) ((9 : Fin 64))) 12, enfMs := u16 (payloadOf w_BudgetsAreJudgedAndEnforced_12 ((256 : Mb)) ((9 : Fin 64))) 16 }) ∧ (t.get (BGT_STATE_class (u16 (payloadOf w_BudgetsAreJudgedAndEnforced_12 ((256 : Mb)) ((9 : Fin 64))) 0)) = u8 (payloadOf w_BudgetsAreJudgedAndEnforced_12 ((256 : Mb)) ((9 : Fin 64))) 2) ∧ (Done t ((256 : Mb)) ((9 : Fin 64)) (cmdOf w_BudgetsAreJudgedAndEnforced_12 ((256 : Mb)) ((9 : Fin 64))) 0 0 0) ∧ (t.slotx = w_BudgetsAreJudgedAndEnforced_12.slotx))) = true := by decide +kernel

def w_BudgetsAreJudgedAndEnforced_13 : State :=
    (withCmd ((unitA.updBgt 12 (fun b => { b with cls := 5 }))) 256 9 0xc12 [12, 0])

theorem test_BudgetsAreJudgedAndEnforced_13 :
    (Ready w_BudgetsAreJudgedAndEnforced_13 ((256 : Mb)) ((9 : Fin 64)) 0xC12) ∧
    (12 = (if ((256 : Mb)).val = 256 then (u16 (payloadOf w_BudgetsAreJudgedAndEnforced_13 ((256 : Mb)) ((9 : Fin 64))) 0) else ((256 : Mb)).val)) ∧
    (12 ≤ 256) ∧
    after (exec (.budgetQuery ((256 : Mb)) ((9 : Fin 64))) w_BudgetsAreJudgedAndEnforced_13) (fun t => decide ((Done t ((256 : Mb)) ((9 : Fin 64)) (cmdOf w_BudgetsAreJudgedAndEnforced_13 ((256 : Mb)) ((9 : Fin 64))) 0 (w_BudgetsAreJudgedAndEnforced_13.get (BGT_STATE_cap_state 12) + 4 * (w_BudgetsAreJudgedAndEnforced_13.bgt 12).cls + 32 * w_BudgetsAreJudgedAndEnforced_13.get CAP_STATUS_stage) (w_BudgetsAreJudgedAndEnforced_13.get (BGT_CAP_cap_mw 12) + 2 ^ 32 * w_BudgetsAreJudgedAndEnforced_13.get (BGT_POWER_power_mw 12))) ∧ (t.budgets = w_BudgetsAreJudgedAndEnforced_13.budgets))) = true := by decide +kernel

def w_BudgetsAreJudgedAndEnforced_14 : State :=
    (withCmd (unitA) 256 9 0xc13 [3, 0, 200, 0])

theorem test_BudgetsAreJudgedAndEnforced_14 :
    (Ready w_BudgetsAreJudgedAndEnforced_14 ((256 : Mb)) ((9 : Fin 64)) 0xC13) ∧
    (u8 (payloadOf w_BudgetsAreJudgedAndEnforced_14 ((256 : Mb)) ((9 : Fin 64))) 0 ≤ 7) ∧
    (10 ≤ u16 (payloadOf w_BudgetsAreJudgedAndEnforced_14 ((256 : Mb)) ((9 : Fin 64))) 2 ∧ u16 (payloadOf w_BudgetsAreJudgedAndEnforced_14 ((256 : Mb)) ((9 : Fin 64))) 2 ≤ 10000) ∧
    after (exec (.budgetPolicy ((256 : Mb)) ((9 : Fin 64))) w_BudgetsAreJudgedAndEnforced_14) (fun t => decide ((t.get CAP_STATUS_rank = u8 (payloadOf w_BudgetsAreJudgedAndEnforced_14 ((256 : Mb)) ((9 : Fin 64))) 0) ∧ (t.shelf.warnLead = u16 (payloadOf w_BudgetsAreJudgedAndEnforced_14 ((256 : Mb)) ((9 : Fin 64))) 2) ∧ (Done t ((256 : Mb)) ((9 : Fin 64)) (cmdOf w_BudgetsAreJudgedAndEnforced_14 ((256 : Mb)) ((9 : Fin 64))) 0 0 0) ∧ (t.budgets = w_BudgetsAreJudgedAndEnforced_14.budgets))) = true := by decide +kernel

def w_SequencesRunAndAreSupervised_1 : State :=
    { ((unitA.updSk 7 (fun x => { x with known := true, slot := 3, engine := some 2, job := { x.job with skeinState := 0 } })).setF (SEQ_STATE_state 3) 1) with rails := [(7, some { tslot := 2, onDelay := 25, offDelay := 10, sdMs := 5, action := 1 })], railRuns := [(7, {  })], ct := 8000000 }

theorem test_SequencesRunAndAreSupervised_1 :
    (NoRung w_SequencesRunAndAreSupervised_1) ∧
    (w_SequencesRunAndAreSupervised_1.faults.insts = []) ∧
    (w_SequencesRunAndAreSupervised_1.swTouched = []) ∧
    (w_SequencesRunAndAreSupervised_1.railOf ((7 : Fin 2048)) = some (({ tslot := 2, onDelay := 25, offDelay := 10, sdMs := 5, action := 1 } : Rail))) ∧
    ((w_SequencesRunAndAreSupervised_1.sk ((7 : Fin 2048))).known = true) ∧
    ((w_SequencesRunAndAreSupervised_1.sk ((7 : Fin 2048))).slot = ((3 : Fin 64)).val) ∧
    (w_SequencesRunAndAreSupervised_1.seqSt ((3 : Fin 64)) = 1) ∧
    ((w_SequencesRunAndAreSupervised_1.rrun ((7 : Fin 2048))).issued = false ∧ (w_SequencesRunAndAreSupervised_1.rrun ((7 : Fin 2048))).good = false) ∧
    ((w_SequencesRunAndAreSupervised_1.seq ((3 : Fin 64))).t0 + us ((w_SequencesRunAndAreSupervised_1.seq ((3 : Fin 64))).widthUs * (({ tslot := 2, onDelay := 25, offDelay := 10, sdMs := 5, action := 1 } : Rail)).tslot + 10 * (({ tslot := 2, onDelay := 25, offDelay := 10, sdMs := 5, action := 1 } : Rail)).onDelay) ≤ w_SequencesRunAndAreSupervised_1.ct) ∧
    (∀ j ∈ w_SequencesRunAndAreSupervised_1.railSkeins ((3 : Fin 64)), (({ tslot := 2, onDelay := 25, offDelay := 10, sdMs := 5, action := 1 } : Rail)).tslot ≤ w_SequencesRunAndAreSupervised_1.tslotOf j ∨ (w_SequencesRunAndAreSupervised_1.rrun j).good = true) ∧
    (w_SequencesRunAndAreSupervised_1.skSt ((7 : Fin 2048)) = 0) ∧
    ((w_SequencesRunAndAreSupervised_1.sk ((7 : Fin 2048))).engine.isSome = true) ∧
    ((w_SequencesRunAndAreSupervised_1.sk ((7 : Fin 2048))).loads = []) ∧
    after (exec (.seqSlotTimer ((7 : Fin 2048))) w_SequencesRunAndAreSupervised_1) (fun t => decide (((t.sk ((7 : Fin 2048))).loads = [(.power 1, none)]) ∧ ((t.sk ((7 : Fin 2048))).powerCmd = some (257, ((7 : Fin 2048)).val, 1)) ∧ ((t.rrun ((7 : Fin 2048))).issued = true) ∧ (t.get (SEQ_STATE_tslot ((3 : Fin 64))) = (({ tslot := 2, onDelay := 25, offDelay := 10, sdMs := 5, action := 1 } : Rail)).tslot % 256) ∧ (Counted w_SequencesRunAndAreSupervised_1 t (RAIL_CNT0_starts ((7 : Fin 2048)))) ∧ (t.seqSt ((3 : Fin 64)) = 1) ∧ (t.stitches = w_SequencesRunAndAreSupervised_1.stitches) ∧ (t.mem = w_SequencesRunAndAreSupervised_1.mem))) = true := by decide +kernel

def w_SequencesRunAndAreSupervised_2 : State :=
    { ((unitA.updSk 7 (fun x => { x with known := true, slot := 3, engine := some 2, job := { x.job with skeinState := 2 } })).setF (SEQ_STATE_state 3) 3) with rails := [(7, some { tslot := 2, onDelay := 25, offDelay := 10, sdMs := 5, action := 1 })], railRuns := [(7, { issued := true })], ct := 8000000 }

theorem test_SequencesRunAndAreSupervised_2 :
    (NoRung w_SequencesRunAndAreSupervised_2) ∧
    (w_SequencesRunAndAreSupervised_2.railOf ((7 : Fin 2048)) = some (({ tslot := 2, onDelay := 25, offDelay := 10, sdMs := 5, action := 1 } : Rail))) ∧
    ((w_SequencesRunAndAreSupervised_2.sk ((7 : Fin 2048))).known = true) ∧
    ((w_SequencesRunAndAreSupervised_2.sk ((7 : Fin 2048))).slot = ((3 : Fin 64)).val) ∧
    (w_SequencesRunAndAreSupervised_2.seqSt ((3 : Fin 64)) = 3) ∧
    ((w_SequencesRunAndAreSupervised_2.rrun ((7 : Fin 2048))).issued = true ∧ (w_SequencesRunAndAreSupervised_2.rrun ((7 : Fin 2048))).stopped = false) ∧
    ((w_SequencesRunAndAreSupervised_2.seq ((3 : Fin 64))).t0 + us ((w_SequencesRunAndAreSupervised_2.seq ((3 : Fin 64))).widthUs * ((w_SequencesRunAndAreSupervised_2.seq ((3 : Fin 64))).tTop - (({ tslot := 2, onDelay := 25, offDelay := 10, sdMs := 5, action := 1 } : Rail)).tslot) + 10 * (({ tslot := 2, onDelay := 25, offDelay := 10, sdMs := 5, action := 1 } : Rail)).offDelay) ≤ w_SequencesRunAndAreSupervised_2.ct) ∧
    (∀ j ∈ w_SequencesRunAndAreSupervised_2.railSkeins ((3 : Fin 64)), w_SequencesRunAndAreSupervised_2.tslotOf j ≤ (({ tslot := 2, onDelay := 25, offDelay := 10, sdMs := 5, action := 1 } : Rail)).tslot ∨ (w_SequencesRunAndAreSupervised_2.rrun j).issued = false ∨ w_SequencesRunAndAreSupervised_2.skOff j = true) ∧
    (w_SequencesRunAndAreSupervised_2.skSt ((7 : Fin 2048)) = 2) ∧
    ((w_SequencesRunAndAreSupervised_2.sk ((7 : Fin 2048))).engine.isSome = true) ∧
    ((w_SequencesRunAndAreSupervised_2.sk ((7 : Fin 2048))).powerCmd = none) ∧
    after (exec (.seqSlotTimer ((7 : Fin 2048))) w_SequencesRunAndAreSupervised_2) (fun t => decide (((t.sk ((7 : Fin 2048))).loads = (w_SequencesRunAndAreSupervised_2.sk ((7 : Fin 2048))).loads ++ [(.power (if (({ tslot := 2, onDelay := 25, offDelay := 10, sdMs := 5, action := 1 } : Rail)).immediate then 0 else 2), none)]) ∧ ((t.rrun ((7 : Fin 2048))).stopped = true ∧ (t.rrun ((7 : Fin 2048))).stopAt = w_SequencesRunAndAreSupervised_2.ct) ∧ (t.get (SEQ_STATE_tslot ((3 : Fin 64))) = (({ tslot := 2, onDelay := 25, offDelay := 10, sdMs := 5, action := 1 } : Rail)).tslot % 256) ∧ (t.seqSt ((3 : Fin 64)) = 3) ∧ (t.stitches = w_SequencesRunAndAreSupervised_2.stitches) ∧ (t.mem = w_SequencesRunAndAreSupervised_2.mem))) = true := by decide +kernel

def w_SequencesRunAndAreSupervised_3 : State :=
    { ((unitA.updSk 7 (fun x => { x with known := true, slot := 3, engine := some 2, job := { x.job with skeinState := 2 } })).setF (SEQ_STATE_state 3) 2) with rails := [(7, some { tslot := 2, onDelay := 25, offDelay := 10, sdMs := 5, action := 1 })], railRuns := [(7, { issued := true, good := true, conds := [(2, 0)] })], ct := 8000000 }

theorem test_SequencesRunAndAreSupervised_3 :
    (MayRaise w_SequencesRunAndAreSupervised_3 .seqTimedOff ((3 : Fin 64))) ∧
    (w_SequencesRunAndAreSupervised_3.swTouched = []) ∧
    (w_SequencesRunAndAreSupervised_3.railOf ((7 : Fin 2048)) = some (({ tslot := 2, onDelay := 25, offDelay := 10, sdMs := 5, action := 1 } : Rail))) ∧
    ((w_SequencesRunAndAreSupervised_3.sk ((7 : Fin 2048))).known = true) ∧
    ((w_SequencesRunAndAreSupervised_3.sk ((7 : Fin 2048))).slot = ((3 : Fin 64)).val) ∧
    (w_SequencesRunAndAreSupervised_3.seqSt ((3 : Fin 64)) = 2) ∧
    ((({ tslot := 2, onDelay := 25, offDelay := 10, sdMs := 5, action := 1 } : Rail)).action = 1) ∧
    ((w_SequencesRunAndAreSupervised_3.rrun ((7 : Fin 2048))).acted = false) ∧
    ((w_SequencesRunAndAreSupervised_3.rrun ((7 : Fin 2048))).conds.any (fun c => decide (c.2 + ms (({ tslot := 2, onDelay := 25, offDelay := 10, sdMs := 5, action := 1 } : Rail)).sdMs ≤ w_SequencesRunAndAreSupervised_3.ct)) = true) ∧
    (w_SequencesRunAndAreSupervised_3.skSt ((7 : Fin 2048)) = 2) ∧
    ((w_SequencesRunAndAreSupervised_3.sk ((7 : Fin 2048))).engine.isSome = true) ∧
    after (exec (.railSdTimer ((7 : Fin 2048))) w_SequencesRunAndAreSupervised_3) (fun t => decide (((t.sk ((7 : Fin 2048))).loads = (w_SequencesRunAndAreSupervised_3.sk ((7 : Fin 2048))).loads ++ [(.power (if (({ tslot := 2, onDelay := 25, offDelay := 10, sdMs := 5, action := 1 } : Rail)).immediate then 0 else 2), none)]) ∧ (t.raised .seqTimedOff ((3 : Fin 64)) = true) ∧ (Counted w_SequencesRunAndAreSupervised_3 t (RAIL_CNT1_timed_off ((7 : Fin 2048)))) ∧ (t.seqSt ((3 : Fin 64)) = 2) ∧ (t.stitches = w_SequencesRunAndAreSupervised_3.stitches))) = true := by decide +kernel

def w_SequencesRunAndAreSupervised_4 : State :=
    { ((unitA.updSk 7 (fun x => { x with known := true, slot := 3, engine := some 2, job := { x.job with skeinState := 2 } })).setF (SEQ_STATE_state 3) 2) with rails := [(7, some { tslot := 2, onDelay := 25, offDelay := 10, sdMs := 5, action := 2 })], railRuns := [(7, { issued := true, good := true, conds := [(2, 0)] })], ct := 8000000 }

theorem test_SequencesRunAndAreSupervised_4 :
    (MayRaise w_SequencesRunAndAreSupervised_4 .seqTimedOff ((3 : Fin 64))) ∧
    (w_SequencesRunAndAreSupervised_4.railOf ((7 : Fin 2048)) = some (({ tslot := 2, onDelay := 25, offDelay := 10, sdMs := 5, action := 2 } : Rail))) ∧
    ((w_SequencesRunAndAreSupervised_4.sk ((7 : Fin 2048))).known = true) ∧
    ((w_SequencesRunAndAreSupervised_4.sk ((7 : Fin 2048))).slot = ((3 : Fin 64)).val) ∧
    (w_SequencesRunAndAreSupervised_4.seqSt ((3 : Fin 64)) = 2) ∧
    ((({ tslot := 2, onDelay := 25, offDelay := 10, sdMs := 5, action := 2 } : Rail)).action = 2) ∧
    ((w_SequencesRunAndAreSupervised_4.seq ((3 : Fin 64))).fail = false) ∧
    ((w_SequencesRunAndAreSupervised_4.rrun ((7 : Fin 2048))).issued = true) ∧
    ((w_SequencesRunAndAreSupervised_4.rrun ((7 : Fin 2048))).acted = false) ∧
    ((w_SequencesRunAndAreSupervised_4.rrun ((7 : Fin 2048))).conds.any (fun c => decide (c.2 + ms (({ tslot := 2, onDelay := 25, offDelay := 10, sdMs := 5, action := 2 } : Rail)).sdMs ≤ w_SequencesRunAndAreSupervised_4.ct)) = true) ∧
    (w_SequencesRunAndAreSupervised_4.skSt ((7 : Fin 2048)) = 2) ∧
    ((w_SequencesRunAndAreSupervised_4.sk ((7 : Fin 2048))).engine.isSome = true) ∧
    after (exec (.railSdTimer ((7 : Fin 2048))) w_SequencesRunAndAreSupervised_4) (fun t => decide ((t.seqSt ((3 : Fin 64)) = 3) ∧ (t.get (SEQ_STATE_fail_skein ((3 : Fin 64))) = ((7 : Fin 2048)).val) ∧ ((t.seq ((3 : Fin 64))).fail = true ∧ (t.seq ((3 : Fin 64))).t0 = w_SequencesRunAndAreSupervised_4.ct) ∧ (t.get (SEQ_STATE_rst ((3 : Fin 64))) = 1) ∧ (t.raised .seqTimedOff ((3 : Fin 64)) = true) ∧ (t.stitches = w_SequencesRunAndAreSupervised_4.stitches))) = true := by decide +kernel

def w_SequencesRunAndAreSupervised_5 : State :=
    { ((State.reset.updSk 7 (fun x => { x with known := true, slot := 3, engine := some 2, job := { x.job with skeinState := 0 } })).setF (SEQ_STATE_state 3) 1) with rails := [(7, some { tslot := 2, onDelay := 25, offDelay := 10, sdMs := 5, action := 1 })], railRuns := [(7, { cntChanged := true })], ct := 8000000 }

theorem test_SequencesRunAndAreSupervised_5 :
    (w_SequencesRunAndAreSupervised_5.active = false) ∧
    (w_SequencesRunAndAreSupervised_5.railRuns = [(((7 : Fin 2048)).val, (({ cntChanged := true } : RailRun)))]) ∧
    ((({ cntChanged := true } : RailRun)).cntChanged = true) ∧
    after (exec (.railCntCheckpoint) w_SequencesRunAndAreSupervised_5) (fun t => decide (((t.rrun ((7 : Fin 2048))).cntChanged = false) ∧ (t.nv.queue.any (fun w => decide (w.region = 2 ∧ w.copy.holder = w_SequencesRunAndAreSupervised_5.slotOwner (w_SequencesRunAndAreSupervised_5.sk ((7 : Fin 2048))).slot ∧ w.copy.data = .seqRec w_SequencesRunAndAreSupervised_5.ct ((7 : Fin 2048)) (w_SequencesRunAndAreSupervised_5.sk ((7 : Fin 2048))).slot 12 0 (w_SequencesRunAndAreSupervised_5.tslotOf ((7 : Fin 2048))) (w_SequencesRunAndAreSupervised_5.word (aRAIL_CNT0 ((7 : Fin 2048)))).toNat (w_SequencesRunAndAreSupervised_5.word (aRAIL_CNT1 ((7 : Fin 2048)))).toNat)) = true) ∧ (t.skeins = w_SequencesRunAndAreSupervised_5.skeins) ∧ (t.mem = w_SequencesRunAndAreSupervised_5.mem))) = true := by decide +kernel

theorem test_SequencesRunAndAreSupervised_6 :
    (NoRung unitA) ∧
    (unitA.swTouched = []) ∧
    (ms 50 ≤ 160000000 ∧ 160000000 < ms 8000) ∧
    (unitA.unit ≠ 0) ∧
    (unitA.get CHASSIS_PWR_state = 0) ∧
    (unitA.get CHASSIS_PWR_btn_action = 0) ∧
    ((unitA.get (VI_EV_PROD_index 256) + 256 - unitA.get (VI_EV_CONS_index 256)) % 256 < 128) ∧
    after (exec (.buttonPress 160000000) unitA) (fun t => decide ((t.get CHASSIS_PWR_press_seen = 1) ∧ (t.get CHASSIS_PWR_pressed = 0 ∧ t.get CHASSIS_PWR_state = 0) ∧ (t.get (VI_EV_PROD_index 256) = (unitA.get (VI_EV_PROD_index 256) + 1) % 256) ∧ (.msix 256 1 ∈ t.out) ∧ (t.slotx = unitA.slotx) ∧ (t.stitches = unitA.stitches))) = true := by decide +kernel

theorem test_SequencesRunAndAreSupervised_7 :
    (ms 50 ≤ 160000000 ∧ 160000000 < ms 8000) ∧
    ((unitA.setF CHASSIS_PWR_state 2).unit ≠ 0) ∧
    ((unitA.setF CHASSIS_PWR_state 2).get CHASSIS_PWR_state = 2 ∨ (unitA.setF CHASSIS_PWR_state 2).get CHASSIS_PWR_state = 3) ∧
    ((unitA.setF CHASSIS_PWR_state 2).pattern.autoCast = 0) ∧
    after (exec (.buttonPress 160000000) (unitA.setF CHASSIS_PWR_state 2)) (fun t => decide ((t.get CHASSIS_PWR_state = 0) ∧ (t.get CHASSIS_PWR_press_seen = 1) ∧ (t.slotx = (unitA.setF CHASSIS_PWR_state 2).slotx) ∧ (t.stitches = (unitA.setF CHASSIS_PWR_state 2).stitches) ∧ (t.mem = (unitA.setF CHASSIS_PWR_state 2).mem))) = true := by decide +kernel

theorem test_SequencesRunAndAreSupervised_8 :
    (5 < ms 50) ∧
    after (exec (.buttonPress 5) unitA) (fun t => decide ((t.get CHASSIS_PWR_pressed = 0) ∧ (t.get CHASSIS_PWR_state = unitA.get CHASSIS_PWR_state) ∧ (t.nv = unitA.nv) ∧ (t.slotx = unitA.slotx) ∧ (t.mem = unitA.mem))) = true := by decide +kernel

def w_SequencesRunAndAreSupervised_9 : State :=
    ((unitA.setF (SLOT_STATE_state 3) 3).setF (SLOT_STATE_gate 3) 1)

theorem test_SequencesRunAndAreSupervised_9 :
    (Runs w_SequencesRunAndAreSupervised_9) ∧
    (MayRaise w_SequencesRunAndAreSupervised_9 .chassisForceOff 0) ∧
    (w_SequencesRunAndAreSupervised_9.faults.insts.length < 1900) ∧
    ((w_SequencesRunAndAreSupervised_9.kindCfg .seqStartFail 0).1 ≠ 3) ∧
    after (exec (.buttonForceOff) w_SequencesRunAndAreSupervised_9) (fun t => decide ((t.get CHASSIS_PWR_state = 3) ∧ (t.get CHASSIS_PWR_force_seen = 1) ∧ (∀ n : Fin 64, t.slSt n ≤ 1 ∧ (w_SequencesRunAndAreSupervised_9.ownsPort n = true → t.get (SLOT_STATE_gate n) = 0)) ∧ (t.raised .chassisForceOff 0 = true) ∧ (t.shelf = w_SequencesRunAndAreSupervised_9.shelf) ∧ (t.eph = w_SequencesRunAndAreSupervised_9.eph))) = true := by decide +kernel

def w_SequencesRunAndAreSupervised_10 : State :=
    unitA.updSeq 3 (fun q => { q with rstGpio := some 7 })

theorem test_SequencesRunAndAreSupervised_10 :
    (Runs w_SequencesRunAndAreSupervised_10) ∧
    (ms 1 ≤ 3200000) ∧
    ((w_SequencesRunAndAreSupervised_10.seq ((3 : Fin 64))).rstGpio.isSome = true) ∧
    after (exec (.manualReset 3200000) w_SequencesRunAndAreSupervised_10) (fun t => decide ((t.get CHASSIS_PWR_mr_seen = 1) ∧ ((t.seq ((3 : Fin 64))).mrUntil = some (w_SequencesRunAndAreSupervised_10.ct + ms w_SequencesRunAndAreSupervised_10.pattern.rstMs)) ∧ (t.get (SEQ_STATE_rst ((3 : Fin 64))) = 1) ∧ (t.seqSt ((3 : Fin 64)) = w_SequencesRunAndAreSupervised_10.seqSt ((3 : Fin 64))) ∧ (t.skeins = w_SequencesRunAndAreSupervised_10.skeins) ∧ (t.stitches = w_SequencesRunAndAreSupervised_10.stitches) ∧ (t.mem = w_SequencesRunAndAreSupervised_10.mem))) = true := by decide +kernel

theorem test_SequencesRunAndAreSupervised_11 :
    (5 < ms 1) ∧
    after (exec (.manualReset 5) unitA) (fun t => decide ((t = unitA))) = true := by decide +kernel

def w_SequencesRunAndAreSupervised_12 : State :=
    ((unitA.setF (SEQ_STATE_state 3) 2).updSeq 3 (fun q => { q with rstGpio := some 7, releaseAt := some 0 }))

theorem test_SequencesRunAndAreSupervised_12 :
    (w_SequencesRunAndAreSupervised_12.seqSt ((3 : Fin 64)) = 2) ∧
    ((w_SequencesRunAndAreSupervised_12.seq ((3 : Fin 64))).releaseAt = some 0) ∧
    (0 ≤ w_SequencesRunAndAreSupervised_12.ct) ∧
    ((w_SequencesRunAndAreSupervised_12.seq ((3 : Fin 64))).mrUntil = none) ∧
    ((w_SequencesRunAndAreSupervised_12.seq ((3 : Fin 64))).rstGpio = some 7) ∧
    (7 < 64) ∧
    after (exec (.resetOutputRelease ((3 : Fin 64))) w_SequencesRunAndAreSupervised_12) (fun t => decide ((t.get (SEQ_STATE_rst ((3 : Fin 64))) = 0) ∧ (t.gpio.getLsbD 7 = true ∧ t.gpioDriven.getLsbD 7 = true) ∧ (t.skeins = w_SequencesRunAndAreSupervised_12.skeins) ∧ (t.stitches = w_SequencesRunAndAreSupervised_12.stitches) ∧ (t.mem = w_SequencesRunAndAreSupervised_12.mem))) = true := by decide +kernel

theorem test_SequencesRunAndAreSupervised_13 :
    (unitA.seqSt ((3 : Fin 64)) ≠ 2) ∧
    after (exec (.resetOutputRelease ((3 : Fin 64))) unitA) (fun t => decide ((t = unitA))) = true := by decide +kernel

def w_SequenceCommandsTakeEffect_1 : State :=
    (withCmd (unitA.updSk 7 (fun x => { x with known := true, slot := 3 })) 256 9 0xd01 [7, 0, 4, 3, 5, 0, 6, 0, 44, 1, 0])

theorem test_SequenceCommandsTakeEffect_1 :
    (Ready w_SequenceCommandsTakeEffect_1 ((256 : Mb)) ((9 : Fin 64)) 0xD01) ∧
    (7 = u16 (payloadOf w_SequenceCommandsTakeEffect_1 ((256 : Mb)) ((9 : Fin 64))) 0) ∧
    (3 = (w_SequenceCommandsTakeEffect_1.sk 7).slot) ∧
    (w_SequenceCommandsTakeEffect_1.skeinBad ((256 : Mb)) 7 = false) ∧
    (w_SequenceCommandsTakeEffect_1.ownsPort 3 = true) ∧
    (w_SequenceCommandsTakeEffect_1.seqSt 3 = 0 ∨ w_SequenceCommandsTakeEffect_1.seqSt 3 = 2 ∨ w_SequenceCommandsTakeEffect_1.seqSt 3 = 4) ∧
    (u8 (payloadOf w_SequenceCommandsTakeEffect_1 ((256 : Mb)) ((9 : Fin 64))) 3 < 6) ∧
    (u16 (payloadOf w_SequenceCommandsTakeEffect_1 ((256 : Mb)) ((9 : Fin 64))) 4 ≤ (w_SequenceCommandsTakeEffect_1.seq 3).widthUs / 10 - 1 ∧ u16 (payloadOf w_SequenceCommandsTakeEffect_1 ((256 : Mb)) ((9 : Fin 64))) 6 ≤ (w_SequenceCommandsTakeEffect_1.seq 3).widthUs / 10 - 1) ∧
    (1 ≤ u16 (payloadOf w_SequenceCommandsTakeEffect_1 ((256 : Mb)) ((9 : Fin 64))) 8 ∧ u16 (payloadOf w_SequenceCommandsTakeEffect_1 ((256 : Mb)) ((9 : Fin 64))) 8 ≤ 10000) ∧
    (u8 (payloadOf w_SequenceCommandsTakeEffect_1 ((256 : Mb)) ((9 : Fin 64))) 10 = 0) ∧
    after (exec (.seqSetRail ((256 : Mb)) ((9 : Fin 64))) w_SequenceCommandsTakeEffect_1) (fun t => decide ((t.railOf 7 = some { tslot := u8 (payloadOf w_SequenceCommandsTakeEffect_1 ((256 : Mb)) ((9 : Fin 64))) 2, immediate := (u8 (payloadOf w_SequenceCommandsTakeEffect_1 ((256 : Mb)) ((9 : Fin 64))) 3).testBit 0, action := u8 (payloadOf w_SequenceCommandsTakeEffect_1 ((256 : Mb)) ((9 : Fin 64))) 3 / 2 % 4, onDelay := u16 (payloadOf w_SequenceCommandsTakeEffect_1 ((256 : Mb)) ((9 : Fin 64))) 4, offDelay := u16 (payloadOf w_SequenceCommandsTakeEffect_1 ((256 : Mb)) ((9 : Fin 64))) 6, sdMs := u16 (payloadOf w_SequenceCommandsTakeEffect_1 ((256 : Mb)) ((9 : Fin 64))) 8 }) ∧ (Done t ((256 : Mb)) ((9 : Fin 64)) (cmdOf w_SequenceCommandsTakeEffect_1 ((256 : Mb)) ((9 : Fin 64))) 0 0 0) ∧ (t.skeins = w_SequenceCommandsTakeEffect_1.skeins) ∧ (t.stitches = w_SequenceCommandsTakeEffect_1.stitches))) = true := by decide +kernel

def w_SequenceCommandsTakeEffect_2 : State :=
    (withCmd ((unitA.updSk 7 (fun x => { x with known := true, slot := 3 })).setF (SEQ_STATE_state 3) 1) 256 9 0xd01 [7, 0, 4, 3, 5, 0, 6, 0, 44, 1, 1])

theorem test_SequenceCommandsTakeEffect_2 :
    (Ready w_SequenceCommandsTakeEffect_2 ((256 : Mb)) ((9 : Fin 64)) 0xD01) ∧
    (7 = u16 (payloadOf w_SequenceCommandsTakeEffect_2 ((256 : Mb)) ((9 : Fin 64))) 0) ∧
    (3 = (w_SequenceCommandsTakeEffect_2.sk 7).slot) ∧
    (w_SequenceCommandsTakeEffect_2.skeinBad ((256 : Mb)) 7 = false) ∧
    (w_SequenceCommandsTakeEffect_2.ownsPort 3 = true) ∧
    (w_SequenceCommandsTakeEffect_2.seqSt 3 = 1 ∨ w_SequenceCommandsTakeEffect_2.seqSt 3 = 3) ∧
    (u8 (payloadOf w_SequenceCommandsTakeEffect_2 ((256 : Mb)) ((9 : Fin 64))) 3 < 6) ∧
    (u8 (payloadOf w_SequenceCommandsTakeEffect_2 ((256 : Mb)) ((9 : Fin 64))) 10 = 1) ∧
    (Tail w_SequenceCommandsTakeEffect_2 ((256 : Mb)) ((9 : Fin 64))) ∧
    after (exec (.seqSetRail ((256 : Mb)) ((9 : Fin 64))) w_SequenceCommandsTakeEffect_2) (fun t => decide ((Done t ((256 : Mb)) ((9 : Fin 64)) (cmdOf w_SequenceCommandsTakeEffect_2 ((256 : Mb)) ((9 : Fin 64))) 2 2 0) ∧ (t.rails = w_SequenceCommandsTakeEffect_2.rails) ∧ (t.skeins = w_SequenceCommandsTakeEffect_2.skeins))) = true := by decide +kernel

def w_SequenceCommandsTakeEffect_3 : State :=
    (withCmd (unitA) 256 9 0xd02 [3, 9, 0, 0, 208, 7, 0, 0, 100, 0, 0, 0])

theorem test_SequenceCommandsTakeEffect_3 :
    (Ready w_SequenceCommandsTakeEffect_3 ((256 : Mb)) ((9 : Fin 64)) 0xD02) ∧
    ((u8 (payloadOf w_SequenceCommandsTakeEffect_3 ((256 : Mb)) ((9 : Fin 64))) 0) < 64) ∧
    (w_SequenceCommandsTakeEffect_3.ownsPort (u8 (payloadOf w_SequenceCommandsTakeEffect_3 ((256 : Mb)) ((9 : Fin 64))) 0) = true) ∧
    (w_SequenceCommandsTakeEffect_3.seqSt (u8 (payloadOf w_SequenceCommandsTakeEffect_3 ((256 : Mb)) ((9 : Fin 64))) 0) = 0 ∨ w_SequenceCommandsTakeEffect_3.seqSt (u8 (payloadOf w_SequenceCommandsTakeEffect_3 ((256 : Mb)) ((9 : Fin 64))) 0) = 2 ∨ w_SequenceCommandsTakeEffect_3.seqSt (u8 (payloadOf w_SequenceCommandsTakeEffect_3 ((256 : Mb)) ((9 : Fin 64))) 0) = 4) ∧
    (u8 (payloadOf w_SequenceCommandsTakeEffect_3 ((256 : Mb)) ((9 : Fin 64))) 1 < 64) ∧
    (100 ≤ u32 (payloadOf w_SequenceCommandsTakeEffect_3 ((256 : Mb)) ((9 : Fin 64))) 4 ∧ u32 (payloadOf w_SequenceCommandsTakeEffect_3 ((256 : Mb)) ((9 : Fin 64))) 4 ≤ 100000) ∧
    (u32 (payloadOf w_SequenceCommandsTakeEffect_3 ((256 : Mb)) ((9 : Fin 64))) 8 ≤ 100000) ∧
    after (exec (.seqSetSlot ((256 : Mb)) ((9 : Fin 64))) w_SequenceCommandsTakeEffect_3) (fun t => decide (((t.seq (u8 (payloadOf w_SequenceCommandsTakeEffect_3 ((256 : Mb)) ((9 : Fin 64))) 0)).rstGpio = some (u8 (payloadOf w_SequenceCommandsTakeEffect_3 ((256 : Mb)) ((9 : Fin 64))) 1) ∧ (t.seq (u8 (payloadOf w_SequenceCommandsTakeEffect_3 ((256 : Mb)) ((9 : Fin 64))) 0)).widthUs = u32 (payloadOf w_SequenceCommandsTakeEffect_3 ((256 : Mb)) ((9 : Fin 64))) 4 ∧ (t.seq (u8 (payloadOf w_SequenceCommandsTakeEffect_3 ((256 : Mb)) ((9 : Fin 64))) 0)).rstDelayUs = u32 (payloadOf w_SequenceCommandsTakeEffect_3 ((256 : Mb)) ((9 : Fin 64))) 8) ∧ (Done t ((256 : Mb)) ((9 : Fin 64)) (cmdOf w_SequenceCommandsTakeEffect_3 ((256 : Mb)) ((9 : Fin 64))) 0 0 0) ∧ (t.skeins = w_SequenceCommandsTakeEffect_3.skeins) ∧ (t.stitches = w_SequenceCommandsTakeEffect_3.stitches))) = true := by decide +kernel

def w_SequenceCommandsTakeEffect_4 : State :=
    (withCmd ({ unitA.updSk 7 (fun x => { x with known := true, slot := 3 }) with rails := [(7, some {})] }) 256 9 0xd03 [3, 0])

theorem test_SequenceCommandsTakeEffect_4 :
    (Ready w_SequenceCommandsTakeEffect_4 ((256 : Mb)) ((9 : Fin 64)) 0xD03) ∧
    (NoRung w_SequenceCommandsTakeEffect_4) ∧
    (w_SequenceCommandsTakeEffect_4.slotBad ((256 : Mb)) (u8 (payloadOf w_SequenceCommandsTakeEffect_4 ((256 : Mb)) ((9 : Fin 64))) 0) = false) ∧
    (u8 (payloadOf w_SequenceCommandsTakeEffect_4 ((256 : Mb)) ((9 : Fin 64))) 1 = 0) ∧
    (w_SequenceCommandsTakeEffect_4.ownsPort (u8 (payloadOf w_SequenceCommandsTakeEffect_4 ((256 : Mb)) ((9 : Fin 64))) 0) = true) ∧
    (w_SequenceCommandsTakeEffect_4.seqSt (u8 (payloadOf w_SequenceCommandsTakeEffect_4 ((256 : Mb)) ((9 : Fin 64))) 0) = 0) ∧
    (w_SequenceCommandsTakeEffect_4.get CHASSIS_PWR_state = 0) ∧
    (w_SequenceCommandsTakeEffect_4.railSkeins (u8 (payloadOf w_SequenceCommandsTakeEffect_4 ((256 : Mb)) ((9 : Fin 64))) 0) ≠ []) ∧
    after (exec (.seqCtrl ((256 : Mb)) ((9 : Fin 64))) w_SequenceCommandsTakeEffect_4) (fun t => decide ((t.seqSt (u8 (payloadOf w_SequenceCommandsTakeEffect_4 ((256 : Mb)) ((9 : Fin 64))) 0) = 1) ∧ ((t.seq (u8 (payloadOf w_SequenceCommandsTakeEffect_4 ((256 : Mb)) ((9 : Fin 64))) 0)).t0 = w_SequenceCommandsTakeEffect_4.ct ∧ (t.seq (u8 (payloadOf w_SequenceCommandsTakeEffect_4 ((256 : Mb)) ((9 : Fin 64))) 0)).ctrl = some (((256 : Mb)).val, ((9 : Fin 64)).val, 0)) ∧ (t.get (SEQ_STATE_rst (u8 (payloadOf w_SequenceCommandsTakeEffect_4 ((256 : Mb)) ((9 : Fin 64))) 0)) = 1) ∧ (t.skeins = w_SequenceCommandsTakeEffect_4.skeins) ∧ (t.stitches = w_SequenceCommandsTakeEffect_4.stitches) ∧ (t.mem = w_SequenceCommandsTakeEffect_4.mem))) = true := by decide +kernel

def w_SequenceCommandsTakeEffect_5 : State :=
    (withCmd ({ ((unitA.updSk 7 (fun x => { x with known := true, slot := 3, engine := some 2, job := { x.job with skeinState := 2 } })).setF (SEQ_STATE_state 3) 2) with rails := [(7, some { tslot := 2, onDelay := 25, offDelay := 10, sdMs := 5, action := 1 })], railRuns := [(7, { issued := true, good := true })], ct := 8000000 }) 256 9 0xd03 [3, 1])

theorem test_SequenceCommandsTakeEffect_5 :
    (Ready w_SequenceCommandsTakeEffect_5 ((256 : Mb)) ((9 : Fin 64)) 0xD03) ∧
    (NoRung w_SequenceCommandsTakeEffect_5) ∧
    (w_SequenceCommandsTakeEffect_5.slotBad ((256 : Mb)) (u8 (payloadOf w_SequenceCommandsTakeEffect_5 ((256 : Mb)) ((9 : Fin 64))) 0) = false) ∧
    (u8 (payloadOf w_SequenceCommandsTakeEffect_5 ((256 : Mb)) ((9 : Fin 64))) 1 = 1) ∧
    (w_SequenceCommandsTakeEffect_5.ownsPort (u8 (payloadOf w_SequenceCommandsTakeEffect_5 ((256 : Mb)) ((9 : Fin 64))) 0) = true) ∧
    (w_SequenceCommandsTakeEffect_5.seqSt (u8 (payloadOf w_SequenceCommandsTakeEffect_5 ((256 : Mb)) ((9 : Fin 64))) 0) = 2) ∧
    ((w_SequenceCommandsTakeEffect_5.seq (u8 (payloadOf w_SequenceCommandsTakeEffect_5 ((256 : Mb)) ((9 : Fin 64))) 0)).ctrl = none) ∧
    (((7 : Fin 2048)).val ∈ w_SequenceCommandsTakeEffect_5.railSkeins (u8 (payloadOf w_SequenceCommandsTakeEffect_5 ((256 : Mb)) ((9 : Fin 64))) 0)) ∧
    (w_SequenceCommandsTakeEffect_5.skSt ((7 : Fin 2048)) = 2) ∧
    after (exec (.seqCtrl ((256 : Mb)) ((9 : Fin 64))) w_SequenceCommandsTakeEffect_5) (fun t => decide ((t.seqSt (u8 (payloadOf w_SequenceCommandsTakeEffect_5 ((256 : Mb)) ((9 : Fin 64))) 0) = 3) ∧ ((t.seq (u8 (payloadOf w_SequenceCommandsTakeEffect_5 ((256 : Mb)) ((9 : Fin 64))) 0)).t0 = w_SequenceCommandsTakeEffect_5.ct ∧ (t.seq (u8 (payloadOf w_SequenceCommandsTakeEffect_5 ((256 : Mb)) ((9 : Fin 64))) 0)).ctrl = some (((256 : Mb)).val, ((9 : Fin 64)).val, 1)) ∧ (t.get (SEQ_STATE_rst (u8 (payloadOf w_SequenceCommandsTakeEffect_5 ((256 : Mb)) ((9 : Fin 64))) 0)) = 1) ∧ (t.skeins = w_SequenceCommandsTakeEffect_5.skeins) ∧ (t.stitches = w_SequenceCommandsTakeEffect_5.stitches) ∧ (t.mem = w_SequenceCommandsTakeEffect_5.mem))) = true := by decide +kernel

def w_SequenceCommandsTakeEffect_6 : State :=
    (withCmd (unitA.setF (SEQ_STATE_state 3) 4) 256 9 0xd03 [3, 2])

theorem test_SequenceCommandsTakeEffect_6 :
    (Ready w_SequenceCommandsTakeEffect_6 ((256 : Mb)) ((9 : Fin 64)) 0xD03) ∧
    (w_SequenceCommandsTakeEffect_6.slotBad ((256 : Mb)) (u8 (payloadOf w_SequenceCommandsTakeEffect_6 ((256 : Mb)) ((9 : Fin 64))) 0) = false) ∧
    (u8 (payloadOf w_SequenceCommandsTakeEffect_6 ((256 : Mb)) ((9 : Fin 64))) 1 = 2) ∧
    (w_SequenceCommandsTakeEffect_6.ownsPort (u8 (payloadOf w_SequenceCommandsTakeEffect_6 ((256 : Mb)) ((9 : Fin 64))) 0) = true) ∧
    (w_SequenceCommandsTakeEffect_6.seqSt (u8 (payloadOf w_SequenceCommandsTakeEffect_6 ((256 : Mb)) ((9 : Fin 64))) 0) = 4) ∧
    (w_SequenceCommandsTakeEffect_6.skSt (w_SequenceCommandsTakeEffect_6.get (SEQ_STATE_fail_skein (u8 (payloadOf w_SequenceCommandsTakeEffect_6 ((256 : Mb)) ((9 : Fin 64))) 0))) ≠ 5) ∧
    after (exec (.seqCtrl ((256 : Mb)) ((9 : Fin 64))) w_SequenceCommandsTakeEffect_6) (fun t => decide ((t.seqSt (u8 (payloadOf w_SequenceCommandsTakeEffect_6 ((256 : Mb)) ((9 : Fin 64))) 0) = 0) ∧ (Done t ((256 : Mb)) ((9 : Fin 64)) (cmdOf w_SequenceCommandsTakeEffect_6 ((256 : Mb)) ((9 : Fin 64))) 0 0 0) ∧ (t.skeins = w_SequenceCommandsTakeEffect_6.skeins) ∧ (t.stitches = w_SequenceCommandsTakeEffect_6.stitches))) = true := by decide +kernel

def w_SequenceCommandsTakeEffect_7 : State :=
    (withCmd (unitA.setF (SEQ_STATE_tslot 3) 9) 256 9 0xd04 [3])

theorem test_SequenceCommandsTakeEffect_7 :
    (Ready w_SequenceCommandsTakeEffect_7 ((256 : Mb)) ((9 : Fin 64)) 0xD04) ∧
    (w_SequenceCommandsTakeEffect_7.slotBad ((256 : Mb)) (u8 (payloadOf w_SequenceCommandsTakeEffect_7 ((256 : Mb)) ((9 : Fin 64))) 0) = false) ∧
    after (exec (.seqQuery ((256 : Mb)) ((9 : Fin 64))) w_SequenceCommandsTakeEffect_7) (fun t => decide ((Done t ((256 : Mb)) ((9 : Fin 64)) (cmdOf w_SequenceCommandsTakeEffect_7 ((256 : Mb)) ((9 : Fin 64))) 0 0 (w_SequenceCommandsTakeEffect_7.word (aSEQ_STATE (u8 (payloadOf w_SequenceCommandsTakeEffect_7 ((256 : Mb)) ((9 : Fin 64))) 0))).toNat) ∧ (t.seqs = w_SequenceCommandsTakeEffect_7.seqs) ∧ (t.skeins = w_SequenceCommandsTakeEffect_7.skeins))) = true := by decide +kernel

def w_SequenceCommandsTakeEffect_8 : State :=
    (withCmd ({ (unitA.setF NW_STATUS_scan_done 1).setF NV_STATUS_nv1_lost 1 with nv := { die0 := [(131072, { seq := 4, holder := 256, keyGen := 0, data := .seqRec 0 7 3 2 0 4 0 0 })] } }) 256 9 0xd05 [255, 255, 255, 255])

theorem test_SequenceCommandsTakeEffect_8 :
    (Ready w_SequenceCommandsTakeEffect_8 ((256 : Mb)) ((9 : Fin 64)) 0xD05) ∧
    (w_SequenceCommandsTakeEffect_8.nv.queue = []) ∧
    (w_SequenceCommandsTakeEffect_8.get NW_STATUS_scan_done = 1) ∧
    (w_SequenceCommandsTakeEffect_8.get NV_STATUS_nv0_lost = 0 ∧ w_SequenceCommandsTakeEffect_8.get NV_STATUS_nv1_lost = 1) ∧
    (w_SequenceCommandsTakeEffect_8.nv.die0 = [(131072, (({ seq := 4, holder := 256, keyGen := 0, data := .seqRec 0 7 3 2 0 4 0 0 } : NvCopy)))] ∧ w_SequenceCommandsTakeEffect_8.nv.die1 = []) ∧
    (131072 / 65536 = 2) ∧
    (w_SequenceCommandsTakeEffect_8.goodCopy (({ seq := 4, holder := 256, keyGen := 0, data := .seqRec 0 7 3 2 0 4 0 0 } : NvCopy)) = true) ∧
    (((256 : Mb)).val = 256 ∨ (({ seq := 4, holder := 256, keyGen := 0, data := .seqRec 0 7 3 2 0 4 0 0 } : NvCopy)).holder = ((256 : Mb)).val) ∧
    (u32 (payloadOf w_SequenceCommandsTakeEffect_8 ((256 : Mb)) ((9 : Fin 64))) 0 = 0xFFFFFFFF ∨ newer (({ seq := 4, holder := 256, keyGen := 0, data := .seqRec 0 7 3 2 0 4 0 0 } : NvCopy)).seq (u32 (payloadOf w_SequenceCommandsTakeEffect_8 ((256 : Mb)) ((9 : Fin 64))) 0) = true) ∧
    (w_SequenceCommandsTakeEffect_8.faults.inject = none) ∧
    ((({ seq := 4, holder := 256, keyGen := 0, data := .seqRec 0 7 3 2 0 4 0 0 } : NvCopy)).bytes.length = 32) ∧
    after (exec (.seqLogRead ((256 : Mb)) ((9 : Fin 64))) w_SequenceCommandsTakeEffect_8) (fun t => decide ((Mem.readBytes Mem.blank t.mem (winBase ((256 : Mb)) + 0x4000 + 256 * ((9 : Fin 64)) + 16) 32 = (({ seq := 4, holder := 256, keyGen := 0, data := .seqRec 0 7 3 2 0 4 0 0 } : NvCopy)).bytes) ∧ (Done t ((256 : Mb)) ((9 : Fin 64)) (cmdOf w_SequenceCommandsTakeEffect_8 ((256 : Mb)) ((9 : Fin 64))) 0 0 1) ∧ (t.nv = w_SequenceCommandsTakeEffect_8.nv) ∧ (t.skeins = w_SequenceCommandsTakeEffect_8.skeins))) = true := by decide +kernel

def w_ConvertersSampleAndCalibrate_1 : State :=
    { (((unitA.setF (ADC_CTRL_en 1) 1).setF (ADC_SEQ_input 1 0) 8).updAdc 1 (fun x => { x with running := true, startAt := 0 })) with ct := 8000 }

theorem test_ConvertersSampleAndCalibrate_1 :
    (NoRung w_ConvertersSampleAndCalibrate_1) ∧
    (w_ConvertersSampleAndCalibrate_1.swTouched = []) ∧
    (w_ConvertersSampleAndCalibrate_1.mainsSlot ((1 : Fin 4)) = none) ∧
    (w_ConvertersSampleAndCalibrate_1.slotGone ((1 : Fin 4)) = false) ∧
    (w_ConvertersSampleAndCalibrate_1.capInput ((1 : Fin 4)) = none) ∧
    ((w_ConvertersSampleAndCalibrate_1.adc ((1 : Fin 4))).trigAt ≠ some w_ConvertersSampleAndCalibrate_1.ct) ∧
    ((w_ConvertersSampleAndCalibrate_1.adc ((1 : Fin 4))).running = true) ∧
    ((w_ConvertersSampleAndCalibrate_1.adc ((1 : Fin 4))).startAt < w_ConvertersSampleAndCalibrate_1.ct / 800 * 800) ∧
    ((w_ConvertersSampleAndCalibrate_1.adc ((1 : Fin 4))).entry = 0 ∧ (w_ConvertersSampleAndCalibrate_1.adc ((1 : Fin 4))).conv = 0 ∧ (w_ConvertersSampleAndCalibrate_1.adc ((1 : Fin 4))).sum = 0) ∧
    (w_ConvertersSampleAndCalibrate_1.get (ADC_CTRL_last ((1 : Fin 4))) = 0) ∧
    (w_ConvertersSampleAndCalibrate_1.get (ADC_CTRL_continuous ((1 : Fin 4))) = 0) ∧
    (w_ConvertersSampleAndCalibrate_1.get (ADC_SEQ_a ((1 : Fin 4)) 0) = 0) ∧
    (w_ConvertersSampleAndCalibrate_1.get (ADC_SEQ_input ((1 : Fin 4)) 0) = 8) ∧
    (w_ConvertersSampleAndCalibrate_1.get (ADC_SEQ_shift ((1 : Fin 4)) 0) = 0) ∧
    (0 ≤ 8) ∧
    ((w_ConvertersSampleAndCalibrate_1.ain (32 * ((1 : Fin 4)) + 8)).owBase = none) ∧
    ((w_ConvertersSampleAndCalibrate_1.ain (32 * ((1 : Fin 4)) + 8)).holdUntil ≤ w_ConvertersSampleAndCalibrate_1.ct) ∧
    (((1234 : Int)) = adcResult ((1234 : BitVec 12)).toNat 1 (w_ConvertersSampleAndCalibrate_1.adcZero ((1 : Fin 4)) 8) (w_ConvertersSampleAndCalibrate_1.adcGain ((1 : Fin 4)) 8) 0) ∧
    after (exec (.adcSlot ((1 : Fin 4)) ((1234 : BitVec 12))) w_ConvertersSampleAndCalibrate_1) (fun t => decide ((t.get (ADC_RES_value ((1 : Fin 4)) 8) = (clampI 0 65535 ((1234 : Int))).toNat) ∧ (t.get (ADC_RES_sat ((1 : Fin 4)) 8) = (if clampI 0 65535 ((1234 : Int)) = ((1234 : Int)) then 0 else 1)) ∧ (t.get (ADC_RES_valid ((1 : Fin 4)) 8) = (if w_ConvertersSampleAndCalibrate_1.get (ADC_RES_open ((1 : Fin 4)) 8) = 0 ∧ w_ConvertersSampleAndCalibrate_1.get (ADC_INCFG_cal_state ((1 : Fin 4)) 8) < 2 then 1 else 0)) ∧ (t.get (ADC_RES_seq ((1 : Fin 4)) 8) = (w_ConvertersSampleAndCalibrate_1.get (ADC_RES_seq ((1 : Fin 4)) 8) + 1) % 4096) ∧ (t.get (ADC_STATUS_done ((1 : Fin 4))) = 1 ∧ t.get (ADC_STATUS_busy ((1 : Fin 4))) = 0) ∧ ((t.adc ((1 : Fin 4))).running = false) ∧ (Counted w_ConvertersSampleAndCalibrate_1 t (ADC_CNT_CONV_v ((1 : Fin 4)))) ∧ (t.stitches = w_ConvertersSampleAndCalibrate_1.stitches) ∧ (t.mem = w_ConvertersSampleAndCalibrate_1.mem))) = true := by decide +kernel

def w_ConvertersSampleAndCalibrate_2 : State :=
    unitA.updAin 40 (fun x => { x with cap := some (0, 3, 9, 0) })

theorem test_ConvertersSampleAndCalibrate_2 :
    (w_ConvertersSampleAndCalibrate_2.mainsSlot ((1 : Fin 4)) = none) ∧
    (w_ConvertersSampleAndCalibrate_2.slotGone ((1 : Fin 4)) = false) ∧
    (w_ConvertersSampleAndCalibrate_2.checkShare ((1 : Fin 4)) = true) ∧
    (w_ConvertersSampleAndCalibrate_2.capInput ((1 : Fin 4)) = some 40) ∧
    ((w_ConvertersSampleAndCalibrate_2.ain 40).cap = some (0, 3, 9, 0)) ∧
    after (exec (.adcSlot ((1 : Fin 4)) ((7 : BitVec 12))) w_ConvertersSampleAndCalibrate_2) (fun t => decide (((t.ain 40).cap = some (0, 3 + 1, 9 + ((7 : BitVec 12)).toNat, 0)) ∧ ((t.adc ((1 : Fin 4))).running = (w_ConvertersSampleAndCalibrate_2.adc ((1 : Fin 4))).running) ∧ (t.stitches = w_ConvertersSampleAndCalibrate_2.stitches) ∧ (t.mem = w_ConvertersSampleAndCalibrate_2.mem))) = true := by decide +kernel

theorem test_ConvertersSampleAndCalibrate_3 :
    (unitA.mainsSlot ((1 : Fin 4)) = none) ∧
    (unitA.capInput ((1 : Fin 4)) = none) ∧
    ((unitA.adc ((1 : Fin 4))).running = false) ∧
    after (exec (.adcSlot ((1 : Fin 4)) ((7 : BitVec 12))) unitA) (fun t => decide ((t = unitA))) = true := by decide +kernel

theorem test_ConvertersSampleAndCalibrate_4 :
    (Runs unitA) ∧
    (NoRung unitA) ∧
    (unitA.faults.insts = []) ∧
    (unitA.hwTouched = []) ∧
    (((5 : Word)).bit 0 = true) ∧
    (((5 : Word)).bit 2 = true) ∧
    (((5 : Word)).bit 3 = false) ∧
    ((unitA.adc ((1 : Fin 4))).running = false) ∧
    ((unitA.adc ((1 : Fin 4))).stopAt ≠ some unitA.ct) ∧
    after (exec (.adcStart ((1 : Fin 4)) ((5 : Word))) unitA) (fun t => decide (((t.adc ((1 : Fin 4))).running = true ∧ (t.adc ((1 : Fin 4))).startAt = unitA.ct) ∧ (t.get (ADC_STATUS_busy ((1 : Fin 4))) = 1) ∧ (t.ains = unitA.ains) ∧ (t.mem = unitA.mem))) = true := by decide +kernel

def w_ConvertersSampleAndCalibrate_5 : State :=
    { (((unitA.setF (ADC_CTRL_en 1) 1).setF (ADC_SEQ_input 1 0) 8).updAdc 1 (fun x => { x with running := true, startAt := 0 })) with ct := 8000 }

theorem test_ConvertersSampleAndCalibrate_5 :
    (Runs w_ConvertersSampleAndCalibrate_5) ∧
    (NoRung w_ConvertersSampleAndCalibrate_5) ∧
    (w_ConvertersSampleAndCalibrate_5.hwTouched = []) ∧
    (((5 : Word)).bit 0 = true) ∧
    (((5 : Word)).bit 2 = true) ∧
    (((5 : Word)).bit 3 = false) ∧
    ((w_ConvertersSampleAndCalibrate_5.adc ((1 : Fin 4))).running = true) ∧
    ((w_ConvertersSampleAndCalibrate_5.adc ((1 : Fin 4))).startAt ≠ w_ConvertersSampleAndCalibrate_5.ct) ∧
    ((w_ConvertersSampleAndCalibrate_5.adc ((1 : Fin 4))).stopAt ≠ some w_ConvertersSampleAndCalibrate_5.ct) ∧
    after (exec (.adcStart ((1 : Fin 4)) ((5 : Word))) w_ConvertersSampleAndCalibrate_5) (fun t => decide (((t.adc ((1 : Fin 4))).trigAt = some w_ConvertersSampleAndCalibrate_5.ct) ∧ ((t.adc ((1 : Fin 4))).running = true ∧ (t.adc ((1 : Fin 4))).startAt = (w_ConvertersSampleAndCalibrate_5.adc ((1 : Fin 4))).startAt) ∧ (t.get (ADC_CNT_OVERRUN_v ((1 : Fin 4))) = w_ConvertersSampleAndCalibrate_5.get (ADC_CNT_OVERRUN_v ((1 : Fin 4)))) ∧ (t.ains = w_ConvertersSampleAndCalibrate_5.ains) ∧ (t.mem = w_ConvertersSampleAndCalibrate_5.mem))) = true := by decide +kernel

def w_ConvertersSampleAndCalibrate_6 : State :=
    (((unitA.setF (ADC_CTRL_en 1) 1).setF (ADC_SEQ_input 1 0) 8).updAdc 1 (fun x => { x with running := true, startAt := 0 })).updAdc 1 (fun x => { x with trigAt := some 0 })

theorem test_ConvertersSampleAndCalibrate_6 :
    (Runs w_ConvertersSampleAndCalibrate_6) ∧
    (MayRaise w_ConvertersSampleAndCalibrate_6 .adcOverrun ((1 : Fin 4))) ∧
    (w_ConvertersSampleAndCalibrate_6.faults.insts = []) ∧
    (w_ConvertersSampleAndCalibrate_6.faults.inject = none) ∧
    (w_ConvertersSampleAndCalibrate_6.rst.restartAt = none) ∧
    (w_ConvertersSampleAndCalibrate_6.ports = [] ∧ w_ConvertersSampleAndCalibrate_6.mers = []) ∧
    ((w_ConvertersSampleAndCalibrate_6.adc ((1 : Fin 4))).trigAt.isSome = true) ∧
    (∀ j : Fin 4, j ≠ ((1 : Fin 4)) → (w_ConvertersSampleAndCalibrate_6.adc j).trigAt = none) ∧
    after (exec (.fabricCycle) w_ConvertersSampleAndCalibrate_6) (fun t => decide ((t.get (ADC_STATUS_overrun_seen ((1 : Fin 4))) = 1) ∧ (Counted w_ConvertersSampleAndCalibrate_6 t (ADC_CNT_OVERRUN_v ((1 : Fin 4)))) ∧ (t.raised .adcOverrun ((1 : Fin 4)) = true) ∧ ((t.adc ((1 : Fin 4))).trigAt = none) ∧ ((t.adc ((1 : Fin 4))).running = (w_ConvertersSampleAndCalibrate_6.adc ((1 : Fin 4))).running) ∧ (t.ains = w_ConvertersSampleAndCalibrate_6.ains))) = true := by decide +kernel

def w_ConvertersSampleAndCalibrate_7 : State :=
    { (((unitA.setF (ADC_CTRL_en 1) 1).setF (ADC_SEQ_input 1 0) 8).updAdc 1 (fun x => { x with running := true, startAt := 0 })) with ct := 8000 }

theorem test_ConvertersSampleAndCalibrate_7 :
    (Runs w_ConvertersSampleAndCalibrate_7) ∧
    (NoRung w_ConvertersSampleAndCalibrate_7) ∧
    (w_ConvertersSampleAndCalibrate_7.hwTouched = []) ∧
    (((9 : Word)).bit 3 = true) ∧
    after (exec (.adcStop ((1 : Fin 4)) ((9 : Word))) w_ConvertersSampleAndCalibrate_7) (fun t => decide (((t.adc ((1 : Fin 4))).running = false) ∧ (t.get (ADC_STATUS_busy ((1 : Fin 4))) = 0) ∧ (t.ains = w_ConvertersSampleAndCalibrate_7.ains) ∧ (t.mem = w_ConvertersSampleAndCalibrate_7.mem))) = true := by decide +kernel

def w_ConvertersSampleAndCalibrate_8 : State :=
    { (unitA.setF (ADC_INCFG_ow_en 1 8) 1) with ct := 160000000 }

theorem test_ConvertersSampleAndCalibrate_8 :
    (w_ConvertersSampleAndCalibrate_8.get (ADC_INCFG_ow_en (((40 : Fin 128)) / 32) (((40 : Fin 128)) % 32)) = 1) ∧
    (w_ConvertersSampleAndCalibrate_8.get THM_STATUS_stage = 0) ∧
    (∀ j < ((40 : Fin 128)).val % 32, w_ConvertersSampleAndCalibrate_8.owDue (32 * (((40 : Fin 128)).val / 32) + j) = false) ∧
    (∀ x ∈ w_ConvertersSampleAndCalibrate_8.ains, x.1 / 32 = ((40 : Fin 128)).val / 32 → x.2.owBase = none) ∧
    ((w_ConvertersSampleAndCalibrate_8.ain ((40 : Fin 128))).owAt + ms (w_ConvertersSampleAndCalibrate_8.get (ADC_OW_CFG_period_ms (((40 : Fin 128)) / 32))) ≤ w_ConvertersSampleAndCalibrate_8.ct) ∧
    ((w_ConvertersSampleAndCalibrate_8.ain ((40 : Fin 128))).cap = none) ∧
    (w_ConvertersSampleAndCalibrate_8.checkSlot (((40 : Fin 128)) / 32) = true) ∧
    after (exec (.owCheck ((40 : Fin 128)) ((900 : BitVec 12))) w_ConvertersSampleAndCalibrate_8) (fun t => decide (((t.ain ((40 : Fin 128))).owBase = some ((900 : BitVec 12)).toNat ∧ (t.ain ((40 : Fin 128))).owAt = w_ConvertersSampleAndCalibrate_8.ct) ∧ (t.get (ADC_RES_value (((40 : Fin 128)) / 32) (((40 : Fin 128)) % 32)) = w_ConvertersSampleAndCalibrate_8.get (ADC_RES_value (((40 : Fin 128)) / 32) (((40 : Fin 128)) % 32))) ∧ (t.stitches = w_ConvertersSampleAndCalibrate_8.stitches) ∧ (t.mem = w_ConvertersSampleAndCalibrate_8.mem))) = true := by decide +kernel

def w_ConvertersSampleAndCalibrate_9 : State :=
    { (unitA.updAin 40 (fun x => { x with owBase := some 900, openRun := 1 })) with ct := 160000 }

theorem test_ConvertersSampleAndCalibrate_9 :
    (MayRaise w_ConvertersSampleAndCalibrate_9 .adcOpenWire ((40 : Fin 128))) ∧
    ((w_ConvertersSampleAndCalibrate_9.ain ((40 : Fin 128))).owBase = some 900) ∧
    ((w_ConvertersSampleAndCalibrate_9.ain ((40 : Fin 128))).owAt + us (w_ConvertersSampleAndCalibrate_9.get (ADC_OW_CFG_settle_us (((40 : Fin 128)) / 32))) ≤ w_ConvertersSampleAndCalibrate_9.ct) ∧
    (w_ConvertersSampleAndCalibrate_9.checkSlot (((40 : Fin 128)) / 32) = true) ∧
    (900 + w_ConvertersSampleAndCalibrate_9.get (ADC_OW_CFG_thr (((40 : Fin 128)) / 32)) < ((1000 : BitVec 12)).toNat) ∧
    (1 ≤ (w_ConvertersSampleAndCalibrate_9.ain ((40 : Fin 128))).openRun) ∧
    (w_ConvertersSampleAndCalibrate_9.get (ADC_RES_open (((40 : Fin 128)) / 32) (((40 : Fin 128)) % 32)) = 0) ∧
    after (exec (.owSettleExpire ((40 : Fin 128)) ((1000 : BitVec 12))) w_ConvertersSampleAndCalibrate_9) (fun t => decide ((t.get (ADC_RES_open (((40 : Fin 128)) / 32) (((40 : Fin 128)) % 32)) = 1) ∧ (t.get (ADC_STATUS_ow_seen (((40 : Fin 128)) / 32)) = 1) ∧ (t.raised .adcOpenWire ((40 : Fin 128)) = true) ∧ ((t.ain ((40 : Fin 128))).owBase = none ∧ (t.ain ((40 : Fin 128))).holdUntil = w_ConvertersSampleAndCalibrate_9.ct + us (w_ConvertersSampleAndCalibrate_9.get (ADC_OW_CFG_settle_us (((40 : Fin 128)) / 32)))) ∧ (t.stitches = w_ConvertersSampleAndCalibrate_9.stitches))) = true := by decide +kernel

theorem test_ConvertersSampleAndCalibrate_10 :
    ((unitA.ain ((40 : Fin 128))).owBase = none) ∧
    after (exec (.owSettleExpire ((40 : Fin 128)) ((1000 : BitVec 12))) unitA) (fun t => decide ((t = unitA))) = true := by decide +kernel

def w_ConvertersSampleAndCalibrate_11 : State :=
    unitA.updAin 40 (fun x => { x with cap := some (0, 256, 1600, 0) })

theorem test_ConvertersSampleAndCalibrate_11 :
    ((w_ConvertersSampleAndCalibrate_11.ain ((40 : Fin 128))).cap = some (0, 256, 1600, 0)) ∧
    ((w_ConvertersSampleAndCalibrate_11.ain ((40 : Fin 128))).capFor = none) ∧
    ((divRound 1600 16).natAbs ≤ 2048) ∧
    after (exec (.calCaptureDone ((40 : Fin 128))) w_ConvertersSampleAndCalibrate_11) (fun t => decide ((t.get (ADC_CAL_z16 (((40 : Fin 128)) / 32) (((40 : Fin 128)) % 32)) = toField 16 (divRound 1600 16)) ∧ (t.get (ADC_INCFG_cal_state (((40 : Fin 128)) / 32) (((40 : Fin 128)) % 32)) = 2) ∧ ((t.ain ((40 : Fin 128))).cap = none) ∧ (t.faults = w_ConvertersSampleAndCalibrate_11.faults) ∧ (t.mem = w_ConvertersSampleAndCalibrate_11.mem))) = true := by decide +kernel

def w_ConvertersSampleAndCalibrate_12 : State :=
    (unitA.updAin 40 (fun x => { x with cap := some (0, 256, 160000, 0), capFor := some (256, 9) })).updSlotC (slotKey 256 9) (fun x => { x with phase := .started })

theorem test_ConvertersSampleAndCalibrate_12 :
    ((w_ConvertersSampleAndCalibrate_12.ain ((40 : Fin 128))).cap = some (0, 256, 160000, 0)) ∧
    ((w_ConvertersSampleAndCalibrate_12.ain ((40 : Fin 128))).capFor = some (((256 : Mb)).val, ((9 : Fin 64)).val)) ∧
    (2048 < (divRound 160000 16).natAbs) ∧
    ((cmdOf w_ConvertersSampleAndCalibrate_12 ((256 : Mb)) ((9 : Fin 64))).phase = .started) ∧
    (w_ConvertersSampleAndCalibrate_12.ringFull ((256 : Mb)) = false ∧ (w_ConvertersSampleAndCalibrate_12.mbx ((256 : Mb))).cqWait = []) ∧
    ((cmdOf w_ConvertersSampleAndCalibrate_12 ((256 : Mb)) ((9 : Fin 64))).mirrored = false) ∧
    (Tail w_ConvertersSampleAndCalibrate_12 ((256 : Mb)) ((9 : Fin 64))) ∧
    after (exec (.calCaptureDone ((40 : Fin 128))) w_ConvertersSampleAndCalibrate_12) (fun t => decide ((t.get (ADC_INCFG_cal_state (((40 : Fin 128)) / 32) (((40 : Fin 128)) % 32)) = 3) ∧ (t.word (aADC_CAL (((40 : Fin 128)) / 32) (((40 : Fin 128)) % 32)) = w_ConvertersSampleAndCalibrate_12.word (aADC_CAL (((40 : Fin 128)) / 32) (((40 : Fin 128)) % 32))) ∧ (Done t ((256 : Mb)) ((9 : Fin 64)) (cmdOf w_ConvertersSampleAndCalibrate_12 ((256 : Mb)) ((9 : Fin 64))) 9 1 0) ∧ ((t.ain ((40 : Fin 128))).cap = none))) = true := by decide +kernel

def w_ConvertersSampleAndCalibrate_13 : State :=
    unitA.updAin 40 (fun x => { x with cap := some (1, 256, 512000, 2000) })

theorem test_ConvertersSampleAndCalibrate_13 :
    (w_ConvertersSampleAndCalibrate_13.faults.insts = []) ∧
    ((w_ConvertersSampleAndCalibrate_13.ain ((40 : Fin 128))).cap = some (1, 256, 512000, 2000)) ∧
    ((w_ConvertersSampleAndCalibrate_13.ain ((40 : Fin 128))).capFor = none) ∧
    (divRound 512000 16 ≠ w_ConvertersSampleAndCalibrate_13.adcZero (((40 : Fin 128)) / 32) (((40 : Fin 128)) % 32)) ∧
    (divRound ((2000 * 16 * 32768 : Nat) : Int) (divRound 512000 16 - w_ConvertersSampleAndCalibrate_13.adcZero (((40 : Fin 128)) / 32) (((40 : Fin 128)) % 32)) = 32768) ∧
    (24576 ≤ 32768 ∧ 32768 ≤ 40960) ∧
    after (exec (.calCaptureDone ((40 : Fin 128))) w_ConvertersSampleAndCalibrate_13) (fun t => decide ((t.get (ADC_CAL_gain (((40 : Fin 128)) / 32) (((40 : Fin 128)) % 32)) = 32768) ∧ (t.get (ADC_INCFG_cal_state (((40 : Fin 128)) / 32) (((40 : Fin 128)) % 32)) = 1) ∧ ((t.ain ((40 : Fin 128))).cap = none) ∧ (t.mem = w_ConvertersSampleAndCalibrate_13.mem))) = true := by decide +kernel

theorem test_ConvertersSampleAndCalibrate_14 :
    (Ready ((withCmd (unitA) 256 9 0xe01 [40, 0, 0])) ((256 : Mb)) ((9 : Fin 64)) 0xE01) ∧
    (NoRung ((withCmd (unitA) 256 9 0xe01 [40, 0, 0]))) ∧
    ((u16 (payloadOf ((withCmd (unitA) 256 9 0xe01 [40, 0, 0])) ((256 : Mb)) ((9 : Fin 64))) 0) < 128) ∧
    (u8 (payloadOf ((withCmd (unitA) 256 9 0xe01 [40, 0, 0])) ((256 : Mb)) ((9 : Fin 64))) 2 = 0) ∧
    ((((withCmd (unitA) 256 9 0xe01 [40, 0, 0])).ain (u16 (payloadOf ((withCmd (unitA) 256 9 0xe01 [40, 0, 0])) ((256 : Mb)) ((9 : Fin 64))) 0)).cap = none) ∧
    after (exec (.adcCal ((256 : Mb)) ((9 : Fin 64))) ((withCmd (unitA) 256 9 0xe01 [40, 0, 0]))) (fun t => decide (((t.ain (u16 (payloadOf ((withCmd (unitA) 256 9 0xe01 [40, 0, 0])) ((256 : Mb)) ((9 : Fin 64))) 0)).cap = some (0, 0, 0, 0)) ∧ ((t.ain (u16 (payloadOf ((withCmd (unitA) 256 9 0xe01 [40, 0, 0])) ((256 : Mb)) ((9 : Fin 64))) 0)).capFor = some (((256 : Mb)).val, ((9 : Fin 64)).val)) ∧ (t.get (ADC_STATUS_cal_busy ((u16 (payloadOf ((withCmd (unitA) 256 9 0xe01 [40, 0, 0])) ((256 : Mb)) ((9 : Fin 64))) 0) / 32)) = 1) ∧ (t.stitches = ((withCmd (unitA) 256 9 0xe01 [40, 0, 0])).stitches) ∧ (t.mem = ((withCmd (unitA) 256 9 0xe01 [40, 0, 0])).mem))) = true := by decide +kernel

def w_ConvertersSampleAndCalibrate_15 : State :=
    (withCmd ((unitA.setF (ADC_CAL_z16 1 8) 5).setF (ADC_INCFG_cal_state 1 8) 3) 256 9 0xe01 [40, 0, 2])

theorem test_ConvertersSampleAndCalibrate_15 :
    (Ready w_ConvertersSampleAndCalibrate_15 ((256 : Mb)) ((9 : Fin 64)) 0xE01) ∧
    (NoRung w_ConvertersSampleAndCalibrate_15) ∧
    ((u16 (payloadOf w_ConvertersSampleAndCalibrate_15 ((256 : Mb)) ((9 : Fin 64))) 0) < 128) ∧
    (u8 (payloadOf w_ConvertersSampleAndCalibrate_15 ((256 : Mb)) ((9 : Fin 64))) 2 = 2) ∧
    ((w_ConvertersSampleAndCalibrate_15.ain (u16 (payloadOf w_ConvertersSampleAndCalibrate_15 ((256 : Mb)) ((9 : Fin 64))) 0)).cap = none) ∧
    after (exec (.adcCal ((256 : Mb)) ((9 : Fin 64))) w_ConvertersSampleAndCalibrate_15) (fun t => decide ((t.word (aADC_CAL ((u16 (payloadOf w_ConvertersSampleAndCalibrate_15 ((256 : Mb)) ((9 : Fin 64))) 0) / 32) ((u16 (payloadOf w_ConvertersSampleAndCalibrate_15 ((256 : Mb)) ((9 : Fin 64))) 0) % 32)) = 0x80000000) ∧ (t.get (ADC_INCFG_cal_state ((u16 (payloadOf w_ConvertersSampleAndCalibrate_15 ((256 : Mb)) ((9 : Fin 64))) 0) / 32) ((u16 (payloadOf w_ConvertersSampleAndCalibrate_15 ((256 : Mb)) ((9 : Fin 64))) 0) % 32)) = 0) ∧ (Done t ((256 : Mb)) ((9 : Fin 64)) (cmdOf w_ConvertersSampleAndCalibrate_15 ((256 : Mb)) ((9 : Fin 64))) 0 0 (65536 * 32768)) ∧ (t.stitches = w_ConvertersSampleAndCalibrate_15.stitches))) = true := by decide +kernel

theorem test_ConvertersSampleAndCalibrate_16 :
    (Ready ((withCmd (unitA) 256 9 0xe01 [40, 0, 3])) ((256 : Mb)) ((9 : Fin 64)) 0xE01) ∧
    (NoRung ((withCmd (unitA) 256 9 0xe01 [40, 0, 3]))) ∧
    ((u16 (payloadOf ((withCmd (unitA) 256 9 0xe01 [40, 0, 3])) ((256 : Mb)) ((9 : Fin 64))) 0) < 128) ∧
    (u8 (payloadOf ((withCmd (unitA) 256 9 0xe01 [40, 0, 3])) ((256 : Mb)) ((9 : Fin 64))) 2 = 3) ∧
    ((((withCmd (unitA) 256 9 0xe01 [40, 0, 3])).ain (u16 (payloadOf ((withCmd (unitA) 256 9 0xe01 [40, 0, 3])) ((256 : Mb)) ((9 : Fin 64))) 0)).cap = none) ∧
    (Tail ((withCmd (unitA) 256 9 0xe01 [40, 0, 3])) ((256 : Mb)) ((9 : Fin 64))) ∧
    after (exec (.adcCal ((256 : Mb)) ((9 : Fin 64))) ((withCmd (unitA) 256 9 0xe01 [40, 0, 3]))) (fun t => decide ((Done t ((256 : Mb)) ((9 : Fin 64)) (cmdOf ((withCmd (unitA) 256 9 0xe01 [40, 0, 3])) ((256 : Mb)) ((9 : Fin 64))) 5 0 0) ∧ (t.ains = ((withCmd (unitA) 256 9 0xe01 [40, 0, 3])).ains))) = true := by decide +kernel

def w_ConvertersSampleAndCalibrate_17 : State :=
    (unitA.setF HU_STATUS_state 1).setF (MER_CFG_src 9) 2

theorem test_ConvertersSampleAndCalibrate_17 :
    (Runs w_ConvertersSampleAndCalibrate_17) ∧
    (NoRung w_ConvertersSampleAndCalibrate_17) ∧
    ((w_ConvertersSampleAndCalibrate_17.ph 0).lastCross.all (fun u => decide (u + 2 * w_ConvertersSampleAndCalibrate_17.shelf.pllPeriod ≤ w_ConvertersSampleAndCalibrate_17.ct)) = true) ∧
    (w_ConvertersSampleAndCalibrate_17.shelfOn = false ∨ w_ConvertersSampleAndCalibrate_17.get HU_STATUS_state = 1 ∨ w_ConvertersSampleAndCalibrate_17.get HU_STATUS_state = 3) ∧
    (w_ConvertersSampleAndCalibrate_17.get (MER_CFG_src ((9 : Fin 64))) = 2) ∧
    after (exec (.mainsPllHoldover) w_ConvertersSampleAndCalibrate_17) (fun t => decide ((t.shelf.pllHoldover = true) ∧ (t.get (MER_STATUS_holdover ((9 : Fin 64))) = 1 ∧ t.get (MER_STATUS_locked ((9 : Fin 64))) = 0) ∧ (t.mers = w_ConvertersSampleAndCalibrate_17.mers) ∧ (t.stitches = w_ConvertersSampleAndCalibrate_17.stitches) ∧ (t.mem = w_ConvertersSampleAndCalibrate_17.mem))) = true := by decide +kernel

def w_ConvertersSampleAndCalibrate_18 : State :=
    (unitA.updPh 0 (fun x => { x with lastCross := some 0 })).updShelf (fun h => { h with pllPeriod := 100 })

theorem test_ConvertersSampleAndCalibrate_18 :
    ((w_ConvertersSampleAndCalibrate_18.ph 0).lastCross = some 0) ∧
    (w_ConvertersSampleAndCalibrate_18.ct < 0 + 2 * w_ConvertersSampleAndCalibrate_18.shelf.pllPeriod) ∧
    after (exec (.mainsPllHoldover) w_ConvertersSampleAndCalibrate_18) (fun t => decide ((t = w_ConvertersSampleAndCalibrate_18))) = true := by decide +kernel

theorem test_TemperaturesAreReadAndActedOn_1 :
    (Runs unitA) ∧
    (unitA.unit ≠ 0) ∧
    (unitA.thm.sampleAt ≤ unitA.ct) ∧
    (NoRung unitA) ∧
    (unitA.faults.insts = []) ∧
    (unitA.thm.levels = [false, false, false]) ∧
    (unitA.thm.enterRun = [0, 0, 0, 0]) ∧
    ((unitA.kindCfg .thmSensor 0).1 ≠ 3 ∧ (unitA.kindCfg .thmWarn 0).1 ≠ 3 ∧ (unitA.kindCfg .thmThrottle 0).1 ≠ 3 ∧ (unitA.kindCfg .thmShutdown 0).1 ≠ 3) ∧
    (∀ c : Fin 5, (unitA.sens c).critRun < 2) ∧
    (∀ x ∈ ([some 400, none, some (-5)]), ∀ w ∈ x.toList, w < 2000) ∧
    (([some 400, none, some (-5)])[((2 : Fin 13)).val]? = some (some ((-5 : Int)))) ∧
    (-640 ≤ ((-5 : Int))) ∧
    after (exec (.thmSample ([some 400, none, some (-5)])) unitA) (fun t => decide ((t.get (THM_TEMP_temp ((2 : Fin 13))) = toField 16 ((-5 : Int))) ∧ (t.get (THM_TEMP_valid ((2 : Fin 13))) = 1) ∧ ((t.sens ((2 : Fin 13))).sampledAt = unitA.ct) ∧ (t.thm.sampleAt = unitA.ct + ms 1) ∧ (t.unit = unitA.unit) ∧ (t.slotx = unitA.slotx) ∧ (t.rects = unitA.rects))) = true := by decide +kernel

def w_TemperaturesAreReadAndActedOn_2 : State :=
    (((List.range 5).foldl (fun (z : State) (i : Nat) => (z.setF (THM_TEMP_temp i) 1530).setF (THM_TEMP_valid i) 1) unitA)).updThm (fun x => { x with enterRun := [1, 0, 0, 0] })

theorem test_TemperaturesAreReadAndActedOn_2 :
    (Runs w_TemperaturesAreReadAndActedOn_2) ∧
    (w_TemperaturesAreReadAndActedOn_2.unit ≠ 0) ∧
    (w_TemperaturesAreReadAndActedOn_2.thm.sampleAt ≤ w_TemperaturesAreReadAndActedOn_2.ct) ∧
    (MayRaise w_TemperaturesAreReadAndActedOn_2 .thmWarn 0) ∧
    (∀ c : Fin 5, (w_TemperaturesAreReadAndActedOn_2.sens c).critRun < 2) ∧
    (∀ x ∈ (([] : List (Option Int))), x = none) ∧
    (w_TemperaturesAreReadAndActedOn_2.junction = some ((1530 : Int))) ∧
    (w_TemperaturesAreReadAndActedOn_2.get (THM_LVLR_rate_mode 0) = 0 ∧ w_TemperaturesAreReadAndActedOn_2.get (THM_LVLR_rate_mode 1) = 0 ∧ w_TemperaturesAreReadAndActedOn_2.get (THM_LVLR_rate_mode 2) = 0) ∧
    (fromField 16 (w_TemperaturesAreReadAndActedOn_2.get (THM_LVL_thr 0)) ≤ ((1530 : Int)) ∧ ((1530 : Int)) < fromField 16 (w_TemperaturesAreReadAndActedOn_2.get (THM_LVL_thr 1)) ∧ ((1530 : Int)) < fromField 16 (w_TemperaturesAreReadAndActedOn_2.get (THM_LVL_thr 2))) ∧
    (w_TemperaturesAreReadAndActedOn_2.thm.levels = [false, false, false]) ∧
    (w_TemperaturesAreReadAndActedOn_2.thm.enterRun = [1, 0, 0, 0]) ∧
    (w_TemperaturesAreReadAndActedOn_2.thm.leaveRun.length = 3) ∧
    after (exec (.thmSample (([] : List (Option Int)))) w_TemperaturesAreReadAndActedOn_2) (fun t => decide ((t.get THM_STATUS_level = 1) ∧ (t.get THM_STATUS_warn_seen = 1) ∧ (t.raised .thmWarn 0 = true) ∧ (t.thm.levels = [true, false, false]) ∧ (t.thm.hist.head? = some (some ((1530 : Int)))) ∧ (t.stitches = w_TemperaturesAreReadAndActedOn_2.stitches))) = true := by decide +kernel

def w_TemperaturesAreReadAndActedOn_3 : State :=
    unitA.updSens 4 (fun x => { x with critRun := 1 })

theorem test_TemperaturesAreReadAndActedOn_3 :
    (Runs w_TemperaturesAreReadAndActedOn_3) ∧
    (w_TemperaturesAreReadAndActedOn_3.unit ≠ 0) ∧
    (w_TemperaturesAreReadAndActedOn_3.thm.sampleAt ≤ w_TemperaturesAreReadAndActedOn_3.ct) ∧
    (w_TemperaturesAreReadAndActedOn_3.pair.failed = false) ∧
    (w_TemperaturesAreReadAndActedOn_3.faults.insts = []) ∧
    (([none, none, none, none, some 2001])[((4 : Fin 5)).val]? = some (some ((2001 : Int)))) ∧
    (2000 ≤ ((2001 : Int))) ∧
    (1 ≤ (w_TemperaturesAreReadAndActedOn_3.sens ((4 : Fin 5))).critRun) ∧
    after (exec (.thmSample ([none, none, none, none, some 2001])) w_TemperaturesAreReadAndActedOn_3) (fun t => decide ((t.unit = 0) ∧ (t.get THM_STATUS_last_cause = 2) ∧ (t.rst.dormantWhy = 1 ∧ t.rst.thermDormant = true) ∧ (t.flash0 = w_TemperaturesAreReadAndActedOn_3.flash0 ∧ t.flash1 = w_TemperaturesAreReadAndActedOn_3.flash1))) = true := by decide +kernel

theorem test_TemperaturesAreReadAndActedOn_4 :
    (Runs ({ unitA with ct := 4800000 })) ∧
    (({ unitA with ct := 4800000 }).unit ≠ 0) ∧
    ((({ unitA with ct := 4800000 }).sens ((7 : Fin 13))).sampledAt + ms 3 ≤ ({ unitA with ct := 4800000 }).ct) ∧
    (MayRaise ({ unitA with ct := 4800000 }) .thmSensor ((7 : Fin 13))) ∧
    after (exec (.thmSensorStale ((7 : Fin 13))) ({ unitA with ct := 4800000 })) (fun t => decide ((t.get (THM_TEMP_valid ((7 : Fin 13))) = 0) ∧ (t.get THM_STATUS_sensor_fault = 1) ∧ (t.raised .thmSensor ((7 : Fin 13)) = true) ∧ (t.thm = ({ unitA with ct := 4800000 }).thm) ∧ (t.stitches = ({ unitA with ct := 4800000 }).stitches))) = true := by decide +kernel

def w_TemperaturesAreReadAndActedOn_5 : State :=
    { ((((List.range 5).foldl (fun (z : State) (i : Nat) => (z.setF (THM_TEMP_temp i) 1530).setF (THM_TEMP_valid i) 1) unitA)).setF THM_STATUS_stage 1).updThm (fun x => { x with stageAt := some 0, stageTemp := some 1530 }) with ct := 1600000000 }

theorem test_TemperaturesAreReadAndActedOn_5 :
    (w_TemperaturesAreReadAndActedOn_5.thm.stageAt = some 0) ∧
    (0 + sec 1 ≤ w_TemperaturesAreReadAndActedOn_5.ct) ∧
    (w_TemperaturesAreReadAndActedOn_5.rst.shutdownAt = none) ∧
    (w_TemperaturesAreReadAndActedOn_5.thm.stageTemp.any (fun a => w_TemperaturesAreReadAndActedOn_5.junction.any (fun b => decide (16 ≤ a - b))) = false) ∧
    (w_TemperaturesAreReadAndActedOn_5.get THM_STATUS_stage = 1) ∧
    after (exec (.shedStageTimer) w_TemperaturesAreReadAndActedOn_5) (fun t => decide ((t.get THM_STATUS_stage = 2) ∧ (t.thm.stageAt = some w_TemperaturesAreReadAndActedOn_5.ct ∧ t.thm.stageTemp = w_TemperaturesAreReadAndActedOn_5.junction) ∧ (t.eph = w_TemperaturesAreReadAndActedOn_5.eph) ∧ (t.skeins = w_TemperaturesAreReadAndActedOn_5.skeins) ∧ (t.mem = w_TemperaturesAreReadAndActedOn_5.mem))) = true := by decide +kernel

def w_TemperaturesAreReadAndActedOn_6 : State :=
    { ((((List.range 5).foldl (fun (z : State) (i : Nat) => (z.setF (THM_TEMP_temp i) 1530).setF (THM_TEMP_valid i) 1) unitA)).setF THM_STATUS_stage 1).updThm (fun x => { x with stageAt := some 0, stageTemp := some 1600 }) with ct := 1600000000 }

theorem test_TemperaturesAreReadAndActedOn_6 :
    (w_TemperaturesAreReadAndActedOn_6.thm.stageAt = some 0) ∧
    (0 + sec 1 ≤ w_TemperaturesAreReadAndActedOn_6.ct) ∧
    (w_TemperaturesAreReadAndActedOn_6.rst.shutdownAt = none) ∧
    (w_TemperaturesAreReadAndActedOn_6.thm.stageTemp.any (fun a => w_TemperaturesAreReadAndActedOn_6.junction.any (fun b => decide (16 ≤ a - b))) = true) ∧
    after (exec (.shedStageTimer) w_TemperaturesAreReadAndActedOn_6) (fun t => decide ((t.get THM_STATUS_stage = w_TemperaturesAreReadAndActedOn_6.get THM_STATUS_stage) ∧ (t.thm.stageAt = some w_TemperaturesAreReadAndActedOn_6.ct ∧ t.thm.stageTemp = w_TemperaturesAreReadAndActedOn_6.junction) ∧ (t.eph = w_TemperaturesAreReadAndActedOn_6.eph) ∧ (t.skeins = w_TemperaturesAreReadAndActedOn_6.skeins) ∧ (t.mem = w_TemperaturesAreReadAndActedOn_6.mem))) = true := by decide +kernel

def w_TemperaturesAreReadAndActedOn_7 : State :=
    (unitA.setF THM_STATUS_stage 2).updThm (fun x => { x with restoreAt := some 0 })

theorem test_TemperaturesAreReadAndActedOn_7 :
    (w_TemperaturesAreReadAndActedOn_7.thm.restoreAt = some 0) ∧
    (0 ≤ w_TemperaturesAreReadAndActedOn_7.ct) ∧
    (w_TemperaturesAreReadAndActedOn_7.get THM_STATUS_stage = 2) ∧
    after (exec (.shedRestoreTimer) w_TemperaturesAreReadAndActedOn_7) (fun t => decide ((t.get THM_STATUS_stage = 1) ∧ (t.thm.restoreAt = some (w_TemperaturesAreReadAndActedOn_7.ct + sec 10)) ∧ (t.eph = w_TemperaturesAreReadAndActedOn_7.eph) ∧ (t.skeins = w_TemperaturesAreReadAndActedOn_7.skeins) ∧ (t.mem = w_TemperaturesAreReadAndActedOn_7.mem))) = true := by decide +kernel

def w_TemperaturesAreReadAndActedOn_8 : State :=
    (((((((((unitA.setF (FAN_PWM_period 0) 1000).setF (THM_FAN0_t_lo 0) 960).setF (THM_FAN0_t_hi 0) 1440).setF (THM_FAN1_duty_min 0) 9830).setF (THM_FAN1_duty_max 0) 32767).setF (THM_FAN2_sensors 0) 1).setF (THM_FAN2_auto 0) 1).setF (THM_TEMP_temp 0) 1248).setF (THM_TEMP_valid 0) 1)

theorem test_TemperaturesAreReadAndActedOn_8 :
    (w_TemperaturesAreReadAndActedOn_8.thm.fanAt ≤ w_TemperaturesAreReadAndActedOn_8.ct) ∧
    (w_TemperaturesAreReadAndActedOn_8.get (THM_FAN2_auto ((0 : Fin 16))) = 1) ∧
    (w_TemperaturesAreReadAndActedOn_8.swTouched = []) ∧
    after (exec (.fanUpdate) w_TemperaturesAreReadAndActedOn_8) (fun t => decide ((t.get (FAN_PWM_duty ((0 : Fin 16))) = w_TemperaturesAreReadAndActedOn_8.fanDuty ((0 : Fin 16)) % 65536) ∧ (t.get (FAN_PWM_period ((0 : Fin 16))) = w_TemperaturesAreReadAndActedOn_8.get (FAN_PWM_period ((0 : Fin 16)))) ∧ (t.thm.fanAt = w_TemperaturesAreReadAndActedOn_8.ct + ms 100) ∧ (t.stitches = w_TemperaturesAreReadAndActedOn_8.stitches) ∧ (t.mem = w_TemperaturesAreReadAndActedOn_8.mem))) = true := by decide +kernel

def w_TemperaturesAreReadAndActedOn_9 : State :=
    unitA.updThm (fun x => { x with fanAt := 9 })

theorem test_TemperaturesAreReadAndActedOn_9 :
    (w_TemperaturesAreReadAndActedOn_9.ct < w_TemperaturesAreReadAndActedOn_9.thm.fanAt) ∧
    after (exec (.fanUpdate) w_TemperaturesAreReadAndActedOn_9) (fun t => decide ((t = w_TemperaturesAreReadAndActedOn_9))) = true := by decide +kernel

def w_TemperaturesAreReadAndActedOn_10 : State :=
    (unitA.setF THM_STATUS_last_cause 1).updRst (fun r => { r with shutdownAt := some 0 })

theorem test_TemperaturesAreReadAndActedOn_10 :
    (w_TemperaturesAreReadAndActedOn_10.rst.shutdownAt = some 0) ∧
    (w_TemperaturesAreReadAndActedOn_10.pair.transitAt = none) ∧
    after (exec (.thermalDormantEntry) w_TemperaturesAreReadAndActedOn_10) (fun t => decide ((t.unit = 0) ∧ (t.rst.dormantWhy = 1 ∧ t.rst.thermDormant = true) ∧ (t.get THM_STATUS_last_cause = w_TemperaturesAreReadAndActedOn_10.get THM_STATUS_last_cause) ∧ (t.flash0 = w_TemperaturesAreReadAndActedOn_10.flash0 ∧ t.flash1 = w_TemperaturesAreReadAndActedOn_10.flash1))) = true := by decide +kernel

def w_TemperaturesAreReadAndActedOn_11 : State :=
    (State.reset.setUnit 0).updRst (fun r => { r with thermDormant := true, cool := 60 })

theorem test_TemperaturesAreReadAndActedOn_11 :
    (w_TemperaturesAreReadAndActedOn_11.unit = 0) ∧
    (w_TemperaturesAreReadAndActedOn_11.rst.thermDormant = true) ∧
    (((1400 : Int)) ≤ w_TemperaturesAreReadAndActedOn_11.rst.coolThr) ∧
    (w_TemperaturesAreReadAndActedOn_11.rst.cool = 60) ∧
    (w_TemperaturesAreReadAndActedOn_11.rst.restartEn = true) ∧
    (w_TemperaturesAreReadAndActedOn_11.rst.wakeHeld = none) ∧
    after (exec (.dormantThmCheck ((1400 : Int))) w_TemperaturesAreReadAndActedOn_11) (fun t => decide ((t.rst.wakeHeld = some 10) ∧ (t.rst.cool = 61) ∧ (t.regs = w_TemperaturesAreReadAndActedOn_11.regs) ∧ (t.mem = w_TemperaturesAreReadAndActedOn_11.mem))) = true := by decide +kernel

def w_TemperaturesAreReadAndActedOn_12 : State :=
    (State.reset.setUnit 0).updRst (fun r => { r with thermDormant := true, cool := 60 })

theorem test_TemperaturesAreReadAndActedOn_12 :
    (w_TemperaturesAreReadAndActedOn_12.unit = 0) ∧
    (w_TemperaturesAreReadAndActedOn_12.rst.thermDormant = true) ∧
    (w_TemperaturesAreReadAndActedOn_12.rst.coolThr < ((1500 : Int))) ∧
    after (exec (.dormantThmCheck ((1500 : Int))) w_TemperaturesAreReadAndActedOn_12) (fun t => decide ((t.rst.cool = 0) ∧ (t.rst.wakeHeld = w_TemperaturesAreReadAndActedOn_12.rst.wakeHeld) ∧ (t.regs = w_TemperaturesAreReadAndActedOn_12.regs) ∧ (t.mem = w_TemperaturesAreReadAndActedOn_12.mem))) = true := by decide +kernel

def w_TemperaturesAreReadAndActedOn_13 : State :=
    (withCmd (((((((((unitA.setF (FAN_PWM_period 0) 1000).setF (THM_FAN0_t_lo 0) 960).setF (THM_FAN0_t_hi 0) 1440).setF (THM_FAN1_duty_min 0) 9830).setF (THM_FAN1_duty_max 0) 32767).setF (THM_FAN2_sensors 0) 1).setF (THM_FAN2_auto 0) 1).setF (THM_TEMP_temp 0) 1248).setF (THM_TEMP_valid 0) 1) 256 9 0xe10 [0])

theorem test_TemperaturesAreReadAndActedOn_13 :
    (Ready w_TemperaturesAreReadAndActedOn_13 ((256 : Mb)) ((9 : Fin 64)) 0xE10) ∧
    (NoRung w_TemperaturesAreReadAndActedOn_13) ∧
    ((u8 (payloadOf w_TemperaturesAreReadAndActedOn_13 ((256 : Mb)) ((9 : Fin 64))) 0) ≤ 12) ∧
    after (exec (.thmQuery ((256 : Mb)) ((9 : Fin 64))) w_TemperaturesAreReadAndActedOn_13) (fun t => decide ((Done t ((256 : Mb)) ((9 : Fin 64)) (cmdOf w_TemperaturesAreReadAndActedOn_13 ((256 : Mb)) ((9 : Fin 64))) 0 (w_TemperaturesAreReadAndActedOn_13.get (THM_TEMP_valid (u8 (payloadOf w_TemperaturesAreReadAndActedOn_13 ((256 : Mb)) ((9 : Fin 64))) 0)) + 2 * (if (u8 (payloadOf w_TemperaturesAreReadAndActedOn_13 ((256 : Mb)) ((9 : Fin 64))) 0) < 5 then w_TemperaturesAreReadAndActedOn_13.get THM_STATUS_level else (w_TemperaturesAreReadAndActedOn_13.sens (u8 (payloadOf w_TemperaturesAreReadAndActedOn_13 ((256 : Mb)) ((9 : Fin 64))) 0)).lvl)) (w_TemperaturesAreReadAndActedOn_13.get (THM_TEMP_temp (u8 (payloadOf w_TemperaturesAreReadAndActedOn_13 ((256 : Mb)) ((9 : Fin 64))) 0)))) ∧ (t.thm = w_TemperaturesAreReadAndActedOn_13.thm) ∧ (t.stitches = w_TemperaturesAreReadAndActedOn_13.stitches))) = true := by decide +kernel

def w_TemperaturesAreReadAndActedOn_14 : State :=
    (((((((((unitA.setF (FAN_PWM_period 0) 1000).setF (THM_FAN0_t_lo 0) 960).setF (THM_FAN0_t_hi 0) 1440).setF (THM_FAN1_duty_min 0) 9830).setF (THM_FAN1_duty_max 0) 32767).setF (THM_FAN2_sensors 0) 1).setF (THM_FAN2_auto 0) 1).setF (THM_TEMP_temp 0) 1248).setF (THM_TEMP_valid 0) 1)

theorem test_TemperaturesAreReadAndActedOn_14 :
    (w_TemperaturesAreReadAndActedOn_14.get (FAN_PWM_period 0) = 1000) ∧
    (w_TemperaturesAreReadAndActedOn_14.get (THM_FAN0_t_lo 0) = 960 ∧ w_TemperaturesAreReadAndActedOn_14.get (THM_FAN0_t_hi 0) = 1440) ∧
    (w_TemperaturesAreReadAndActedOn_14.get (THM_FAN1_duty_min 0) = 9830 ∧ w_TemperaturesAreReadAndActedOn_14.get (THM_FAN1_duty_max 0) = 32767) ∧
    (w_TemperaturesAreReadAndActedOn_14.get (THM_FAN2_sensors 0) = 1) ∧
    (w_TemperaturesAreReadAndActedOn_14.get (THM_TEMP_temp 0) = 1248 ∧ w_TemperaturesAreReadAndActedOn_14.get (THM_TEMP_valid 0) = 1) ∧
    (w_TemperaturesAreReadAndActedOn_14.get THM_STATUS_level < 2) ∧
    (w_TemperaturesAreReadAndActedOn_14.fanDuty 0 = 720) := by decide +kernel

theorem test_PairWatchesItsPartner_1 :
    (2 ≤ ((unitA.setF PAIR_STATUS_link_up 1)).unit) ∧
    (((unitA.setF PAIR_STATUS_link_up 1)).pair.failed = false) ∧
    (((unitA.setF PAIR_STATUS_link_up 1)).get PAIR_STATUS_link_up = 1) ∧
    (((unitA.setF PAIR_STATUS_link_up 1)).ct % 1600 < 2) ∧
    (((unitA.setF PAIR_STATUS_link_up 1)).pair.hbTx ≠ some (((unitA.setF PAIR_STATUS_link_up 1)).ct / 1600)) ∧
    (((unitA.setF PAIR_STATUS_link_up 1)).partnerRel.backlog = []) ∧
    after (exec (.heartbeatTx) ((unitA.setF PAIR_STATUS_link_up 1))) (fun t => decide ((t.out = ((unitA.setF PAIR_STATUS_link_up 1)).out ++ [.heartbeat ((unitA.setF PAIR_STATUS_link_up 1)).ct ((unitA.setF PAIR_STATUS_link_up 1)).unit ((unitA.setF PAIR_STATUS_link_up 1)).isHome ((unitA.setF PAIR_STATUS_link_up 1)).ownMask]) ∧ (t.pair.hbTx = some (((unitA.setF PAIR_STATUS_link_up 1)).ct / 1600)) ∧ (t.regs = ((unitA.setF PAIR_STATUS_link_up 1)).regs) ∧ (t.mem = ((unitA.setF PAIR_STATUS_link_up 1)).mem))) = true := by decide +kernel

theorem test_PairWatchesItsPartner_2 :
    (State.reset.unit < 2) ∧
    after (exec (.heartbeatTx) State.reset) (fun t => decide ((t = State.reset))) = true := by decide +kernel

def w_PairWatchesItsPartner_3 : State :=
    (unitS.updPair (fun x => { x with partner := true, alvStopped := false, misses := 2 }))

theorem test_PairWatchesItsPartner_3 :
    (w_PairWatchesItsPartner_3.get PAIR_STATUS_link_up = 1) ∧
    (w_PairWatchesItsPartner_3.pair.lostAt ≠ some w_PairWatchesItsPartner_3.ct) ∧
    (w_PairWatchesItsPartner_3.pair.partner = true) ∧
    (w_PairWatchesItsPartner_3.pair.alvStopped = false) ∧
    (w_PairWatchesItsPartner_3.faults.insts = []) ∧
    (NoRung w_PairWatchesItsPartner_3) ∧
    (((4 : Fin 8)).val ≠ 2) ∧
    (true.toNat ≠ w_PairWatchesItsPartner_3.pos) ∧
    (w_PairWatchesItsPartner_3.pinServed = true) ∧
    after (exec (.heartbeatRx 7 ((4 : Fin 8)) true ((0 : BitVec 64)) true) w_PairWatchesItsPartner_3) (fun t => decide ((t.pair.hbAt = some w_PairWatchesItsPartner_3.ct ∧ t.pair.misses = 0) ∧ (t.get PAIR_STATUS_partner_state = ((4 : Fin 8)).val) ∧ (t.get PAIR_STATUS_pos_conflict = 0) ∧ (t.unit = w_PairWatchesItsPartner_3.unit) ∧ (t.stitches = w_PairWatchesItsPartner_3.stitches) ∧ (t.mem = w_PairWatchesItsPartner_3.mem))) = true := by decide +kernel

def w_PairWatchesItsPartner_4 : State :=
    (unitS.updPair (fun x => { x with partner := true, alvStopped := false }))

theorem test_PairWatchesItsPartner_4 :
    (w_PairWatchesItsPartner_4.get PAIR_STATUS_link_up = 1) ∧
    (w_PairWatchesItsPartner_4.pair.lostAt ≠ some w_PairWatchesItsPartner_4.ct) ∧
    (w_PairWatchesItsPartner_4.pair.partner = true) ∧
    (w_PairWatchesItsPartner_4.pair.alvStopped = false) ∧
    (w_PairWatchesItsPartner_4.faults.insts = []) ∧
    (NoRung w_PairWatchesItsPartner_4) ∧
    ((w_PairWatchesItsPartner_4.kindCfg .pairConfig 0).1 ≠ 3) ∧
    (false.toNat = w_PairWatchesItsPartner_4.pos) ∧
    after (exec (.heartbeatRx 7 ((4 : Fin 8)) true ((0 : BitVec 64)) false) w_PairWatchesItsPartner_4) (fun t => decide ((t.get PAIR_STATUS_pos_conflict = 1) ∧ (t.raised .pairConfig 0 = true) ∧ (t.unit = w_PairWatchesItsPartner_4.unit) ∧ (t.stitches = w_PairWatchesItsPartner_4.stitches))) = true := by decide +kernel

def w_PairWatchesItsPartner_5 : State :=
    { (unitS.updPair (fun x => { x with partner := true })) with ct := 800 }

theorem test_PairWatchesItsPartner_5 :
    (2 ≤ w_PairWatchesItsPartner_5.unit) ∧
    (w_PairWatchesItsPartner_5.pair.failed = false) ∧
    (w_PairWatchesItsPartner_5.pair.partner = true) ∧
    ((w_PairWatchesItsPartner_5.ct + 800) % 1600 < 2) ∧
    (w_PairWatchesItsPartner_5.pair.hbChk ≠ some ((w_PairWatchesItsPartner_5.ct + 800) / 1600)) ∧
    (w_PairWatchesItsPartner_5.pair.hbAt = none) ∧
    (w_PairWatchesItsPartner_5.pair.misses < 2) ∧
    (w_PairWatchesItsPartner_5.faults.insts = []) ∧
    (w_PairWatchesItsPartner_5.swTouched = []) ∧
    after (exec (.heartbeatCheck) w_PairWatchesItsPartner_5) (fun t => decide ((Counted w_PairWatchesItsPartner_5 t PAIR_CNT_HB_MISS_v) ∧ (t.pair.misses = w_PairWatchesItsPartner_5.pair.misses + 1) ∧ (t.pair.partner = true) ∧ (t.unit = w_PairWatchesItsPartner_5.unit) ∧ (t.stitches = w_PairWatchesItsPartner_5.stitches) ∧ (t.mem = w_PairWatchesItsPartner_5.mem))) = true := by decide +kernel

def w_PairWatchesItsPartner_6 : State :=
    { (unitS.updPair (fun x => { x with partner := true, misses := 2, alvStopped := false })) with ct := 800 }

theorem test_PairWatchesItsPartner_6 :
    (2 ≤ w_PairWatchesItsPartner_6.unit) ∧
    (w_PairWatchesItsPartner_6.pair.failed = false) ∧
    (w_PairWatchesItsPartner_6.pair.partner = true) ∧
    ((w_PairWatchesItsPartner_6.ct + 800) % 1600 < 2) ∧
    (w_PairWatchesItsPartner_6.pair.hbChk ≠ some ((w_PairWatchesItsPartner_6.ct + 800) / 1600)) ∧
    (w_PairWatchesItsPartner_6.pair.hbAt = none) ∧
    (w_PairWatchesItsPartner_6.pair.misses = 2) ∧
    (w_PairWatchesItsPartner_6.pair.alvStopped = false) ∧
    (MayRaise w_PairWatchesItsPartner_6 .pairLink 0) ∧
    after (exec (.heartbeatCheck) w_PairWatchesItsPartner_6) (fun t => decide ((t.raised .pairLink 0 = true) ∧ (t.pair.partner = true) ∧ (t.unit = w_PairWatchesItsPartner_6.unit) ∧ (t.stitches = w_PairWatchesItsPartner_6.stitches))) = true := by decide +kernel

def w_PairWatchesItsPartner_7 : State :=
    { (unitS.updPair (fun x => { x with partner := true, misses := 2 })) with ct := 800 }

theorem test_PairWatchesItsPartner_7 :
    (NoRung w_PairWatchesItsPartner_7) ∧
    (w_PairWatchesItsPartner_7.unit = 3) ∧
    (w_PairWatchesItsPartner_7.entering = []) ∧
    (w_PairWatchesItsPartner_7.pair.partner = true) ∧
    (w_PairWatchesItsPartner_7.faults.insts = []) ∧
    ((w_PairWatchesItsPartner_7.kindCfg .pairLost 0).1 ≠ 3) ∧
    (w_PairWatchesItsPartner_7.get PAIR_STATUS_pos_conflict = 0) ∧
    (w_PairWatchesItsPartner_7.pair.mirror = []) ∧
    (w_PairWatchesItsPartner_7.pair.failed = false) ∧
    ((w_PairWatchesItsPartner_7.ct + 800) % 1600 < 2) ∧
    (w_PairWatchesItsPartner_7.pair.hbChk ≠ some ((w_PairWatchesItsPartner_7.ct + 800) / 1600)) ∧
    (w_PairWatchesItsPartner_7.pair.hbAt = none) ∧
    (w_PairWatchesItsPartner_7.pair.misses = 2) ∧
    (w_PairWatchesItsPartner_7.pair.alvStopped = true) ∧
    after (exec (.heartbeatCheck) w_PairWatchesItsPartner_7) (fun t => decide ((t.unit = 4) ∧ (t.pair.partner = false) ∧ (t.get PAIR_STATUS_lost_seen = 1) ∧ (t.raised .pairLost 0 = true) ∧ (∀ p : Fin 64, t.ownsPort p = true) ∧ (t.pair.lastSwap = w_PairWatchesItsPartner_7.ct) ∧ (t.get PAIR_STATUS_transit_pending = 0))) = true := by decide +kernel

theorem test_PairWatchesItsPartner_8 :
    (2 ≤ ({ unitA with ct := 400 }).unit) ∧
    (({ unitA with ct := 400 }).pair.failed = false) ∧
    (({ unitA with ct := 400 }).pair.alvAt + 400 ≤ ({ unitA with ct := 400 }).ct) ∧
    after (exec (.aliveToggle) ({ unitA with ct := 400 })) (fun t => decide ((t.pair.alvOut = !({ unitA with ct := 400 }).pair.alvOut) ∧ (t.pair.alvAt = ({ unitA with ct := 400 }).ct) ∧ (t.regs = ({ unitA with ct := 400 }).regs) ∧ (t.stitches = ({ unitA with ct := 400 }).stitches) ∧ (t.mem = ({ unitA with ct := 400 }).mem))) = true := by decide +kernel

def w_PairWatchesItsPartner_9 : State :=
    (unitS.updPair (fun x => { x with partner := true, alvStopped := false }))

theorem test_PairWatchesItsPartner_9 :
    (2 ≤ w_PairWatchesItsPartner_9.unit) ∧
    (w_PairWatchesItsPartner_9.pair.failed = false) ∧
    (w_PairWatchesItsPartner_9.pair.partner = true) ∧
    (w_PairWatchesItsPartner_9.pair.misses = 0) ∧
    (MayRaise w_PairWatchesItsPartner_9 .pairAlive 0) ∧
    after (exec (.aliveStop) w_PairWatchesItsPartner_9) (fun t => decide ((t.get PAIR_STATUS_alive_in = 0) ∧ (t.pair.alvStopped = true) ∧ (t.raised .pairAlive 0 = true) ∧ (t.pair.partner = true) ∧ (t.unit = w_PairWatchesItsPartner_9.unit) ∧ (t.stitches = w_PairWatchesItsPartner_9.stitches))) = true := by decide +kernel

theorem test_PairWatchesItsPartner_10 :
    (unitS.pair.partner = false) ∧
    after (exec (.aliveStop) unitS) (fun t => decide ((t.get PAIR_STATUS_alive_in = 0) ∧ (t.pair.alvStopped = true) ∧ (t.unit = unitS.unit) ∧ (t.mem = unitS.mem))) = true := by decide +kernel

def w_PairWatchesItsPartner_11 : State :=
    (unitS.updPair (fun x => { x with partner := true }))

theorem test_PairWatchesItsPartner_11 :
    (NoRung w_PairWatchesItsPartner_11) ∧
    (w_PairWatchesItsPartner_11.unit = 3) ∧
    (w_PairWatchesItsPartner_11.entering = []) ∧
    (w_PairWatchesItsPartner_11.pair.partner = true) ∧
    (w_PairWatchesItsPartner_11.faults.insts = []) ∧
    ((w_PairWatchesItsPartner_11.kindCfg .pairLost 0).1 ≠ 3) ∧
    (w_PairWatchesItsPartner_11.get PAIR_STATUS_pos_conflict = 0) ∧
    (w_PairWatchesItsPartner_11.pair.mirror = []) ∧
    after (exec (.failureNoticeRx ((3 : Fin 5))) w_PairWatchesItsPartner_11) (fun t => decide ((t.unit = 4) ∧ (t.pair.partner = false) ∧ (t.get PAIR_STATUS_lost_seen = 1) ∧ (t.raised .pairLost 0 = true) ∧ (∀ p : Fin 64, t.ownsPort p = true) ∧ (t.pair.lastSwap = w_PairWatchesItsPartner_11.ct) ∧ (t.get PAIR_STATUS_transit_pending = 0))) = true := by decide +kernel

theorem test_PairWatchesItsPartner_12 :
    (Runs ((unitA.setF PAIR_STATUS_link_up 1))) ∧
    (((unitA.setF PAIR_STATUS_link_up 1)).get PAIR_STATUS_link_up = 1) ∧
    (((unitA.setF PAIR_STATUS_link_up 1)).partnerRel.xoff = false ∧ ((unitA.setF PAIR_STATUS_link_up 1)).partnerRel.backlog = [] ∧ ((unitA.setF PAIR_STATUS_link_up 1)).partnerRel.again = [] ∧ ((unitA.setF PAIR_STATUS_link_up 1)).partnerRel.unacked.length < 32) ∧
    (((2 : Fin 5)).val = 1 ∨ ((2 : Fin 5)).val = 2) ∧
    (((unitA.setF PAIR_STATUS_link_up 1)).pair.failed = false) ∧
    after (exec (.ownFailure ((2 : Fin 5))) ((unitA.setF PAIR_STATUS_link_up 1))) (fun t => decide ((t.rst.held = true) ∧ (t.get RST_STATUS_kind = 2 ∧ t.get RST_STATUS_cause = 4) ∧ (t.out = ((unitA.setF PAIR_STATUS_link_up 1)).out ++ [.failureNotice ((2 : Fin 5)).val]) ∧ (t.rst.storedCt = some ((unitA.setF PAIR_STATUS_link_up 1)).ct) ∧ (t.flash0 = ((unitA.setF PAIR_STATUS_link_up 1)).flash0 ∧ t.flash1 = ((unitA.setF PAIR_STATUS_link_up 1)).flash1))) = true := by decide +kernel

theorem test_PairWatchesItsPartner_13 :
    (Runs ((unitA.setF PAIR_STATUS_link_up 1))) ∧
    (((unitA.setF PAIR_STATUS_link_up 1)).get PAIR_STATUS_link_up = 1) ∧
    (((unitA.setF PAIR_STATUS_link_up 1)).partnerRel.xoff = false ∧ ((unitA.setF PAIR_STATUS_link_up 1)).partnerRel.backlog = [] ∧ ((unitA.setF PAIR_STATUS_link_up 1)).partnerRel.again = [] ∧ ((unitA.setF PAIR_STATUS_link_up 1)).partnerRel.unacked.length < 32) ∧
    (((3 : Fin 5)).val = 3) ∧
    (((unitA.setF PAIR_STATUS_link_up 1)).pair.failed = false) ∧
    after (exec (.ownFailure ((3 : Fin 5))) ((unitA.setF PAIR_STATUS_link_up 1))) (fun t => decide ((t.unit = 0) ∧ (t.rst.dormantWhy = 4) ∧ (t.out = ((unitA.setF PAIR_STATUS_link_up 1)).out ++ [.failureNotice 3]) ∧ (t.flash0 = ((unitA.setF PAIR_STATUS_link_up 1)).flash0 ∧ t.flash1 = ((unitA.setF PAIR_STATUS_link_up 1)).flash1))) = true := by decide +kernel

theorem test_PairWatchesItsPartner_14 :
    (Runs unitA) ∧
    (unitA.entering = []) ∧
    after (exec (.partnerLinkUp ((2 : Fin 4))) unitA) (fun t => decide ((t.pair.linkLanes = ((2 : Fin 4)).val) ∧ (t.get PAIR_STATUS_link_up = 1 ∧ t.get PAIR_STATUS_alive_in = 1) ∧ (t.pair.alvStopped = false) ∧ (t.unit = unitA.unit) ∧ (t.stitches = unitA.stitches) ∧ (t.mem = unitA.mem))) = true := by decide +kernel

def w_PairWatchesItsPartner_15 : State :=
    (((unitA.setF PAIR_STATUS_link_up 1).setF PAIR_STATUS_covered_all 1).setF PAIR_STATUS_partner_state 3)

theorem test_PairWatchesItsPartner_15 :
    (Runs w_PairWatchesItsPartner_15) ∧
    (w_PairWatchesItsPartner_15.entering = []) ∧
    after (exec (.partnerLinkDown) w_PairWatchesItsPartner_15) (fun t => decide ((t.get PAIR_STATUS_link_up = 0) ∧ (t.partnerRel = {}) ∧ (t.get (PAIR_COVER_bit ((5 : Fin 64))) = 0) ∧ (t.get PAIR_STATUS_covered_all = 0) ∧ (t.unit = w_PairWatchesItsPartner_15.unit ∧ t.ownsPort ((5 : Fin 64)) = w_PairWatchesItsPartner_15.ownsPort ((5 : Fin 64))) ∧ (t.stitches = w_PairWatchesItsPartner_15.stitches) ∧ (t.mem = w_PairWatchesItsPartner_15.mem))) = true := by decide +kernel

def w_ShadowIsKeptInStep_1 : State :=
    { ((unitA.setF PAIR_STATUS_link_up 1).updSk 7 (fun x => { x with known := true, slot := 3, stepsIn := 2, ownDigest := [(4, 9), (5, 8)] })) with ct := 12800 }

theorem test_ShadowIsKeptInStep_1 :
    (w_ShadowIsKeptInStep_1.get PAIR_STATUS_link_up = 1) ∧
    (w_ShadowIsKeptInStep_1.partnerRel.xoff = false ∧ w_ShadowIsKeptInStep_1.partnerRel.backlog = [] ∧ w_ShadowIsKeptInStep_1.partnerRel.again = [] ∧ w_ShadowIsKeptInStep_1.partnerRel.unacked.length < 32) ∧
    (2 ≤ w_ShadowIsKeptInStep_1.unit) ∧
    (w_ShadowIsKeptInStep_1.pair.failed = false) ∧
    (w_ShadowIsKeptInStep_1.pair.digestAt + us (8 / 2 ^ w_ShadowIsKeptInStep_1.pair.linkLanes) ≤ w_ShadowIsKeptInStep_1.ct) ∧
    (w_ShadowIsKeptInStep_1.skeins = [(((7 : Fin 2048)).val, ((((unitA.setF PAIR_STATUS_link_up 1).updSk 7 (fun x => { x with known := true, slot := 3, stepsIn := 2, ownDigest := [(4, 9), (5, 8)] })).sk 7)))]) ∧
    (0 < ((((unitA.setF PAIR_STATUS_link_up 1).updSk 7 (fun x => { x with known := true, slot := 3, stepsIn := 2, ownDigest := [(4, 9), (5, 8)] })).sk 7)).stepsIn) ∧
    (((((unitA.setF PAIR_STATUS_link_up 1).updSk 7 (fun x => { x with known := true, slot := 3, stepsIn := 2, ownDigest := [(4, 9), (5, 8)] })).sk 7)).ownDigest.getLast? = some (5, ((8 : Word)))) ∧
    (w_ShadowIsKeptInStep_1.ownsPort ((((unitA.setF PAIR_STATUS_link_up 1).updSk 7 (fun x => { x with known := true, slot := 3, stepsIn := 2, ownDigest := [(4, 9), (5, 8)] })).sk 7)).slot = true) ∧
    after (exec (.digestRound) w_ShadowIsKeptInStep_1) (fun t => decide ((t.out = w_ShadowIsKeptInStep_1.out ++ [.digest ((7 : Fin 2048)) 5 ((8 : Word))]) ∧ ((t.sk ((7 : Fin 2048))).stepsIn = 0) ∧ (t.pair.digestAt = w_ShadowIsKeptInStep_1.ct) ∧ (t.regs = w_ShadowIsKeptInStep_1.regs) ∧ (t.stitches = w_ShadowIsKeptInStep_1.stitches) ∧ (t.mem = w_ShadowIsKeptInStep_1.mem))) = true := by decide +kernel

def w_ShadowIsKeptInStep_2 : State :=
    (unitS.updSk 7 (fun x => { x with known := true, slot := 3, matched := 15, inStep := true, ownDigest := [(4, 9)] }))

theorem test_ShadowIsKeptInStep_2 :
    (2 ≤ w_ShadowIsKeptInStep_2.unit) ∧
    (w_ShadowIsKeptInStep_2.pair.failed = false) ∧
    (w_ShadowIsKeptInStep_2.swTouched = []) ∧
    (w_ShadowIsKeptInStep_2.ownsPort (w_ShadowIsKeptInStep_2.sk ((7 : Fin 2048))).slot = false) ∧
    ((w_ShadowIsKeptInStep_2.sk ((7 : Fin 2048))).ownDigest.find? (fun x => decide (x.1 = ((4 : BitVec 16)).toNat)) = some (((4 : BitVec 16)).toNat, ((9 : Word)))) ∧
    after (exec (.digestRx ((7 : Fin 2048)) ((4 : BitVec 16)) ((9 : Word))) w_ShadowIsKeptInStep_2) (fun t => decide ((Counted w_ShadowIsKeptInStep_2 t PAIR_CNT_DIGEST_v) ∧ (t.get PAIR_CNT_MISMATCH_v = w_ShadowIsKeptInStep_2.get PAIR_CNT_MISMATCH_v) ∧ ((t.sk ((7 : Fin 2048))).matched = Nat.min 16 ((w_ShadowIsKeptInStep_2.sk ((7 : Fin 2048))).matched + 1)) ∧ ((t.sk ((7 : Fin 2048))).inStep = (w_ShadowIsKeptInStep_2.sk ((7 : Fin 2048))).inStep) ∧ (t.stitches = w_ShadowIsKeptInStep_2.stitches) ∧ (t.mem = w_ShadowIsKeptInStep_2.mem))) = true := by decide +kernel

def w_ShadowIsKeptInStep_3 : State :=
    (unitS.updSk 7 (fun x => { x with known := true, slot := 3, matched := 15, inStep := true, ownDigest := [(4, 9)] }))

theorem test_ShadowIsKeptInStep_3 :
    (2 ≤ w_ShadowIsKeptInStep_3.unit) ∧
    (w_ShadowIsKeptInStep_3.pair.failed = false) ∧
    (w_ShadowIsKeptInStep_3.swTouched = []) ∧
    (w_ShadowIsKeptInStep_3.ownsPort (w_ShadowIsKeptInStep_3.sk ((7 : Fin 2048))).slot = false) ∧
    ((w_ShadowIsKeptInStep_3.sk ((7 : Fin 2048))).ownDigest.find? (fun x => decide (x.1 = ((4 : BitVec 16)).toNat)) = some (((4 : BitVec 16)).toNat, ((9 : Word)))) ∧
    (((9 : Word)) ≠ ((8 : Word))) ∧
    after (exec (.digestRx ((7 : Fin 2048)) ((4 : BitVec 16)) ((8 : Word))) w_ShadowIsKeptInStep_3) (fun t => decide ((Counted w_ShadowIsKeptInStep_3 t PAIR_CNT_DIGEST_v) ∧ (Counted w_ShadowIsKeptInStep_3 t PAIR_CNT_MISMATCH_v) ∧ ((t.sk ((7 : Fin 2048))).matched = 0 ∧ (t.sk ((7 : Fin 2048))).inStep = false ∧ (t.sk ((7 : Fin 2048))).wantImage = true) ∧ (t.stitches = w_ShadowIsKeptInStep_3.stitches) ∧ (t.mem = w_ShadowIsKeptInStep_3.mem))) = true := by decide +kernel

def w_ShadowIsKeptInStep_4 : State :=
    { (unitS.updSk 7 (fun x => { x with known := true, slot := 3, inStep := true, waitDigest := some (3, 0, 5) })) with ct := 6400 }

theorem test_ShadowIsKeptInStep_4 :
    ((w_ShadowIsKeptInStep_4.sk ((7 : Fin 2048))).waitDigest = some (((3, 0, 5) : Nat × Nat × Word))) ∧
    ((((3, 0, 5) : Nat × Nat × Word)).2.1 + us 4 ≤ w_ShadowIsKeptInStep_4.ct) ∧
    after (exec (.digestStepTimeout ((7 : Fin 2048))) w_ShadowIsKeptInStep_4) (fun t => decide (((t.sk ((7 : Fin 2048))).inStep = false ∧ (t.sk ((7 : Fin 2048))).matched = 0 ∧ (t.sk ((7 : Fin 2048))).waitDigest = none ∧ (t.sk ((7 : Fin 2048))).wantImage = true) ∧ (t.stitches = w_ShadowIsKeptInStep_4.stitches) ∧ (t.mem = w_ShadowIsKeptInStep_4.mem))) = true := by decide +kernel

def w_ShadowIsKeptInStep_5 : State :=
    (unitS.updSk 7 (fun x => { x with known := true, slot := 3, stepped := 40, wantImage := true }))

theorem test_ShadowIsKeptInStep_5 :
    (Runs w_ShadowIsKeptInStep_5) ∧
    (NoRung w_ShadowIsKeptInStep_5) ∧
    (w_ShadowIsKeptInStep_5.swTouched = []) ∧
    (w_ShadowIsKeptInStep_5.ownsPort (w_ShadowIsKeptInStep_5.sk ((7 : Fin 2048))).slot = false) ∧
    ((w_ShadowIsKeptInStep_5.sk ((7 : Fin 2048))).stepped = ((40 : BitVec 16)).toNat) ∧
    after (exec (.stateImageRx ((7 : Fin 2048)) ((40 : BitVec 16)) (({ u := 5, refQ16 := 99, count := 3 } : Job))) w_ShadowIsKeptInStep_5) (fun t => decide (((t.sk ((7 : Fin 2048))).job = (({ u := 5, refQ16 := 99, count := 3 } : Job))) ∧ ((t.sk ((7 : Fin 2048))).inStep = true ∧ (t.sk ((7 : Fin 2048))).matched = 0 ∧ (t.sk ((7 : Fin 2048))).wantImage = false) ∧ (Counted w_ShadowIsKeptInStep_5 t PAIR_CNT_IMAGE_v) ∧ (t.stitches = w_ShadowIsKeptInStep_5.stitches) ∧ (t.mem = w_ShadowIsKeptInStep_5.mem))) = true := by decide +kernel

theorem test_ShadowIsKeptInStep_6 :
    (Runs unitS) ∧
    (NoRung unitS) ∧
    (u8 (([3, 0, 200, 0] : List Byte)) 0 ≤ 7) ∧
    after (exec (.effectMessageRx (.command ((256 : Mb)) 0xC13 (([3, 0, 200, 0] : List Byte)))) unitS) (fun t => decide ((t.get CAP_STATUS_rank = u8 (([3, 0, 200, 0] : List Byte)) 0) ∧ (t.shelf.warnLead = u16 (([3, 0, 200, 0] : List Byte)) 2) ∧ (t.skeins = unitS.skeins) ∧ (t.stitches = unitS.stitches) ∧ (t.mem = unitS.mem))) = true := by decide +kernel

theorem test_ShadowIsKeptInStep_7 :
    (Runs unitS) ∧
    (unitS.pair.mirror = []) ∧
    after (exec (.effectMessageRx (.mgmtSlot ((12 : Mb)) ((9 : Fin 64)) ((3 : Fin 64)) (([1, 2] : List Byte)))) unitS) (fun t => decide ((t.pair.mirror = [{ mb := ((12 : Mb)).val, slot := ((9 : Fin 64)).val, port := ((3 : Fin 64)).val, bytes := (([1, 2] : List Byte)) }]) ∧ (t.regs = unitS.regs) ∧ (t.slots = unitS.slots) ∧ (t.mem = unitS.mem))) = true := by decide +kernel

def w_ShadowIsKeptInStep_8 : State :=
    ({ State.reset with rst := { State.reset.rst with held := false } }.setUnit 2)

theorem test_ShadowIsKeptInStep_8 :
    (Runs w_ShadowIsKeptInStep_8) ∧
    (MayRaise w_ShadowIsKeptInStep_8 .pairConfig 0) ∧
    (w_ShadowIsKeptInStep_8.unit = 2) ∧
    (w_ShadowIsKeptInStep_8.nv.settings = []) ∧
    after (exec (.effectMessageRx (.pattern [] ((2 : Fin 4)) [])) w_ShadowIsKeptInStep_8) (fun t => decide ((t.trust.pinned = ((2 : Fin 4)).val ∧ t.trust.pinNext = ((2 : Fin 4)).val) ∧ (t.pattern = {}) ∧ (t.unit = 2) ∧ (t.stitches = w_ShadowIsKeptInStep_8.stitches))) = true := by decide +kernel

theorem test_ShadowIsKeptInStep_9 :
    (Runs unitS) ∧
    (NoRung unitS) ∧
    (unitS.unit ≠ 2) ∧
    after (exec (.effectMessageRx (.pattern (([1] : List Byte)) ((2 : Fin 4)) (([] : List (Nat × List Int))))) unitS) (fun t => decide ((t = unitS))) = true := by decide +kernel

theorem test_ShadowIsKeptInStep_10 :
    (Runs unitA) ∧
    (termNewer (unitA.get (PAIR_TERM_term ((3 : Fin 64)))) ((1 : BitVec 16)).toNat = true) ∧
    after (exec (.claimRecordRx (.claim ((3 : Fin 64)) ((1 : BitVec 16)) 0)) unitA) (fun t => decide ((t.ownsPort ((3 : Fin 64)) = false) ∧ (t.get (PAIR_TERM_term ((3 : Fin 64))) = ((1 : BitVec 16)).toNat) ∧ (t.unit = unitA.unit) ∧ (t.stitches = unitA.stitches) ∧ (t.mem = unitA.mem))) = true := by decide +kernel

theorem test_ShadowIsKeptInStep_11 :
    (termNewer (unitA.get (PAIR_TERM_term ((3 : Fin 64)))) ((0 : BitVec 16)).toNat = false) ∧
    after (exec (.claimRecordRx (.claim ((3 : Fin 64)) ((0 : BitVec 16)) 0)) unitA) (fun t => decide ((t = unitA))) = true := by decide +kernel

theorem test_ShadowIsKeptInStep_12 :
    (Runs unitS) ∧
    (NoRung unitS) ∧
    (unitS.swTouched = []) ∧
    (unitS.get PAIR_STATUS_pos_conflict = 0) ∧
    (unitS.pair.mirror = []) ∧
    after (exec (.claimRecordRx (.yield ((3 : Fin 64)))) unitS) (fun t => decide ((t.ownsPort ((3 : Fin 64)) = true) ∧ (t.get (PAIR_TERM_term ((3 : Fin 64))) = (unitS.get (PAIR_TERM_term ((3 : Fin 64))) + 1) % 65536 ∧ t.get (PAIR_TERM_claim_pending ((3 : Fin 64))) = 1) ∧ (Counted unitS t PAIR_CNT_CLAIM_v) ∧ (t.unit = unitS.unit) ∧ (t.stitches = unitS.stitches) ∧ (t.mem = unitS.mem))) = true := by decide +kernel

theorem test_ShadowIsKeptInStep_13 :
    (Runs unitS) ∧
    (unitS.active = false) ∧
    ((({ holdup := 1, cause := 2, pfw := true, charges := [(2, 55)] } : ShelfDigest)).holdup < 4 ∧ (({ holdup := 1, cause := 2, pfw := true, charges := [(2, 55)] } : ShelfDigest)).cause < 8) ∧
    after (exec (.shelfDigestRx (({ holdup := 1, cause := 2, pfw := true, charges := [(2, 55)] } : ShelfDigest))) unitS) (fun t => decide ((t.get HU_STATUS_state = (({ holdup := 1, cause := 2, pfw := true, charges := [(2, 55)] } : ShelfDigest)).holdup ∧ t.get HU_STATUS_cause = (({ holdup := 1, cause := 2, pfw := true, charges := [(2, 55)] } : ShelfDigest)).cause ∧ t.get HU_STATUS_pfw = (({ holdup := 1, cause := 2, pfw := true, charges := [(2, 55)] } : ShelfDigest)).pfw.toNat) ∧ (t.shelf.enteredAt = (({ holdup := 1, cause := 2, pfw := true, charges := [(2, 55)] } : ShelfDigest)).enteredAt ∧ t.shelf.energy = (({ holdup := 1, cause := 2, pfw := true, charges := [(2, 55)] } : ShelfDigest)).energy) ∧ (t.pair.shelfDigest = some (({ holdup := 1, cause := 2, pfw := true, charges := [(2, 55)] } : ShelfDigest))) ∧ (t.unit = unitS.unit) ∧ (t.mem = unitS.mem))) = true := by decide +kernel

theorem test_ShadowIsKeptInStep_14 :
    (unitA.active = true) ∧
    after (exec (.shelfDigestRx (({} : ShelfDigest))) unitA) (fun t => decide ((t = unitA))) = true := by decide +kernel

def w_ShadowIsKeptInStep_15 : State :=
    (unitS.updPair (fun x => { x with partner := true }))

theorem test_ShadowIsKeptInStep_15 :
    (Runs w_ShadowIsKeptInStep_15) ∧
    (w_ShadowIsKeptInStep_15.pair.partner = true) ∧
    (18 ≤ 255 ∧ 19 ≤ 255) ∧
    after (exec (.portFlightsRx ((3 : Fin 64)) 18 19 8) w_ShadowIsKeptInStep_15) (fun t => decide ((t.get (PORT_FLIGHT_pair_up_ns ((3 : Fin 64))) = Nat.max 18 (w_ShadowIsKeptInStep_15.get (PORT_FLIGHT_up_ns ((3 : Fin 64))))) ∧ (t.get (PORT_FLIGHT_pair_down_ns ((3 : Fin 64))) = Nat.max 19 (w_ShadowIsKeptInStep_15.get (PORT_FLIGHT_down_ns ((3 : Fin 64))))) ∧ ((t.port ((3 : Fin 64))).pairWidth = 8) ∧ (t.unit = w_ShadowIsKeptInStep_15.unit) ∧ (t.mem = w_ShadowIsKeptInStep_15.mem))) = true := by decide +kernel

def w_ShadowIsKeptInStep_16 : State :=
    { ((unitA.setF PAIR_STATUS_link_up 1).setF (PAIR_COVER_bit 3) 1).updPort 3 (fun x => { x with downSince := some 0 }) with ct := 3200 }

theorem test_ShadowIsKeptInStep_16 :
    (w_ShadowIsKeptInStep_16.get PAIR_STATUS_link_up = 1) ∧
    (w_ShadowIsKeptInStep_16.partnerRel.xoff = false ∧ w_ShadowIsKeptInStep_16.partnerRel.backlog = [] ∧ w_ShadowIsKeptInStep_16.partnerRel.again = [] ∧ w_ShadowIsKeptInStep_16.partnerRel.unacked.length < 32) ∧
    ((w_ShadowIsKeptInStep_16.port ((3 : Fin 64))).downSince = some 0) ∧
    (0 + us 2 ≤ w_ShadowIsKeptInStep_16.ct) ∧
    (w_ShadowIsKeptInStep_16.ownsPort ((3 : Fin 64)) = true) ∧
    (w_ShadowIsKeptInStep_16.get (PAIR_COVER_bit ((3 : Fin 64))) = 1) ∧
    after (exec (.portMoveYield ((3 : Fin 64))) w_ShadowIsKeptInStep_16) (fun t => decide ((t.out = w_ShadowIsKeptInStep_16.out ++ [.claimRec (.yield ((3 : Fin 64)))]) ∧ (t.ownsPort ((3 : Fin 64)) = false) ∧ (t.unit = w_ShadowIsKeptInStep_16.unit) ∧ (t.slSt ((3 : Fin 64)) = w_ShadowIsKeptInStep_16.slSt ((3 : Fin 64))) ∧ (t.stitches = w_ShadowIsKeptInStep_16.stitches) ∧ (t.mem = w_ShadowIsKeptInStep_16.mem))) = true := by decide +kernel

theorem test_ShadowIsKeptInStep_17 :
    (unitA.get (PAIR_COVER_bit ((3 : Fin 64))) = 0) ∧
    after (exec (.portMoveYield ((3 : Fin 64))) unitA) (fun t => decide ((t = unitA))) = true := by decide +kernel

theorem test_TransitsSwapTheRoles_1 :
    (unitS.unit = 3) ∧
    (unitS.pair.transitAt = none) ∧
    (unitS.pair.proving = none) ∧
    (unitS.get PAIR_STATUS_pos_conflict = 0) ∧
    (160000 ≠ 0) ∧
    (unitS.ownsPort ((63 : Fin 64)) = false) ∧
    after (exec (.transitRx 160000) unitS) (fun t => decide ((t.pair.transitAt = some 160000 ∧ t.pair.transitIn = true) ∧ (t.get PAIR_STATUS_transit_pending = 1) ∧ (t.get (PAIR_TERM_term ((63 : Fin 64))) = (unitS.get (PAIR_TERM_term ((63 : Fin 64))) + 1) % 65536 ∧ t.get (PAIR_TERM_claim_pending ((63 : Fin 64))) = 1) ∧ (t.ownsPort ((63 : Fin 64)) = false) ∧ (t.unit = 3) ∧ (t.stitches = unitS.stitches) ∧ (t.mem = unitS.mem))) = true := by decide +kernel

theorem test_TransitsSwapTheRoles_2 :
    (unitA.unit ≠ 3) ∧
    after (exec (.transitRx 160000) unitA) (fun t => decide ((t = unitA))) = true := by decide +kernel

def w_TransitsSwapTheRoles_3 : State :=
    (unitA.updPair (fun x => { x with transitAt := some 0 }))

theorem test_TransitsSwapTheRoles_3 :
    (w_TransitsSwapTheRoles_3.pair.transitAt = some 0) ∧
    (0 ≤ w_TransitsSwapTheRoles_3.ct ∧ w_TransitsSwapTheRoles_3.ct < 0 + us 20) ∧
    (w_TransitsSwapTheRoles_3.pair.transitIn = false ∧ w_TransitsSwapTheRoles_3.pair.transitMid = false) ∧
    after (exec (.transitTime) w_TransitsSwapTheRoles_3) (fun t => decide ((t.ownsPort ((9 : Fin 64)) = false) ∧ (t.pair.transitMid = true) ∧ (t.shelfOn = false) ∧ (t.unit = w_TransitsSwapTheRoles_3.unit) ∧ (t.stitches = w_TransitsSwapTheRoles_3.stitches) ∧ (t.mem = w_TransitsSwapTheRoles_3.mem))) = true := by decide +kernel

def w_TransitsSwapTheRoles_4 : State :=
    { (unitA.updPair (fun x => { x with transitAt := some 0, transitMid := true })) with ct := 32000 }

theorem test_TransitsSwapTheRoles_4 :
    (NoRung w_TransitsSwapTheRoles_4) ∧
    (w_TransitsSwapTheRoles_4.swTouched = []) ∧
    (w_TransitsSwapTheRoles_4.pair.transitAt = some 0) ∧
    (0 + us 20 ≤ w_TransitsSwapTheRoles_4.ct) ∧
    (w_TransitsSwapTheRoles_4.pair.transitIn = false ∧ w_TransitsSwapTheRoles_4.pair.transitMid = true ∧ w_TransitsSwapTheRoles_4.pair.transitFor = none) ∧
    after (exec (.transitTime) w_TransitsSwapTheRoles_4) (fun t => decide ((t.unit = 3) ∧ (t.get HU_STATUS_pfw = 0) ∧ (Counted w_TransitsSwapTheRoles_4 t PAIR_CNT_TRANSIT_v) ∧ (t.get PAIR_STATUS_transit_pending = 0) ∧ (t.pair.transitAt = none ∧ t.pair.transitMid = false ∧ t.pair.lastSwap = 0) ∧ (t.stitches = w_TransitsSwapTheRoles_4.stitches) ∧ (t.mem = w_TransitsSwapTheRoles_4.mem))) = true := by decide +kernel

def w_TransitsSwapTheRoles_5 : State :=
    { (unitS.updPair (fun x => { x with transitAt := some 0, transitMid := true, transitIn := true })) with ct := 32000 }

theorem test_TransitsSwapTheRoles_5 :
    (NoRung w_TransitsSwapTheRoles_5) ∧
    (w_TransitsSwapTheRoles_5.swTouched = []) ∧
    (w_TransitsSwapTheRoles_5.pair.transitAt = some 0) ∧
    (0 + us 20 ≤ w_TransitsSwapTheRoles_5.ct) ∧
    (w_TransitsSwapTheRoles_5.pair.transitIn = true ∧ w_TransitsSwapTheRoles_5.pair.transitMid = true ∧ w_TransitsSwapTheRoles_5.pair.transitFor = none) ∧
    after (exec (.transitTime) w_TransitsSwapTheRoles_5) (fun t => decide ((t.unit = 4) ∧ (t.get HU_STATUS_pfw = w_TransitsSwapTheRoles_5.get HU_STATUS_pfw) ∧ (Counted w_TransitsSwapTheRoles_5 t PAIR_CNT_TRANSIT_v) ∧ (t.pair.transitAt = none ∧ t.pair.transitMid = false ∧ t.pair.lastSwap = 0) ∧ (t.stitches = w_TransitsSwapTheRoles_5.stitches) ∧ (t.mem = w_TransitsSwapTheRoles_5.mem))) = true := by decide +kernel

def w_TransitsSwapTheRoles_6 : State :=
    (unitA.updPair (fun x => { x with transitAt := some 5 }))

theorem test_TransitsSwapTheRoles_6 :
    (w_TransitsSwapTheRoles_6.pair.transitAt = some 5) ∧
    (w_TransitsSwapTheRoles_6.ct < 5) ∧
    after (exec (.transitTime) w_TransitsSwapTheRoles_6) (fun t => decide ((t = w_TransitsSwapTheRoles_6))) = true := by decide +kernel

def w_TransitsSwapTheRoles_7 : State :=
    { (((unitA.setF PAIR_STATUS_link_up 1).setF PAIR_STATUS_covered_all 1).setF PAIR_STATUS_partner_state 3) with ct := 1000000000000000 }

theorem test_TransitsSwapTheRoles_7 :
    (w_TransitsSwapTheRoles_7.active = true) ∧
    (w_TransitsSwapTheRoles_7.get PAIR_STATUS_covered_all = 1) ∧
    (w_TransitsSwapTheRoles_7.get PAIR_STATUS_partner_state = 3) ∧
    (w_TransitsSwapTheRoles_7.get HU_STATUS_state ≠ 3) ∧
    (w_TransitsSwapTheRoles_7.pair.transitAt = none) ∧
    (w_TransitsSwapTheRoles_7.get PAIR_STATUS_link_up = 1) ∧
    (w_TransitsSwapTheRoles_7.partnerRel.xoff = false ∧ w_TransitsSwapTheRoles_7.partnerRel.backlog = [] ∧ w_TransitsSwapTheRoles_7.partnerRel.again = [] ∧ w_TransitsSwapTheRoles_7.partnerRel.unacked.length < 32) ∧
    (w_TransitsSwapTheRoles_7.isHome = true) ∧
    (w_TransitsSwapTheRoles_7.pair.transitIn = false ∧ w_TransitsSwapTheRoles_7.pair.periodicOff = false) ∧
    (w_TransitsSwapTheRoles_7.get PAIR_CFG_transit_h ≠ 0) ∧
    (w_TransitsSwapTheRoles_7.pair.lastSwap + sec (3600 * w_TransitsSwapTheRoles_7.get PAIR_CFG_transit_h) ≤ w_TransitsSwapTheRoles_7.ct) ∧
    after (exec (.periodicTransit) w_TransitsSwapTheRoles_7) (fun t => decide ((t.pair.transitAt = some (w_TransitsSwapTheRoles_7.ct + us 100)) ∧ (t.get PAIR_STATUS_transit_pending = 1) ∧ (t.out = w_TransitsSwapTheRoles_7.out ++ [.transitRec (w_TransitsSwapTheRoles_7.ct + us 100)]) ∧ (t.unit = 4) ∧ (t.stitches = w_TransitsSwapTheRoles_7.stitches) ∧ (t.mem = w_TransitsSwapTheRoles_7.mem))) = true := by decide +kernel

theorem test_TransitsSwapTheRoles_8 :
    ((unitA.setF PAIR_CFG_transit_h 0).get PAIR_CFG_transit_h = 0) ∧
    after (exec (.periodicTransit) (unitA.setF PAIR_CFG_transit_h 0)) (fun t => decide ((t = (unitA.setF PAIR_CFG_transit_h 0)))) = true := by decide +kernel

def w_TransitsSwapTheRoles_9 : State :=
    { (unitS.updPair (fun x => { x with proving := some 0 })) with ct := 96000000000 }

theorem test_TransitsSwapTheRoles_9 :
    (w_TransitsSwapTheRoles_9.get PAIR_STATUS_link_up = 1) ∧
    (w_TransitsSwapTheRoles_9.partnerRel.xoff = false ∧ w_TransitsSwapTheRoles_9.partnerRel.backlog = [] ∧ w_TransitsSwapTheRoles_9.partnerRel.again = [] ∧ w_TransitsSwapTheRoles_9.partnerRel.unacked.length < 32) ∧
    (w_TransitsSwapTheRoles_9.pair.proving = some 0) ∧
    (w_TransitsSwapTheRoles_9.unit = 3) ∧
    (w_TransitsSwapTheRoles_9.isHome = true) ∧
    (0 + sec (w_TransitsSwapTheRoles_9.get PAIR_TIMING_prove_s) ≤ w_TransitsSwapTheRoles_9.ct) ∧
    after (exec (.proveTimer) w_TransitsSwapTheRoles_9) (fun t => decide ((t.out = w_TransitsSwapTheRoles_9.out ++ [.transitReq]) ∧ (t.pair.proving = none) ∧ (t.regs = w_TransitsSwapTheRoles_9.regs) ∧ (t.mem = w_TransitsSwapTheRoles_9.mem))) = true := by decide +kernel

theorem test_TransitsSwapTheRoles_10 :
    (unitA.pair.proving = none) ∧
    after (exec (.proveTimer) unitA) (fun t => decide ((t = unitA))) = true := by decide +kernel

def w_TransitsSwapTheRoles_11 : State :=
    { (unitS.updPair (fun x => { x with coveringSince := some 0 })) with ct := 960000000000 }

theorem test_TransitsSwapTheRoles_11 :
    (w_TransitsSwapTheRoles_11.get PAIR_STATUS_link_up = 1) ∧
    (w_TransitsSwapTheRoles_11.partnerRel.xoff = false ∧ w_TransitsSwapTheRoles_11.partnerRel.backlog = [] ∧ w_TransitsSwapTheRoles_11.partnerRel.again = [] ∧ w_TransitsSwapTheRoles_11.partnerRel.unacked.length < 32) ∧
    (w_TransitsSwapTheRoles_11.unit = 3) ∧
    (w_TransitsSwapTheRoles_11.isHome = true) ∧
    (w_TransitsSwapTheRoles_11.get PAIR_CFG_reclaim_en = 1) ∧
    (w_TransitsSwapTheRoles_11.pair.coveringSince = some 0) ∧
    (0 + sec (w_TransitsSwapTheRoles_11.get PAIR_TIMING_reclaim_s) ≤ w_TransitsSwapTheRoles_11.ct) ∧
    after (exec (.reclaimRequest) w_TransitsSwapTheRoles_11) (fun t => decide ((t.out = w_TransitsSwapTheRoles_11.out ++ [.transitReq]) ∧ (t.regs = w_TransitsSwapTheRoles_11.regs) ∧ (t.pair = w_TransitsSwapTheRoles_11.pair) ∧ (t.mem = w_TransitsSwapTheRoles_11.mem))) = true := by decide +kernel

def w_TransitsSwapTheRoles_12 : State :=
    (((unitA.setF PAIR_STATUS_link_up 1).setF PAIR_STATUS_covered_all 1).setF PAIR_STATUS_partner_state 3)

theorem test_TransitsSwapTheRoles_12 :
    (w_TransitsSwapTheRoles_12.active = true) ∧
    (w_TransitsSwapTheRoles_12.get PAIR_STATUS_covered_all = 1) ∧
    (w_TransitsSwapTheRoles_12.get PAIR_STATUS_partner_state = 3) ∧
    (w_TransitsSwapTheRoles_12.get HU_STATUS_state ≠ 3) ∧
    (w_TransitsSwapTheRoles_12.pair.transitAt = none) ∧
    (w_TransitsSwapTheRoles_12.get PAIR_STATUS_link_up = 1) ∧
    (w_TransitsSwapTheRoles_12.partnerRel.xoff = false ∧ w_TransitsSwapTheRoles_12.partnerRel.backlog = [] ∧ w_TransitsSwapTheRoles_12.partnerRel.again = [] ∧ w_TransitsSwapTheRoles_12.partnerRel.unacked.length < 32) ∧
    (w_TransitsSwapTheRoles_12.get PAIR_CFG_auto_transit = 1) ∧
    after (exec (.pcieDownTransit) w_TransitsSwapTheRoles_12) (fun t => decide ((t.pair.transitAt = some (w_TransitsSwapTheRoles_12.ct + us 100)) ∧ (t.get PAIR_STATUS_transit_pending = 1) ∧ (t.out = w_TransitsSwapTheRoles_12.out ++ [.transitRec (w_TransitsSwapTheRoles_12.ct + us 100)]) ∧ (t.unit = 4) ∧ (t.stitches = w_TransitsSwapTheRoles_12.stitches) ∧ (t.mem = w_TransitsSwapTheRoles_12.mem))) = true := by decide +kernel

def w_TransitsSwapTheRoles_13 : State :=
    (((unitA.setF PAIR_STATUS_link_up 1).setF PAIR_STATUS_covered_all 1).setF PAIR_STATUS_partner_state 3)

theorem test_TransitsSwapTheRoles_13 :
    (w_TransitsSwapTheRoles_13.active = true) ∧
    (w_TransitsSwapTheRoles_13.get PAIR_STATUS_covered_all = 1) ∧
    (w_TransitsSwapTheRoles_13.get PAIR_STATUS_partner_state = 3) ∧
    (w_TransitsSwapTheRoles_13.get HU_STATUS_state ≠ 3) ∧
    (w_TransitsSwapTheRoles_13.pair.transitAt = none) ∧
    (w_TransitsSwapTheRoles_13.get PAIR_STATUS_link_up = 1) ∧
    (w_TransitsSwapTheRoles_13.partnerRel.xoff = false ∧ w_TransitsSwapTheRoles_13.partnerRel.backlog = [] ∧ w_TransitsSwapTheRoles_13.partnerRel.again = [] ∧ w_TransitsSwapTheRoles_13.partnerRel.unacked.length < 32) ∧
    after (exec (.transitRequestRx) w_TransitsSwapTheRoles_13) (fun t => decide ((t.pair.transitAt = some (w_TransitsSwapTheRoles_13.ct + us 100)) ∧ (t.get PAIR_STATUS_transit_pending = 1) ∧ (t.out = w_TransitsSwapTheRoles_13.out ++ [.transitRec (w_TransitsSwapTheRoles_13.ct + us 100)]) ∧ (t.unit = 4) ∧ (t.stitches = w_TransitsSwapTheRoles_13.stitches) ∧ (t.mem = w_TransitsSwapTheRoles_13.mem))) = true := by decide +kernel

theorem test_TransitsSwapTheRoles_14 :
    (unitA.get PAIR_STATUS_covered_all = 0) ∧
    after (exec (.transitRequestRx) unitA) (fun t => decide ((t = unitA))) = true := by decide +kernel

theorem test_TransitsSwapTheRoles_15 :
    (Ready ((withCmd (unitA) 256 9 0xb01 [])) ((256 : Mb)) ((9 : Fin 64)) 0xB01) ∧
    (NoRung ((withCmd (unitA) 256 9 0xb01 []))) ∧
    after (exec (.pairQuery ((256 : Mb)) ((9 : Fin 64))) ((withCmd (unitA) 256 9 0xb01 []))) (fun t => decide ((Done t ((256 : Mb)) ((9 : Fin 64)) (cmdOf ((withCmd (unitA) 256 9 0xb01 [])) ((256 : Mb)) ((9 : Fin 64))) 0 (((withCmd (unitA) 256 9 0xb01 [])).unit + 8 * ((withCmd (unitA) 256 9 0xb01 [])).get PAIR_STATUS_partner_state + 64 * ((withCmd (unitA) 256 9 0xb01 [])).get PAIR_CFG_home) ((withCmd (unitA) 256 9 0xb01 [])).ownMask.toNat) ∧ (t.pair = ((withCmd (unitA) 256 9 0xb01 [])).pair) ∧ (t.stitches = ((withCmd (unitA) 256 9 0xb01 [])).stitches))) = true := by decide +kernel

def w_TransitsSwapTheRoles_16 : State :=
    (withCmd ((((unitA.setF PAIR_STATUS_link_up 1).setF PAIR_STATUS_covered_all 1).setF PAIR_STATUS_partner_state 3)) 256 9 0xb02 [])

theorem test_TransitsSwapTheRoles_16 :
    (Ready w_TransitsSwapTheRoles_16 ((256 : Mb)) ((9 : Fin 64)) 0xB02) ∧
    (NoRung w_TransitsSwapTheRoles_16) ∧
    (w_TransitsSwapTheRoles_16.active = true) ∧
    (w_TransitsSwapTheRoles_16.get PAIR_STATUS_covered_all = 1) ∧
    (w_TransitsSwapTheRoles_16.get PAIR_STATUS_partner_state = 3) ∧
    (w_TransitsSwapTheRoles_16.get HU_STATUS_state ≠ 3) ∧
    (w_TransitsSwapTheRoles_16.pair.transitAt = none) ∧
    (w_TransitsSwapTheRoles_16.get PAIR_STATUS_link_up = 1) ∧
    (w_TransitsSwapTheRoles_16.partnerRel.xoff = false ∧ w_TransitsSwapTheRoles_16.partnerRel.backlog = [] ∧ w_TransitsSwapTheRoles_16.partnerRel.again = [] ∧ w_TransitsSwapTheRoles_16.partnerRel.unacked.length < 32) ∧
    (u64 (payloadOf w_TransitsSwapTheRoles_16 ((256 : Mb)) ((9 : Fin 64))) 0 = 0) ∧
    after (exec (.pairTransit ((256 : Mb)) ((9 : Fin 64))) w_TransitsSwapTheRoles_16) (fun t => decide ((t.pair.transitAt = some (w_TransitsSwapTheRoles_16.ct + us 100)) ∧ (t.pair.transitFor = some (((256 : Mb)).val, ((9 : Fin 64)).val)) ∧ (t.get PAIR_STATUS_transit_pending = 1) ∧ (t.unit = 4) ∧ (t.stitches = w_TransitsSwapTheRoles_16.stitches))) = true := by decide +kernel

theorem test_TransitsSwapTheRoles_17 :
    (Ready ((withCmd (unitA) 256 9 0xb02 [])) ((256 : Mb)) ((9 : Fin 64)) 0xB02) ∧
    (NoRung ((withCmd (unitA) 256 9 0xb02 []))) ∧
    (((withCmd (unitA) 256 9 0xb02 [])).get PAIR_STATUS_covered_all = 0) ∧
    (u64 (payloadOf ((withCmd (unitA) 256 9 0xb02 [])) ((256 : Mb)) ((9 : Fin 64))) 0 = 0) ∧
    (Tail ((withCmd (unitA) 256 9 0xb02 [])) ((256 : Mb)) ((9 : Fin 64))) ∧
    after (exec (.pairTransit ((256 : Mb)) ((9 : Fin 64))) ((withCmd (unitA) 256 9 0xb02 []))) (fun t => decide ((Done t ((256 : Mb)) ((9 : Fin 64)) (cmdOf ((withCmd (unitA) 256 9 0xb02 [])) ((256 : Mb)) ((9 : Fin 64))) 2 5 0) ∧ (t.pair = ((withCmd (unitA) 256 9 0xb02 [])).pair) ∧ (t.stitches = ((withCmd (unitA) 256 9 0xb02 [])).stitches))) = true := by decide +kernel

def w_TransitsSwapTheRoles_18 : State :=
    (withCmd ((((unitA.setF PAIR_STATUS_link_up 1).setF PAIR_STATUS_covered_all 1).setF PAIR_STATUS_partner_state 3)) 256 9 0xb02 [1])

theorem test_TransitsSwapTheRoles_18 :
    (Ready w_TransitsSwapTheRoles_18 ((256 : Mb)) ((9 : Fin 64)) 0xB02) ∧
    (NoRung w_TransitsSwapTheRoles_18) ∧
    (u64 (payloadOf w_TransitsSwapTheRoles_18 ((256 : Mb)) ((9 : Fin 64))) 0 ≠ 0 ∧ u64 (payloadOf w_TransitsSwapTheRoles_18 ((256 : Mb)) ((9 : Fin 64))) 0 < w_TransitsSwapTheRoles_18.ct + us 100) ∧
    (Tail w_TransitsSwapTheRoles_18 ((256 : Mb)) ((9 : Fin 64))) ∧
    after (exec (.pairTransit ((256 : Mb)) ((9 : Fin 64))) w_TransitsSwapTheRoles_18) (fun t => decide ((Done t ((256 : Mb)) ((9 : Fin 64)) (cmdOf w_TransitsSwapTheRoles_18 ((256 : Mb)) ((9 : Fin 64))) 4 0 0) ∧ (t.pair = w_TransitsSwapTheRoles_18.pair) ∧ (t.stitches = w_TransitsSwapTheRoles_18.stitches))) = true := by decide +kernel

def w_TransitsSwapTheRoles_19 : State :=
    (withCmd (unitA) 256 9 0xb03 [1, 2, 24, 0, 60, 0, 88, 2])

theorem test_TransitsSwapTheRoles_19 :
    (Ready w_TransitsSwapTheRoles_19 ((256 : Mb)) ((9 : Fin 64)) 0xB03) ∧
    (NoRung w_TransitsSwapTheRoles_19) ∧
    (u8 (payloadOf w_TransitsSwapTheRoles_19 ((256 : Mb)) ((9 : Fin 64))) 0 ≤ 1 ∧ u8 (payloadOf w_TransitsSwapTheRoles_19 ((256 : Mb)) ((9 : Fin 64))) 1 ≤ 3) ∧
    (u16 (payloadOf w_TransitsSwapTheRoles_19 ((256 : Mb)) ((9 : Fin 64))) 2 ≤ 8760) ∧
    (10 ≤ u16 (payloadOf w_TransitsSwapTheRoles_19 ((256 : Mb)) ((9 : Fin 64))) 4 ∧ u16 (payloadOf w_TransitsSwapTheRoles_19 ((256 : Mb)) ((9 : Fin 64))) 4 ≤ 3600) ∧
    (60 ≤ u16 (payloadOf w_TransitsSwapTheRoles_19 ((256 : Mb)) ((9 : Fin 64))) 6) ∧
    after (exec (.pairCtrl ((256 : Mb)) ((9 : Fin 64))) w_TransitsSwapTheRoles_19) (fun t => decide ((t.get PAIR_CFG_home = u8 (payloadOf w_TransitsSwapTheRoles_19 ((256 : Mb)) ((9 : Fin 64))) 0) ∧ (t.get PAIR_CFG_reclaim_en = u8 (payloadOf w_TransitsSwapTheRoles_19 ((256 : Mb)) ((9 : Fin 64))) 1 % 2 ∧ t.get PAIR_CFG_auto_transit = u8 (payloadOf w_TransitsSwapTheRoles_19 ((256 : Mb)) ((9 : Fin 64))) 1 / 2) ∧ (t.get PAIR_CFG_transit_h = u16 (payloadOf w_TransitsSwapTheRoles_19 ((256 : Mb)) ((9 : Fin 64))) 2) ∧ (t.get PAIR_TIMING_prove_s = u16 (payloadOf w_TransitsSwapTheRoles_19 ((256 : Mb)) ((9 : Fin 64))) 4 ∧ t.get PAIR_TIMING_reclaim_s = u16 (payloadOf w_TransitsSwapTheRoles_19 ((256 : Mb)) ((9 : Fin 64))) 6) ∧ (t.pair.periodicOff = false) ∧ (Done t ((256 : Mb)) ((9 : Fin 64)) (cmdOf w_TransitsSwapTheRoles_19 ((256 : Mb)) ((9 : Fin 64))) 0 0 0) ∧ (t.stitches = w_TransitsSwapTheRoles_19.stitches))) = true := by decide +kernel

theorem test_FaultsAreCollectedAndCleared_1 :
    (MayRaise unitA ((Kind.skeinUv)) 74) ∧
    (unitA.swTouched = []) ∧
    ((unitA.raise ((Kind.skeinUv)) 74).raised ((Kind.skeinUv)) 74 = true) ∧
    (Counted unitA (unitA.raise ((Kind.skeinUv)) 74) (FLT_KCNT_raises ((Kind.skeinUv)).code)) ∧
    ((unitA.raise ((Kind.skeinUv)) 74).get (FLT_KSTAT_seen ((Kind.skeinUv)).code) = 1) ∧
    ((unitA.raise ((Kind.skeinUv)) 74).get FLT_LOG_SEQ_v = (unitA.get FLT_LOG_SEQ_v + 1) % 2 ^ 32) ∧
    ((unitA.raise ((Kind.skeinUv)) 74).stitches = unitA.stitches) ∧
    ((unitA.raise ((Kind.skeinUv)) 74).skeins = unitA.skeins) ∧
    ((unitA.raise ((Kind.skeinUv)) 74).unit = unitA.unit) := by decide +kernel

def w_FaultsAreCollectedAndCleared_2 : State :=
    ((unitA.updFaults (fun f => { f with insts := [{ kind := .stitchSampleLoss, inst := 1576, cls := 2, graceAt := some 0 }] })).setF FLT_CTRL_max_rung 4).updSt 1576 (fun x => { x with skein := some 74 })

theorem test_FaultsAreCollectedAndCleared_2 :
    (w_FaultsAreCollectedAndCleared_2.faults.insts = [(({ kind := .stitchSampleLoss, inst := 1576, cls := 2, graceAt := some 0 } : Inst))]) ∧
    (w_FaultsAreCollectedAndCleared_2.faults.atOnce = []) ∧
    (w_FaultsAreCollectedAndCleared_2.faults.kindOld = []) ∧
    ((({ kind := .stitchSampleLoss, inst := 1576, cls := 2, graceAt := some 0 } : Inst)).kind = .stitchSampleLoss ∧ (({ kind := .stitchSampleLoss, inst := 1576, cls := 2, graceAt := some 0 } : Inst)).inst = ((1576 : BitVec 16)).toNat ∧ (({ kind := .stitchSampleLoss, inst := 1576, cls := 2, graceAt := some 0 } : Inst)).held = false ∧ (({ kind := .stitchSampleLoss, inst := 1576, cls := 2, graceAt := some 0 } : Inst)).last = 0) ∧
    ((({ kind := .stitchSampleLoss, inst := 1576, cls := 2, graceAt := some 0 } : Inst)).graceAt = some 0 ∧ 0 ≤ w_FaultsAreCollectedAndCleared_2.ct) ∧
    (w_FaultsAreCollectedAndCleared_2.kindCfg .stitchSampleLoss ((1576 : BitVec 16)).toNat = (2, 1, 1, 32000000)) ∧
    (w_FaultsAreCollectedAndCleared_2.is (FLT_KIND_fixed 0x33) = false) ∧
    (w_FaultsAreCollectedAndCleared_2.is FLT_CTRL_ladder_en = true ∧ 1 ≤ w_FaultsAreCollectedAndCleared_2.get FLT_CTRL_max_rung) ∧
    (((1576 : BitVec 16)).toNat < 8192 ∧ w_FaultsAreCollectedAndCleared_2.ownsPort (((1576 : BitVec 16)).toNat / 128) = true) ∧
    ((w_FaultsAreCollectedAndCleared_2.st ((1576 : BitVec 16)).toNat).skein.isSome = true) ∧
    after (exec (.graceExpire 0x33 ((1576 : BitVec 16))) w_FaultsAreCollectedAndCleared_2) (fun t => decide (((t.st ((1576 : BitVec 16)).toNat).latched = true ∧ (t.st ((1576 : BitVec 16)).toNat).state = 5) ∧ (t.get (STITCH_FLT_bit (((1576 : BitVec 16)).toNat / 128) (((1576 : BitVec 16)).toNat % 128)) = 1) ∧ (t.get FLT_STATUS_last_rung = 1) ∧ (t.faults.insts = [{ (({ kind := .stitchSampleLoss, inst := 1576, cls := 2, graceAt := some 0 } : Inst)) with last := 1, graceAt := none, done := true, waits := false }]) ∧ (t.skeins = w_FaultsAreCollectedAndCleared_2.skeins) ∧ (t.ports = w_FaultsAreCollectedAndCleared_2.ports) ∧ (t.rects = w_FaultsAreCollectedAndCleared_2.rects))) = true := by decide +kernel

def w_FaultsAreCollectedAndCleared_3 : State :=
    unitA.updFaults (fun f => { f with insts := [{ kind := .stitchSampleLoss, inst := 1576, cls := 2, graceAt := some 5 }] })

theorem test_FaultsAreCollectedAndCleared_3 :
    (∀ y ∈ w_FaultsAreCollectedAndCleared_3.faults.insts, y.kind.code ≠ ((0x33 : Byte)).toNat ∨ y.inst ≠ ((1576 : BitVec 16)).toNat ∨ y.held = true ∨ y.graceAt.all (fun u => decide (w_FaultsAreCollectedAndCleared_3.ct < u)) = true) ∧
    after (exec (.graceExpire ((0x33 : Byte)) ((1576 : BitVec 16))) w_FaultsAreCollectedAndCleared_3) (fun t => decide ((t = w_FaultsAreCollectedAndCleared_3))) = true := by decide +kernel

def w_FaultsAreCollectedAndCleared_4 : State :=
    (unitA.updFaults (fun f => { f with insts := [{ kind := .stitchSampleLoss, inst := 1576, cls := 2, graceAt := some 0 }] })).putWord (aPAIR_OWN 0) 0

theorem test_FaultsAreCollectedAndCleared_4 :
    (w_FaultsAreCollectedAndCleared_4.faults.insts = [(({ kind := .stitchSampleLoss, inst := 1576, cls := 2, graceAt := some 0 } : Inst))]) ∧
    (w_FaultsAreCollectedAndCleared_4.faults.atOnce = []) ∧
    ((({ kind := .stitchSampleLoss, inst := 1576, cls := 2, graceAt := some 0 } : Inst)).kind = .stitchSampleLoss ∧ (({ kind := .stitchSampleLoss, inst := 1576, cls := 2, graceAt := some 0 } : Inst)).inst = ((1576 : BitVec 16)).toNat ∧ (({ kind := .stitchSampleLoss, inst := 1576, cls := 2, graceAt := some 0 } : Inst)).held = false ∧ (({ kind := .stitchSampleLoss, inst := 1576, cls := 2, graceAt := some 0 } : Inst)).last = 0 ∧ (({ kind := .stitchSampleLoss, inst := 1576, cls := 2, graceAt := some 0 } : Inst)).waits = false ∧ (({ kind := .stitchSampleLoss, inst := 1576, cls := 2, graceAt := some 0 } : Inst)).cls = 2) ∧
    ((({ kind := .stitchSampleLoss, inst := 1576, cls := 2, graceAt := some 0 } : Inst)).graceAt = some 0 ∧ 0 ≤ w_FaultsAreCollectedAndCleared_4.ct) ∧
    (w_FaultsAreCollectedAndCleared_4.faults.kindOld = []) ∧
    (1 ≤ (w_FaultsAreCollectedAndCleared_4.kindCfg .stitchSampleLoss ((1576 : BitVec 16)).toNat).2.1 ∧ (w_FaultsAreCollectedAndCleared_4.kindCfg .stitchSampleLoss ((1576 : BitVec 16)).toNat).2.1 ≤ 3 ∧ (w_FaultsAreCollectedAndCleared_4.kindCfg .stitchSampleLoss ((1576 : BitVec 16)).toNat).2.1 ≤ Nat.min (w_FaultsAreCollectedAndCleared_4.kindCfg .stitchSampleLoss ((1576 : BitVec 16)).toNat).2.2.1 (w_FaultsAreCollectedAndCleared_4.get FLT_CTRL_max_rung)) ∧
    (w_FaultsAreCollectedAndCleared_4.is (FLT_KIND_fixed 0x33) = false) ∧
    (w_FaultsAreCollectedAndCleared_4.is FLT_CTRL_ladder_en = true) ∧
    (w_FaultsAreCollectedAndCleared_4.ownsPort (((1576 : BitVec 16)).toNat / 128) = false) ∧
    after (exec (.graceExpire 0x33 ((1576 : BitVec 16))) w_FaultsAreCollectedAndCleared_4) (fun t => decide ((t.faults.insts = [{ (({ kind := .stitchSampleLoss, inst := 1576, cls := 2, graceAt := some 0 } : Inst)) with waits := true }]) ∧ (t.stitches = w_FaultsAreCollectedAndCleared_4.stitches) ∧ (t.skeins = w_FaultsAreCollectedAndCleared_4.skeins) ∧ (t.ports = w_FaultsAreCollectedAndCleared_4.ports))) = true := by decide +kernel

def w_FaultsAreCollectedAndCleared_5 : State :=
    { unitA.updFaults (fun f => { f with safeStopAt := some 0, safeStops := [0] }) with ct := 80000000 }

theorem test_FaultsAreCollectedAndCleared_5 :
    (w_FaultsAreCollectedAndCleared_5.faults.safeStopAt = some 0) ∧
    (0 + ms 50 ≤ w_FaultsAreCollectedAndCleared_5.ct) ∧
    ((w_FaultsAreCollectedAndCleared_5.faults.safeStops.filter (fun v => decide (w_FaultsAreCollectedAndCleared_5.ct < v + sec 3600))).length < 3) ∧
    after (exec (.safeStopRestart) w_FaultsAreCollectedAndCleared_5) (fun t => decide ((t.get RST_STATUS_kind = 2 ∧ t.get RST_STATUS_cause = 3) ∧ (t.get FLT_STATUS_safe_stop_seen = 1) ∧ (t.rst.held = true) ∧ (t.rst.storedCt = some w_FaultsAreCollectedAndCleared_5.ct) ∧ (t.gpio = w_FaultsAreCollectedAndCleared_5.gpio ∧ t.gpioDriven = w_FaultsAreCollectedAndCleared_5.gpioDriven) ∧ (t.flash0 = w_FaultsAreCollectedAndCleared_5.flash0 ∧ t.flash1 = w_FaultsAreCollectedAndCleared_5.flash1) ∧ (t.nv.die0 = w_FaultsAreCollectedAndCleared_5.nv.die0 ∧ t.nv.die1 = w_FaultsAreCollectedAndCleared_5.nv.die1) ∧ (t.stitches = []))) = true := by decide +kernel

def w_FaultsAreCollectedAndCleared_6 : State :=
    { unitA.updFaults (fun f => { f with safeStopAt := some 0, safeStops := [0, 0, 0] }) with ct := 80000000 }

theorem test_FaultsAreCollectedAndCleared_6 :
    (w_FaultsAreCollectedAndCleared_6.faults.safeStopAt = some 0) ∧
    (0 + ms 50 ≤ w_FaultsAreCollectedAndCleared_6.ct) ∧
    (3 ≤ (w_FaultsAreCollectedAndCleared_6.faults.safeStops.filter (fun v => decide (w_FaultsAreCollectedAndCleared_6.ct < v + sec 3600))).length) ∧
    after (exec (.safeStopRestart) w_FaultsAreCollectedAndCleared_6) (fun t => decide ((t.unit = 0) ∧ (t.rst.dormantWhy = 2) ∧ (t.flash0 = w_FaultsAreCollectedAndCleared_6.flash0 ∧ t.flash1 = w_FaultsAreCollectedAndCleared_6.flash1) ∧ (t.stitches = []))) = true := by decide +kernel

def w_FaultsAreCollectedAndCleared_7 : State :=
    (withCmd (unitA.updFaults (fun f => { f with insts := [{ kind := .stitchSampleLoss, inst := 1576, cls := 2, last := 1, raisedAt := 77 }] })) 256 9 0x701 [0x33, 0, 40, 6])

theorem test_FaultsAreCollectedAndCleared_7 :
    (Ready w_FaultsAreCollectedAndCleared_7 ((256 : Mb)) ((9 : Fin 64)) 0x701) ∧
    (NoRung w_FaultsAreCollectedAndCleared_7) ∧
    (Passes w_FaultsAreCollectedAndCleared_7 (w_FaultsAreCollectedAndCleared_7.instChecks ((256 : Mb)) (payloadOf w_FaultsAreCollectedAndCleared_7 ((256 : Mb)) ((9 : Fin 64))))) ∧
    (Kind.ofCode (u8 (payloadOf w_FaultsAreCollectedAndCleared_7 ((256 : Mb)) ((9 : Fin 64))) 0) = some Kind.stitchSampleLoss) ∧
    after (exec (.faultQuery ((256 : Mb)) ((9 : Fin 64))) w_FaultsAreCollectedAndCleared_7) (fun t => decide ((Done t ((256 : Mb)) ((9 : Fin 64)) (cmdOf w_FaultsAreCollectedAndCleared_7 ((256 : Mb)) ((9 : Fin 64))) 0 ((w_FaultsAreCollectedAndCleared_7.instState Kind.stitchSampleLoss (u16 (payloadOf w_FaultsAreCollectedAndCleared_7 ((256 : Mb)) ((9 : Fin 64))) 2)).1 + 4 * (w_FaultsAreCollectedAndCleared_7.instState Kind.stitchSampleLoss (u16 (payloadOf w_FaultsAreCollectedAndCleared_7 ((256 : Mb)) ((9 : Fin 64))) 2)).2.1 + 32 * (w_FaultsAreCollectedAndCleared_7.instState Kind.stitchSampleLoss (u16 (payloadOf w_FaultsAreCollectedAndCleared_7 ((256 : Mb)) ((9 : Fin 64))) 2)).2.2.1) (w_FaultsAreCollectedAndCleared_7.instState Kind.stitchSampleLoss (u16 (payloadOf w_FaultsAreCollectedAndCleared_7 ((256 : Mb)) ((9 : Fin 64))) 2)).2.2.2) ∧ (t.faults = w_FaultsAreCollectedAndCleared_7.faults) ∧ (t.stitches = w_FaultsAreCollectedAndCleared_7.stitches))) = true := by decide +kernel

def w_FaultsAreCollectedAndCleared_8 : State :=
    (withCmd (unitA.updFaults (fun f => { f with insts := [{ kind := .stitchSampleLoss, inst := 1576, cls := 2, held := true }] })) 256 9 0x702 [0x33, 0, 40, 6])

theorem test_FaultsAreCollectedAndCleared_8 :
    (Ready w_FaultsAreCollectedAndCleared_8 ((256 : Mb)) ((9 : Fin 64)) 0x702) ∧
    (NoRung w_FaultsAreCollectedAndCleared_8) ∧
    (Passes w_FaultsAreCollectedAndCleared_8 (w_FaultsAreCollectedAndCleared_8.instChecks ((256 : Mb)) (payloadOf w_FaultsAreCollectedAndCleared_8 ((256 : Mb)) ((9 : Fin 64))))) ∧
    (Kind.ofCode (u8 (payloadOf w_FaultsAreCollectedAndCleared_8 ((256 : Mb)) ((9 : Fin 64))) 0) = some Kind.stitchSampleLoss) ∧
    (w_FaultsAreCollectedAndCleared_8.instOf Kind.stitchSampleLoss (u16 (payloadOf w_FaultsAreCollectedAndCleared_8 ((256 : Mb)) ((9 : Fin 64))) 2) = some (({ kind := .stitchSampleLoss, inst := 1576, cls := 2, held := true } : Inst))) ∧
    ((({ kind := .stitchSampleLoss, inst := 1576, cls := 2, held := true } : Inst)).held = true) ∧
    after (exec (.faultClear ((256 : Mb)) ((9 : Fin 64))) w_FaultsAreCollectedAndCleared_8) (fun t => decide ((Done t ((256 : Mb)) ((9 : Fin 64)) (cmdOf w_FaultsAreCollectedAndCleared_8 ((256 : Mb)) ((9 : Fin 64))) 0 0 0) ∧ (t.instOf Kind.stitchSampleLoss (u16 (payloadOf w_FaultsAreCollectedAndCleared_8 ((256 : Mb)) ((9 : Fin 64))) 2) = none) ∧ (t.get FLT_LOG_SEQ_v = (w_FaultsAreCollectedAndCleared_8.get FLT_LOG_SEQ_v + 1) % 2 ^ 32) ∧ (t.get FLT_PREMATURE_v = w_FaultsAreCollectedAndCleared_8.get FLT_PREMATURE_v) ∧ (t.stitches = w_FaultsAreCollectedAndCleared_8.stitches))) = true := by decide +kernel

def w_FaultsAreCollectedAndCleared_9 : State :=
    (withCmd (unitA.updFaults (fun f => { f with insts := [{ kind := .stitchSampleLoss, inst := 1576, cls := 2, graceAt := some 9 }] })) 256 9 0x702 [0x33, 0, 40, 6])

theorem test_FaultsAreCollectedAndCleared_9 :
    (Ready w_FaultsAreCollectedAndCleared_9 ((256 : Mb)) ((9 : Fin 64)) 0x702) ∧
    (NoRung w_FaultsAreCollectedAndCleared_9) ∧
    (w_FaultsAreCollectedAndCleared_9.swTouched = []) ∧
    (Passes w_FaultsAreCollectedAndCleared_9 (w_FaultsAreCollectedAndCleared_9.instChecks ((256 : Mb)) (payloadOf w_FaultsAreCollectedAndCleared_9 ((256 : Mb)) ((9 : Fin 64))))) ∧
    (Kind.ofCode (u8 (payloadOf w_FaultsAreCollectedAndCleared_9 ((256 : Mb)) ((9 : Fin 64))) 0) = some Kind.stitchSampleLoss) ∧
    (w_FaultsAreCollectedAndCleared_9.instOf Kind.stitchSampleLoss (u16 (payloadOf w_FaultsAreCollectedAndCleared_9 ((256 : Mb)) ((9 : Fin 64))) 2) = some (({ kind := .stitchSampleLoss, inst := 1576, cls := 2, graceAt := some 9 } : Inst))) ∧
    ((({ kind := .stitchSampleLoss, inst := 1576, cls := 2, graceAt := some 9 } : Inst)).held = false) ∧
    (Tail w_FaultsAreCollectedAndCleared_9 ((256 : Mb)) ((9 : Fin 64))) ∧
    after (exec (.faultClear ((256 : Mb)) ((9 : Fin 64))) w_FaultsAreCollectedAndCleared_9) (fun t => decide ((Done t ((256 : Mb)) ((9 : Fin 64)) (cmdOf w_FaultsAreCollectedAndCleared_9 ((256 : Mb)) ((9 : Fin 64))) 9 1 0) ∧ (Counted w_FaultsAreCollectedAndCleared_9 t FLT_PREMATURE_v) ∧ (t.faults.insts = w_FaultsAreCollectedAndCleared_9.faults.insts) ∧ (t.get FLT_LOG_SEQ_v = (w_FaultsAreCollectedAndCleared_9.get FLT_LOG_SEQ_v + 1) % 2 ^ 32) ∧ (t.stitches = w_FaultsAreCollectedAndCleared_9.stitches))) = true := by decide +kernel

def w_FaultsAreCollectedAndCleared_10 : State :=
    (withCmd (unitA.updFaults (fun f => { f with insts := [{ kind := .stitchSampleLoss, inst := 1576, cls := 2, held := true }] })) 256 9 0x702 [0x33, 0, 40, 7])

theorem test_FaultsAreCollectedAndCleared_10 :
    (Ready w_FaultsAreCollectedAndCleared_10 ((256 : Mb)) ((9 : Fin 64)) 0x702) ∧
    (NoRung w_FaultsAreCollectedAndCleared_10) ∧
    (Passes w_FaultsAreCollectedAndCleared_10 (w_FaultsAreCollectedAndCleared_10.instChecks ((256 : Mb)) (payloadOf w_FaultsAreCollectedAndCleared_10 ((256 : Mb)) ((9 : Fin 64))))) ∧
    (Kind.ofCode (u8 (payloadOf w_FaultsAreCollectedAndCleared_10 ((256 : Mb)) ((9 : Fin 64))) 0) = some Kind.stitchSampleLoss) ∧
    (w_FaultsAreCollectedAndCleared_10.instOf Kind.stitchSampleLoss (u16 (payloadOf w_FaultsAreCollectedAndCleared_10 ((256 : Mb)) ((9 : Fin 64))) 2) = none) ∧
    after (exec (.faultClear ((256 : Mb)) ((9 : Fin 64))) w_FaultsAreCollectedAndCleared_10) (fun t => decide ((Done t ((256 : Mb)) ((9 : Fin 64)) (cmdOf w_FaultsAreCollectedAndCleared_10 ((256 : Mb)) ((9 : Fin 64))) 0 0 0) ∧ (t.faults = w_FaultsAreCollectedAndCleared_10.faults) ∧ (t.stitches = w_FaultsAreCollectedAndCleared_10.stitches))) = true := by decide +kernel

def w_FaultsAreCollectedAndCleared_11 : State :=
    (withCmd (unitA) 256 9 0x703 [0x55, 2, 1, 3, 0x10, 0x27, 1])

theorem test_FaultsAreCollectedAndCleared_11 :
    (Ready w_FaultsAreCollectedAndCleared_11 ((256 : Mb)) ((9 : Fin 64)) 0x703) ∧
    (NoRung w_FaultsAreCollectedAndCleared_11) ∧
    (w_FaultsAreCollectedAndCleared_11.swTouched = []) ∧
    (u8 (payloadOf w_FaultsAreCollectedAndCleared_11 ((256 : Mb)) ((9 : Fin 64))) 0 = 0x55) ∧
    (kindListed 0x55 = true ∧ w_FaultsAreCollectedAndCleared_11.is (FLT_KIND_fixed 0x55) = false) ∧
    (u8 (payloadOf w_FaultsAreCollectedAndCleared_11 ((256 : Mb)) ((9 : Fin 64))) 1 ≤ 3 ∧ u8 (payloadOf w_FaultsAreCollectedAndCleared_11 ((256 : Mb)) ((9 : Fin 64))) 2 ≤ u8 (payloadOf w_FaultsAreCollectedAndCleared_11 ((256 : Mb)) ((9 : Fin 64))) 3 ∧ u8 (payloadOf w_FaultsAreCollectedAndCleared_11 ((256 : Mb)) ((9 : Fin 64))) 3 ≤ 4 ∧ 1 ≤ u16 (payloadOf w_FaultsAreCollectedAndCleared_11 ((256 : Mb)) ((9 : Fin 64))) 4 ∧ u16 (payloadOf w_FaultsAreCollectedAndCleared_11 ((256 : Mb)) ((9 : Fin 64))) 4 ≤ 10000 ∧ u8 (payloadOf w_FaultsAreCollectedAndCleared_11 ((256 : Mb)) ((9 : Fin 64))) 6 ≤ 1) ∧
    after (exec (.faultConfig ((256 : Mb)) ((9 : Fin 64))) w_FaultsAreCollectedAndCleared_11) (fun t => decide ((Done t ((256 : Mb)) ((9 : Fin 64)) (cmdOf w_FaultsAreCollectedAndCleared_11 ((256 : Mb)) ((9 : Fin 64))) 0 0 0) ∧ (t.get (FLT_KIND_class 0x55) = u8 (payloadOf w_FaultsAreCollectedAndCleared_11 ((256 : Mb)) ((9 : Fin 64))) 1 ∧ t.get (FLT_KIND_rung_first 0x55) = u8 (payloadOf w_FaultsAreCollectedAndCleared_11 ((256 : Mb)) ((9 : Fin 64))) 2 ∧ t.get (FLT_KIND_rung_max 0x55) = u8 (payloadOf w_FaultsAreCollectedAndCleared_11 ((256 : Mb)) ((9 : Fin 64))) 3) ∧ (t.get (FLT_KIND_grace_val 0x55) = u16 (payloadOf w_FaultsAreCollectedAndCleared_11 ((256 : Mb)) ((9 : Fin 64))) 4 ∧ t.get (FLT_KIND_grace_unit 0x55) = u8 (payloadOf w_FaultsAreCollectedAndCleared_11 ((256 : Mb)) ((9 : Fin 64))) 6) ∧ (t.faults.insts = w_FaultsAreCollectedAndCleared_11.faults.insts) ∧ (t.stitches = w_FaultsAreCollectedAndCleared_11.stitches))) = true := by decide +kernel

def w_FaultsAreCollectedAndCleared_12 : State :=
    (withCmd (unitA) 256 9 0x703 [0, 2, 1, 3, 0x10, 0x27, 1])

theorem test_FaultsAreCollectedAndCleared_12 :
    (Ready w_FaultsAreCollectedAndCleared_12 ((256 : Mb)) ((9 : Fin 64)) 0x703) ∧
    (NoRung w_FaultsAreCollectedAndCleared_12) ∧
    (u8 (payloadOf w_FaultsAreCollectedAndCleared_12 ((256 : Mb)) ((9 : Fin 64))) 0 = 0) ∧
    (w_FaultsAreCollectedAndCleared_12.is (FLT_KIND_fixed 0) = true) ∧
    (Tail w_FaultsAreCollectedAndCleared_12 ((256 : Mb)) ((9 : Fin 64))) ∧
    after (exec (.faultConfig ((256 : Mb)) ((9 : Fin 64))) w_FaultsAreCollectedAndCleared_12) (fun t => decide ((Done t ((256 : Mb)) ((9 : Fin 64)) (cmdOf w_FaultsAreCollectedAndCleared_12 ((256 : Mb)) ((9 : Fin 64))) 4 0 0) ∧ (t.faults = w_FaultsAreCollectedAndCleared_12.faults) ∧ (t.get (FLT_KIND_class 0) = w_FaultsAreCollectedAndCleared_12.get (FLT_KIND_class 0)) ∧ (t.stitches = w_FaultsAreCollectedAndCleared_12.stitches))) = true := by decide +kernel

def w_FaultsAreCollectedAndCleared_13 : State :=
    (withCmd (unitA.updTrust (fun t => { t with pinned := 3 })) 256 9 0x704 [2, 1, 16, 0, 63, 0])

theorem test_FaultsAreCollectedAndCleared_13 :
    (Ready w_FaultsAreCollectedAndCleared_13 ((256 : Mb)) ((9 : Fin 64)) 0x704) ∧
    (NoRung w_FaultsAreCollectedAndCleared_13) ∧
    (u8 (payloadOf w_FaultsAreCollectedAndCleared_13 ((256 : Mb)) ((9 : Fin 64))) 0 ≤ 6 ∧ 1 ≤ u8 (payloadOf w_FaultsAreCollectedAndCleared_13 ((256 : Mb)) ((9 : Fin 64))) 1 ∧ u8 (payloadOf w_FaultsAreCollectedAndCleared_13 ((256 : Mb)) ((9 : Fin 64))) 1 ≤ (if u8 (payloadOf w_FaultsAreCollectedAndCleared_13 ((256 : Mb)) ((9 : Fin 64))) 0 < 2 then 2 else 1) ∧ 1 ≤ u8 (payloadOf w_FaultsAreCollectedAndCleared_13 ((256 : Mb)) ((9 : Fin 64))) 2 ∧ u8 (payloadOf w_FaultsAreCollectedAndCleared_13 ((256 : Mb)) ((9 : Fin 64))) 2 ≤ 16) ∧
    (injectBad (u8 (payloadOf w_FaultsAreCollectedAndCleared_13 ((256 : Mb)) ((9 : Fin 64))) 0) (u16 (payloadOf w_FaultsAreCollectedAndCleared_13 ((256 : Mb)) ((9 : Fin 64))) 4) = false) ∧
    (w_FaultsAreCollectedAndCleared_13.pair.transitAt = none ∧ w_FaultsAreCollectedAndCleared_13.faults.inject = none ∧ w_FaultsAreCollectedAndCleared_13.hupNormal = true) ∧
    (u8 (payloadOf w_FaultsAreCollectedAndCleared_13 ((256 : Mb)) ((9 : Fin 64))) 0 ≠ 5 ∨ w_FaultsAreCollectedAndCleared_13.partnerReady = true) ∧
    after (exec (.faultInject ((256 : Mb)) ((9 : Fin 64))) w_FaultsAreCollectedAndCleared_13) (fun t => decide ((Done t ((256 : Mb)) ((9 : Fin 64)) (cmdOf w_FaultsAreCollectedAndCleared_13 ((256 : Mb)) ((9 : Fin 64))) 0 0 0) ∧ (t.faults.inject = some (u8 (payloadOf w_FaultsAreCollectedAndCleared_13 ((256 : Mb)) ((9 : Fin 64))) 0, u8 (payloadOf w_FaultsAreCollectedAndCleared_13 ((256 : Mb)) ((9 : Fin 64))) 1, u8 (payloadOf w_FaultsAreCollectedAndCleared_13 ((256 : Mb)) ((9 : Fin 64))) 2, u16 (payloadOf w_FaultsAreCollectedAndCleared_13 ((256 : Mb)) ((9 : Fin 64))) 4)) ∧ (t.get FLT_STATUS_inject_armed = 1) ∧ (t.faults.insts = w_FaultsAreCollectedAndCleared_13.faults.insts) ∧ (t.stitches = w_FaultsAreCollectedAndCleared_13.stitches))) = true := by decide +kernel

def w_FaultsAreCollectedAndCleared_14 : State :=
    (withCmd ((unitA.updTrust (fun t => { t with pinned := 3 })).updFaults (fun f => { f with inject := some (3, 1, 1, 0) })) 256 9 0x704 [2, 1, 16, 0, 63, 0])

theorem test_FaultsAreCollectedAndCleared_14 :
    (Ready w_FaultsAreCollectedAndCleared_14 ((256 : Mb)) ((9 : Fin 64)) 0x704) ∧
    (NoRung w_FaultsAreCollectedAndCleared_14) ∧
    (u8 (payloadOf w_FaultsAreCollectedAndCleared_14 ((256 : Mb)) ((9 : Fin 64))) 0 ≤ 6 ∧ 1 ≤ u8 (payloadOf w_FaultsAreCollectedAndCleared_14 ((256 : Mb)) ((9 : Fin 64))) 1 ∧ u8 (payloadOf w_FaultsAreCollectedAndCleared_14 ((256 : Mb)) ((9 : Fin 64))) 1 ≤ (if u8 (payloadOf w_FaultsAreCollectedAndCleared_14 ((256 : Mb)) ((9 : Fin 64))) 0 < 2 then 2 else 1) ∧ 1 ≤ u8 (payloadOf w_FaultsAreCollectedAndCleared_14 ((256 : Mb)) ((9 : Fin 64))) 2 ∧ u8 (payloadOf w_FaultsAreCollectedAndCleared_14 ((256 : Mb)) ((9 : Fin 64))) 2 ≤ 16) ∧
    (injectBad (u8 (payloadOf w_FaultsAreCollectedAndCleared_14 ((256 : Mb)) ((9 : Fin 64))) 0) (u16 (payloadOf w_FaultsAreCollectedAndCleared_14 ((256 : Mb)) ((9 : Fin 64))) 4) = false) ∧
    (w_FaultsAreCollectedAndCleared_14.pair.transitAt = none ∧ w_FaultsAreCollectedAndCleared_14.faults.inject.isSome = true) ∧
    (Tail w_FaultsAreCollectedAndCleared_14 ((256 : Mb)) ((9 : Fin 64))) ∧
    after (exec (.faultInject ((256 : Mb)) ((9 : Fin 64))) w_FaultsAreCollectedAndCleared_14) (fun t => decide ((Done t ((256 : Mb)) ((9 : Fin 64)) (cmdOf w_FaultsAreCollectedAndCleared_14 ((256 : Mb)) ((9 : Fin 64))) 2 2 0) ∧ (t.faults = w_FaultsAreCollectedAndCleared_14.faults) ∧ (t.stitches = w_FaultsAreCollectedAndCleared_14.stitches))) = true := by decide +kernel

def w_FaultsAreCollectedAndCleared_15 : State :=
    (withCmd (unitA.updFaults (fun f => { f with log := [{ time := 3, kind := 0x55, cls := 1, injected := false, passed := false, recKind := 0, inst := 74, die := 1, rung := 0, seq := 5 }] })) 256 9 0x705 [4, 0, 0, 0])

theorem test_FaultsAreCollectedAndCleared_15 :
    (Ready w_FaultsAreCollectedAndCleared_15 ((256 : Mb)) ((9 : Fin 64)) 0x705) ∧
    (NoRung w_FaultsAreCollectedAndCleared_15) ∧
    (((256 : Mb)).val = 256) ∧
    ((w_FaultsAreCollectedAndCleared_15.faults.log.filter (fun r => decide ((r.seq + 2 ^ 32 - u32 (payloadOf w_FaultsAreCollectedAndCleared_15 ((256 : Mb)) ((9 : Fin 64))) 0) % 2 ^ 32 < 2 ^ 31))).take 15 = (([{ time := 3, kind := 0x55, cls := 1, injected := false, passed := false, recKind := 0, inst := 74, die := 1, rung := 0, seq := 5 }] : List LogRec))) ∧
    after (exec (.faultLogRead ((256 : Mb)) ((9 : Fin 64))) w_FaultsAreCollectedAndCleared_15) (fun t => decide ((Done t ((256 : Mb)) ((9 : Fin 64)) (cmdOf w_FaultsAreCollectedAndCleared_15 ((256 : Mb)) ((9 : Fin 64))) 0 0 (([{ time := 3, kind := 0x55, cls := 1, injected := false, passed := false, recKind := 0, inst := 74, die := 1, rung := 0, seq := 5 }] : List LogRec)).length) ∧ (Mem.readBytes Mem.blank t.mem (winBase ((256 : Mb)) + 0x4000 + 256 * ((9 : Fin 64)) + 16) (16 * (([{ time := 3, kind := 0x55, cls := 1, injected := false, passed := false, recKind := 0, inst := 74, die := 1, rung := 0, seq := 5 }] : List LogRec)).length) = (([{ time := 3, kind := 0x55, cls := 1, injected := false, passed := false, recKind := 0, inst := 74, die := 1, rung := 0, seq := 5 }] : List LogRec)).flatMap LogRec.bytes) ∧ (t.faults = w_FaultsAreCollectedAndCleared_15.faults) ∧ (t.stitches = w_FaultsAreCollectedAndCleared_15.stitches))) = true := by decide +kernel

def w_RecordsAreWrittenReadAndRepaired_1 : State :=
    (unitA.updNv (fun n => { n with queue := [({ region := 3, index := 5, prio := 2, copy := { seq := 9, holder := 256, keyGen := 0, data := .seqRec 1 2 3 4 5 6 7 8 }, started := true } : NvWrite)] })).setB NV_STATUS_writing true

theorem test_RecordsAreWrittenReadAndRepaired_1 :
    (w_RecordsAreWrittenReadAndRepaired_1.nv.queue = (({ region := 3, index := 5, prio := 2, copy := { seq := 9, holder := 256, keyGen := 0, data := .seqRec 1 2 3 4 5 6 7 8 }, started := true } : NvWrite)) :: (([] : List NvWrite))) ∧
    ((({ region := 3, index := 5, prio := 2, copy := { seq := 9, holder := 256, keyGen := 0, data := .seqRec 1 2 3 4 5 6 7 8 }, started := true } : NvWrite)).die = 0) ∧
    (w_RecordsAreWrittenReadAndRepaired_1.nvLost 0 = false ∧ w_RecordsAreWrittenReadAndRepaired_1.nvLost 1 = false) ∧
    (w_RecordsAreWrittenReadAndRepaired_1.raised .nvWrite 5 = false) ∧
    after (exec (.nvRecordDone true) w_RecordsAreWrittenReadAndRepaired_1) (fun t => decide ((Tbl.find? t.nv.die0 (nvKey (({ region := 3, index := 5, prio := 2, copy := { seq := 9, holder := 256, keyGen := 0, data := .seqRec 1 2 3 4 5 6 7 8 }, started := true } : NvWrite)).region (({ region := 3, index := 5, prio := 2, copy := { seq := 9, holder := 256, keyGen := 0, data := .seqRec 1 2 3 4 5 6 7 8 }, started := true } : NvWrite)).index) = some { (({ region := 3, index := 5, prio := 2, copy := { seq := 9, holder := 256, keyGen := 0, data := .seqRec 1 2 3 4 5 6 7 8 }, started := true } : NvWrite)).copy with torn := false }) ∧ (t.nv.queue = { (({ region := 3, index := 5, prio := 2, copy := { seq := 9, holder := 256, keyGen := 0, data := .seqRec 1 2 3 4 5 6 7 8 }, started := true } : NvWrite)) with die := 1, tries := 0, started := true } :: (([] : List NvWrite))) ∧ (t.nv.die1 = w_RecordsAreWrittenReadAndRepaired_1.nv.die1) ∧ (t.get NV_STATUS_writing = w_RecordsAreWrittenReadAndRepaired_1.get NV_STATUS_writing) ∧ (t.mem = w_RecordsAreWrittenReadAndRepaired_1.mem) ∧ (t.stitches = w_RecordsAreWrittenReadAndRepaired_1.stitches) ∧ (t.skeins = w_RecordsAreWrittenReadAndRepaired_1.skeins))) = true := by decide +kernel

def w_RecordsAreWrittenReadAndRepaired_2 : State :=
    (unitA.updNv (fun n => { n with queue := [({ region := 3, index := 5, prio := 2, copy := { seq := 9, holder := 256, keyGen := 0, data := .seqRec 1 2 3 4 5 6 7 8 }, started := true, die := 1 } : NvWrite)] })).setB NV_STATUS_writing true

theorem test_RecordsAreWrittenReadAndRepaired_2 :
    (w_RecordsAreWrittenReadAndRepaired_2.nv.queue = [(({ region := 3, index := 5, prio := 2, copy := { seq := 9, holder := 256, keyGen := 0, data := .seqRec 1 2 3 4 5 6 7 8 }, started := true, die := 1 } : NvWrite))]) ∧
    ((({ region := 3, index := 5, prio := 2, copy := { seq := 9, holder := 256, keyGen := 0, data := .seqRec 1 2 3 4 5 6 7 8 }, started := true, die := 1 } : NvWrite)).die = 1) ∧
    (w_RecordsAreWrittenReadAndRepaired_2.nvLost 0 = false ∧ w_RecordsAreWrittenReadAndRepaired_2.nvLost 1 = false) ∧
    (w_RecordsAreWrittenReadAndRepaired_2.raised .nvWrite 6 = false) ∧
    after (exec (.nvRecordDone true) w_RecordsAreWrittenReadAndRepaired_2) (fun t => decide ((Tbl.find? t.nv.die1 (nvKey (({ region := 3, index := 5, prio := 2, copy := { seq := 9, holder := 256, keyGen := 0, data := .seqRec 1 2 3 4 5 6 7 8 }, started := true, die := 1 } : NvWrite)).region (({ region := 3, index := 5, prio := 2, copy := { seq := 9, holder := 256, keyGen := 0, data := .seqRec 1 2 3 4 5 6 7 8 }, started := true, die := 1 } : NvWrite)).index) = some { (({ region := 3, index := 5, prio := 2, copy := { seq := 9, holder := 256, keyGen := 0, data := .seqRec 1 2 3 4 5 6 7 8 }, started := true, die := 1 } : NvWrite)).copy with torn := false }) ∧ (t.nv.queue = []) ∧ (t.get NV_STATUS_writing = 0) ∧ (t.nv.die0 = w_RecordsAreWrittenReadAndRepaired_2.nv.die0) ∧ (t.mem = w_RecordsAreWrittenReadAndRepaired_2.mem) ∧ (t.stitches = w_RecordsAreWrittenReadAndRepaired_2.stitches) ∧ (t.skeins = w_RecordsAreWrittenReadAndRepaired_2.skeins))) = true := by decide +kernel

def w_RecordsAreWrittenReadAndRepaired_3 : State :=
    (unitA.updNv (fun n => { n with queue := [({ region := 3, index := 5, prio := 2, copy := { seq := 9, holder := 256, keyGen := 0, data := .seqRec 1 2 3 4 5 6 7 8 }, started := true, tries := 2 } : NvWrite)] })).setB NV_STATUS_writing true

theorem test_RecordsAreWrittenReadAndRepaired_3 :
    (w_RecordsAreWrittenReadAndRepaired_3.swTouched = []) ∧
    (w_RecordsAreWrittenReadAndRepaired_3.nv.queue = (({ region := 3, index := 5, prio := 2, copy := { seq := 9, holder := 256, keyGen := 0, data := .seqRec 1 2 3 4 5 6 7 8 }, started := true, tries := 2 } : NvWrite)) :: (([] : List NvWrite))) ∧
    ((({ region := 3, index := 5, prio := 2, copy := { seq := 9, holder := 256, keyGen := 0, data := .seqRec 1 2 3 4 5 6 7 8 }, started := true, tries := 2 } : NvWrite)).die = 0) ∧
    ((({ region := 3, index := 5, prio := 2, copy := { seq := 9, holder := 256, keyGen := 0, data := .seqRec 1 2 3 4 5 6 7 8 }, started := true, tries := 2 } : NvWrite)).tries < 3) ∧
    (w_RecordsAreWrittenReadAndRepaired_3.nvLost 0 = false ∧ w_RecordsAreWrittenReadAndRepaired_3.nvLost 1 = false) ∧
    after (exec (.nvRecordDone false) w_RecordsAreWrittenReadAndRepaired_3) (fun t => decide ((Counted w_RecordsAreWrittenReadAndRepaired_3 t NW_CNT_REWRITE_v) ∧ (t.nv.queue = { (({ region := 3, index := 5, prio := 2, copy := { seq := 9, holder := 256, keyGen := 0, data := .seqRec 1 2 3 4 5 6 7 8 }, started := true, tries := 2 } : NvWrite)) with tries := (({ region := 3, index := 5, prio := 2, copy := { seq := 9, holder := 256, keyGen := 0, data := .seqRec 1 2 3 4 5 6 7 8 }, started := true, tries := 2 } : NvWrite)).tries + 1, started := true } :: (([] : List NvWrite))) ∧ (t.nv.die0 = w_RecordsAreWrittenReadAndRepaired_3.nv.die0 ∧ t.nv.die1 = w_RecordsAreWrittenReadAndRepaired_3.nv.die1) ∧ (t.faults = w_RecordsAreWrittenReadAndRepaired_3.faults) ∧ (t.mem = w_RecordsAreWrittenReadAndRepaired_3.mem) ∧ (t.stitches = w_RecordsAreWrittenReadAndRepaired_3.stitches) ∧ (t.skeins = w_RecordsAreWrittenReadAndRepaired_3.skeins))) = true := by decide +kernel

def w_RecordsAreWrittenReadAndRepaired_4 : State :=
    (unitA.updNv (fun n => { n with queue := [({ region := 3, index := 5, prio := 2, copy := { seq := 9, holder := 256, keyGen := 0, data := .seqRec 1 2 3 4 5 6 7 8 }, started := true, tries := 3 } : NvWrite)] })).setB NV_STATUS_writing true

theorem test_RecordsAreWrittenReadAndRepaired_4 :
    (w_RecordsAreWrittenReadAndRepaired_4.nv.queue = (({ region := 3, index := 5, prio := 2, copy := { seq := 9, holder := 256, keyGen := 0, data := .seqRec 1 2 3 4 5 6 7 8 }, started := true, tries := 3 } : NvWrite)) :: (([] : List NvWrite))) ∧
    ((({ region := 3, index := 5, prio := 2, copy := { seq := 9, holder := 256, keyGen := 0, data := .seqRec 1 2 3 4 5 6 7 8 }, started := true, tries := 3 } : NvWrite)).die = 0) ∧
    (3 ≤ (({ region := 3, index := 5, prio := 2, copy := { seq := 9, holder := 256, keyGen := 0, data := .seqRec 1 2 3 4 5 6 7 8 }, started := true, tries := 3 } : NvWrite)).tries) ∧
    (w_RecordsAreWrittenReadAndRepaired_4.nv.fails = [0, 0]) ∧
    (MayRaise w_RecordsAreWrittenReadAndRepaired_4 .nvWrite 5) ∧
    (w_RecordsAreWrittenReadAndRepaired_4.nvLost 0 = false ∧ w_RecordsAreWrittenReadAndRepaired_4.nvLost 1 = false) ∧
    after (exec (.nvRecordDone false) w_RecordsAreWrittenReadAndRepaired_4) (fun t => decide ((t.raised .nvWrite 5 = true) ∧ (t.nv.fails = [1, 0]) ∧ (t.nvLost 0 = false ∧ t.nvLost 1 = false) ∧ (t.nv.die1 = w_RecordsAreWrittenReadAndRepaired_4.nv.die1) ∧ (t.stitches = w_RecordsAreWrittenReadAndRepaired_4.stitches) ∧ (t.skeins = w_RecordsAreWrittenReadAndRepaired_4.skeins))) = true := by decide +kernel

def w_RecordsAreWrittenReadAndRepaired_5 : State :=
    (unitA.updNv (fun n => { n with queue := [({ region := 3, index := 5, prio := 2, copy := { seq := 9, holder := 256, keyGen := 0, data := .seqRec 1 2 3 4 5 6 7 8 }, started := true, tries := 3 } : NvWrite)], fails := [2, 0] })).setB NV_STATUS_writing true

theorem test_RecordsAreWrittenReadAndRepaired_5 :
    (w_RecordsAreWrittenReadAndRepaired_5.nv.queue = (({ region := 3, index := 5, prio := 2, copy := { seq := 9, holder := 256, keyGen := 0, data := .seqRec 1 2 3 4 5 6 7 8 }, started := true, tries := 3 } : NvWrite)) :: (([] : List NvWrite))) ∧
    ((({ region := 3, index := 5, prio := 2, copy := { seq := 9, holder := 256, keyGen := 0, data := .seqRec 1 2 3 4 5 6 7 8 }, started := true, tries := 3 } : NvWrite)).die = 0) ∧
    (3 ≤ (({ region := 3, index := 5, prio := 2, copy := { seq := 9, holder := 256, keyGen := 0, data := .seqRec 1 2 3 4 5 6 7 8 }, started := true, tries := 3 } : NvWrite)).tries) ∧
    (w_RecordsAreWrittenReadAndRepaired_5.nv.fails = [2, 0]) ∧
    (NoRung w_RecordsAreWrittenReadAndRepaired_5) ∧
    (w_RecordsAreWrittenReadAndRepaired_5.faults.insts = []) ∧
    ((w_RecordsAreWrittenReadAndRepaired_5.kindCfg .nvWrite 5).1 ≠ 3 ∧ (w_RecordsAreWrittenReadAndRepaired_5.kindCfg .nvCopyLost 5).1 ≠ 3) ∧
    (w_RecordsAreWrittenReadAndRepaired_5.nvLost 0 = false ∧ w_RecordsAreWrittenReadAndRepaired_5.nvLost 1 = false) ∧
    after (exec (.nvRecordDone false) w_RecordsAreWrittenReadAndRepaired_5) (fun t => decide ((t.get NV_STATUS_nv0_lost = 1) ∧ (t.get ID_DIES_lost = w_RecordsAreWrittenReadAndRepaired_5.get ID_DIES_lost ||| 32) ∧ (t.raised .nvWrite 5 = true ∧ t.raised .nvCopyLost 5 = true) ∧ (t.nvLost 1 = false) ∧ (t.nv.die1 = w_RecordsAreWrittenReadAndRepaired_5.nv.die1) ∧ (t.stitches = w_RecordsAreWrittenReadAndRepaired_5.stitches) ∧ (t.skeins = w_RecordsAreWrittenReadAndRepaired_5.skeins))) = true := by decide +kernel

theorem test_RecordsAreWrittenReadAndRepaired_6 :
    (unitA.nv.queue = []) ∧
    after (exec (.nvRecordDone true) unitA) (fun t => decide ((t = unitA))) = true := by decide +kernel

theorem test_RecordsAreWrittenReadAndRepaired_7 :
    (Runs unitA) ∧
    (NoRung unitA) ∧
    (unitA.raised .holdupDie 7 = false) ∧
    after (exec (.holdupDieMeasure true) unitA) (fun t => decide ((t.get NV_STATUS_holdup_ok = 1) ∧ (t.faults = unitA.faults) ∧ (t.nv = unitA.nv) ∧ (t.mem = unitA.mem) ∧ (t.stitches = unitA.stitches) ∧ (t.skeins = unitA.skeins))) = true := by decide +kernel

theorem test_RecordsAreWrittenReadAndRepaired_8 :
    (Runs unitA) ∧
    (MayRaise unitA .holdupDie 7) ∧
    after (exec (.holdupDieMeasure false) unitA) (fun t => decide ((t.get NV_STATUS_holdup_ok = 0) ∧ (t.raised .holdupDie 7 = true) ∧ (t.nv.die0 = unitA.nv.die0 ∧ t.nv.die1 = unitA.nv.die1) ∧ (t.stitches = unitA.stitches) ∧ (t.skeins = unitA.skeins))) = true := by decide +kernel

theorem test_RecordsAreWrittenReadAndRepaired_9 :
    (((unitA.setB NW_STATUS_scan_done true)).get NW_STATUS_scan_done = 1) ∧
    after (exec (.nvBootScanDone) ((unitA.setB NW_STATUS_scan_done true))) (fun t => decide ((t = ((unitA.setB NW_STATUS_scan_done true))))) = true := by decide +kernel

def w_RecordsAreWrittenReadAndRepaired_10 : State :=
    (unitA.updNv (fun n => { n with die0 := [(nvKey 4 4680, ({ seq := 1001, holder := 256, keyGen := 0, data := .seqRec 1 2 3 4 5 6 7 8, torn := false } : NvCopy))], die1 := [(nvKey 4 4680, ({ seq := 1000, holder := 256, keyGen := 0, data := .seqRec 1 2 3 4 5 6 7 8, torn := true } : NvCopy))] }))

theorem test_RecordsAreWrittenReadAndRepaired_10 :
    (Runs w_RecordsAreWrittenReadAndRepaired_10) ∧
    (w_RecordsAreWrittenReadAndRepaired_10.get NW_STATUS_scan_done = 0) ∧
    (NoRung w_RecordsAreWrittenReadAndRepaired_10) ∧
    (w_RecordsAreWrittenReadAndRepaired_10.swTouched = []) ∧
    (w_RecordsAreWrittenReadAndRepaired_10.faults.inject = none) ∧
    (w_RecordsAreWrittenReadAndRepaired_10.nv.die0 = [(nvKey 4 (4608 + ((72 : Fin 3584))), (({ seq := 1001, holder := 256, keyGen := 0, data := .seqRec 1 2 3 4 5 6 7 8, torn := false } : NvCopy)))] ∧ w_RecordsAreWrittenReadAndRepaired_10.nv.die1 = [(nvKey 4 (4608 + ((72 : Fin 3584))), (({ seq := 1000, holder := 256, keyGen := 0, data := .seqRec 1 2 3 4 5 6 7 8, torn := true } : NvCopy)))]) ∧
    (w_RecordsAreWrittenReadAndRepaired_10.goodCopy (({ seq := 1001, holder := 256, keyGen := 0, data := .seqRec 1 2 3 4 5 6 7 8, torn := false } : NvCopy)) = true) ∧
    (w_RecordsAreWrittenReadAndRepaired_10.readable (({ seq := 1000, holder := 256, keyGen := 0, data := .seqRec 1 2 3 4 5 6 7 8, torn := true } : NvCopy)) = true ∧ w_RecordsAreWrittenReadAndRepaired_10.garbled (({ seq := 1000, holder := 256, keyGen := 0, data := .seqRec 1 2 3 4 5 6 7 8, torn := true } : NvCopy)) = true ∧ (({ seq := 1000, holder := 256, keyGen := 0, data := .seqRec 1 2 3 4 5 6 7 8, torn := true } : NvCopy)).uncorr = false) ∧
    (newer (({ seq := 1001, holder := 256, keyGen := 0, data := .seqRec 1 2 3 4 5 6 7 8, torn := false } : NvCopy)).seq (Tbl.get w_RecordsAreWrittenReadAndRepaired_10.nv.seqs 4 0) = true) ∧
    (w_RecordsAreWrittenReadAndRepaired_10.raised .nvRead 6 = false) ∧
    (w_RecordsAreWrittenReadAndRepaired_10.nvLost 0 = false ∧ w_RecordsAreWrittenReadAndRepaired_10.nvLost 1 = false) ∧
    after (exec (.nvBootScanDone) w_RecordsAreWrittenReadAndRepaired_10) (fun t => decide ((t.get NW_STATUS_scan_done = 1 ∧ t.get NW_STATUS_torn_seen = 1) ∧ (t.nv.die0 = w_RecordsAreWrittenReadAndRepaired_10.nv.die0 ∧ t.nv.die1 = w_RecordsAreWrittenReadAndRepaired_10.nv.die0) ∧ (Counted w_RecordsAreWrittenReadAndRepaired_10 t NW_CNT_TORN_v) ∧ (Tbl.get t.nv.seqs 4 0 = ((({ seq := 1001, holder := 256, keyGen := 0, data := .seqRec 1 2 3 4 5 6 7 8, torn := false } : NvCopy)).seq + 1) % 2 ^ 32) ∧ (t.faults = w_RecordsAreWrittenReadAndRepaired_10.faults) ∧ (t.mem = w_RecordsAreWrittenReadAndRepaired_10.mem) ∧ (t.stitches = w_RecordsAreWrittenReadAndRepaired_10.stitches) ∧ (t.skeins = w_RecordsAreWrittenReadAndRepaired_10.skeins))) = true := by decide +kernel

def w_RecordsAreWrittenReadAndRepaired_11 : State :=
    (withCmd (((unitA.updNv (fun n => { n with die0 := [(nvKey 3 5, ({ seq := 1001, holder := 256, keyGen := 0, data := .seqRec 1 2 3 4 5 6 7 8, torn := false } : NvCopy))], die1 := [(nvKey 3 5, ({ seq := 1001, holder := 256, keyGen := 0, data := .seqRec 1 2 3 4 5 6 7 8, torn := false } : NvCopy))], seqs := [(3, 1002)] })).setB NW_STATUS_scan_done true)) 256 9 0xa01 [3, 0, 0, 0, 255, 255, 255, 255])

theorem test_RecordsAreWrittenReadAndRepaired_11 :
    (Ready w_RecordsAreWrittenReadAndRepaired_11 ((256 : Mb)) ((9 : Fin 64)) 0xA01) ∧
    (NoRung w_RecordsAreWrittenReadAndRepaired_11) ∧
    (u8 (payloadOf w_RecordsAreWrittenReadAndRepaired_11 ((256 : Mb)) ((9 : Fin 64))) 0 = 3 ∧ u32 (payloadOf w_RecordsAreWrittenReadAndRepaired_11 ((256 : Mb)) ((9 : Fin 64))) 4 = 0xFFFFFFFF) ∧
    (w_RecordsAreWrittenReadAndRepaired_11.get NW_STATUS_scan_done = 1) ∧
    (w_RecordsAreWrittenReadAndRepaired_11.nv.queue = []) ∧
    (w_RecordsAreWrittenReadAndRepaired_11.faults.inject = none) ∧
    (w_RecordsAreWrittenReadAndRepaired_11.nv.die0 = [(((nvKey 3 5)), (({ seq := 1001, holder := 256, keyGen := 0, data := .seqRec 1 2 3 4 5 6 7 8, torn := false } : NvCopy)))] ∧ w_RecordsAreWrittenReadAndRepaired_11.nv.die1 = [(((nvKey 3 5)), (({ seq := 1001, holder := 256, keyGen := 0, data := .seqRec 1 2 3 4 5 6 7 8, torn := false } : NvCopy)))]) ∧
    (((nvKey 3 5)) / 65536 = 3) ∧
    (w_RecordsAreWrittenReadAndRepaired_11.goodCopy (({ seq := 1001, holder := 256, keyGen := 0, data := .seqRec 1 2 3 4 5 6 7 8, torn := false } : NvCopy)) = true) ∧
    (((256 : Mb)).val = 256 ∨ (({ seq := 1001, holder := 256, keyGen := 0, data := .seqRec 1 2 3 4 5 6 7 8, torn := false } : NvCopy)).holder = ((256 : Mb)).val) ∧
    (w_RecordsAreWrittenReadAndRepaired_11.nvLost 0 = false ∧ w_RecordsAreWrittenReadAndRepaired_11.nvLost 1 = false) ∧
    after (exec (.nwRead ((256 : Mb)) ((9 : Fin 64))) w_RecordsAreWrittenReadAndRepaired_11) (fun t => decide ((Done t ((256 : Mb)) ((9 : Fin 64)) (cmdOf w_RecordsAreWrittenReadAndRepaired_11 ((256 : Mb)) ((9 : Fin 64))) 0 0 (1 + 2 ^ 32 * Tbl.get w_RecordsAreWrittenReadAndRepaired_11.nv.seqs 3 0)) ∧ (Mem.readBytes Mem.blank t.mem (winBase ((256 : Mb)) + 0x4000 + 256 * ((9 : Fin 64)) + 16) (({ seq := 1001, holder := 256, keyGen := 0, data := .seqRec 1 2 3 4 5 6 7 8, torn := false } : NvCopy)).bytes.length = (({ seq := 1001, holder := 256, keyGen := 0, data := .seqRec 1 2 3 4 5 6 7 8, torn := false } : NvCopy)).bytes) ∧ (t.nv = w_RecordsAreWrittenReadAndRepaired_11.nv) ∧ (t.stitches = w_RecordsAreWrittenReadAndRepaired_11.stitches) ∧ (t.skeins = w_RecordsAreWrittenReadAndRepaired_11.skeins))) = true := by decide +kernel

def w_RecordsAreWrittenReadAndRepaired_12 : State :=
    (withCmd ((((unitA.setB (VI_STATUS_assigned 12) true).updNv (fun n => { n with die0 := [(nvKey 3 5, ({ seq := 1001, holder := 256, keyGen := 0, data := .seqRec 1 2 3 4 5 6 7 8, torn := false } : NvCopy))], die1 := [(nvKey 3 5, ({ seq := 1001, holder := 256, keyGen := 0, data := .seqRec 1 2 3 4 5 6 7 8, torn := false } : NvCopy))] })).setB NW_STATUS_scan_done true)) 12 9 0xA01 [3])

theorem test_RecordsAreWrittenReadAndRepaired_12 :
    (Ready w_RecordsAreWrittenReadAndRepaired_12 ((12 : Mb)) ((9 : Fin 64)) 0xA01) ∧
    (NoRung w_RecordsAreWrittenReadAndRepaired_12) ∧
    (u8 (payloadOf w_RecordsAreWrittenReadAndRepaired_12 ((12 : Mb)) ((9 : Fin 64))) 0 = 3) ∧
    (w_RecordsAreWrittenReadAndRepaired_12.get NW_STATUS_scan_done = 1) ∧
    (w_RecordsAreWrittenReadAndRepaired_12.nv.queue = []) ∧
    (w_RecordsAreWrittenReadAndRepaired_12.nv.die0 = [(((nvKey 3 5)), (({ seq := 1001, holder := 256, keyGen := 0, data := .seqRec 1 2 3 4 5 6 7 8, torn := false } : NvCopy)))] ∧ w_RecordsAreWrittenReadAndRepaired_12.nv.die1 = [(((nvKey 3 5)), (({ seq := 1001, holder := 256, keyGen := 0, data := .seqRec 1 2 3 4 5 6 7 8, torn := false } : NvCopy)))]) ∧
    ((({ seq := 1001, holder := 256, keyGen := 0, data := .seqRec 1 2 3 4 5 6 7 8, torn := false } : NvCopy)).holder ≠ ((12 : Mb)).val ∧ ((12 : Mb)).val ≠ 256) ∧
    after (exec (.nwRead ((12 : Mb)) ((9 : Fin 64))) w_RecordsAreWrittenReadAndRepaired_12) (fun t => decide ((Done t ((12 : Mb)) ((9 : Fin 64)) (cmdOf w_RecordsAreWrittenReadAndRepaired_12 ((12 : Mb)) ((9 : Fin 64))) 0 0 (2 ^ 32 * Tbl.get w_RecordsAreWrittenReadAndRepaired_12.nv.seqs 3 0)) ∧ (t.nv = w_RecordsAreWrittenReadAndRepaired_12.nv) ∧ (t.stitches = w_RecordsAreWrittenReadAndRepaired_12.stitches) ∧ (t.skeins = w_RecordsAreWrittenReadAndRepaired_12.skeins))) = true := by decide +kernel

theorem test_RecordsAreWrittenReadAndRepaired_13 :
    (Ready ((withCmd (unitA) 256 9 0xa01 [4])) ((256 : Mb)) ((9 : Fin 64)) 0xA01) ∧
    (NoRung ((withCmd (unitA) 256 9 0xa01 [4]))) ∧
    (u8 (payloadOf ((withCmd (unitA) 256 9 0xa01 [4])) ((256 : Mb)) ((9 : Fin 64))) 0 ≠ 3 ∧ u8 (payloadOf ((withCmd (unitA) 256 9 0xa01 [4])) ((256 : Mb)) ((9 : Fin 64))) 0 ≠ 5) ∧
    (((withCmd (unitA) 256 9 0xa01 [4])).nv.queue = []) ∧
    (Tail ((withCmd (unitA) 256 9 0xa01 [4])) ((256 : Mb)) ((9 : Fin 64))) ∧
    after (exec (.nwRead ((256 : Mb)) ((9 : Fin 64))) ((withCmd (unitA) 256 9 0xa01 [4]))) (fun t => decide ((Done t ((256 : Mb)) ((9 : Fin 64)) (cmdOf ((withCmd (unitA) 256 9 0xa01 [4])) ((256 : Mb)) ((9 : Fin 64))) 4 0 0) ∧ (t.nv = ((withCmd (unitA) 256 9 0xa01 [4])).nv) ∧ (t.stitches = ((withCmd (unitA) 256 9 0xa01 [4])).stitches) ∧ (t.skeins = ((withCmd (unitA) 256 9 0xa01 [4])).skeins))) = true := by decide +kernel

def w_RecordsAreWrittenReadAndRepaired_14 : State :=
    (withCmd (((unitA.updNv (fun n => { n with die0 := [((nvKey 4 6720), ({ seq := 1001, holder := 256, keyGen := 0, data := .seqRec 1 2 3 4 5 6 7 8, torn := false } : NvCopy))], die1 := [((nvKey 4 6720), ({ seq := 1000, holder := 256, keyGen := 0, data := .seqRec 1 2 3 4 5 6 7 8, torn := true } : NvCopy))] })).setB NW_STATUS_scan_done true)) 256 9 0xa02 [2])

theorem test_RecordsAreWrittenReadAndRepaired_14 :
    (Ready w_RecordsAreWrittenReadAndRepaired_14 ((256 : Mb)) ((9 : Fin 64)) 0xA02) ∧
    (NoRung w_RecordsAreWrittenReadAndRepaired_14) ∧
    (w_RecordsAreWrittenReadAndRepaired_14.swTouched = []) ∧
    (((256 : Mb)).val = 256) ∧
    (u8 (payloadOf w_RecordsAreWrittenReadAndRepaired_14 ((256 : Mb)) ((9 : Fin 64))) 0 = 2) ∧
    (w_RecordsAreWrittenReadAndRepaired_14.get NW_STATUS_scan_done = 1) ∧
    (w_RecordsAreWrittenReadAndRepaired_14.nv.queue = []) ∧
    (w_RecordsAreWrittenReadAndRepaired_14.faults.inject = none) ∧
    (Tbl.find? w_RecordsAreWrittenReadAndRepaired_14.nv.die0 (nvKey 4 6720) = some (({ seq := 1001, holder := 256, keyGen := 0, data := .seqRec 1 2 3 4 5 6 7 8, torn := false } : NvCopy)) ∧ Tbl.find? w_RecordsAreWrittenReadAndRepaired_14.nv.die1 (nvKey 4 6720) = some (({ seq := 1000, holder := 256, keyGen := 0, data := .seqRec 1 2 3 4 5 6 7 8, torn := true } : NvCopy))) ∧
    (w_RecordsAreWrittenReadAndRepaired_14.goodCopy (({ seq := 1001, holder := 256, keyGen := 0, data := .seqRec 1 2 3 4 5 6 7 8, torn := false } : NvCopy)) = true) ∧
    (w_RecordsAreWrittenReadAndRepaired_14.readable (({ seq := 1000, holder := 256, keyGen := 0, data := .seqRec 1 2 3 4 5 6 7 8, torn := true } : NvCopy)) = true ∧ w_RecordsAreWrittenReadAndRepaired_14.garbled (({ seq := 1000, holder := 256, keyGen := 0, data := .seqRec 1 2 3 4 5 6 7 8, torn := true } : NvCopy)) = true ∧ (({ seq := 1000, holder := 256, keyGen := 0, data := .seqRec 1 2 3 4 5 6 7 8, torn := true } : NvCopy)).uncorr = false) ∧
    (w_RecordsAreWrittenReadAndRepaired_14.raised .nvRead 6 = false) ∧
    (w_RecordsAreWrittenReadAndRepaired_14.nvLost 0 = false ∧ w_RecordsAreWrittenReadAndRepaired_14.nvLost 1 = false) ∧
    after (exec (.nwLastFault ((256 : Mb)) ((9 : Fin 64))) w_RecordsAreWrittenReadAndRepaired_14) (fun t => decide ((Done t ((256 : Mb)) ((9 : Fin 64)) (cmdOf w_RecordsAreWrittenReadAndRepaired_14 ((256 : Mb)) ((9 : Fin 64))) 0 2 0) ∧ (Tbl.find? t.nv.die1 (nvKey 4 6720) = some (({ seq := 1001, holder := 256, keyGen := 0, data := .seqRec 1 2 3 4 5 6 7 8, torn := false } : NvCopy))) ∧ (Counted w_RecordsAreWrittenReadAndRepaired_14 t NW_CNT_TORN_v) ∧ (t.nv.die0 = w_RecordsAreWrittenReadAndRepaired_14.nv.die0) ∧ (t.stitches = w_RecordsAreWrittenReadAndRepaired_14.stitches) ∧ (t.skeins = w_RecordsAreWrittenReadAndRepaired_14.skeins))) = true := by decide +kernel

def w_RecordsAreWrittenReadAndRepaired_15 : State :=
    (withCmd ((unitA.setB NW_STATUS_scan_done true)) 256 9 0xa02 [2])

theorem test_RecordsAreWrittenReadAndRepaired_15 :
    (Ready w_RecordsAreWrittenReadAndRepaired_15 ((256 : Mb)) ((9 : Fin 64)) 0xA02) ∧
    (NoRung w_RecordsAreWrittenReadAndRepaired_15) ∧
    (((256 : Mb)).val = 256) ∧
    (u8 (payloadOf w_RecordsAreWrittenReadAndRepaired_15 ((256 : Mb)) ((9 : Fin 64))) 0 = 2) ∧
    (w_RecordsAreWrittenReadAndRepaired_15.get NW_STATUS_scan_done = 1) ∧
    (w_RecordsAreWrittenReadAndRepaired_15.nv.queue = []) ∧
    (Tbl.find? w_RecordsAreWrittenReadAndRepaired_15.nv.die0 (nvKey 4 6720) = none ∧ Tbl.find? w_RecordsAreWrittenReadAndRepaired_15.nv.die1 (nvKey 4 6720) = none) ∧
    (Tail w_RecordsAreWrittenReadAndRepaired_15 ((256 : Mb)) ((9 : Fin 64))) ∧
    after (exec (.nwLastFault ((256 : Mb)) ((9 : Fin 64))) w_RecordsAreWrittenReadAndRepaired_15) (fun t => decide ((Done t ((256 : Mb)) ((9 : Fin 64)) (cmdOf w_RecordsAreWrittenReadAndRepaired_15 ((256 : Mb)) ((9 : Fin 64))) 9 4 0) ∧ (t.stitches = w_RecordsAreWrittenReadAndRepaired_15.stitches) ∧ (t.skeins = w_RecordsAreWrittenReadAndRepaired_15.skeins))) = true := by decide +kernel

def w_RecordsAreWrittenReadAndRepaired_16 : State :=
    (withCmd ((((unitA.updSk 7 (fun x => { x with known := true, slot := 3, stitches := [5] })).updSt 389 (fun x => { x with skein := some 7 })).setF NW_CTRL_capture_en 1)) 256 9 0xa03 [0, 0, 133, 1, 48])

theorem test_RecordsAreWrittenReadAndRepaired_16 :
    (Ready w_RecordsAreWrittenReadAndRepaired_16 ((256 : Mb)) ((9 : Fin 64)) 0xA03) ∧
    (NoRung w_RecordsAreWrittenReadAndRepaired_16) ∧
    (u8 (payloadOf w_RecordsAreWrittenReadAndRepaired_16 ((256 : Mb)) ((9 : Fin 64))) 0 = 0 ∧ u16 (payloadOf w_RecordsAreWrittenReadAndRepaired_16 ((256 : Mb)) ((9 : Fin 64))) 2 = 389 ∧ 1 ≤ u8 (payloadOf w_RecordsAreWrittenReadAndRepaired_16 ((256 : Mb)) ((9 : Fin 64))) 4 ∧ u8 (payloadOf w_RecordsAreWrittenReadAndRepaired_16 ((256 : Mb)) ((9 : Fin 64))) 4 ≤ 48) ∧
    (w_RecordsAreWrittenReadAndRepaired_16.stitchBad ((256 : Mb)) 389 = false) ∧
    ((w_RecordsAreWrittenReadAndRepaired_16.st 389).skein.isSome = true) ∧
    (w_RecordsAreWrittenReadAndRepaired_16.get NW_CTRL_capture_en = 1) ∧
    (w_RecordsAreWrittenReadAndRepaired_16.nv.caps = []) ∧
    (∀ c ∈ w_RecordsAreWrittenReadAndRepaired_16.nv.capLog, c.1 ≠ 389) ∧
    (w_RecordsAreWrittenReadAndRepaired_16.get NW_CAP_ID_id < 1000000) ∧
    after (exec (.nwTrigger ((256 : Mb)) ((9 : Fin 64))) w_RecordsAreWrittenReadAndRepaired_16) (fun t => decide ((Done t ((256 : Mb)) ((9 : Fin 64)) (cmdOf w_RecordsAreWrittenReadAndRepaired_16 ((256 : Mb)) ((9 : Fin 64))) 0 0 (w_RecordsAreWrittenReadAndRepaired_16.get NW_CAP_ID_id + 1)) ∧ (t.get NW_CAP_ID_id = w_RecordsAreWrittenReadAndRepaired_16.get NW_CAP_ID_id + 1) ∧ (t.nv.caps = [{ id := w_RecordsAreWrittenReadAndRepaired_16.get NW_CAP_ID_id + 1, kind := 0xFF, startedAt := w_RecordsAreWrittenReadAndRepaired_16.ct, post := u8 (payloadOf w_RecordsAreWrittenReadAndRepaired_16 ((256 : Mb)) ((9 : Fin 64))) 4, left := [(389, u8 (payloadOf w_RecordsAreWrittenReadAndRepaired_16 ((256 : Mb)) ((9 : Fin 64))) 4)], staged := [(389, (w_RecordsAreWrittenReadAndRepaired_16.st 389).ring.map (·.2))], pre := [(389, (w_RecordsAreWrittenReadAndRepaired_16.st 389).ring.length)] }]) ∧ (t.get NW_STATUS_in_progress = 1) ∧ (t.nv.queue = w_RecordsAreWrittenReadAndRepaired_16.nv.queue) ∧ (t.stitches = w_RecordsAreWrittenReadAndRepaired_16.stitches) ∧ (t.skeins = w_RecordsAreWrittenReadAndRepaired_16.skeins))) = true := by decide +kernel

def w_RecordsAreWrittenReadAndRepaired_17 : State :=
    (withCmd (((((unitA.updSk 7 (fun x => { x with known := true, slot := 3, stitches := [5] })).updSt 389 (fun x => { x with skein := some 7 })).setF NW_CTRL_capture_en 1).updNv (fun n => { n with caps := List.replicate 4 ({ id := 1, kind := 255, startedAt := 0, post := 1, left := [(1, 1)], staged := [], pre := [] } : Capture) }))) 256 9 0xa03 [0, 0, 133, 1, 48])

theorem test_RecordsAreWrittenReadAndRepaired_17 :
    (Ready w_RecordsAreWrittenReadAndRepaired_17 ((256 : Mb)) ((9 : Fin 64)) 0xA03) ∧
    (NoRung w_RecordsAreWrittenReadAndRepaired_17) ∧
    (w_RecordsAreWrittenReadAndRepaired_17.swTouched = []) ∧
    (u8 (payloadOf w_RecordsAreWrittenReadAndRepaired_17 ((256 : Mb)) ((9 : Fin 64))) 0 = 0 ∧ u16 (payloadOf w_RecordsAreWrittenReadAndRepaired_17 ((256 : Mb)) ((9 : Fin 64))) 2 = 389 ∧ u8 (payloadOf w_RecordsAreWrittenReadAndRepaired_17 ((256 : Mb)) ((9 : Fin 64))) 4 ≤ 48) ∧
    (w_RecordsAreWrittenReadAndRepaired_17.stitchBad ((256 : Mb)) 389 = false) ∧
    (w_RecordsAreWrittenReadAndRepaired_17.get NW_CTRL_capture_en = 1) ∧
    (4 ≤ w_RecordsAreWrittenReadAndRepaired_17.nv.caps.length) ∧
    after (exec (.nwTrigger ((256 : Mb)) ((9 : Fin 64))) w_RecordsAreWrittenReadAndRepaired_17) (fun t => decide ((Done t ((256 : Mb)) ((9 : Fin 64)) (cmdOf w_RecordsAreWrittenReadAndRepaired_17 ((256 : Mb)) ((9 : Fin 64))) 0 0 0) ∧ (Counted w_RecordsAreWrittenReadAndRepaired_17 t NW_CNT_SKIP_v) ∧ (t.get NW_STATUS_skip_seen = 1) ∧ (t.nv = w_RecordsAreWrittenReadAndRepaired_17.nv) ∧ (t.stitches = w_RecordsAreWrittenReadAndRepaired_17.stitches) ∧ (t.skeins = w_RecordsAreWrittenReadAndRepaired_17.skeins))) = true := by decide +kernel

def w_RecordsAreWrittenReadAndRepaired_18 : State :=
    (withCmd ((((unitA.updSk 7 (fun x => { x with known := true, slot := 3, stitches := [5] })).updSt 389 (fun x => { x with skein := some 7 })).setF NW_CTRL_capture_en 0)) 256 9 0xa03 [0, 0, 133, 1, 48])

theorem test_RecordsAreWrittenReadAndRepaired_18 :
    (Ready w_RecordsAreWrittenReadAndRepaired_18 ((256 : Mb)) ((9 : Fin 64)) 0xA03) ∧
    (NoRung w_RecordsAreWrittenReadAndRepaired_18) ∧
    (u8 (payloadOf w_RecordsAreWrittenReadAndRepaired_18 ((256 : Mb)) ((9 : Fin 64))) 0 = 0 ∧ u16 (payloadOf w_RecordsAreWrittenReadAndRepaired_18 ((256 : Mb)) ((9 : Fin 64))) 2 = 389 ∧ u8 (payloadOf w_RecordsAreWrittenReadAndRepaired_18 ((256 : Mb)) ((9 : Fin 64))) 4 ≤ 48) ∧
    (w_RecordsAreWrittenReadAndRepaired_18.stitchBad ((256 : Mb)) 389 = false) ∧
    (w_RecordsAreWrittenReadAndRepaired_18.get NW_CTRL_capture_en = 0) ∧
    after (exec (.nwTrigger ((256 : Mb)) ((9 : Fin 64))) w_RecordsAreWrittenReadAndRepaired_18) (fun t => decide ((Done t ((256 : Mb)) ((9 : Fin 64)) (cmdOf w_RecordsAreWrittenReadAndRepaired_18 ((256 : Mb)) ((9 : Fin 64))) 0 0 0) ∧ (t.nv = w_RecordsAreWrittenReadAndRepaired_18.nv) ∧ (t.stitches = w_RecordsAreWrittenReadAndRepaired_18.stitches) ∧ (t.skeins = w_RecordsAreWrittenReadAndRepaired_18.skeins))) = true := by decide +kernel

theorem test_RecordsAreWrittenReadAndRepaired_19 :
    (Ready ((withCmd (unitA) 256 9 0xa04 [2, 48])) ((256 : Mb)) ((9 : Fin 64)) 0xA04) ∧
    (NoRung ((withCmd (unitA) 256 9 0xa04 [2, 48]))) ∧
    (((withCmd (unitA) 256 9 0xa04 [2, 48])).swTouched = []) ∧
    (u8 (payloadOf ((withCmd (unitA) 256 9 0xa04 [2, 48])) ((256 : Mb)) ((9 : Fin 64))) 0 ≤ 3 ∧ u8 (payloadOf ((withCmd (unitA) 256 9 0xa04 [2, 48])) ((256 : Mb)) ((9 : Fin 64))) 1 ≤ 48) ∧
    after (exec (.nwCtrlSet ((256 : Mb)) ((9 : Fin 64))) ((withCmd (unitA) 256 9 0xa04 [2, 48]))) (fun t => decide ((Done t ((256 : Mb)) ((9 : Fin 64)) (cmdOf ((withCmd (unitA) 256 9 0xa04 [2, 48])) ((256 : Mb)) ((9 : Fin 64))) 0 0 0) ∧ (t.get NW_CTRL_capture_en = u8 (payloadOf ((withCmd (unitA) 256 9 0xa04 [2, 48])) ((256 : Mb)) ((9 : Fin 64))) 0 % 2 ∧ t.get NW_CTRL_freeze = u8 (payloadOf ((withCmd (unitA) 256 9 0xa04 [2, 48])) ((256 : Mb)) ((9 : Fin 64))) 0 / 2 ∧ t.get NW_CTRL_post = u8 (payloadOf ((withCmd (unitA) 256 9 0xa04 [2, 48])) ((256 : Mb)) ((9 : Fin 64))) 1) ∧ (t.nv = ((withCmd (unitA) 256 9 0xa04 [2, 48])).nv) ∧ (t.stitches = ((withCmd (unitA) 256 9 0xa04 [2, 48])).stitches) ∧ (t.skeins = ((withCmd (unitA) 256 9 0xa04 [2, 48])).skeins))) = true := by decide +kernel

def w_TwoWirePortsServeBothRoles_1 : State :=
    ((unitA.setF (TW_CTRL_mode 3) 1).updTw 3 (fun x => { x with jobs := [(255, 0x0C, 1)], tries := 1 }))

theorem test_TwoWirePortsServeBothRoles_1 :
    (NoRung w_TwoWirePortsServeBothRoles_1) ∧
    (w_TwoWirePortsServeBothRoles_1.swTouched = []) ∧
    (w_TwoWirePortsServeBothRoles_1.twBusy ((3 : Fin 8)) = true) ∧
    ((w_TwoWirePortsServeBothRoles_1.tw ((3 : Fin 8))).jobs = ((255, 0x0C, 1)) :: (([] : List (Nat × Nat × Nat)))) ∧
    ((w_TwoWirePortsServeBothRoles_1.tw ((3 : Fin 8))).tries < 2) ∧
    after (exec (.twTransactionDone ((3 : Fin 8)) .nack) w_TwoWirePortsServeBothRoles_1) (fun t => decide ((Counted w_TwoWirePortsServeBothRoles_1 t (TW_CNT_NACK_v ((3 : Fin 8)))) ∧ ((t.tw ((3 : Fin 8))).jobs = ((255, 0x0C, 1)) :: (([] : List (Nat × Nat × Nat))) ∧ (t.tw ((3 : Fin 8))).tries = (w_TwoWirePortsServeBothRoles_1.tw ((3 : Fin 8))).tries + 1) ∧ (t.rects = w_TwoWirePortsServeBothRoles_1.rects) ∧ (t.mem = w_TwoWirePortsServeBothRoles_1.mem) ∧ (t.stitches = w_TwoWirePortsServeBothRoles_1.stitches) ∧ (t.skeins = w_TwoWirePortsServeBothRoles_1.skeins))) = true := by decide +kernel

def w_TwoWirePortsServeBothRoles_2 : State :=
    ((unitA.setF (TW_CTRL_mode 3) 1).updTw 3 (fun x => { x with jobs := [(255, 0x0C, 1)], tries := 2 }))

theorem test_TwoWirePortsServeBothRoles_2 :
    (NoRung w_TwoWirePortsServeBothRoles_2) ∧
    (w_TwoWirePortsServeBothRoles_2.swTouched = []) ∧
    (w_TwoWirePortsServeBothRoles_2.twBusy ((3 : Fin 8)) = true) ∧
    ((w_TwoWirePortsServeBothRoles_2.tw ((3 : Fin 8))).jobs = ((255, 0x0C, 1)) :: (([] : List (Nat × Nat × Nat)))) ∧
    (2 ≤ (w_TwoWirePortsServeBothRoles_2.tw ((3 : Fin 8))).tries) ∧
    (((255, 0x0C, 1)).1 = 255) ∧
    after (exec (.twTransactionDone ((3 : Fin 8)) .pec) w_TwoWirePortsServeBothRoles_2) (fun t => decide ((Counted w_TwoWirePortsServeBothRoles_2 t (TW_CNT_PEC_v ((3 : Fin 8)))) ∧ ((t.tw ((3 : Fin 8))).jobs = (([] : List (Nat × Nat × Nat))) ∧ (t.tw ((3 : Fin 8))).tries = 0) ∧ (t.rects = w_TwoWirePortsServeBothRoles_2.rects) ∧ (t.mem = w_TwoWirePortsServeBothRoles_2.mem) ∧ (t.stitches = w_TwoWirePortsServeBothRoles_2.stitches) ∧ (t.skeins = w_TwoWirePortsServeBothRoles_2.skeins))) = true := by decide +kernel

def w_TwoWirePortsServeBothRoles_3 : State :=
    ((unitA.setF (TW_CTRL_mode 3) 1).updTw 3 (fun x => { x with jobs := [(255, 0x0C, 1)], tries := 2, losses := 3 }))

theorem test_TwoWirePortsServeBothRoles_3 :
    (NoRung w_TwoWirePortsServeBothRoles_3) ∧
    (w_TwoWirePortsServeBothRoles_3.holdupCauses = 0) ∧
    (w_TwoWirePortsServeBothRoles_3.twBusy ((3 : Fin 8)) = true) ∧
    ((w_TwoWirePortsServeBothRoles_3.tw ((3 : Fin 8))).jobs = (255, 0x0C, 1) :: (([] : List (Nat × Nat × Nat)))) ∧
    (w_TwoWirePortsServeBothRoles_3.twRect ((3 : Fin 8)) (((0x21 : BitVec 16)).toNat % 128) = none ∧ w_TwoWirePortsServeBothRoles_3.twStr ((3 : Fin 8)) (((0x21 : BitVec 16)).toNat % 128) = none) ∧
    (w_TwoWirePortsServeBothRoles_3.raised .twStretch ((3 : Fin 8)) = false) ∧
    after (exec (.twTransactionDone ((3 : Fin 8)) (.ok ((0x21 : BitVec 16)))) w_TwoWirePortsServeBothRoles_3) (fun t => decide (((t.tw ((3 : Fin 8))).jobs = (([] : List (Nat × Nat × Nat))) ∧ (t.tw ((3 : Fin 8))).tries = 0 ∧ (t.tw ((3 : Fin 8))).losses = 0) ∧ (t.regs = w_TwoWirePortsServeBothRoles_3.regs) ∧ (t.rects = w_TwoWirePortsServeBothRoles_3.rects) ∧ (t.mem = w_TwoWirePortsServeBothRoles_3.mem) ∧ (t.stitches = w_TwoWirePortsServeBothRoles_3.stitches) ∧ (t.skeins = w_TwoWirePortsServeBothRoles_3.skeins))) = true := by decide +kernel

def w_TwoWirePortsServeBothRoles_4 : State :=
    ((unitA.setF (TW_CTRL_mode 3) 1).updTw 3 (fun x => { x with jobs := [(255, 0x0C, 1)], losses := 6 }))

theorem test_TwoWirePortsServeBothRoles_4 :
    (NoRung w_TwoWirePortsServeBothRoles_4) ∧
    (w_TwoWirePortsServeBothRoles_4.swTouched = []) ∧
    (w_TwoWirePortsServeBothRoles_4.twBusy ((3 : Fin 8)) = true) ∧
    ((w_TwoWirePortsServeBothRoles_4.tw ((3 : Fin 8))).losses < 7) ∧
    after (exec (.twArbLost ((3 : Fin 8))) w_TwoWirePortsServeBothRoles_4) (fun t => decide ((Counted w_TwoWirePortsServeBothRoles_4 t (TW_CNT_ARB_v ((3 : Fin 8)))) ∧ (t.get (TW_STATUS_arb_lost_seen ((3 : Fin 8))) = 1) ∧ ((t.tw ((3 : Fin 8))).losses = (w_TwoWirePortsServeBothRoles_4.tw ((3 : Fin 8))).losses + 1) ∧ ((t.tw ((3 : Fin 8))).jobs = (w_TwoWirePortsServeBothRoles_4.tw ((3 : Fin 8))).jobs ∧ (t.tw ((3 : Fin 8))).tries = (w_TwoWirePortsServeBothRoles_4.tw ((3 : Fin 8))).tries) ∧ (t.faults = w_TwoWirePortsServeBothRoles_4.faults) ∧ (t.mem = w_TwoWirePortsServeBothRoles_4.mem) ∧ (t.stitches = w_TwoWirePortsServeBothRoles_4.stitches) ∧ (t.skeins = w_TwoWirePortsServeBothRoles_4.skeins))) = true := by decide +kernel

def w_TwoWirePortsServeBothRoles_5 : State :=
    ((unitA.setF (TW_CTRL_mode 3) 1).updTw 3 (fun x => { x with jobs := [(255, 0x0C, 1)], losses := 7 }))

theorem test_TwoWirePortsServeBothRoles_5 :
    (NoRung w_TwoWirePortsServeBothRoles_5) ∧
    (w_TwoWirePortsServeBothRoles_5.swTouched = []) ∧
    (w_TwoWirePortsServeBothRoles_5.twBusy ((3 : Fin 8)) = true) ∧
    ((w_TwoWirePortsServeBothRoles_5.tw ((3 : Fin 8))).losses = 7) ∧
    ((w_TwoWirePortsServeBothRoles_5.tw ((3 : Fin 8))).jobs = ((255, 0x0C, 1)) :: (([] : List (Nat × Nat × Nat)))) ∧
    ((w_TwoWirePortsServeBothRoles_5.tw ((3 : Fin 8))).tries < 2) ∧
    after (exec (.twArbLost ((3 : Fin 8))) w_TwoWirePortsServeBothRoles_5) (fun t => decide ((Counted w_TwoWirePortsServeBothRoles_5 t (TW_CNT_ARB_v ((3 : Fin 8)))) ∧ ((t.tw ((3 : Fin 8))).losses = 0 ∧ (t.tw ((3 : Fin 8))).tries = (w_TwoWirePortsServeBothRoles_5.tw ((3 : Fin 8))).tries + 1 ∧ (t.tw ((3 : Fin 8))).jobs = ((255, 0x0C, 1)) :: (([] : List (Nat × Nat × Nat)))) ∧ (t.mem = w_TwoWirePortsServeBothRoles_5.mem) ∧ (t.stitches = w_TwoWirePortsServeBothRoles_5.stitches) ∧ (t.skeins = w_TwoWirePortsServeBothRoles_5.skeins))) = true := by decide +kernel

theorem test_TwoWirePortsServeBothRoles_6 :
    (MayRaise (((unitA.setF (TW_CTRL_mode 3) 1))) .twStretch ((3 : Fin 8))) ∧
    ((((unitA.setF (TW_CTRL_mode 3) 1))).swTouched = []) ∧
    ((((unitA.setF (TW_CTRL_mode 3) 1))).twCtl ((3 : Fin 8)) = true) ∧
    (((((unitA.setF (TW_CTRL_mode 3) 1))).tw ((3 : Fin 8))).lostAt = none) ∧
    (((((unitA.setF (TW_CTRL_mode 3) 1))).tw ((3 : Fin 8))).jobs = []) ∧
    after (exec (.twStretchTimeout ((3 : Fin 8)) true) (((unitA.setF (TW_CTRL_mode 3) 1)))) (fun t => decide ((t.raised .twStretch ((3 : Fin 8)) = true) ∧ (t.get (TW_STATUS_stretch_seen ((3 : Fin 8))) = 1) ∧ (Counted (((unitA.setF (TW_CTRL_mode 3) 1))) t (TW_CNT_STRETCH_v ((3 : Fin 8)))) ∧ (true = true → t.get (TW_STATUS_bus ((3 : Fin 8))) = 2 ∧ (t.tw ((3 : Fin 8))).retryAt = some (((unitA.setF (TW_CTRL_mode 3) 1))).ct) ∧ (t.stitches = (((unitA.setF (TW_CTRL_mode 3) 1))).stitches) ∧ (t.skeins = (((unitA.setF (TW_CTRL_mode 3) 1))).skeins))) = true := by decide +kernel

def w_TwoWirePortsServeBothRoles_7 : State :=
    ((unitA.setF (TW_CTRL_mode 3) 1).updTw 3 (fun x => { x with lostAt := some 0 }))

theorem test_TwoWirePortsServeBothRoles_7 :
    ((w_TwoWirePortsServeBothRoles_7.tw ((3 : Fin 8))).lostAt = some w_TwoWirePortsServeBothRoles_7.ct) ∧
    after (exec (.twStretchTimeout ((3 : Fin 8)) true) w_TwoWirePortsServeBothRoles_7) (fun t => decide ((t = w_TwoWirePortsServeBothRoles_7))) = true := by decide +kernel

def w_TwoWirePortsServeBothRoles_8 : State :=
    ((unitA.setF (TW_CTRL_mode 3) 1).updTw 3 (fun x => { x with jobs := [(255, 0x0C, 1)] }))

theorem test_TwoWirePortsServeBothRoles_8 :
    (MayRaise w_TwoWirePortsServeBothRoles_8 .twStuck ((3 : Fin 8))) ∧
    (w_TwoWirePortsServeBothRoles_8.twCtl ((3 : Fin 8)) = true) ∧
    after (exec (.twSclStuck ((3 : Fin 8))) w_TwoWirePortsServeBothRoles_8) (fun t => decide ((t.raised .twStuck ((3 : Fin 8)) = true) ∧ (t.get (TW_STATUS_bus ((3 : Fin 8))) = 3) ∧ ((t.tw ((3 : Fin 8))).retryAt = some (w_TwoWirePortsServeBothRoles_8.ct + ms 100) ∧ (t.tw ((3 : Fin 8))).jobs = (w_TwoWirePortsServeBothRoles_8.tw ((3 : Fin 8))).jobs ∧ (t.tw ((3 : Fin 8))).tries = (w_TwoWirePortsServeBothRoles_8.tw ((3 : Fin 8))).tries) ∧ (t.stitches = w_TwoWirePortsServeBothRoles_8.stitches) ∧ (t.skeins = w_TwoWirePortsServeBothRoles_8.skeins))) = true := by decide +kernel

def w_TwoWirePortsServeBothRoles_9 : State :=
    ((unitA.setF (TW_CTRL_mode 3) 1).updTw 3 (fun x => { x with jobs := [(255, 0x0C, 1)] }))

theorem test_TwoWirePortsServeBothRoles_9 :
    (NoRung w_TwoWirePortsServeBothRoles_9) ∧
    (w_TwoWirePortsServeBothRoles_9.swTouched = []) ∧
    (w_TwoWirePortsServeBothRoles_9.twCtl ((3 : Fin 8)) = true) ∧
    (w_TwoWirePortsServeBothRoles_9.get (TW_STATUS_bus ((3 : Fin 8))) < 2) ∧
    (w_TwoWirePortsServeBothRoles_9.raised .twStuck ((3 : Fin 8)) = false) ∧
    after (exec (.twSdaStuck ((3 : Fin 8)) (some ((3 : Fin 9)))) w_TwoWirePortsServeBothRoles_9) (fun t => decide ((t.out = w_TwoWirePortsServeBothRoles_9.out ++ [.twRecover ((3 : Fin 8)) (((3 : Fin 9)) + 1)]) ∧ (Counted w_TwoWirePortsServeBothRoles_9 t (TW_CNT_RECOVER_v ((3 : Fin 8)))) ∧ (t.get (TW_STATUS_bus ((3 : Fin 8))) = 0) ∧ (t.faults = w_TwoWirePortsServeBothRoles_9.faults) ∧ ((t.tw ((3 : Fin 8))).jobs = (w_TwoWirePortsServeBothRoles_9.tw ((3 : Fin 8))).jobs ∧ (t.tw ((3 : Fin 8))).tries = (w_TwoWirePortsServeBothRoles_9.tw ((3 : Fin 8))).tries) ∧ (t.mem = w_TwoWirePortsServeBothRoles_9.mem) ∧ (t.stitches = w_TwoWirePortsServeBothRoles_9.stitches) ∧ (t.skeins = w_TwoWirePortsServeBothRoles_9.skeins))) = true := by decide +kernel

def w_TwoWirePortsServeBothRoles_10 : State :=
    ((unitA.setF (TW_CTRL_mode 3) 1).updTw 3 (fun x => { x with jobs := [(255, 0x0C, 1)] }))

theorem test_TwoWirePortsServeBothRoles_10 :
    (MayRaise w_TwoWirePortsServeBothRoles_10 .twStuck ((3 : Fin 8))) ∧
    (w_TwoWirePortsServeBothRoles_10.swTouched = []) ∧
    (w_TwoWirePortsServeBothRoles_10.twCtl ((3 : Fin 8)) = true) ∧
    (w_TwoWirePortsServeBothRoles_10.get (TW_STATUS_bus ((3 : Fin 8))) < 2) ∧
    after (exec (.twSdaStuck ((3 : Fin 8)) none) w_TwoWirePortsServeBothRoles_10) (fun t => decide ((Counted w_TwoWirePortsServeBothRoles_10 t (TW_CNT_RECOVER_v ((3 : Fin 8)))) ∧ (t.get (TW_STATUS_bus ((3 : Fin 8))) = 3 ∧ t.get (TW_STATUS_stuck_seen ((3 : Fin 8))) = 1) ∧ (t.raised .twStuck ((3 : Fin 8)) = true) ∧ ((t.tw ((3 : Fin 8))).retryAt = some (w_TwoWirePortsServeBothRoles_10.ct + ms 100)) ∧ (t.stitches = w_TwoWirePortsServeBothRoles_10.stitches) ∧ (t.skeins = w_TwoWirePortsServeBothRoles_10.skeins))) = true := by decide +kernel

def w_TwoWirePortsServeBothRoles_11 : State :=
    ((unitA.setF (TW_CTRL_mode 3) 1).updTw 3 (fun x => { x with retryAt := some 0 }))

theorem test_TwoWirePortsServeBothRoles_11 :
    ((w_TwoWirePortsServeBothRoles_11.tw ((3 : Fin 8))).retryAt = some 0) ∧
    (0 ≤ w_TwoWirePortsServeBothRoles_11.ct) ∧
    (w_TwoWirePortsServeBothRoles_11.twCtl ((3 : Fin 8)) = true) ∧
    after (exec (.twStuckRetry ((3 : Fin 8)) false ((none : Option (Fin 9)))) w_TwoWirePortsServeBothRoles_11) (fun t => decide (((t.tw ((3 : Fin 8))).retryAt = some (w_TwoWirePortsServeBothRoles_11.ct + ms 100)) ∧ (t.regs = w_TwoWirePortsServeBothRoles_11.regs) ∧ (t.faults = w_TwoWirePortsServeBothRoles_11.faults) ∧ (t.out = w_TwoWirePortsServeBothRoles_11.out) ∧ (t.mem = w_TwoWirePortsServeBothRoles_11.mem) ∧ (t.stitches = w_TwoWirePortsServeBothRoles_11.stitches) ∧ (t.skeins = w_TwoWirePortsServeBothRoles_11.skeins))) = true := by decide +kernel

def w_TwoWirePortsServeBothRoles_12 : State :=
    ((unitA.setF (TW_CTRL_mode 3) 1).updTw 3 (fun x => { x with retryAt := some 0 })).updFaults (fun f => { f with insts := [{ kind := .twStuck, inst := 3, cls := 1 }] })

theorem test_TwoWirePortsServeBothRoles_12 :
    (w_TwoWirePortsServeBothRoles_12.swTouched = []) ∧
    ((w_TwoWirePortsServeBothRoles_12.tw ((3 : Fin 8))).retryAt = some 0) ∧
    (0 ≤ w_TwoWirePortsServeBothRoles_12.ct) ∧
    (w_TwoWirePortsServeBothRoles_12.twCtl ((3 : Fin 8)) = true) ∧
    (w_TwoWirePortsServeBothRoles_12.faults.insts = [(({ kind := .twStuck, inst := 3, cls := 1 } : Inst))] ∧ w_TwoWirePortsServeBothRoles_12.faults.atOnce = []) ∧
    ((({ kind := .twStuck, inst := 3, cls := 1 } : Inst)).kind = .twStuck ∧ (({ kind := .twStuck, inst := 3, cls := 1 } : Inst)).inst = ((3 : Fin 8)).val ∧ (({ kind := .twStuck, inst := 3, cls := 1 } : Inst)).cls = 1 ∧ (({ kind := .twStuck, inst := 3, cls := 1 } : Inst)).held = false) ∧
    after (exec (.twStuckRetry ((3 : Fin 8)) true (some ((0 : Fin 9)))) w_TwoWirePortsServeBothRoles_12) (fun t => decide (((t.tw ((3 : Fin 8))).retryAt = none) ∧ (t.get (TW_STATUS_bus ((3 : Fin 8))) = 0) ∧ (t.faults.insts = []) ∧ (Counted w_TwoWirePortsServeBothRoles_12 t (TW_CNT_RECOVER_v ((3 : Fin 8)))) ∧ (t.out = w_TwoWirePortsServeBothRoles_12.out ++ [.twRecover ((3 : Fin 8)) (((0 : Fin 9)) + 1)]) ∧ (t.mem = w_TwoWirePortsServeBothRoles_12.mem) ∧ (t.stitches = w_TwoWirePortsServeBothRoles_12.stitches) ∧ (t.skeins = w_TwoWirePortsServeBothRoles_12.skeins))) = true := by decide +kernel

def w_TwoWirePortsServeBothRoles_13 : State :=
    ((unitA.setF (TW_CTRL_mode 3) 1).setB (TW_CTRL_attn_det 3) true)

theorem test_TwoWirePortsServeBothRoles_13 :
    (w_TwoWirePortsServeBothRoles_13.swTouched = []) ∧
    (w_TwoWirePortsServeBothRoles_13.twCtl ((3 : Fin 8)) = true) ∧
    (w_TwoWirePortsServeBothRoles_13.is (TW_CTRL_attn_det ((3 : Fin 8))) = true) ∧
    (w_TwoWirePortsServeBothRoles_13.get (TW_STATUS_bus ((3 : Fin 8))) < 2) ∧
    ((w_TwoWirePortsServeBothRoles_13.tw ((3 : Fin 8))).recAt = none) ∧
    (w_TwoWirePortsServeBothRoles_13.twRect ((3 : Fin 8)) ((0x21 : BitVec 7)).toNat = none ∧ w_TwoWirePortsServeBothRoles_13.twStr ((3 : Fin 8)) ((0x21 : BitVec 7)).toNat = none) ∧
    ((w_TwoWirePortsServeBothRoles_13.get (VI_EV_PROD_index 256) + 256 - w_TwoWirePortsServeBothRoles_13.get (VI_EV_CONS_index 256)) % 256 < 128) ∧
    after (exec (.twAttention ((3 : Fin 8)) (some ((0x21 : BitVec 7)))) w_TwoWirePortsServeBothRoles_13) (fun t => decide ((t.get (TW_ATTN_addr ((3 : Fin 8))) = ((0x21 : BitVec 7)).toNat) ∧ (Counted w_TwoWirePortsServeBothRoles_13 t (TW_CNT_ATTN_v ((3 : Fin 8)))) ∧ (t.get (TW_STATUS_attn_seen ((3 : Fin 8))) = 1) ∧ (t.get (VI_EV_PROD_index 256) = (w_TwoWirePortsServeBothRoles_13.get (VI_EV_PROD_index 256) + 1) % 256) ∧ (.msix 256 1 ∈ t.out) ∧ (t.faults = w_TwoWirePortsServeBothRoles_13.faults) ∧ (t.stitches = w_TwoWirePortsServeBothRoles_13.stitches) ∧ (t.skeins = w_TwoWirePortsServeBothRoles_13.skeins))) = true := by decide +kernel

def w_TwoWirePortsServeBothRoles_14 : State :=
    { ((unitA.setF (TW_CTRL_mode 3) 1).setB (TW_CTRL_attn_det 3) true) with rects := [(12, { state := 3, tw := 3, addr := 0x21 })] }

theorem test_TwoWirePortsServeBothRoles_14 :
    (w_TwoWirePortsServeBothRoles_14.swTouched = []) ∧
    (w_TwoWirePortsServeBothRoles_14.twCtl ((3 : Fin 8)) = true) ∧
    (w_TwoWirePortsServeBothRoles_14.is (TW_CTRL_attn_det ((3 : Fin 8))) = true) ∧
    (w_TwoWirePortsServeBothRoles_14.get (TW_STATUS_bus ((3 : Fin 8))) < 2) ∧
    ((w_TwoWirePortsServeBothRoles_14.tw ((3 : Fin 8))).recAt = none ∧ (w_TwoWirePortsServeBothRoles_14.tw ((3 : Fin 8))).alertAt = none) ∧
    (w_TwoWirePortsServeBothRoles_14.twRect ((3 : Fin 8)) ((0x21 : BitVec 7)).toNat = some 12 ∧ 12 < 64) ∧
    (w_TwoWirePortsServeBothRoles_14.shelfOn = true) ∧
    after (exec (.twAttention ((3 : Fin 8)) (some ((0x21 : BitVec 7)))) w_TwoWirePortsServeBothRoles_14) (fun t => decide ((t.get (TW_ATTN_addr ((3 : Fin 8))) = ((0x21 : BitVec 7)).toNat) ∧ ((t.tw ((3 : Fin 8))).jobs = (w_TwoWirePortsServeBothRoles_14.tw ((3 : Fin 8))).jobs.take 1 ++ [(12, 0x79, 1)] ++ (w_TwoWirePortsServeBothRoles_14.tw ((3 : Fin 8))).jobs.drop 1) ∧ (Counted w_TwoWirePortsServeBothRoles_14 t (TW_CNT_ATTN_v ((3 : Fin 8)))) ∧ (t.get (TW_STATUS_attn_seen ((3 : Fin 8))) = 1) ∧ (t.out = w_TwoWirePortsServeBothRoles_14.out) ∧ (t.mem = w_TwoWirePortsServeBothRoles_14.mem) ∧ (t.stitches = w_TwoWirePortsServeBothRoles_14.stitches) ∧ (t.skeins = w_TwoWirePortsServeBothRoles_14.skeins))) = true := by decide +kernel

def w_TwoWirePortsServeBothRoles_15 : State :=
    (((unitA.setF (TW_CTRL_mode 3) 2).putWord (aTW_TADDR 3) 0xD0).setB (TW_CTRL_attn_en 3) true).updTw 3 (fun x => { x with attnPending := true })

theorem test_TwoWirePortsServeBothRoles_15 :
    (w_TwoWirePortsServeBothRoles_15.twServes ((3 : Fin 8)) = true) ∧
    (w_TwoWirePortsServeBothRoles_15.is (TW_CTRL_attn_en ((3 : Fin 8))) = true) ∧
    ((w_TwoWirePortsServeBothRoles_15.tw ((3 : Fin 8))).attnPending = true) ∧
    ((w_TwoWirePortsServeBothRoles_15.tw ((3 : Fin 8))).attnAt ≤ w_TwoWirePortsServeBothRoles_15.ct) ∧
    after (exec (.twAttnAssert ((3 : Fin 8))) w_TwoWirePortsServeBothRoles_15) (fun t => decide ((t.out = w_TwoWirePortsServeBothRoles_15.out ++ [.twAttention ((3 : Fin 8))]) ∧ ((t.tw ((3 : Fin 8))).attnAt = w_TwoWirePortsServeBothRoles_15.ct + sec 1 ∧ (t.tw ((3 : Fin 8))).attnPending = true) ∧ (t.regs = w_TwoWirePortsServeBothRoles_15.regs) ∧ (t.faults = w_TwoWirePortsServeBothRoles_15.faults) ∧ (t.mem = w_TwoWirePortsServeBothRoles_15.mem) ∧ (t.stitches = w_TwoWirePortsServeBothRoles_15.stitches) ∧ (t.skeins = w_TwoWirePortsServeBothRoles_15.skeins))) = true := by decide +kernel

def w_TwoWirePortsServeBothRoles_16 : State :=
    (((unitA.setF (TW_CTRL_mode 3) 2).putWord (aTW_TADDR 3) 0xD0)).updTw 3 (fun x => { x with attnPending := true })

theorem test_TwoWirePortsServeBothRoles_16 :
    (w_TwoWirePortsServeBothRoles_16.twServes ((3 : Fin 8)) = true) ∧
    (w_TwoWirePortsServeBothRoles_16.recognised ((3 : Fin 8)) ((0x50 : BitVec 7)) = true) ∧
    after (exec (.twTargetRead ((3 : Fin 8)) ((0x50 : BitVec 7)) ((6 : Byte))) w_TwoWirePortsServeBothRoles_16) (fun t => decide ((t.out = w_TwoWirePortsServeBothRoles_16.out ++ [.twData ((3 : Fin 8)) (w_TwoWirePortsServeBothRoles_16.targetMap ((6 : Byte)).toNat)]) ∧ (t.get (TW_STATUS_last_addr ((3 : Fin 8))) = ((0x50 : BitVec 7)).toNat) ∧ (((6 : Byte)).toNat = 6 → (t.tw ((3 : Fin 8))).attnPending = false) ∧ (t.faults = w_TwoWirePortsServeBothRoles_16.faults) ∧ (t.mem = w_TwoWirePortsServeBothRoles_16.mem) ∧ (t.stitches = w_TwoWirePortsServeBothRoles_16.stitches) ∧ (t.skeins = w_TwoWirePortsServeBothRoles_16.skeins))) = true := by decide +kernel

def w_TwoWirePortsServeBothRoles_17 : State :=
    (((unitA.setF (TW_CTRL_mode 3) 2).putWord (aTW_TADDR 3) 0xD0))

theorem test_TwoWirePortsServeBothRoles_17 :
    (w_TwoWirePortsServeBothRoles_17.recognised ((3 : Fin 8)) ((0x51 : BitVec 7)) = false) ∧
    after (exec (.twTargetRead ((3 : Fin 8)) ((0x51 : BitVec 7)) ((6 : Byte))) w_TwoWirePortsServeBothRoles_17) (fun t => decide ((t = w_TwoWirePortsServeBothRoles_17))) = true := by decide +kernel

theorem test_TwoWirePortsServeBothRoles_18 :
    (9 ≤ 9) ∧
    (unitA.targetMap 9 = 0) := by decide +kernel

def w_TwoWirePortsServeBothRoles_19 : State :=
    (((unitA.setF (TW_CTRL_mode 3) 2).putWord (aTW_TADDR 3) 0xD0))

theorem test_TwoWirePortsServeBothRoles_19 :
    (w_TwoWirePortsServeBothRoles_19.twServes ((3 : Fin 8)) = true) ∧
    (w_TwoWirePortsServeBothRoles_19.recognised ((3 : Fin 8)) ((0x50 : BitVec 7)) = true) ∧
    after (exec (.twTargetWrite ((3 : Fin 8)) ((0x50 : BitVec 7)) ((6 : Byte)) ((1 : Byte))) w_TwoWirePortsServeBothRoles_19) (fun t => decide ((t.out = w_TwoWirePortsServeBothRoles_19.out ++ [.twNack ((3 : Fin 8))]) ∧ (t.get (TW_STATUS_last_addr ((3 : Fin 8))) = ((0x50 : BitVec 7)).toNat) ∧ (t.tws = w_TwoWirePortsServeBothRoles_19.tws) ∧ (t.faults = w_TwoWirePortsServeBothRoles_19.faults) ∧ (t.mem = w_TwoWirePortsServeBothRoles_19.mem) ∧ (t.stitches = w_TwoWirePortsServeBothRoles_19.stitches) ∧ (t.skeins = w_TwoWirePortsServeBothRoles_19.skeins))) = true := by decide +kernel

def w_TwoWirePortsServeBothRoles_20 : State :=
    (((unitA.setF (TW_CTRL_mode 3) 2).putWord (aTW_TADDR 3) 0xD0))

theorem test_TwoWirePortsServeBothRoles_20 :
    (w_TwoWirePortsServeBothRoles_20.twServes ((3 : Fin 8)) = true) ∧
    (w_TwoWirePortsServeBothRoles_20.swTouched = []) ∧
    after (exec (.twTargetTimeout ((3 : Fin 8))) w_TwoWirePortsServeBothRoles_20) (fun t => decide ((Counted w_TwoWirePortsServeBothRoles_20 t (TW_CNT_STRETCH_v ((3 : Fin 8)))) ∧ (t.get (TW_STATUS_stretch_seen ((3 : Fin 8))) = 1) ∧ (t.faults = w_TwoWirePortsServeBothRoles_20.faults) ∧ (t.tws = w_TwoWirePortsServeBothRoles_20.tws) ∧ (t.mem = w_TwoWirePortsServeBothRoles_20.mem) ∧ (t.stitches = w_TwoWirePortsServeBothRoles_20.stitches) ∧ (t.skeins = w_TwoWirePortsServeBothRoles_20.skeins))) = true := by decide +kernel

def w_TwoWirePortsServeBothRoles_21 : State :=
    ((((unitA.setF (TW_CTRL_mode 3) 2).putWord (aTW_TADDR 3) 0xD0).setB (TW_CTRL_wake_en 3) true).setUnit 0).updRst (fun r => { r with dormantWhy := 1 })

theorem test_TwoWirePortsServeBothRoles_21 :
    (w_TwoWirePortsServeBothRoles_21.unit = 0 ∧ w_TwoWirePortsServeBothRoles_21.rst.dormantWhy ≠ 0 ∧ w_TwoWirePortsServeBothRoles_21.rst.dormantWhy ≠ 2) ∧
    (w_TwoWirePortsServeBothRoles_21.twRole ((3 : Fin 8)) = 2) ∧
    (w_TwoWirePortsServeBothRoles_21.is (TW_CTRL_wake_en ((3 : Fin 8))) = true) ∧
    (w_TwoWirePortsServeBothRoles_21.recognised ((3 : Fin 8)) ((0x50 : BitVec 7)) = true) ∧
    ((w_TwoWirePortsServeBothRoles_21.tw ((3 : Fin 8))).roleWait = false) ∧
    (w_TwoWirePortsServeBothRoles_21.rst.wakeHeld = none) ∧
    after (exec (.twWake ((3 : Fin 8)) ((0x50 : BitVec 7))) w_TwoWirePortsServeBothRoles_21) (fun t => decide ((t.rst.wakeHeld = some 9) ∧ (t.out = w_TwoWirePortsServeBothRoles_21.out ++ [.twNack ((3 : Fin 8))]) ∧ (t.get (TW_STATUS_wake_seen ((3 : Fin 8))) = 1) ∧ (t.mem = w_TwoWirePortsServeBothRoles_21.mem) ∧ (t.stitches = w_TwoWirePortsServeBothRoles_21.stitches) ∧ (t.skeins = w_TwoWirePortsServeBothRoles_21.skeins))) = true := by decide +kernel

def w_TwoWirePortsServeBothRoles_22 : State :=
    (((unitA.setF (TW_CTRL_mode 3) 2).putWord (aTW_TADDR 3) 0xD0))

theorem test_TwoWirePortsServeBothRoles_22 :
    (w_TwoWirePortsServeBothRoles_22.is (TW_CTRL_wake_en ((3 : Fin 8))) = false) ∧
    after (exec (.twWake ((3 : Fin 8)) ((0x50 : BitVec 7))) w_TwoWirePortsServeBothRoles_22) (fun t => decide ((t = w_TwoWirePortsServeBothRoles_22))) = true := by decide +kernel

def w_EntropyAndKeysServeTheirConsumers_1 : State :=
    (unitA.setF SEC_STATUS_drbg 1).setF SEC_STATUS_src_ok 3

theorem test_EntropyAndKeysServeTheirConsumers_1 :
    (Runs w_EntropyAndKeysServeTheirConsumers_1) ∧
    (MayRaise w_EntropyAndKeysServeTheirConsumers_1 .secEntropy 0) ∧
    (w_EntropyAndKeysServeTheirConsumers_1.swTouched = []) ∧
    (w_EntropyAndKeysServeTheirConsumers_1.get SEC_STATUS_drbg = 1) ∧
    (w_EntropyAndKeysServeTheirConsumers_1.trust.retestAt = none) ∧
    after (exec (.entropyTestFail ((1 : Fin 2)) true) w_EntropyAndKeysServeTheirConsumers_1) (fun t => decide ((t.get SEC_STATUS_drbg = 2) ∧ (t.get SEC_STATUS_entropy_seen = 1) ∧ (t.raised .secEntropy 0 = true) ∧ (t.trust.retestAt = some (((1 : Fin 2)).val, w_EntropyAndKeysServeTheirConsumers_1.ct + us 10240)) ∧ (Counted w_EntropyAndKeysServeTheirConsumers_1 t (if true then SEC_CNT_APT_v else SEC_CNT_RCT_v)) ∧ (t.get SEC_STATUS_retest_fail = 0) ∧ (t.trust.queue = w_EntropyAndKeysServeTheirConsumers_1.trust.queue) ∧ (t.stitches = w_EntropyAndKeysServeTheirConsumers_1.stitches) ∧ (t.skeins = w_EntropyAndKeysServeTheirConsumers_1.skeins))) = true := by decide +kernel

def w_EntropyAndKeysServeTheirConsumers_2 : State :=
    ((unitA.setF SEC_STATUS_drbg 2).updTrust (fun t => { t with retestAt := some (1, 0), failing := [1] }))

theorem test_EntropyAndKeysServeTheirConsumers_2 :
    (w_EntropyAndKeysServeTheirConsumers_2.trust.retestAt = some (1, 0)) ∧
    (0 ≤ w_EntropyAndKeysServeTheirConsumers_2.ct) ∧
    (w_EntropyAndKeysServeTheirConsumers_2.trust.failing = [1]) ∧
    (w_EntropyAndKeysServeTheirConsumers_2.raised .secEntropy 0 = false) ∧
    after (exec (.entropyRetestDone true) w_EntropyAndKeysServeTheirConsumers_2) (fun t => decide ((t.trust.retestAt = none ∧ t.trust.instAt = some w_EntropyAndKeysServeTheirConsumers_2.ct) ∧ (t.get SEC_STATUS_retest_fail = 0) ∧ (t.get SEC_STATUS_drbg = w_EntropyAndKeysServeTheirConsumers_2.get SEC_STATUS_drbg) ∧ (t.trust.queue = w_EntropyAndKeysServeTheirConsumers_2.trust.queue) ∧ (t.faults = w_EntropyAndKeysServeTheirConsumers_2.faults) ∧ (t.stitches = w_EntropyAndKeysServeTheirConsumers_2.stitches) ∧ (t.skeins = w_EntropyAndKeysServeTheirConsumers_2.skeins))) = true := by decide +kernel

def w_EntropyAndKeysServeTheirConsumers_3 : State :=
    (((unitA.setF SEC_STATUS_drbg 2).setF SEC_STATUS_retest_fail 1).updTrust (fun t => { t with retestAt := some (1, 0), failing := [1] }))

theorem test_EntropyAndKeysServeTheirConsumers_3 :
    (w_EntropyAndKeysServeTheirConsumers_3.swTouched = []) ∧
    (w_EntropyAndKeysServeTheirConsumers_3.trust.retestAt = some (1, 0)) ∧
    (0 ≤ w_EntropyAndKeysServeTheirConsumers_3.ct) ∧
    (w_EntropyAndKeysServeTheirConsumers_3.get SEC_STATUS_retest_fail < 2) ∧
    after (exec (.entropyRetestDone false) w_EntropyAndKeysServeTheirConsumers_3) (fun t => decide ((t.get SEC_STATUS_retest_fail = w_EntropyAndKeysServeTheirConsumers_3.get SEC_STATUS_retest_fail + 1) ∧ (Counted w_EntropyAndKeysServeTheirConsumers_3 t SEC_CNT_RETEST_v) ∧ (t.trust.retestAt = some (1, w_EntropyAndKeysServeTheirConsumers_3.ct + us 10240)) ∧ (t.get SEC_STATUS_drbg = w_EntropyAndKeysServeTheirConsumers_3.get SEC_STATUS_drbg) ∧ (t.trust.queue = w_EntropyAndKeysServeTheirConsumers_3.trust.queue) ∧ (t.faults = w_EntropyAndKeysServeTheirConsumers_3.faults) ∧ (t.stitches = w_EntropyAndKeysServeTheirConsumers_3.stitches) ∧ (t.skeins = w_EntropyAndKeysServeTheirConsumers_3.skeins))) = true := by decide +kernel

def w_EntropyAndKeysServeTheirConsumers_4 : State :=
    (((((withCmd (unitA) 256 9 0xf10 [4])).updTrust (fun t => { t with retestAt := some (1, 0), failing := [1], queue := [.random 256 9 4] }))).setF SEC_STATUS_drbg 2).setF SEC_STATUS_retest_fail 2

theorem test_EntropyAndKeysServeTheirConsumers_4 :
    (w_EntropyAndKeysServeTheirConsumers_4.swTouched = []) ∧
    (w_EntropyAndKeysServeTheirConsumers_4.trust.retestAt = some (1, 0)) ∧
    (0 ≤ w_EntropyAndKeysServeTheirConsumers_4.ct) ∧
    (w_EntropyAndKeysServeTheirConsumers_4.get SEC_STATUS_retest_fail = 2) ∧
    (w_EntropyAndKeysServeTheirConsumers_4.get SEC_STATUS_drbg = 2) ∧
    (w_EntropyAndKeysServeTheirConsumers_4.trust.queue = [.random ((256 : Mb)) ((9 : Fin 64)) 4]) ∧
    (w_EntropyAndKeysServeTheirConsumers_4.ringFull ((256 : Mb)) = false ∧ (w_EntropyAndKeysServeTheirConsumers_4.mbx ((256 : Mb))).cqWait = [] ∧ (cmdOf w_EntropyAndKeysServeTheirConsumers_4 ((256 : Mb)) ((9 : Fin 64))).mirrored = false) ∧
    (Tail w_EntropyAndKeysServeTheirConsumers_4 ((256 : Mb)) ((9 : Fin 64))) ∧
    after (exec (.entropyRetestDone false) w_EntropyAndKeysServeTheirConsumers_4) (fun t => decide ((Done t ((256 : Mb)) ((9 : Fin 64)) (cmdOf w_EntropyAndKeysServeTheirConsumers_4 ((256 : Mb)) ((9 : Fin 64))) 8 0 0) ∧ (t.get SEC_STATUS_drbg = 3 ∧ t.get SEC_STATUS_retest_fail = 3) ∧ (t.trust.queue = [] ∧ t.get SEC_STATUS_queue = 0) ∧ (Counted w_EntropyAndKeysServeTheirConsumers_4 t SEC_CNT_ENTROPY_v) ∧ (t.stitches = w_EntropyAndKeysServeTheirConsumers_4.stitches) ∧ (t.skeins = w_EntropyAndKeysServeTheirConsumers_4.skeins))) = true := by decide +kernel

def w_EntropyAndKeysServeTheirConsumers_5 : State :=
    { (unitA.updTrust (fun t => { t with instAt := some 0 })) with ct := 1638400 }

theorem test_EntropyAndKeysServeTheirConsumers_5 :
    (w_EntropyAndKeysServeTheirConsumers_5.trust.instAt = some 0) ∧
    (0 + us 1024 ≤ w_EntropyAndKeysServeTheirConsumers_5.ct) ∧
    (w_EntropyAndKeysServeTheirConsumers_5.trust.queue = [] ∧ w_EntropyAndKeysServeTheirConsumers_5.trust.keyBad = []) ∧
    after (exec (.drbgInstantiateDone) w_EntropyAndKeysServeTheirConsumers_5) (fun t => decide ((t.get SEC_STATUS_drbg = 1 ∧ t.get SEC_STATUS_src_ok = 3) ∧ (t.trust.reseedAt = w_EntropyAndKeysServeTheirConsumers_5.ct + sec 1 ∧ t.trust.requests = 0 ∧ t.trust.instAt = none) ∧ (t.mbxs = w_EntropyAndKeysServeTheirConsumers_5.mbxs) ∧ (t.mem = w_EntropyAndKeysServeTheirConsumers_5.mem) ∧ (t.stitches = w_EntropyAndKeysServeTheirConsumers_5.stitches) ∧ (t.skeins = w_EntropyAndKeysServeTheirConsumers_5.skeins))) = true := by decide +kernel

def w_EntropyAndKeysServeTheirConsumers_6 : State :=
    { (((withCmd (unitA) 256 9 0xf10 [4])).updTrust (fun t => { t with instAt := some 0, queue := [.random 256 9 4] })) with ct := 1638400 }

theorem test_EntropyAndKeysServeTheirConsumers_6 :
    (w_EntropyAndKeysServeTheirConsumers_6.trust.instAt = some 0) ∧
    (0 + us 1024 ≤ w_EntropyAndKeysServeTheirConsumers_6.ct) ∧
    (w_EntropyAndKeysServeTheirConsumers_6.trust.queue = [.random ((256 : Mb)) ((9 : Fin 64)) 4] ∧ w_EntropyAndKeysServeTheirConsumers_6.trust.keyBad = []) ∧
    (4 ≤ 32) ∧
    (w_EntropyAndKeysServeTheirConsumers_6.ringFull ((256 : Mb)) = false ∧ (w_EntropyAndKeysServeTheirConsumers_6.mbx ((256 : Mb))).cqWait = [] ∧ (cmdOf w_EntropyAndKeysServeTheirConsumers_6 ((256 : Mb)) ((9 : Fin 64))).mirrored = false) ∧
    after (exec (.drbgInstantiateDone) w_EntropyAndKeysServeTheirConsumers_6) (fun t => decide ((t.get SEC_STATUS_drbg = 1) ∧ (t.trust.queue = []) ∧ (t.stitches = w_EntropyAndKeysServeTheirConsumers_6.stitches) ∧ (t.skeins = w_EntropyAndKeysServeTheirConsumers_6.skeins))) = true := by decide +kernel

def w_EntropyAndKeysServeTheirConsumers_7 : State :=
    ((unitA.setF SEC_STATUS_drbg 1).updTrust (fun t => { t with requests := 65536, reseedAt := 9 }))

theorem test_EntropyAndKeysServeTheirConsumers_7 :
    (w_EntropyAndKeysServeTheirConsumers_7.get SEC_STATUS_drbg = 1) ∧
    (w_EntropyAndKeysServeTheirConsumers_7.trust.reseedAt ≤ w_EntropyAndKeysServeTheirConsumers_7.ct ∨ 65536 ≤ w_EntropyAndKeysServeTheirConsumers_7.trust.requests) ∧
    after (exec (.drbgReseed) w_EntropyAndKeysServeTheirConsumers_7) (fun t => decide ((t.trust.reseedAt = w_EntropyAndKeysServeTheirConsumers_7.ct + sec 1 ∧ t.trust.requests = 0) ∧ (t.regs = w_EntropyAndKeysServeTheirConsumers_7.regs) ∧ (t.mem = w_EntropyAndKeysServeTheirConsumers_7.mem) ∧ (t.stitches = w_EntropyAndKeysServeTheirConsumers_7.stitches) ∧ (t.skeins = w_EntropyAndKeysServeTheirConsumers_7.skeins))) = true := by decide +kernel

theorem test_EntropyAndKeysServeTheirConsumers_8 :
    (unitA.get SEC_STATUS_drbg ≠ 1) ∧
    after (exec (.drbgReseed) unitA) (fun t => decide ((t = unitA))) = true := by decide +kernel

def w_EntropyAndKeysServeTheirConsumers_9 : State :=
    (unitA.updMbx 12 (fun m => { m with keyGen := some 3, wrap1 := some 40 })).setB NV_STATUS_nv0_lost true

theorem test_EntropyAndKeysServeTheirConsumers_9 :
    (Runs w_EntropyAndKeysServeTheirConsumers_9) ∧
    (MayRaise w_EntropyAndKeysServeTheirConsumers_9 .secKey 0) ∧
    ((w_EntropyAndKeysServeTheirConsumers_9.mbx ((12 : Mb))).keyGen.isSome = true) ∧
    (w_EntropyAndKeysServeTheirConsumers_9.wrapped ((12 : Mb)) = some 40) ∧
    after (exec (.keyParityError ((12 : Mb))) w_EntropyAndKeysServeTheirConsumers_9) (fun t => decide ((t.get SEC_STATUS_key_seen = 1) ∧ (t.raised .secKey 0 = true) ∧ ((t.mbx ((12 : Mb))).key = some 40) ∧ ((t.mbx ((12 : Mb))).keyGen = (w_EntropyAndKeysServeTheirConsumers_9.mbx ((12 : Mb))).keyGen) ∧ (t.trust.keyBad = w_EntropyAndKeysServeTheirConsumers_9.trust.keyBad) ∧ (t.stitches = w_EntropyAndKeysServeTheirConsumers_9.stitches) ∧ (t.skeins = w_EntropyAndKeysServeTheirConsumers_9.skeins))) = true := by decide +kernel

def w_EntropyAndKeysServeTheirConsumers_10 : State :=
    (((unitA.updMbx 12 (fun m => { m with keyGen := some 3, keyCount := 3 })).setB NV_STATUS_nv0_lost true).setB NV_STATUS_nv1_lost true).setF SEC_STATUS_drbg 1

theorem test_EntropyAndKeysServeTheirConsumers_10 :
    (Runs w_EntropyAndKeysServeTheirConsumers_10) ∧
    (MayRaise w_EntropyAndKeysServeTheirConsumers_10 .secKey 0) ∧
    ((w_EntropyAndKeysServeTheirConsumers_10.mbx ((12 : Mb))).keyGen.isSome = true) ∧
    (w_EntropyAndKeysServeTheirConsumers_10.wrapped ((12 : Mb)) = none) ∧
    (w_EntropyAndKeysServeTheirConsumers_10.get SEC_STATUS_drbg = 1) ∧
    (w_EntropyAndKeysServeTheirConsumers_10.trust.keyBad = []) ∧
    after (exec (.keyParityError ((12 : Mb))) w_EntropyAndKeysServeTheirConsumers_10) (fun t => decide ((t.get SEC_STATUS_key_seen = 1) ∧ (t.raised .secKey 0 = true) ∧ ((t.mbx ((12 : Mb))).keyGen = some (((w_EntropyAndKeysServeTheirConsumers_10.mbx ((12 : Mb))).keyCount + 1) % 65536) ∧ (t.mbx ((12 : Mb))).key = some w_EntropyAndKeysServeTheirConsumers_10.trust.drbgN) ∧ (t.trust.keyBad = []) ∧ (t.stitches = w_EntropyAndKeysServeTheirConsumers_10.stitches) ∧ (t.skeins = w_EntropyAndKeysServeTheirConsumers_10.skeins))) = true := by decide +kernel

def w_EntropyAndKeysServeTheirConsumers_11 : State :=
    ((withCmd (unitA) 256 9 0xf10 [3])).setF SEC_STATUS_drbg 1

theorem test_EntropyAndKeysServeTheirConsumers_11 :
    (Ready w_EntropyAndKeysServeTheirConsumers_11 ((256 : Mb)) ((9 : Fin 64)) 0xF10) ∧
    (u8 (payloadOf w_EntropyAndKeysServeTheirConsumers_11 ((256 : Mb)) ((9 : Fin 64))) 0 = 3 ∧ 1 ≤ 3 ∧ 3 ≤ 32) ∧
    (w_EntropyAndKeysServeTheirConsumers_11.get SEC_STATUS_drbg = 1) ∧
    after (exec (.secRandom ((256 : Mb)) ((9 : Fin 64))) w_EntropyAndKeysServeTheirConsumers_11) (fun t => decide ((t.trust.drbgN = w_EntropyAndKeysServeTheirConsumers_11.trust.drbgN + 3 ∧ t.trust.requests = w_EntropyAndKeysServeTheirConsumers_11.trust.requests + 1) ∧ (t.stitches = w_EntropyAndKeysServeTheirConsumers_11.stitches) ∧ (t.skeins = w_EntropyAndKeysServeTheirConsumers_11.skeins))) = true := by decide +kernel

def w_EntropyAndKeysServeTheirConsumers_12 : State :=
    ((withCmd (unitA) 256 9 0xf10 [32])).setF SEC_STATUS_drbg 2

theorem test_EntropyAndKeysServeTheirConsumers_12 :
    (Ready w_EntropyAndKeysServeTheirConsumers_12 ((256 : Mb)) ((9 : Fin 64)) 0xF10) ∧
    (u8 (payloadOf w_EntropyAndKeysServeTheirConsumers_12 ((256 : Mb)) ((9 : Fin 64))) 0 = 32 ∧ 1 ≤ 32 ∧ 32 ≤ 32) ∧
    (w_EntropyAndKeysServeTheirConsumers_12.get SEC_STATUS_drbg = 2) ∧
    (w_EntropyAndKeysServeTheirConsumers_12.trust.queue.length < 512) ∧
    after (exec (.secRandom ((256 : Mb)) ((9 : Fin 64))) w_EntropyAndKeysServeTheirConsumers_12) (fun t => decide (((t.slotC (slotKey ((256 : Mb)) ((9 : Fin 64)))).phase = .started) ∧ (t.trust.queue = w_EntropyAndKeysServeTheirConsumers_12.trust.queue ++ [.random ((256 : Mb)) ((9 : Fin 64)) 32]) ∧ (t.get SEC_STATUS_queue = w_EntropyAndKeysServeTheirConsumers_12.trust.queue.length + 1) ∧ (t.mem = w_EntropyAndKeysServeTheirConsumers_12.mem) ∧ (t.stitches = w_EntropyAndKeysServeTheirConsumers_12.stitches) ∧ (t.skeins = w_EntropyAndKeysServeTheirConsumers_12.skeins))) = true := by decide +kernel

def w_EntropyAndKeysServeTheirConsumers_13 : State :=
    ((withCmd (unitA) 256 9 0xf10 [1])).setF SEC_STATUS_drbg 3

theorem test_EntropyAndKeysServeTheirConsumers_13 :
    (Ready w_EntropyAndKeysServeTheirConsumers_13 ((256 : Mb)) ((9 : Fin 64)) 0xF10) ∧
    (w_EntropyAndKeysServeTheirConsumers_13.swTouched = []) ∧
    (u8 (payloadOf w_EntropyAndKeysServeTheirConsumers_13 ((256 : Mb)) ((9 : Fin 64))) 0 = 1 ∧ 1 ≤ 1 ∧ 1 ≤ 32) ∧
    (w_EntropyAndKeysServeTheirConsumers_13.get SEC_STATUS_drbg = 3) ∧
    (w_EntropyAndKeysServeTheirConsumers_13.trust.instAt = none) ∧
    (Tail w_EntropyAndKeysServeTheirConsumers_13 ((256 : Mb)) ((9 : Fin 64))) ∧
    after (exec (.secRandom ((256 : Mb)) ((9 : Fin 64))) w_EntropyAndKeysServeTheirConsumers_13) (fun t => decide ((Done t ((256 : Mb)) ((9 : Fin 64)) (cmdOf w_EntropyAndKeysServeTheirConsumers_13 ((256 : Mb)) ((9 : Fin 64))) 8 0 0) ∧ (Counted w_EntropyAndKeysServeTheirConsumers_13 t SEC_CNT_ENTROPY_v) ∧ (t.trust.drbgN = w_EntropyAndKeysServeTheirConsumers_13.trust.drbgN) ∧ (t.stitches = w_EntropyAndKeysServeTheirConsumers_13.stitches) ∧ (t.skeins = w_EntropyAndKeysServeTheirConsumers_13.skeins))) = true := by decide +kernel

def w_EntropyAndKeysServeTheirConsumers_14 : State :=
    ((withCmd (unitA) 256 9 0xf11 [])).setF SEC_STATUS_drbg 3

theorem test_EntropyAndKeysServeTheirConsumers_14 :
    (Ready w_EntropyAndKeysServeTheirConsumers_14 ((256 : Mb)) ((9 : Fin 64)) 0xF11) ∧
    after (exec (.secQuery ((256 : Mb)) ((9 : Fin 64))) w_EntropyAndKeysServeTheirConsumers_14) (fun t => decide ((Done t ((256 : Mb)) ((9 : Fin 64)) (cmdOf w_EntropyAndKeysServeTheirConsumers_14 ((256 : Mb)) ((9 : Fin 64))) 0 0 (w_EntropyAndKeysServeTheirConsumers_14.word aSEC_STATUS).toNat) ∧ (t.trust = w_EntropyAndKeysServeTheirConsumers_14.trust) ∧ (t.stitches = w_EntropyAndKeysServeTheirConsumers_14.stitches) ∧ (t.skeins = w_EntropyAndKeysServeTheirConsumers_14.skeins))) = true := by decide +kernel

theorem test_ImagesAreCheckedTriedAndConfirmed_1 :
    (Runs ((State.reset.setUnit 1))) ∧
    (((State.reset.setUnit 1)).unit = 1) ∧
    (((State.reset.setUnit 1)).get RST_STATUS_phase = 0) ∧
    (((State.reset.setUnit 1)).trust.bootRetryAt = none) ∧
    (NoRung ((State.reset.setUnit 1))) ∧
    (((State.reset.setUnit 1)).faults.insts = []) ∧
    (((State.reset.setUnit 1)).rst.bootCause = 0 ∧ ((State.reset.setUnit 1)).trust.fellBack = false) ∧
    ((((State.reset.setUnit 1)).trust.trialSlot.getD ((State.reset.setUnit 1)).trust.selector) ≤ 1) ∧
    after (exec (.secureBoot) ((State.reset.setUnit 1))) (fun t => decide ((((((State.reset.setUnit 1)).imgFails (((State.reset.setUnit 1)).trust.trialSlot.getD ((State.reset.setUnit 1)).trust.selector) = none → t.trust.image = (((State.reset.setUnit 1)).trust.trialSlot.getD ((State.reset.setUnit 1)).trust.selector) ∧ t.get RST_STATUS_phase = 1 ∧ t.trust.bootRetryAt = none) ∧ ((((State.reset.setUnit 1)).imgFails (((State.reset.setUnit 1)).trust.trialSlot.getD ((State.reset.setUnit 1)).trust.selector)).isSome = true ∧ ((State.reset.setUnit 1)).imgFails (1 - (((State.reset.setUnit 1)).trust.trialSlot.getD ((State.reset.setUnit 1)).trust.selector)) = none → t.trust.image = 1 - (((State.reset.setUnit 1)).trust.trialSlot.getD ((State.reset.setUnit 1)).trust.selector) ∧ t.get RST_STATUS_phase = 1) ∧ ((((State.reset.setUnit 1)).imgFails 0).isSome = true ∧ (((State.reset.setUnit 1)).imgFails 1).isSome = true → t.get FW_STATUS_boot_fail_a = 1 ∧ t.get FW_STATUS_boot_fail_b = 1 ∧ t.get FLT_STATUS_fault_n = 1 ∧ t.trust.bootRetryAt = some (((State.reset.setUnit 1)).ct + sec 10) ∧ t.get RST_STATUS_phase = ((State.reset.setUnit 1)).get RST_STATUS_phase))) ∧ (t.unit = 1) ∧ (t.flash0 = ((State.reset.setUnit 1)).flash0 ∧ t.flash1 = ((State.reset.setUnit 1)).flash1))) = true := by decide +kernel

def w_ImagesAreCheckedTriedAndConfirmed_2 : State :=
    ((State.reset.setUnit 1).updTrust (fun t => { t with bootRetryAt := some 0 }))

theorem test_ImagesAreCheckedTriedAndConfirmed_2 :
    (Runs w_ImagesAreCheckedTriedAndConfirmed_2) ∧
    (w_ImagesAreCheckedTriedAndConfirmed_2.unit = 1) ∧
    (w_ImagesAreCheckedTriedAndConfirmed_2.trust.bootRetryAt = some 0) ∧
    (0 ≤ w_ImagesAreCheckedTriedAndConfirmed_2.ct) ∧
    (NoRung w_ImagesAreCheckedTriedAndConfirmed_2) ∧
    (w_ImagesAreCheckedTriedAndConfirmed_2.faults.insts = []) ∧
    (w_ImagesAreCheckedTriedAndConfirmed_2.rst.bootCause = 0 ∧ w_ImagesAreCheckedTriedAndConfirmed_2.trust.fellBack = false) ∧
    ((w_ImagesAreCheckedTriedAndConfirmed_2.trust.trialSlot.getD w_ImagesAreCheckedTriedAndConfirmed_2.trust.selector) ≤ 1) ∧
    after (exec (.bootRetry) w_ImagesAreCheckedTriedAndConfirmed_2) (fun t => decide ((((w_ImagesAreCheckedTriedAndConfirmed_2.imgFails (w_ImagesAreCheckedTriedAndConfirmed_2.trust.trialSlot.getD w_ImagesAreCheckedTriedAndConfirmed_2.trust.selector) = none → t.trust.image = (w_ImagesAreCheckedTriedAndConfirmed_2.trust.trialSlot.getD w_ImagesAreCheckedTriedAndConfirmed_2.trust.selector) ∧ t.get RST_STATUS_phase = 1 ∧ t.trust.bootRetryAt = none) ∧ ((w_ImagesAreCheckedTriedAndConfirmed_2.imgFails (w_ImagesAreCheckedTriedAndConfirmed_2.trust.trialSlot.getD w_ImagesAreCheckedTriedAndConfirmed_2.trust.selector)).isSome = true ∧ w_ImagesAreCheckedTriedAndConfirmed_2.imgFails (1 - (w_ImagesAreCheckedTriedAndConfirmed_2.trust.trialSlot.getD w_ImagesAreCheckedTriedAndConfirmed_2.trust.selector)) = none → t.trust.image = 1 - (w_ImagesAreCheckedTriedAndConfirmed_2.trust.trialSlot.getD w_ImagesAreCheckedTriedAndConfirmed_2.trust.selector) ∧ t.get RST_STATUS_phase = 1) ∧ ((w_ImagesAreCheckedTriedAndConfirmed_2.imgFails 0).isSome = true ∧ (w_ImagesAreCheckedTriedAndConfirmed_2.imgFails 1).isSome = true → t.get FW_STATUS_boot_fail_a = 1 ∧ t.get FW_STATUS_boot_fail_b = 1 ∧ t.get FLT_STATUS_fault_n = 1 ∧ t.trust.bootRetryAt = some (w_ImagesAreCheckedTriedAndConfirmed_2.ct + sec 10) ∧ t.get RST_STATUS_phase = w_ImagesAreCheckedTriedAndConfirmed_2.get RST_STATUS_phase))) ∧ (t.unit = 1) ∧ (t.flash0 = w_ImagesAreCheckedTriedAndConfirmed_2.flash0 ∧ t.flash1 = w_ImagesAreCheckedTriedAndConfirmed_2.flash1))) = true := by decide +kernel

theorem test_ImagesAreCheckedTriedAndConfirmed_3 :
    (unitA.trust.bootRetryAt = none) ∧
    after (exec (.bootRetry) unitA) (fun t => decide ((t = unitA))) = true := by decide +kernel

def w_ImagesAreCheckedTriedAndConfirmed_4 : State :=
    (withCmd ((unitA.updTrust (fun t => { t with trialSlot := some 0, trialAt := some 0 }))) 256 9 0xf01 [])

theorem test_ImagesAreCheckedTriedAndConfirmed_4 :
    (Ready w_ImagesAreCheckedTriedAndConfirmed_4 ((256 : Mb)) ((9 : Fin 64)) 0xF01) ∧
    after (exec (.fwQuery ((256 : Mb)) ((9 : Fin 64))) w_ImagesAreCheckedTriedAndConfirmed_4) (fun t => decide ((Done t ((256 : Mb)) ((9 : Fin 64)) (cmdOf w_ImagesAreCheckedTriedAndConfirmed_4 ((256 : Mb)) ((9 : Fin 64))) 0 (w_ImagesAreCheckedTriedAndConfirmed_4.fwStatus.bits 15 0) ((w_ImagesAreCheckedTriedAndConfirmed_4.word aFW_VER_RUN).toNat + 2 ^ 32 * (w_ImagesAreCheckedTriedAndConfirmed_4.word aFW_VER_OTHER).toNat)) ∧ (t.trust = w_ImagesAreCheckedTriedAndConfirmed_4.trust) ∧ (t.stitches = w_ImagesAreCheckedTriedAndConfirmed_4.stitches) ∧ (t.skeins = w_ImagesAreCheckedTriedAndConfirmed_4.skeins))) = true := by decide +kernel

def w_ImagesAreCheckedTriedAndConfirmed_5 : State :=
    (withCmd (unitA) 256 9 0xf02 [0, 0, 0, 0, 2, 0, 0, 0, 0, 0, 0, 0, 0, 0, 0, 0, 7, 8])

theorem test_ImagesAreCheckedTriedAndConfirmed_5 :
    (Ready w_ImagesAreCheckedTriedAndConfirmed_5 ((256 : Mb)) ((9 : Fin 64)) 0xF02) ∧
    (u32 (payloadOf w_ImagesAreCheckedTriedAndConfirmed_5 ((256 : Mb)) ((9 : Fin 64))) 0 = 0 ∧ u16 (payloadOf w_ImagesAreCheckedTriedAndConfirmed_5 ((256 : Mb)) ((9 : Fin 64))) 4 = 2 ∧ 1 ≤ 2 ∧ 2 ≤ 224) ∧
    (w_ImagesAreCheckedTriedAndConfirmed_5.trust.planAt = none ∧ w_ImagesAreCheckedTriedAndConfirmed_5.onTrial = false) ∧
    (w_ImagesAreCheckedTriedAndConfirmed_5.trust.image ≤ 1) ∧
    after (exec (.fwWrite ((256 : Mb)) ((9 : Fin 64))) w_ImagesAreCheckedTriedAndConfirmed_5) (fun t => decide ((Done t ((256 : Mb)) ((9 : Fin 64)) (cmdOf w_ImagesAreCheckedTriedAndConfirmed_5 ((256 : Mb)) ((9 : Fin 64))) 0 0 0) ∧ (t.flashRead (1 - w_ImagesAreCheckedTriedAndConfirmed_5.trust.image) 0 2 = ((payloadOf w_ImagesAreCheckedTriedAndConfirmed_5 ((256 : Mb)) ((9 : Fin 64))).drop 16).take 2) ∧ (t.slotState (1 - w_ImagesAreCheckedTriedAndConfirmed_5.trust.image) = 1) ∧ (t.flash w_ImagesAreCheckedTriedAndConfirmed_5.trust.image = w_ImagesAreCheckedTriedAndConfirmed_5.flash w_ImagesAreCheckedTriedAndConfirmed_5.trust.image) ∧ (t.stitches = w_ImagesAreCheckedTriedAndConfirmed_5.stitches) ∧ (t.skeins = w_ImagesAreCheckedTriedAndConfirmed_5.skeins))) = true := by decide +kernel

def w_ImagesAreCheckedTriedAndConfirmed_6 : State :=
    (withCmd (unitA) 256 9 0xf02 [16, 0, 0, 0, 2, 0, 0, 0, 0, 0, 0, 0, 0, 0, 0, 0, 7, 8])

theorem test_ImagesAreCheckedTriedAndConfirmed_6 :
    (Ready w_ImagesAreCheckedTriedAndConfirmed_6 ((256 : Mb)) ((9 : Fin 64)) 0xF02) ∧
    (16 ≤ u32 (payloadOf w_ImagesAreCheckedTriedAndConfirmed_6 ((256 : Mb)) ((9 : Fin 64))) 0 ∧ u32 (payloadOf w_ImagesAreCheckedTriedAndConfirmed_6 ((256 : Mb)) ((9 : Fin 64))) 0 % 16 = 0 ∧ u16 (payloadOf w_ImagesAreCheckedTriedAndConfirmed_6 ((256 : Mb)) ((9 : Fin 64))) 4 = 2 ∧ 1 ≤ 2 ∧ 2 ≤ 224 ∧ u32 (payloadOf w_ImagesAreCheckedTriedAndConfirmed_6 ((256 : Mb)) ((9 : Fin 64))) 0 + 2 ≤ slotBytes) ∧
    (w_ImagesAreCheckedTriedAndConfirmed_6.trust.planAt = none ∧ w_ImagesAreCheckedTriedAndConfirmed_6.onTrial = false) ∧
    (w_ImagesAreCheckedTriedAndConfirmed_6.trust.image ≤ 1) ∧
    after (exec (.fwWrite ((256 : Mb)) ((9 : Fin 64))) w_ImagesAreCheckedTriedAndConfirmed_6) (fun t => decide ((Done t ((256 : Mb)) ((9 : Fin 64)) (cmdOf w_ImagesAreCheckedTriedAndConfirmed_6 ((256 : Mb)) ((9 : Fin 64))) 0 0 0) ∧ (t.flashRead (1 - w_ImagesAreCheckedTriedAndConfirmed_6.trust.image) (u32 (payloadOf w_ImagesAreCheckedTriedAndConfirmed_6 ((256 : Mb)) ((9 : Fin 64))) 0) 2 = ((payloadOf w_ImagesAreCheckedTriedAndConfirmed_6 ((256 : Mb)) ((9 : Fin 64))).drop 16).take 2) ∧ (t.slotState (1 - w_ImagesAreCheckedTriedAndConfirmed_6.trust.image) = w_ImagesAreCheckedTriedAndConfirmed_6.slotState (1 - w_ImagesAreCheckedTriedAndConfirmed_6.trust.image)) ∧ (t.flash w_ImagesAreCheckedTriedAndConfirmed_6.trust.image = w_ImagesAreCheckedTriedAndConfirmed_6.flash w_ImagesAreCheckedTriedAndConfirmed_6.trust.image) ∧ (t.stitches = w_ImagesAreCheckedTriedAndConfirmed_6.stitches) ∧ (t.skeins = w_ImagesAreCheckedTriedAndConfirmed_6.skeins))) = true := by decide +kernel

def w_ImagesAreCheckedTriedAndConfirmed_7 : State :=
    (withCmd (unitA) 256 9 0xf02 [0, 0, 0, 2, 1])

theorem test_ImagesAreCheckedTriedAndConfirmed_7 :
    (Ready w_ImagesAreCheckedTriedAndConfirmed_7 ((256 : Mb)) ((9 : Fin 64)) 0xF02) ∧
    (slotBytes < u32 (payloadOf w_ImagesAreCheckedTriedAndConfirmed_7 ((256 : Mb)) ((9 : Fin 64))) 0 + u16 (payloadOf w_ImagesAreCheckedTriedAndConfirmed_7 ((256 : Mb)) ((9 : Fin 64))) 4) ∧
    (Tail w_ImagesAreCheckedTriedAndConfirmed_7 ((256 : Mb)) ((9 : Fin 64))) ∧
    after (exec (.fwWrite ((256 : Mb)) ((9 : Fin 64))) w_ImagesAreCheckedTriedAndConfirmed_7) (fun t => decide ((Done t ((256 : Mb)) ((9 : Fin 64)) (cmdOf w_ImagesAreCheckedTriedAndConfirmed_7 ((256 : Mb)) ((9 : Fin 64))) 4 0 0) ∧ (t.flash0 = w_ImagesAreCheckedTriedAndConfirmed_7.flash0 ∧ t.flash1 = w_ImagesAreCheckedTriedAndConfirmed_7.flash1) ∧ (t.trust = w_ImagesAreCheckedTriedAndConfirmed_7.trust) ∧ (t.stitches = w_ImagesAreCheckedTriedAndConfirmed_7.stitches) ∧ (t.skeins = w_ImagesAreCheckedTriedAndConfirmed_7.skeins))) = true := by decide +kernel

theorem test_ImagesAreCheckedTriedAndConfirmed_8 :
    (Ready ((withCmd (unitA) 256 9 0xf03 [])) ((256 : Mb)) ((9 : Fin 64)) 0xF03) ∧
    (Tail ((withCmd (unitA) 256 9 0xf03 [])) ((256 : Mb)) ((9 : Fin 64))) ∧
    (((withCmd (unitA) 256 9 0xf03 [])).trust.planAt = none ∧ ((withCmd (unitA) 256 9 0xf03 [])).onTrial = false) ∧
    after (exec (.fwVerify ((256 : Mb)) ((9 : Fin 64))) ((withCmd (unitA) 256 9 0xf03 []))) (fun t => decide ((((withCmd (unitA) 256 9 0xf03 [])).imgFails (1 - ((withCmd (unitA) 256 9 0xf03 [])).trust.image) = none → Done t ((256 : Mb)) ((9 : Fin 64)) (cmdOf ((withCmd (unitA) 256 9 0xf03 [])) ((256 : Mb)) ((9 : Fin 64))) 0 0 0 ∧ (((withCmd (unitA) 256 9 0xf03 [])).slotState (1 - ((withCmd (unitA) 256 9 0xf03 [])).trust.image) = 1 → t.slotState (1 - ((withCmd (unitA) 256 9 0xf03 [])).trust.image) = 2)) ∧ ((((withCmd (unitA) 256 9 0xf03 [])).imgFails (1 - ((withCmd (unitA) 256 9 0xf03 [])).trust.image)).isSome = true → Done t ((256 : Mb)) ((9 : Fin 64)) (cmdOf ((withCmd (unitA) 256 9 0xf03 [])) ((256 : Mb)) ((9 : Fin 64))) 9 ((((withCmd (unitA) 256 9 0xf03 [])).imgFails (1 - ((withCmd (unitA) 256 9 0xf03 [])).trust.image)).getD 0) 0 ∧ t.slotState (1 - ((withCmd (unitA) 256 9 0xf03 [])).trust.image) = ((withCmd (unitA) 256 9 0xf03 [])).slotState (1 - ((withCmd (unitA) 256 9 0xf03 [])).trust.image)) ∧ (t.flash0 = ((withCmd (unitA) 256 9 0xf03 [])).flash0 ∧ t.flash1 = ((withCmd (unitA) 256 9 0xf03 [])).flash1) ∧ (t.stitches = ((withCmd (unitA) 256 9 0xf03 [])).stitches) ∧ (t.skeins = ((withCmd (unitA) 256 9 0xf03 [])).skeins))) = true := by decide +kernel

def w_ImagesAreCheckedTriedAndConfirmed_9 : State :=
    (withCmd (unitA) 256 9 0xf04 [0, 0, 0, 0, 0, 0, 0, 0, 1])

theorem test_ImagesAreCheckedTriedAndConfirmed_9 :
    (Ready w_ImagesAreCheckedTriedAndConfirmed_9 ((256 : Mb)) ((9 : Fin 64)) 0xF04) ∧
    (u64 (payloadOf w_ImagesAreCheckedTriedAndConfirmed_9 ((256 : Mb)) ((9 : Fin 64))) 0 = 0 ∧ u8 (payloadOf w_ImagesAreCheckedTriedAndConfirmed_9 ((256 : Mb)) ((9 : Fin 64))) 8 = 1) ∧
    (w_ImagesAreCheckedTriedAndConfirmed_9.trust.planAt = none ∧ w_ImagesAreCheckedTriedAndConfirmed_9.pair.transitAt = none) ∧
    after (exec (.fwActivate ((256 : Mb)) ((9 : Fin 64))) w_ImagesAreCheckedTriedAndConfirmed_9) (fun t => decide ((Done t ((256 : Mb)) ((9 : Fin 64)) (cmdOf w_ImagesAreCheckedTriedAndConfirmed_9 ((256 : Mb)) ((9 : Fin 64))) 0 0 0) ∧ (t.trust.planAt = some (w_ImagesAreCheckedTriedAndConfirmed_9.ct + sec 1) ∧ t.trust.planScope = 1 ∧ t.trust.planStep = 0) ∧ (t.get FW_STATUS_plan = 1) ∧ (t.stitches = w_ImagesAreCheckedTriedAndConfirmed_9.stitches) ∧ (t.skeins = w_ImagesAreCheckedTriedAndConfirmed_9.skeins))) = true := by decide +kernel

theorem test_ImagesAreCheckedTriedAndConfirmed_10 :
    (Ready ((withCmd (unitA) 256 9 0xf04 [1])) ((256 : Mb)) ((9 : Fin 64)) 0xF04) ∧
    (u64 (payloadOf ((withCmd (unitA) 256 9 0xf04 [1])) ((256 : Mb)) ((9 : Fin 64))) 0 ≠ 0 ∧ u64 (payloadOf ((withCmd (unitA) 256 9 0xf04 [1])) ((256 : Mb)) ((9 : Fin 64))) 0 < ((withCmd (unitA) 256 9 0xf04 [1])).ct + sec 1) ∧
    (Tail ((withCmd (unitA) 256 9 0xf04 [1])) ((256 : Mb)) ((9 : Fin 64))) ∧
    after (exec (.fwActivate ((256 : Mb)) ((9 : Fin 64))) ((withCmd (unitA) 256 9 0xf04 [1]))) (fun t => decide ((Done t ((256 : Mb)) ((9 : Fin 64)) (cmdOf ((withCmd (unitA) 256 9 0xf04 [1])) ((256 : Mb)) ((9 : Fin 64))) 4 0 0) ∧ (t.trust = ((withCmd (unitA) 256 9 0xf04 [1])).trust) ∧ (t.stitches = ((withCmd (unitA) 256 9 0xf04 [1])).stitches) ∧ (t.skeins = ((withCmd (unitA) 256 9 0xf04 [1])).skeins))) = true := by decide +kernel

def w_ImagesAreCheckedTriedAndConfirmed_11 : State :=
    (unitA.updTrust (fun t => { t with planAt := some 0, planScope := 1 }))

theorem test_ImagesAreCheckedTriedAndConfirmed_11 :
    (w_ImagesAreCheckedTriedAndConfirmed_11.trust.planAt = some 0) ∧
    (0 ≤ w_ImagesAreCheckedTriedAndConfirmed_11.ct) ∧
    (w_ImagesAreCheckedTriedAndConfirmed_11.trust.planStep = 0) ∧
    (w_ImagesAreCheckedTriedAndConfirmed_11.pair.transitAt = none) ∧
    (w_ImagesAreCheckedTriedAndConfirmed_11.trust.planScope = 1 ∨ w_ImagesAreCheckedTriedAndConfirmed_11.pair.partner = false) ∧
    after (exec (.fwPlanStart) w_ImagesAreCheckedTriedAndConfirmed_11) (fun t => decide ((t.rst.held = true) ∧ (t.get RST_STATUS_kind = 2 ∧ t.get RST_STATUS_cause = 5) ∧ (t.trust.trialSlot = some (1 - w_ImagesAreCheckedTriedAndConfirmed_11.trust.image) ∧ t.trust.trialAt = some w_ImagesAreCheckedTriedAndConfirmed_11.ct) ∧ (t.trust.planAt = none) ∧ (t.flash0 = w_ImagesAreCheckedTriedAndConfirmed_11.flash0 ∧ t.flash1 = w_ImagesAreCheckedTriedAndConfirmed_11.flash1))) = true := by decide +kernel

def w_ImagesAreCheckedTriedAndConfirmed_12 : State :=
    ((unitA.updPair (fun x => { x with partner := true })).updTrust (fun t => { t with planAt := some 0 }))

theorem test_ImagesAreCheckedTriedAndConfirmed_12 :
    (w_ImagesAreCheckedTriedAndConfirmed_12.trust.planAt = some 0) ∧
    (0 ≤ w_ImagesAreCheckedTriedAndConfirmed_12.ct) ∧
    (w_ImagesAreCheckedTriedAndConfirmed_12.trust.planStep = 0) ∧
    (w_ImagesAreCheckedTriedAndConfirmed_12.pair.transitAt = none) ∧
    (w_ImagesAreCheckedTriedAndConfirmed_12.trust.planScope = 0 ∧ w_ImagesAreCheckedTriedAndConfirmed_12.pair.partner = true ∧ w_ImagesAreCheckedTriedAndConfirmed_12.active = true) ∧
    after (exec (.fwPlanStart) w_ImagesAreCheckedTriedAndConfirmed_12) (fun t => decide ((t.trust.planStep = 1 ∧ t.trust.planAt = some w_ImagesAreCheckedTriedAndConfirmed_12.ct) ∧ (t.pair = w_ImagesAreCheckedTriedAndConfirmed_12.pair) ∧ (t.stitches = w_ImagesAreCheckedTriedAndConfirmed_12.stitches) ∧ (t.skeins = w_ImagesAreCheckedTriedAndConfirmed_12.skeins))) = true := by decide +kernel

def w_ImagesAreCheckedTriedAndConfirmed_13 : State :=
    (unitA.updTrust (fun t => { t with planAt := some 9 }))

theorem test_ImagesAreCheckedTriedAndConfirmed_13 :
    (w_ImagesAreCheckedTriedAndConfirmed_13.trust.planAt = some 9) ∧
    (w_ImagesAreCheckedTriedAndConfirmed_13.ct < 9) ∧
    (w_ImagesAreCheckedTriedAndConfirmed_13.trust.planStep = 0) ∧
    after (exec (.fwPlanStart) w_ImagesAreCheckedTriedAndConfirmed_13) (fun t => decide ((t = w_ImagesAreCheckedTriedAndConfirmed_13))) = true := by decide +kernel

def w_ImagesAreCheckedTriedAndConfirmed_14 : State :=
    { (unitA.updTrust (fun t => { t with trialSlot := some 0, trialAt := some 1000000000000, heldSince := some 1100000000000 })) with ct := 1600000000000 }

theorem test_ImagesAreCheckedTriedAndConfirmed_14 :
    (w_ImagesAreCheckedTriedAndConfirmed_14.swTouched = []) ∧
    (w_ImagesAreCheckedTriedAndConfirmed_14.mayConfirm = true) ∧
    after (exec (.fwConfirm) w_ImagesAreCheckedTriedAndConfirmed_14) (fun t => decide ((t.trust.selector = w_ImagesAreCheckedTriedAndConfirmed_14.trust.image ∧ t.trust.trialSlot = none ∧ t.trust.trialAt = none) ∧ (t.trust.fusedSec = Nat.max w_ImagesAreCheckedTriedAndConfirmed_14.trust.fusedSec (u8 (w_ImagesAreCheckedTriedAndConfirmed_14.imgHeader w_ImagesAreCheckedTriedAndConfirmed_14.trust.image) 8 % 64)) ∧ (t.get FW_STATUS_trial = 0 ∧ t.get FW_STATUS_confirm_seen = 1) ∧ (t.stitches = w_ImagesAreCheckedTriedAndConfirmed_14.stitches) ∧ (t.skeins = w_ImagesAreCheckedTriedAndConfirmed_14.skeins))) = true := by decide +kernel

def w_ImagesAreCheckedTriedAndConfirmed_15 : State :=
    (unitA.updTrust (fun t => { t with trialSlot := some 0, trialAt := some 0, heldSince := some 0 }))

theorem test_ImagesAreCheckedTriedAndConfirmed_15 :
    (w_ImagesAreCheckedTriedAndConfirmed_15.mayConfirm = false) ∧
    after (exec (.fwConfirm) w_ImagesAreCheckedTriedAndConfirmed_15) (fun t => decide ((t = w_ImagesAreCheckedTriedAndConfirmed_15))) = true := by decide +kernel

def w_ImagesAreCheckedTriedAndConfirmed_16 : State :=
    { (unitA.updTrust (fun t => { t with trialSlot := some 0, trialAt := some 0 })) with ct := 1600000000000 }

theorem test_ImagesAreCheckedTriedAndConfirmed_16 :
    (w_ImagesAreCheckedTriedAndConfirmed_16.onTrial = true) ∧
    (w_ImagesAreCheckedTriedAndConfirmed_16.trust.trialAt = some 0) ∧
    (0 + sec 900 ≤ w_ImagesAreCheckedTriedAndConfirmed_16.ct) ∧
    (w_ImagesAreCheckedTriedAndConfirmed_16.mayConfirm = false) ∧
    after (exec (.fwTrialTimeout) w_ImagesAreCheckedTriedAndConfirmed_16) (fun t => decide ((t.rst.held = true) ∧ (t.get RST_STATUS_kind = 2 ∧ t.get RST_STATUS_cause = 6) ∧ (t.trust.selector = 1 - w_ImagesAreCheckedTriedAndConfirmed_16.trust.image ∧ t.trust.trialSlot = none ∧ t.trust.fellBack = true) ∧ (t.trust.rejected.contains w_ImagesAreCheckedTriedAndConfirmed_16.trust.image = true) ∧ (t.flash0 = w_ImagesAreCheckedTriedAndConfirmed_16.flash0 ∧ t.flash1 = w_ImagesAreCheckedTriedAndConfirmed_16.flash1))) = true := by decide +kernel

def w_ImagesAreCheckedTriedAndConfirmed_17 : State :=
    (withCmd ((unitA.updTrust (fun t => { t with trialSlot := some 0 }))) 256 9 0xf05 [])

theorem test_ImagesAreCheckedTriedAndConfirmed_17 :
    (Ready w_ImagesAreCheckedTriedAndConfirmed_17 ((256 : Mb)) ((9 : Fin 64)) 0xF05) ∧
    (w_ImagesAreCheckedTriedAndConfirmed_17.onTrial = true) ∧
    after (exec (.fwRevert ((256 : Mb)) ((9 : Fin 64))) w_ImagesAreCheckedTriedAndConfirmed_17) (fun t => decide ((Done t ((256 : Mb)) ((9 : Fin 64)) (cmdOf w_ImagesAreCheckedTriedAndConfirmed_17 ((256 : Mb)) ((9 : Fin 64))) 0 0 0) ∧ (t.trust.selector = 1 - w_ImagesAreCheckedTriedAndConfirmed_17.trust.image ∧ t.trust.trialSlot = none ∧ t.trust.fellBack = true) ∧ (t.rst.restartAt = some (w_ImagesAreCheckedTriedAndConfirmed_17.ct, 6)) ∧ (t.stitches = w_ImagesAreCheckedTriedAndConfirmed_17.stitches) ∧ (t.skeins = w_ImagesAreCheckedTriedAndConfirmed_17.skeins))) = true := by decide +kernel

theorem test_ImagesAreCheckedTriedAndConfirmed_18 :
    (Ready ((withCmd (unitA) 256 9 0xf05 [])) ((256 : Mb)) ((9 : Fin 64)) 0xF05) ∧
    (((withCmd (unitA) 256 9 0xf05 [])).onTrial = false) ∧
    (Tail ((withCmd (unitA) 256 9 0xf05 [])) ((256 : Mb)) ((9 : Fin 64))) ∧
    after (exec (.fwRevert ((256 : Mb)) ((9 : Fin 64))) ((withCmd (unitA) 256 9 0xf05 []))) (fun t => decide ((Done t ((256 : Mb)) ((9 : Fin 64)) (cmdOf ((withCmd (unitA) 256 9 0xf05 [])) ((256 : Mb)) ((9 : Fin 64))) 2 6 0) ∧ (t.trust = ((withCmd (unitA) 256 9 0xf05 [])).trust) ∧ (t.stitches = ((withCmd (unitA) 256 9 0xf05 [])).stitches) ∧ (t.skeins = ((withCmd (unitA) 256 9 0xf05 [])).skeins))) = true := by decide +kernel

theorem test_ImagesAreCheckedTriedAndConfirmed_19 :
    (Ready ((withCmd (unitA) 256 9 0xf06 [2])) ((256 : Mb)) ((9 : Fin 64)) 0xF06) ∧
    (u8 (payloadOf ((withCmd (unitA) 256 9 0xf06 [2])) ((256 : Mb)) ((9 : Fin 64))) 0 = 2) ∧
    (2 = 0 ∨ ((withCmd (unitA) 256 9 0xf06 [2])).trust.ifMin ≤ 2 ∧ 2 ≤ ((withCmd (unitA) 256 9 0xf06 [2])).trust.ifMax ∧ 2 ≤ 3) ∧
    after (exec (.fwPinLevel ((256 : Mb)) ((9 : Fin 64))) ((withCmd (unitA) 256 9 0xf06 [2]))) (fun t => decide ((Done t ((256 : Mb)) ((9 : Fin 64)) (cmdOf ((withCmd (unitA) 256 9 0xf06 [2])) ((256 : Mb)) ((9 : Fin 64))) 0 0 0) ∧ (t.trust.pinNext = 2 ∧ t.trust.pinned = ((withCmd (unitA) 256 9 0xf06 [2])).trust.pinned) ∧ (t.get FW_SLOTS_pin_next = 2) ∧ (t.get ID_IF_if_level = ((withCmd (unitA) 256 9 0xf06 [2])).get ID_IF_if_level) ∧ (t.stitches = ((withCmd (unitA) 256 9 0xf06 [2])).stitches) ∧ (t.skeins = ((withCmd (unitA) 256 9 0xf06 [2])).skeins))) = true := by decide +kernel

def w_ImagesAreCheckedTriedAndConfirmed_20 : State :=
    (withCmd (unitA) 256 9 0xf20 [0, 0, 0, 0, 2, 0, 0, 0, 0, 0, 0, 0, 0, 0, 0, 0, 7, 8])

theorem test_ImagesAreCheckedTriedAndConfirmed_20 :
    (Ready w_ImagesAreCheckedTriedAndConfirmed_20 ((256 : Mb)) ((9 : Fin 64)) 0xF20) ∧
    (u32 (payloadOf w_ImagesAreCheckedTriedAndConfirmed_20 ((256 : Mb)) ((9 : Fin 64))) 0 = 0 ∧ u16 (payloadOf w_ImagesAreCheckedTriedAndConfirmed_20 ((256 : Mb)) ((9 : Fin 64))) 4 = 2 ∧ 1 ≤ 2 ∧ 2 ≤ 224) ∧
    after (exec (.hubFwWrite ((256 : Mb)) ((9 : Fin 64))) w_ImagesAreCheckedTriedAndConfirmed_20) (fun t => decide ((Done t ((256 : Mb)) ((9 : Fin 64)) (cmdOf w_ImagesAreCheckedTriedAndConfirmed_20 ((256 : Mb)) ((9 : Fin 64))) 0 0 0) ∧ (Mem.readBytes Mem.blank t.hubStage 0 2 = ((payloadOf w_ImagesAreCheckedTriedAndConfirmed_20 ((256 : Mb)) ((9 : Fin 64))).drop 16).take 2) ∧ (t.trust.hubLen = 2) ∧ (t.flash0 = w_ImagesAreCheckedTriedAndConfirmed_20.flash0 ∧ t.flash1 = w_ImagesAreCheckedTriedAndConfirmed_20.flash1) ∧ (t.stitches = w_ImagesAreCheckedTriedAndConfirmed_20.stitches) ∧ (t.skeins = w_ImagesAreCheckedTriedAndConfirmed_20.skeins))) = true := by decide +kernel

def w_ImagesAreCheckedTriedAndConfirmed_21 : State :=
    (withCmd (unitA) 256 9 0xf21 [1, 16, 0, 0, 0, 0, 0, 0, 0, 0, 0, 0, 1])

theorem test_ImagesAreCheckedTriedAndConfirmed_21 :
    (Ready w_ImagesAreCheckedTriedAndConfirmed_21 ((256 : Mb)) ((9 : Fin 64)) 0xF21) ∧
    (w_ImagesAreCheckedTriedAndConfirmed_21.ct + sec 1 ≤ u64 (payloadOf w_ImagesAreCheckedTriedAndConfirmed_21 ((256 : Mb)) ((9 : Fin 64))) 8) ∧
    (w_ImagesAreCheckedTriedAndConfirmed_21.trust.hubMask = 0 ∧ w_ImagesAreCheckedTriedAndConfirmed_21.trust.hubLeft = []) ∧
    after (exec (.hubFwActivate ((256 : Mb)) ((9 : Fin 64))) w_ImagesAreCheckedTriedAndConfirmed_21) (fun t => decide ((Done t ((256 : Mb)) ((9 : Fin 64)) (cmdOf w_ImagesAreCheckedTriedAndConfirmed_21 ((256 : Mb)) ((9 : Fin 64))) 0 0 0) ∧ (t.trust.hubMask = BitVec.ofNat 64 (u64 (payloadOf w_ImagesAreCheckedTriedAndConfirmed_21 ((256 : Mb)) ((9 : Fin 64))) 0) ∧ t.trust.hubAt = u64 (payloadOf w_ImagesAreCheckedTriedAndConfirmed_21 ((256 : Mb)) ((9 : Fin 64))) 8) ∧ (t.trust.hubLeft = (List.range 64).filter (fun n => (u64 (payloadOf w_ImagesAreCheckedTriedAndConfirmed_21 ((256 : Mb)) ((9 : Fin 64))) 0).testBit n)) ∧ (t.stitches = w_ImagesAreCheckedTriedAndConfirmed_21.stitches) ∧ (t.skeins = w_ImagesAreCheckedTriedAndConfirmed_21.skeins))) = true := by decide +kernel

def w_ImagesAreCheckedTriedAndConfirmed_22 : State :=
    (withCmd ((unitA.updTrust (fun t => { t with hubMask := 4 }))) 256 9 0xf21 [1, 16, 0, 0, 0, 0, 0, 0, 0, 0, 0, 0, 1])

theorem test_ImagesAreCheckedTriedAndConfirmed_22 :
    (Ready w_ImagesAreCheckedTriedAndConfirmed_22 ((256 : Mb)) ((9 : Fin 64)) 0xF21) ∧
    (w_ImagesAreCheckedTriedAndConfirmed_22.ct + sec 1 ≤ u64 (payloadOf w_ImagesAreCheckedTriedAndConfirmed_22 ((256 : Mb)) ((9 : Fin 64))) 8) ∧
    (w_ImagesAreCheckedTriedAndConfirmed_22.trust.hubMask ≠ 0) ∧
    (Tail w_ImagesAreCheckedTriedAndConfirmed_22 ((256 : Mb)) ((9 : Fin 64))) ∧
    after (exec (.hubFwActivate ((256 : Mb)) ((9 : Fin 64))) w_ImagesAreCheckedTriedAndConfirmed_22) (fun t => decide ((Done t ((256 : Mb)) ((9 : Fin 64)) (cmdOf w_ImagesAreCheckedTriedAndConfirmed_22 ((256 : Mb)) ((9 : Fin 64))) 2 2 0) ∧ (t.trust = w_ImagesAreCheckedTriedAndConfirmed_22.trust) ∧ (t.stitches = w_ImagesAreCheckedTriedAndConfirmed_22.stitches) ∧ (t.skeins = w_ImagesAreCheckedTriedAndConfirmed_22.skeins))) = true := by decide +kernel

def w_ImagesAreCheckedTriedAndConfirmed_23 : State :=
    (unitA.updTrust (fun t => { t with hubLeft := [3, 5] }))

theorem test_ImagesAreCheckedTriedAndConfirmed_23 :
    (w_ImagesAreCheckedTriedAndConfirmed_23.trust.hubLeft.contains ((5 : Fin 64)).val = true) ∧
    ((w_ImagesAreCheckedTriedAndConfirmed_23.port ((5 : Fin 64))).rel.sendsImage = false) ∧
    after (exec (.hubFwDelivered ((5 : Fin 64))) w_ImagesAreCheckedTriedAndConfirmed_23) (fun t => decide ((t.out = (w_ImagesAreCheckedTriedAndConfirmed_23.emit (.event (.port ((5 : Fin 64))) 0x0600 (evAt (w_ImagesAreCheckedTriedAndConfirmed_23.trust.hubAt % 2 ^ 64) 128))).out) ∧ (t.trust.hubLeft = w_ImagesAreCheckedTriedAndConfirmed_23.trust.hubLeft.filter (· ≠ ((5 : Fin 64)).val)) ∧ (t.trust.hubMask = w_ImagesAreCheckedTriedAndConfirmed_23.trust.hubMask) ∧ (t.mem = w_ImagesAreCheckedTriedAndConfirmed_23.mem) ∧ (t.stitches = w_ImagesAreCheckedTriedAndConfirmed_23.stitches) ∧ (t.skeins = w_ImagesAreCheckedTriedAndConfirmed_23.skeins))) = true := by decide +kernel

def w_ImagesAreCheckedTriedAndConfirmed_24 : State :=
    { (unitA.updTrust (fun t => { t with hubMask := 32 })) with ct := 16000000000 }

theorem test_ImagesAreCheckedTriedAndConfirmed_24 :
    (w_ImagesAreCheckedTriedAndConfirmed_24.trust.hubMask.getLsbD ((5 : Fin 64)) = true) ∧
    (w_ImagesAreCheckedTriedAndConfirmed_24.trust.hubAt + sec 10 ≤ w_ImagesAreCheckedTriedAndConfirmed_24.ct) ∧
    ((w_ImagesAreCheckedTriedAndConfirmed_24.get (VI_EV_PROD_index 256) + 256 - w_ImagesAreCheckedTriedAndConfirmed_24.get (VI_EV_CONS_index 256)) % 256 < 128) ∧
    after (exec (.hubFwReportTimeout ((5 : Fin 64))) w_ImagesAreCheckedTriedAndConfirmed_24) (fun t => decide ((t.trust.hubMask.getLsbD ((5 : Fin 64)) = false) ∧ (t.get (VI_EV_PROD_index 256) = (w_ImagesAreCheckedTriedAndConfirmed_24.get (VI_EV_PROD_index 256) + 1) % 256) ∧ (.msix 256 1 ∈ t.out) ∧ (t.stitches = w_ImagesAreCheckedTriedAndConfirmed_24.stitches) ∧ (t.skeins = w_ImagesAreCheckedTriedAndConfirmed_24.skeins))) = true := by decide +kernel

theorem test_ImagesAreCheckedTriedAndConfirmed_25 :
    (unitA.trust.hubMask.getLsbD ((5 : Fin 64)) = false) ∧
    after (exec (.hubFwReportTimeout ((5 : Fin 64))) unitA) (fun t => decide ((t = unitA))) = true := by decide +kernel

theorem test_ResetsAndStartsLeaveWhatIsKept_1 :
    after (exec (.powerOn) ({ unitA with gpio := 5, ct := 77 })) (fun t => decide ((t.ct = 0) ∧ (t.rst.held = true ∧ t.rst.supplyGood = false ∧ t.rst.storedCt = none) ∧ (t.get RST_STATUS_kind = 0 ∧ t.get RST_STATUS_cause = 0 ∧ t.get RST_CNT_restarts = 0) ∧ (t.stitches = [] ∧ t.skeins = [] ∧ t.slots = []) ∧ (t.gpio = 0 ∧ t.gpioDriven = 0) ∧ (t.nv.die0 = ({ unitA with gpio := 5, ct := 77 }).nv.die0 ∧ t.nv.die1 = ({ unitA with gpio := 5, ct := 77 }).nv.die1) ∧ (t.flash0 = ({ unitA with gpio := 5, ct := 77 }).flash0 ∧ t.flash1 = ({ unitA with gpio := 5, ct := 77 }).flash1))) = true := by decide +kernel

def w_ResetsAndStartsLeaveWhatIsKept_2 : State :=
    State.reset.updRst (fun r => { r with held := true, supplyGood := true, sref := 3, storedCt := some 77 })

theorem test_ResetsAndStartsLeaveWhatIsKept_2 :
    (w_ResetsAndStartsLeaveWhatIsKept_2.rst.held = true ∧ w_ResetsAndStartsLeaveWhatIsKept_2.rst.supplyGood = true ∧ w_ResetsAndStartsLeaveWhatIsKept_2.rst.sref ≠ 0) ∧
    (w_ResetsAndStartsLeaveWhatIsKept_2.rst.storedCt = some 77) ∧
    after (exec (.resetExit ((0x8000000003 : BitVec 48))) w_ResetsAndStartsLeaveWhatIsKept_2) (fun t => decide ((t.ct = max (77 + 1) (77 + (divRound (((0x8000000003 : BitVec 48)).toNat * 390625) 8).toNat)) ∧ (t.get CT_STATUS_ct_src = 1) ∧ (t.unit = 1 ∧ t.rst.held = false ∧ t.rst.exitAt = t.ct ∧ t.rst.mbxOpen = false) ∧ (t.get MKUP_SLOW_LO_slow = ((0x8000000003 : BitVec 48)).toNat % 2 ^ 32 ∧ t.get MKUP_SLOW_HI_slow = ((0x8000000003 : BitVec 48)).toNat / 2 ^ 32) ∧ (t.mem = w_ResetsAndStartsLeaveWhatIsKept_2.mem) ∧ (t.nv = w_ResetsAndStartsLeaveWhatIsKept_2.nv) ∧ (t.stitches = w_ResetsAndStartsLeaveWhatIsKept_2.stitches) ∧ (t.skeins = w_ResetsAndStartsLeaveWhatIsKept_2.skeins) ∧ (t.flash0 = w_ResetsAndStartsLeaveWhatIsKept_2.flash0 ∧ t.flash1 = w_ResetsAndStartsLeaveWhatIsKept_2.flash1))) = true := by decide +kernel

def w_ResetsAndStartsLeaveWhatIsKept_3 : State :=
    State.reset.updRst (fun r => { r with held := true, supplyGood := true, sref := 3 })

theorem test_ResetsAndStartsLeaveWhatIsKept_3 :
    (w_ResetsAndStartsLeaveWhatIsKept_3.rst.held = true ∧ w_ResetsAndStartsLeaveWhatIsKept_3.rst.supplyGood = true ∧ w_ResetsAndStartsLeaveWhatIsKept_3.rst.sref ≠ 0) ∧
    (w_ResetsAndStartsLeaveWhatIsKept_3.rst.storedCt = none) ∧
    after (exec (.resetExit ((3 : BitVec 48))) w_ResetsAndStartsLeaveWhatIsKept_3) (fun t => decide ((t.ct = 0) ∧ (t.get CT_STATUS_ct_src = 2) ∧ (t.unit = 1 ∧ t.rst.held = false ∧ t.rst.exitAt = 0 ∧ t.rst.retiredAll = some 0) ∧ (t.mem = w_ResetsAndStartsLeaveWhatIsKept_3.mem) ∧ (t.nv = w_ResetsAndStartsLeaveWhatIsKept_3.nv) ∧ (t.stitches = w_ResetsAndStartsLeaveWhatIsKept_3.stitches) ∧ (t.skeins = w_ResetsAndStartsLeaveWhatIsKept_3.skeins) ∧ (t.flash0 = w_ResetsAndStartsLeaveWhatIsKept_3.flash0 ∧ t.flash1 = w_ResetsAndStartsLeaveWhatIsKept_3.flash1))) = true := by decide +kernel

theorem test_ResetsAndStartsLeaveWhatIsKept_4 :
    (State.reset.rst.held = false ∨ State.reset.rst.supplyGood = false ∨ State.reset.rst.sref = 0) ∧
    after (exec (.resetExit ((3 : BitVec 48))) State.reset) (fun t => decide ((t = State.reset))) = true := by decide +kernel

def w_ResetsAndStartsLeaveWhatIsKept_5 : State :=
    (State.reset.setUnit 1).setF CT_STATUS_ct_src 1

theorem test_ResetsAndStartsLeaveWhatIsKept_5 :
    (Runs w_ResetsAndStartsLeaveWhatIsKept_5) ∧
    (w_ResetsAndStartsLeaveWhatIsKept_5.awake = true ∧ w_ResetsAndStartsLeaveWhatIsKept_5.unit = 1) ∧
    (w_ResetsAndStartsLeaveWhatIsKept_5.ct < 5000 + 96 + (divRound 123 10).toNat) ∧
    after (exec (.partnerTimeRx 5000 123) w_ResetsAndStartsLeaveWhatIsKept_5) (fun t => decide ((t.ct = 5000 + 96 + (divRound 123 10).toNat) ∧ (t.get CT_STATUS_ct_src = 0) ∧ (t.unit = 1) ∧ (t.rst = w_ResetsAndStartsLeaveWhatIsKept_5.rst) ∧ (t.mem = w_ResetsAndStartsLeaveWhatIsKept_5.mem) ∧ (t.stitches = w_ResetsAndStartsLeaveWhatIsKept_5.stitches) ∧ (t.skeins = w_ResetsAndStartsLeaveWhatIsKept_5.skeins) ∧ (t.flash0 = w_ResetsAndStartsLeaveWhatIsKept_5.flash0 ∧ t.flash1 = w_ResetsAndStartsLeaveWhatIsKept_5.flash1))) = true := by decide +kernel

def w_ResetsAndStartsLeaveWhatIsKept_6 : State :=
    { (State.reset.setUnit 1) with ct := 9000 }

theorem test_ResetsAndStartsLeaveWhatIsKept_6 :
    (w_ResetsAndStartsLeaveWhatIsKept_6.awake = true ∧ w_ResetsAndStartsLeaveWhatIsKept_6.unit = 1) ∧
    (5000 + 96 + (divRound 123 10).toNat ≤ w_ResetsAndStartsLeaveWhatIsKept_6.ct) ∧
    after (exec (.partnerTimeRx 5000 123) w_ResetsAndStartsLeaveWhatIsKept_6) (fun t => decide ((t = w_ResetsAndStartsLeaveWhatIsKept_6))) = true := by decide +kernel

def w_ResetsAndStartsLeaveWhatIsKept_7 : State :=
    { (State.reset.setUnit 3) with ct := 9000 }

theorem test_ResetsAndStartsLeaveWhatIsKept_7 :
    (Runs w_ResetsAndStartsLeaveWhatIsKept_7) ∧
    (w_ResetsAndStartsLeaveWhatIsKept_7.awake = true) ∧
    (w_ResetsAndStartsLeaveWhatIsKept_7.unit = 2 ∨ w_ResetsAndStartsLeaveWhatIsKept_7.unit = 3) ∧
    after (exec (.partnerTimeRx 8890 123) w_ResetsAndStartsLeaveWhatIsKept_7) (fun t => decide ((t.pair = { w_ResetsAndStartsLeaveWhatIsKept_7.pair with partnerDiff := ((8890 + 96 : Nat) : Int) + divRound 123 10 - w_ResetsAndStartsLeaveWhatIsKept_7.ct }) ∧ (t.is CT_STATUS_slewing = decide (((8890 + 96 : Nat) : Int) + divRound 123 10 ≠ w_ResetsAndStartsLeaveWhatIsKept_7.ct)) ∧ (t.is CT_STATUS_aligned = decide ((((8890 + 96 : Nat) : Int) + divRound 123 10 - w_ResetsAndStartsLeaveWhatIsKept_7.ct).natAbs ≤ 2)) ∧ (t.ct = w_ResetsAndStartsLeaveWhatIsKept_7.ct) ∧ (t.mem = w_ResetsAndStartsLeaveWhatIsKept_7.mem) ∧ (t.stitches = w_ResetsAndStartsLeaveWhatIsKept_7.stitches) ∧ (t.skeins = w_ResetsAndStartsLeaveWhatIsKept_7.skeins) ∧ (t.flash0 = w_ResetsAndStartsLeaveWhatIsKept_7.flash0 ∧ t.flash1 = w_ResetsAndStartsLeaveWhatIsKept_7.flash1))) = true := by decide +kernel

theorem test_ResetsAndStartsLeaveWhatIsKept_8 :
    (Runs ({ unitA with gpio := 5, ct := 77 })) ∧
    (us 1 ≤ 1600) ∧
    after (exec (.sysReset 1600) ({ unitA with gpio := 5, ct := 77 })) (fun t => decide ((t.rst.held = true) ∧ (t.get RST_STATUS_kind = 2 ∧ t.get RST_STATUS_cause = 1) ∧ (t.get RST_CNT_restarts = satCount 16 (({ unitA with gpio := 5, ct := 77 }).get RST_CNT_restarts) 1) ∧ (t.rst.storedCt = some ({ unitA with gpio := 5, ct := 77 }).ct) ∧ (t.gpio = ({ unitA with gpio := 5, ct := 77 }).gpio ∧ t.gpioDriven = ({ unitA with gpio := 5, ct := 77 }).gpioDriven) ∧ (t.stitches = [] ∧ t.skeins = [] ∧ t.slots = []) ∧ (t.nv.die0 = ({ unitA with gpio := 5, ct := 77 }).nv.die0 ∧ t.nv.die1 = ({ unitA with gpio := 5, ct := 77 }).nv.die1) ∧ (t.flash0 = ({ unitA with gpio := 5, ct := 77 }).flash0 ∧ t.flash1 = ({ unitA with gpio := 5, ct := 77 }).flash1))) = true := by decide +kernel

theorem test_ResetsAndStartsLeaveWhatIsKept_9 :
    (1599 < us 1) ∧
    after (exec (.sysReset 1599) unitA) (fun t => decide ((t = unitA))) = true := by decide +kernel

theorem test_ResetsAndStartsLeaveWhatIsKept_10 :
    (us 2 ≤ 3200) ∧
    (2 ≤ unitA.unit) ∧
    (unitA.pair.failed = false) ∧
    (unitA.partnerRel.backlog = []) ∧
    after (exec (.mainSupplyLoss 3200) unitA) (fun t => decide ((t.unit = 0 ∧ t.rst.dormantWhy = 4) ∧ (t.rst.supplyGood = false) ∧ (t.rst.storedCt = some unitA.ct) ∧ (t.out = unitA.out ++ [.failureNotice 3]) ∧ (t.get RST_CNT_restarts = unitA.get RST_CNT_restarts) ∧ (t.flash0 = unitA.flash0 ∧ t.flash1 = unitA.flash1))) = true := by decide +kernel

theorem test_ResetsAndStartsLeaveWhatIsKept_11 :
    (us 2 ≤ 3200) ∧
    ((State.reset.setUnit 1).unit = 1) ∧
    after (exec (.mainSupplyLoss 3200) (State.reset.setUnit 1)) (fun t => decide ((t.unit = 0 ∧ t.rst.dormantWhy = 4) ∧ (t.rst.supplyGood = false) ∧ (t.out = (State.reset.setUnit 1).out) ∧ (t.flash0 = (State.reset.setUnit 1).flash0 ∧ t.flash1 = (State.reset.setUnit 1).flash1))) = true := by decide +kernel

theorem test_ResetsAndStartsLeaveWhatIsKept_12 :
    (3199 < us 2) ∧
    after (exec (.mainSupplyLoss 3199) unitA) (fun t => decide ((t = unitA))) = true := by decide +kernel

def w_ResetsAndStartsLeaveWhatIsKept_13 : State :=
    ((State.reset.setUnit 0).updRst (fun r => { r with dormantWhy := 4 }))

theorem test_ResetsAndStartsLeaveWhatIsKept_13 :
    (w_ResetsAndStartsLeaveWhatIsKept_13.unit = 0 ∧ w_ResetsAndStartsLeaveWhatIsKept_13.rst.dormantWhy = 4) ∧
    (w_ResetsAndStartsLeaveWhatIsKept_13.rst.wakeHeld = none) ∧
    after (exec (.supplyGood) w_ResetsAndStartsLeaveWhatIsKept_13) (fun t => decide ((t.rst.supplyGood = true ∧ t.rst.wakeHeld = some 7) ∧ (t.regs = w_ResetsAndStartsLeaveWhatIsKept_13.regs) ∧ (t.nv = w_ResetsAndStartsLeaveWhatIsKept_13.nv) ∧ (t.flash0 = w_ResetsAndStartsLeaveWhatIsKept_13.flash0 ∧ t.flash1 = w_ResetsAndStartsLeaveWhatIsKept_13.flash1))) = true := by decide +kernel

def w_ResetsAndStartsLeaveWhatIsKept_14 : State :=
    ((State.reset.setUnit 0).updRst (fun r => { r with dormantWhy := 3 }))

theorem test_ResetsAndStartsLeaveWhatIsKept_14 :
    (w_ResetsAndStartsLeaveWhatIsKept_14.rst.dormantWhy ≠ 4) ∧
    after (exec (.supplyGood) w_ResetsAndStartsLeaveWhatIsKept_14) (fun t => decide ((t.rst.supplyGood = true ∧ t.rst.wakeHeld = w_ResetsAndStartsLeaveWhatIsKept_14.rst.wakeHeld) ∧ (t.regs = w_ResetsAndStartsLeaveWhatIsKept_14.regs) ∧ (t.nv = w_ResetsAndStartsLeaveWhatIsKept_14.nv) ∧ (t.flash0 = w_ResetsAndStartsLeaveWhatIsKept_14.flash0 ∧ t.flash1 = w_ResetsAndStartsLeaveWhatIsKept_14.flash1))) = true := by decide +kernel

theorem test_ResetsAndStartsLeaveWhatIsKept_15 :
    after (exec (.vaonLoss) unitA) (fun t => decide ((t.rst.held = true ∧ t.rst.supplyGood = false) ∧ (t.get RST_STATUS_kind = 0 ∧ t.get RST_STATUS_cause = 0) ∧ (t.get RST_CNT_restarts = 0 ∧ t.get THM_STATUS_last_cause = 0) ∧ (t.rst.storedCt = none) ∧ (t.stitches = []) ∧ (t.flash0 = unitA.flash0 ∧ t.flash1 = unitA.flash1))) = true := by decide +kernel

def w_ResetsAndStartsLeaveWhatIsKept_16 : State :=
    ((State.reset.setUnit 0).updRst (fun r => { r with dormantWhy := 1, wakeHeld := some 8, supplyGood := true }))

theorem test_ResetsAndStartsLeaveWhatIsKept_16 :
    (w_ResetsAndStartsLeaveWhatIsKept_16.rst.wakeHeld = some 8) ∧
    (7 ≤ 8 ∧ 8 ≤ 10) ∧
    (w_ResetsAndStartsLeaveWhatIsKept_16.unit = 0 ∧ w_ResetsAndStartsLeaveWhatIsKept_16.rst.dormantWhy ≠ 0) ∧
    (w_ResetsAndStartsLeaveWhatIsKept_16.rst.supplyGood = true) ∧
    after (exec (.coldStart) w_ResetsAndStartsLeaveWhatIsKept_16) (fun t => decide ((t.rst.held = true ∧ t.rst.dormantWhy = 0) ∧ (t.get RST_STATUS_kind = 1 ∧ t.get RST_STATUS_cause = 8) ∧ (t.get RST_CNT_restarts = satCount 16 (w_ResetsAndStartsLeaveWhatIsKept_16.get RST_CNT_restarts) 1) ∧ (t.rst.storedCt = w_ResetsAndStartsLeaveWhatIsKept_16.rst.storedCt) ∧ (t.get THM_STATUS_last_cause = w_ResetsAndStartsLeaveWhatIsKept_16.get THM_STATUS_last_cause) ∧ (t.nv.die0 = w_ResetsAndStartsLeaveWhatIsKept_16.nv.die0 ∧ t.nv.die1 = w_ResetsAndStartsLeaveWhatIsKept_16.nv.die1) ∧ (t.flash0 = w_ResetsAndStartsLeaveWhatIsKept_16.flash0 ∧ t.flash1 = w_ResetsAndStartsLeaveWhatIsKept_16.flash1))) = true := by decide +kernel

def w_ResetsAndStartsLeaveWhatIsKept_17 : State :=
    ((State.reset.setUnit 0).updRst (fun r => { r with dormantWhy := 1, wakeHeld := some 8, supplyGood := false }))

theorem test_ResetsAndStartsLeaveWhatIsKept_17 :
    (w_ResetsAndStartsLeaveWhatIsKept_17.rst.supplyGood = false) ∧
    after (exec (.coldStart) w_ResetsAndStartsLeaveWhatIsKept_17) (fun t => decide ((t = w_ResetsAndStartsLeaveWhatIsKept_17))) = true := by decide +kernel

def w_ResetsAndStartsLeaveWhatIsKept_18 : State :=
    (({ (State.reset.setUnit 1).setF RST_STATUS_phase 3 with ct := 80000000 } : State).setF PAIR_STATUS_partner_state 4).updPair (fun x => { x with partner := true })

theorem test_ResetsAndStartsLeaveWhatIsKept_18 :
    (Runs w_ResetsAndStartsLeaveWhatIsKept_18) ∧
    (NoRung w_ResetsAndStartsLeaveWhatIsKept_18) ∧
    (w_ResetsAndStartsLeaveWhatIsKept_18.unit = 1) ∧
    (w_ResetsAndStartsLeaveWhatIsKept_18.get RST_STATUS_phase = 3) ∧
    (w_ResetsAndStartsLeaveWhatIsKept_18.rst.imageAt + ms 50 ≤ w_ResetsAndStartsLeaveWhatIsKept_18.ct) ∧
    (w_ResetsAndStartsLeaveWhatIsKept_18.get PAIR_STATUS_pos_conflict = 0) ∧
    (w_ResetsAndStartsLeaveWhatIsKept_18.pair.partner = true ∧ 2 ≤ w_ResetsAndStartsLeaveWhatIsKept_18.get PAIR_STATUS_partner_state) ∧
    after (exec (.pairDecision) w_ResetsAndStartsLeaveWhatIsKept_18) (fun t => decide ((t.unit = 2) ∧ (t.get RST_STATUS_phase = 4) ∧ (t.get RST_TIME_LO_time = w_ResetsAndStartsLeaveWhatIsKept_18.ct % 2 ^ 32) ∧ (t.nv = w_ResetsAndStartsLeaveWhatIsKept_18.nv) ∧ (t.mem = w_ResetsAndStartsLeaveWhatIsKept_18.mem) ∧ (t.stitches = w_ResetsAndStartsLeaveWhatIsKept_18.stitches) ∧ (t.skeins = w_ResetsAndStartsLeaveWhatIsKept_18.skeins) ∧ (t.flash0 = w_ResetsAndStartsLeaveWhatIsKept_18.flash0 ∧ t.flash1 = w_ResetsAndStartsLeaveWhatIsKept_18.flash1))) = true := by decide +kernel

def w_ResetsAndStartsLeaveWhatIsKept_19 : State :=
    (({ (State.reset.setUnit 1).setF RST_STATUS_phase 3 with ct := 80000000 } : State)).updPair (fun x => { x with alvStopped := true })

theorem test_ResetsAndStartsLeaveWhatIsKept_19 :
    (Runs w_ResetsAndStartsLeaveWhatIsKept_19) ∧
    (NoRung w_ResetsAndStartsLeaveWhatIsKept_19) ∧
    (w_ResetsAndStartsLeaveWhatIsKept_19.unit = 1) ∧
    (w_ResetsAndStartsLeaveWhatIsKept_19.get RST_STATUS_phase = 3) ∧
    (w_ResetsAndStartsLeaveWhatIsKept_19.rst.imageAt + ms 50 ≤ w_ResetsAndStartsLeaveWhatIsKept_19.ct) ∧
    (w_ResetsAndStartsLeaveWhatIsKept_19.get PAIR_STATUS_pos_conflict = 0) ∧
    (w_ResetsAndStartsLeaveWhatIsKept_19.pair.partner = false ∧ w_ResetsAndStartsLeaveWhatIsKept_19.pair.alvStopped = true) ∧
    after (exec (.pairDecision) w_ResetsAndStartsLeaveWhatIsKept_19) (fun t => decide ((t.unit = 4) ∧ (t.get RST_STATUS_alone = 1) ∧ (t.get RST_STATUS_phase = 4) ∧ (∀ p : Fin 64, t.ownsPort p = true) ∧ (t.flash0 = w_ResetsAndStartsLeaveWhatIsKept_19.flash0 ∧ t.flash1 = w_ResetsAndStartsLeaveWhatIsKept_19.flash1))) = true := by decide +kernel

def w_ResetsAndStartsLeaveWhatIsKept_20 : State :=
    (({ (State.reset.setUnit 1).setF RST_STATUS_phase 3 with ct := 80000000 } : State)).updPair (fun x => { x with alvStopped := false })

theorem test_ResetsAndStartsLeaveWhatIsKept_20 :
    (Runs w_ResetsAndStartsLeaveWhatIsKept_20) ∧
    (MayRaise w_ResetsAndStartsLeaveWhatIsKept_20 .pairLink 0) ∧
    (w_ResetsAndStartsLeaveWhatIsKept_20.unit = 1) ∧
    (w_ResetsAndStartsLeaveWhatIsKept_20.get RST_STATUS_phase = 3) ∧
    (w_ResetsAndStartsLeaveWhatIsKept_20.rst.imageAt + ms 50 ≤ w_ResetsAndStartsLeaveWhatIsKept_20.ct) ∧
    (w_ResetsAndStartsLeaveWhatIsKept_20.get PAIR_STATUS_pos_conflict = 0) ∧
    (w_ResetsAndStartsLeaveWhatIsKept_20.pair.partner = false ∧ w_ResetsAndStartsLeaveWhatIsKept_20.pair.alvStopped = false) ∧
    after (exec (.pairDecision) w_ResetsAndStartsLeaveWhatIsKept_20) (fun t => decide ((t.unit = 1) ∧ (t.get RST_STATUS_phase = 3) ∧ (t.raised .pairLink 0 = true) ∧ (t.ports = w_ResetsAndStartsLeaveWhatIsKept_20.ports) ∧ (t.stitches = w_ResetsAndStartsLeaveWhatIsKept_20.stitches) ∧ (t.skeins = w_ResetsAndStartsLeaveWhatIsKept_20.skeins) ∧ (t.flash0 = w_ResetsAndStartsLeaveWhatIsKept_20.flash0 ∧ t.flash1 = w_ResetsAndStartsLeaveWhatIsKept_20.flash1))) = true := by decide +kernel

def w_ResetsAndStartsLeaveWhatIsKept_21 : State :=
    ({ State.reset with skeins := [(7, { known := true, inStep := true, matched := 16 })] }.setUnit 2).updPair (fun x => { x with shelfDigest := some {} })

theorem test_ResetsAndStartsLeaveWhatIsKept_21 :
    (w_ResetsAndStartsLeaveWhatIsKept_21.unit = 2) ∧
    (w_ResetsAndStartsLeaveWhatIsKept_21.pair.shelfDigest.isSome = true) ∧
    (w_ResetsAndStartsLeaveWhatIsKept_21.get PAIR_STATUS_pos_conflict = 0) ∧
    (w_ResetsAndStartsLeaveWhatIsKept_21.pinServed = true) ∧
    (∀ x ∈ w_ResetsAndStartsLeaveWhatIsKept_21.skeins, x.2.inStep = true ∧ 16 ≤ x.2.matched) ∧
    after (exec (.admitComplete) w_ResetsAndStartsLeaveWhatIsKept_21) (fun t => decide ((t.unit = 3) ∧ (t.get RST_STATUS_phase = 5) ∧ (t.mem = w_ResetsAndStartsLeaveWhatIsKept_21.mem) ∧ (t.stitches = w_ResetsAndStartsLeaveWhatIsKept_21.stitches) ∧ (t.skeins = w_ResetsAndStartsLeaveWhatIsKept_21.skeins))) = true := by decide +kernel

theorem test_ResetsAndStartsLeaveWhatIsKept_22 :
    ((State.reset.setUnit 2).pair.shelfDigest = none) ∧
    after (exec (.admitComplete) (State.reset.setUnit 2)) (fun t => decide ((t = (State.reset.setUnit 2)))) = true := by decide +kernel

def w_ResetsAndStartsLeaveWhatIsKept_23 : State :=
    ((({ unitA with ct := 5000000, skeins := [(72, { known := true, slot := 12, stitches := [40], engine := some 3, job := {} })] }.setF (SLOT_STATE_state 12) 2).updSlot 12 (fun x => { x with startupBound := true, step := 9 })).updPort 12 (fun x => { x with firstTimeAt := some 0 })).updSt 1576 (fun y => { y with hub := 2, desc := { y.desc with storedLoop := true }, trailers := [(5, 0x3F02)], trailAt := 4000000 })

theorem test_ResetsAndStartsLeaveWhatIsKept_23 :
    (MayRaise w_ResetsAndStartsLeaveWhatIsKept_23 .stitchAuto (128 * ((12 : Fin 64)) + ((40 : Fin 128)))) ∧
    (w_ResetsAndStartsLeaveWhatIsKept_23.active = true) ∧
    (w_ResetsAndStartsLeaveWhatIsKept_23.skeins = [(((72 : Fin 2048)).val, (({ known := true, slot := 12, stitches := [40], engine := some 3, job := {} } : Skein)))]) ∧
    ((({ known := true, slot := 12, stitches := [40], engine := some 3, job := {} } : Skein)).known = true ∧ (({ known := true, slot := 12, stitches := [40], engine := some 3, job := {} } : Skein)).slot = ((12 : Fin 64)).val ∧ (({ known := true, slot := 12, stitches := [40], engine := some 3, job := {} } : Skein)).stitches = [((40 : Fin 128)).val] ∧ (({ known := true, slot := 12, stitches := [40], engine := some 3, job := {} } : Skein)).engine.isSome = true) ∧
    (w_ResetsAndStartsLeaveWhatIsKept_23.get (MER_CFG_src (({ known := true, slot := 12, stitches := [40], engine := some 3, job := {} } : Skein)).carrier) ≠ 3) ∧
    (w_ResetsAndStartsLeaveWhatIsKept_23.slSt ((12 : Fin 64)) = 2 ∧ (w_ResetsAndStartsLeaveWhatIsKept_23.slot ((12 : Fin 64))).startupBound = true ∧ (w_ResetsAndStartsLeaveWhatIsKept_23.slot ((12 : Fin 64))).step = 9 ∧ (w_ResetsAndStartsLeaveWhatIsKept_23.slot ((12 : Fin 64))).baseSet = false) ∧
    ((w_ResetsAndStartsLeaveWhatIsKept_23.port ((12 : Fin 64))).firstTimeAt = some 0 ∧ 0 + ms 1 ≤ w_ResetsAndStartsLeaveWhatIsKept_23.ct) ∧
    ((w_ResetsAndStartsLeaveWhatIsKept_23.st (128 * ((12 : Fin 64)) + ((40 : Fin 128)))).skein = none ∧ (w_ResetsAndStartsLeaveWhatIsKept_23.st (128 * ((12 : Fin 64)) + ((40 : Fin 128)))).desc.storedLoop = true ∧ (w_ResetsAndStartsLeaveWhatIsKept_23.st (128 * ((12 : Fin 64)) + ((40 : Fin 128)))).hub = 2) ∧
    ((w_ResetsAndStartsLeaveWhatIsKept_23.st (128 * ((12 : Fin 64)) + ((40 : Fin 128)))).trailers = [(5, 0x3F02)]) ∧
    (w_ResetsAndStartsLeaveWhatIsKept_23.rails = []) ∧
    after (exec (.startupBind ((12 : Fin 64))) w_ResetsAndStartsLeaveWhatIsKept_23) (fun t => decide (((t.st (128 * ((12 : Fin 64)) + ((40 : Fin 128)))).skein = some ((72 : Fin 2048)).val ∧ (t.st (128 * ((12 : Fin 64)) + ((40 : Fin 128)))).state = 1) ∧ ((t.sk ((72 : Fin 2048))).base = toField 16 ((0x3F02 : Int) - w_ResetsAndStartsLeaveWhatIsKept_23.closedTurn ((72 : Fin 2048)) (128 * ((12 : Fin 64)) + ((40 : Fin 128))) (w_ResetsAndStartsLeaveWhatIsKept_23.st (128 * ((12 : Fin 64)) + ((40 : Fin 128)))).trailAt)) ∧ (t.skSt ((72 : Fin 2048)) = 4) ∧ ((t.slot ((12 : Fin 64))).baseSet = true) ∧ (t.seqSt ((12 : Fin 64)) = 2) ∧ (t.rects = w_ResetsAndStartsLeaveWhatIsKept_23.rects))) = true := by decide +kernel

theorem test_ResetsAndStartsLeaveWhatIsKept_24 :
    ((unitA.port ((12 : Fin 64))).firstTimeAt = none) ∧
    after (exec (.startupBind ((12 : Fin 64))) unitA) (fun t => decide ((t = unitA))) = true := by decide +kernel

def w_ResetsAndStartsLeaveWhatIsKept_25 : State :=
    { (unitA.setF RST_STATUS_phase 4) with ct := 1600000000 }

theorem test_ResetsAndStartsLeaveWhatIsKept_25 :
    (Runs w_ResetsAndStartsLeaveWhatIsKept_25) ∧
    (w_ResetsAndStartsLeaveWhatIsKept_25.rst.exitAt + sec 1 ≤ w_ResetsAndStartsLeaveWhatIsKept_25.ct) ∧
    after (exec (.mailboxOpen) w_ResetsAndStartsLeaveWhatIsKept_25) (fun t => decide ((t.rst.mbxOpen = true) ∧ (t.get RST_STATUS_phase = (if w_ResetsAndStartsLeaveWhatIsKept_25.get RST_STATUS_phase = 4 then 5 else w_ResetsAndStartsLeaveWhatIsKept_25.get RST_STATUS_phase)) ∧ (t.mem = w_ResetsAndStartsLeaveWhatIsKept_25.mem) ∧ (t.stitches = w_ResetsAndStartsLeaveWhatIsKept_25.stitches) ∧ (t.skeins = w_ResetsAndStartsLeaveWhatIsKept_25.skeins))) = true := by decide +kernel

theorem test_ResetsAndStartsLeaveWhatIsKept_26 :
    (unitA.ct < unitA.rst.exitAt + sec 1) ∧
    after (exec (.mailboxOpen) unitA) (fun t => decide ((t = unitA))) = true := by decide +kernel

theorem test_ResetsAndStartsLeaveWhatIsKept_27 :
    (Ready ((withCmd (unitA) 256 9 0x104 [1])) ((256 : Mb)) ((9 : Fin 64)) 0x104) ∧
    (NoRung ((withCmd (unitA) 256 9 0x104 [1]))) ∧
    (u8 (payloadOf ((withCmd (unitA) 256 9 0x104 [1])) ((256 : Mb)) ((9 : Fin 64))) 0 ≤ 1) ∧
    (((withCmd (unitA) 256 9 0x104 [1])).pair.transitAt = none ∧ ((withCmd (unitA) 256 9 0x104 [1])).trust.planAt = none ∧ ((withCmd (unitA) 256 9 0x104 [1])).trust.planStep = 0) ∧
    (((withCmd (unitA) 256 9 0x104 [1])).transitOk = false) ∧
    after (exec (.unitRestart ((256 : Mb)) ((9 : Fin 64))) ((withCmd (unitA) 256 9 0x104 [1]))) (fun t => decide ((Done t ((256 : Mb)) ((9 : Fin 64)) (cmdOf ((withCmd (unitA) 256 9 0x104 [1])) ((256 : Mb)) ((9 : Fin 64))) 0 0 0) ∧ (t.rst.restartAt = some (((withCmd (unitA) 256 9 0x104 [1])).ct, if u8 (payloadOf ((withCmd (unitA) 256 9 0x104 [1])) ((256 : Mb)) ((9 : Fin 64))) 0 = 1 then 16 else 2)) ∧ (t.stitches = ((withCmd (unitA) 256 9 0x104 [1])).stitches) ∧ (t.skeins = ((withCmd (unitA) 256 9 0x104 [1])).skeins))) = true := by decide +kernel

def w_ResetsAndStartsLeaveWhatIsKept_28 : State :=
    (withCmd ((unitA.updPair (fun x => { x with transitAt := some 9 }))) 256 9 0x104 [1])

theorem test_ResetsAndStartsLeaveWhatIsKept_28 :
    (Ready w_ResetsAndStartsLeaveWhatIsKept_28 ((256 : Mb)) ((9 : Fin 64)) 0x104) ∧
    (NoRung w_ResetsAndStartsLeaveWhatIsKept_28) ∧
    (u8 (payloadOf w_ResetsAndStartsLeaveWhatIsKept_28 ((256 : Mb)) ((9 : Fin 64))) 0 ≤ 1) ∧
    (w_ResetsAndStartsLeaveWhatIsKept_28.pair.transitAt.isSome = true) ∧
    (Tail w_ResetsAndStartsLeaveWhatIsKept_28 ((256 : Mb)) ((9 : Fin 64))) ∧
    after (exec (.unitRestart ((256 : Mb)) ((9 : Fin 64))) w_ResetsAndStartsLeaveWhatIsKept_28) (fun t => decide ((Done t ((256 : Mb)) ((9 : Fin 64)) (cmdOf w_ResetsAndStartsLeaveWhatIsKept_28 ((256 : Mb)) ((9 : Fin 64))) 2 5 0) ∧ (t.rst = w_ResetsAndStartsLeaveWhatIsKept_28.rst) ∧ (t.stitches = w_ResetsAndStartsLeaveWhatIsKept_28.stitches) ∧ (t.skeins = w_ResetsAndStartsLeaveWhatIsKept_28.skeins))) = true := by decide +kernel

def w_DoorbellsSubmitFreeSlots_1 : State :=
    ({ ({ (unitA.updRst (fun r => { r with mbxOpen := true })) with slots := [(64 * 256 + 9, { gen := 5 })] }) with mem := Mem.writeBytes Mem.blank [] (winBase 256 + 0x4000 + 256 * 9 + 4) (leBytes 4 (9 * 2 ^ 18 + 5)) })

theorem test_DoorbellsSubmitFreeSlots_1 :
    (Runs w_DoorbellsSubmitFreeSlots_1) ∧
    (w_DoorbellsSubmitFreeSlots_1.hwTouched = []) ∧
    (w_DoorbellsSubmitFreeSlots_1.mailboxOpen ((256 : Mb)) = true) ∧
    ((cmdOf w_DoorbellsSubmitFreeSlots_1 ((256 : Mb)) ((9 : Fin 64))).phase = .free ∧ (cmdOf w_DoorbellsSubmitFreeSlots_1 ((256 : Mb)) ((9 : Fin 64))).freedAt ≠ some w_DoorbellsSubmitFreeSlots_1.ct) ∧
    (({ bytes := w_DoorbellsSubmitFreeSlots_1.slotBytes ((256 : Mb)) ((9 : Fin 64)) } : CmdSlot).handle = ((256 : Mb)).val % 256 * 2 ^ 24 + ((9 : Fin 64)).val * 2 ^ 18 + (cmdOf w_DoorbellsSubmitFreeSlots_1 ((256 : Mb)) ((9 : Fin 64))).gen ∧ (cmdOf w_DoorbellsSubmitFreeSlots_1 ((256 : Mb)) ((9 : Fin 64))).gen < 2 ^ 18) ∧
    ((cmdOf w_DoorbellsSubmitFreeSlots_1 ((256 : Mb)) ((9 : Fin 64))).left = []) ∧
    after (exec (.doorbell ((256 : Mb)) (decide (32 ≤ ((9 : Fin 64)).val)) (BitVec.ofNat 32 (2 ^ (((9 : Fin 64)).val % 32)))) w_DoorbellsSubmitFreeSlots_1) (fun t => decide (((cmdOf t ((256 : Mb)) ((9 : Fin 64))).phase = .waiting ∧ (cmdOf t ((256 : Mb)) ((9 : Fin 64))).bytes = w_DoorbellsSubmitFreeSlots_1.slotBytes ((256 : Mb)) ((9 : Fin 64)) ∧ (cmdOf t ((256 : Mb)) ((9 : Fin 64))).acceptedAt = w_DoorbellsSubmitFreeSlots_1.ct ∧ (cmdOf t ((256 : Mb)) ((9 : Fin 64))).gen = (cmdOf w_DoorbellsSubmitFreeSlots_1 ((256 : Mb)) ((9 : Fin 64))).gen) ∧ ((t.mbx ((256 : Mb))).order = (w_DoorbellsSubmitFreeSlots_1.mbx ((256 : Mb))).order ++ [((9 : Fin 64)).val]) ∧ (t.get (VI_SLOT_BUSY_bit ((256 : Mb)) ((9 : Fin 64))) = 1) ∧ (t.get (VI_DOORBELL_DROP_CNT_count ((256 : Mb))) = w_DoorbellsSubmitFreeSlots_1.get (VI_DOORBELL_DROP_CNT_count ((256 : Mb)))) ∧ (t.get (VI_CQ_PROD_prod ((256 : Mb))) = w_DoorbellsSubmitFreeSlots_1.get (VI_CQ_PROD_prod ((256 : Mb)))) ∧ (t.mem = w_DoorbellsSubmitFreeSlots_1.mem) ∧ (t.stitches = w_DoorbellsSubmitFreeSlots_1.stitches) ∧ (t.skeins = w_DoorbellsSubmitFreeSlots_1.skeins) ∧ (t.flash0 = w_DoorbellsSubmitFreeSlots_1.flash0 ∧ t.flash1 = w_DoorbellsSubmitFreeSlots_1.flash1))) = true := by decide +kernel

def w_DoorbellsSubmitFreeSlots_2 : State :=
    ({ (unitA.updRst (fun r => { r with mbxOpen := true })) with mem := Mem.writeBytes Mem.blank [] (winBase 256 + 0x4000 + 256 * 9 + 4) (leBytes 4 (9 * 2 ^ 18 + 5)) })

theorem test_DoorbellsSubmitFreeSlots_2 :
    (Runs w_DoorbellsSubmitFreeSlots_2) ∧
    (w_DoorbellsSubmitFreeSlots_2.hwTouched = []) ∧
    (w_DoorbellsSubmitFreeSlots_2.mailboxOpen ((256 : Mb)) = true) ∧
    ((cmdOf w_DoorbellsSubmitFreeSlots_2 ((256 : Mb)) ((9 : Fin 64))).phase = .free ∧ (cmdOf w_DoorbellsSubmitFreeSlots_2 ((256 : Mb)) ((9 : Fin 64))).freedAt ≠ some w_DoorbellsSubmitFreeSlots_2.ct) ∧
    ((cmdOf w_DoorbellsSubmitFreeSlots_2 ((256 : Mb)) ((9 : Fin 64))).gen < 2 ^ 18) ∧
    (¬(({ bytes := w_DoorbellsSubmitFreeSlots_2.slotBytes ((256 : Mb)) ((9 : Fin 64)) } : CmdSlot).handle = ((256 : Mb)).val % 256 * 2 ^ 24 + ((9 : Fin 64)).val * 2 ^ 18 + (cmdOf w_DoorbellsSubmitFreeSlots_2 ((256 : Mb)) ((9 : Fin 64))).gen ∧ (cmdOf w_DoorbellsSubmitFreeSlots_2 ((256 : Mb)) ((9 : Fin 64))).gen < 2 ^ 18)) ∧
    (w_DoorbellsSubmitFreeSlots_2.ringFull ((256 : Mb)) = false ∧ (w_DoorbellsSubmitFreeSlots_2.mbx ((256 : Mb))).cqWait = []) ∧
    ((w_DoorbellsSubmitFreeSlots_2.mbx ((256 : Mb))).order = []) ∧
    after (exec (.doorbell ((256 : Mb)) (decide (32 ≤ ((9 : Fin 64)).val)) (BitVec.ofNat 32 (2 ^ (((9 : Fin 64)).val % 32)))) w_DoorbellsSubmitFreeSlots_2) (fun t => decide ((Done t ((256 : Mb)) ((9 : Fin 64)) { bytes := w_DoorbellsSubmitFreeSlots_2.slotBytes ((256 : Mb)) ((9 : Fin 64)) } 5 0xFFFF 0) ∧ ((cmdOf t ((256 : Mb)) ((9 : Fin 64))).gen = (cmdOf w_DoorbellsSubmitFreeSlots_2 ((256 : Mb)) ((9 : Fin 64))).gen) ∧ (t.get (VI_DOORBELL_DROP_CNT_count ((256 : Mb))) = w_DoorbellsSubmitFreeSlots_2.get (VI_DOORBELL_DROP_CNT_count ((256 : Mb)))) ∧ (t.stitches = w_DoorbellsSubmitFreeSlots_2.stitches) ∧ (t.skeins = w_DoorbellsSubmitFreeSlots_2.skeins) ∧ (t.flash0 = w_DoorbellsSubmitFreeSlots_2.flash0 ∧ t.flash1 = w_DoorbellsSubmitFreeSlots_2.flash1))) = true := by decide +kernel

def w_DoorbellsSubmitFreeSlots_3 : State :=
    ({ ({ (unitA.updRst (fun r => { r with mbxOpen := true })) with slots := [(64 * 256 + 9, { gen := 5, left := [(6, 0)] })] }) with mem := Mem.writeBytes Mem.blank [] (winBase 256 + 0x4000 + 256 * 9 + 4) (leBytes 4 (9 * 2 ^ 18 + 5)) })

theorem test_DoorbellsSubmitFreeSlots_3 :
    (Runs w_DoorbellsSubmitFreeSlots_3) ∧
    (w_DoorbellsSubmitFreeSlots_3.hwTouched = []) ∧
    (w_DoorbellsSubmitFreeSlots_3.mailboxOpen ((256 : Mb)) = true) ∧
    ((cmdOf w_DoorbellsSubmitFreeSlots_3 ((256 : Mb)) ((9 : Fin 64))).phase = .free ∧ (cmdOf w_DoorbellsSubmitFreeSlots_3 ((256 : Mb)) ((9 : Fin 64))).freedAt ≠ some w_DoorbellsSubmitFreeSlots_3.ct) ∧
    (({ bytes := w_DoorbellsSubmitFreeSlots_3.slotBytes ((256 : Mb)) ((9 : Fin 64)) } : CmdSlot).handle = ((256 : Mb)).val % 256 * 2 ^ 24 + ((9 : Fin 64)).val * 2 ^ 18 + (cmdOf w_DoorbellsSubmitFreeSlots_3 ((256 : Mb)) ((9 : Fin 64))).gen ∧ (cmdOf w_DoorbellsSubmitFreeSlots_3 ((256 : Mb)) ((9 : Fin 64))).gen < 2 ^ 18) ∧
    (w_DoorbellsSubmitFreeSlots_3.ringFull ((256 : Mb)) = false ∧ (w_DoorbellsSubmitFreeSlots_3.mbx ((256 : Mb))).cqWait = []) ∧
    ((w_DoorbellsSubmitFreeSlots_3.mbx ((256 : Mb))).order = []) ∧
    ((cmdOf w_DoorbellsSubmitFreeSlots_3 ((256 : Mb)) ((9 : Fin 64))).left = [(((cmdOf w_DoorbellsSubmitFreeSlots_3 ((256 : Mb)) ((9 : Fin 64))).gen + 1) % 2 ^ 18, 0)]) ∧
    (w_DoorbellsSubmitFreeSlots_3.ct < 0 + sec 1) ∧
    after (exec (.doorbell ((256 : Mb)) (decide (32 ≤ ((9 : Fin 64)).val)) (BitVec.ofNat 32 (2 ^ (((9 : Fin 64)).val % 32)))) w_DoorbellsSubmitFreeSlots_3) (fun t => decide ((Done t ((256 : Mb)) ((9 : Fin 64)) { bytes := w_DoorbellsSubmitFreeSlots_3.slotBytes ((256 : Mb)) ((9 : Fin 64)) } 2 1 0) ∧ ((cmdOf t ((256 : Mb)) ((9 : Fin 64))).gen = (cmdOf w_DoorbellsSubmitFreeSlots_3 ((256 : Mb)) ((9 : Fin 64))).gen) ∧ (t.stitches = w_DoorbellsSubmitFreeSlots_3.stitches) ∧ (t.skeins = w_DoorbellsSubmitFreeSlots_3.skeins) ∧ (t.flash0 = w_DoorbellsSubmitFreeSlots_3.flash0 ∧ t.flash1 = w_DoorbellsSubmitFreeSlots_3.flash1))) = true := by decide +kernel

def w_DoorbellsSubmitFreeSlots_4 : State :=
    (withCmd ((unitA.updRst (fun r => { r with mbxOpen := true }))) 256 9 0x0 [])

theorem test_DoorbellsSubmitFreeSlots_4 :
    (Runs w_DoorbellsSubmitFreeSlots_4) ∧
    (w_DoorbellsSubmitFreeSlots_4.hwTouched = []) ∧
    (w_DoorbellsSubmitFreeSlots_4.mailboxOpen ((256 : Mb)) = true) ∧
    ((cmdOf w_DoorbellsSubmitFreeSlots_4 ((256 : Mb)) ((9 : Fin 64))).phase ≠ .free ∨ (cmdOf w_DoorbellsSubmitFreeSlots_4 ((256 : Mb)) ((9 : Fin 64))).freedAt = some w_DoorbellsSubmitFreeSlots_4.ct) ∧
    after (exec (.doorbell ((256 : Mb)) (decide (32 ≤ ((9 : Fin 64)).val)) (BitVec.ofNat 32 (2 ^ (((9 : Fin 64)).val % 32)))) w_DoorbellsSubmitFreeSlots_4) (fun t => decide ((t.get (VI_STATUS_dup_doorbell ((256 : Mb))) = 1) ∧ (Counted w_DoorbellsSubmitFreeSlots_4 t (VI_DOORBELL_DROP_CNT_count ((256 : Mb)))) ∧ (t.slots = w_DoorbellsSubmitFreeSlots_4.slots) ∧ ((t.mbx ((256 : Mb))).order = (w_DoorbellsSubmitFreeSlots_4.mbx ((256 : Mb))).order ∧ (t.mbx ((256 : Mb))).cqWait = (w_DoorbellsSubmitFreeSlots_4.mbx ((256 : Mb))).cqWait) ∧ (t.mem = w_DoorbellsSubmitFreeSlots_4.mem) ∧ (t.stitches = w_DoorbellsSubmitFreeSlots_4.stitches) ∧ (t.skeins = w_DoorbellsSubmitFreeSlots_4.skeins) ∧ (t.flash0 = w_DoorbellsSubmitFreeSlots_4.flash0 ∧ t.flash1 = w_DoorbellsSubmitFreeSlots_4.flash1))) = true := by decide +kernel

def w_DoorbellsSubmitFreeSlots_5 : State :=
    (unitA.updRst (fun r => { r with mbxOpen := true }))

theorem test_DoorbellsSubmitFreeSlots_5 :
    (Runs w_DoorbellsSubmitFreeSlots_5) ∧
    (w_DoorbellsSubmitFreeSlots_5.hwTouched = []) ∧
    (w_DoorbellsSubmitFreeSlots_5.mailboxOpen ((48 : Mb)) = false) ∧
    after (exec (.doorbell ((48 : Mb)) (decide (32 ≤ ((33 : Fin 64)).val)) (BitVec.ofNat 32 (2 ^ (((33 : Fin 64)).val % 32)))) w_DoorbellsSubmitFreeSlots_5) (fun t => decide ((t.slots = w_DoorbellsSubmitFreeSlots_5.slots) ∧ (t.mbxs = w_DoorbellsSubmitFreeSlots_5.mbxs) ∧ (t.get (VI_STATUS_dup_doorbell ((48 : Mb))) = w_DoorbellsSubmitFreeSlots_5.get (VI_STATUS_dup_doorbell ((48 : Mb)))) ∧ (t.get (VI_DOORBELL_DROP_CNT_count ((48 : Mb))) = w_DoorbellsSubmitFreeSlots_5.get (VI_DOORBELL_DROP_CNT_count ((48 : Mb)))) ∧ (t.mem = w_DoorbellsSubmitFreeSlots_5.mem) ∧ (t.stitches = w_DoorbellsSubmitFreeSlots_5.stitches) ∧ (t.skeins = w_DoorbellsSubmitFreeSlots_5.skeins) ∧ (t.flash0 = w_DoorbellsSubmitFreeSlots_5.flash0 ∧ t.flash1 = w_DoorbellsSubmitFreeSlots_5.flash1))) = true := by decide +kernel

def w_ManagementCellsReachTheWindow_1 : State :=
    ({ ((unitA.updRst (fun r => { r with mbxOpen := true })).setB (VI_STATUS_assigned 48) true) with hwTouched := [] } : State)

theorem test_ManagementCellsReachTheWindow_1 :
    (InOrder w_ManagementCellsReachTheWindow_1 (.port ((12 : Fin 64))) (({ owner := false, xoff := false, seq := 0 } : UpHdr))) ∧
    (NoRung w_ManagementCellsReachTheWindow_1) ∧
    (w_ManagementCellsReachTheWindow_1.mapped ((12 : Fin 64)) ((0 : Fin 4)) = some 48) ∧
    (w_ManagementCellsReachTheWindow_1.ownsPort ((12 : Fin 64)) = true ∧ w_ManagementCellsReachTheWindow_1.mailboxOpen 48 = true) ∧
    (((3 : Fin 16)).val ≤ 12) ∧
    (((leBytes 20 0x5A01)).length = 20) ∧
    (((3 : Fin 16)).val < 12) ∧
    (48 < 256) ∧
    ((cmdOf w_ManagementCellsReachTheWindow_1 48 ((9 : Fin 64))).phase = .free) ∧
    (((cmdOf w_ManagementCellsReachTheWindow_1 48 ((9 : Fin 64))).segs.filter (· ≠ ((3 : Fin 16)).val)).length < 12) ∧
    after (exec (.mgmtSegment ((12 : Fin 64)) (({ owner := false, xoff := false, seq := 0 } : UpHdr)) ((0 : Fin 4)) ((9 : Fin 64)) ((3 : Fin 16)) ((leBytes 20 0x5A01))) w_ManagementCellsReachTheWindow_1) (fun t => decide ((Mem.readBytes Mem.blank t.mem (winBase 48 + 0x4000 + 256 * ((9 : Fin 64)).val + 20 * ((3 : Fin 16)).val) 20 = ((leBytes 20 0x5A01))) ∧ ((cmdOf t 48 ((9 : Fin 64))).segs = (cmdOf w_ManagementCellsReachTheWindow_1 48 ((9 : Fin 64))).segs.filter (· ≠ ((3 : Fin 16)).val) ++ [((3 : Fin 16)).val]) ∧ ((cmdOf t 48 ((9 : Fin 64))).segsAt = (if (cmdOf w_ManagementCellsReachTheWindow_1 48 ((9 : Fin 64))).segs = [] then w_ManagementCellsReachTheWindow_1.ct else (cmdOf w_ManagementCellsReachTheWindow_1 48 ((9 : Fin 64))).segsAt)) ∧ ((cmdOf t 48 ((9 : Fin 64))).phase = .free) ∧ (t.regs = w_ManagementCellsReachTheWindow_1.regs) ∧ (t.mbxs = w_ManagementCellsReachTheWindow_1.mbxs) ∧ (t.stitches = w_ManagementCellsReachTheWindow_1.stitches) ∧ (t.skeins = w_ManagementCellsReachTheWindow_1.skeins) ∧ (t.flash0 = w_ManagementCellsReachTheWindow_1.flash0 ∧ t.flash1 = w_ManagementCellsReachTheWindow_1.flash1))) = true := by decide +kernel

def w_ManagementCellsReachTheWindow_2 : State :=
    (({ (({ ((unitA.updRst (fun r => { r with mbxOpen := true })).setB (VI_STATUS_assigned 48) true) with hwTouched := [] } : State)) with mem := Mem.writeBytes Mem.blank [] (winBase 48 + 0x4000 + 256 * 9 + 4) (leBytes 4 (48 * 2 ^ 24 + 9 * 2 ^ 18)) })).updSlotC (slotKey 48 9) (fun x => { x with segs := [0, 1, 2, 3, 4, 5, 6, 7, 8, 9, 10, 12], segsAt := 4 })

theorem test_ManagementCellsReachTheWindow_2 :
    (InOrder w_ManagementCellsReachTheWindow_2 (.port ((12 : Fin 64))) (({ owner := false, xoff := false, seq := 0 } : UpHdr))) ∧
    (NoRung w_ManagementCellsReachTheWindow_2) ∧
    (w_ManagementCellsReachTheWindow_2.mapped ((12 : Fin 64)) ((0 : Fin 4)) = some 48) ∧
    (w_ManagementCellsReachTheWindow_2.ownsPort ((12 : Fin 64)) = true ∧ w_ManagementCellsReachTheWindow_2.mailboxOpen 48 = true) ∧
    (((11 : Fin 16)).val ≤ 12) ∧
    (((leBytes 20 0x5A01)).length = 20) ∧
    (1 ≤ ((11 : Fin 16)).val) ∧
    (48 < 256) ∧
    ((cmdOf w_ManagementCellsReachTheWindow_2 48 ((9 : Fin 64))).phase = .free) ∧
    (((cmdOf w_ManagementCellsReachTheWindow_2 48 ((9 : Fin 64))).segs.filter (· ≠ ((11 : Fin 16)).val)).length = 12) ∧
    (({ bytes := w_ManagementCellsReachTheWindow_2.slotBytes 48 ((9 : Fin 64)) } : CmdSlot).handle = 48 * 2 ^ 24 + ((9 : Fin 64)).val * 2 ^ 18 + (cmdOf w_ManagementCellsReachTheWindow_2 48 ((9 : Fin 64))).gen ∧ (cmdOf w_ManagementCellsReachTheWindow_2 48 ((9 : Fin 64))).gen < 2 ^ 18) ∧
    ((cmdOf w_ManagementCellsReachTheWindow_2 48 ((9 : Fin 64))).left = []) ∧
    after (exec (.mgmtSegment ((12 : Fin 64)) (({ owner := false, xoff := false, seq := 0 } : UpHdr)) ((0 : Fin 4)) ((9 : Fin 64)) ((11 : Fin 16)) ((leBytes 20 0x5A01))) w_ManagementCellsReachTheWindow_2) (fun t => decide (((cmdOf t 48 ((9 : Fin 64))).phase = .waiting ∧ (cmdOf t 48 ((9 : Fin 64))).viaPort = some ((12 : Fin 64)).val ∧ (cmdOf t 48 ((9 : Fin 64))).segs = [] ∧ (cmdOf t 48 ((9 : Fin 64))).acceptedAt = w_ManagementCellsReachTheWindow_2.ct) ∧ ((cmdOf t 48 ((9 : Fin 64))).bytes = t.slotBytes 48 ((9 : Fin 64))) ∧ (Mem.readBytes Mem.blank t.mem (winBase 48 + 0x4000 + 256 * ((9 : Fin 64)).val + 20 * ((11 : Fin 16)).val) (if ((11 : Fin 16)).val = 12 then 16 else 20) = ((leBytes 20 0x5A01)).take (if ((11 : Fin 16)).val = 12 then 16 else 20)) ∧ ((t.mbx 48).order = (w_ManagementCellsReachTheWindow_2.mbx 48).order ++ [((9 : Fin 64)).val]) ∧ (t.get (VI_SLOT_BUSY_bit 48 ((9 : Fin 64))) = 1) ∧ (t.stitches = w_ManagementCellsReachTheWindow_2.stitches) ∧ (t.skeins = w_ManagementCellsReachTheWindow_2.skeins) ∧ (t.flash0 = w_ManagementCellsReachTheWindow_2.flash0 ∧ t.flash1 = w_ManagementCellsReachTheWindow_2.flash1))) = true := by decide +kernel

def w_ManagementCellsReachTheWindow_3 : State :=
    (withCmd (({ ((unitA.updRst (fun r => { r with mbxOpen := true })).setB (VI_STATUS_assigned 48) true) with hwTouched := [] } : State)) 48 9 0 [])

theorem test_ManagementCellsReachTheWindow_3 :
    (InOrder w_ManagementCellsReachTheWindow_3 (.port ((12 : Fin 64))) (({ owner := false, xoff := false, seq := 0 } : UpHdr))) ∧
    (NoRung w_ManagementCellsReachTheWindow_3) ∧
    (w_ManagementCellsReachTheWindow_3.mapped ((12 : Fin 64)) ((0 : Fin 4)) = some 48) ∧
    (w_ManagementCellsReachTheWindow_3.ownsPort ((12 : Fin 64)) = true ∧ w_ManagementCellsReachTheWindow_3.mailboxOpen 48 = true) ∧
    (((12 : Fin 16)).val ≤ 12) ∧
    ((cmdOf w_ManagementCellsReachTheWindow_3 48 ((9 : Fin 64))).phase ≠ .free) ∧
    after (exec (.mgmtSegment ((12 : Fin 64)) (({ owner := false, xoff := false, seq := 0 } : UpHdr)) ((0 : Fin 4)) ((9 : Fin 64)) ((12 : Fin 16)) ((leBytes 20 0x5A01))) w_ManagementCellsReachTheWindow_3) (fun t => decide ((t.get (VI_STATUS_dup_doorbell 48) = 1) ∧ (Counted w_ManagementCellsReachTheWindow_3 t (VI_DOORBELL_DROP_CNT_count 48)) ∧ (t.mem = w_ManagementCellsReachTheWindow_3.mem) ∧ (t.slots = w_ManagementCellsReachTheWindow_3.slots) ∧ ((t.mbx 48).order = (w_ManagementCellsReachTheWindow_3.mbx 48).order ∧ (t.mbx 48).cqWait = (w_ManagementCellsReachTheWindow_3.mbx 48).cqWait) ∧ (t.stitches = w_ManagementCellsReachTheWindow_3.stitches) ∧ (t.skeins = w_ManagementCellsReachTheWindow_3.skeins) ∧ (t.flash0 = w_ManagementCellsReachTheWindow_3.flash0 ∧ t.flash1 = w_ManagementCellsReachTheWindow_3.flash1))) = true := by decide +kernel

def w_ManagementCellsReachTheWindow_4 : State :=
    (unitA.updRst (fun r => { r with mbxOpen := true }))

theorem test_ManagementCellsReachTheWindow_4 :
    (InOrder w_ManagementCellsReachTheWindow_4 (.port ((12 : Fin 64))) (({ owner := false, xoff := false, seq := 0 } : UpHdr))) ∧
    (NoRung w_ManagementCellsReachTheWindow_4) ∧
    (w_ManagementCellsReachTheWindow_4.mapped ((12 : Fin 64)) ((0 : Fin 4)) = some 48) ∧
    (w_ManagementCellsReachTheWindow_4.ownsPort ((12 : Fin 64)) = false ∨ w_ManagementCellsReachTheWindow_4.mailboxOpen 48 = false) ∧
    after (exec (.mgmtSegment ((12 : Fin 64)) (({ owner := false, xoff := false, seq := 0 } : UpHdr)) ((0 : Fin 4)) ((9 : Fin 64)) ((12 : Fin 16)) ((leBytes 20 0x5A01))) w_ManagementCellsReachTheWindow_4) (fun t => decide ((t.slots = w_ManagementCellsReachTheWindow_4.slots) ∧ (t.mbxs = w_ManagementCellsReachTheWindow_4.mbxs) ∧ (t.regs = w_ManagementCellsReachTheWindow_4.regs) ∧ (t.mem = w_ManagementCellsReachTheWindow_4.mem) ∧ (t.stitches = w_ManagementCellsReachTheWindow_4.stitches) ∧ (t.skeins = w_ManagementCellsReachTheWindow_4.skeins) ∧ (t.flash0 = w_ManagementCellsReachTheWindow_4.flash0 ∧ t.flash1 = w_ManagementCellsReachTheWindow_4.flash1))) = true := by decide +kernel

def w_ManagementCellsReachTheWindow_5 : State :=
    { unitA with ct := 160000, slots := [(64 * 48 + 9, { segs := [3] })] }

theorem test_ManagementCellsReachTheWindow_5 :
    ((cmdOf w_ManagementCellsReachTheWindow_5 ((48 : Mb)) ((9 : Fin 64))).segs ≠ []) ∧
    ((cmdOf w_ManagementCellsReachTheWindow_5 ((48 : Mb)) ((9 : Fin 64))).segsAt + us 100 ≤ w_ManagementCellsReachTheWindow_5.ct) ∧
    after (exec (.mgmtSegmentTimeout ((48 : Mb)) ((9 : Fin 64))) w_ManagementCellsReachTheWindow_5) (fun t => decide (((cmdOf t ((48 : Mb)) ((9 : Fin 64))).segs = []) ∧ (Counted w_ManagementCellsReachTheWindow_5 t (VI_DOORBELL_DROP_CNT_count ((48 : Mb)))) ∧ ((cmdOf t ((48 : Mb)) ((9 : Fin 64))).phase = (cmdOf w_ManagementCellsReachTheWindow_5 ((48 : Mb)) ((9 : Fin 64))).phase) ∧ (t.mem = w_ManagementCellsReachTheWindow_5.mem) ∧ (t.mbxs = w_ManagementCellsReachTheWindow_5.mbxs) ∧ (t.stitches = w_ManagementCellsReachTheWindow_5.stitches) ∧ (t.skeins = w_ManagementCellsReachTheWindow_5.skeins) ∧ (t.flash0 = w_ManagementCellsReachTheWindow_5.flash0 ∧ t.flash1 = w_ManagementCellsReachTheWindow_5.flash1))) = true := by decide +kernel

def w_ManagementCellsReachTheWindow_6 : State :=
    { unitA with ct := 159999, slots := [(64 * 48 + 9, { segs := [3] })] }

theorem test_ManagementCellsReachTheWindow_6 :
    ((cmdOf w_ManagementCellsReachTheWindow_6 ((48 : Mb)) ((9 : Fin 64))).segs = [] ∨ w_ManagementCellsReachTheWindow_6.ct < (cmdOf w_ManagementCellsReachTheWindow_6 ((48 : Mb)) ((9 : Fin 64))).segsAt + us 100) ∧
    after (exec (.mgmtSegmentTimeout ((48 : Mb)) ((9 : Fin 64))) w_ManagementCellsReachTheWindow_6) (fun t => decide ((t = w_ManagementCellsReachTheWindow_6))) = true := by decide +kernel

def w_ManagementCellsReachTheWindow_7 : State :=
    ((({ ((unitA.updRst (fun r => { r with mbxOpen := true })).setB (VI_STATUS_assigned 48) true) with hwTouched := [] } : State)).setF (PORT_STATUS_link_state 12) 3)

theorem test_ManagementCellsReachTheWindow_7 :
    (InOrder w_ManagementCellsReachTheWindow_7 (.port ((12 : Fin 64))) (({ owner := false, xoff := false, seq := 0 } : UpHdr))) ∧
    (NoRung w_ManagementCellsReachTheWindow_7) ∧
    (w_ManagementCellsReachTheWindow_7.get (PORT_STATUS_link_state ((12 : Fin 64))) = 3) ∧
    (w_ManagementCellsReachTheWindow_7.mapped ((12 : Fin 64)) ((0 : Fin 4)) = some 48) ∧
    (w_ManagementCellsReachTheWindow_7.ownsPort ((12 : Fin 64)) = true) ∧
    (((4 : BitVec 16)).toNat % 4 = 0 ∧ ((4 : BitVec 16)).toNat < 0x1000) ∧
    after (exec (.mgmtWindowAccess ((12 : Fin 64)) (({ owner := false, xoff := false, seq := 0 } : UpHdr)) ((0 : Fin 4)) ((4 : BitVec 16)) false ((0 : Word))) w_ManagementCellsReachTheWindow_7) (fun t => decide (((t.out ++ (t.port ((12 : Fin 64))).rel.backlog.map (·.2)).contains (.mgmt ((12 : Fin 64)) ((0 : Fin 4)) 2 0 (leBytes 2 ((4 : BitVec 16)).toNat ++ [0] ++ [0] ++ leBytes 4 (w_ManagementCellsReachTheWindow_7.readWord (winBase 48 + ((4 : BitVec 16)).toNat)).2.toNat)) = true) ∧ (t.regs = w_ManagementCellsReachTheWindow_7.regs) ∧ (t.mem = w_ManagementCellsReachTheWindow_7.mem) ∧ (t.slots = w_ManagementCellsReachTheWindow_7.slots) ∧ (t.stitches = w_ManagementCellsReachTheWindow_7.stitches) ∧ (t.skeins = w_ManagementCellsReachTheWindow_7.skeins) ∧ (t.flash0 = w_ManagementCellsReachTheWindow_7.flash0 ∧ t.flash1 = w_ManagementCellsReachTheWindow_7.flash1))) = true := by decide +kernel

def w_ManagementCellsReachTheWindow_8 : State :=
    ((({ ((unitA.updRst (fun r => { r with mbxOpen := true })).setB (VI_STATUS_assigned 48) true) with hwTouched := [] } : State)).setF (PORT_STATUS_link_state 12) 3)

theorem test_ManagementCellsReachTheWindow_8 :
    (InOrder w_ManagementCellsReachTheWindow_8 (.port ((12 : Fin 64))) (({ owner := false, xoff := false, seq := 0 } : UpHdr))) ∧
    (NoRung w_ManagementCellsReachTheWindow_8) ∧
    (w_ManagementCellsReachTheWindow_8.get (PORT_STATUS_link_state ((12 : Fin 64))) = 3) ∧
    (w_ManagementCellsReachTheWindow_8.mapped ((12 : Fin 64)) ((0 : Fin 4)) = some 48) ∧
    (w_ManagementCellsReachTheWindow_8.ownsPort ((12 : Fin 64)) = true) ∧
    (w_ManagementCellsReachTheWindow_8.hwTouched = []) ∧
    (48 < 256) ∧
    after (exec (.mgmtWindowAccess ((12 : Fin 64)) (({ owner := false, xoff := false, seq := 0 } : UpHdr)) ((0 : Fin 4)) 8 true ((0xABCD1234 : Word))) w_ManagementCellsReachTheWindow_8) (fun t => decide ((t.get (VI_DOORBELL_DROP_CNT_count 48) = ((0xABCD1234 : Word)).bits 15 0) ∧ ((t.out ++ (t.port ((12 : Fin 64))).rel.backlog.map (·.2)).contains (.mgmt ((12 : Fin 64)) ((0 : Fin 4)) 2 0 (leBytes 2 8 ++ [1] ++ [0] ++ leBytes 4 (((0xABCD1234 : Word)).bits 15 0))) = true) ∧ (t.mem = w_ManagementCellsReachTheWindow_8.mem) ∧ (t.slots = w_ManagementCellsReachTheWindow_8.slots) ∧ (t.stitches = w_ManagementCellsReachTheWindow_8.stitches) ∧ (t.skeins = w_ManagementCellsReachTheWindow_8.skeins) ∧ (t.flash0 = w_ManagementCellsReachTheWindow_8.flash0 ∧ t.flash1 = w_ManagementCellsReachTheWindow_8.flash1))) = true := by decide +kernel

def w_ManagementCellsReachTheWindow_9 : State :=
    ((({ ((unitA.updRst (fun r => { r with mbxOpen := true })).setB (VI_STATUS_assigned 48) true) with hwTouched := [] } : State)).setF (PORT_STATUS_link_state 12) 3)

theorem test_ManagementCellsReachTheWindow_9 :
    (InOrder w_ManagementCellsReachTheWindow_9 (.port ((12 : Fin 64))) (({ owner := false, xoff := false, seq := 0 } : UpHdr))) ∧
    (NoRung w_ManagementCellsReachTheWindow_9) ∧
    (w_ManagementCellsReachTheWindow_9.get (PORT_STATUS_link_state ((12 : Fin 64))) = 3) ∧
    (w_ManagementCellsReachTheWindow_9.mapped ((12 : Fin 64)) ((0 : Fin 4)) = some 48) ∧
    (w_ManagementCellsReachTheWindow_9.ownsPort ((12 : Fin 64)) = true) ∧
    (((0x4000 : BitVec 16)).toNat % 4 ≠ 0 ∨ 0x1000 ≤ ((0x4000 : BitVec 16)).toNat) ∧
    after (exec (.mgmtWindowAccess ((12 : Fin 64)) (({ owner := false, xoff := false, seq := 0 } : UpHdr)) ((0 : Fin 4)) ((0x4000 : BitVec 16)) true ((1 : Word))) w_ManagementCellsReachTheWindow_9) (fun t => decide (((t.out ++ (t.port ((12 : Fin 64))).rel.backlog.map (·.2)).contains (.mgmt ((12 : Fin 64)) ((0 : Fin 4)) 2 0 (leBytes 2 ((0x4000 : BitVec 16)).toNat ++ leBytes 1 true.toNat ++ [0] ++ leBytes 4 0)) = true) ∧ (t.regs = w_ManagementCellsReachTheWindow_9.regs) ∧ (t.mem = w_ManagementCellsReachTheWindow_9.mem) ∧ (t.slots = w_ManagementCellsReachTheWindow_9.slots) ∧ (t.stitches = w_ManagementCellsReachTheWindow_9.stitches) ∧ (t.skeins = w_ManagementCellsReachTheWindow_9.skeins) ∧ (t.flash0 = w_ManagementCellsReachTheWindow_9.flash0 ∧ t.flash1 = w_ManagementCellsReachTheWindow_9.flash1))) = true := by decide +kernel

theorem test_CompletionsArePacedAndWaitForRoom_1 :
    (Runs (unitA.setF (VI_CQ_PROD_prod 48) 5)) ∧
    (NoRung (unitA.setF (VI_CQ_PROD_prod 48) 5)) ∧
    ((unitA.setF (VI_CQ_PROD_prod 48) 5).hwTouched = [] ∧ (unitA.setF (VI_CQ_PROD_prod 48) 5).vfOff.contains ((48 : Mb)) = false) ∧
    (((unitA.setF (VI_CQ_PROD_prod 48) 5).get (VI_CQ_PROD_prod ((48 : Mb))) + 512 - ((3 : Word)).bits 8 0) % 512 ≤ 256) ∧
    (((unitA.setF (VI_CQ_PROD_prod 48) 5).mbx ((48 : Mb))).cqWait = []) ∧
    after (exec (.cqConsWrite ((48 : Mb)) ((3 : Word))) (unitA.setF (VI_CQ_PROD_prod 48) 5)) (fun t => decide ((t.get (VI_CQ_CONS_cons ((48 : Mb))) = ((3 : Word)).bits 8 0) ∧ (t.get (VI_CQ_PROD_prod ((48 : Mb))) = (unitA.setF (VI_CQ_PROD_prod 48) 5).get (VI_CQ_PROD_prod ((48 : Mb)))) ∧ (t.mem = (unitA.setF (VI_CQ_PROD_prod 48) 5).mem) ∧ (t.slots = (unitA.setF (VI_CQ_PROD_prod 48) 5).slots) ∧ (t.mbxs = (unitA.setF (VI_CQ_PROD_prod 48) 5).mbxs) ∧ (t.stitches = (unitA.setF (VI_CQ_PROD_prod 48) 5).stitches) ∧ (t.skeins = (unitA.setF (VI_CQ_PROD_prod 48) 5).skeins) ∧ (t.flash0 = (unitA.setF (VI_CQ_PROD_prod 48) 5).flash0 ∧ t.flash1 = (unitA.setF (VI_CQ_PROD_prod 48) 5).flash1))) = true := by decide +kernel

theorem test_CompletionsArePacedAndWaitForRoom_2 :
    (Runs (unitA.setF (VI_CQ_PROD_prod 48) 5)) ∧
    (NoRung (unitA.setF (VI_CQ_PROD_prod 48) 5)) ∧
    ((unitA.setF (VI_CQ_PROD_prod 48) 5).hwTouched = [] ∧ (unitA.setF (VI_CQ_PROD_prod 48) 5).vfOff.contains ((48 : Mb)) = false) ∧
    (256 < ((unitA.setF (VI_CQ_PROD_prod 48) 5).get (VI_CQ_PROD_prod ((48 : Mb))) + 512 - ((6 : Word)).bits 8 0) % 512) ∧
    (((unitA.setF (VI_CQ_PROD_prod 48) 5).mbx ((48 : Mb))).cqWait = []) ∧
    after (exec (.cqConsWrite ((48 : Mb)) ((6 : Word))) (unitA.setF (VI_CQ_PROD_prod 48) 5)) (fun t => decide ((t.get (VI_CQ_CONS_cons ((48 : Mb))) = (unitA.setF (VI_CQ_PROD_prod 48) 5).get (VI_CQ_CONS_cons ((48 : Mb)))) ∧ (t.get (VI_CQ_PROD_prod ((48 : Mb))) = (unitA.setF (VI_CQ_PROD_prod 48) 5).get (VI_CQ_PROD_prod ((48 : Mb)))) ∧ (t.mem = (unitA.setF (VI_CQ_PROD_prod 48) 5).mem) ∧ (t.slots = (unitA.setF (VI_CQ_PROD_prod 48) 5).slots) ∧ (t.mbxs = (unitA.setF (VI_CQ_PROD_prod 48) 5).mbxs) ∧ (t.stitches = (unitA.setF (VI_CQ_PROD_prod 48) 5).stitches) ∧ (t.skeins = (unitA.setF (VI_CQ_PROD_prod 48) 5).skeins) ∧ (t.flash0 = (unitA.setF (VI_CQ_PROD_prod 48) 5).flash0 ∧ t.flash1 = (unitA.setF (VI_CQ_PROD_prod 48) 5).flash1))) = true := by decide +kernel

def w_CompletionsArePacedAndWaitForRoom_3 : State :=
    ({ (({ ((unitA.updRst (fun r => { r with mbxOpen := true })).setB (VI_STATUS_assigned 48) true) with hwTouched := [] } : State)) with slots := [(64 * 48 + 7, { phase := .started, bytes := leBytes 2 0x414 ++ leBytes 2 0 ++ leBytes 4 0x301C0000 })] }.setF (VI_CQ_PROD_prod 48) 256).updMbx 48 (fun m => { m with order := [7], cqWait := [{ slot := 7, status := 0, info := 3, result := 9 }] })

theorem test_CompletionsArePacedAndWaitForRoom_3 :
    (Runs w_CompletionsArePacedAndWaitForRoom_3) ∧
    (NoRung w_CompletionsArePacedAndWaitForRoom_3) ∧
    (w_CompletionsArePacedAndWaitForRoom_3.hwTouched = [] ∧ w_CompletionsArePacedAndWaitForRoom_3.vfOff.contains ((48 : Mb)) = false) ∧
    ((w_CompletionsArePacedAndWaitForRoom_3.get (VI_CQ_PROD_prod ((48 : Mb))) + 512 - ((1 : Word)).bits 8 0) % 512 < 256) ∧
    ((w_CompletionsArePacedAndWaitForRoom_3.mbx ((48 : Mb))).cqWait = [(({ slot := 7, status := 0, info := 3, result := 9 } : Compl))]) ∧
    ((({ slot := 7, status := 0, info := 3, result := 9 } : Compl)).slot < 64) ∧
    (Tail w_CompletionsArePacedAndWaitForRoom_3 ((48 : Mb)) (({ slot := 7, status := 0, info := 3, result := 9 } : Compl)).slot) ∧
    after (exec (.cqConsWrite ((48 : Mb)) ((1 : Word))) w_CompletionsArePacedAndWaitForRoom_3) (fun t => decide ((Done t ((48 : Mb)) (({ slot := 7, status := 0, info := 3, result := 9 } : Compl)).slot (cmdOf w_CompletionsArePacedAndWaitForRoom_3 ((48 : Mb)) (({ slot := 7, status := 0, info := 3, result := 9 } : Compl)).slot) (({ slot := 7, status := 0, info := 3, result := 9 } : Compl)).status (({ slot := 7, status := 0, info := 3, result := 9 } : Compl)).info (({ slot := 7, status := 0, info := 3, result := 9 } : Compl)).result) ∧ (t.get (VI_CQ_PROD_prod ((48 : Mb))) = (w_CompletionsArePacedAndWaitForRoom_3.get (VI_CQ_PROD_prod ((48 : Mb))) + 1) % 512) ∧ ((t.mbx ((48 : Mb))).cqWait = []) ∧ (t.stitches = w_CompletionsArePacedAndWaitForRoom_3.stitches) ∧ (t.skeins = w_CompletionsArePacedAndWaitForRoom_3.skeins) ∧ (t.flash0 = w_CompletionsArePacedAndWaitForRoom_3.flash0 ∧ t.flash1 = w_CompletionsArePacedAndWaitForRoom_3.flash1))) = true := by decide +kernel

def w_CompletionsArePacedAndWaitForRoom_4 : State :=
    (unitA).updMbx 48 (fun m => { m with gathered := 3, firstAt := some 2 })

theorem test_CompletionsArePacedAndWaitForRoom_4 :
    (Runs w_CompletionsArePacedAndWaitForRoom_4) ∧
    (w_CompletionsArePacedAndWaitForRoom_4.hwTouched = [] ∧ w_CompletionsArePacedAndWaitForRoom_4.vfOff.contains ((48 : Mb)) = false) ∧
    (((0x50400 : Word)).bit 0 = false) ∧
    after (exec (.irqCtrlWrite ((48 : Mb)) ((0x50400 : Word))) w_CompletionsArePacedAndWaitForRoom_4) (fun t => decide ((t.get (VI_IRQ_CTRL_cq_en ((48 : Mb))) = 0 ∧ t.get (VI_IRQ_CTRL_coal_count ((48 : Mb))) = ((0x50400 : Word)).bits 15 8 ∧ t.get (VI_IRQ_CTRL_coal_us ((48 : Mb))) = ((0x50400 : Word)).bits 31 16) ∧ ((t.mbx ((48 : Mb))).gathered = 0 ∧ (t.mbx ((48 : Mb))).firstAt = none) ∧ (t.out = w_CompletionsArePacedAndWaitForRoom_4.out) ∧ (t.mem = w_CompletionsArePacedAndWaitForRoom_4.mem) ∧ (t.slots = w_CompletionsArePacedAndWaitForRoom_4.slots) ∧ (t.stitches = w_CompletionsArePacedAndWaitForRoom_4.stitches) ∧ (t.skeins = w_CompletionsArePacedAndWaitForRoom_4.skeins) ∧ (t.flash0 = w_CompletionsArePacedAndWaitForRoom_4.flash0 ∧ t.flash1 = w_CompletionsArePacedAndWaitForRoom_4.flash1))) = true := by decide +kernel

def w_CompletionsArePacedAndWaitForRoom_5 : State :=
    ((unitA).updMbx 48 (fun m => { m with gathered := 3, firstAt := some 2 })).setF (VI_IRQ_CTRL_cq_en 48) 1

theorem test_CompletionsArePacedAndWaitForRoom_5 :
    (Runs w_CompletionsArePacedAndWaitForRoom_5) ∧
    (w_CompletionsArePacedAndWaitForRoom_5.hwTouched = [] ∧ w_CompletionsArePacedAndWaitForRoom_5.vfOff.contains ((48 : Mb)) = false) ∧
    (((0x301 : Word)).bit 0 = true) ∧
    (w_CompletionsArePacedAndWaitForRoom_5.get (VI_IRQ_CTRL_cq_en ((48 : Mb))) = 1) ∧
    ((w_CompletionsArePacedAndWaitForRoom_5.mbx ((48 : Mb))).gathered ≠ 0 ∧ Nat.max 1 (((0x301 : Word)).bits 15 8) ≤ (w_CompletionsArePacedAndWaitForRoom_5.mbx ((48 : Mb))).gathered) ∧
    after (exec (.irqCtrlWrite ((48 : Mb)) ((0x301 : Word))) w_CompletionsArePacedAndWaitForRoom_5) (fun t => decide ((t.out = w_CompletionsArePacedAndWaitForRoom_5.out ++ [.msix ((48 : Mb)) 0]) ∧ ((t.mbx ((48 : Mb))).gathered = 0 ∧ (t.mbx ((48 : Mb))).firstAt = none) ∧ (t.get (VI_IRQ_CTRL_coal_count ((48 : Mb))) = ((0x301 : Word)).bits 15 8) ∧ (t.mem = w_CompletionsArePacedAndWaitForRoom_5.mem) ∧ (t.slots = w_CompletionsArePacedAndWaitForRoom_5.slots) ∧ (t.stitches = w_CompletionsArePacedAndWaitForRoom_5.stitches) ∧ (t.skeins = w_CompletionsArePacedAndWaitForRoom_5.skeins) ∧ (t.flash0 = w_CompletionsArePacedAndWaitForRoom_5.flash0 ∧ t.flash1 = w_CompletionsArePacedAndWaitForRoom_5.flash1))) = true := by decide +kernel

def w_CompletionsArePacedAndWaitForRoom_6 : State :=
    ((unitA).updMbx 48 (fun m => { m with gathered := 3, firstAt := some 2 })).setF (VI_IRQ_CTRL_cq_en 48) 1

theorem test_CompletionsArePacedAndWaitForRoom_6 :
    (Runs w_CompletionsArePacedAndWaitForRoom_6) ∧
    (w_CompletionsArePacedAndWaitForRoom_6.hwTouched = [] ∧ w_CompletionsArePacedAndWaitForRoom_6.vfOff.contains ((48 : Mb)) = false) ∧
    (((0x401 : Word)).bit 0 = true) ∧
    (w_CompletionsArePacedAndWaitForRoom_6.get (VI_IRQ_CTRL_cq_en ((48 : Mb))) = 1) ∧
    ((w_CompletionsArePacedAndWaitForRoom_6.mbx ((48 : Mb))).gathered < Nat.max 1 (((0x401 : Word)).bits 15 8)) ∧
    after (exec (.irqCtrlWrite ((48 : Mb)) ((0x401 : Word))) w_CompletionsArePacedAndWaitForRoom_6) (fun t => decide ((t.out = w_CompletionsArePacedAndWaitForRoom_6.out) ∧ (t.mbxs = w_CompletionsArePacedAndWaitForRoom_6.mbxs) ∧ (t.get (VI_IRQ_CTRL_coal_count ((48 : Mb))) = ((0x401 : Word)).bits 15 8) ∧ (t.mem = w_CompletionsArePacedAndWaitForRoom_6.mem) ∧ (t.slots = w_CompletionsArePacedAndWaitForRoom_6.slots) ∧ (t.stitches = w_CompletionsArePacedAndWaitForRoom_6.stitches) ∧ (t.skeins = w_CompletionsArePacedAndWaitForRoom_6.skeins) ∧ (t.flash0 = w_CompletionsArePacedAndWaitForRoom_6.flash0 ∧ t.flash1 = w_CompletionsArePacedAndWaitForRoom_6.flash1))) = true := by decide +kernel

def w_CompletionsArePacedAndWaitForRoom_7 : State :=
    { ((unitA).updMbx 48 (fun m => { m with gathered := 3, firstAt := some 2 })).setF (VI_IRQ_CTRL_coal_us 48) 5 with ct := 8002 }

theorem test_CompletionsArePacedAndWaitForRoom_7 :
    ((w_CompletionsArePacedAndWaitForRoom_7.mbx ((48 : Mb))).firstAt = some 2) ∧
    (w_CompletionsArePacedAndWaitForRoom_7.get (VI_IRQ_CTRL_coal_us ((48 : Mb))) ≠ 0 ∧ 2 + us (w_CompletionsArePacedAndWaitForRoom_7.get (VI_IRQ_CTRL_coal_us ((48 : Mb)))) ≤ w_CompletionsArePacedAndWaitForRoom_7.ct) ∧
    after (exec (.coalTimerExpire ((48 : Mb))) w_CompletionsArePacedAndWaitForRoom_7) (fun t => decide ((t.out = w_CompletionsArePacedAndWaitForRoom_7.out ++ [.msix ((48 : Mb)) 0]) ∧ ((t.mbx ((48 : Mb))).gathered = 0 ∧ (t.mbx ((48 : Mb))).firstAt = none) ∧ (t.regs = w_CompletionsArePacedAndWaitForRoom_7.regs) ∧ (t.mem = w_CompletionsArePacedAndWaitForRoom_7.mem) ∧ (t.slots = w_CompletionsArePacedAndWaitForRoom_7.slots) ∧ (t.stitches = w_CompletionsArePacedAndWaitForRoom_7.stitches) ∧ (t.skeins = w_CompletionsArePacedAndWaitForRoom_7.skeins) ∧ (t.flash0 = w_CompletionsArePacedAndWaitForRoom_7.flash0 ∧ t.flash1 = w_CompletionsArePacedAndWaitForRoom_7.flash1))) = true := by decide +kernel

def w_CompletionsArePacedAndWaitForRoom_8 : State :=
    (unitA).updMbx 48 (fun m => { m with gathered := 3, firstAt := some 2 })

theorem test_CompletionsArePacedAndWaitForRoom_8 :
    ((w_CompletionsArePacedAndWaitForRoom_8.mbx ((48 : Mb))).firstAt = none ∨ w_CompletionsArePacedAndWaitForRoom_8.get (VI_IRQ_CTRL_coal_us ((48 : Mb))) = 0) ∧
    after (exec (.coalTimerExpire ((48 : Mb))) w_CompletionsArePacedAndWaitForRoom_8) (fun t => decide ((t = w_CompletionsArePacedAndWaitForRoom_8))) = true := by decide +kernel

def w_CompletionsArePacedAndWaitForRoom_9 : State :=
    { (unitA).updMbx 48 (fun m => { m with tokens := 0 }) with ct := 16000 }

theorem test_CompletionsArePacedAndWaitForRoom_9 :
    ((w_CompletionsArePacedAndWaitForRoom_9.mbx ((48 : Mb))).tokens < 4) ∧
    ((w_CompletionsArePacedAndWaitForRoom_9.mbx ((48 : Mb))).tokenAt + us 10 ≤ w_CompletionsArePacedAndWaitForRoom_9.ct) ∧
    after (exec (.tokenRefill ((48 : Mb))) w_CompletionsArePacedAndWaitForRoom_9) (fun t => decide ((t.mbx ((48 : Mb)) = { w_CompletionsArePacedAndWaitForRoom_9.mbx ((48 : Mb)) with tokens := (w_CompletionsArePacedAndWaitForRoom_9.mbx ((48 : Mb))).tokens + 1, tokenAt := (w_CompletionsArePacedAndWaitForRoom_9.mbx ((48 : Mb))).tokenAt + us 10 }) ∧ (t.regs = w_CompletionsArePacedAndWaitForRoom_9.regs) ∧ (t.mem = w_CompletionsArePacedAndWaitForRoom_9.mem) ∧ (t.slots = w_CompletionsArePacedAndWaitForRoom_9.slots) ∧ (t.stitches = w_CompletionsArePacedAndWaitForRoom_9.stitches) ∧ (t.skeins = w_CompletionsArePacedAndWaitForRoom_9.skeins) ∧ (t.flash0 = w_CompletionsArePacedAndWaitForRoom_9.flash0 ∧ t.flash1 = w_CompletionsArePacedAndWaitForRoom_9.flash1))) = true := by decide +kernel

def w_CompletionsArePacedAndWaitForRoom_10 : State :=
    { (unitA).updMbx 48 (fun m => { m with tokens := 0 }) with ct := 15999 }

theorem test_CompletionsArePacedAndWaitForRoom_10 :
    (4 ≤ (w_CompletionsArePacedAndWaitForRoom_10.mbx ((48 : Mb))).tokens ∨ w_CompletionsArePacedAndWaitForRoom_10.ct < (w_CompletionsArePacedAndWaitForRoom_10.mbx ((48 : Mb))).tokenAt + us 10) ∧
    after (exec (.tokenRefill ((48 : Mb))) w_CompletionsArePacedAndWaitForRoom_10) (fun t => decide ((t = w_CompletionsArePacedAndWaitForRoom_10))) = true := by decide +kernel

theorem test_MailboxCommandsComplete_1 :
    (Ready ((withCmd (unitA) 256 9 0x0 [])) ((256 : Mb)) ((9 : Fin 64)) 0) ∧
    after (exec (.mbxNop ((256 : Mb)) ((9 : Fin 64))) ((withCmd (unitA) 256 9 0x0 []))) (fun t => decide ((Done t ((256 : Mb)) ((9 : Fin 64)) (cmdOf ((withCmd (unitA) 256 9 0x0 [])) ((256 : Mb)) ((9 : Fin 64))) 0 0 0) ∧ (t.stitches = ((withCmd (unitA) 256 9 0x0 [])).stitches) ∧ (t.skeins = ((withCmd (unitA) 256 9 0x0 [])).skeins) ∧ (t.flash0 = ((withCmd (unitA) 256 9 0x0 [])).flash0 ∧ t.flash1 = ((withCmd (unitA) 256 9 0x0 [])).flash1))) = true := by decide +kernel

theorem test_MailboxCommandsComplete_2 :
    ((cmdOf ((withCmd (unitA) 256 9 0x200 [])) ((256 : Mb)) ((9 : Fin 64))).phase = .waiting ∧ (cmdOf ((withCmd (unitA) 256 9 0x200 [])) ((256 : Mb)) ((9 : Fin 64))).opcode = 0x200) ∧
    (((withCmd (unitA) 256 9 0x200 [])).assigned ((256 : Mb)) = true ∧ ((withCmd (unitA) 256 9 0x200 [])).heldBack ((256 : Mb)) ((9 : Fin 64)) = false) ∧
    (((withCmd (unitA) 256 9 0x200 [])).ringFull ((256 : Mb)) = false ∧ (((withCmd (unitA) 256 9 0x200 [])).mbx ((256 : Mb))).cqWait = []) ∧
    (Tail ((withCmd (unitA) 256 9 0x200 [])) ((256 : Mb)) ((9 : Fin 64))) ∧
    after (exec (.mbxNop ((256 : Mb)) ((9 : Fin 64))) ((withCmd (unitA) 256 9 0x200 []))) (fun t => decide ((Done t ((256 : Mb)) ((9 : Fin 64)) (cmdOf ((withCmd (unitA) 256 9 0x200 [])) ((256 : Mb)) ((9 : Fin 64))) 4 0xFFFE 0) ∧ (t.stitches = ((withCmd (unitA) 256 9 0x200 [])).stitches) ∧ (t.skeins = ((withCmd (unitA) 256 9 0x200 [])).skeins) ∧ (t.flash0 = ((withCmd (unitA) 256 9 0x200 [])).flash0 ∧ t.flash1 = ((withCmd (unitA) 256 9 0x200 [])).flash1))) = true := by decide +kernel

def w_MailboxCommandsComplete_3 : State :=
    (((withCmd (unitA) 256 9 0x101 [3,0,20,0])).updSlotC (slotKey 256 5) (fun x => { x with gen := 3, phase := .started, acceptedAt := 77, bytes := leBytes 2 0x414 ++ leBytes 2 0 ++ leBytes 4 (5 * 2 ^ 18 + 3) })).updMbx 256 (fun m => { m with order := [5, 9] })

theorem test_MailboxCommandsComplete_3 :
    (Ready w_MailboxCommandsComplete_3 ((256 : Mb)) ((9 : Fin 64)) 0x101) ∧
    (w_MailboxCommandsComplete_3.handleSlot ((256 : Mb)) (u32 (payloadOf w_MailboxCommandsComplete_3 ((256 : Mb)) ((9 : Fin 64))) 0) = some 5) ∧
    (5 ≠ ((9 : Fin 64)).val) ∧
    after (exec (.mbxQuery ((256 : Mb)) ((9 : Fin 64))) w_MailboxCommandsComplete_3) (fun t => decide ((Done t ((256 : Mb)) ((9 : Fin 64)) (cmdOf w_MailboxCommandsComplete_3 ((256 : Mb)) ((9 : Fin 64))) 0 (if (cmdOf w_MailboxCommandsComplete_3 ((256 : Mb)) 5).phase = .started then 2 else if w_MailboxCommandsComplete_3.heldBack ((256 : Mb)) 5 then 0 else 1) ((cmdOf w_MailboxCommandsComplete_3 ((256 : Mb)) 5).opcode + 2 ^ 16 * ((cmdOf w_MailboxCommandsComplete_3 ((256 : Mb)) 5).acceptedAt % 2 ^ 48))) ∧ (cmdOf t ((256 : Mb)) 5 = cmdOf w_MailboxCommandsComplete_3 ((256 : Mb)) 5) ∧ (t.stitches = w_MailboxCommandsComplete_3.stitches) ∧ (t.skeins = w_MailboxCommandsComplete_3.skeins) ∧ (t.flash0 = w_MailboxCommandsComplete_3.flash0 ∧ t.flash1 = w_MailboxCommandsComplete_3.flash1))) = true := by decide +kernel

def w_MailboxCommandsComplete_4 : State :=
    (((withCmd (unitA) 256 9 0x101 [4,0,20,0])).updSlotC (slotKey 256 5) (fun x => { x with gen := 3, phase := .started, acceptedAt := 77, bytes := leBytes 2 0x414 ++ leBytes 2 0 ++ leBytes 4 (5 * 2 ^ 18 + 3) })).updMbx 256 (fun m => { m with order := [5, 9] })

theorem test_MailboxCommandsComplete_4 :
    (Ready w_MailboxCommandsComplete_4 ((256 : Mb)) ((9 : Fin 64)) 0x101) ∧
    (w_MailboxCommandsComplete_4.handleSlot ((256 : Mb)) (u32 (payloadOf w_MailboxCommandsComplete_4 ((256 : Mb)) ((9 : Fin 64))) 0) = none) ∧
    (Tail w_MailboxCommandsComplete_4 ((256 : Mb)) ((9 : Fin 64))) ∧
    after (exec (.mbxQuery ((256 : Mb)) ((9 : Fin 64))) w_MailboxCommandsComplete_4) (fun t => decide ((Done t ((256 : Mb)) ((9 : Fin 64)) (cmdOf w_MailboxCommandsComplete_4 ((256 : Mb)) ((9 : Fin 64))) 5 0 0) ∧ (t.stitches = w_MailboxCommandsComplete_4.stitches) ∧ (t.skeins = w_MailboxCommandsComplete_4.skeins) ∧ (t.flash0 = w_MailboxCommandsComplete_4.flash0 ∧ t.flash1 = w_MailboxCommandsComplete_4.flash1))) = true := by decide +kernel

def w_MailboxCommandsComplete_5 : State :=
    (((withCmd (unitA) 256 9 0x102 [3,0,20,0])).updSlotC (slotKey 256 5) (fun x => { x with gen := 3, phase := .waiting, acceptedAt := 77, bytes := leBytes 2 0x414 ++ leBytes 2 0 ++ leBytes 4 (5 * 2 ^ 18 + 3) })).updMbx 256 (fun m => { m with order := [5, 9] })

theorem test_MailboxCommandsComplete_5 :
    (Ready w_MailboxCommandsComplete_5 ((256 : Mb)) ((9 : Fin 64)) 0x102) ∧
    (w_MailboxCommandsComplete_5.handleSlot ((256 : Mb)) (u32 (payloadOf w_MailboxCommandsComplete_5 ((256 : Mb)) ((9 : Fin 64))) 0) = some 5) ∧
    (5 ≠ ((9 : Fin 64)).val) ∧
    ((cmdOf w_MailboxCommandsComplete_5 ((256 : Mb)) 5).phase = .waiting) ∧
    ((w_MailboxCommandsComplete_5.mbx ((256 : Mb))).order = [5, ((9 : Fin 64)).val]) ∧
    (flagBit (cmdOf w_MailboxCommandsComplete_5 ((256 : Mb)) ((9 : Fin 64))) 0 = false ∧ flagBit (cmdOf w_MailboxCommandsComplete_5 ((256 : Mb)) ((9 : Fin 64))) 2 = false) ∧
    (w_MailboxCommandsComplete_5.get (VI_CQ_CONS_cons ((256 : Mb))) = w_MailboxCommandsComplete_5.get (VI_CQ_PROD_prod ((256 : Mb)))) ∧
    after (exec (.mbxAbort ((256 : Mb)) ((9 : Fin 64))) w_MailboxCommandsComplete_5) (fun t => decide ((Done t ((256 : Mb)) ((9 : Fin 64)) (cmdOf w_MailboxCommandsComplete_5 ((256 : Mb)) ((9 : Fin 64))) 0 0 0) ∧ ((cmdOf t ((256 : Mb)) 5).phase = .free) ∧ (Mem.readBytes Mem.blank t.mem (winBase ((256 : Mb)) + 0x1000 + 16 * (w_MailboxCommandsComplete_5.get (VI_CQ_PROD_prod ((256 : Mb))) % 256)) 16 = leBytes 4 (cmdOf w_MailboxCommandsComplete_5 ((256 : Mb)) 5).handle ++ leBytes 2 6 ++ leBytes 2 1 ++ leBytes 8 0) ∧ (t.get (VI_CQ_PROD_prod ((256 : Mb))) = (w_MailboxCommandsComplete_5.get (VI_CQ_PROD_prod ((256 : Mb))) + 2) % 512) ∧ ((t.mbx ((256 : Mb))).order = []) ∧ (t.stitches = w_MailboxCommandsComplete_5.stitches) ∧ (t.skeins = w_MailboxCommandsComplete_5.skeins) ∧ (t.flash0 = w_MailboxCommandsComplete_5.flash0 ∧ t.flash1 = w_MailboxCommandsComplete_5.flash1))) = true := by decide +kernel

def w_MailboxCommandsComplete_6 : State :=
    (((withCmd (unitA) 256 9 0x102 [3,0,20,0])).updSlotC (slotKey 256 5) (fun x => { x with gen := 3, phase := .started, acceptedAt := 77, bytes := leBytes 2 0x414 ++ leBytes 2 0 ++ leBytes 4 (5 * 2 ^ 18 + 3) })).updMbx 256 (fun m => { m with order := [5, 9] })

theorem test_MailboxCommandsComplete_6 :
    (Ready w_MailboxCommandsComplete_6 ((256 : Mb)) ((9 : Fin 64)) 0x102) ∧
    (w_MailboxCommandsComplete_6.handleSlot ((256 : Mb)) (u32 (payloadOf w_MailboxCommandsComplete_6 ((256 : Mb)) ((9 : Fin 64))) 0) = some 5) ∧
    (5 ≠ ((9 : Fin 64)).val) ∧
    ((cmdOf w_MailboxCommandsComplete_6 ((256 : Mb)) 5).phase = .started) ∧
    (Tail w_MailboxCommandsComplete_6 ((256 : Mb)) ((9 : Fin 64))) ∧
    after (exec (.mbxAbort ((256 : Mb)) ((9 : Fin 64))) w_MailboxCommandsComplete_6) (fun t => decide ((Done t ((256 : Mb)) ((9 : Fin 64)) (cmdOf w_MailboxCommandsComplete_6 ((256 : Mb)) ((9 : Fin 64))) 2 2 0) ∧ (cmdOf t ((256 : Mb)) 5 = cmdOf w_MailboxCommandsComplete_6 ((256 : Mb)) 5) ∧ (t.stitches = w_MailboxCommandsComplete_6.stitches) ∧ (t.skeins = w_MailboxCommandsComplete_6.skeins) ∧ (t.flash0 = w_MailboxCommandsComplete_6.flash0 ∧ t.flash1 = w_MailboxCommandsComplete_6.flash1))) = true := by decide +kernel

theorem test_MailboxCommandsComplete_7 :
    (Ready ((withCmd (unitA) 256 9 0x102 [0,0,36,0])) ((256 : Mb)) ((9 : Fin 64)) 0x102) ∧
    (u32 (payloadOf ((withCmd (unitA) 256 9 0x102 [0,0,36,0])) ((256 : Mb)) ((9 : Fin 64))) 0 / 2 ^ 18 % 64 = ((9 : Fin 64)).val ∧ u32 (payloadOf ((withCmd (unitA) 256 9 0x102 [0,0,36,0])) ((256 : Mb)) ((9 : Fin 64))) 0 / 2 ^ 24 = ((256 : Mb)).val % 256) ∧
    (Tail ((withCmd (unitA) 256 9 0x102 [0,0,36,0])) ((256 : Mb)) ((9 : Fin 64))) ∧
    after (exec (.mbxAbort ((256 : Mb)) ((9 : Fin 64))) ((withCmd (unitA) 256 9 0x102 [0,0,36,0]))) (fun t => decide ((Done t ((256 : Mb)) ((9 : Fin 64)) (cmdOf ((withCmd (unitA) 256 9 0x102 [0,0,36,0])) ((256 : Mb)) ((9 : Fin 64))) 4 0 0) ∧ (t.stitches = ((withCmd (unitA) 256 9 0x102 [0,0,36,0])).stitches) ∧ (t.skeins = ((withCmd (unitA) 256 9 0x102 [0,0,36,0])).skeins) ∧ (t.flash0 = ((withCmd (unitA) 256 9 0x102 [0,0,36,0])).flash0 ∧ t.flash1 = ((withCmd (unitA) 256 9 0x102 [0,0,36,0])).flash1))) = true := by decide +kernel

theorem test_MailboxCommandsComplete_8 :
    (Ready ((withCmd (unitA) 256 9 0x102 [0,0,20,0])) ((256 : Mb)) ((9 : Fin 64)) 0x102) ∧
    (((withCmd (unitA) 256 9 0x102 [0,0,20,0])).handleSlot ((256 : Mb)) (u32 (payloadOf ((withCmd (unitA) 256 9 0x102 [0,0,20,0])) ((256 : Mb)) ((9 : Fin 64))) 0) = none) ∧
    (u32 (payloadOf ((withCmd (unitA) 256 9 0x102 [0,0,20,0])) ((256 : Mb)) ((9 : Fin 64))) 0 / 2 ^ 18 % 64 ≠ ((9 : Fin 64)).val) ∧
    (Tail ((withCmd (unitA) 256 9 0x102 [0,0,20,0])) ((256 : Mb)) ((9 : Fin 64))) ∧
    after (exec (.mbxAbort ((256 : Mb)) ((9 : Fin 64))) ((withCmd (unitA) 256 9 0x102 [0,0,20,0]))) (fun t => decide ((Done t ((256 : Mb)) ((9 : Fin 64)) (cmdOf ((withCmd (unitA) 256 9 0x102 [0,0,20,0])) ((256 : Mb)) ((9 : Fin 64))) 5 0 0) ∧ (t.stitches = ((withCmd (unitA) 256 9 0x102 [0,0,20,0])).stitches) ∧ (t.skeins = ((withCmd (unitA) 256 9 0x102 [0,0,20,0])).skeins) ∧ (t.flash0 = ((withCmd (unitA) 256 9 0x102 [0,0,20,0])).flash0 ∧ t.flash1 = ((withCmd (unitA) 256 9 0x102 [0,0,20,0])).flash1))) = true := by decide +kernel

def w_InterfacesAreAssignedAndReleased_1 : State :=
    (withCmd ((unitA.setF SEC_STATUS_drbg 1)) 256 9 0x110 [48])

theorem test_InterfacesAreAssignedAndReleased_1 :
    (Ready w_InterfacesAreAssignedAndReleased_1 ((256 : Mb)) ((9 : Fin 64)) 0x110) ∧
    (NoRung w_InterfacesAreAssignedAndReleased_1) ∧
    ((u16 (payloadOf w_InterfacesAreAssignedAndReleased_1 ((256 : Mb)) ((9 : Fin 64))) 0) < 256) ∧
    (w_InterfacesAreAssignedAndReleased_1.assigned (u16 (payloadOf w_InterfacesAreAssignedAndReleased_1 ((256 : Mb)) ((9 : Fin 64))) 0) = false) ∧
    (w_InterfacesAreAssignedAndReleased_1.trust.queue = []) ∧
    (w_InterfacesAreAssignedAndReleased_1.get SEC_STATUS_drbg = 1) ∧
    after (exec (.viAssign ((256 : Mb)) ((9 : Fin 64))) w_InterfacesAreAssignedAndReleased_1) (fun t => decide ((Done t ((256 : Mb)) ((9 : Fin 64)) (cmdOf w_InterfacesAreAssignedAndReleased_1 ((256 : Mb)) ((9 : Fin 64))) 0 0 (((w_InterfacesAreAssignedAndReleased_1.mbx (u16 (payloadOf w_InterfacesAreAssignedAndReleased_1 ((256 : Mb)) ((9 : Fin 64))) 0)).viGen + 1) % 65536 + 65536 * (((w_InterfacesAreAssignedAndReleased_1.mbx (u16 (payloadOf w_InterfacesAreAssignedAndReleased_1 ((256 : Mb)) ((9 : Fin 64))) 0)).keyCount + 1) % 65536))) ∧ (t.assigned (u16 (payloadOf w_InterfacesAreAssignedAndReleased_1 ((256 : Mb)) ((9 : Fin 64))) 0) = true) ∧ ((t.mbx (u16 (payloadOf w_InterfacesAreAssignedAndReleased_1 ((256 : Mb)) ((9 : Fin 64))) 0)).keyGen = some (((w_InterfacesAreAssignedAndReleased_1.mbx (u16 (payloadOf w_InterfacesAreAssignedAndReleased_1 ((256 : Mb)) ((9 : Fin 64))) 0)).keyCount + 1) % 65536)) ∧ (t.get (VI_ID_vi_gen (u16 (payloadOf w_InterfacesAreAssignedAndReleased_1 ((256 : Mb)) ((9 : Fin 64))) 0)) = ((w_InterfacesAreAssignedAndReleased_1.mbx (u16 (payloadOf w_InterfacesAreAssignedAndReleased_1 ((256 : Mb)) ((9 : Fin 64))) 0)).viGen + 1) % 65536) ∧ (t.stitches = w_InterfacesAreAssignedAndReleased_1.stitches) ∧ (t.skeins = w_InterfacesAreAssignedAndReleased_1.skeins) ∧ (t.flash0 = w_InterfacesAreAssignedAndReleased_1.flash0 ∧ t.flash1 = w_InterfacesAreAssignedAndReleased_1.flash1))) = true := by decide +kernel

def w_InterfacesAreAssignedAndReleased_2 : State :=
    (withCmd ((unitA.setF SEC_STATUS_drbg 2)) 256 9 0x110 [48])

theorem test_InterfacesAreAssignedAndReleased_2 :
    (Ready w_InterfacesAreAssignedAndReleased_2 ((256 : Mb)) ((9 : Fin 64)) 0x110) ∧
    (NoRung w_InterfacesAreAssignedAndReleased_2) ∧
    ((u16 (payloadOf w_InterfacesAreAssignedAndReleased_2 ((256 : Mb)) ((9 : Fin 64))) 0) < 256) ∧
    (w_InterfacesAreAssignedAndReleased_2.assigned (u16 (payloadOf w_InterfacesAreAssignedAndReleased_2 ((256 : Mb)) ((9 : Fin 64))) 0) = false) ∧
    (w_InterfacesAreAssignedAndReleased_2.trust.queue = []) ∧
    (w_InterfacesAreAssignedAndReleased_2.get SEC_STATUS_drbg = 2) ∧
    after (exec (.viAssign ((256 : Mb)) ((9 : Fin 64))) w_InterfacesAreAssignedAndReleased_2) (fun t => decide (((cmdOf t ((256 : Mb)) ((9 : Fin 64))).phase = .started) ∧ (t.trust.queue = [.viKey ((256 : Mb)) ((9 : Fin 64)) (u16 (payloadOf w_InterfacesAreAssignedAndReleased_2 ((256 : Mb)) ((9 : Fin 64))) 0)]) ∧ (t.get SEC_STATUS_queue = 1) ∧ (t.assigned (u16 (payloadOf w_InterfacesAreAssignedAndReleased_2 ((256 : Mb)) ((9 : Fin 64))) 0) = false) ∧ (t.mem = w_InterfacesAreAssignedAndReleased_2.mem) ∧ (t.stitches = w_InterfacesAreAssignedAndReleased_2.stitches) ∧ (t.skeins = w_InterfacesAreAssignedAndReleased_2.skeins) ∧ (t.flash0 = w_InterfacesAreAssignedAndReleased_2.flash0 ∧ t.flash1 = w_InterfacesAreAssignedAndReleased_2.flash1))) = true := by decide +kernel

def w_InterfacesAreAssignedAndReleased_3 : State :=
    (withCmd ((unitA.setF SEC_STATUS_drbg 3)) 256 9 0x110 [48])

theorem test_InterfacesAreAssignedAndReleased_3 :
    (Ready w_InterfacesAreAssignedAndReleased_3 ((256 : Mb)) ((9 : Fin 64)) 0x110) ∧
    (NoRung w_InterfacesAreAssignedAndReleased_3) ∧
    ((u16 (payloadOf w_InterfacesAreAssignedAndReleased_3 ((256 : Mb)) ((9 : Fin 64))) 0) < 256) ∧
    (w_InterfacesAreAssignedAndReleased_3.assigned (u16 (payloadOf w_InterfacesAreAssignedAndReleased_3 ((256 : Mb)) ((9 : Fin 64))) 0) = false) ∧
    (w_InterfacesAreAssignedAndReleased_3.trust.queue = []) ∧
    (w_InterfacesAreAssignedAndReleased_3.get SEC_STATUS_drbg = 3 ∧ w_InterfacesAreAssignedAndReleased_3.trust.instAt = none) ∧
    (Tail w_InterfacesAreAssignedAndReleased_3 ((256 : Mb)) ((9 : Fin 64))) ∧
    after (exec (.viAssign ((256 : Mb)) ((9 : Fin 64))) w_InterfacesAreAssignedAndReleased_3) (fun t => decide ((Done t ((256 : Mb)) ((9 : Fin 64)) (cmdOf w_InterfacesAreAssignedAndReleased_3 ((256 : Mb)) ((9 : Fin 64))) 8 0 0) ∧ (t.assigned (u16 (payloadOf w_InterfacesAreAssignedAndReleased_3 ((256 : Mb)) ((9 : Fin 64))) 0) = false) ∧ (t.stitches = w_InterfacesAreAssignedAndReleased_3.stitches) ∧ (t.skeins = w_InterfacesAreAssignedAndReleased_3.skeins) ∧ (t.flash0 = w_InterfacesAreAssignedAndReleased_3.flash0 ∧ t.flash1 = w_InterfacesAreAssignedAndReleased_3.flash1))) = true := by decide +kernel

def w_InterfacesAreAssignedAndReleased_4 : State :=
    (withCmd ((({ unitA with ct := 1600000, bulkTurn := 200 }.setB (VI_STATUS_assigned 48) true).updMbx 48 (fun m => { m with keyGen := some 3, keyCount := 3, viGen := 3, tokens := 0 }))) 256 9 0x110 [48])

theorem test_InterfacesAreAssignedAndReleased_4 :
    (Ready w_InterfacesAreAssignedAndReleased_4 ((256 : Mb)) ((9 : Fin 64)) 0x110) ∧
    (NoRung w_InterfacesAreAssignedAndReleased_4) ∧
    ((u16 (payloadOf w_InterfacesAreAssignedAndReleased_4 ((256 : Mb)) ((9 : Fin 64))) 0) < 256) ∧
    (w_InterfacesAreAssignedAndReleased_4.assigned (u16 (payloadOf w_InterfacesAreAssignedAndReleased_4 ((256 : Mb)) ((9 : Fin 64))) 0) = true) ∧
    (Tail w_InterfacesAreAssignedAndReleased_4 ((256 : Mb)) ((9 : Fin 64))) ∧
    after (exec (.viAssign ((256 : Mb)) ((9 : Fin 64))) w_InterfacesAreAssignedAndReleased_4) (fun t => decide ((Done t ((256 : Mb)) ((9 : Fin 64)) (cmdOf w_InterfacesAreAssignedAndReleased_4 ((256 : Mb)) ((9 : Fin 64))) 2 2 0) ∧ ((t.mbx (u16 (payloadOf w_InterfacesAreAssignedAndReleased_4 ((256 : Mb)) ((9 : Fin 64))) 0)).keyGen = (w_InterfacesAreAssignedAndReleased_4.mbx (u16 (payloadOf w_InterfacesAreAssignedAndReleased_4 ((256 : Mb)) ((9 : Fin 64))) 0)).keyGen) ∧ (t.stitches = w_InterfacesAreAssignedAndReleased_4.stitches) ∧ (t.skeins = w_InterfacesAreAssignedAndReleased_4.skeins) ∧ (t.flash0 = w_InterfacesAreAssignedAndReleased_4.flash0 ∧ t.flash1 = w_InterfacesAreAssignedAndReleased_4.flash1))) = true := by decide +kernel

theorem test_InterfacesAreAssignedAndReleased_5 :
    (Ready ((withCmd (unitA) 256 9 0x111 [48])) ((256 : Mb)) ((9 : Fin 64)) 0x111) ∧
    (NoRung ((withCmd (unitA) 256 9 0x111 [48]))) ∧
    ((u16 (payloadOf ((withCmd (unitA) 256 9 0x111 [48])) ((256 : Mb)) ((9 : Fin 64))) 0) < 256) ∧
    (((withCmd (unitA) 256 9 0x111 [48])).assigned (u16 (payloadOf ((withCmd (unitA) 256 9 0x111 [48])) ((256 : Mb)) ((9 : Fin 64))) 0) = false) ∧
    after (exec (.viRelease ((256 : Mb)) ((9 : Fin 64))) ((withCmd (unitA) 256 9 0x111 [48]))) (fun t => decide ((Done t ((256 : Mb)) ((9 : Fin 64)) (cmdOf ((withCmd (unitA) 256 9 0x111 [48])) ((256 : Mb)) ((9 : Fin 64))) 0 0 0) ∧ (t.assigned (u16 (payloadOf ((withCmd (unitA) 256 9 0x111 [48])) ((256 : Mb)) ((9 : Fin 64))) 0) = false) ∧ (t.trust = ((withCmd (unitA) 256 9 0x111 [48])).trust) ∧ (t.eph = ((withCmd (unitA) 256 9 0x111 [48])).eph) ∧ (t.stitches = ((withCmd (unitA) 256 9 0x111 [48])).stitches) ∧ (t.skeins = ((withCmd (unitA) 256 9 0x111 [48])).skeins) ∧ (t.flash0 = ((withCmd (unitA) 256 9 0x111 [48])).flash0 ∧ t.flash1 = ((withCmd (unitA) 256 9 0x111 [48])).flash1))) = true := by decide +kernel

def w_InterfacesAreAssignedAndReleased_6 : State :=
    (withCmd ((((({ unitA with ct := 1600000, bulkTurn := 200 }.setB (VI_STATUS_assigned 48) true).updMbx 48 (fun m => { m with keyGen := some 3, keyCount := 3, viGen := 3, tokens := 0 }))).updSlotC (slotKey 48 7) (fun x => { x with gen := 4, phase := .waiting, bytes := leBytes 2 0x414 ++ leBytes 2 0 ++ leBytes 4 0x301C0004 })).updMbx 48 (fun m => { m with order := [7] })) 256 9 0x111 [48])

theorem test_InterfacesAreAssignedAndReleased_6 :
    (Ready w_InterfacesAreAssignedAndReleased_6 ((256 : Mb)) ((9 : Fin 64)) 0x111) ∧
    (NoRung w_InterfacesAreAssignedAndReleased_6) ∧
    ((u16 (payloadOf w_InterfacesAreAssignedAndReleased_6 ((256 : Mb)) ((9 : Fin 64))) 0) < 256) ∧
    (w_InterfacesAreAssignedAndReleased_6.assigned (u16 (payloadOf w_InterfacesAreAssignedAndReleased_6 ((256 : Mb)) ((9 : Fin 64))) 0) = true) ∧
    ((w_InterfacesAreAssignedAndReleased_6.mbx (u16 (payloadOf w_InterfacesAreAssignedAndReleased_6 ((256 : Mb)) ((9 : Fin 64))) 0)).order = [((7 : Fin 64)).val]) ∧
    ((cmdOf w_InterfacesAreAssignedAndReleased_6 (u16 (payloadOf w_InterfacesAreAssignedAndReleased_6 ((256 : Mb)) ((9 : Fin 64))) 0) ((7 : Fin 64))).phase = .waiting ∧ (cmdOf w_InterfacesAreAssignedAndReleased_6 (u16 (payloadOf w_InterfacesAreAssignedAndReleased_6 ((256 : Mb)) ((9 : Fin 64))) 0) ((7 : Fin 64))).acceptedAt ≠ w_InterfacesAreAssignedAndReleased_6.ct) ∧
    after (exec (.viRelease ((256 : Mb)) ((9 : Fin 64))) w_InterfacesAreAssignedAndReleased_6) (fun t => decide ((Done t ((256 : Mb)) ((9 : Fin 64)) (cmdOf w_InterfacesAreAssignedAndReleased_6 ((256 : Mb)) ((9 : Fin 64))) 0 0 0) ∧ (t.assigned (u16 (payloadOf w_InterfacesAreAssignedAndReleased_6 ((256 : Mb)) ((9 : Fin 64))) 0) = false ∧ t.get (VI_STATUS_assigned (u16 (payloadOf w_InterfacesAreAssignedAndReleased_6 ((256 : Mb)) ((9 : Fin 64))) 0)) = 0) ∧ ((t.mbx (u16 (payloadOf w_InterfacesAreAssignedAndReleased_6 ((256 : Mb)) ((9 : Fin 64))) 0)).keyGen = none ∧ (t.mbx (u16 (payloadOf w_InterfacesAreAssignedAndReleased_6 ((256 : Mb)) ((9 : Fin 64))) 0)).order = [] ∧ (t.mbx (u16 (payloadOf w_InterfacesAreAssignedAndReleased_6 ((256 : Mb)) ((9 : Fin 64))) 0)).key = none ∧ (t.mbx (u16 (payloadOf w_InterfacesAreAssignedAndReleased_6 ((256 : Mb)) ((9 : Fin 64))) 0)).deficit = 0) ∧ ((t.mbx (u16 (payloadOf w_InterfacesAreAssignedAndReleased_6 ((256 : Mb)) ((9 : Fin 64))) 0)).keyCount = (w_InterfacesAreAssignedAndReleased_6.mbx (u16 (payloadOf w_InterfacesAreAssignedAndReleased_6 ((256 : Mb)) ((9 : Fin 64))) 0)).keyCount) ∧ ((cmdOf t (u16 (payloadOf w_InterfacesAreAssignedAndReleased_6 ((256 : Mb)) ((9 : Fin 64))) 0) ((7 : Fin 64))).phase = .free ∧ (cmdOf t (u16 (payloadOf w_InterfacesAreAssignedAndReleased_6 ((256 : Mb)) ((9 : Fin 64))) 0) ((7 : Fin 64))).gen = ((cmdOf w_InterfacesAreAssignedAndReleased_6 (u16 (payloadOf w_InterfacesAreAssignedAndReleased_6 ((256 : Mb)) ((9 : Fin 64))) 0) ((7 : Fin 64))).gen + 1) % 2 ^ 18) ∧ (t.get (VI_CQ_PROD_prod (u16 (payloadOf w_InterfacesAreAssignedAndReleased_6 ((256 : Mb)) ((9 : Fin 64))) 0)) = w_InterfacesAreAssignedAndReleased_6.get (VI_CQ_PROD_prod (u16 (payloadOf w_InterfacesAreAssignedAndReleased_6 ((256 : Mb)) ((9 : Fin 64))) 0))) ∧ (t.stitches = w_InterfacesAreAssignedAndReleased_6.stitches.map (fun (x : Nat × Stitch) => (x.1, { x.2 with ring := x.2.ring.filter (fun r => decide (r.1 ≠ (u16 (payloadOf w_InterfacesAreAssignedAndReleased_6 ((256 : Mb)) ((9 : Fin 64))) 0))) }))) ∧ (t.flash0 = w_InterfacesAreAssignedAndReleased_6.flash0 ∧ t.flash1 = w_InterfacesAreAssignedAndReleased_6.flash1))) = true := by decide +kernel

def w_InterfacesAreAssignedAndReleased_7 : State :=
    (withCmd ((((({ unitA with ct := 1600000, bulkTurn := 200 }.setB (VI_STATUS_assigned 48) true).updMbx 48 (fun m => { m with keyGen := some 3, keyCount := 3, viGen := 3, tokens := 0 }))).updSlotC (slotKey 48 7) (fun x => { x with gen := 4, phase := .started, bytes := leBytes 2 0x414 ++ leBytes 2 0 ++ leBytes 4 0x301C0004 })).updMbx 48 (fun m => { m with order := [7] })) 256 9 0x111 [48])

theorem test_InterfacesAreAssignedAndReleased_7 :
    (Ready w_InterfacesAreAssignedAndReleased_7 ((256 : Mb)) ((9 : Fin 64)) 0x111) ∧
    (NoRung w_InterfacesAreAssignedAndReleased_7) ∧
    ((u16 (payloadOf w_InterfacesAreAssignedAndReleased_7 ((256 : Mb)) ((9 : Fin 64))) 0) < 256) ∧
    (w_InterfacesAreAssignedAndReleased_7.assigned (u16 (payloadOf w_InterfacesAreAssignedAndReleased_7 ((256 : Mb)) ((9 : Fin 64))) 0) = true) ∧
    ((w_InterfacesAreAssignedAndReleased_7.mbx (u16 (payloadOf w_InterfacesAreAssignedAndReleased_7 ((256 : Mb)) ((9 : Fin 64))) 0)).order = [((7 : Fin 64)).val]) ∧
    ((cmdOf w_InterfacesAreAssignedAndReleased_7 (u16 (payloadOf w_InterfacesAreAssignedAndReleased_7 ((256 : Mb)) ((9 : Fin 64))) 0) ((7 : Fin 64))).phase = .started) ∧
    (w_InterfacesAreAssignedAndReleased_7.ringFull (u16 (payloadOf w_InterfacesAreAssignedAndReleased_7 ((256 : Mb)) ((9 : Fin 64))) 0) = false ∧ (w_InterfacesAreAssignedAndReleased_7.mbx (u16 (payloadOf w_InterfacesAreAssignedAndReleased_7 ((256 : Mb)) ((9 : Fin 64))) 0)).cqWait = []) ∧
    after (exec (.viRelease ((256 : Mb)) ((9 : Fin 64))) w_InterfacesAreAssignedAndReleased_7) (fun t => decide ((Done t ((256 : Mb)) ((9 : Fin 64)) (cmdOf w_InterfacesAreAssignedAndReleased_7 ((256 : Mb)) ((9 : Fin 64))) 0 0 0) ∧ (t.assigned (u16 (payloadOf w_InterfacesAreAssignedAndReleased_7 ((256 : Mb)) ((9 : Fin 64))) 0) = false ∧ t.get (VI_STATUS_assigned (u16 (payloadOf w_InterfacesAreAssignedAndReleased_7 ((256 : Mb)) ((9 : Fin 64))) 0)) = 0) ∧ ((t.mbx (u16 (payloadOf w_InterfacesAreAssignedAndReleased_7 ((256 : Mb)) ((9 : Fin 64))) 0)).keyGen = none ∧ (t.mbx (u16 (payloadOf w_InterfacesAreAssignedAndReleased_7 ((256 : Mb)) ((9 : Fin 64))) 0)).order = [] ∧ (t.mbx (u16 (payloadOf w_InterfacesAreAssignedAndReleased_7 ((256 : Mb)) ((9 : Fin 64))) 0)).key = none ∧ (t.mbx (u16 (payloadOf w_InterfacesAreAssignedAndReleased_7 ((256 : Mb)) ((9 : Fin 64))) 0)).deficit = 0) ∧ ((t.mbx (u16 (payloadOf w_InterfacesAreAssignedAndReleased_7 ((256 : Mb)) ((9 : Fin 64))) 0)).keyCount = (w_InterfacesAreAssignedAndReleased_7.mbx (u16 (payloadOf w_InterfacesAreAssignedAndReleased_7 ((256 : Mb)) ((9 : Fin 64))) 0)).keyCount) ∧ (Done t (u16 (payloadOf w_InterfacesAreAssignedAndReleased_7 ((256 : Mb)) ((9 : Fin 64))) 0) ((7 : Fin 64)) (cmdOf w_InterfacesAreAssignedAndReleased_7 (u16 (payloadOf w_InterfacesAreAssignedAndReleased_7 ((256 : Mb)) ((9 : Fin 64))) 0) ((7 : Fin 64))) 6 2 0) ∧ (t.stitches = w_InterfacesAreAssignedAndReleased_7.stitches.map (fun (x : Nat × Stitch) => (x.1, { x.2 with ring := x.2.ring.filter (fun r => decide (r.1 ≠ (u16 (payloadOf w_InterfacesAreAssignedAndReleased_7 ((256 : Mb)) ((9 : Fin 64))) 0))) }))) ∧ (t.flash0 = w_InterfacesAreAssignedAndReleased_7.flash0 ∧ t.flash1 = w_InterfacesAreAssignedAndReleased_7.flash1))) = true := by decide +kernel

def w_InterfacesAreAssignedAndReleased_8 : State :=
    (withCmd (unitA) 256 9 0x112 [12, 1, 255, 255])

theorem test_InterfacesAreAssignedAndReleased_8 :
    (Ready w_InterfacesAreAssignedAndReleased_8 ((256 : Mb)) ((9 : Fin 64)) 0x112) ∧
    (u8 (payloadOf w_InterfacesAreAssignedAndReleased_8 ((256 : Mb)) ((9 : Fin 64))) 0 < 64 ∧ u8 (payloadOf w_InterfacesAreAssignedAndReleased_8 ((256 : Mb)) ((9 : Fin 64))) 1 < 4) ∧
    (u16 (payloadOf w_InterfacesAreAssignedAndReleased_8 ((256 : Mb)) ((9 : Fin 64))) 2 < 256 ∨ u16 (payloadOf w_InterfacesAreAssignedAndReleased_8 ((256 : Mb)) ((9 : Fin 64))) 2 = 0xFFFF) ∧
    ((List.range 256).all (fun i => decide (i = 4 * u8 (payloadOf w_InterfacesAreAssignedAndReleased_8 ((256 : Mb)) ((9 : Fin 64))) 0 + u8 (payloadOf w_InterfacesAreAssignedAndReleased_8 ((256 : Mb)) ((9 : Fin 64))) 1 ∨ w_InterfacesAreAssignedAndReleased_8.mappedNext i ≠ some (u16 (payloadOf w_InterfacesAreAssignedAndReleased_8 ((256 : Mb)) ((9 : Fin 64))) 2))) = true) ∧
    after (exec (.viMap ((256 : Mb)) ((9 : Fin 64))) w_InterfacesAreAssignedAndReleased_8) (fun t => decide ((Done t ((256 : Mb)) ((9 : Fin 64)) (cmdOf w_InterfacesAreAssignedAndReleased_8 ((256 : Mb)) ((9 : Fin 64))) 0 0 0) ∧ (t.mappedNext (4 * u8 (payloadOf w_InterfacesAreAssignedAndReleased_8 ((256 : Mb)) ((9 : Fin 64))) 0 + u8 (payloadOf w_InterfacesAreAssignedAndReleased_8 ((256 : Mb)) ((9 : Fin 64))) 1) = (if u16 (payloadOf w_InterfacesAreAssignedAndReleased_8 ((256 : Mb)) ((9 : Fin 64))) 2 = 0xFFFF then none else some (u16 (payloadOf w_InterfacesAreAssignedAndReleased_8 ((256 : Mb)) ((9 : Fin 64))) 2))) ∧ (t.viMap = w_InterfacesAreAssignedAndReleased_8.viMap) ∧ (t.stitches = w_InterfacesAreAssignedAndReleased_8.stitches) ∧ (t.skeins = w_InterfacesAreAssignedAndReleased_8.skeins) ∧ (t.flash0 = w_InterfacesAreAssignedAndReleased_8.flash0 ∧ t.flash1 = w_InterfacesAreAssignedAndReleased_8.flash1))) = true := by decide +kernel

def w_InterfacesAreAssignedAndReleased_9 : State :=
    (withCmd (unitA) 256 9 0x112 [12, 1, 7, 0])

theorem test_InterfacesAreAssignedAndReleased_9 :
    (Ready w_InterfacesAreAssignedAndReleased_9 ((256 : Mb)) ((9 : Fin 64)) 0x112) ∧
    (u8 (payloadOf w_InterfacesAreAssignedAndReleased_9 ((256 : Mb)) ((9 : Fin 64))) 0 < 64 ∧ u8 (payloadOf w_InterfacesAreAssignedAndReleased_9 ((256 : Mb)) ((9 : Fin 64))) 1 < 4) ∧
    (7 < 256 ∧ 7 ≠ 4 * u8 (payloadOf w_InterfacesAreAssignedAndReleased_9 ((256 : Mb)) ((9 : Fin 64))) 0 + u8 (payloadOf w_InterfacesAreAssignedAndReleased_9 ((256 : Mb)) ((9 : Fin 64))) 1) ∧
    (w_InterfacesAreAssignedAndReleased_9.mappedNext 7 = some (u16 (payloadOf w_InterfacesAreAssignedAndReleased_9 ((256 : Mb)) ((9 : Fin 64))) 2)) ∧
    (Tail w_InterfacesAreAssignedAndReleased_9 ((256 : Mb)) ((9 : Fin 64))) ∧
    after (exec (.viMap ((256 : Mb)) ((9 : Fin 64))) w_InterfacesAreAssignedAndReleased_9) (fun t => decide ((Done t ((256 : Mb)) ((9 : Fin 64)) (cmdOf w_InterfacesAreAssignedAndReleased_9 ((256 : Mb)) ((9 : Fin 64))) 4 2 0) ∧ (t.viMapNext = w_InterfacesAreAssignedAndReleased_9.viMapNext) ∧ (t.stitches = w_InterfacesAreAssignedAndReleased_9.stitches) ∧ (t.skeins = w_InterfacesAreAssignedAndReleased_9.skeins) ∧ (t.flash0 = w_InterfacesAreAssignedAndReleased_9.flash0 ∧ t.flash1 = w_InterfacesAreAssignedAndReleased_9.flash1))) = true := by decide +kernel

def w_InterfacesAreAssignedAndReleased_10 : State :=
    (withCmd ({ (unitA.setB (VI_STATUS_assigned 49) true) with skeins := [(72, { known := true, slot := 12, stitches := [40] })] }) 256 9 0x113 [72, 0, 1])

theorem test_InterfacesAreAssignedAndReleased_10 :
    (Ready w_InterfacesAreAssignedAndReleased_10 ((256 : Mb)) ((9 : Fin 64)) 0x113) ∧
    (w_InterfacesAreAssignedAndReleased_10.skeinBad ((256 : Mb)) (u16 (payloadOf w_InterfacesAreAssignedAndReleased_10 ((256 : Mb)) ((9 : Fin 64))) 0) = false) ∧
    (u8 (payloadOf w_InterfacesAreAssignedAndReleased_10 ((256 : Mb)) ((9 : Fin 64))) 2 < 4) ∧
    (w_InterfacesAreAssignedAndReleased_10.mapped (w_InterfacesAreAssignedAndReleased_10.sk (u16 (payloadOf w_InterfacesAreAssignedAndReleased_10 ((256 : Mb)) ((9 : Fin 64))) 0)).slot (u8 (payloadOf w_InterfacesAreAssignedAndReleased_10 ((256 : Mb)) ((9 : Fin 64))) 2) = some 49) ∧
    (w_InterfacesAreAssignedAndReleased_10.assigned 49 = true) ∧
    (w_InterfacesAreAssignedAndReleased_10.ownsPort (w_InterfacesAreAssignedAndReleased_10.sk (u16 (payloadOf w_InterfacesAreAssignedAndReleased_10 ((256 : Mb)) ((9 : Fin 64))) 0)).slot = true) ∧
    (w_InterfacesAreAssignedAndReleased_10.traceEngine (u16 (payloadOf w_InterfacesAreAssignedAndReleased_10 ((256 : Mb)) ((9 : Fin 64))) 0) = none) ∧
    after (exec (.objAssign ((256 : Mb)) ((9 : Fin 64))) w_InterfacesAreAssignedAndReleased_10) (fun t => decide ((Done t ((256 : Mb)) ((9 : Fin 64)) (cmdOf w_InterfacesAreAssignedAndReleased_10 ((256 : Mb)) ((9 : Fin 64))) 0 0 0) ∧ (t.sk (u16 (payloadOf w_InterfacesAreAssignedAndReleased_10 ((256 : Mb)) ((9 : Fin 64))) 0) = { w_InterfacesAreAssignedAndReleased_10.sk (u16 (payloadOf w_InterfacesAreAssignedAndReleased_10 ((256 : Mb)) ((9 : Fin 64))) 0) with fn := u8 (payloadOf w_InterfacesAreAssignedAndReleased_10 ((256 : Mb)) ((9 : Fin 64))) 2 }) ∧ (t.skOwner (u16 (payloadOf w_InterfacesAreAssignedAndReleased_10 ((256 : Mb)) ((9 : Fin 64))) 0) = 49) ∧ (t.stitches = w_InterfacesAreAssignedAndReleased_10.stitches) ∧ (t.flash0 = w_InterfacesAreAssignedAndReleased_10.flash0 ∧ t.flash1 = w_InterfacesAreAssignedAndReleased_10.flash1))) = true := by decide +kernel

def w_InterfacesAreAssignedAndReleased_11 : State :=
    (withCmd ({ unitA with skeins := [(72, { known := true, slot := 12, stitches := [40] })] }) 256 9 0x113 [72, 0, 1])

theorem test_InterfacesAreAssignedAndReleased_11 :
    (Ready w_InterfacesAreAssignedAndReleased_11 ((256 : Mb)) ((9 : Fin 64)) 0x113) ∧
    (w_InterfacesAreAssignedAndReleased_11.skeinBad ((256 : Mb)) (u16 (payloadOf w_InterfacesAreAssignedAndReleased_11 ((256 : Mb)) ((9 : Fin 64))) 0) = false) ∧
    (w_InterfacesAreAssignedAndReleased_11.mapped (w_InterfacesAreAssignedAndReleased_11.sk (u16 (payloadOf w_InterfacesAreAssignedAndReleased_11 ((256 : Mb)) ((9 : Fin 64))) 0)).slot (u8 (payloadOf w_InterfacesAreAssignedAndReleased_11 ((256 : Mb)) ((9 : Fin 64))) 2) = none ∨ u8 (payloadOf w_InterfacesAreAssignedAndReleased_11 ((256 : Mb)) ((9 : Fin 64))) 2 = 1 ∧ w_InterfacesAreAssignedAndReleased_11.assigned ((w_InterfacesAreAssignedAndReleased_11.mapped (w_InterfacesAreAssignedAndReleased_11.sk (u16 (payloadOf w_InterfacesAreAssignedAndReleased_11 ((256 : Mb)) ((9 : Fin 64))) 0)).slot 1).getD 0) = false) ∧
    (Tail w_InterfacesAreAssignedAndReleased_11 ((256 : Mb)) ((9 : Fin 64))) ∧
    after (exec (.objAssign ((256 : Mb)) ((9 : Fin 64))) w_InterfacesAreAssignedAndReleased_11) (fun t => decide ((Done t ((256 : Mb)) ((9 : Fin 64)) (cmdOf w_InterfacesAreAssignedAndReleased_11 ((256 : Mb)) ((9 : Fin 64))) 4 2 0) ∧ (t.stitches = w_InterfacesAreAssignedAndReleased_11.stitches) ∧ (t.skeins = w_InterfacesAreAssignedAndReleased_11.skeins) ∧ (t.flash0 = w_InterfacesAreAssignedAndReleased_11.flash0 ∧ t.flash1 = w_InterfacesAreAssignedAndReleased_11.flash1))) = true := by decide +kernel

def w_PatternBanksAreWrittenAndCommitted_1 : State :=
    (withCmd (unitA) 256 9 0x120 [16, 0, 0, 0, 2, 0, 0, 0, 0, 0, 0, 0, 0, 0, 0, 0, 5, 6])

theorem test_PatternBanksAreWrittenAndCommitted_1 :
    (Ready w_PatternBanksAreWrittenAndCommitted_1 ((256 : Mb)) ((9 : Fin 64)) 0x120) ∧
    (1 ≤ u16 (payloadOf w_PatternBanksAreWrittenAndCommitted_1 ((256 : Mb)) ((9 : Fin 64))) 4 ∧ u16 (payloadOf w_PatternBanksAreWrittenAndCommitted_1 ((256 : Mb)) ((9 : Fin 64))) 4 ≤ 224) ∧
    (w_PatternBanksAreWrittenAndCommitted_1.trust.planAt = none) ∧
    (u32 (payloadOf w_PatternBanksAreWrittenAndCommitted_1 ((256 : Mb)) ((9 : Fin 64))) 0 ≠ 0 ∧ u32 (payloadOf w_PatternBanksAreWrittenAndCommitted_1 ((256 : Mb)) ((9 : Fin 64))) 0 % 16 = 0 ∧ u32 (payloadOf w_PatternBanksAreWrittenAndCommitted_1 ((256 : Mb)) ((9 : Fin 64))) 0 + u16 (payloadOf w_PatternBanksAreWrittenAndCommitted_1 ((256 : Mb)) ((9 : Fin 64))) 4 ≤ 8388608) ∧
    after (exec (.patternWrite ((256 : Mb)) ((9 : Fin 64))) w_PatternBanksAreWrittenAndCommitted_1) (fun t => decide ((Done t ((256 : Mb)) ((9 : Fin 64)) (cmdOf w_PatternBanksAreWrittenAndCommitted_1 ((256 : Mb)) ((9 : Fin 64))) 0 0 0) ∧ (t.flash0 = (w_PatternBanksAreWrittenAndCommitted_1.flashWrite 0 (bankBase w_PatternBanksAreWrittenAndCommitted_1.writeBank + u32 (payloadOf w_PatternBanksAreWrittenAndCommitted_1 ((256 : Mb)) ((9 : Fin 64))) 0) (((payloadOf w_PatternBanksAreWrittenAndCommitted_1 ((256 : Mb)) ((9 : Fin 64))).drop 16).take (u16 (payloadOf w_PatternBanksAreWrittenAndCommitted_1 ((256 : Mb)) ((9 : Fin 64))) 4))).flash0) ∧ (t.flash1 = (w_PatternBanksAreWrittenAndCommitted_1.flashWrite 1 (bankBase w_PatternBanksAreWrittenAndCommitted_1.writeBank + u32 (payloadOf w_PatternBanksAreWrittenAndCommitted_1 ((256 : Mb)) ((9 : Fin 64))) 0) (((payloadOf w_PatternBanksAreWrittenAndCommitted_1 ((256 : Mb)) ((9 : Fin 64))).drop 16).take (u16 (payloadOf w_PatternBanksAreWrittenAndCommitted_1 ((256 : Mb)) ((9 : Fin 64))) 4))).flash1) ∧ (t.trust.wbank = some w_PatternBanksAreWrittenAndCommitted_1.writeBank) ∧ (t.stitches = w_PatternBanksAreWrittenAndCommitted_1.stitches) ∧ (t.skeins = w_PatternBanksAreWrittenAndCommitted_1.skeins))) = true := by decide +kernel

def w_PatternBanksAreWrittenAndCommitted_2 : State :=
    (withCmd (unitA) 256 9 0x120 [0, 0, 0, 0, 2, 0, 0, 0, 0, 0, 0, 0, 0, 0, 0, 0, 5, 6])

theorem test_PatternBanksAreWrittenAndCommitted_2 :
    (Ready w_PatternBanksAreWrittenAndCommitted_2 ((256 : Mb)) ((9 : Fin 64)) 0x120) ∧
    (1 ≤ u16 (payloadOf w_PatternBanksAreWrittenAndCommitted_2 ((256 : Mb)) ((9 : Fin 64))) 4 ∧ u16 (payloadOf w_PatternBanksAreWrittenAndCommitted_2 ((256 : Mb)) ((9 : Fin 64))) 4 ≤ 224) ∧
    (w_PatternBanksAreWrittenAndCommitted_2.trust.planAt = none) ∧
    (u32 (payloadOf w_PatternBanksAreWrittenAndCommitted_2 ((256 : Mb)) ((9 : Fin 64))) 0 = 0) ∧
    after (exec (.patternWrite ((256 : Mb)) ((9 : Fin 64))) w_PatternBanksAreWrittenAndCommitted_2) (fun t => decide ((Done t ((256 : Mb)) ((9 : Fin 64)) (cmdOf w_PatternBanksAreWrittenAndCommitted_2 ((256 : Mb)) ((9 : Fin 64))) 0 0 0) ∧ (t.flash0 = ((w_PatternBanksAreWrittenAndCommitted_2.flashErase 0 (bankBase w_PatternBanksAreWrittenAndCommitted_2.writeBank) 8388608).flashWrite 0 (bankBase w_PatternBanksAreWrittenAndCommitted_2.writeBank) (((payloadOf w_PatternBanksAreWrittenAndCommitted_2 ((256 : Mb)) ((9 : Fin 64))).drop 16).take (u16 (payloadOf w_PatternBanksAreWrittenAndCommitted_2 ((256 : Mb)) ((9 : Fin 64))) 4))).flash0) ∧ (t.flash1 = ((w_PatternBanksAreWrittenAndCommitted_2.flashErase 1 (bankBase w_PatternBanksAreWrittenAndCommitted_2.writeBank) 8388608).flashWrite 1 (bankBase w_PatternBanksAreWrittenAndCommitted_2.writeBank) (((payloadOf w_PatternBanksAreWrittenAndCommitted_2 ((256 : Mb)) ((9 : Fin 64))).drop 16).take (u16 (payloadOf w_PatternBanksAreWrittenAndCommitted_2 ((256 : Mb)) ((9 : Fin 64))) 4))).flash1) ∧ (t.trust.wbank = some w_PatternBanksAreWrittenAndCommitted_2.writeBank) ∧ (t.stitches = w_PatternBanksAreWrittenAndCommitted_2.stitches) ∧ (t.skeins = w_PatternBanksAreWrittenAndCommitted_2.skeins))) = true := by decide +kernel

def w_PatternBanksAreWrittenAndCommitted_3 : State :=
    (withCmd (unitA) 256 9 0x120 [0, 0, 128, 0, 2])

theorem test_PatternBanksAreWrittenAndCommitted_3 :
    (Ready w_PatternBanksAreWrittenAndCommitted_3 ((256 : Mb)) ((9 : Fin 64)) 0x120) ∧
    (u32 (payloadOf w_PatternBanksAreWrittenAndCommitted_3 ((256 : Mb)) ((9 : Fin 64))) 0 % 16 ≠ 0 ∨ 8388608 < u32 (payloadOf w_PatternBanksAreWrittenAndCommitted_3 ((256 : Mb)) ((9 : Fin 64))) 0 + u16 (payloadOf w_PatternBanksAreWrittenAndCommitted_3 ((256 : Mb)) ((9 : Fin 64))) 4) ∧
    (Tail w_PatternBanksAreWrittenAndCommitted_3 ((256 : Mb)) ((9 : Fin 64))) ∧
    after (exec (.patternWrite ((256 : Mb)) ((9 : Fin 64))) w_PatternBanksAreWrittenAndCommitted_3) (fun t => decide ((Done t ((256 : Mb)) ((9 : Fin 64)) (cmdOf w_PatternBanksAreWrittenAndCommitted_3 ((256 : Mb)) ((9 : Fin 64))) 4 0 0) ∧ (t.stitches = w_PatternBanksAreWrittenAndCommitted_3.stitches) ∧ (t.skeins = w_PatternBanksAreWrittenAndCommitted_3.skeins) ∧ (t.flash0 = w_PatternBanksAreWrittenAndCommitted_3.flash0 ∧ t.flash1 = w_PatternBanksAreWrittenAndCommitted_3.flash1))) = true := by decide +kernel

def w_PatternBanksAreWrittenAndCommitted_4 : State :=
    (withCmd ((unitA.updTrust (fun x => { x with planAt := some 9 }))) 256 9 0x120 [0, 0, 0, 0, 2])

theorem test_PatternBanksAreWrittenAndCommitted_4 :
    (Ready w_PatternBanksAreWrittenAndCommitted_4 ((256 : Mb)) ((9 : Fin 64)) 0x120) ∧
    (1 ≤ u16 (payloadOf w_PatternBanksAreWrittenAndCommitted_4 ((256 : Mb)) ((9 : Fin 64))) 4 ∧ u16 (payloadOf w_PatternBanksAreWrittenAndCommitted_4 ((256 : Mb)) ((9 : Fin 64))) 4 ≤ 224) ∧
    (w_PatternBanksAreWrittenAndCommitted_4.trust.planAt.isSome = true) ∧
    (u32 (payloadOf w_PatternBanksAreWrittenAndCommitted_4 ((256 : Mb)) ((9 : Fin 64))) 0 = 0) ∧
    (Tail w_PatternBanksAreWrittenAndCommitted_4 ((256 : Mb)) ((9 : Fin 64))) ∧
    after (exec (.patternWrite ((256 : Mb)) ((9 : Fin 64))) w_PatternBanksAreWrittenAndCommitted_4) (fun t => decide ((Done t ((256 : Mb)) ((9 : Fin 64)) (cmdOf w_PatternBanksAreWrittenAndCommitted_4 ((256 : Mb)) ((9 : Fin 64))) 2 5 0) ∧ (t.stitches = w_PatternBanksAreWrittenAndCommitted_4.stitches) ∧ (t.skeins = w_PatternBanksAreWrittenAndCommitted_4.skeins) ∧ (t.flash0 = w_PatternBanksAreWrittenAndCommitted_4.flash0 ∧ t.flash1 = w_PatternBanksAreWrittenAndCommitted_4.flash1))) = true := by decide +kernel

theorem test_PatternBanksAreWrittenAndCommitted_5 :
    (Ready ((withCmd (unitA) 256 9 0x121 [])) ((256 : Mb)) ((9 : Fin 64)) 0x121) ∧
    (((withCmd (unitA) 256 9 0x121 [])).trust.planAt = none) ∧
    (Tail ((withCmd (unitA) 256 9 0x121 [])) ((256 : Mb)) ((9 : Fin 64))) ∧
    after (exec (.patternCommit ((256 : Mb)) ((9 : Fin 64))) ((withCmd (unitA) 256 9 0x121 []))) (fun t => decide ((((withCmd (unitA) 256 9 0x121 [])).bankOn ((withCmd (unitA) 256 9 0x121 [])).writeBank = none → Done t ((256 : Mb)) ((9 : Fin 64)) (cmdOf ((withCmd (unitA) 256 9 0x121 [])) ((256 : Mb)) ((9 : Fin 64))) 9 1 0 ∧ t.flash0 = ((withCmd (unitA) 256 9 0x121 [])).flash0 ∧ t.flash1 = ((withCmd (unitA) 256 9 0x121 [])).flash1 ∧ t.trust.wbank = ((withCmd (unitA) 256 9 0x121 [])).trust.wbank) ∧ (t.stitches = ((withCmd (unitA) 256 9 0x121 [])).stitches) ∧ (t.skeins = ((withCmd (unitA) 256 9 0x121 [])).skeins))) = true := by decide +kernel

def w_PatternBanksAreWrittenAndCommitted_6 : State :=
    (withCmd ((unitA.updTrust (fun x => { x with planAt := some 9 }))) 256 9 0x121 [])

theorem test_PatternBanksAreWrittenAndCommitted_6 :
    (Ready w_PatternBanksAreWrittenAndCommitted_6 ((256 : Mb)) ((9 : Fin 64)) 0x121) ∧
    (w_PatternBanksAreWrittenAndCommitted_6.trust.planAt.isSome = true) ∧
    (Tail w_PatternBanksAreWrittenAndCommitted_6 ((256 : Mb)) ((9 : Fin 64))) ∧
    after (exec (.patternCommit ((256 : Mb)) ((9 : Fin 64))) w_PatternBanksAreWrittenAndCommitted_6) (fun t => decide ((Done t ((256 : Mb)) ((9 : Fin 64)) (cmdOf w_PatternBanksAreWrittenAndCommitted_6 ((256 : Mb)) ((9 : Fin 64))) 2 5 0) ∧ (t.stitches = w_PatternBanksAreWrittenAndCommitted_6.stitches) ∧ (t.skeins = w_PatternBanksAreWrittenAndCommitted_6.skeins) ∧ (t.flash0 = w_PatternBanksAreWrittenAndCommitted_6.flash0 ∧ t.flash1 = w_PatternBanksAreWrittenAndCommitted_6.flash1))) = true := by decide +kernel


/-! ### WellFormed refuses an ill-formed term for each of its checks -/

/-- A header for the cells below. -/
def hd : UpHdr := { owner := false, xoff := false, seq := 0 }

theorem test_refuses_offset_outside_bar2 : Instr.wellFormed (.registerWrite .bar2 0x100000 0 15) = false := by decide
theorem test_refuses_offset_outside_vi_window : Instr.wellFormed (.loHiReadLatch (.vi 3) 0x10000) = false := by decide
theorem test_refuses_offset_outside_af_window : Instr.wellFormed (.loWriteHeld .af 0x10000 0) = false := by decide
theorem test_refuses_unaligned_latch_read : Instr.wellFormed (.loHiReadLatch .bar2 2) = false := by decide
theorem test_refuses_unaligned_held_write : Instr.wellFormed (.loWriteHeld .bar2 1 0) = false := by decide
theorem test_refuses_unaligned_unmapped_access : Instr.wellFormed (.unmappedAccess .bar2 3 false) = false := by decide
theorem test_refuses_supported_access : Instr.wellFormed (.unsupportedAccess .bar2 8 4 false) = false := by decide
theorem test_refuses_unaligned_write : Instr.wellFormed (.registerWrite .af 2 0 15) = false := by decide
theorem test_refuses_write_without_bytes : Instr.wellFormed (.registerWrite .af 0 0 0) = false := by decide
theorem test_refuses_segment_13 : Instr.wellFormed (.mgmtSegment 0 hd 0 0 13 (List.replicate 20 0)) = false := by decide
theorem test_refuses_short_segment : Instr.wellFormed (.mgmtSegment 0 hd 0 0 0 []) = false := by decide
theorem test_refuses_unaligned_window_access : Instr.wellFormed (.mgmtWindowAccess 0 hd 0 5 false 0) = false := by decide
theorem test_refuses_carrier_reload_past_64_bits : Instr.wellFormed (.carrierRefRx 0 hd 0 (2 ^ 64) 0) = false := by decide
theorem test_refuses_three_lanes : Instr.wellFormed (.widthChangeRx 0 7 0) = false := by decide
theorem test_refuses_echo_past_64_bits : Instr.wellFormed (.echoRx (.port 0) hd (2 ^ 64) 0 0 0 0) = false := by decide
theorem test_refuses_long_bulk_cell : Instr.wellFormed (.bulkCellRx .partner hd false 0 0 (List.replicate 21 0)) = false := by decide
theorem test_refuses_sample_cell_of_15 : Instr.wellFormed (.sampleCellRx 0 hd { stitch := 0, tag := 0, res := 0, hub := 0, samples := List.replicate 15 0 }) = false := by decide
theorem test_refuses_trailer_held_65 : Instr.wellFormed (.trailerRx 0 hd 0 0 0 0 65) = false := by decide
theorem test_refuses_empty_batch : Instr.wellFormed (.skeinStep 0 []) = false := by decide
theorem test_refuses_batch_with_repeats : Instr.wellFormed (.skeinStep 0 [3, 3]) = false := by decide
theorem test_refuses_worker_cell_of_7 : Instr.wellFormed (.workerSampleRx 0 hd { interval := 0, cur := List.replicate 7 0, vol := List.replicate 8 0, gateOn := false, gateHigh := false, present := true, tripped := false }) = false := by decide
theorem test_refuses_twelve_readings : Instr.wellFormed (.thmSample (List.replicate 12 none)) = false := by decide
theorem test_refuses_reading_past_16_bits : Instr.wellFormed (.thmSample (List.replicate 13 (some 32768))) = false := by decide
theorem test_refuses_dormant_reading_past_16_bits : Instr.wellFormed (.dormantThmCheck (-32769)) = false := by decide
theorem test_refuses_heartbeat_past_64_bits : Instr.wellFormed (.heartbeatRx (2 ^ 64) 0 false 0 false) = false := by decide
theorem test_refuses_image_state_6 : Instr.wellFormed (.stateImageRx 0 0 { skeinState := 6 }) = false := by decide
theorem test_refuses_image_count_129 : Instr.wellFormed (.stateImageRx 0 0 { count := 129 }) = false := by decide
theorem test_refuses_effect_opcode_past_16_bits : Instr.wellFormed (.effectMessageRx (.command 0 65536 [])) = false := by decide
theorem test_refuses_effect_payload_short : Instr.wellFormed (.effectMessageRx (.skeinCommand 0 0x412 [] 0)) = false := by decide
theorem test_refuses_effect_cycle_past_16_bits : Instr.wellFormed (.effectMessageRx (.intent 0 65536 0)) = false := by decide
theorem test_refuses_effect_entry_past_32_bits : Instr.wellFormed (.effectMessageRx (.ephCancel (2 ^ 32))) = false := by decide
theorem test_refuses_effect_epoch_0 : Instr.wellFormed (.effectMessageRx (.epoch (.port 0) 0 0)) = false := by decide
theorem test_refuses_effect_slot_of_255 : Instr.wellFormed (.effectMessageRx (.mgmtSlot 0 0 0 (List.replicate 255 0))) = false := by decide +kernel
theorem test_refuses_effect_setting_past_kind_9 : Instr.wellFormed (.effectMessageRx (.pattern [] 0 [(40960, [])])) = false := by decide
theorem test_refuses_effect_setting_byte_256 : Instr.wellFormed (.effectMessageRx (.pattern [] 0 [(0, [256])])) = false := by decide
theorem test_refuses_effect_status_past_16_bits : Instr.wellFormed (.effectMessageRx (.mgmtStatus 0 0 65536 0 0)) = false := by decide
theorem test_refuses_claim_past_64_bits : Instr.wellFormed (.claimRecordRx (.claim 0 0 (2 ^ 64))) = false := by decide
theorem test_refuses_shelf_holdup_4 : Instr.wellFormed (.shelfDigestRx { holdup := 4 }) = false := by decide
theorem test_refuses_partner_width_3 : Instr.wellFormed (.portFlightsRx 0 18 18 3) = false := by decide
theorem test_refuses_transit_past_64_bits : Instr.wellFormed (.transitRx (2 ^ 64)) = false := by decide
theorem test_refuses_partner_flight_past_16_bits : Instr.wellFormed (.partnerTimeRx 0 65536) = false := by decide

/-! ### The manual's worked examples -/

/-- CORE0 of slot 12, local stitch 0 (*One core stitch, one window*). -/
def exWin : State :=
  (State.reset.updSt 1536 (fun y => { y with skein := some 72, state := 2, desc := {
    iinSensed := true, storedLoop := true, vinLsb := 4096, iphLsb := 20480, voutLsb := 64, iinLsb := 512, iphZero := 2048, iinZero := 256 } })).updSk
    72 (fun x => { x with known := true, slot := 12, stitches := [0], samples := 32, hz := 800000 })
/-- Iph above its zero code: 1,406 plus the triangle. -/
def exIph : List Nat := (List.range 32).map (fun k => if k < 16 then 2048 + 1166 + 32 * k else 2048 + 1646 - 32 * (k - 16))
def exCells : List (Nat × List Nat) :=
  [(0, List.replicate 16 3375), (1, List.replicate 16 3375), (2, exIph.take 16), (3, exIph.drop 16),
   (4, List.replicate 16 3000), (5, List.replicate 16 3000), (6, List.replicate 16 1103), (7, List.replicate 16 1103)]

theorem test_example_window :
    let r := exWin.winRec 1536 72 { cycle := 9, cells := exCells, hub := 0 }
    (r.vinMean, r.voutMean, r.iphMean, r.iinMean) = (54000, 750, 112480, 1694) ∧ (r.iphRms, r.iphMax, r.iphMin) = (113097, 131680, 93280) ∧
      (r.eIn, r.eOut, r.loss) = (114345, 105450, 8895) ∧ r.w = 2000 * 4096 ∧ r.voutCode = 3000 := by decide +kernel

theorem test_example_window_without_cell_3 :
    let r := exWin.winRec 1536 72 { cycle := 9, cells := exCells.filter (fun c => decide (c.1 ≠ 3)), hub := 0 }
    r.iphOk = true ∧ r.lossOk = false ∧ r.incomplete = true ∧ (r.iphMean, r.iphRms, r.iphMax, r.iphMin) = (112480, 113097, 131680, 93280) ∧
      (r.eIn, r.eOut, r.loss) = (0, 0, 0) := by decide +kernel

/-- CORE0 of slot 12 as tuned (*Tuning CORE0 of slot 12*), in region 3. -/
def exLaw : Skein := {
  law := { errFs := 64, iFs := 2097152, uMin := 0, uMax := 1311, kstep := 48, kstepExp := 0, nKick := 4, kkick := 1591, kkickExp := 0 },
  gtab := (List.range 64).map (fun i => if i < 8 then 256 else if i < 24 then 256 + 48 * (i - 7) else 1024), idxShift := 9,
  sched := { gains := List.replicate 3 (0, 0, 0, 0) ++ [(16384, 2048, 24576, 0)] }, job := { u := 951 * 2 ^ 14, region := 3, refQ16 := 750 * 65536 } }

theorem test_example_droop : exLaw.err 730 = 10240 ∧ (exLaw.lawStep 5 (some (exLaw.err 730)) false).lastDu = 880 * 13440 := by decide

theorem test_example_intent :
    let x := { exLaw with job := { exLaw.job with intents := [{ cycle := 5, deltaMa := 900000 }] } }.lawStep 5 (some 0) false
    x.lastDelta = 14062 ∧ x.job.u = 951 * 2 ^ 14 + 48 * 14062 ∧ x.lastKick = 1591 * 14062 := by decide

theorem test_example_control_delay : ctrlDelay (2000 * 4096) 350 18 18 = 1 := by decide

/-- Eight strings at full charge, each giving 495,350 mA (*A two-minute outage*). -/
def exStr : Str := {
  qNom := 360000000, q := 360000000 * mcTicks, qfull := 360000000, rint := 10000, iDisMax := 600000,
  ocv := (List.range 17).map (fun (i : Nat) => (48000 + 300 * i : Int)) }
def exHoldup : State :=
  (({ State.reset with strs := (List.range 8).map (fun i => (i, exStr)) }).setI (BAT_I_v 0) (-495350)).updShelf (fun h => { h with pLoad := 189600000 })

theorem test_example_string_energy : exHoldup.zeroOf 0 = (495350, 4954, 71550000) ∧ exHoldup.energyOf 0 = 13246489350 := by decide +kernel

theorem test_example_floors_break :
    let r := capsOf 100000000 229660800 4 ((List.range 20).map (fun i => (i, 2, 3000000, 4600000)) ++
      (List.range 20).map (fun i => (20 + i, 5, 3000000, 4600000)) ++ (List.range 8).map (fun i => (40 + i, 7, 1200000, 1300000)))
    r.1 = 2 ∧ r.2.1.lookup 0 = some 1520000 ∧ r.2.1.lookup 20 = some 3000000 ∧ r.2.1.lookup 40 = some 1200000 := by decide +kernel

/-- Port 12 with three queued cells, one of them past its deadline, after both writes (*One write, three kinds*). -/
def exArb : State :=
  let c := fun (j d : Nat) => ({
      stitch := j, engine := 0, cycle := 5, duty := 0, mode := 1, res := 0, hold := 13, period := 0,
      nextOffset := 0, off := 0, target := 0, deadline := d, reload := d, postAt := 0, lock := none, hinted := false } : CmdCell)
  let s := (({ unitA with ct := 100 }.updPort 12 (fun x => { x with queue := [c 0 99, c 1 900, c 2 900] })).putWord 0x13204 0x2903).putWord 0x13218 5
  (s.writeWord 0x13204 0x900 0xFFFFFFFF).writeWord 0x13218 0 0xFFFFFFFF

theorem test_example_write_meets_update :
    after (exec (.arbExpire 12) exArb) (fun t => decide (t.word 0x13204 = 0x4102 ∧ t.word 0x13218 = 1 ∧ t.get GLB_CNT_COLLIDE_count = 3)) = true := by
  decide +kernel

end Sys2Proof.Tests

end
end

section
/-! PROOF. What the same-cycle log of R679 and the rungs due leave unchanged. -/
namespace Sys2Proof.Machine

open Sys2Proof.Safety

/-! ### Rungs due -/

/-- With no rung due, settling changes nothing. -/
theorem State.settle_of_noRung {s : State} (h : NoRung s) : s.settle = s := by
  have hd : s.dueNow = [] := h
  have ho : s.faults.atOnce = [] := (List.append_eq_nil_iff.1 hd).1
  simp [State.settle, hd, ho, State.when]

/-- Which rungs are due is read from the fault table alone, but for the time. -/
theorem State.noRung_congr {s t : State} (hf : t.faults = s.faults) (hc : t.ct = s.ct) (h : NoRung s) : NoRung t := by
  have hd : s.dueNow = [] := h
  simpa only [NoRung, State.dueNow, hf, hc] using hd

/-! ### Changes of register words alone -/

/-- `t` is `s` with register words changed at addresses of `P` at most, and the hardware updates of the cycle logged. -/
structure WordsOnly (P : Nat → Prop) (s t : State) : Prop where
  same : t = { s with regs := t.regs, hwTouched := t.hwTouched, collided := t.collided }
  word : ∀ a, ¬ P a → t.word a = s.word a

variable {P Q : Nat → Prop} {r s t : State}

theorem WordsOnly.refl (P : Nat → Prop) (s : State) : WordsOnly P s s := ⟨rfl, fun _ _ => rfl⟩

theorem WordsOnly.trans (h : WordsOnly P r s) (k : WordsOnly P s t) : WordsOnly P r t where
  same := k.same.trans (by rw [h.same])
  word a ha := (k.word a ha).trans (h.word a ha)

theorem WordsOnly.mono (h : WordsOnly P s t) (hpq : ∀ a, P a → Q a) : WordsOnly Q s t :=
  ⟨h.same, fun a ha => h.word a (fun hp => ha (hpq a hp))⟩

theorem WordsOnly.foldl {α : Type} {f : State → α → State} {l : List α} (h : ∀ x, ∀ b ∈ l, WordsOnly P x (f x b)) :
    WordsOnly P s (l.foldl f s) := by
  induction l generalizing s with
  | nil => exact .refl P s
  | cons b l ih => exact (h s b (by simp)).trans (ih fun x c hc => h x c (by simp [hc]))

theorem WordsOnly.get (h : WordsOnly P s t) {f : Fld} (hf : ¬ P f.a) : t.get f = s.get f := by
  rw [State.get, State.get, h.word _ hf]

theorem WordsOnly.mers (h : WordsOnly P s t) : t.mers = s.mers := by rw [h.same]
theorem WordsOnly.mem (h : WordsOnly P s t) : t.mem = s.mem := by rw [h.same]
theorem WordsOnly.gpio (h : WordsOnly P s t) : t.gpio = s.gpio := by rw [h.same]
theorem WordsOnly.swTouched (h : WordsOnly P s t) : t.swTouched = s.swTouched := by rw [h.same]
theorem WordsOnly.noRung (h : WordsOnly P s t) (hn : NoRung s) : NoRung t :=
  State.noRung_congr (by rw [h.same]) (by rw [h.same]) hn

theorem State.putWord_wordsOnly (s : State) (a : Nat) (w : Word) : WordsOnly (· = a) s (s.putWord a w) :=
  ⟨rfl, fun b hb => State.word_putWord_ne s a b w hb⟩

theorem State.setF_wordsOnly (s : State) (f : Fld) (v : Nat) : WordsOnly (· = f.a) s (s.setF f v) :=
  State.putWord_wordsOnly ..

theorem State.collide_wordsOnly (s : State) (x : Nat × Nat × Nat) : WordsOnly (· = aGLB_CNT_COLLIDE) s (s.collide x) := by
  unfold State.collide
  split
  · exact .refl _ s
  · exact ⟨rfl, fun a ha => State.word_setF_ne s GLB_CNT_COLLIDE_count _ a ha⟩

theorem State.touch_wordsOnly (s : State) (f : Fld) (x : Touch) : WordsOnly (· = aGLB_CNT_COLLIDE) s (s.touch f x) := by
  have hlog : WordsOnly (· = aGLB_CNT_COLLIDE) s { s with hwTouched := s.hwTouched ++ [x] } := ⟨rfl, fun _ _ => rfl⟩
  unfold State.touch
  dsimp only
  split
  · exact hlog.trans (State.collide_wordsOnly ..)
  · exact hlog

/-- In a cycle in which software has written nothing, an update is only logged. -/
theorem State.touch_of_noWrite {s : State} (h : s.swTouched = []) (f : Fld) (x : Touch) :
    s.touch f x = { s with hwTouched := s.hwTouched ++ [x] } := by
  simp [State.touch, h]

theorem State.flag_wordsOnly (s : State) (f : Fld) : WordsOnly (fun a => a = f.a ∨ a = aGLB_CNT_COLLIDE) s (s.flag f) :=
  ((State.setF_wordsOnly s f 1).mono fun _ h => .inl h).trans ((State.touch_wordsOnly ..).mono fun _ h => .inr h)

theorem State.word_flag_self (s : State) {f : Fld} (h : f.a ≠ aGLB_CNT_COLLIDE) :
    (s.flag f).word f.a = (s.word f.a).withBits f.hi f.lo 1 :=
  ((State.touch_wordsOnly ..).word _ h).trans (State.word_putWord_self ..)

end Sys2Proof.Machine
end

section
/-! PROOF. A register word after a write, and how a write of BAR2 runs. -/
namespace Sys2Proof.Machine

open Sys2Proof.Safety

/-! ### The fields of a written word -/

/-- A write with every bit enabled. -/
def fullMask : Word := 0xFFFFFFFF

theorem and_fullMask (v : Word) : v &&& fullMask = v := BitVec.and_allOnes

theorem under_fullMask (v w : Word) : (v &&& fullMask) ||| (w &&& ~~~fullMask) = v := by
  have h0 : ~~~fullMask = 0#32 := by decide
  simp [and_fullMask, h0]

/-- A field lies in a word. -/
abbrev FieldSpec.Fits (f : FieldSpec) : Prop := f.lo ≤ f.hi ∧ f.hi < 32

/-- The bits [hi:lo] and a field have no bit in common. -/
abbrev FieldSpec.Apart (hi lo : Nat) (f : FieldSpec) : Prop := f.hi < lo ∨ hi < f.lo

theorem fieldAfter_bits_apart (w v m : Word) {f : FieldSpec} {hi lo : Nat} (hf : f.Fits) (ha : f.Apart hi lo) :
    (fieldAfter w v m f).bits hi lo = w.bits hi lo := by
  have hb := fun x => Word.bits_withBits_other w f.hi f.lo x hi lo hf.1 hf.2 ha
  unfold fieldAfter
  split <;> simp only [hb]

theorem fieldAfter_bits_rw (w v : Word) {f : FieldSpec} (hf : f.Fits) (hr : f.acc = .rw) :
    (fieldAfter w v fullMask f).bits f.hi f.lo = v.bits f.hi f.lo := by
  simp only [fieldAfter, hr, under_fullMask, Word.bits_withBits_self _ _ _ _ hf.1 hf.2]
  simp [Word.bits]

theorem wordAfter_bits_apart (v m : Word) {fs : List FieldSpec} {hi lo : Nat} (h : ∀ f ∈ fs, f.Fits ∧ f.Apart hi lo) (w : Word) :
    (wordAfter w v m fs).bits hi lo = w.bits hi lo := by
  induction fs generalizing w with
  | nil => rfl
  | cons f fs ih =>
    obtain ⟨hf, ha⟩ := h f (by simp)
    exact (ih (fun g hg => h g (by simp [hg])) _).trans (fieldAfter_bits_apart w v m hf ha)

/-- A field that software owns takes what a full write gives it. -/
theorem wordAfter_bits_rw (v : Word) {fs : List FieldSpec} (hfit : ∀ f ∈ fs, f.Fits)
    (hd : fs.Pairwise fun f g => f.Apart g.hi g.lo ∧ g.Apart f.hi f.lo) {f : FieldSpec} (hm : f ∈ fs) (hr : f.acc = .rw) (w : Word) :
    (wordAfter w v fullMask fs).bits f.hi f.lo = v.bits f.hi f.lo := by
  induction fs generalizing w with
  | nil => simp at hm
  | cons g fs ih =>
    obtain ⟨hg, hd⟩ := List.pairwise_cons.1 hd
    obtain rfl | hm := List.mem_cons.1 hm
    · exact (wordAfter_bits_apart v fullMask (fun x hx => ⟨hfit x (by simp [hx]), (hg x hx).2⟩) _).trans
        (fieldAfter_bits_rw w v (hfit f (by simp)) hr)
    · exact ih (fun x hx => hfit x (by simp [hx])) hd hm _

/-! ### Running a write -/

/-- The state with the fields of a software write noted for the cycle. -/
def State.noteWrites (s : State) (l : List (Nat × Nat × Nat)) : State := { s with swTouched := s.swTouched ++ l }

theorem State.meetField_of_untouched {s : State} {a : Nat} (h : Untouched s a) (f : FieldSpec) :
    s.meetField a f = s.noteWrites [(a, f.hi, f.lo)] := by
  have hno : s.touchesOf a f.hi f.lo = [] := by
    refine List.filter_eq_nil_iff.2 fun x hx hp => ?_
    have hne := List.all_eq_true.1 h x hx
    simp_all
  simp [State.meetField, State.noteWrites, hno]

theorem State.foldl_meetField_of_untouched {a : Nat} (l : List FieldSpec) {s : State} (h : Untouched s a) :
    l.foldl (fun t f => t.meetField a f) s = s.noteWrites (l.map fun f => (a, f.hi, f.lo)) := by
  induction l generalizing s with
  | nil => simp [State.noteWrites]
  | cons f l ih =>
    rw [List.foldl_cons, State.meetField_of_untouched h, ih (s := s.noteWrites _) h]
    simp [State.noteWrites]

/-- A write that no hardware update of its cycle meets stores the word, and the fields it acts on are noted. -/
theorem State.storeWord_of_untouched {s : State} {a : Nat} {r : RegSpec} (hr : regAt a = some r) (hu : Untouched s a) (v m : Word) :
    s.storeWord a v m = (s.putWord a (s.guardWord a (wordAfter (s.word a) v m r.fields))).noteWrites
      ((r.fields.filter (fun f => f.acted v m)).map fun f => (a, f.hi, f.lo)) := by
  simp only [State.storeWord, hr]
  exact State.foldl_meetField_of_untouched _ hu

/-- A running unit takes writes below the engines' registers. -/
theorem State.inReset_of_runs {s : State} (h : Runs s) {a : Nat} (ha : a < 0x20000) : s.inReset a = false := by
  obtain ⟨hh, hu⟩ := h
  simp only [State.inReset, hh, hu]
  simp
  omega

theorem not_inRings {a : Nat} (ha : a < 0x20000) : inRings a = false := by simp [inRings]; omega
theorem not_inSlots {a : Nat} (ha : a < 0x20000) : inSlots a = false := by simp [inSlots]; omega

/-- A register that is no half of a writable pair takes its write at once. -/
theorem State.writeWord_unpaired {s : State} (h : Runs s) {a : Nat} (ha : a < 0x20000) (h0 : rwPair a = false)
    (h4 : rwPair (a - 4) = false) (v m : Word) : s.writeWord a v m = s.applyWrite a v m := by
  simp [State.writeWord, State.inReset_of_runs h ha, not_inRings ha, not_inSlots ha, h0, h4]

/-- The words that a write keeps for the compare channels are all that it changes before it stores. -/
theorem State.keepCmp_eq (s : State) (a : Nat) : ∃ o, s.keepCmp a = { s with cmpOld := o } := by
  unfold State.keepCmp
  dsimp only
  split
  · exact ⟨_, rfl⟩
  · exact ⟨s.cmpOld, rfl⟩

theorem State.keepCmp_of_not_channel {s : State} {a : Nat} (h : a < 0x5000 ∨ 0x7000 ≤ a) : s.keepCmp a = s := by
  rw [State.keepCmp, if_neg (by omega)]

end Sys2Proof.Machine
end

section
/-! PROOF. The registers of the timebase in the map, and their reset values. -/
namespace Sys2Proof.Machine

open Sys2Proof.Safety

/-! ### Words -/

theorem Word.bits_one (w : Word) (k : Nat) : w.bits k k = (w.bit k).toNat := by
  simp [Word.bits, Word.bit, Nat.toNat_testBit]

theorem Word.bit_eq_decide (w : Word) (k : Nat) : w.bit k = decide (w.bits k k = 1) := by
  simp [Word.bits, Word.bit, Nat.testBit_eq_decide_div_mod_eq]

theorem State.is_one (s : State) (a k : Nat) : s.is ⟨a, k, k⟩ = (s.word a).bit k := by
  rw [State.is, State.get, Word.bits_one]
  cases (s.word a).bit k <;> rfl

theorem Word.bits_lt (w : Word) (hi lo : Nat) : w.bits hi lo < 2 ^ (hi + 1 - lo) := Nat.mod_lt _ (Nat.two_pow_pos _)

/-! ### Places in the map -/

theorem RegSpec.holds_iff (r : RegSpec) (a : Nat) : r.holds a = true ↔ r.base ≤ a ∧ (a - r.base) / r.stride < r.count ∧
    (a - r.base) % r.stride % r.step = 0 ∧ (a - r.base) % r.stride / r.step < r.reps := by
  simp only [RegSpec.holds, Bool.and_eq_true, decide_eq_true_eq, and_assoc]

/-- A register of the timebase region is the first one there that holds its address. -/
theorem regAt_mer {a : Nat} (h : 0x4000 ≤ a) (h' : a < 0x8000) (i : Nat) {r : RegSpec} (hi : regs_mer[i]? = some r)
    (hr : r.holds a = true) (hb : ∀ q ∈ regs_mer.take i, ¬ q.holds a = true) : regAt a = some r := by
  obtain ⟨hlt, rfl⟩ := List.getElem?_eq_some_iff.1 hi
  rw [regAt, regsNear, if_neg (by omega), if_neg (by omega), if_pos h', List.find?_eq_some_iff_append]
  refine ⟨hr, regs_mer.take i, regs_mer.drop (i + 1), ?_, by simpa using hb⟩
  rw [← List.drop_eq_getElem_cons, List.take_append_drop]

/-- The pairs that software writes as one value: meridian values, compare values and energies. -/
theorem rwPair_iff (a : Nat) : rwPair a = true ↔ (0x4100 ≤ a ∧ a < 0x4900 ∧ a % 0x20 = 0x10) ∨
    (0x5000 ≤ a ∧ a < 0x7000 ∧ a % 0x10 = 0) ∨ (0x60000 ≤ a ∧ a < 0x61000 ∧ a % 0x40 = 0x10) := by
  simp only [rwPair, loOfPair, Bool.and_eq_true, Bool.or_eq_true, decide_eq_true_eq]
  simp only [aCT_LO, aMKUP_SLOW_LO, aSHELF_UNALLOC_LO, aPAIR_LAST_LO, aRST_TIME_LO]
  omega

/-- The fields of MER_CFG. -/
def merCfgFields : List FieldSpec :=
  [⟨2, 0, .rw, 0⟩, ⟨3, 3, .rw, 0⟩, ⟨4, 4, .rw, 0⟩, ⟨10, 5, .rw, 0⟩, ⟨17, 11, .rw, 0⟩, ⟨19, 18, .rw, 0⟩]

/-- The fields of CMP_CTRL. -/
def cmpCtrlFields : List FieldSpec :=
  [⟨0, 0, .rw, 0⟩, ⟨1, 1, .rw, 0⟩, ⟨2, 2, .hsW1c, 0⟩, ⟨3, 3, .hsW1c, 0⟩, ⟨7, 4, .rw, 0⟩, ⟨13, 8, .rw, 0⟩]

theorem regAt_merCfg (m : Fin 64) : regAt (aMER_CFG m) = some ⟨0x4100, 0x20, 64, 1, 1, merCfgFields⟩ := by
  have hm := m.isLt
  unfold aMER_CFG
  refine regAt_mer (by omega) (by omega) 5 rfl ?_ ?_
  · rw [RegSpec.holds_iff]; dsimp only; omega
  · simp only [regs_mer, regs_mer0, List.cons_append, List.take, List.forall_mem_cons, RegSpec.holds_iff]
    simp only [List.not_mem_nil, false_implies, implies_true, and_true]
    omega

theorem regAt_cmpCtrl (k : Fin 512) : regAt (aCMP_CTRL k) = some ⟨0x5008, 0x10, 512, 1, 1, cmpCtrlFields⟩ := by
  have hk := k.isLt
  unfold aCMP_CTRL
  refine regAt_mer (by omega) (by omega) 15 rfl ?_ ?_
  · rw [RegSpec.holds_iff]; dsimp only; omega
  · simp only [regs_mer, regs_mer0, List.cons_append, List.take, List.forall_mem_cons, RegSpec.holds_iff]
    simp only [List.not_mem_nil, false_implies, implies_true, and_true]
    omega

/-! ### Reset values -/

/-- In the timebase region a reset word comes from the field table alone. -/
theorem resetWord_mer {a : Nat} (h : 0x4000 ≤ a) (h' : a < 0x8000) :
    resetWord a = resetOf (((regAt a).map (·.fields)).getD []) := by
  unfold resetWord
  rw [if_neg (by omega), if_neg (by omega), if_neg (by omega), if_neg (by unfold aID_STEP; omega),
    if_neg (by unfold aID_SERIAL_LO; omega), if_neg (by unfold aID_SERIAL_HI; omega), if_neg (by unfold aPAIR_CFG; omega)]

theorem resetWord_merCfg (m : Fin 64) : resetWord (aMER_CFG m) = 0 := by
  have hm := m.isLt
  rw [resetWord_mer (by unfold aMER_CFG; omega) (by unfold aMER_CFG; omega), regAt_merCfg]
  decide

end Sys2Proof.Machine
end

section
/-! PROOF. The statements about the state after reset. -/
namespace Sys2Proof.Machine

/-- Settles O3: the memories, the queue and the time of the state after reset are written out in it, and MER_CFG resets to 0. -/
theorem resetMemoriesCanonical : Obligations.ResetMemoriesCanonical := by
  refine ⟨⟨rfl, rfl, rfl, rfl⟩, rfl, rfl, fun m => ?_⟩
  have hw : State.reset.word (aMER_CFG m) = 0 := resetWord_merCfg m
  simp [State.get, MER_CFG_en, hw, Word.bits]

end Sys2Proof.Machine
end

section
/-! PROOF. Writes to the meridian registers (R94 to R96). -/
namespace Sys2Proof.Machine

open Sys2Proof.Safety

/-! ### Which objects a meridian's state is read from -/

theorem State.mer_congr {s t : State} (h : t.mers = s.mers) (k : Nat) : t.mer k = s.mer k := by rw [State.mer, State.mer, h]

theorem State.carries_congr {s t : State} (hk : t.skeins = s.skeins) (ht : t.stitches = s.stitches) (m : Nat) :
    t.carries m = s.carries m := by
  unfold State.carries State.bound State.sk State.st
  rw [hk, ht]

/-- Whether a meridian is judged is read from its MER_CFG, the debug halt and the skeins it carries. -/
theorem State.merLive_congr {s t : State} {m : Nat} (hw : t.word (aMER_CFG m) = s.word (aMER_CFG m))
    (hd : t.debugHalt = s.debugHalt) (hk : t.skeins = s.skeins) (ht : t.stitches = s.stitches) : t.merLive m = s.merLive m := by
  have hget : ∀ hi lo, t.get ⟨aMER_CFG m, hi, lo⟩ = s.get ⟨aMER_CFG m, hi, lo⟩ := fun hi lo => by rw [State.get, State.get, hw]
  unfold State.merLive State.merEn State.merHeld State.is MER_CFG_en MER_CFG_src MER_CFG_freeze_on_halt
  rw [hget, hget, hget, hd, State.carries_congr hk ht]

/-! ### A meridian that starts -/

/-- A meridian as an enable leaves it (R94 to R96). -/
def State.merStarted (s : State) (m : Nat) (x : Meridian) : Meridian :=
  { x with
    liveAt := some s.ct, acc := 0, value := x.held.getD x.value, frac := if x.held.isSome then 0 else x.frac, held := none,
    step := s.get (MER_STEP_step m), stepFrac := s.get (MER_STEP_FRAC_frac m), ratio := s.get (MER_PRESCALE_ratio m),
    offset := s.get (MER_OFFSET_offset m) }

theorem State.merStart_eq (s : State) (m : Nat) : s.merStart m = (s.updMer m (s.merStarted m)).lateOn m := rfl

/-- The words that the late marks of compare channels reach. -/
def lateWord (a : Nat) : Prop := (0x5000 ≤ a ∧ a < 0x7000) ∨ a = aGLB_CNT_COLLIDE

theorem State.flag_late_wordsOnly (s : State) {k : Nat} (hk : k < 512) : WordsOnly lateWord s (s.flag (CMP_CTRL_late k)) := by
  refine (State.flag_wordsOnly s (CMP_CTRL_late k)).mono fun a ha => ha.imp (fun h => ?_) id
  simp only [h, CMP_CTRL_late, aCMP_CTRL]
  omega

theorem State.lateOn_wordsOnly (s : State) (m : Nat) : WordsOnly lateWord s (s.lateOn m) :=
  WordsOnly.foldl fun x _ hk => State.flag_late_wordsOnly x (List.mem_range.1 (List.mem_filter.1 hk).1)

theorem not_lateWord_merCfg (m : Fin 64) : ¬ lateWord (aMER_CFG m) := by
  have := m.isLt
  unfold lateWord aMER_CFG aGLB_CNT_COLLIDE
  omega

/-! ### A write to MER_CFG -/

/-- The word of MER_CFG after a full write to a meridian that carries no skein. -/
def State.merCfgAfter (s : State) (m : Nat) (v : Word) : Word := wordAfter (s.word (aMER_CFG m)) v fullMask merCfgFields

theorem State.merCfgAfter_bits (s : State) (m : Nat) (v : Word) {f : FieldSpec} (hf : f ∈ merCfgFields) :
    (s.merCfgAfter m v).bits f.hi f.lo = v.bits f.hi f.lo := by
  refine wordAfter_bits_rw v (by decide) (by decide) hf ?_ _
  revert f
  decide

theorem State.guardWord_merCfg {s : State} {m : Fin 64} (hc : s.carries m = false) (w : Word) : s.guardWord (aMER_CFG m) w = w := by
  have hm := m.isLt
  have hi : (aMER_CFG m - 0x4100) / 0x20 = m := by unfold aMER_CFG; omega
  unfold State.guardWord
  rw [if_neg (by unfold aMER_CFG; omega), if_neg (by unfold aMER_CFG; omega), if_pos (by unfold aMER_CFG; omega)]
  simp [hi, hc]

theorem State.writeActs_merCfg (s : State) (m : Fin 64) (old v w : Word) :
    s.writeActs (aMER_CFG m) old v w = if s.merEn m ∧ !old.bit 3 then s.merStart m else s := by
  have hm := m.isLt
  have hi : (aMER_CFG m - 0x4100) / 0x20 = m := by unfold aMER_CFG; omega
  unfold State.writeActs
  dsimp only
  rw [if_neg (by unfold aMER_CFG; omega), if_neg (by unfold aMER_CFG aFLT_CTRL; omega), if_pos (by unfold aMER_CFG; omega)]
  simp [hi]

/-- The state in which a full write has stored MER_CFG, and nothing has started yet. -/
theorem State.storeWord_merCfg {s : State} {m : Fin 64} (hc : s.carries m = false) (hu : Untouched s (aMER_CFG m)) (v : Word) :
    ∃ l, s.storeWord (aMER_CFG m) v fullMask = (s.putWord (aMER_CFG m) (s.merCfgAfter m v)).noteWrites l := by
  have h := State.storeWord_of_untouched (regAt_merCfg m) hu v fullMask
  rw [State.guardWord_merCfg hc] at h
  exact ⟨_, h⟩

theorem exec_merCfgWrite (s : State) (m : Fin 64) (v : Word) :
    exec (.merCfgWrite m v) s = .next (s.writeWord (aMER_CFG m) v fullMask) := rfl

/-- A full write to MER_CFG of a meridian that carries no skein: the word is stored, and a meridian that it enables starts. -/
theorem exec_merCfgWrite_stores {s : State} {m : Fin 64} (hr : Runs s) (he : s.merEn m = false) (hc : s.carries m = false)
    (hu : Untouched s (aMER_CFG m)) (v : Word) :
    ∃ l, exec (.merCfgWrite m v) s = .next (
      if v.bit 3 then ((s.putWord (aMER_CFG m) (s.merCfgAfter m v)).noteWrites l).merStart m
      else (s.putWord (aMER_CFG m) (s.merCfgAfter m v)).noteWrites l) := by
  have hm := m.isLt
  obtain ⟨l, hl⟩ := State.storeWord_merCfg hc hu v
  obtain ⟨h0, h4⟩ : rwPair (aMER_CFG m) = false ∧ rwPair (aMER_CFG m - 4) = false := by
    simp only [← Bool.not_eq_true, rwPair_iff, aMER_CFG]
    omega
  have hold : (s.word (aMER_CFG m)).bit 3 = false := by rw [← State.is_one]; exact he
  have hen : ((s.putWord (aMER_CFG m) (s.merCfgAfter m v)).noteWrites l).merEn m = v.bit 3 := by
    have hb : (s.merCfgAfter m v).bit 3 = v.bit 3 := by
      rw [Word.bit_eq_decide, Word.bit_eq_decide, s.merCfgAfter_bits m v (f := ⟨3, 3, .rw, 0⟩) (by decide)]
    exact (State.is_one ..).trans ((congrArg (Word.bit · 3) (State.word_putWord_self ..)).trans hb)
  refine ⟨l, ?_⟩
  rw [exec_merCfgWrite, State.writeWord_unpaired hr (by unfold aMER_CFG; omega) h0 h4, State.applyWrite,
    State.keepCmp_of_not_channel (by unfold aMER_CFG; omega), hl, State.writeActs_merCfg, hen, hold]
  simp

/-! ### Writes to MER_VAL -/

theorem exec_merValWrite (s : State) (m : Fin 64) (hi : Bool) (v : Word) :
    exec (.merValWrite m hi v) s = .next (s.writeWord (if hi then aMER_VAL_HI m else aMER_VAL_LO m) v fullMask) := rfl

/-- HI of MER_VAL reaches the held value with the LO that waits. -/
theorem State.writeWord_merValHi {s : State} (hr : Runs s) (m : Fin 64) (v : Word) :
    s.writeWord (aMER_VAL_HI m) v fullMask =
      ({ s with heldLo := Tbl.del s.heldLo (aMER_VAL_LO m) } : State).merHold m (Tbl.find? s.heldLo (aMER_VAL_LO m)) v := by
  have hm := m.isLt
  have hlo : aMER_VAL_HI m - 4 = aMER_VAL_LO m := by unfold aMER_VAL_HI aMER_VAL_LO; omega
  have hi : (aMER_VAL_LO m - 0x4100) / 0x20 = m := by unfold aMER_VAL_LO; omega
  have hp : rwPair (aMER_VAL_HI m) = false ∧ rwPair (aMER_VAL_LO m) = true := by
    simp only [← Bool.not_eq_true, rwPair_iff, aMER_VAL_HI, aMER_VAL_LO]
    omega
  have hlt : aMER_VAL_HI m < 0x5000 ∧ 0x4100 ≤ aMER_VAL_LO m ∧ aMER_VAL_LO m < 0x4900 ∧ 4 ≤ aMER_VAL_HI m := by
    unfold aMER_VAL_HI aMER_VAL_LO; omega
  obtain ⟨hb, hl1, hl2, h4⟩ := hlt
  unfold State.writeWord
  rw [if_neg (by simp [State.inReset_of_runs hr (a := aMER_VAL_HI m) (by omega), not_inRings (a := aMER_VAL_HI m) (by omega)]),
    if_neg (by simp [not_inSlots (a := aMER_VAL_HI m) (by omega)]), if_neg (by simp [hp.1]), if_neg (by simp [hp.1]),
    if_pos (by simp [h4, hlo, hp.2])]
  simp only [State.writePair, hlo, State.keepCmp_of_not_channel (a := aMER_VAL_LO m) (.inl (by omega)), hl1, hl2, and_self, if_true, hi,
    under_fullMask]

/-- LO of MER_VAL waits while the meridian is disabled, and is ignored while it is enabled. -/
theorem State.writeWord_merValLo {s : State} (hr : Runs s) (m : Fin 64) (v : Word) :
    s.writeWord (aMER_VAL_LO m) v fullMask =
      if s.merEn m then s else { s with heldLo := Tbl.put s.heldLo (aMER_VAL_LO m) v } := by
  have hm := m.isLt
  have hi : (aMER_VAL_LO m - 0x4100) / 0x20 = m := by unfold aMER_VAL_LO; omega
  have hp : rwPair (aMER_VAL_LO m) = true := by rw [rwPair_iff, aMER_VAL_LO]; omega
  have hlt : 0x4100 ≤ aMER_VAL_LO m ∧ aMER_VAL_LO m < 0x4900 := by unfold aMER_VAL_LO; omega
  unfold State.writeWord
  rw [if_neg (by simp [State.inReset_of_runs hr (a := aMER_VAL_LO m) (by omega), not_inRings (a := aMER_VAL_LO m) (by omega)]),
    if_neg (by simp [not_inSlots (a := aMER_VAL_LO m) (by omega)])]
  simp [hp, hlt, hi, under_fullMask]

theorem State.merHold_of_enabled {s : State} {m : Nat} (h : s.merEn m = true) (lo : Option Word) (hi : Word) :
    s.merHold m lo hi = s := by simp [State.merHold, h]

theorem State.merHold_some_of_disabled {s : State} {m : Nat} (h : s.merEn m = false) (lo hi : Word) :
    s.merHold m (some lo) hi = s.updMer m fun x => { x with held := some (hi.bits 15 0 * 2 ^ 32 + lo.toNat) } := by
  simp [State.merHold, h]

end Sys2Proof.Machine
end

section
/-! PROOF. The statement about the enable of a meridian. -/
namespace Sys2Proof.Machine

open Sys2Proof.Safety

section
variable {s : State} {m : Fin 64}

/-- What an enable takes from the registers, it takes from other registers than MER_CFG. -/
theorem State.merStarted_after_cfg (s : State) (m : Fin 64) (w : Word) (l : List (Nat × Nat × Nat)) :
    ((s.putWord (aMER_CFG m) w).noteWrites l).merStarted m = s.merStarted m := by
  have hget : ∀ f : Fld, f.a ≠ aMER_CFG m → ((s.putWord (aMER_CFG m) w).noteWrites l).get f = s.get f :=
    fun f hf => congrArg (Word.bits · f.hi f.lo) (State.word_putWord_ne s _ _ w hf)
  unfold State.merStarted
  rw [hget (MER_STEP_step m), hget (MER_STEP_FRAC_frac m), hget (MER_PRESCALE_ratio m), hget (MER_OFFSET_offset m)]
  · rfl
  all_goals simp [MER_STEP_step, MER_STEP_FRAC_frac, MER_PRESCALE_ratio, MER_OFFSET_offset, aMER_CFG, aMER_STEP, aMER_STEP_FRAC,
    aMER_PRESCALE, aMER_OFFSET]

/-- The write that sets en stores MER_CFG and starts the meridian. -/
theorem exec_merCfgWrite_starts (hr : Runs s) (he : s.merEn m = false) {v : Word} (hv : v.bit 3 = true) (hc : s.carries m = false)
    (hu : Untouched s (aMER_CFG m)) :
    ∃ t, exec (.merCfgWrite m v) s = .next t ∧ t.word (aMER_CFG m) = s.merCfgAfter m v ∧
      t.mers = (s.updMer m (s.merStarted m)).mers ∧ t.mem = s.mem := by
  obtain ⟨l, hl⟩ := exec_merCfgWrite_stores hr he hc hu v
  rw [if_pos hv, State.merStart_eq, State.merStarted_after_cfg] at hl
  have hw := State.lateOn_wordsOnly (((s.putWord (aMER_CFG m) (s.merCfgAfter m v)).noteWrites l).updMer m (s.merStarted m)) m
  exact ⟨_, hl, (hw.word _ (not_lateWord_merCfg m)).trans (State.word_putWord_self ..), hw.mers, hw.mem⟩

/-- A write that leaves en 0 stores MER_CFG alone. -/
theorem exec_merCfgWrite_rests (hr : Runs s) (he : s.merEn m = false) {v : Word} (hv : v.bit 3 = false) (hc : s.carries m = false)
    (hu : Untouched s (aMER_CFG m)) :
    ∃ t, exec (.merCfgWrite m v) s = .next t ∧ t.word (aMER_CFG m) = s.merCfgAfter m v ∧ t.mers = s.mers ∧ t.mem = s.mem := by
  obtain ⟨l, hl⟩ := exec_merCfgWrite_stores hr he hc hu v
  rw [hv] at hl
  exact ⟨_, hl, State.word_putWord_self .., rfl, rfl⟩

/-- A HI write to a disabled meridian holds the value with the LO that waits. -/
theorem exec_merValWrite_holds (hr : Runs s) (he : s.merEn m = false) {lo : Word}
    (hlo : Tbl.find? s.heldLo (aMER_VAL_LO m) = some lo) (hi : Word) :
    ∃ t, exec (.merValWrite m true hi) s = .next t ∧
      t.mer m = { s.mer m with held := some (hi.bits 15 0 * 2 ^ 32 + lo.toNat) } ∧
      (∀ k, k ≠ m.val → t.mer k = s.mer k) ∧ t.regs = s.regs ∧ t.mem = s.mem := by
  refine ⟨_, exec_merValWrite .., ?_⟩
  rw [if_pos rfl, State.writeWord_merValHi hr, hlo, State.merHold_some_of_disabled (by exact he)]
  exact ⟨State.mer_updMer_self .., fun k hk => State.mer_updMer_ne _ m k _ hk, rfl, rfl⟩

/-- en and src after MER_CFG is stored. -/
theorem State.get_merCfgAfter {t : State} {v : Word} (h : t.word (aMER_CFG m) = s.merCfgAfter m v) :
    t.get (MER_CFG_en m) = (v.bit 3).toNat ∧ t.get (MER_CFG_src m) = v.bits 2 0 := by
  have hen := s.merCfgAfter_bits m v (f := ⟨3, 3, .rw, 0⟩) (by decide)
  have hsrc := s.merCfgAfter_bits m v (f := ⟨2, 0, .rw, 0⟩) (by decide)
  rw [← Word.bits_one]
  exact ⟨(congrArg (Word.bits · 3 3) h).trans hen, (congrArg (Word.bits · 2 0) h).trans hsrc⟩

end

/-- Settles O12: a write of MER_CFG is `exec_merCfgWrite_starts` or `exec_merCfgWrite_rests`, one of MER_VAL reaches the LO
that waits or `State.merHold`. -/
theorem meridianEnableLoadsTheHeldValue : Obligations.MeridianEnableLoadsTheHeldValue := by
  refine ⟨fun s m v hr he hv hc hu => ?_, fun s m v hr he hv hc hu => ?_, fun s m lo hi hr he hlo => ?_, fun s m v hr he => ?_,
    fun s m hi v hr he => ?_⟩
  · obtain ⟨t, ht, hw, hm, hmem⟩ := exec_merCfgWrite_starts hr he hv hc hu
    obtain ⟨hen, hsrc⟩ := State.get_merCfgAfter hw
    have hself : t.mer m = s.merStarted m (s.mer m) := (State.mer_congr hm m).trans (State.mer_updMer_self ..)
    exact ⟨t, ht, by simp [hen, hv], hsrc, congrArg Meridian.acc hself, congrArg Meridian.value hself, congrArg Meridian.frac hself,
      congrArg Meridian.held hself, congrArg Meridian.ratio hself, congrArg Meridian.step hself, congrArg Meridian.stepFrac hself,
      congrArg Meridian.offset hself, fun k hk => (State.mer_congr hm k).trans (State.mer_updMer_ne s m k _ hk), hmem⟩
  · obtain ⟨t, ht, hw, hm, hmem⟩ := exec_merCfgWrite_rests hr he hv hc hu
    exact ⟨t, ht, by simp [(State.get_merCfgAfter hw).1, hv], hm, hmem⟩
  · obtain ⟨t, ht, hself, hne, hregs, hmem⟩ := exec_merValWrite_holds hr he hlo hi
    exact ⟨t, ht, by rw [hself], by rw [hself], by rw [hself], hne, hregs, hmem⟩
  · refine ⟨_, exec_merValWrite .., ?_⟩
    rw [if_neg (by simp), State.writeWord_merValLo hr, he]
    exact ⟨Tbl.get_put_self .., rfl, rfl, rfl⟩
  · refine ⟨_, exec_merValWrite .., ?_⟩
    cases hi with
    | true =>
      rw [if_pos rfl, State.writeWord_merValHi hr, State.merHold_of_enabled (by exact he)]
      exact ⟨rfl, rfl, rfl⟩
    | false =>
      rw [if_neg (by simp), State.writeWord_merValLo hr, he]
      exact ⟨rfl, rfl, rfl⟩

end Sys2Proof.Machine
end

section
/-! PROOF. Compare channels (R106 to R111) and fan outputs (R126, R127). -/
namespace Sys2Proof.Machine

open Sys2Proof.Safety

/-! ### A match -/

/-- The value a periodic channel moves on to (R108). -/
def State.cmpNext (s : State) (k : Nat) : Nat :=
  (s.cmpVal k + (if s.get (CMP_PERIOD_period k) = 0 then 2 ^ 32 else s.get (CMP_PERIOD_period k))) % 2 ^ 48

/-- The state with the match of a channel noted for the cycle. -/
def State.noteMatch (s : State) (k : Nat) : State := { s with cmpDone := s.cmpDone ++ [k] }

/-- The state with the match noted, and the channel's matched flag set. -/
def State.cmpMark (s : State) (k : Nat) : State := (s.noteMatch k).flag (CMP_CTRL_matched k)

/-- A match of a channel that software has not written in the cycle, before its action. -/
def State.cmpStep (s : State) (k : Nat) : State :=
  if s.is (CMP_CTRL_periodic k) then
    ((s.cmpMark k).putWord (aCMP_VAL_LO k) (BitVec.ofNat 32 (s.cmpNext k))).putWord (aCMP_VAL_HI k)
      (((s.cmpMark k).word (aCMP_VAL_HI k)).withBits 15 0 (s.cmpNext k / 2 ^ 32))
  else (s.cmpMark k).setB (CMP_CTRL_arm k) false

/-- The words that a match reaches before its action. -/
def matchWord (k : Nat) (a : Nat) : Prop :=
  a = aCMP_CTRL k ∨ a = aCMP_VAL_LO k ∨ a = aCMP_VAL_HI k ∨ a = aGLB_CNT_COLLIDE

theorem State.cmpMark_wordsOnly (s : State) (k : Nat) :
    WordsOnly (fun a => a = aCMP_CTRL k ∨ a = aGLB_CNT_COLLIDE) (s.noteMatch k) (s.cmpMark k) :=
  State.flag_wordsOnly (s.noteMatch k) (CMP_CTRL_matched k)

theorem State.cmpStep_wordsOnly (s : State) (k : Nat) :
    WordsOnly (matchWord k) (s.noteMatch k) (s.cmpStep k) := by
  have hmark := (s.cmpMark_wordsOnly k).mono (Q := matchWord k) fun a h => h.elim .inl fun h => .inr (.inr (.inr h))
  unfold State.cmpStep
  split
  · exact (hmark.trans ((State.putWord_wordsOnly ..).mono fun a h => .inr (.inl h))).trans
      ((State.putWord_wordsOnly ..).mono fun a h => .inr (.inr (.inl h)))
  · exact hmark.trans ((State.setF_wordsOnly ..).mono fun a h => .inl h)

theorem State.wroteNow_of_noWrite {s : State} (h : s.swTouched = []) (a : Nat) : s.wroteNow a = false := by
  simp [State.wroteNow, h]

theorem State.beforeCmp_of_noWrite {s : State} (h : s.cmpOld = []) (k : Nat) : s.beforeCmp k = s := by
  simp [State.beforeCmp, h, Tbl.find?]

/-- In a cycle in which software has written nothing, a match is its step and then its action. -/
theorem State.cmpMatch_of_noWrite {s : State} (hw : s.swTouched = []) (ho : s.cmpOld = []) (k : Nat) :
    s.cmpMatch k = (s.cmpStep k).cmpAct k s := by
  have hw' : (s.cmpMark k).swTouched = [] := (s.cmpMark_wordsOnly k).swTouched.trans hw
  have hno := State.wroteNow_of_noWrite hw'
  unfold State.cmpMark State.noteMatch at hno
  unfold State.cmpMatch State.cmpStep State.cmpMark State.noteMatch
  simp only [State.beforeCmp_of_noWrite ho, hno, Bool.or_self, Bool.false_eq_true, if_false]
  rfl

/-- A channel that matches alone in its cycle, with nothing written and no rung due. -/
theorem exec_compareMatch_alone {s : State} {k : Fin 512} (hd : s.cmpDue k = true) (hw : s.swTouched = []) (ho : s.cmpOld = [])
    (hl : s.cmpSet.filter (fun j => decide (j < k.val) && s.cmpDue j) = []) :
    exec (.compareMatch k) s = .next ((s.cmpStep k).cmpAct k s).settle := by
  have h : exec (.compareMatch k) s = execCompareMatch k s := rfl
  rw [h, execCompareMatch, hd, hl]
  simp [State.cmpMatch_of_noWrite hw ho]

theorem exec_compareMatch_not_due {s : State} {k : Fin 512} (h : s.cmpDue k = false) : exec (.compareMatch k) s = .next s := by
  have hx : exec (.compareMatch k) s = execCompareMatch k s := rfl
  simp [hx, execCompareMatch, h]

/-- A channel matches once in a cycle. -/
theorem State.cmpDue_of_done {s : State} {k : Nat} (h : s.cmpDone.contains k = true) : s.cmpDue k = false := by
  rw [State.cmpDue, h]
  rfl

/-- Only an armed channel is due. -/
theorem State.cmpDue_armed {s : State} {k : Nat} (ho : s.cmpOld = []) (h : s.cmpDue k = true) : s.get (CMP_CTRL_arm k) = 1 := by
  simp only [State.cmpDue, State.cmpHit, State.beforeCmp_of_noWrite ho, Bool.and_eq_true, State.is, decide_eq_true_eq] at h
  have hlt : s.get (CMP_CTRL_arm k) < 2 := Word.bits_lt ..
  omega

/-! ### The registers of a channel after its match -/

theorem channel_addr_ne (k : Nat) : aCMP_CTRL k ≠ aCMP_VAL_LO k ∧ aCMP_CTRL k ≠ aCMP_VAL_HI k ∧ aCMP_VAL_HI k ≠ aCMP_VAL_LO k ∧
    aCMP_CTRL k ≠ aGLB_CNT_COLLIDE ∧ aCMP_VAL_LO k ≠ aGLB_CNT_COLLIDE ∧ aCMP_VAL_HI k ≠ aGLB_CNT_COLLIDE := by
  unfold aCMP_CTRL aCMP_VAL_LO aCMP_VAL_HI aGLB_CNT_COLLIDE
  omega

theorem State.word_cmpMark (s : State) (k : Nat) :
    (s.cmpMark k).word (aCMP_CTRL k) = (s.word (aCMP_CTRL k)).withBits 2 2 1 :=
  State.word_flag_self (s.noteMatch k) (f := CMP_CTRL_matched k) (channel_addr_ne k).2.2.2.1

theorem State.word_cmpStep_oneShot {s : State} {k : Nat} (h : s.is (CMP_CTRL_periodic k) = false) :
    (s.cmpStep k).word (aCMP_CTRL k) = ((s.word (aCMP_CTRL k)).withBits 2 2 1).withBits 0 0 0 := by
  rw [State.cmpStep, h, ← State.word_cmpMark]
  exact State.word_putWord_self ..

theorem State.word_cmpStep_periodic {s : State} {k : Nat} (h : s.is (CMP_CTRL_periodic k) = true) :
    (s.cmpStep k).word (aCMP_CTRL k) = (s.word (aCMP_CTRL k)).withBits 2 2 1 := by
  obtain ⟨hlo, hhi, -⟩ := channel_addr_ne k
  rw [State.cmpStep, if_pos h, State.word_putWord_ne _ _ _ _ hhi, State.word_putWord_ne _ _ _ _ hlo, State.word_cmpMark]

theorem State.get_matched_cmpStep (s : State) (k : Nat) : (s.cmpStep k).get (CMP_CTRL_matched k) = 1 := by
  have h1 (w : Word) : (w.withBits 2 2 1).bits 2 2 = 1 := Word.bits_withBits_self w 2 2 1 (by decide) (by decide)
  cases h : s.is (CMP_CTRL_periodic k) with
  | true =>
    exact (congrArg (Word.bits · 2 2) (State.word_cmpStep_periodic h)).trans (h1 _)
  | false =>
    exact (congrArg (Word.bits · 2 2) (State.word_cmpStep_oneShot h)).trans
      ((Word.bits_withBits_other _ 0 0 0 2 2 (by decide) (by decide) (by decide)).trans (h1 _))

theorem State.get_arm_cmpStep_oneShot {s : State} {k : Nat} (h : s.is (CMP_CTRL_periodic k) = false) :
    (s.cmpStep k).get (CMP_CTRL_arm k) = 0 :=
  (congrArg (Word.bits · 0 0) (State.word_cmpStep_oneShot h)).trans (Word.bits_withBits_self _ 0 0 0 (by decide) (by decide))

theorem State.get_arm_cmpStep_periodic {s : State} {k : Nat} (h : s.is (CMP_CTRL_periodic k) = true) :
    (s.cmpStep k).get (CMP_CTRL_arm k) = s.get (CMP_CTRL_arm k) :=
  (congrArg (Word.bits · 0 0) (State.word_cmpStep_periodic h)).trans
    (Word.bits_withBits_other _ 2 2 1 0 0 (by decide) (by decide) (by decide))

theorem State.cmpVal_congr {s t : State} {k : Nat} (hlo : t.word (aCMP_VAL_LO k) = s.word (aCMP_VAL_LO k))
    (hhi : t.word (aCMP_VAL_HI k) = s.word (aCMP_VAL_HI k)) : t.cmpVal k = s.cmpVal k := by
  rw [State.cmpVal, State.cmpVal, State.pairVal, State.pairVal, hlo, hhi]

/-- A one-shot channel keeps its value. -/
theorem State.cmpVal_cmpStep_oneShot {s : State} {k : Nat} (h : s.is (CMP_CTRL_periodic k) = false) :
    (s.cmpStep k).cmpVal k = s.cmpVal k := by
  obtain ⟨hlo, hhi, -, -, hlo', hhi'⟩ := channel_addr_ne k
  have hword : ∀ a, a ≠ aCMP_CTRL k → a ≠ aGLB_CNT_COLLIDE → (s.cmpStep k).word a = s.word a := by
    intro a ha hc
    rw [State.cmpStep, h]
    exact (State.word_setF_ne _ (CMP_CTRL_arm k) _ a ha).trans ((s.cmpMark_wordsOnly k).word a (by simp [ha, hc]))
  exact State.cmpVal_congr (hword _ hlo.symm hlo') (hword _ hhi.symm hhi')

/-- A periodic channel takes its next value. -/
theorem State.cmpVal_cmpStep_periodic {s : State} {k : Nat} (h : s.is (CMP_CTRL_periodic k) = true) :
    (s.cmpStep k).cmpVal k = s.cmpNext k := by
  have hv : s.cmpNext k < 2 ^ 48 := Nat.mod_lt _ (Nat.two_pow_pos _)
  have hne : aCMP_VAL_LO k ≠ aCMP_VAL_HI k := (channel_addr_ne k).2.2.1.symm
  have hhi := fun w : Word => Word.toNat_withBits w 15 0 (s.cmpNext k / 2 ^ 32) (by decide) (by decide)
  rw [State.cmpStep, if_pos h, State.cmpVal, State.pairVal, State.word_putWord_self, State.word_putWord_ne _ _ _ _ hne,
    State.word_putWord_self, BitVec.toNat_ofNat, hhi]
  simp only [Nat.reduceAdd, Nat.reduceSub, Nat.reducePow] at hv ⊢
  omega

/-! ### The action of a match -/

/-- An action of 0, or one that the manual does not give, does nothing. -/
theorem State.cmpAct_none {k : Nat} {w : State} (h : w.get (CMP_CTRL_action k) = 0 ∨ 6 ≤ w.get (CMP_CTRL_action k)) (s : State) :
    s.cmpAct k w = s := by
  unfold State.cmpAct
  dsimp only
  split
  case h_6 => rfl
  all_goals omega

/-- Action 2 drives the GPIO high, if it is given to the timebase. -/
theorem State.cmpAct_high {k : Nat} {w : State} (h : w.get (CMP_CTRL_action k) = 2) (s : State) :
    s.cmpAct k w =
      if s.is ⟨aMER_GPIO (w.get (CMP_CTRL_arg k) / 32), w.get (CMP_CTRL_arg k) % 32, w.get (CMP_CTRL_arg k) % 32⟩ then
        { s with
          gpioDriven := s.gpioDriven ||| BitVec.ofNat 64 (2 ^ w.get (CMP_CTRL_arg k))
          gpio := s.gpio ||| BitVec.ofNat 64 (2 ^ w.get (CMP_CTRL_arg k)) }
      else s := by
  simp only [State.cmpAct, h, if_true]

/-! ### A write to CMP_CTRL -/

/-- The word of CMP_CTRL after a full write: a write whose action is above 5 does not arm (R107, R110). -/
def State.cmpCtrlAfter (s : State) (k : Nat) (v : Word) : Word :=
  let w := wordAfter (s.word (aCMP_CTRL k)) v fullMask cmpCtrlFields
  if 6 ≤ w.bits 7 4 then w.withBits 0 0 0 else w

theorem wordAfter_cmpCtrl_bits (old v : Word) {f : FieldSpec} (hf : f ∈ cmpCtrlFields) (hr : f.acc = .rw) :
    (wordAfter old v fullMask cmpCtrlFields).bits f.hi f.lo = v.bits f.hi f.lo :=
  wordAfter_bits_rw v (by decide) (by decide) hf hr old

theorem wordAfter_cmpCtrl_action (old v : Word) : (wordAfter old v fullMask cmpCtrlFields).bits 7 4 = v.bits 7 4 :=
  wordAfter_cmpCtrl_bits old v (f := ⟨7, 4, .rw, 0⟩) (by decide) rfl

theorem State.cmpCtrlAfter_arms {s : State} {k : Nat} {v : Word} (h : v.bits 7 4 ≤ 5) :
    (s.cmpCtrlAfter k v).bits 0 0 = v.bits 0 0 ∧ (s.cmpCtrlAfter k v).bits 7 4 = v.bits 7 4 := by
  have ha := wordAfter_cmpCtrl_action (s.word (aCMP_CTRL k)) v
  rw [State.cmpCtrlAfter, if_neg (by omega)]
  exact ⟨wordAfter_cmpCtrl_bits _ v (f := ⟨0, 0, .rw, 0⟩) (by decide) rfl, ha⟩

theorem State.cmpCtrlAfter_refuses {s : State} {k : Nat} {v : Word} (h : 6 ≤ v.bits 7 4) : (s.cmpCtrlAfter k v).bits 0 0 = 0 := by
  have ha := wordAfter_cmpCtrl_action (s.word (aCMP_CTRL k)) v
  rw [State.cmpCtrlAfter, if_pos (by omega)]
  exact Word.bits_withBits_self _ 0 0 0 (by decide) (by decide)

theorem State.guardWord_cmpCtrl (s : State) (k : Fin 512) (w : Word) :
    s.guardWord (aCMP_CTRL k) w = if 6 ≤ w.bits 7 4 then w.withBits 0 0 0 else w := by
  have hk := k.isLt
  unfold State.guardWord
  dsimp only
  rw [if_neg (by unfold aCMP_CTRL; omega), if_neg (by unfold aCMP_CTRL; omega), if_neg (by unfold aCMP_CTRL; omega),
    if_pos (by unfold aCMP_CTRL; omega)]

theorem State.writeActs_cmpCtrl (s : State) (k : Fin 512) (old v w : Word) :
    s.writeActs (aCMP_CTRL k) old v w = if (v &&& w).bit 0 && s.cmpHit k then s.flag (CMP_CTRL_late k) else s := by
  have hk := k.isLt
  have hi : (aCMP_CTRL k - 0x5000) / 16 = k := by unfold aCMP_CTRL; omega
  unfold State.writeActs
  dsimp only
  rw [if_neg (by unfold aCMP_CTRL; omega), if_neg (by unfold aCMP_CTRL aFLT_CTRL; omega), if_neg (by unfold aCMP_CTRL; omega),
    if_pos (by unfold aCMP_CTRL; omega), hi]

/-- The state in which a full write has stored CMP_CTRL; `o` is what the cycle keeps of the channels, `l` the fields written. -/
def State.ctrlWritten (s : State) (k : Nat) (v : Word) (o : Tbl (Word × Word × Word)) (l : List (Nat × Nat × Nat)) : State :=
  ({ s with cmpOld := o }.putWord (aCMP_CTRL k) (s.cmpCtrlAfter k v)).noteWrites l

theorem State.storeWord_cmpCtrl {s : State} {k : Fin 512} (hu : Untouched s (aCMP_CTRL k)) (v : Word) :
    ∃ o l, (s.keepCmp (aCMP_CTRL k)).storeWord (aCMP_CTRL k) v fullMask = s.ctrlWritten k v o l := by
  obtain ⟨o, ho⟩ := s.keepCmp_eq (aCMP_CTRL k)
  have h := State.storeWord_of_untouched (s := { s with cmpOld := o }) (regAt_cmpCtrl k) hu v fullMask
  rw [State.guardWord_cmpCtrl] at h
  exact ⟨o, _, by rw [ho]; exact h⟩

/-- A full write to CMP_CTRL: the word is stored, and late is set if the write arms a channel that already matches. -/
theorem exec_cmpArm_stores {s : State} {k : Fin 512} (hr : Runs s) (hu : Untouched s (aCMP_CTRL k)) (v : Word) :
    ∃ o l, exec (.cmpArm k v) s = .next (
      if v.bit 0 && (s.ctrlWritten k v o l).cmpHit k then (s.ctrlWritten k v o l).flag (CMP_CTRL_late k) else s.ctrlWritten k v o l) := by
  have hk := k.isLt
  obtain ⟨o, l, h⟩ := State.storeWord_cmpCtrl hu v
  obtain ⟨h0, h4⟩ : rwPair (aCMP_CTRL k) = false ∧ rwPair (aCMP_CTRL k - 4) = false := by
    simp only [← Bool.not_eq_true, rwPair_iff, aCMP_CTRL]
    omega
  have hx : exec (.cmpArm k v) s = .next (s.writeWord (aCMP_CTRL k) v fullMask) := rfl
  refine ⟨o, l, ?_⟩
  rw [hx, State.writeWord_unpaired hr (by unfold aCMP_CTRL; omega) h0 h4, State.applyWrite, h, State.writeActs_cmpCtrl, and_fullMask]

/-- A channel that CMP_CTRL arms matches if its meridian runs past its value, as before the write. -/
theorem State.cmpHit_ctrlWritten {s : State} {k : Fin 512} {v : Word} (o : Tbl (Word × Word × Word)) (l : List (Nat × Nat × Nat))
    (ha : (s.cmpCtrlAfter k v).bits 0 0 = 1) (hl : s.merLive (s.cmpMer k) = true)
    (hm : merMatched (s.mer (s.cmpMer k)).visible (s.cmpVal k) = true) : (s.ctrlWritten k v o l).cmpHit k = true := by
  obtain ⟨hlo, hhi, -⟩ := channel_addr_ne k
  have hmer : s.cmpMer k < 2 ^ 6 := Word.bits_lt ..
  have hword : ∀ a, a ≠ aCMP_CTRL k → (s.ctrlWritten k v o l).word a = s.word a := fun a h =>
    State.word_putWord_ne { s with cmpOld := o } (aCMP_CTRL k) a (s.cmpCtrlAfter k v) h
  have hself : (s.ctrlWritten k v o l).word (aCMP_CTRL k) = s.cmpCtrlAfter k v := State.word_putWord_self ..
  have harm : (s.ctrlWritten k v o l).get (CMP_CTRL_arm k) = 1 := (congrArg (Word.bits · 0 0) hself).trans ha
  have hcm : (s.ctrlWritten k v o l).cmpMer k = s.cmpMer k := congrArg (Word.bits · 21 16) (hword _ hhi.symm)
  have hcv : (s.ctrlWritten k v o l).cmpVal k = s.cmpVal k := State.cmpVal_congr (hword _ hlo.symm) (hword _ hhi.symm)
  have hlive : (s.ctrlWritten k v o l).merLive (s.cmpMer k) = s.merLive (s.cmpMer k) :=
    State.merLive_congr (hword _ (by unfold aMER_CFG aCMP_CTRL; omega)) rfl rfl rfl
  have hmr : (s.ctrlWritten k v o l).mer (s.cmpMer k) = s.mer (s.cmpMer k) := rfl
  simp only [State.cmpHit, State.is, harm, hcm, hcv, hlive, hmr, hl, hm]
  rfl

/-! ### Fan outputs -/

theorem exec_fanPwmReload_early {s : State} {n : Fin 16} (h : s.ct < (s.fan n).startedAt + 64 * Nat.max 1 (s.fan n).period) :
    exec (.fanPwmReload n) s = .next s :=
  if_pos h

/-- The state with the period and the duty of a fan output taken from its register (R127). -/
def State.reloadFan (s : State) (n : Nat) : State :=
  s.updFan n fun y => { y with period := s.get (FAN_PWM_period n), duty := s.get (FAN_PWM_duty n), startedAt := s.ct }

theorem State.fan_reloadFan_self (s : State) (n : Nat) :
    (s.reloadFan n).fan n = { period := s.get (FAN_PWM_period n), duty := s.get (FAN_PWM_duty n), startedAt := s.ct } :=
  State.fan_updFan_self ..

theorem State.fan_reloadFan_ne (s : State) {n j : Nat} (h : j ≠ n) : (s.reloadFan n).fan j = s.fan j :=
  State.fan_updFan_ne s n j _ h

/-- At the end of its period a fan output reloads; with nothing written in the cycle, the rest is the log of the update. -/
theorem exec_fanPwmReload_due {s : State} {n : Fin 16} (h : (s.fan n).startedAt + 64 * Nat.max 1 (s.fan n).period ≤ s.ct)
    (hw : s.swTouched = []) : ∃ l, exec (.fanPwmReload n) s = .next { s.reloadFan n with hwTouched := l } := by
  have hx : exec (.fanPwmReload n) s = .next (((s.reloadFan n).touch (FAN_PWM_period n) (.max (aFAN_PWM n) 15 0 0)).touch
      (FAN_PWM_duty n) (.max (aFAN_PWM n) 31 16 0)) := if_neg (Nat.not_lt.2 h)
  rw [State.touch_of_noWrite (s := s.reloadFan n) hw, State.touch_of_noWrite (by exact hw)] at hx
  exact ⟨_, hx⟩

end Sys2Proof.Machine
end

section
/-! PROOF. The statement about compare channels and fan outputs. -/
namespace Sys2Proof.Machine

open Sys2Proof.Safety

section
variable {s : State} {k : Fin 512}

/-- A match that acts on nothing but the GPIOs leaves no rung due, so the step and the action are all of it. -/
theorem exec_compareMatch_settled (hd : s.cmpDue k = true) (hw : s.swTouched = []) (ho : s.cmpOld = []) (hn : NoRung s)
    (hl : s.cmpSet.filter (fun j => decide (j < k.val) && s.cmpDue j) = []) {t : State}
    (ht : (s.cmpStep k).cmpAct k s = t) (hf : t.faults = (s.cmpStep k).faults) (hc : t.ct = (s.cmpStep k).ct) :
    exec (.compareMatch k) s = .next t := by
  have hstep : NoRung (s.cmpStep k) := (s.cmpStep_wordsOnly k).noRung hn
  rw [exec_compareMatch_alone hd hw ho hl, ht, State.settle_of_noRung (State.noRung_congr hf hc hstep)]

/-- A match without an action is its step. -/
theorem exec_compareMatch_no_action (hd : s.cmpDue k = true) (hw : s.swTouched = []) (ho : s.cmpOld = []) (hn : NoRung s)
    (hl : s.cmpSet.filter (fun j => decide (j < k.val) && s.cmpDue j) = [])
    (ha : s.get (CMP_CTRL_action k) = 0 ∨ 6 ≤ s.get (CMP_CTRL_action k)) : exec (.compareMatch k) s = .next (s.cmpStep k) :=
  exec_compareMatch_settled hd hw ho hn hl (State.cmpAct_none ha _) rfl rfl

/-- Whether a GPIO is given to the timebase is not changed by a match. -/
theorem State.is_merGpio_cmpStep (s : State) (k : Fin 512) {i : Nat} (b : Nat) :
    (s.cmpStep k).is ⟨aMER_GPIO i, b, b⟩ = s.is ⟨aMER_GPIO i, b, b⟩ := by
  have hk := k.isLt
  have h := (s.cmpStep_wordsOnly k).get (f := ⟨aMER_GPIO i, b, b⟩) (by
    simp only [matchWord, aMER_GPIO, aCMP_CTRL, aCMP_VAL_LO, aCMP_VAL_HI, aGLB_CNT_COLLIDE]
    omega)
  rw [State.is, h]
  rfl

/-- A match with action 2 drives its GPIO high if it is given to the timebase. -/
theorem exec_compareMatch_high (hd : s.cmpDue k = true) (hw : s.swTouched = []) (ho : s.cmpOld = []) (hn : NoRung s)
    (hl : s.cmpSet.filter (fun j => decide (j < k.val) && s.cmpDue j) = []) (ha : s.get (CMP_CTRL_action k) = 2) :
    ∃ t, exec (.compareMatch k) s = .next t ∧ t.get (CMP_CTRL_matched k) = 1 ∧
      t.gpio = (if s.is ⟨aMER_GPIO (s.get (CMP_CTRL_arg k) / 32), s.get (CMP_CTRL_arg k) % 32, s.get (CMP_CTRL_arg k) % 32⟩
        then s.gpio ||| BitVec.ofNat 64 (2 ^ s.get (CMP_CTRL_arg k)) else s.gpio) ∧
      t.mem = s.mem := by
  have hg : (s.cmpStep k).gpio = s.gpio := (s.cmpStep_wordsOnly k).gpio
  have hm : (s.cmpStep k).mem = s.mem := (s.cmpStep_wordsOnly k).mem
  have hact := State.cmpAct_high ha (s.cmpStep k)
  rw [State.is_merGpio_cmpStep] at hact
  by_cases hgiven : s.is ⟨aMER_GPIO (s.get (CMP_CTRL_arg k) / 32), s.get (CMP_CTRL_arg k) % 32, s.get (CMP_CTRL_arg k) % 32⟩ = true
  · rw [if_pos hgiven] at hact ⊢
    exact ⟨_, exec_compareMatch_settled hd hw ho hn hl hact rfl rfl, s.get_matched_cmpStep k,
      congrArg (· ||| BitVec.ofNat 64 (2 ^ s.get (CMP_CTRL_arg k))) hg, hm⟩
  · rw [if_neg hgiven] at hact ⊢
    exact ⟨_, exec_compareMatch_settled hd hw ho hn hl hact rfl rfl, s.get_matched_cmpStep k, hg, hm⟩

/-- A write that arms a channel whose value its meridian has passed sets late. -/
theorem exec_cmpArm_late (hr : Runs s) (hu : Untouched s (aCMP_CTRL k)) {v : Word} (ha : v.bit 0 = true) (hv : v.bits 7 4 ≤ 5)
    (hl : s.merLive (s.cmpMer k) = true) (hm : merMatched (s.mer (s.cmpMer k)).visible (s.cmpVal k) = true) :
    ∃ t, exec (.cmpArm k v) s = .next t ∧ t.word (aCMP_CTRL k) = (s.cmpCtrlAfter k v).withBits 3 3 1 ∧ t.mem = s.mem ∧
      t.gpio = s.gpio := by
  obtain ⟨o, l, h⟩ := exec_cmpArm_stores hr hu v
  have harm : (s.cmpCtrlAfter k v).bits 0 0 = 1 := by rw [(State.cmpCtrlAfter_arms hv).1, Word.bits_one, ha]; rfl
  rw [State.cmpHit_ctrlWritten o l harm hl hm, ha] at h
  have hflag := State.flag_wordsOnly (s.ctrlWritten k v o l) (CMP_CTRL_late k)
  have hself : (s.ctrlWritten k v o l).word (aCMP_CTRL k) = s.cmpCtrlAfter k v := State.word_putWord_self ..
  have hlate := State.word_flag_self (s.ctrlWritten k v o l) (f := CMP_CTRL_late k) (channel_addr_ne k).2.2.2.1
  exact ⟨_, h, hlate.trans (congrArg (Word.withBits · 3 3 1) hself), hflag.mem, hflag.gpio⟩

/-- A write whose action is above 5 does not arm. -/
theorem exec_cmpArm_refused (hr : Runs s) (hu : Untouched s (aCMP_CTRL k)) {v : Word} (hv : 6 ≤ v.bits 7 4) :
    ∃ t, exec (.cmpArm k v) s = .next t ∧ t.get (CMP_CTRL_arm k) = 0 ∧ t.mem = s.mem ∧ t.gpio = s.gpio := by
  obtain ⟨o, l, h⟩ := exec_cmpArm_stores hr hu v
  have hself : (s.ctrlWritten k v o l).word (aCMP_CTRL k) = s.cmpCtrlAfter k v := State.word_putWord_self ..
  have harm : (s.ctrlWritten k v o l).get (CMP_CTRL_arm k) = 0 :=
    (congrArg (Word.bits · 0 0) hself).trans (State.cmpCtrlAfter_refuses hv)
  have hhit : (s.ctrlWritten k v o l).cmpHit k = false := by simp [State.cmpHit, State.is, harm]
  rw [hhit, Bool.and_false] at h
  exact ⟨_, h, harm, rfl, rfl⟩

end

/-- Settles O14: a match is `State.cmpStep` and its action, a write of CMP_CTRL is `exec_cmpArm_late` or
`exec_cmpArm_refused`, and a reload is `State.reloadFan`. -/
theorem compareChannelsMatch : Obligations.CompareChannelsMatch := by
  refine ⟨fun s k hd hw ho hn hl hp ha => ?_, fun s k hd hw ho hn hl hp ha => ?_, fun s k hd hw ho hn hl ha _ => ?_,
    fun s k h => ?_, fun s k v hr hu ha hv hl hm => ?_, fun s k v hr hu hv => ?_, fun s n h hw => ?_, fun s n h => ?_⟩
  · exact ⟨_, exec_compareMatch_no_action hd hw ho hn hl ha, s.get_matched_cmpStep k, State.get_arm_cmpStep_oneShot hp,
      State.cmpVal_cmpStep_oneShot hp, (s.cmpStep_wordsOnly k).gpio, (s.cmpStep_wordsOnly k).mem⟩
  · exact ⟨_, exec_compareMatch_no_action hd hw ho hn hl ha, s.get_matched_cmpStep k,
      (State.get_arm_cmpStep_periodic hp).trans (State.cmpDue_armed ho hd), State.cmpVal_cmpStep_periodic hp,
      (s.cmpStep_wordsOnly k).mem⟩
  · exact exec_compareMatch_high hd hw ho hn hl ha
  · exact ⟨s, exec_compareMatch_not_due (State.cmpDue_of_done h), rfl⟩
  · obtain ⟨t, ht, hword, hmem, hgpio⟩ := exec_cmpArm_late hr hu ha hv hl hm
    obtain ⟨harm, hact⟩ := State.cmpCtrlAfter_arms (s := s) (k := k) hv
    have hother := fun hi lo => Word.bits_withBits_other (s.cmpCtrlAfter k v) 3 3 1 hi lo (by decide) (by decide)
    refine ⟨t, ht, ?_, ?_, ?_, hmem, hgpio⟩
    · refine (congrArg (Word.bits · 0 0) hword).trans ((hother 0 0 (by decide)).trans (harm.trans ?_))
      rw [Word.bits_one, ha]
      rfl
    · exact (congrArg (Word.bits · 3 3) hword).trans (Word.bits_withBits_self _ 3 3 1 (by decide) (by decide))
    · exact (congrArg (Word.bits · 7 4) hword).trans ((hother 7 4 (by decide)).trans hact)
  · exact exec_cmpArm_refused hr hu hv
  · obtain ⟨l, hl⟩ := exec_fanPwmReload_due h hw
    have hself := s.fan_reloadFan_self n
    exact ⟨_, hl, congrArg Fan.period hself, congrArg Fan.duty hself, congrArg Fan.startedAt hself,
      fun _ => State.fan_reloadFan_ne s, rfl, rfl⟩
  · exact ⟨s, exec_fanPwmReload_early h, rfl⟩

end Sys2Proof.Machine
end

section
/-! PROOF. A write of a plain register, and the setting of a W1S field. -/
namespace Sys2Proof.Machine

open Sys2Proof.Safety

variable {s : State} {a : Nat}

/-- A plain register of BAR2 stores what a write makes of its fields. -/
theorem State.guardWord_plain (hp : PlainReg a) (ha : a < 0x1000000) (w : Word) : s.guardWord a w = w := by
  obtain ⟨-, -, -, hflt, hmer, hcmp, -, -⟩ := hp
  unfold State.guardWord
  dsimp only
  rw [if_neg (by omega), if_neg (by omega), if_neg (by omega), if_neg (by omega)]

/-- A plain register of BAR2 sets nothing going. -/
theorem State.writeActs_plain (hp : PlainReg a) (ha : a < 0x1000000) (old v m : Word) : s.writeActs a old v m = s := by
  obtain ⟨hctrl, -, -, -, hmer, hcmp, hadc, heng⟩ := hp
  unfold State.writeActs
  dsimp only
  rw [if_neg (by omega), if_neg hctrl, if_neg (by omega), if_neg (by omega), if_neg (by omega), if_neg (by omega),
    if_neg (by omega), if_neg (by omega)]

/-- A write of a plain register that no hardware update of its cycle meets stores its word, and is noted for the cycle. -/
theorem State.writeWord_plain {r : RegSpec} (hr : Runs s) (hp : PlainReg a) (ha : a < 0x20000) (hreg : regAt a = some r)
    (hu : Untouched s a) (v m : Word) :
    ∃ l, s.writeWord a v m = (s.putWord a (wordAfter (s.word a) v m r.fields)).noteWrites l := by
  have hbar : a < 0x1000000 := by omega
  have hstore := State.storeWord_of_untouched hreg hu v m
  rw [State.guardWord_plain hp hbar] at hstore
  have ⟨_, hpair, hpair4, _, _, hcmp, _, _⟩ := hp
  have hwrite : s.writeWord a v m = s.storeWord a v m := by
    rw [State.writeWord_unpaired hr ha hpair hpair4, State.applyWrite, State.keepCmp_of_not_channel (by omega),
      State.writeActs_plain hp hbar]
  exact ⟨_, hwrite.trans hstore⟩

theorem fieldAfter_bits_w1s (w v m : Word) {f : FieldSpec} (hf : f.Fits) (hw : f.acc = .w1s) :
    (fieldAfter w v m f).bits f.hi f.lo = (w ||| (v &&& m)).bits f.hi f.lo := by
  simp only [fieldAfter, hw, Word.bits_withBits_self _ _ _ _ hf.1 hf.2]
  simp [Word.bits]

theorem wordAfter_cons (w v m : Word) (f : FieldSpec) (fs : List FieldSpec) :
    wordAfter w v m (f :: fs) = wordAfter (fieldAfter w v m f) v m fs := rfl

end Sys2Proof.Machine
end

section
/-! PROOF. The debug lock and the debug halt (R104, R105, R678). -/
namespace Sys2Proof.Machine

open Sys2Proof.Safety

/-! ### GLB_CTRL -/

/-- The fields of GLB_CTRL: debug_lock, ur_unmapped and coll_cnt_en. -/
def glbCtrlFields : List FieldSpec := [⟨0, 0, .w1s, 0⟩, ⟨1, 1, .rw, 0⟩, ⟨2, 2, .rw, 1⟩]

theorem regAt_glbCtrl : regAt aGLB_CTRL = some ⟨0x20, 0x1000000, 1, 1, 1, glbCtrlFields⟩ := by decide

theorem plainReg_glbCtrl : PlainReg aGLB_CTRL := by decide

/-- A write of 1 to debug_lock alone sets it, and the fields after it in the word leave it set. -/
theorem wordAfter_debugLock (w : Word) : (wordAfter w 1 1 glbCtrlFields).bits 0 0 = 1 := by
  have hset : (fieldAfter w 1 1 ⟨0, 0, .w1s, 0⟩).bits 0 0 = (w ||| (1 &&& 1)).bits 0 0 :=
    fieldAfter_bits_w1s w 1 1 (by decide) rfl
  have hone : (w ||| (1 &&& 1)).bit 0 = true := by simp [Word.bit]
  rw [glbCtrlFields, wordAfter_cons, wordAfter_bits_apart 1 1 (by decide), hset, Word.bits_one, hone]
  rfl

/-- DEBUG_LOCK stores GLB_CTRL and nothing else. -/
theorem exec_debugLock_stores {s : State} (hr : Runs s) (hu : Untouched s aGLB_CTRL) :
    ∃ l, exec .debugLock s = .next ((s.putWord aGLB_CTRL (wordAfter (s.word aGLB_CTRL) 1 1 glbCtrlFields)).noteWrites l) := by
  obtain ⟨l, hl⟩ := State.writeWord_plain hr plainReg_glbCtrl (by decide) regAt_glbCtrl hu 1 1
  have hx : exec .debugLock s = .next (s.writeWord aGLB_CTRL 1 1) := rfl
  exact ⟨l, by rw [hx, hl]⟩

/-! ### The halt -/

theorem State.awake_of_runs {s : State} (h : Runs s) : s.awake = true := by
  obtain ⟨hheld, hunit⟩ := h
  simp [State.awake, hheld, hunit]

theorem exec_debugHalt_unlocked {s : State} (hr : Runs s) (hl : s.debugLock = false) :
    exec .debugHalt s = .next (({ s with debugHalt := true } : State).setB GLB_STATUS_halt true) := by
  have hx : exec .debugHalt s = execDebugHalt s := rfl
  simp [hx, execDebugHalt, State.awake_of_runs hr, hl]

/-- A lock in force forbids a halt; a unit in reset or dormant takes none. -/
theorem exec_debugHalt_locked {s : State} (hl : s.debugLock = true) : exec .debugHalt s = .next s := by
  have hx : exec .debugHalt s = execDebugHalt s := rfl
  simp [hx, execDebugHalt, hl]

/-! ### The end of a halt -/

/-- The state with no halt asserted or shown. -/
def State.unhalted (s : State) : State := ({ s with debugHalt := false } : State).setB GLB_STATUS_halt false

/-- A meridian that the halt held runs on (R105). -/
def State.merResume (s : State) (m : Nat) : State := (s.updMer m fun x => { x with liveAt := some s.ct }).lateOn m

/-- The end of a halt: the meridians that it held run on, one after another. -/
theorem exec_debugHaltEnd {s : State} (hr : Runs s) :
    exec .debugHaltEnd s = .next (((List.range 64).filter s.merHeld).foldl State.merResume s.unhalted) := by
  have hx : exec .debugHaltEnd s = execDebugHaltEnd s := rfl
  rw [hx, execDebugHaltEnd, State.awake_of_runs hr]
  rfl

/-- `t` has the halt, the memory and every meridian value of `s`. -/
structure SameValues (s t : State) : Prop where
  halt : t.debugHalt = s.debugHalt
  mem : t.mem = s.mem
  value : ∀ m, (t.mer m).value = (s.mer m).value

theorem SameValues.trans {r s t : State} (h : SameValues r s) (k : SameValues s t) : SameValues r t :=
  ⟨k.halt.trans h.halt, k.mem.trans h.mem, fun m => (k.value m).trans (h.value m)⟩

/-- A change of register words alone. -/
theorem WordsOnly.sameValues {P : Nat → Prop} {s t : State} (h : WordsOnly P s t) : SameValues s t where
  halt := by rw [h.same]
  mem := h.mem
  value m := by rw [State.mer_congr h.mers]

/-- A meridian's value is kept by an update that keeps it. -/
theorem State.updMer_sameValues (s : State) (m : Nat) {f : Meridian → Meridian} (hf : (f (s.mer m)).value = (s.mer m).value) :
    SameValues s (s.updMer m f) where
  halt := rfl
  mem := rfl
  value k := by
    by_cases hk : k = m
    · rw [hk, State.mer_updMer_self, hf]
    · rw [State.mer_updMer_ne _ _ _ _ hk]

/-- No turn is made up for (R104). -/
theorem State.merResume_sameValues (s : State) (m : Nat) : SameValues s (s.merResume m) :=
  (s.updMer_sameValues m rfl).trans (State.lateOn_wordsOnly _ m).sameValues

theorem State.foldl_merResume_sameValues (l : List Nat) (s : State) : SameValues s (l.foldl State.merResume s) := by
  induction l generalizing s with
  | nil => exact ⟨rfl, rfl, fun _ => rfl⟩
  | cons m l ih =>
    rw [List.foldl_cons]
    exact (s.merResume_sameValues m).trans (ih (s.merResume m))

/-- Settles O10: the lock is a write of a plain register, a halt asks for the lock in force alone, and its end is a run of
`State.merResume`. -/
theorem debugLockAndHalt : Obligations.DebugLockAndHalt := by
  refine ⟨fun s hr hu => ?_, fun s hr hl => ?_, fun s hl => ⟨s, exec_debugHalt_locked hl, rfl⟩, fun s hr => ?_⟩
  · obtain ⟨l, h⟩ := exec_debugLock_stores hr hu
    have hword : ((s.putWord aGLB_CTRL (wordAfter (s.word aGLB_CTRL) 1 1 glbCtrlFields)).noteWrites l).word aGLB_CTRL = _ :=
      State.word_putWord_self ..
    exact ⟨_, h, (congrArg (Word.bits · 0 0) hword).trans (wordAfter_debugLock _), rfl, rfl, rfl, rfl⟩
  · exact ⟨_, exec_debugHalt_unlocked hr hl, rfl, State.get_setF_self _ GLB_STATUS_halt 1 (by decide) (by decide), rfl, rfl⟩
  · have h := State.foldl_merResume_sameValues ((List.range 64).filter s.merHeld) s.unhalted
    exact ⟨_, exec_debugHaltEnd hr, h.halt, h.mem, h.value⟩

end Sys2Proof.Machine
end
